-- ==== Sys2Proof/Word.lean ====
section
/-! DEFINITION. The register word and byte of the LNB-5120 and their plainest arithmetic. -/

namespace Sys2Proof

/-- A host register word: 16 bits, word-addressed (R8). -/
abbrev Word := BitVec 16

/-- One byte. -/
abbrev Byte := BitVec 8

end Sys2Proof
end

