-- ==== Sys2Proof/Syntax.lean ====
section
/-! DEFINITION. The commands of the block: one constructor of `Instr` per row of spec/opcode_table.json, and
the small plain types its operands use. -/

namespace Sys2Proof

/-- Who issues a host command: a host mailbox (R239), the monitor's `CMD` (R397), or the module on its own
behalf (R192, R312). -/
inductive Via where
  | host (n : Fin 4)
  | monitor
  | own
deriving DecidableEq, Repr

/-- The two host buses and the monitor, each with its own snapshot latches (R214, R391). -/
inductive BusId where
  | spi
  | twoWire
  | monitor
deriving DecidableEq, Repr

/-- The three housekeeping paths (R350), with the voltage they are judged by, mV: AUX, a source port, or the highest tap of
a group. -/
inductive HkPath where
  | aux (mv : Int)
  | source (x : Fin 4) (mv : Int)
  | tap (group : Fin 8) (mv : Int)
deriving DecidableEq, Repr

/-- One internal message of eight words as a core sends it (R249): its number is the sender's next, its tag that of the host
command it serves. -/
structure IntMsg where
  /-- Sending core. -/
  sender : Fin 8
  /-- Host mailbox whose command the message serves, if any. -/
  host : Option (Fin 4)
  /-- Message words. -/
  words : List Word
deriving DecidableEq, Repr

/-- What one tap shows in a measurement sample. -/
structure TapSample where
  /-- Kelvin voltage, mV. -/
  vKel : Int
  /-- Power-pair voltage, mV. -/
  vPair : Int
  /-- Stake current, 10 mA. -/
  iStk : Int
  /-- NTC A, 0.1 °C. -/
  ntcA : Int
  /-- NTC B, 0.1 °C. -/
  ntcB : Int
  /-- Output-node voltage, mV (R62, R101). -/
  vNode : Int := vPair
  /-- Inductor current of each rod, 10 mA, position 0 first (R67); a rod not listed reads as last sensed. -/
  rods : List Int := []
deriving DecidableEq, Repr

/-- What the pre-start test measures of one rod (R82). -/
structure PreRod where
  /-- Highest switch-node voltage of the passive check, mV. -/
  node : Int := 0
  /-- Highest inductor current of the passive check, 10 mA. -/
  iL : Int := 0
  /-- Primary peak of the active high-side check, 10 mA. -/
  high : Int := 0
  /-- Primary peak of the low-side check, 10 mA. -/
  low : Int := 0
  /-- Fall of the intermediate rail in the low-side check, mV. -/
  drop : Int := 0
deriving DecidableEq, Repr

/-- The measured quantities an arbiter period reads (R57, R160, R161 to R164, R419): ports as voltage in mV and
current in 10 mA, taps, string current (average and 100 ms peak) and voltage, inlet, hub. -/
structure Sample where
  /-- Port voltage (mV) and input current (10 mA), A to D. -/
  ports : List (Int × Int)
  /-- Taps 0 to 31. -/
  taps : List TapSample
  /-- String current averaged over the period, 10 mA. -/
  iStr : Int
  /-- Peak string current of the last 100 ms, 10 mA. -/
  iStrPeak : Int
  /-- String voltage, mV. -/
  vStr : Int
  /-- Coolant inlet temperature, 0.1 °C. -/
  inlet : Int
  /-- Hub voltage, mV. -/
  hubV : Nat
  /-- AUX voltage, mV (R40). -/
  auxV : Int := 0
  /-- Averaged TRACK voltage, mV (R114). -/
  track : Int := 0
  /-- Tie current, 10 mA, positive out of the cabinet (R296, R309). -/
  tie : Int := 0
  /-- Pilot voltages of ports A to D, 10 mV (R309); a port not listed reads as last sensed. -/
  pilots : List Int := []
  /-- Levels of the straps ADDR[2:0] (R224); an open strap reads 1. -/
  strap : BitVec 3 := 7
  /-- KEY# is low, debounced (R362). -/
  keyLow : Bool := false
  /-- The contact of STR_FB is closed, debounced (R411). -/
  strFb : Bool := false
  /-- Another device holds ALERT# low (R232). -/
  alertLow : Bool := false
deriving DecidableEq, Repr

/-- One record of the recipe's output page (R378). -/
structure RcpOut where
  /-- Requested block current, 10 mA; 0xFFFF no request. -/
  cur : Word
  /-- Bit 0 valid. -/
  flags : Word
  /-- Voltage ceiling, mV; 0 none. -/
  ceil : BitVec 32
deriving DecidableEq, Repr

/-- What the leader reads of one reachable module in a division round (R321). -/
structure PeerCap where
  /-- ADDR of the module. -/
  addr : BitVec 3
  /-- `ARB_GRANT`, W. -/
  grant : Nat
  /-- `ARB_STATUS`. -/
  status : Word
  /-- Its present site cap, W. -/
  siteCap : Nat
  /-- Its MBX3 is full. -/
  full : Bool
deriving DecidableEq, Repr

/-- What one line to the monitor carries, with the characters of the line as they arrive (R390). -/
structure Typed (α : Type) where
  /-- What the line says. -/
  val : α
  /-- The line as typed. -/
  line : List Byte := []
  /-- The line of the answer in which a key is pressed (R395). -/
  stop : Option Nat := none
deriving DecidableEq, Repr

/-- A link frame between its start and its end (R284 to R286). -/
structure Frame where
  /-- Header. -/
  header : Word
  /-- Objects. -/
  objs : List (BitVec 32) := []
  /-- CRC. -/
  crc : BitVec 32
deriving DecidableEq, Repr

/-- How a two-wire write transfer ends (R217, R227). -/
structure TwEnd where
  /-- It ends after complete words (and a PEC byte where one came); false: after one byte more. -/
  whole : Bool := true
  /-- The mailbox it rings was filled by the other bus after the first byte of the word for `MBXn_CMD` (R217). -/
  late : Bool := false
deriving DecidableEq, Repr

/-- What the target of a transfer of the module as controller answers (R235): the words read, with PEC their PEC bytes. -/
structure CtlAnswer where
  /-- The words a read gave. -/
  words : List Word := []
  /-- The PEC byte after each word of a read, where PEC is on. -/
  pecs : List Byte := []
deriving DecidableEq, Repr

/-- What the other modules do at an alert response read (R231, R232). -/
structure AraOthers where
  /-- Another module pulls ALERT#. -/
  pulls : Bool := false
  /-- Another module answered. -/
  answered : Bool := false
deriving DecidableEq, Repr

/-- One step of a recipe that its sandbox judges (R374, R388): an instruction fetched, `2 ^ k` bytes loaded or stored, a CSR
read or written. -/
inductive RcpOp where
  | fetch (a : BitVec 32)
  | load (a : BitVec 32) (k : Fin 3)
  | store (a : BitVec 32) (k : Fin 3) (v : BitVec 32)
  | csrRead (a : Nat)
  | csrWrite (a : Nat)
deriving DecidableEq, Repr

/-- What a recipe has done on its way to a yield (R374, R382, R388). -/
structure RcpRest where
  /-- Its accesses, first to last. -/
  ops : List RcpOp := []
deriving DecidableEq, Repr

/-- A tagged instruction (R385). -/
structure TagSeen where
  /-- Program counter. -/
  pc : BitVec 32
  /-- Instruction word. -/
  ins : BitVec 32
  /-- Cycle count at fetch. -/
  cycle : Nat
  /-- Cycles from fetch to decode, decode to execute, execute to memory, memory to retire. -/
  stages : List Nat
deriving DecidableEq, Repr

/-- What a core spent up to a dump boundary (R386, R388). -/
structure Spent where
  /-- The cycle counter. -/
  cycles : Nat
  /-- Instructions retired since the last dump. -/
  retired : Nat
deriving DecidableEq, Repr

/-- What the braking comparators see (R84). -/
structure BrakeSeen where
  /-- The braking event ended 1 ms ago. -/
  ended : Bool
  /-- Demanded stake current, 10 mA. -/
  ist : Int
  /-- Kelvin voltage, mV. -/
  v : Int
deriving DecidableEq, Repr

/-- The chain reference as SYNC_IN shows it (R91). -/
structure SyncSignal where
  /-- Frequency, 10 Hz. -/
  f : Nat
  /-- Phase error, 0.1°. -/
  ph : Int := 0
deriving DecidableEq, Repr

/-- What the pre-start test of a stake measures (R82). -/
structure PreMeasured where
  /-- Output-node voltage at the start of the test, mV. -/
  v0 : Int
  /-- Rods 0 to 15. -/
  rods : List PreRod
deriving DecidableEq, Repr

/-- A rise of TICK (R201, R205, R403). -/
structure TickEdge where
  /-- Low time before it, ns. -/
  lowNs : Nat
  /-- The line has stood high for 500 ns. -/
  stood : Bool
deriving DecidableEq, Repr

/-- What a removal is judged by (R138). -/
structure RemovalSeen where
  /-- The fallback for a slot without NTCs. -/
  fallback : Bool
  /-- NTC A, 0.1 °C. -/
  a : Int
  /-- NTC B, 0.1 °C. -/
  b : Int
  /-- Voltage, mV. -/
  v : Int
  /-- Block current, 10 mA. -/
  ib : Int
deriving DecidableEq, Repr

/-- The tap of a block inserted and what shows it (R140). -/
structure InsertSeen where
  /-- Tap. -/
  tap : Fin 32
  /-- NTC A, 0.1 °C. -/
  a : Int
  /-- NTC B, 0.1 °C. -/
  b : Int
  /-- Block current, 10 mA. -/
  ib : Int
deriving DecidableEq, Repr

/-- What the KEEP condition is judged by (R151). -/
structure KeepSeen where
  /-- Voltage, mV. -/
  v : Int
  /-- Block current, 10 mA. -/
  ib : Int
deriving DecidableEq, Repr

/-- What the Kelvin check is judged by (R142). -/
structure KelvinSeen where
  /-- The pair is found bad; otherwise good. -/
  bad : Bool
  /-- Kelvin voltage, mV. -/
  v : Int
  /-- Power-pair voltage, mV. -/
  vPair : Int
deriving DecidableEq, Repr

/-- One Derbel message (12 R285). -/
structure Msg where
  /-- TYPE (12 R285). -/
  type : Nat := 0
  /-- objects (12 R285). -/
  objs : List (BitVec 32) := []
  /-- sender's role, true source (12 R285). -/
  role : Bool := false
  /-- LEAD (12 R285). -/
  lead : Bool := false
  /-- CTR (12 R285). -/
  ctr : BitVec 3 := 0
deriving DecidableEq, Repr

/-- `Msg` at its reset values. -/
def Msg.reset : Msg := {}


/-- One command of the block, one constructor per row of the spec's table; the row's rule and summary stand
with each. Host commands carry who sent them and their argument words; events carry what the outside world
shows at that moment (a measured value, an outcome). -/
inductive Instr where
  /-- `SYS_GET_INFO` (R259): Returns the module serial, variant, active firmware version, active bank and ADDR. -/
  | sysGetInfo (via : Via) (args : List Word)
  /-- `SYS_RUN` (R26): Moves the module from STANDBY to RUN, posting DONE once the transition has taken effect. -/
  | sysRun (via : Via) (args : List Word)
  /-- `SYS_STANDBY` (R257): Accepted in RUN; starts the 20 ms ramp of all stakes to zero before STANDBY. -/
  | sysStandby (via : Via) (args : List Word)
  /-- `STANDBY_RAMP_END` (R26): At the end of the SYS_STANDBY ramp the tap switches open and the module enters STANDBY with CAUSE 0x1. -/
  | standbyRampEnd
  /-- `SYS_SAFE` (R26): Moves the module from STANDBY or RUN to SAFE. -/
  | sysSafe (via : Via) (args : List Word)
  /-- `SYS_LEAVE_SAFE` (R26): Moves the module from SAFE to STANDBY if ESTOP# is released and no latched fault is set, otherwise returns DENIED_STATE with cause bits. -/
  | sysLeaveSafe (via : Via) (args : List Word)
  /-- `SYS_ENTER_RECOVERY` (R257): Accepted; schedules entry to RECOVERY 5 ms after READY. -/
  | sysEnterRecovery (via : Via) (args : List Word)
  /-- `SYS_RESET` (R257): Accepted; schedules a module reset into BOOT 5 ms after READY. -/
  | sysReset (via : Via) (args : List Word)
  /-- `DEFERRED_STATE_CHANGE` (R257): 5 ms after READY of SYS_ENTER_RECOVERY or SYS_RESET the state change is ranked under R27 and made, or dropped with an EVENT record. -/
  | deferredStateChange
  /-- `SYS_RESTART_CONTROL` (R257): Accepted; the control plane restarts into HOLD 1 ms after READY. -/
  | sysRestartControl (via : Via) (args : List Word)
  /-- `HOLD_ENTRY` (R31): All cores are held in reset, SYS_STATE shows HOLD, HOLD_SEEN is set, TICK is pulled and open pours end with POUR_ABORTED. -/
  | holdEntry
  /-- `SYS_ENTER_SHIP` (R359): Sets the ship latch and completes with ACCEPTED when AUX and all ports are below detection. -/
  | sysEnterShip (via : Via) (args : List Word)
  /-- `SHIP_ENTRY` (R359): 5 ms after READY the cores and host interface stop and the full flush runs; within 30 ms every housekeeping path switches off and the module is in SHIP. -/
  | shipEntry
  /-- `SYS_SET_STR` (R259): Asserts or de-asserts STR_EN and reports whether STR_FB matched within 200 ms. -/
  | sysSetStr (via : Via) (args : List Word)
  /-- `SYS_SET_SYNC` (R94): Sets the module's own carrier frequency or disables SYNC_IN; the carrier glides to the new value. -/
  | sysSetSync (via : Via) (args : List Word)
  /-- `SYS_SET_TIME` (R259): Sets the module time in ms since 1970. -/
  | sysSetTime (via : Via) (args : List Word)
  /-- `SYS_SET_PROFILE_BEGIN` (R260): Opens a working copy of a VSEL profile with its run and contactor actions. -/
  | sysSetProfileBegin (via : Via) (args : List Word)
  /-- `SYS_SET_PROFILE_ADD` (R260): Appends one pourable command entry to the open working copy. -/
  | sysSetProfileAdd (via : Via) (args : List Word)
  /-- `SYS_SET_PROFILE_STORE` (R260): Writes the working copy to flash as a valid profile. -/
  | sysSetProfileStore (via : Via) (args : List Word)
  /-- `SYS_SET_PROFILE_CLEAR` (R260): Stores the profile empty. -/
  | sysSetProfileClear (via : Via) (args : List Word)
  /-- `SYS_SET_VSEL` (R118): Turns the honouring of VSEL on or off and stores the setting. -/
  | sysSetVsel (via : Via) (args : List Word)
  /-- `SYS_SAVE_CONFIG` (R256): Stores the volatile settings as the stored configuration loaded in every BOOT. -/
  | sysSaveConfig (via : Via) (args : List Word)
  /-- `SRC_ENABLE` (R450): Turns a port's enable setting on and moves a DISABLED port to IDLE. -/
  | srcEnable (via : Via) (args : List Word)
  /-- `SRC_DISABLE` (R450): Turns a port's enable setting off; the allowance ramps to zero over 5 ms, the switches open and the port goes DISABLED. -/
  | srcDisable (via : Via) (args : List Word)
  /-- `SRC_SET_WINDOW` (R35): Sets a port's qualification window V_min to V_max. -/
  | srcSetWindow (via : Via) (args : List Word)
  /-- `SRC_SET_LIMIT` (R43): Sets a port's input current limit, lowering the stage current within 1 ms when needed. -/
  | srcSetLimit (via : Via) (args : List Word)
  /-- `SRC_SET_OV` (R41): Sets a port's source OV trip level. -/
  | srcSetOv (via : Via) (args : List Word)
  /-- `SRC_SET_MODE` (R262): Sets selection mode, ranks, weights, port caps and site cap. -/
  | srcSetMode (via : Via) (args : List Word)
  /-- `SRC_CLEAR_LOCK` (R36): Moves a LOCKED port to IDLE. -/
  | srcClearLock (via : Via) (args : List Word)
  /-- `SRC_CAL_INPUT` (R263): Trims a port's input-power gain against a reference energy between two snapshots and stores it. -/
  | srcCalInput (via : Via) (args : List Word)
  /-- `TAP_SET_DESCRIPTOR` (R125): Writes a tap's whole block descriptor after checking it. -/
  | tapSetDescriptor (via : Via) (args : List Word)
  /-- `TAP_GET_DESCRIPTOR` (R265): Returns a tap's descriptor with defaults resolved. -/
  | tapGetDescriptor (via : Via) (args : List Word)
  /-- `TAP_SET_SUPPORT` (R130): Sets keep enable, bypass-on-fault and the removal action of a tap. -/
  | tapSetSupport (via : Via) (args : List Word)
  /-- `TAP_SET_LIMITS` (R147): Sets a tap's command limit cmd_lim on stake current. -/
  | tapSetLimits (via : Via) (args : List Word)
  /-- `TAP_STOP` (R132): Sends a tap to SUSPENDED with cause host, or hands a STAND-IN tap off to the bypass. -/
  | tapStop (via : Via) (args : List Word)
  /-- `TAP_RESUME` (R132): Moves a tap in SUSPENDED with cause host to DETECT. -/
  | tapResume (via : Via) (args : List Word)
  /-- `TAP_REARM_TIMER` (R158): Re-arms both safety timers at full size and leaves FAULT-TIMER. -/
  | tapRearmTimer (via : Via) (args : List Word)
  /-- `TAP_CLEAR_FAULT` (R132): Moves a tap from FAULT-SHORT, FAULT-OV or FAULT-THERM to DETECT once the condition is gone. -/
  | tapClearFault (via : Via) (args : List Word)
  /-- `TAP_FORGET` (R127): Appends a void history record and disarms both safety timers. -/
  | tapForget (via : Via) (args : List Word)
  /-- `TAP_GET_HISTORY` (R265): Returns one history record of a tap by index. -/
  | tapGetHistory (via : Via) (args : List Word)
  /-- `TAP_SET_RAMP` (R98): Sets a tap's soft-start and slew rates. -/
  | tapSetRamp (via : Via) (args : List Word)
  /-- `TAP_SET_KEEP` (R106): Sets a tap's keep voltage. -/
  | tapSetKeep (via : Via) (args : List Word)
  /-- `TAP_SET_STANDIN` (R108): Sets stand-in voltage, window and auto-return. -/
  | tapSetStandin (via : Via) (args : List Word)
  /-- `TAP_STAND_IN` (R109): Starts stand-in from the bypass on a tap with SLOT_FB present. -/
  | tapStandIn (via : Via) (args : List Word)
  /-- `TAP_SET_TRACK` (R115): Sets a tap's tracking mode and track full scale. -/
  | tapSetTrack (via : Via) (args : List Word)
  /-- `TAP_SET_COEFF` (R71): Checks a coefficient bank against the plant model and writes it to the shadow copy. -/
  | tapSetCoeff (via : Via) (args : List Word)
  /-- `TAP_LOAD_DEFAULT_COEFF` (R71): Restores the factory coefficient banks of a stake. -/
  | tapLoadDefaultCoeff (via : Via) (args : List Word)
  /-- `TAP_SET_SCHEDULE` (R70): Sets the voltage and rod thresholds of bank selection. -/
  | tapSetSchedule (via : Via) (args : List Word)
  /-- `TAP_SET_SHED` (R77): Sets the add and shed fractions of a stake. -/
  | tapSetShed (via : Via) (args : List Word)
  /-- `TAP_SET_GANG_FORM` (R63): Forms a ganged pair of stakes 2k and 2k+1 after the voltage check of R64. -/
  | tapSetGangForm (via : Via) (args : List Word)
  /-- `TAP_SET_GANG_DISSOLVE` (R63): Dissolves a ganged pair. -/
  | tapSetGangDissolve (via : Via) (args : List Word)
  /-- `TAP_GET_RODS` (R265): Returns running time, trim, temperature, trip counts and health cause of up to four rods. -/
  | tapGetRods (via : Via) (args : List Word)
  /-- `TAP_SET_PLANT` (R72): Sets the L_loop and R_loop ranges of a tap's plant model. -/
  | tapSetPlant (via : Via) (args : List Word)
  /-- `ARB_SET_MIN` (R170): Gives a tap its contracted minimum block current and lessee identifier. -/
  | arbSetMin (via : Via) (args : List Word)
  /-- `ARB_SET_LOSS_CAP` (R162): Lowers the coolant-loss budget Q_max. -/
  | arbSetLossCap (via : Via) (args : List Word)
  /-- `ARB_GET_DOSES` (R267): Returns per-tap request, class levels, grant and E_rem of the last period. -/
  | arbGetDoses (via : Via) (args : List Word)
  /-- `MTR_READ` (R185): Returns up to seven 64-bit counters of a tap, port or the module, consistently. -/
  | mtrRead (via : Via) (args : List Word)
  /-- `MTR_GET_PUBKEY` (R189): Returns a part of the public key or of the manufacturing certificate. -/
  | mtrGetPubkey (via : Via) (args : List Word)
  /-- `MTR_GET_STATEMENT` (R190): Builds and signs a meter statement into the statement buffer and records its hash. -/
  | mtrGetStatement (via : Via) (args : List Word)
  /-- `MTR_READ_STATEMENT` (R269): Reads up to 56 bytes of the statement buffer. -/
  | mtrReadStatement (via : Via) (args : List Word)
  /-- `POUR_OPEN` (R196): Starts a pour with an identifier, clearing all entries. -/
  | pourOpen (via : Via) (args : List Word)
  /-- `POUR_ADD` (R197): Appends one checked entry to the open pour. -/
  | pourAdd (via : Via) (args : List Word)
  /-- `POUR_PREPARE` (R199): Validates the entries in order and, if all pass, starts pulling TICK low. -/
  | pourPrepare (via : Via) (args : List Word)
  /-- `POUR_PREPARED` (R199): After any 500 ns wait the TICK pull begins, the pour enters PREPARED and POUR_PREPARE returns DONE. -/
  | pourPrepared
  /-- `POUR_ABORT` (R203): Ends a pour with POUR_ABORTED, with a veto if TICK is low. -/
  | pourAbort (via : Via) (args : List Word)
  /-- `LNK_SET_PRESENT` (R279): Sets a port's pilot presentation, voiding and detaching any attached partner. -/
  | lnkSetPresent (via : Via) (args : List Word)
  /-- `LNK_SEND` (R290): Sends a host message over a link, ending with its acknowledge outcome. -/
  | lnkSend (via : Via) (args : List Word)
  /-- `LNK_RECV` (R289): Returns the oldest message of a port's receive buffer. -/
  | lnkRecv (via : Via) (args : List Word)
  /-- `LNK_SET_CONTRACT_APPLY` (R292): Puts a contract in force on a port and starts the transition. -/
  | lnkSetContractApply (via : Via) (args : List Word)
  /-- `LNK_SET_CONTRACT_VOID` (R298): Voids the contract in force and sends Void to the partner. -/
  | lnkSetContractVoid (via : Via) (args : List Word)
  /-- `LNK_SET_TIE_CLOSE` (R299): Asserts TIE_EN when port D presents source with a contract and the string lies in the window. -/
  | lnkSetTieClose (via : Via) (args : List Word)
  /-- `LNK_SET_TIE_OPEN` (R299): De-asserts TIE_EN. -/
  | lnkSetTieOpen (via : Via) (args : List Word)
  /-- `LNK_SWAP_ROLE` (R302): Sends a role-swap request and reports the answer. -/
  | lnkSwapRole (via : Via) (args : List Word)
  /-- `LNK_GET_STATUS` (R309): Returns attach state, role, contract and contract age of a port. -/
  | lnkGetStatus (via : Via) (args : List Word)
  /-- `WDG_SET_LADDER` (R331): Sets the ladder length N. -/
  | wdgSetLadder (via : Via) (args : List Word)
  /-- `WDG_DISABLE` (R334): With the key, stops the watchdog; a third wrong key locks it. -/
  | wdgDisable (via : Via) (args : List Word)
  /-- `WDG_ENABLE` (R335): Enables a disabled watchdog and starts a grace period. -/
  | wdgEnable (via : Via) (args : List Word)
  /-- `WDG_SET_LOCK` (R336): Enables a disabled watchdog and sets WDG_LOCK until power-on reset. -/
  | wdgSetLock (via : Via) (args : List Word)
  /-- `WDG_GET_EVIDENCE` (R337): Returns one of the sixteen latest watchdog records. -/
  | wdgGetEvidence (via : Via) (args : List Word)
  /-- `BBX_GET_INFO` (R272): Returns oldest and newest record sequence, copy status and ring fill. -/
  | bbxGetInfo (via : Via) (args : List Word)
  /-- `BBX_SEEK` (R346): Loads pane 0 of a record into the register window. -/
  | bbxSeek (via : Via) (args : List Word)
  /-- `BBX_READ` (R347): Returns words of a black-box record. -/
  | bbxRead (via : Via) (args : List Word)
  /-- `RCP_REGISTER_KEY` (R273): Registers one part of the customer recipe key, once. -/
  | rcpRegisterKey (via : Via) (args : List Word)
  /-- `RCP_LOAD` (R373): Writes bytes into a recipe slot and clears its verified flag. -/
  | rcpLoad (via : Via) (args : List Word)
  /-- `RCP_VERIFY` (R373): Checks a slot's header and signature and marks it verified. -/
  | rcpVerify (via : Via) (args : List Word)
  /-- `RCP_START` (R375): Starts a verified slot on a tap mask, stopping any running recipe first and calling init. -/
  | rcpStart (via : Via) (args : List Word)
  /-- `RCP_STOP` (R383): Stops the running recipe between ticks. -/
  | rcpStop (via : Via) (args : List Word)
  /-- `RCP_GET_STATUS` (R273): Returns running slot, verified slots, governed mask, overruns and last fault. -/
  | rcpGetStatus (via : Via) (args : List Word)
  /-- `PERF_SET_CTL` (R387): Sets a core's counter, tagging, user-read and dump settings from its next dump boundary. -/
  | perfSetCtl (via : Via) (args : List Word)
  /-- `PERF_SELECT` (R384): Selects the event of one counter and clears it. -/
  | perfSelect (via : Via) (args : List Word)
  /-- `PERF_READ` (R274): Returns up to seven 64-bit performance counters of a core. -/
  | perfRead (via : Via) (args : List Word)
  /-- `FW_GET_INFO` (R275): Returns active bank, bank validity and versions, and stage state. -/
  | fwGetInfo (via : Via) (args : List Word)
  /-- `FW_STAGE_BEGIN` (R366): Accepted; starts erasing the inactive bank and marks it invalid. -/
  | fwStageBegin (via : Via) (args : List Word)
  /-- `FW_ERASE_COMPLETE` (R366): The erase of the inactive bank ends and the stage state becomes open. -/
  | fwEraseComplete
  /-- `FW_STAGE_WRITE` (R366): Writes words of the image into the inactive bank. -/
  | fwStageWrite (via : Via) (args : List Word)
  /-- `FW_STAGE_VERIFY` (R366): Accepted; starts checking the staged image. -/
  | fwStageVerify (via : Via) (args : List Word)
  /-- `FW_VERIFY_COMPLETE` (R366): The image check ends, setting the stage state to verified and the bank valid, or to failed. -/
  | fwVerifyComplete
  /-- `FW_ACTIVATE` (R368): Makes the verified bank active and enters HOLD 1 ms later, or resets into BOOT under R369. -/
  | fwActivate (via : Via) (args : List Word)
  /-- `SERVICE_FUSE_ROD` (R276): Fuses out one rod of a stopped stake and reports confirmation. -/
  | serviceFuseRod (via : Via) (args : List Word)
  /-- `COMMAND_TAKE` (R244): C0 takes a PENDING mailbox, writes the accept code and passes the command to its owning core or refuses it. -/
  | commandTake (n : Fin 4)
  /-- `RESULT_POST` (R246): Firmware writes the result words and return code and sets the mailbox READY. -/
  | resultPost (n : Fin 4)
  /-- `INTERNAL_MAILBOX_MESSAGE` (R249): A core's message arrives in another core's inbound internal mailbox, overwriting the oldest when full. -/
  | internalMailboxMessage (dst : Fin 8) (m : IntMsg)
  /-- `DOORBELL` (R240): A write access containing MBXn_CMD to an EMPTY mailbox rings the doorbell and makes it PENDING. -/
  | doorbell (n : Fin 4) (op : Word) (args : List Word)
  /-- `MBX_RELEASE` (R242): A write to MBXn_RELEASE empties a READY mailbox. -/
  | mbxRelease (n : Fin 4)
  /-- `EARLY_READ` (R246): A read of a result word while the mailbox is not READY returns 0x0000 and sets EARLY. -/
  | earlyRead (n : Fin 4) (k : Fin 30)
  /-- `SNAPSHOT_READ` (R214): A read of the lower word of an RS register latches the related words in that bus's snapshot latches. -/
  | snapshotRead (bus : BusId) (addr : Nat)
  /-- `POUR_CTL_RELEASE` (R202): A write of POUR_CTL.RELEASE with the matching identifier stops the TICK pull and makes the pour RELEASED. -/
  | pourCtlRelease (id : Option Word)
  /-- `POUR_CTL_ABORT` (R203): A write of POUR_CTL.ABORT with the matching identifier ends the pour with POUR_ABORTED. -/
  | pourCtlAbort (id : Option Word)
  /-- `ALR_ACK` (R438): A write access including ALR_ACK upper word removes the alert with that sequence number. -/
  | alrAck (seq : Nat)
  /-- `ALR_ACK_CLASS` (R438): A write to ALR_ACK_CLASS removes every queued alert of the selected classes. -/
  | alrAckClass (mask : BitVec 4)
  /-- `ALARM_ARM` (R192): Writing MTR_ALMk_CTL.ARM loads REMAIN from LOAD and starts the alarm timer. -/
  | alarmArm (k : Fin 4)
  /-- `ALARM_DISARM` (R192): Writing MTR_ALMk_CTL.DISARM stops the alarm timer without expiry. -/
  | alarmDisarm (k : Fin 4)
  /-- `ALARM_EXPIRY` (R192): An alarm timer reaches zero, sets EXPIRED, raises an alert and may issue SYS_STANDBY. -/
  | alarmExpiry (k : Fin 4)
  /-- `BBX_WIN_PANE_WRITE` (R346): A write to BBX_WIN_PANE starts loading a pane of the record named by BBX_WIN_SEQ. -/
  | bbxWinPaneWrite (p : BitVec 4)
  /-- `PANE_LOADED` (R346): The pane load completes and the window words show the record. -/
  | paneLoaded
  /-- `SH_FAULT_CLEAR` (R410): A write of 1 to SYS_STR.SH_FAULT clears the latch only after 1 s of valid bitstream. -/
  | shFaultClear
  /-- `HUB_OV3_CLEAR` (R443): A write of 1 to FLT_MODULE.HUB_OV3 in SAFE clears the latch and the three-in-60 s count. -/
  | hubOv3Clear
  /-- `SYS_SHARE_WRITE` (R314): A write to SYS_SHAREnn takes effect only in allowed tap states, else sets SHARE_REJ. -/
  | sysShareWrite (n : Fin 32) (w : Word)
  /-- `REGISTER_WRITE` (R215): A write to a register with no behaviour of its own, W1C clears included. -/
  | registerWrite (addr : Nat) (w : Word)
  /-- `SPI_WRITE_FRAME` (R221): An SPI write frame is checked and its words applied whole, or discarded with a result code. -/
  | spiWriteFrame (header : Word) (words : List Word) (check : Option Byte) (whole : Bool)
  /-- `SPI_READ_FRAME` (R221): An SPI read frame returns words from the start address with status word and optional check bytes. -/
  | spiReadFrame (header : Word) (count : Nat)
  /-- `WRITE_TRANSFER` (R226): A two-wire write transfer is checked and applied whole at its end, or discarded with a result code. -/
  | writeTransfer (pointer : Word) (words : List Word) (pec : Option Byte) (ending : TwEnd)
  /-- `READ_TRANSFER` (R226): A two-wire read transfer returns words from the pointer with optional PEC. -/
  | readTransfer (pointer : Option Word) (count : Nat)
  /-- `BUS_ERROR` (R229): A misplaced START or STOP aborts the transfer, releases SDA and ignores the bus until addressed. -/
  | busError
  /-- `SMBUS_TIMEOUT` (R233): SCL at one level for 35 ms makes the target abandon the transfer. -/
  | smbusTimeout
  /-- `ALERT_RESPONSE_READ` (R232): A read of 0x0C is answered by eligible modules by level L and address arbitration, updating L. -/
  | alertResponseRead (others : AraOthers) (won : Bool)
  /-- `ALERT_REPULL` (R231): 100 ms after an answered alert response with alerts still unacknowledged, ALERT# is pulled again. -/
  | alertRepull
  /-- `BUS_RECOVERY` (R234): A controller facing stuck SDA sends up to nine SCL pulses and a STOP, retrying after 1 s. -/
  | busRecovery (freed : Bool)
  /-- `CONTROLLER_TRANSFER` (R235): The module as controller starts a queued transfer once the bus is free. -/
  | controllerTransfer (answer : Option CtlAnswer)
  /-- `ADDR_PROBE` (R310): In BOOT after a random delay the module probes its own address and sets ADDR_DUP if acknowledged. -/
  | addrProbe (acked : Bool)
  /-- `HK_PATH_QUALIFY` (R350): A housekeeping path qualifies; from OFF or SHIP it starts BOOT or SHIP, otherwise the module may move to it. -/
  | hkPathQualify (p : HkPath) (strap : BitVec 3) (tickLow : Bool)
  /-- `HK_PATH_LOST` (R351): The housekeeping path in use loses qualification and the module moves to the next qualified path. -/
  | hkPathLost (p : HkPath)
  /-- `HOUSEKEEPING_LOSS` (R352): No path has delivered for 2 ms; bypass, tie off, intake stop, stake ramp, switch opening and flush begin. -/
  | housekeepingLoss
  /-- `HOLD_UP_END` (R352): At the end of the hold-up every output falls to its unpowered level and the module is OFF. -/
  | holdUpEnd
  /-- `BOOT_COMPLETE` (R354): BOOT ends in STANDBY, SAFE or RECOVERY after self-test, image check, counter restore and configuration load. -/
  | bootComplete (selfTestOk : Bool) (bank0Ok : Bool) (bank1Ok : Bool)
  /-- `RECOVERY_KEY_WAIT_END` (R355): KEY# still low at t0 + 3 s of BOOT sets the recovery request. -/
  | recoveryKeyWaitEnd
  /-- `KEY_SHORT_PRESS` (R362): Release of a press of 0.5 s to 10 s sets SYS_KEY.SHORT and raises an alert. -/
  | keyShortPress
  /-- `LONG_PRESS` (R363): KEY# held 10 s de-asserts STR_EN and TIE_EN and opens every switch. -/
  | longPress
  /-- `LONG_PRESS_RESET` (R363): At t0 + 12 s of the long press the module resets into BOOT with CAUSE 0x6. -/
  | longPressReset (strap : BitVec 3)
  /-- `SHIP_KEY_WAKE` (R361): KEY# low 0.5 s in SHIP starts the tap path. -/
  | shipKeyWake
  /-- `SHIP_KEY_WAKE_TIMEOUT` (R361): No tap qualifies within 1 s of the wake, so the module stays in SHIP. -/
  | shipKeyWakeTimeout
  /-- `ESTOP` (R364): ESTOP# low for 20 µs stops stakes, opens switches, de-asserts TIE_EN and enters SAFE. -/
  | estop
  /-- `FAULT_EDGE` (R312): A foreign falling edge of FAULT# sets FAULT_IN, raises an alert and acts by FAULT_ACT. -/
  | faultEdge (own : Bool)
  /-- `CONTROL_PLANE_READY` (R30): After HOLD the control plane reloads from the retained table, completes taken commands with INTERNAL and returns to the previous state or STANDBY. -/
  | controlPlaneReady
  /-- `HOLD_LIMIT` (R31): At t0 + 2 s of HOLD, SLOT_BYP is asserted for STAND-IN taps and all stakes ramp to zero. -/
  | holdLimit
  /-- `HOLD_RAMP_COMPLETE` (R31): At t0 + 2.020 s every tap switch opens and a priority-1 alert is raised. -/
  | holdRampComplete
  /-- `CORE_RESTART_DONE` (R332): A core restarted by rung 1 runs again and its lost host commands complete with INTERNAL. -/
  | coreRestartDone (c : Fin 8)
  /-- `TRIAL_END` (R370): After 60 s without a watchdog failure the rollback floor is raised and stored. -/
  | trialEnd
  /-- `WDG_SERVICE` (R328): A write to the service port is judged early, late, mask or token, and accepted or failed. -/
  | wdgService (core : Fin 8) (token : Word) (pcs : List (BitVec 32))
  /-- `WDG_CHECKIN` (R327): A core's task bits are ORed into the accumulated mask. -/
  | wdgCheckin (core : Fin 8) (bits : Word)
  /-- `WDG_LATE` (R324): The count reaches CLOSE without an accepted service and a failure takes effect. -/
  | wdgLate (pcs : List (BitVec 32))
  /-- `BBX_RECORD_WRITE` (R342): A queued record is written to copy A then copy B and read back. -/
  | bbxRecordWrite (badA : Bool) (badB : Bool)
  /-- `WITHHOLD_WINDOW_CLOSE` (R344): One second after a key's window opened it closes, with a SUMMARY if records were withheld. -/
  | withholdWindowClose (key : Nat × Nat × Nat)
  /-- `BBX_SCRUB` (R347): Every 24 h both copies are scrubbed and damaged records repaired. -/
  | bbxScrub
  /-- `LEASE_SNAPSHOT` (R186): At each quarter hour every counter is copied and a snapshot record is written or held pending. -/
  | leaseSnapshot
  /-- `ARB_PERIOD` (R166): Every 5 ms the arbiter computes the budget and grants doses by class. -/
  | arbPeriod (m : Sample)
  /-- `CUT_EPISODE_END` (R173): 200 periods without shortfall end the episode with a record and alert, clearing CUT. -/
  | cutEpisodeEnd (n : Fin 32) (contract : Bool)
  /-- `DOSE_APPLY` (R168): Lower doses apply at the next outer-loop sample and higher doses 64 µs later. -/
  | doseApply
  /-- `RECIPE_TICK` (R376): Every 10 ms the input page is filled and the recipe's tick entry is called. -/
  | recipeTick
  /-- `TICK_OVERRUN` (R376): A tick exceeding 4 ms of C1 time is ended and its outputs discarded. -/
  | tickOverrun
  /-- `INIT_TIMEOUT` (R381): Init not yielding within 50 ms stops the recipe with fault 6. -/
  | initTimeout
  /-- `YIELD` (R380): ECALL 0 ends init or a tick; the output page is applied from the next arbiter period. -/
  | yield (out : List RcpOut) (rest : RcpRest)
  /-- `NOTE` (R380): ECALL 1 writes an EVENT record with a0 to a3, at most once per second. -/
  | note (a : List (BitVec 32))
  /-- `STOP` (R380): ECALL 2 stops the recipe with fault code 7. -/
  | stop
  /-- `RECIPE_FAULT` (R381): An illegal instruction, access fault, misalignment or bad ECALL stops the slot and withdraws its requests. -/
  | recipeFault (code : Nat) (pc : BitVec 32)
  /-- `PERF_DUMP` (R386): Each dump period the hardware appends a dump record to the core's ring. -/
  | perfDump (core : Fin 8) (counts : List Nat) (spent : Spent) (tags : List TagSeen)
  /-- `CLUSTER_POWER_DOWN` (R20): A cluster island whose stakes have all been idle for 10 s saves its state and powers down. -/
  | clusterPowerDown (m : Fin 4)
  /-- `CLUSTER_WAKE` (R22): A dose, command, tap-sense event or request wakes a powered-down cluster island. -/
  | clusterWake (m : Fin 4)
  /-- `CLUSTER_WAKE_DONE` (R250): CL_ON is set, the engine restores its stakes and pending messages are delivered. -/
  | clusterWakeDone (m : Fin 4)
  /-- `HUB_OV` (R33): Hub above 450 V stops all intake stages, opens input switches and sends ports to BACKOFF. -/
  | hubOv
  /-- `HUB_DROOP` (R33): Hub below 390 V scales every stake's limit until the next period. -/
  | hubDroop (v : Nat)
  /-- `HUB_UNDERVOLTAGE` (R33): Hub below 360 V holds stake limits at 0 A until it is above 380 V. -/
  | hubUndervoltage (v : Nat)
  /-- `PORT_IN_WINDOW` (R36): An IDLE port's voltage enters the window and the port goes to QUALIFY. -/
  | portInWindow (x : Fin 4) (v : Int)
  /-- `PORT_OUT_OF_WINDOW` (R36): A QUALIFY port's voltage leaves the window and the port returns to IDLE. -/
  | portOutOfWindow (x : Fin 4) (v : Int)
  /-- `QUALIFY_END` (R36): 100 ms inside the window moves the port to PRECHARGE. -/
  | qualifyEnd (x : Fin 4)
  /-- `PRECHARGE_COMPLETE` (R36): The stage input reaches within 20 V of the port and the port enters SOFTSTART. -/
  | prechargeComplete (x : Fin 4) (vStage : Int)
  /-- `PRECHARGE_TRIP` (R42): Precharge not complete in 200 ms trips the port to BACKOFF. -/
  | prechargeTrip (x : Fin 4)
  /-- `SOFTSTART_END` (R36): 50 ms after entry to SOFTSTART the port is ONLINE. -/
  | softstartEnd (x : Fin 4)
  /-- `PORT_LOSS` (R38): Port voltage out of window for 500 µs sends a SOFTSTART or ONLINE port to IDLE. -/
  | portLoss (x : Fin 4) (v : Int)
  /-- `HAND_OVER_END` (R54): The ramp ends, HANDOVER clears, waiting ports enter QUALIFY and unanswered stand-ins raise alerts. -/
  | handOverEnd
  /-- `SOURCE_OV` (R41): Port above its OV trip level stops the stage and opens switches; trip to BACKOFF. -/
  | sourceOv (x : Fin 4) (v : Int)
  /-- `SOURCE_OC` (R41): Input current above the OC threshold stops the stage and opens switches; trip to BACKOFF. -/
  | sourceOc (x : Fin 4) (i : Int)
  /-- `REVERSE_CURRENT` (R41): Current out of the port above 2 A blocks the switch and opens switches; trip to BACKOFF. -/
  | reverseCurrent (x : Fin 4) (i : Int)
  /-- `BACKOFF_END` (R36): After 1 s in BACKOFF the port goes to IDLE, or LOCKED after the third trip in 60 s. -/
  | backoffEnd (x : Fin 4)
  /-- `ROD_CURRENT_TRIP` (R62): Peak limit in 64 consecutive cycles stops the rod for 1 s and counts towards fuse-out. -/
  | rodCurrentTrip (n : Fin 32) (p : Fin 16) (fuseOk : Bool)
  /-- `TRANSFORMER_PRIMARY_OVERCURRENT` (R62): Primary current above 3 A stops the rod for 1 s and counts towards fuse-out. -/
  | transformerPrimaryOvercurrent (n : Fin 32) (p : Fin 16) (fuseOk : Bool)
  /-- `STAKE_OUTPUT_OVER_VOLTAGE` (R62): Output node at or above the OV level stops all rods and opens the tap switch. -/
  | stakeOutputOverVoltage (n : Fin 32) (v : Int)
  /-- `ROD_OVER_TEMPERATURE` (R62): Rod sensor above 115 °C forces the rod to rest until below 95 °C. -/
  | rodOverTemperature (n : Fin 32) (p : Fin 16) (t : Int)
  /-- `ROD_REST_END` (R62): A rod's 1 s or 60 s forced rest ends and it is available again. -/
  | rodRestEnd (n : Fin 32) (p : Fin 16)
  /-- `SUSPECT` (R75): A trim at its clamp for 1 s with large error forces a 60 s rest. -/
  | suspect (n : Fin 32) (p : Fin 16) (fuseOk : Bool)
  /-- `ADD_ROD` (R77): Demand above n × 4.4 A for 64 µs adds the least-worn available rod. -/
  | addRod (n : Fin 32)
  /-- `SHED_ROD` (R77): Demand below (n−1) × 3.3 A for 20 ms sheds the most-worn active rod. -/
  | shedRod (n : Fin 32)
  /-- `WEAR_SWAP` (R79): Every 10 min a much less worn resting rod replaces the most worn active rod. -/
  | wearSwap (n : Fin 32)
  /-- `RUNNING_TIME_SAVE` (R79): Rod running times are saved to flash every hour. -/
  | runningTimeSave
  /-- `BALANCING_STEP` (R74): Every 1 ms each stake updates its rods' duty trims. -/
  | balancingStep (n : Fin 32) (iAvg : List Int) (temps : List Int)
  /-- `BRAKE` (R84): A fast fall of demand or a voltage rise holds buck switches off up to 2 µs. -/
  | brake (n : Fin 32) (seen : BrakeSeen)
  /-- `SYNC_IN_VALID` (R91): 64 valid periods on SYNC_IN start the glide towards its frequency. -/
  | syncInValid (sig : SyncSignal)
  /-- `SYNC_LOCK` (R91): Phase error below 2° for 1 ms locks the carrier. -/
  | syncLock
  /-- `SYNC_IN_LOSS` (R93): No edge for 4 µs or frequency out of range starts the glide back to own oscillator. -/
  | syncInLoss
  /-- `STAKE_START` (R101): A start request begins the pre-start test and soft start of a stopped stake. -/
  | stakeStart (n : Fin 32)
  /-- `PRE_START_RESULT` (R82): At 620 µs failed rods are fused out and pre-bias begins or the stake is withdrawn. -/
  | preStartResult (n : Fin 32) (m : PreMeasured) (fuseOk : Bool)
  /-- `PRE_BIAS_COMPLETE` (R101): Output node just below V_pair closes the tap switch and sets v_ref to the Kelvin voltage. -/
  | preBiasComplete (n : Fin 32) (vNode : Int)
  /-- `PREBIAS_FAIL` (R102): Pre-bias incomplete at 10.62 ms is a failed attempt. -/
  | prebiasFail (n : Fin 32)
  /-- `SOFT_START_COMPLETE` (R101): v_ref reaches its target; later moves use the slew rate and the attempt count clears. -/
  | softStartComplete (n : Fin 32)
  /-- `SHORT_CHECK_FAIL` (R104): Kelvin not past 25 % of target within 20 ms stops the stake into a 1 s hiccup. -/
  | shortCheckFail (n : Fin 32) (v : Int)
  /-- `HICCUP_END` (R104): After the 1 s off time the stake starts again from the pre-start test. -/
  | hiccupEnd (n : Fin 32)
  /-- `KEEP_LOW` (R107): KEEP at limit with Kelvin 0.5 V below v_ref for 1 s sets KEEP_LOW. -/
  | keepLow (n : Fin 32) (v : Int)
  /-- `STAND_IN_EXCESS` (R112): String current above the stand-in limit for 100 ms asserts SLOT_BYP. -/
  | standInExcess (n : Fin 32) (i : Int)
  /-- `STAND_IN_IMMEDIATE_BYPASS` (R111): Kelvin below the window minimum or 2 V above v_ref asserts SLOT_BYP at once. -/
  | standInImmediateBypass (n : Fin 32) (v : Int)
  /-- `SLOT_FB_PRESENT` (R112): SLOT_FB seen starts the 20 ms ramp of a bypassing stake, or moves FAULT-OPEN to ABSENT. -/
  | slotFbPresent (n : Fin 32)
  /-- `BYPASS_RAMP_END` (R112): 20 ms after SLOT_FB the stake stops, the switch opens and BYPASSED is set. -/
  | bypassRampEnd (n : Fin 32)
  /-- `BYP_FAIL` (R112): No SLOT_FB 50 ms after SLOT_BYP sets BYP_FAIL and raises an alert. -/
  | bypFail (n : Fin 32)
  /-- `BYPASS_FAULT_OPEN` (R112): No SLOT_FB 150 ms after SLOT_BYP on TAP_STOP or removal sends the tap to FAULT-OPEN. -/
  | bypassFaultOpen (n : Fin 32)
  /-- `SLOT_FB_CLEAR` (R109): SLOT_FB clearing in a stand-in from the bypass starts the ramp to the stand-in reference. -/
  | slotFbClear (n : Fin 32)
  /-- `SLOT_FB_CLEAR_TIMEOUT` (R109): SLOT_FB not cleared within 50 ms re-asserts SLOT_BYP and stops the stake. -/
  | slotFbClearTimeout (n : Fin 32)
  /-- `AUTO_RETURN` (R113): 5 s of suitable string current re-enters stand-in from the bypass. -/
  | autoReturn (n : Fin 32)
  /-- `TRACK_FAULT` (R117): TRACK invalid for 1 ms makes tracking taps take fixed targets. -/
  | trackFault
  /-- `TRACK_RESUME` (R117): 100 ms after TRACK is valid again tracking resumes. -/
  | trackResume (v : Int)
  /-- `VSEL_COUNT` (R119): A VSEL value stable for 50 ms is counted and its profile applied or held pending. -/
  | vselCount (v : Fin 8)
  /-- `PROFILE_APPLY` (R120): A VSEL profile is staged, validated and prepared as pour 0x0000. -/
  | profileApply
  /-- `PROFILE_RETRY` (R209): 100 ms after a profile pour timed out it is tried again, up to five times. -/
  | profileRetry
  /-- `TICK_FALL` (R201): A falling edge of TICK starts the low time. -/
  | tickFall
  /-- `COMMIT_EDGE` (R201): A rise after 1 µs to 50 ms low, held high 500 ns, is a commit edge. -/
  | commitEdge (edge : TickEdge)
  /-- `POUR_TIMEOUT` (R203): Low time reaching 50 ms ends a PREPARED or RELEASED pour and starts a veto. -/
  | pourTimeout
  /-- `VETO_END` (R203): At a low time of 55 ms the module releases its veto pull. -/
  | vetoEnd
  /-- `HOLD_PULL_END` (R204): HOLD over and 60 ms passed, the module releases its TICK pull. -/
  | holdPullEnd
  /-- `PRESENCE` (R138): Presence qualified for 2 s sends the tap to DETECT as a new block. -/
  | presence (n : Fin 32) (v : Int)
  /-- `REMOVAL` (R139): A removal leads to STAND-IN, bypass, FAULT-OPEN or ABSENT by the removal action. -/
  | removal (n : Fin 32) (seen : RemovalSeen)
  /-- `BLOCK_INSERTED` (R140): A block inserted in STAND-IN sets target 0 A, releases SLOT_BYP and enters DETECT. -/
  | blockInserted (seen : InsertSeen)
  /-- `DETECT_SETTLED` (R143): Kelvin settled or 10 s passed; the tap leaves DETECT by the first applicable rule. -/
  | detectSettled (n : Fin 32) (v : Int) (vPair : Int)
  /-- `CUPPING_END` (R145): At 120 s cupping is judged: pass, reject or restart. -/
  | cuppingEnd (n : Fin 32) (ocv : Nat)
  /-- `PRECHARGE_TO_CC` (R132): Kelvin above threshold for 10 s moves PRECHARGE to CC. -/
  | prechargeToCc (n : Fin 32) (v : Int)
  /-- `CC_TO_CV` (R132): Voltage loop governing for 1 s moves CC to CV. -/
  | ccToCv (n : Fin 32)
  /-- `CV_TO_CC` (R132): Current target governing for 10 s moves CV to CC. -/
  | cvToCc (n : Fin 32)
  /-- `END_OF_CHARGE` (R146): Block current below I_fast/N for 60 s in voltage loop ends the charge to DONE. -/
  | endOfCharge (n : Fin 32) (i : Int)
  /-- `TOP_OFF_DEPTH` (R132): Net charge out since DONE reaching the top-off depth moves DONE to TOPOFF. -/
  | topOffDepth (n : Fin 32)
  /-- `RECHARGE_DEPTH` (R132): Net charge out reaching the recharge depth starts a full charge by Kelvin. -/
  | rechargeDepth (n : Fin 32)
  /-- `TOP_OFF_TIMER_EXPIRY` (R150): Top-off timer expiry returns TOPOFF to DONE without fault. -/
  | topOffTimerExpiry (n : Fin 32)
  /-- `KEEP_CONDITION` (R151): Kelvin below keep voltage for 1 s while discharging enters KEEP. -/
  | keepCondition (n : Fin 32) (seen : KeepSeen)
  /-- `KEEP_RELEASE` (R151): String current ≤ 0 for 10 s or 1 s of dose returns the tap to the state left. -/
  | keepRelease (n : Fin 32) (byString : Bool)
  /-- `TEMPERATURE_SUSPENSION` (R154): Hotter NTC below T1 or above T4 suspends a charging tap in hardware. -/
  | temperatureSuspension (n : Fin 32) (t : Int)
  /-- `SUSPENSION_RETURN` (R154): Condition cleared for 10 s returns a cold, hot or sensor suspension. -/
  | suspensionReturn (n : Fin 32) (t : Int)
  /-- `TEMPERATURE_BAND_CHANGE` (R154): The governing temperature enters the cold, normal or warm band, changing fraction or CV target. -/
  | temperatureBandChange (n : Fin 32) (t : Int)
  /-- `SENSOR_SUSPEND` (R155): No valid NTC with policy SUSPEND suspends the tap with cause sensor. -/
  | sensorSuspend (n : Fin 32)
  /-- `NO_DOSE` (R152): A dose of 0 A for 60 s suspends the tap with cause no dose. -/
  | noDose (n : Fin 32)
  /-- `NO_DOSE_RETURN` (R152): An offered dose of 1 A for 1 s returns the tap to the state left. -/
  | noDoseReturn (n : Fin 32)
  /-- `SAFETY_TIMER_EXPIRY` (R158): A precharge or charge timer reaches its size; the tap enters FAULT-TIMER. -/
  | safetyTimerExpiry (n : Fin 32) (precharge : Bool)
  /-- `FAULT_THERM` (R154): Hotter NTC at T_fault sends a tap holding a block to FAULT-THERM. -/
  | faultTherm (n : Fin 32) (t : Int)
  /-- `FAULT_OV` (R132): Kelvin at cells × OV or stake output OV sends the tap to FAULT-OV. -/
  | faultOv (n : Fin 32) (v : Int)
  /-- `SHORT` (R141): A short detected by voltage sends the tap to FAULT-SHORT or the hiccup sequence. -/
  | short (n : Fin 32) (v : Int) (fallback : Bool)
  /-- `KELVIN_BAD` (R142): Kelvin disagreeing with the power pair for 100 ms substitutes the power pair; clears after 10 s. -/
  | kelvinBad (n : Fin 32) (seen : KelvinSeen)
  /-- `NTC_SPLIT` (R137): NTCs differing by 15 °C for 10 s set NTC_SPLIT and raise an alert. -/
  | ntcSplit (n : Fin 32) (a : Int) (b : Int)
  /-- `REVERSE` (R61): Power pair below −1 V holds the tap switch open and refuses a start. -/
  | reverse (n : Fin 32) (vPair : Int)
  /-- `CHARGE_FROM_SYSTEM` (R17): A tap needing negative stake current under negative string current raises an alert and may set OVERCHARGE. -/
  | chargeFromSystem (n : Fin 32) (v : Int)
  /-- `SHUNT_BITSTREAM_INVALID` (R410): An invalid bitstream holds the last string current and raises an alert. -/
  | shuntBitstreamInvalid
  /-- `SHUNT_BITSTREAM_VALID` (R410): The bitstream becomes valid again and use of the measured value resumes. -/
  | shuntBitstreamValid (i : Int)
  /-- `SH_FAULT` (R410): 10 ms of invalid bitstream latches SH_FAULT and enters SAFE. -/
  | shFault
  /-- `FB_MISMATCH` (R411): STR_FB disagreeing with STR_EN for 200 ms sets FB_MISMATCH. -/
  | fbMismatch (fb : Bool)
  /-- `STRING_OVER_1500V` (R422): String above 1500 V for 1 s raises an alert and record, repeated hourly. -/
  | stringOver1500v (v : Int)
  /-- `PILOT_IN_BAND` (R281): Pilot entering the attach band moves UNATTACHED to DEBOUNCE. -/
  | pilotInBand (x : Fin 4) (v : Int)
  /-- `DEBOUNCE_OUT` (R281): Pilot leaving the band during DEBOUNCE returns to UNATTACHED. -/
  | debounceOut (x : Fin 4) (v : Int)
  /-- `ATTACH` (R281): Pilot in band 100 ms attaches the port, fixing role and clearing counters. -/
  | attach (x : Fin 4)
  /-- `DUAL_ROLE_PHASE` (R280): A dual-role phase expires and the other presentation starts. -/
  | dualRolePhase (x : Fin 4)
  /-- `PILOT_LOSS` (R283): Pilot out of band 500 µs voids the contract, stops drawing or the tie, and enters BLANK. -/
  | pilotLoss (x : Fin 4) (v : Int)
  /-- `BLANK_END` (R281): 500 ms after a loss the port returns to UNATTACHED. -/
  | blankEnd (x : Fin 4)
  /-- `MESSAGE_TRANSMIT` (R287): After 25 µs of line idle a queued message is transmitted. -/
  | messageTransmit (x : Fin 4) (collided : Bool)
  /-- `COLLISION_BACKOFF_END` (R287): The back-off expires and the message is retransmitted. -/
  | collisionBackoffEnd (x : Fin 4)
  /-- `ACKNOWLEDGEMENT_WAIT_END` (R288): No acknowledgement 1 ms after the frame sends a retry, or ends with outcome 1 after two. -/
  | acknowledgementWaitEnd (x : Fin 4)
  /-- `ACKNOWLEDGEMENT` (R288): A received acknowledgement completes the message and advances the counter. -/
  | acknowledgement (x : Fin 4) (ctr : BitVec 3)
  /-- `MESSAGE_RECEIVED` (R289): A valid frame is acknowledged, de-duplicated and put in the receive buffer. -/
  | messageReceived (x : Fin 4) (f : Frame) (codesOk : Bool)
  /-- `ACCEPT` (R302): A received Accept completes a swap request or lets the responder apply its contract. -/
  | accept (x : Fin 4)
  /-- `REJECT` (R300): A received Reject ends a swap request or makes the responder wait 500 ms. -/
  | reject (x : Fin 4)
  /-- `WAIT` (R302): A received Wait holds back swap requests 200 ms or makes the responder wait. -/
  | wait (x : Fin 4)
  /-- `READY` (R294): A received Ready moves a sink in TRANSITION to CONTRACT or is remembered. -/
  | ready (x : Fin 4)
  /-- `KEEP_ALIVE_REQUEST` (R297): A source answers a keep-alive request and restarts its void timer. -/
  | keepAliveRequest (x : Fin 4)
  /-- `KEEP_ALIVE_RESPONSE` (R297): A sink restarts its keep-alive void timer. -/
  | keepAliveResponse (x : Fin 4)
  /-- `ROLE_SWAP_REQUEST` (R302): A received role-swap request is answered Wait, Reject or Accept by the module. -/
  | roleSwapRequest (x : Fin 4)
  /-- `VOID` (R298): A received Void voids the contract. -/
  | void (x : Fin 4)
  /-- `SOFT_RESET` (R288): A received Soft reset clears both counters and voids the contract. -/
  | softReset (x : Fin 4)
  /-- `OFFER` (R300): In BOOT or RECOVERY the responder chooses an offer and sends a Request. -/
  | offer (x : Fin 4) (objs : List (BitVec 32))
  /-- `VENDOR_DEFINED` (R305): Enter and Exit mode exchanges mark or clear entered alternate modes. -/
  | vendorDefined (x : Fin 4) (object0 : BitVec 32)
  /-- `KEEP_ALIVE` (R297): Every 5 s in CONTRACT a sink sends a keep-alive request. -/
  | keepAlive (x : Fin 4)
  /-- `KEEP_ALIVE_TIMEOUT` (R297): 12 s without a request or response voids the contract. -/
  | keepAliveTimeout (x : Fin 4)
  /-- `WINDOW_CONFIRM` (R293): Cable in the window for 10 ms moves a source to CONTRACT and sends Ready if due. -/
  | windowConfirm (x : Fin 4) (v : Int)
  /-- `TRANSITION_TIMEOUT` (R293): The 400 ms transition timer or 1 s tie close timer voids the contract and de-asserts TIE_EN. -/
  | transitionTimeout (x : Fin 4)
  /-- `READY_TIMEOUT` (R294): No Ready within 1 s of a sink apply voids the contract. -/
  | readyTimeout (x : Fin 4)
  /-- `NEGOTIATION_TIMEOUT` (R295): 3 s from TIE_EN without an Accept voids a provisional contract. -/
  | negotiationTimeout (x : Fin 4)
  /-- `TIE_TRIP` (R296): Tie current over the trip level de-asserts TIE_EN and voids the contract. -/
  | tieTrip (i : Int)
  /-- `RESPONDER_REPEAT` (R300): Every 500 ms the responder sends an Offer request again. -/
  | responderRepeat (x : Fin 4)
  /-- `SWAP_ANSWER_TIMEOUT` (R302): No answer within 500 ms ends LNK_SWAP_ROLE with RES0 3. -/
  | swapAnswerTimeout (x : Fin 4)
  /-- `SWAP_RETRY` (R302): 200 ms after a Wait a held swap request is sent. -/
  | swapRetry (x : Fin 4)
  /-- `SWAP_PRESENTATION` (R303): 20 ms into a swap the old source switches to sink presentation. -/
  | swapPresentation (x : Fin 4)
  /-- `SWAP_PILOT_LOW` (R303): The old sink sees the pilot below 2.6 V and switches to source. -/
  | swapPilotLow (x : Fin 4) (v : Int)
  /-- `SWAP_ATTACH` (R303): Pilot in band 10 ms completes the swap with roles exchanged. -/
  | swapAttach (x : Fin 4) (v : Int)
  /-- `SWAP_WINDOW_END` (R303): 100 ms without new presentations sends the port to BLANK. -/
  | swapWindowEnd (x : Fin 4)
  /-- `BEAT_SEND` (R320): Every 100 ms the leader writes SYS_BP_BEAT to the other modules. -/
  | beatSend
  /-- `BEAT` (R320): A received beat sets the leader, or stops a higher leader. -/
  | beat (addr : BitVec 3) (seq : BitVec 8)
  /-- `BEAT_TIMEOUT` (R319): 500 ms without a beat makes the module probe and decide its role. -/
  | beatTimeout (lowerAcked : Bool)
  /-- `CAP_DIVISION` (R321): Every 1 s the leader divides the backplane site cap among modules. -/
  | capDivision (peers : List PeerCap)
  /-- `FALLBACK` (R321): A follower with no beat for 5 s sets its site cap to cap ÷ NMOD. -/
  | fallback
  /-- `RD` (R395): Monitor reads words from a host address. -/
  | rd (addr : Nat) (count : Typed Nat)
  /-- `BB` (R395): Monitor shows oldest and newest record sequence and copy status. -/
  | bb
  /-- `BB_RECORD` (R395): Monitor lists the words of one black-box record. -/
  | bbRecord (seq : Nat) (count : Typed (Option Nat))
  /-- `BB_NEW` (R395): Monitor lists every new record until a key is pressed. -/
  | bbNew (keyPressed : Typed Bool)
  /-- `ST` (R395): Monitor shows module, tap, port and link states. -/
  | st
  /-- `AUTH` (R393): Monitor issues a nonce, or verifies the signed answer and enters SERVICE. -/
  | auth (answer : Typed (Option (List Byte)))
  /-- `AUTH_BLOCK_END` (R393): 60 s after a third failure AUTH is accepted again. -/
  | authBlockEnd
  /-- `BYE` (R394): Monitor returns to VIEW. -/
  | bye
  /-- `SERVICE_INACTIVITY` (R394): 15 min without input returns SERVICE to VIEW. -/
  | serviceInactivity
  /-- `BREAK` (R394): A BREAK of 10 ms on UART_RX returns SERVICE to VIEW. -/
  | lineBreak
  /-- `PR` (R395): Monitor dumps records of a core's performance ring. -/
  | pr (core : Fin 8) (count : Typed Nat)
  /-- `TEST_LATCH_ON` (R396): Monitor bypasses the counter latches on all buses. -/
  | testLatchOn
  /-- `TEST_LATCH_OFF` (R396): Monitor ends the latch bypass test mode. -/
  | testLatchOff
  /-- `CMD` (R397): Monitor passes one allowed command to C0 and returns its result. -/
  | cmd (op : Word) (args : Typed (List Word))
  /-- `HUB_RECOVERY` (R33): The hub voltage rises back above 390 V, or above 380 V after an undervoltage, ending droop scaling or the 0 A hold of stake limits. -/
  | hubRecovery (v : Nat)
  /-- `ESTOP_RELEASE` (R364): ESTOP# returns high, clearing SYS_PWR.ESTOP and FLT_MODULE.ESTOP so that SYS_LEAVE_SAFE can succeed. -/
  | estopRelease
  /-- `ROD_COOLED` (R62): A rod forced to rest by over-temperature falls below 95 °C and becomes available again. -/
  | rodCooled (n : Fin 32) (p : Fin 16) (t : Int)
  /-- `SYNC_GLIDE_END` (R93): A carrier glide back to the module's own oscillator, or to a new own frequency, reaches its target and SYS_SYNC.SRC becomes 0. -/
  | syncGlideEnd
  /-- `SLEW_COMPLETE` (R99): A v_ref ramp outside soft start reaches its target, and TAPnn_REFSTAT.PHASE returns from slewing to steady. -/
  | slewComplete (n : Fin 32)
  /-- `CUPPING_PULSE` (R144): At each 5 s boundary of the cupping pattern the block-current target switches between I_cup and 0 A and R_ohm or R_int is measured. -/
  | cuppingPulse (n : Fin 32) (dv : Int) (di : Int)
  /-- `WDG_SETTING_WRITE` (R323): C0 writes a new OPEN and CLOSE pair or a new required mask to the AON island; a valid pair or mask takes effect at the next accepted service, and an invalid pair is ignored. -/
  | wdgSettingWrite (core : Fin 8) (pair : Option (Nat × Nat)) (mask : Option Word)
deriving DecidableEq, Repr

end Sys2Proof
end

