-- ==== Sys2Proof/WellFormed.lean ====
section
/-! DEFINITION. Which terms of `Instr` stand for a command the block can be given: word counts, list lengths and the
operation field of the rows that share an opcode. -/

namespace Sys2Proof

/-- A mailbox holds 30 argument words (R239). -/
def words (args : List Word) : Bool := decide (args.length ≤ 30)

/-- ARG0 [15:8] names the row's operation of `SYS_SET_PROFILE`, or one that no row has and that is out of range (R260). -/
def opField (args : List Word) (k : Nat) : Bool :=
  decide ((args.getD 0 0).toNat / 256 = k ∨ 4 ≤ (args.getD 0 0).toNat / 256)

/-- ARG1 names the row's action of a command with two actions, or one that is out of range (R265, R271). -/
def isArg1 (args : List Word) (k : Nat) : Bool := decide ((args.getD 1 0).toNat = k ∨ 2 ≤ (args.getD 1 0).toNat)

/-- The command is well formed. -/
def Instr.wf : Instr → Bool
  | .sysGetInfo _ args => words args
  | .sysRun _ args => words args
  | .sysStandby _ args => words args
  | .standbyRampEnd => true
  | .sysSafe _ args => words args
  | .sysLeaveSafe _ args => words args
  | .sysEnterRecovery _ args => words args
  | .sysReset _ args => words args
  | .deferredStateChange => true
  | .sysRestartControl _ args => words args
  | .holdEntry => true
  | .sysEnterShip _ args => words args
  | .shipEntry => true
  | .sysSetStr _ args => words args
  | .sysSetSync _ args => words args
  | .sysSetTime _ args => words args
  | .sysSetProfileBegin _ args => words args && opField args 0
  | .sysSetProfileAdd _ args => words args && opField args 1
  | .sysSetProfileStore _ args => words args && opField args 2
  | .sysSetProfileClear _ args => words args && opField args 3
  | .sysSetVsel _ args => words args
  | .sysSaveConfig _ args => words args
  | .srcEnable _ args => words args
  | .srcDisable _ args => words args
  | .srcSetWindow _ args => words args
  | .srcSetLimit _ args => words args
  | .srcSetOv _ args => words args
  | .srcSetMode _ args => words args
  | .srcClearLock _ args => words args
  | .srcCalInput _ args => words args
  | .tapSetDescriptor _ args => words args
  | .tapGetDescriptor _ args => words args
  | .tapSetSupport _ args => words args
  | .tapSetLimits _ args => words args
  | .tapStop _ args => words args
  | .tapResume _ args => words args
  | .tapRearmTimer _ args => words args
  | .tapClearFault _ args => words args
  | .tapForget _ args => words args
  | .tapGetHistory _ args => words args
  | .tapSetRamp _ args => words args
  | .tapSetKeep _ args => words args
  | .tapSetStandin _ args => words args
  | .tapStandIn _ args => words args
  | .tapSetTrack _ args => words args
  | .tapSetCoeff _ args => words args
  | .tapLoadDefaultCoeff _ args => words args
  | .tapSetSchedule _ args => words args
  | .tapSetShed _ args => words args
  | .tapSetGangForm _ args => words args && isArg1 args 1
  | .tapSetGangDissolve _ args => words args && isArg1 args 0
  | .tapGetRods _ args => words args
  | .tapSetPlant _ args => words args
  | .arbSetMin _ args => words args
  | .arbSetLossCap _ args => words args
  | .arbGetDoses _ args => words args
  | .mtrRead _ args => words args
  | .mtrGetPubkey _ args => words args
  | .mtrGetStatement _ args => words args
  | .mtrReadStatement _ args => words args
  | .pourOpen _ args => words args
  | .pourAdd _ args => words args
  | .pourPrepare _ args => words args
  | .pourPrepared => true
  | .pourAbort _ args => words args
  | .lnkSetPresent _ args => words args
  | .lnkSend _ args => words args
  | .lnkRecv _ args => words args
  | .lnkSetContractApply _ args => words args && isArg1 args 0
  | .lnkSetContractVoid _ args => words args && isArg1 args 1
  | .lnkSetTieClose _ args => words args && isArg1 args 1
  | .lnkSetTieOpen _ args => words args && isArg1 args 0
  | .lnkSwapRole _ args => words args
  | .lnkGetStatus _ args => words args
  | .wdgSetLadder _ args => words args
  | .wdgDisable _ args => words args
  | .wdgEnable _ args => words args
  | .wdgSetLock _ args => words args
  | .wdgGetEvidence _ args => words args
  | .bbxGetInfo _ args => words args
  | .bbxSeek _ args => words args
  | .bbxRead _ args => words args
  | .rcpRegisterKey _ args => words args
  | .rcpLoad _ args => words args
  | .rcpVerify _ args => words args
  | .rcpStart _ args => words args
  | .rcpStop _ args => words args
  | .rcpGetStatus _ args => words args
  | .perfSetCtl _ args => words args
  | .perfSelect _ args => words args
  | .perfRead _ args => words args
  | .fwGetInfo _ args => words args
  | .fwStageBegin _ args => words args
  | .fwEraseComplete => true
  | .fwStageWrite _ args => words args
  | .fwStageVerify _ args => words args
  | .fwVerifyComplete => true
  | .fwActivate _ args => words args
  | .serviceFuseRod _ args => words args
  | .commandTake _ => true
  | .resultPost _ => true
  | .internalMailboxMessage _ m => decide (m.words.length = 8)
  | .doorbell _ _ args => words args
  | .mbxRelease _ => true
  | .earlyRead _ _ => true
  | .snapshotRead _ addr => decide (addr < 4096)
  | .pourCtlRelease _ => true
  | .pourCtlAbort _ => true
  | .alrAck seq => decide (seq < 2 ^ 32)
  | .alrAckClass _ => true
  | .alarmArm _ => true
  | .alarmDisarm _ => true
  | .alarmExpiry _ => true
  | .bbxWinPaneWrite _ => true
  | .paneLoaded => true
  | .shFaultClear => true
  | .hubOv3Clear => true
  | .sysShareWrite _ _ => true
  | .registerWrite addr _ => decide (addr < 4096)
  | .spiWriteFrame _ _ _ _ => true
  | .spiReadFrame _ _ => true
  | .writeTransfer _ _ _ _ => true
  | .readTransfer _ _ => true
  | .busError => true
  | .smbusTimeout => true
  | .alertResponseRead _ _ => true
  | .alertRepull => true
  | .busRecovery _ => true
  | .controllerTransfer _ => true
  | .addrProbe _ => true
  | .hkPathQualify _ _ _ => true
  | .hkPathLost _ => true
  | .housekeepingLoss => true
  | .holdUpEnd => true
  | .bootComplete _ _ _ => true
  | .recoveryKeyWaitEnd => true
  | .keyShortPress => true
  | .longPress => true
  | .longPressReset _ => true
  | .shipKeyWake => true
  | .shipKeyWakeTimeout => true
  | .estop => true
  | .faultEdge _ => true
  | .controlPlaneReady => true
  | .holdLimit => true
  | .holdRampComplete => true
  | .coreRestartDone _ => true
  | .trialEnd => true
  | .wdgService _ _ pcs => decide (pcs.length = 8)
  | .wdgCheckin _ _ => true
  | .wdgLate pcs => decide (pcs.length = 8)
  | .bbxRecordWrite _ _ => true
  | .withholdWindowClose _ => true
  | .bbxScrub => true
  | .leaseSnapshot => true
  | .arbPeriod m => decide (m.ports.length = 4) && decide (m.taps.length = 32) && m.taps.all fun t => decide (t.rods.length ≤ 16)
  | .cutEpisodeEnd _ _ => true
  | .doseApply => true
  | .recipeTick => true
  | .tickOverrun => true
  | .initTimeout => true
  | .yield out _ => decide (out.length = 32)
  | .note a => decide (a.length = 4)
  | .stop => true
  | .recipeFault code _ => decide (1 ≤ code) && decide (code ≤ 4)
  | .perfDump _ counts _ _ => decide (counts.length = 8)
  | .clusterPowerDown _ => true
  | .clusterWake _ => true
  | .clusterWakeDone _ => true
  | .hubOv => true
  | .hubDroop _ => true
  | .hubUndervoltage _ => true
  | .portInWindow _ _ => true
  | .portOutOfWindow _ _ => true
  | .qualifyEnd _ => true
  | .prechargeComplete _ _ => true
  | .prechargeTrip _ => true
  | .softstartEnd _ => true
  | .portLoss _ _ => true
  | .handOverEnd => true
  | .sourceOv _ _ => true
  | .sourceOc _ _ => true
  | .reverseCurrent _ _ => true
  | .backoffEnd _ => true
  | .rodCurrentTrip _ _ _ => true
  | .transformerPrimaryOvercurrent _ _ _ => true
  | .stakeOutputOverVoltage _ _ => true
  | .rodOverTemperature _ _ _ => true
  | .rodRestEnd _ _ => true
  | .suspect _ _ _ => true
  | .addRod _ => true
  | .shedRod _ => true
  | .wearSwap _ => true
  | .runningTimeSave => true
  | .balancingStep _ iAvg temps => decide (iAvg.length = 16) && decide (temps.length = 16)
  | .brake _ _ => true
  | .syncInValid _ => true
  | .syncLock => true
  | .syncInLoss => true
  | .stakeStart _ => true
  | .preStartResult _ m _ => decide (m.rods.length = 16)
  | .preBiasComplete _ _ => true
  | .prebiasFail _ => true
  | .softStartComplete _ => true
  | .shortCheckFail _ _ => true
  | .hiccupEnd _ => true
  | .keepLow _ _ => true
  | .standInExcess _ _ => true
  | .standInImmediateBypass _ _ => true
  | .slotFbPresent _ => true
  | .bypassRampEnd _ => true
  | .bypFail _ => true
  | .bypassFaultOpen _ => true
  | .slotFbClear _ => true
  | .slotFbClearTimeout _ => true
  | .autoReturn _ => true
  | .trackFault => true
  | .trackResume _ => true
  | .vselCount _ => true
  | .profileApply => true
  | .profileRetry => true
  | .tickFall => true
  | .commitEdge _ => true
  | .pourTimeout => true
  | .vetoEnd => true
  | .holdPullEnd => true
  | .presence _ _ => true
  | .removal _ _ => true
  | .blockInserted _ => true
  | .detectSettled _ _ _ => true
  | .cuppingEnd _ _ => true
  | .prechargeToCc _ _ => true
  | .ccToCv _ => true
  | .cvToCc _ => true
  | .endOfCharge _ _ => true
  | .topOffDepth _ => true
  | .rechargeDepth _ => true
  | .topOffTimerExpiry _ => true
  | .keepCondition _ _ => true
  | .keepRelease _ _ => true
  | .temperatureSuspension _ _ => true
  | .suspensionReturn _ _ => true
  | .temperatureBandChange _ _ => true
  | .sensorSuspend _ => true
  | .noDose _ => true
  | .noDoseReturn _ => true
  | .safetyTimerExpiry _ _ => true
  | .faultTherm _ _ => true
  | .faultOv _ _ => true
  | .short _ _ _ => true
  | .kelvinBad _ _ => true
  | .ntcSplit _ _ _ => true
  | .reverse _ _ => true
  | .chargeFromSystem _ _ => true
  | .shuntBitstreamInvalid => true
  | .shuntBitstreamValid _ => true
  | .shFault => true
  | .fbMismatch _ => true
  | .stringOver1500v _ => true
  | .pilotInBand _ _ => true
  | .debounceOut _ _ => true
  | .attach _ => true
  | .dualRolePhase _ => true
  | .pilotLoss _ _ => true
  | .blankEnd _ => true
  | .messageTransmit _ _ => true
  | .collisionBackoffEnd _ => true
  | .acknowledgementWaitEnd _ => true
  | .acknowledgement _ _ => true
  | .messageReceived _ f _ => decide (f.objs.length ≤ 7)
  | .accept _ => true
  | .reject _ => true
  | .wait _ => true
  | .ready _ => true
  | .keepAliveRequest _ => true
  | .keepAliveResponse _ => true
  | .roleSwapRequest _ => true
  | .void _ => true
  | .softReset _ => true
  | .offer _ objs => decide (objs.length ≤ 7)
  | .vendorDefined _ _ => true
  | .keepAlive _ => true
  | .keepAliveTimeout _ => true
  | .windowConfirm _ _ => true
  | .transitionTimeout _ => true
  | .readyTimeout _ => true
  | .negotiationTimeout _ => true
  | .tieTrip _ => true
  | .responderRepeat _ => true
  | .swapAnswerTimeout _ => true
  | .swapRetry _ => true
  | .swapPresentation _ => true
  | .swapPilotLow _ _ => true
  | .swapAttach _ _ => true
  | .swapWindowEnd _ => true
  | .beatSend => true
  | .beat _ _ => true
  | .beatTimeout _ => true
  | .capDivision peers => decide (peers.length ≤ 7)
  | .fallback => true
  | .rd addr _ => decide (addr < 4096)
  | .bb => true
  | .bbRecord _ count => count.val.all fun c => decide (1 ≤ c)
  | .bbNew _ => true
  | .st => true
  | .auth answer => answer.val.all fun b => decide (b.length = 64)
  | .authBlockEnd => true
  | .bye => true
  | .serviceInactivity => true
  | .lineBreak => true
  | .pr _ count => decide (1 ≤ count.val)
  | .testLatchOn => true
  | .testLatchOff => true
  | .cmd _ args => words args.val
  | .hubRecovery _ => true
  | .estopRelease => true
  | .rodCooled _ _ _ => true
  | .syncGlideEnd => true
  | .slewComplete _ => true
  | .cuppingPulse _ _ _ => true
  | .wdgSettingWrite _ _ _ => true

end Sys2Proof
end

