-- ==== Sys2Proof/Decode.lean ====
section
/-! DEFINITION. Reading a command from a table word: the spec's table gives no row any bits, so no word spells one. -/

namespace Sys2Proof

/-- The command a word spells by the bits of spec/opcode_table.json: none, since no row has bits there. -/
def decodeTableWord (_nbits _w : Nat) : Option Instr := none

end Sys2Proof
end

