-- ==== Sys2Proof/Config.lean ====
section
/-! DEFINITION. What one unit of the module fixes. The opaque constants are free values (log entry 3): nothing in
Lean can evaluate them, so a claim holds whatever they are. The other constants are figures the spec states for
every unit. -/

namespace Sys2Proof.Config

/-! Free values: manufacturing data, factory tables, cryptography, random draws. -/

/-- 64-bit module serial (R189, R259). -/
opaque serial : BitVec 64
/-- True on an LNB-5120-LC (R448). -/
opaque isLC : Bool
/-- Controller board issue of the manufacturing record (R435). -/
opaque boardIssue : Byte
/-- Public meter key, parts 0 and 1, and manufacturing certificate, parts 2 to 9, byte by byte (R189). -/
opaque pubkeyByte : Nat → Nat → Byte
/-- ECDSA P-256 signature (64 bytes, r then s) of the unit's statement key over a byte string (R191). -/
opaque signByte : List Byte → Nat → Byte
/-- SHA-256 of a byte string, byte by byte (R190, R340). -/
opaque sha256Byte : List Byte → Nat → Byte
/-- Verdict of an ECDSA P-256 check: key (X then Y), message, signature (R372, R393). -/
opaque verify : List Byte → List Byte → List Byte → Bool
/-- Holran's service key, public half (R393). -/
opaque serviceKey : List Byte
/-- Holran's firmware key, public half (R365). -/
opaque firmwareKey : List Byte
/-- Nonce drawn for `AUTH`, fresh at each draw (R393). -/
opaque nonce : Nat → BitVec 128
/-- Cycles of the AON oscillator that the LFSR runs between two challenges (R326); fresh at each draw. -/
opaque lfsrClocks : Nat → Nat
/-- Balancing gain `kbal` of R74: product of gain and error, in 1/2^15 duty, for an error in 10 mA. -/
opaque balance : Int → Int
/-- Stake efficiency η of R163 in 1/65536, for tap voltage (mV), stake current (10 mA) and active rods. -/
opaque eta : Int → Nat → Nat → Nat
/-- Factory coefficients a0, a1, a2 of the stage loss model, port and power of the current (R161, 02_source_intake.md):
the loss in mW for a current in 10 mA. -/
opaque stageA : Nat → Nat → Int
/-- Burst-idle loss of one resting rod in mW at a hub voltage in mV, from the factory table (R60, R162). -/
opaque idleRod : Nat → Nat
/-- Factory gain of a port's input-power estimate, in 1/100000 (R50). -/
opaque factoryGain : Nat → Int
/-- Factory offset of a port's input-power estimate, W (R50). -/
opaque factoryOffset : Nat → Int
/-- The outer-loop plant of R72 at one corner of a bank's region. -/
structure Plant where
  /-- Kelvin voltage, mV. -/
  volts : Nat
  /-- Active rods, with which the gain of the current source scales. -/
  rods : Nat
  /-- Output capacitance, µF. -/
  cap : Nat
  /-- L_loop, 10 nH. -/
  loopL : Nat
  /-- R_loop, 0.1 mΩ. -/
  loopR : Nat
  /-- R_blk, 10 µΩ. -/
  blockR : Nat
  /-- Time constant of the current source, µs. -/
  lag : Nat := 2
  /-- Delay of sensing, one outer-loop sample, µs. -/
  delay : Nat := 16
  /-- Time constant of the sense filter, µs. -/
  filter : Nat := 4
deriving DecidableEq, Repr

/-- Phase margin in 0.01°, gain margin in 0.01 dB and crossover in Hz of the outer loop with a bank (nine words) on a plant
at one corner (R71). The spec gives thresholds, corners and plant; where the two nested loops are opened for these figures
it does not say (log entry 65). -/
opaque margins : List Word → Plant → Int × Int × Nat
/-- Whether the flash or black-box write of a storing command fails (R254 step 5, R258 NV_FAIL). -/
opaque flashFails : Nat → Bool
/-- A number the spec leaves open where no other free value serves: the outcome of an external contact's answer
(R259), a value with no stated result. -/
opaque freeValue : Nat → Nat
/-! Figures of the spec, in mV, 10 mA, W, 0.1 °C, ms unless said. -/

/-- Rating of one intake stage, W (R32). -/
def stageRating : Nat := 41000
/-- Rating of the four stages together, W (R32, R46). -/
def intakeRating : Nat := 123000
/-- Hub regulation window (R33). -/
def hubLow : Nat := 396000
/-- Upper end of the hub window (R33). -/
def hubHigh : Nat := 404000
/-- Droop limiting below this hub voltage (R33). -/
def hubDroop : Nat := 390000
/-- Hub undervoltage threshold (R33). -/
def hubUv : Nat := 360000
/-- Hub voltage that ends the undervoltage hold (R33). -/
def hubUvEnd : Nat := 380000
/-- Stake current limit (R15). -/
def stakeAmps : Nat := 8000
/-- Stake power limit, W (R15). -/
def stakeWatts : Nat := 3750
/-- Continuous current of one rod (R58). -/
def rodAmps : Nat := 550
/-- Stake output over-voltage level (R62). -/
def stakeOv : Int := 98000
/-- Rod over-temperature (R62). -/
def rodHot : Int := 1150
/-- Temperature below which a hot rod is released (R62). -/
def rodCool : Int := 950
/-- Lowest and highest tap voltage target (R98). -/
def tapMin : Nat := 18000
/-- Highest tap voltage target (R98). -/
def tapMax : Nat := 96000
/-- Charge timer ceiling, ms (R156). -/
def chargeTimerMax : Nat := 64800000
/-- Coolant-loss budget at full cooling, W (R162). -/
def lossMax : Nat := 3600
/-- Coolant-loss budget with a bad inlet sensor, W (R162). -/
def lossBadInlet : Nat := 1800
/-- Housekeeping in the loss model, W (R162). -/
def housekeeping : Nat := 60
/-- Absolute maximum of a source port (R420). -/
def absPort : Int := 1100000
/-- Absolute maximum of a tap (R420). -/
def absTap : Int := 100000
/-- Absolute maximum of AUX, mV (R404, R420). -/
def absAux : Int := 125000
/-- Absolute maximum of TRACK, mV (R420). -/
def absTrack : Int := 15000
/-- Absolute maximum of a pilot, 10 mV (R278, R420). -/
def absPilot : Int := 3000
/-- Absolute maximum of the string sense (R420). -/
def absString : Int := 1600000
/-- Absolute minimum of the string sense (R420). -/
def absStringMin : Int := -50000
/-- The module stands at an altitude of 2000 m to 4000 m (R431), which the installation fixes. -/
opaque highAltitude : Bool
/-- Rated string voltage (R421, R422), at high altitude lower (R431). -/
def stringMax : Int := if highAltitude then 1200000 else 1500000
/-- The watchdog key (R272). -/
def wdgKey : List Word := [0x7A3C, 0xC5E1, 0x1D96]
/-- Attach band of the pilot, 10 mV (R278). -/
def attachLow : Int := 260
/-- Upper end of the attach band, 10 mV (R278). -/
def attachHigh : Int := 560
/-- Seats of the black-box rings: event records are bounded by bytes, snapshots and history by slots (R338). -/
def eventRingWords : Nat := 320 * 1024 / 2
/-- Snapshot slots (R338). -/
def snapSlots : Nat := 716
/-- History slots (R338). -/
def histSlots : Nat := 2048
/-- COUNTERS records the flush area holds: 32 KiB over the record's words (R338, log entry 8). -/
def flushSlots : Nat := 11

end Sys2Proof.Config
end

