-- ==== Sys2Proof/Machine/State.lean ====
section
/-! DEFINITION. The state of the module as plain data, its reset value, and the reasons a step can stop. -/

namespace Sys2Proof.Machine

/-- Why the block stops with a fault. -/
inductive Fault where
  /-- A command carries a voltage beyond an absolute maximum rating; R420 gives no behaviour there. Raised by the
  events that carry a port, tap, string, AUX, TRACK or pilot voltage. Safe: the model stops where the hardware may do anything. -/
  | beyondAbsoluteMaximum
deriving DecidableEq, Repr

/-- Why a command is refused. -/
inductive Refusal where
  /-- The command has no meaning yet in the model. Raised by `exec` alone. Safe: nothing can be proved of it. -/
  | notModelled (mnemonic : String)
deriving DecidableEq, Repr

/-- Module states (R26); OFF and SHIP have no code in `SYS_STATE`. -/
inductive ModState where
  | off | ship | boot | standby | run | hold | safe | recovery
deriving DecidableEq, Repr

/-- Port states (R36). -/
inductive PortState where
  | disabled | idle | qualify | precharge | softstart | online | backoff | locked
deriving DecidableEq, Repr

/-- Tap states (R129). -/
inductive TapState where
  | absent | detect | cupping | precharge | cc | cv | done | topoff | suspended | keep | standIn
  | faultTimer | faultShort | faultOpen | faultOv | faultTherm
deriving DecidableEq, Repr

/-- Host mailbox states (R239). -/
inductive MbxState where
  | empty | pending | taken | ready
deriving DecidableEq, Repr

/-- Pour states (R195). -/
inductive PourState where
  | idle | opened | validating | prepared | released
deriving DecidableEq, Repr

/-- Link attach states (R281). -/
inductive LinkState where
  | off | unattached | debounce | attached | transition | contract | swap | blank
deriving DecidableEq, Repr

/-- Pilot presentations (R279). -/
inductive Present where
  | off | sink | source | dual
deriving DecidableEq, Repr

/-- Removal actions (R130). -/
inductive RemovalAct where
  | standIn | bypass | openTap
deriving DecidableEq, Repr

/-- Tracking modes (R115). -/
inductive TrackMode where
  | off | ratio | coincident
deriving DecidableEq, Repr

/-- Selection modes (R45). -/
inductive SelMode where
  | priority | blend | cap | contract
deriving DecidableEq, Repr

/-- Forced rests of a rod (R62, R75). -/
inductive RodRest where
  | none | trip | primTrip
deriving DecidableEq, Repr

/-- Where a stake's start sequence stands (R101, R104). -/
inductive StartPhase where
  | off | pretest | prebias | running | hiccup
deriving DecidableEq, Repr

/-- Why a hand-off to the slot-bypass unit runs (R112). -/
inductive HandOff where
  | none | excess | stop | removal
deriving DecidableEq, Repr

/-- Accepted state changes that wait for their moment (R257). -/
inductive Deferred where
  | recovery | reset | holdCmd | holdFw | bootFw | ship
deriving DecidableEq, Repr

/-- Firmware stage states (R275). -/
inductive StageState where
  | idle | erasing | opened | verifying | verified | failed
deriving DecidableEq, Repr

/-- Recipe engine phases (R375, R376); `starting` waits for an arbiter period after another
recipe to begin, and `alone` for it to have run (R383). -/
inductive RcpPhase where
  | idle | starting | alone | init | between | tick
deriving DecidableEq, Repr

/-- One message in an internal mailbox (R249). -/
structure BoxMsg where
  /-- Sending core. -/
  sender : Fin 8
  /-- Sequence number of that sender. -/
  seq : Word
  /-- Host tag: 0 with no host command served, else bit 15 set, the mailbox and the number of its taking. -/
  tag : Word
  /-- Message words. -/
  words : List Word
deriving DecidableEq, Repr

/-- A command's return code and result words before firmware posts them (R246). -/
structure Answer where
  /-- Return code (R258). -/
  code : Nat
  /-- Result words. -/
  res : List Word
deriving DecidableEq, Repr

/-- One alert (R436, R440, R441). -/
structure Alert where
  /-- Sequence number. -/
  seq : Nat
  /-- Class 0 to 3. -/
  cls : Nat
  /-- KIND. -/
  kind : Nat
  /-- REASON. -/
  reason : Nat
  /-- INST. -/
  inst : Nat
  /-- PARAM. -/
  param : BitVec 32
  /-- TIME, ms. -/
  time : Nat
  /-- TIME_VALID. -/
  timeValid : Bool
  /-- DEFERRED. -/
  deferred : Bool
  /-- BBX_SEQ. -/
  bbxSeq : Nat
deriving DecidableEq, Repr

/-- Who a queued link message serves (R282 orders them). -/
inductive TxClass where
  | voidMsg | readyMsg | keepAlive | swapAnswer | responder | host
deriving DecidableEq, Repr

/-- A link message to send: its class, type, objects and the command that waits for its outcome. -/
structure TxMsg where
  /-- Class of R282. -/
  cls : TxClass
  /-- Message type. -/
  type : Nat
  /-- Objects. -/
  objs : List (BitVec 32)
  /-- The `LNK_SEND` that waits. -/
  via : Option Via
deriving DecidableEq, Repr

/-- A transfer queued by firmware as bus controller (R235): target ADDR, start address, words. -/
structure CtlXfer where
  /-- ADDR of the target. -/
  target : BitVec 3
  /-- Start address. -/
  addr : Nat
  /-- Words. -/
  words : List Word
  /-- Words to read; 0 for a write. -/
  reads : Nat := 0
deriving DecidableEq, Repr

/-- How the words of an answer of the monitor are laid out (R392, R393, R395, R397). -/
inductive MonForm where
  | plain | prompt | command | nonce | key
  | rows (k : Nat) (base : Option Nat)
deriving DecidableEq, Repr

/-- One watchdog record (R337). -/
structure Evidence where
  /-- Cause, as LAST_CAUSE. -/
  cause : Nat
  /-- Rung. -/
  rung : Nat
  /-- F. -/
  f : Nat
  /-- N. -/
  n : Nat
  /-- Module state code. -/
  modState : Nat
  /-- Challenge in force. -/
  challenge : Word
  /-- Token written, 0 for a late failure. -/
  token : Word
  /-- Effective required mask. -/
  req : Word
  /-- Accumulated mask. -/
  acc : Word
  /-- Missing mask. -/
  missing : Word
  /-- Count at the failure. -/
  count : Nat
  /-- Program counters of C0 to C7. -/
  pcs : List (BitVec 32)
  /-- Time of the last accepted service. -/
  lastGood : Nat
  /-- Time of the failure. -/
  time : Nat
deriving DecidableEq, Repr

/-- Bytes of an erasable store as (address, byte) pairs, addresses strictly rising, no entry equal to the erased
value 0xFF that an unlisted address reads as (R373). -/
abbrev Memory := List Host.Cell

/-- The factory coefficient banks (R69). -/
def factoryBanks : Vector (Vector Word 9) 4 :=
  #v[#v[0x1C00, 0x0090, 3, 0x3000, 0x0200, 1, 0x4000, 0, 0x7F00],
     #v[0x2400, 0x00C0, 3, 0x3800, 0x0280, 1, 0x4000, 0, 0x7F00],
     #v[0x1600, 0x0070, 3, 0x2C00, 0x01C0, 1, 0x3000, 0, 0x7F00],
     #v[0x1E00, 0x00A0, 3, 0x3400, 0x0240, 1, 0x3000, 0, 0x7F00]]

/-- The Reset column of a tap's mirror block (R96, R122, R160, R179). -/
def tapBlock : List Word :=
  [0x2000, 0, 0, 0, 0, 0, 0, 0, 0x8000, 0x8000, 0x0060, 0, 0, 0xFFFF, 0, 0xFF00]
    ++ [0, 0, 0, 0, 0, 0, 0, 0, 0, 0xFFFF, 0, 0x1F40]

/-- The Reset column of a port's block (R57). -/
def portBlock : List Word := [0, 0, 0, 0, 0, 0, 0, 0, 0x4E20, 0]

/-- The Reset column of the hub and arbiter registers (R57, R179). -/
def hubBlock : List Word := 0x0010 :: List.replicate 67 0 ++ [0x0E10, 0, 0, 0, 0]

/-- The Reset column of the WDG and BBX registers that mirror the AON island (R349). -/
def aonBlock : List Word := [0x0063, 0, 0x0040, 0x0100, 0, 1] ++ List.replicate 10 0 ++ [0x0003, 0, 0, 0, 0, 0]

/-- One host mailbox (10_mailboxes R239, R252). -/
structure Mailbox where
  /-- MBXn_STATUS.STATE (10 R252). -/
  state : MbxState := .empty
  /-- MBXn_STATUS.EARLY, set by a result read while not READY (10 R252). -/
  early : Bool := false
  /-- MBXn_STATUS.CODE, the low byte of the return code while READY (10 R252). -/
  code : Nat := 0
  /-- result words held while READY; their number is RLEN (10 R252). -/
  res : List Word := []
  /-- MBXn_TAKEN.ACCEPT (10 R244). -/
  accept : Nat := 0
  /-- MBXn_TAKEN.SEQ, takes since power-on reset (10 R252). -/
  seq : BitVec 8 := 0
  /-- MBXn_CMD, the opcode of the last doorbell (10 R252). -/
  opcode : Word := 0
  /-- MBXn_ARGk (10 R252). -/
  args : Vector Word 30 := .replicate 30 0
  /-- the return code and result words the owning core has produced and firmware has not posted yet (10 R246). -/
  answer : Option Answer := none
deriving DecidableEq, Repr

/-- `Mailbox` at its reset values. -/
def Mailbox.reset : Mailbox := {}

/-- One alarm timer (07_meters_and_timers R192, R194). -/
structure Alarm where
  /-- MTR_ALMk_LOAD, ms (07 R194). -/
  load : Nat := 0
  /-- MTR_ALMk_REMAIN, ms (07 R194). -/
  remain : Nat := 0
  /-- RUNNING (07 R194). -/
  running : Bool := false
  /-- EXPIRED (07 R194). -/
  expired : Bool := false
  /-- ACTION (07 R194). -/
  action : BitVec 2 := 0
  /-- the SYS_STANDBY of an expiry in HOLD waits until the plane is ready (07 R192). -/
  standbyWaits : Bool := false
deriving DecidableEq, Repr

/-- `Alarm` at its reset values. -/
def Alarm.reset : Alarm := {}

/-- One source port and its intake stage (02_source_intake R35 to R57). -/
structure Port where
  /-- SRCx_STATE.STATE (02 R57). -/
  state : PortState := .disabled
  /-- the enable setting (02 R450); reset value DESIGN CHOICE, assumption 2. -/
  enabled : Bool := false
  /-- window minimum (02 R35). -/
  vMin : Nat := 270000
  /-- window maximum (02 R35). -/
  vMax : Nat := 980000
  /-- source OV trip level (02 R41). -/
  ovLevel : Nat := 1030000
  /-- input current limit (02 R43). -/
  iLim : Nat := 20000
  /-- rank; A 1, B 2, C 3, D 4 (02 R47). -/
  rank : Nat := 1
  /-- BLEND weight (02 R47). -/
  weight : Nat := 1
  /-- power cap, 0 none (02 R47). -/
  cap : Nat := 0
  /-- SRCx_VIN (02 R57). -/
  vin : Int := 0
  /-- SRCx_IIN (02 R57). -/
  iin : Int := 0
  /-- SRCx_PIN, the input-power estimate (02 R57). -/
  pin : Int := 0
  /-- SRCx_ALLOW (02 R57). -/
  allow : Nat := 0
  /-- LAST_TRIP (02 R57). -/
  lastTrip : Nat := 0
  /-- HANDOVER_WAIT (02 R57). -/
  handoverWait : Bool := false
  /-- times (ms) of the trips counted towards LOCKED (02 R36). -/
  trips : List Nat := []
  /-- SRCx_TRIP_TOTAL, held in flash (02 R57). -/
  tripTotal : Nat := 0
  /-- CAL, an in-service calibration is stored (02 R57). -/
  cal : Bool := false
  /-- the stored in-service gain trim (02 R50). -/
  trim : Int := 0
  /-- time since entry to SOFTSTART, for the rising ceiling (02 R44); reset value DESIGN CHOICE, assumption 2. -/
  softMs : Nat := 0
  /-- FLT_PORT.TRIPPED bit (20 R442). -/
  tripped : Bool := false
  /-- the narrow-window alert of R48 has been raised (02 R48); reset value DESIGN CHOICE, assumption 2. -/
  narrow : Bool := false
  /-- the allowance at the start of the 5 ms move now made (02 R47); reset value DESIGN CHOICE, assumption 2. -/
  allowFrom : Nat := 0
  /-- the allowance that move leads to (02 R47); reset value DESIGN CHOICE, assumption 2. -/
  allowTo : Nat := 0
  /-- ms of that move passed, 5 at its end (02 R47); reset value DESIGN CHOICE, assumption 2. -/
  allowMs : Nat := 5
  /-- SRC_DISABLE has been accepted and the allowance ramps to zero before the switches open (02 R38). -/
  stopping : Bool := false
  /-- input current limit in force: a limit raised while ONLINE waits for the next period (02 R43). -/
  limIn : Nat := 20000
deriving DecidableEq, Repr

/-- `Port` at its reset values. -/
def Port.reset : Port := {}

/-- One 64-bit counter with its sub-unit residue (07 R181). -/
structure Ctr where
  /-- the counter in its unit (07 R194). -/
  val : BitVec 64 := 0
  /-- the residue below one unit (07 R181); reset value DESIGN CHOICE, assumption 2. -/
  res : Nat := 0
  /-- what lies below one unit of the residue, so that nothing is lost to rounding (07 R181); a field of the model itself. -/
  sub : Nat := 0
deriving DecidableEq, Repr

/-- `Ctr` at its reset values. -/
def Ctr.reset : Ctr := {}

/-- The seven counters of one tap (07 R180). -/
structure TapCtrs where
  /-- E_STAKE (07 R180). -/
  eStake : Ctr := .reset
  /-- E_BLK_IN (07 R180). -/
  eBlkIn : Ctr := .reset
  /-- E_BLK_OUT (07 R180). -/
  eBlkOut : Ctr := .reset
  /-- Q_BLK_IN (07 R180). -/
  qBlkIn : Ctr := .reset
  /-- Q_BLK_OUT (07 R180). -/
  qBlkOut : Ctr := .reset
  /-- SF_SUP (07 R180). -/
  sfSup : Ctr := .reset
  /-- SF_CON (07 R180). -/
  sfCon : Ctr := .reset
deriving DecidableEq, Repr

/-- `TapCtrs` at its reset values. -/
def TapCtrs.reset : TapCtrs := {}

/-- The two counters of one port (07 R180). -/
structure PortCtrs where
  /-- E_IN (07 R180). -/
  eIn : Ctr := .reset
  /-- Q_IN (07 R180). -/
  qIn : Ctr := .reset
deriving DecidableEq, Repr

/-- `PortCtrs` at its reset values. -/
def PortCtrs.reset : PortCtrs := {}

/-- Every counter of the module, copied whole by a lease snapshot (07 R180, R186). -/
structure Counters where
  /-- tap counters (07 R194). -/
  taps : Vector TapCtrs 32 := .replicate 32 .reset
  /-- port counters (07 R194). -/
  ports : Vector PortCtrs 4 := .replicate 4 .reset
  /-- SF_SUP_TOTAL (07 R180). -/
  sfSupTotal : Ctr := .reset
  /-- SF_CON_TOTAL (07 R180). -/
  sfConTotal : Ctr := .reset
  /-- E_STRING (07 R180). -/
  eString : Ctr := .reset
  /-- LNK_TIE_E (12 R299). -/
  tieE : Ctr := .reset
deriving DecidableEq, Repr

/-- `Counters` at its reset values. -/
def Counters.reset : Counters := {}

/-- One rod of a stake (03_rods_and_stakes R60, R62, R79, R86). -/
structure Rod where
  /-- bit of TAPnn_RODS_OK (03 R96). -/
  healthy : Bool := true
  /-- health cause of TAP_GET_RODS, 0 healthy to 6 (11 R265). -/
  cause : Nat := 0
  /-- bit of TAPnn_RODS_ACTIVE (03 R96). -/
  active : Bool := false
  /-- the forced rest of 1 s in force: none, current trip or primary trip (03 R62); reset value DESIGN CHOICE, assumption 2. -/
  rest : RodRest := .none
  /-- running time (03 R79); reset value DESIGN CHOICE, assumption 2. -/
  runTime : Nat := 0
  /-- running time last saved to flash (03 R79); reset value DESIGN CHOICE, assumption 2. -/
  savedTime : Nat := 0
  /-- balancing trim, held as Q1.15 counts (03 R74); reset value DESIGN CHOICE, assumption 2. -/
  trim : Int := 0
  /-- last rod temperature (11 R265); reset value DESIGN CHOICE, assumption 2. -/
  temp : Int := 250
  /-- times (ms) of the rod current trips of the last 10 s (03 R86). -/
  trips : List Nat := []
  /-- times (ms) of the primary trips of the last 10 s (03 R86). -/
  primTrips : List Nat := []
  /-- times (ms) of the suspect rests of the last 24 h (03 R75). -/
  suspects : List Nat := []
  /-- the sensor has passed 115 C and is not yet below 95 C (03 R62); reset value DESIGN CHOICE, assumption 2. -/
  overTemp : Bool := false
  /-- rests as suspect (03 R75). -/
  susp : Bool := false
  /-- buck duty d; 0 while the rod rests (03 R67). -/
  duty : Int := 0
  /-- inductor current last sensed (03 R67); reset value DESIGN CHOICE, assumption 2. -/
  iRod : Int := 0
  /-- intermediate rail last sensed (03 R67); reset value DESIGN CHOICE, assumption 2. -/
  vInt : Int := 0
  /-- carrier phase, in counts of 78.125 ps at 500 kHz, 25600 to a period (03 R73); reset value DESIGN CHOICE, assumption 2. -/
  phase : Nat := 0
  /-- phase the rod moves to (03 R73); reset value DESIGN CHOICE, assumption 2. -/
  phaseTo : Nat := 0
deriving DecidableEq, Repr

/-- `Rod` at its reset values. -/
def Rod.reset : Rod := {}

/-- One stake: its reference generator, soft start, tap switch, bypass, rods and compensator (03, 04). -/
structure Stake where
  /-- the stake converts (not "stopped") (05 R129). -/
  conv : Bool := false
  /-- where the start sequence stands: off, pre-start test, pre-bias, ramping, running or hiccup off time (04 R101); reset value DESIGN CHOICE, assumption 2. -/
  start : StartPhase := .off
  /-- tap switch closed (03 R61). -/
  sw : Bool := false
  /-- v_ref at 1 uV (R97); TAPnn_VREF shows it in mV (04 R97). -/
  vref : Nat := 0
  /-- the voltage target v_ref moves towards (04 R99); reset value DESIGN CHOICE, assumption 2. -/
  vTarget : Nat := 0
  /-- the block-current target i_blk_target (04 R97); reset value DESIGN CHOICE, assumption 2. -/
  iTarget : Int := 0
  /-- command and dose limit in force at the stake (03 R66); reset value DESIGN CHOICE, assumption 2. -/
  ilimRun : Nat := 0
  /-- a soft start is in progress (PHASE 1) (04 R101). -/
  softStart : Bool := false
  /-- PHASE 2 (04 R122). -/
  slewing : Bool := false
  /-- ATTEMPTS (04 R122). -/
  attempts : Nat := 0
  /-- SHORT_SEEN (04 R122). -/
  shortSeen : Bool := false
  /-- PREBIAS_FAIL (04 R122). -/
  prebiasFail : Bool := false
  /-- SLOT_BYP asserted; BYP_REQ (04 R122). -/
  slotByp : Bool := false
  /-- SLOT_FB present; BYP_FB (04 R122). -/
  slotFb : Bool := false
  /-- the 20 ms bypass ramp runs (04 R112). -/
  bypRamp : Bool := false
  /-- ms of the bypass ramp passed (04 R112); reset value DESIGN CHOICE, assumption 2. -/
  bypMs : Nat := 0
  /-- Kelvin voltage, stake current and v_ref (mV) at each failed attempt of the present start sequence (04 R105); reset value DESIGN CHOICE, assumption 2. -/
  caps : List (Int × Int × Int) := []
  /-- BYPASSED (04 R122). -/
  bypassed : Bool := false
  /-- BYP_FAIL (04 R122). -/
  bypFail : Bool := false
  /-- DROOP_SI (04 R122). -/
  droopSi : Bool := false
  /-- v_ref has reached the stand-in reference since entry (04 R111). -/
  refReached : Bool := false
  /-- a stand-in start from the bypass is waiting for SLOT_FB to clear (04 R109). -/
  fromBypass : Bool := false
  /-- why a hand-off to the bypass runs: none, excess, stop or removal (04 R112). -/
  handOff : HandOff := .none
  /-- times (ms) of auto-returns that ended in a new hand-off (04 R113). -/
  returns : List Nat := []
  /-- TAP_STOP had no SLOT_FB for 150 ms while the firmware of the tap did not run (05 R134); reset value DESIGN CHOICE, assumption 2. -/
  openDue : Bool := false
  /-- the present stand-in was entered by auto-return (04 R113). -/
  autoReturned : Bool := false
  /-- the sixteen rods (03 R58). -/
  rods : Vector Rod 16 := .replicate 16 .reset
  /-- BANK (03 R96). -/
  bank : Nat := 0
  /-- HV of R70 with its hysteresis (03 R70); reset value DESIGN CHOICE, assumption 2. -/
  hv : Bool := false
  /-- MANY of R70 with its hysteresis (03 R70); reset value DESIGN CHOICE, assumption 2. -/
  many : Bool := false
  /-- voltage-loop output u (03 R68); reset value DESIGN CHOICE, assumption 2. -/
  uV : Int := 0
  /-- voltage-loop e_prev (03 R68); reset value DESIGN CHOICE, assumption 2. -/
  eV : Int := 0
  /-- current-loop output u (03 R68); reset value DESIGN CHOICE, assumption 2. -/
  uC : Int := 0
  /-- current-loop e_prev (03 R68); reset value DESIGN CHOICE, assumption 2. -/
  eC : Int := 0
  /-- stake current demand of the last outer-loop sample (03 R66); reset value DESIGN CHOICE, assumption 2. -/
  ist : Int := 0
  /-- i_rod_ref of the last outer-loop sample (03 R66); reset value DESIGN CHOICE, assumption 2. -/
  rodRef : Int := 0
  /-- a braking event is in progress or ended less than 1 ms ago (03 R84). -/
  braking : Bool := false
  /-- TAPnn_STAKE.BRAKE (03 R96). -/
  brake : Bool := false
  /-- PRETEST_FAIL (03 R96). -/
  pretestFail : Bool := false
  /-- WITHDRAWN, until power-on reset (03 R96). -/
  withdrawn : Bool := false
  /-- steps of the sixteen made towards the new phases (03 R73); reset value DESIGN CHOICE, assumption 2. -/
  phaseStep : Nat := 16
  /-- a wear swap was deferred and is due (03 R79); reset value DESIGN CHOICE, assumption 2. -/
  wearDue : Bool := false
  /-- worn rod (position, stake of the pair) to be shed 100 us after its replacement joined (03 R79); reset value DESIGN CHOICE, assumption 2. -/
  swapOut : Option (Fin 16 × Fin 2) := none
  /-- this stake's part of a pre-start test has no result yet (03 R83); reset value DESIGN CHOICE, assumption 2. -/
  testing : Bool := false
  /-- output-node voltage last sensed (03 R62); reset value DESIGN CHOICE, assumption 2. -/
  vNode : Int := 0
  /-- braking holds both buck switches of every active rod off (03 R84). -/
  buckOff : Bool := false
  /-- time for which the stake has been stopped with Kelvin and power pair at or above cells x 0.5 V (05 R132); reset value DESIGN CHOICE, assumption 2. -/
  clearMs : Nat := 0
  /-- time of the last auto-return (04 R113); reset value DESIGN CHOICE, assumption 2. -/
  returnAt : Nat := 0
deriving DecidableEq, Repr

/-- `Stake` at its reset values. -/
def Stake.reset : Stake := {}

/-- The settings of one tap other than its descriptor (R256). -/
structure TapCfg where
  /-- keep enable (05 R130). -/
  keepEn : Bool := true
  /-- bypass-on-fault (05 R130). -/
  bypOnFault : Bool := true
  /-- removal action (05 R130). -/
  removal : RemovalAct := .standIn
  /-- cmd_lim; none is no limit (11 R265); reset value DESIGN CHOICE, assumption 2. -/
  cmdLim : Option Nat := none
  /-- soft-start rate (04 R98). -/
  softRate : Nat := 20
  /-- slew rate (04 R98). -/
  slewRate : Nat := 20
  /-- keep voltage; none is the descriptor's default (04 R106). -/
  keepV : Option Nat := none
  /-- stand-in voltage; none is the descriptor's nominal (04 R108). -/
  siV : Option Nat := none
  /-- window minimum; none is 0.8 x (04 R108). -/
  siMin : Option Nat := none
  /-- window maximum; none is 1.2 x (04 R108). -/
  siMax : Option Nat := none
  /-- auto-return (04 R108). -/
  autoReturn : Bool := false
  /-- tracking mode (04 R115). -/
  track : TrackMode := .off
  /-- track full scale V_TFS (04 R115); reset value DESIGN CHOICE, assumption 2. -/
  trackFs : Nat := 18000
  /-- contracted minimum (06 R170). -/
  minCur : Nat := 0
  /-- lessee identifier (06 R170). -/
  lessee : Nat := 0
  /-- this stake is part of a ganged pair (03 R63); reset value DESIGN CHOICE, assumption 2. -/
  gang : Bool := false
  /-- voltage threshold of bank selection (03 R70). -/
  hvThr : Nat := 48000
  /-- rod threshold (03 R70). -/
  rodThr : Nat := 8
  /-- add fraction (03 R77). -/
  addPct : Nat := 80
  /-- shed fraction (03 R77). -/
  shedPct : Nat := 60
  /-- plant model L_loop minimum (03 R72). -/
  lMin : Nat := 50
  /-- L_loop maximum (03 R72). -/
  lMax : Nat := 400
  /-- R_loop minimum (03 R72). -/
  rMin : Nat := 10
  /-- R_loop maximum (03 R72). -/
  rMax : Nat := 100
  /-- coefficient banks (03 R69). -/
  banks : Vector (Vector Word 9) 4 := factoryBanks
  /-- SYS_SHAREnn.SHARE (13 R322). -/
  share : Nat := 0
  /-- SYS_SHAREnn.ROLE (13 R322). -/
  helper : Bool := false
  /-- PARTNER_ADDR (13 R322). -/
  partnerAddr : BitVec 3 := 0
  /-- PARTNER_TAP (13 R322). -/
  partnerTap : BitVec 5 := 0
deriving DecidableEq, Repr

/-- `TapCfg` at its reset values. -/
def TapCfg.reset : TapCfg := {}

/-- The block descriptor (05 R123); an absent value stands for its default. -/
structure Descriptor where
  /-- chemistry class 0 LFP, 1 NMC, 2 LTO (05 R123). -/
  chem : Nat := 0
  /-- cells in series (05 R123). -/
  cells : Nat := 6
  /-- DONE mode FLOAT (05 R123). -/
  doneFloat : Bool := false
  /-- NTCs fitted (05 R123). -/
  ntcs : Nat := 2
  /-- no-NTC policy SUSPEND (05 R123). -/
  noNtcSuspend : Bool := false
  /-- nameplate capacity (05 R123). -/
  nameplate : Nat := 50
  /-- fast-charge current (05 R123). -/
  iFast : Nat := 50
  /-- block serial (05 R123). -/
  serial : BitVec 64 := 0
  /-- CV per cell (05 R123). -/
  cv : Option Nat := none
  /-- OV per cell (05 R123). -/
  ov : Option Nat := none
  /-- keep per cell (05 R123). -/
  keep : Option Nat := none
  /-- nominal per cell (05 R123). -/
  nominal : Option Nat := none
  /-- precharge threshold per cell (05 R123). -/
  preThr : Option Nat := none
  /-- precharge current (05 R123). -/
  preCur : Option Nat := none
  /-- precharge timer (05 R123). -/
  preTimer : Option Nat := none
  /-- charge timer factor (05 R123). -/
  kFactor : Option Nat := none
  /-- end-of-charge N (05 R123). -/
  eocN : Option Nat := none
  /-- top-off depth (05 R123). -/
  topDepth : Option Nat := none
  /-- recharge depth (05 R123). -/
  reDepth : Option Nat := none
  /-- top-off current (05 R123). -/
  topCur : Option Nat := none
  /-- top-off timer (05 R123). -/
  topTimer : Option Nat := none
  /-- T1 (05 R123). -/
  t1 : Option Int := none
  /-- T2 (05 R123). -/
  t2 : Option Int := none
  /-- T3 (05 R123). -/
  t3 : Option Int := none
  /-- T4 (05 R123). -/
  t4 : Option Int := none
  /-- T_fault (05 R123). -/
  tFault : Option Int := none
  /-- cold-band current fraction (05 R123). -/
  coldFrac : Option Nat := none
  /-- warm-band CV reduction (05 R123). -/
  warmRed : Option Nat := none
  /-- R_max (05 R123). -/
  rMaxInt : Option Nat := none
deriving DecidableEq, Repr

/-- `Descriptor` at its reset values. -/
def Descriptor.reset : Descriptor := {}

/-- One one-shot tap timer (05 R156 to R158). -/
structure SafetyTimer where
  /-- armed (05 R156). -/
  armed : Bool := false
  /-- size at arming (05 R156). -/
  size : Nat := 0
  /-- elapsed, at the rate resolution of R157 (05 R157). -/
  elapsed : Nat := 0
  /-- has reached its size (05 R158). -/
  expired : Bool := false
deriving DecidableEq, Repr

/-- `SafetyTimer` at its reset values. -/
def SafetyTimer.reset : SafetyTimer := {}

/-- The cut episode of one tap and one guarantee (06 R173). -/
structure Episode where
  /-- an episode is open (06 R173). -/
  running : Bool := false
  /-- consecutive periods without a shortfall (06 R173). -/
  quiet : Nat := 0
  /-- shortfall of the episode (06 R173). -/
  total : Nat := 0
  /-- time of the first shortfall (06 R173). -/
  since : Nat := 0
  /-- that time is set module time (06 R173); reset value DESIGN CHOICE, assumption 2. -/
  sinceValid : Bool := false
  /-- the alert and record of its start have been issued (06 R177). -/
  told : Bool := false
  /-- cause 1 to 8 of R440 (06 R173). -/
  cause : Nat := 0
deriving DecidableEq, Repr

/-- `Episode` at its reset values. -/
def Episode.reset : Episode := {}

/-- One tap: state machine, sensing, flags, timers, dose (05, 06). -/
structure Tap where
  /-- TAPnn_STATE.STATE (05 R160). -/
  state : TapState := .absent
  /-- CAUSE: of SUSPENDED (R131), or 1 or 2 in FAULT-TIMER (05 R160). -/
  cause : Nat := 0
  /-- the state left for KEEP or SUSPENDED (05 R132). -/
  left : TapState := .absent
  /-- the cause of a SUSPENDED state left for KEEP (05 R132). -/
  leftCause : Nat := 0
  /-- HOST_STOP (05 R160). -/
  hostStop : Bool := false
  /-- DETECT serves a new block (05 R143). -/
  newBlock : Bool := false
  /-- the descriptor; none as shipped (05 R123). -/
  desc : Option Descriptor := none
  /-- settings (11 R256). -/
  cfg : TapCfg := .reset
  /-- the stake that serves the tap (03 R96). -/
  stake : Stake := .reset
  /-- TAPnn_VKEL (05 R160). -/
  vKel : Int := 0
  /-- power-pair voltage (03 R61); reset value DESIGN CHOICE, assumption 2. -/
  vPair : Int := 0
  /-- TAPnn_ISTK (05 R160). -/
  iStk : Int := 0
  /-- NTC A reading; reset reads as shorted, so not plausible (TAPnn_NTCA 0x8000) (05 R160); reset value DESIGN CHOICE, assumption 2. -/
  ntcA : Int := 2000
  /-- NTC B reading (05 R160); reset value DESIGN CHOICE, assumption 2. -/
  ntcB : Int := 2000
  /-- KELVIN_BAD (05 R160). -/
  kelvinBad : Bool := false
  /-- REVERSE (05 R160). -/
  reverse : Bool := false
  /-- OVERCHARGE (05 R160). -/
  overcharge : Bool := false
  /-- REMOVED (05 R160). -/
  removed : Bool := false
  /-- INSERTED (05 R160). -/
  inserted : Bool := false
  /-- TIMER_EXP (05 R160). -/
  timerExp : Bool := false
  /-- CUP_DONE (05 R160). -/
  cupDone : Bool := false
  /-- EOC (05 R160). -/
  eoc : Bool := false
  /-- FALLBACK (05 R160). -/
  fallback : Bool := false
  /-- NTC_SPLIT (05 R160). -/
  ntcSplit : Bool := false
  /-- POUR_SKIP (05 R160). -/
  pourSkip : Bool := false
  /-- KEEP_LOW (04 R122). -/
  keepLow : Bool := false
  /-- TRACKING (04 R122). -/
  tracking : Bool := false
  /-- TAPnn_ACTIVE.LIMIT (05 R160). -/
  limit : Nat := 0
  /-- TAPnn_ACTIVE.BAND (05 R160). -/
  band : Nat := 6
  /-- precharge timer (05 R156). -/
  pre : SafetyTimer := .reset
  /-- charge timer (05 R156). -/
  chg : SafetyTimer := .reset
  /-- top-off timer (05 R150). -/
  top : SafetyTimer := .reset
  /-- TAPnn_STATE.TIMER (05 R160). -/
  timerShown : Nat := 0
  /-- STRETCH (05 R160). -/
  stretch : Bool := false
  /-- net charge out since DONE (05 R149). -/
  outQ : Int := 0
  /-- a DONE has occurred since DETECT (06 R164). -/
  doneSeen : Bool := false
  /-- net charge in since leaving KEEP at the keep voltage, while the charge is unbroken (05 R128). -/
  keepQ : Option Int := none
  /-- 5 s boundaries passed in the cupping pattern (05 R144). -/
  cupT : Nat := 0
  /-- values of R_ohm the steps gave (05 R144). -/
  cupOhm : List Nat := []
  /-- values of R_int the steps gave (05 R144). -/
  cupInt : List Nat := []
  /-- TAPnn_DOSE, dose_lim in force (06 R179). -/
  dose : Nat := 0
  /-- the dose computed and not yet applied (06 R168); reset value DESIGN CHOICE, assumption 2. -/
  nextDose : Nat := 0
  /-- DOSEINFO.CLASS (06 R179). -/
  cls : Nat := 0
  /-- DOSEINFO.FILL (06 R179). -/
  fill : Nat := 255
  /-- request of the last period (11 R267); reset value DESIGN CHOICE, assumption 2. -/
  request : Nat := 0
  /-- levels of P1 to P4 of the last period (11 R267); reset value DESIGN CHOICE, assumption 2. -/
  levels : Vector Nat 4 := .replicate 4 0
  /-- grant of the last period (11 R267); reset value DESIGN CHOICE, assumption 2. -/
  grant : Nat := 0
  /-- E_rem of the last period (11 R267); reset value DESIGN CHOICE, assumption 2. -/
  eRem : Nat := 0
  /-- support entitlement of the last completed period (06 R171); reset value DESIGN CHOICE, assumption 2. -/
  entSup : Nat := 0
  /-- contract entitlement of the last completed period (06 R171); reset value DESIGN CHOICE, assumption 2. -/
  entCon : Nat := 0
  /-- support episode (06 R173). -/
  cutSup : Episode := .reset
  /-- contract episode (06 R173). -/
  cutCon : Episode := .reset
  /-- recipe request in force (16 R378). -/
  rcpReq : Option Nat := none
  /-- recipe voltage ceiling in force (16 R378). -/
  rcpCeil : Nat := 0
  /-- a block was inserted in STAND-IN during HOLD: the stake has a 0 A target, the tap enters DETECT when firmware runs (05 R140); reset value DESIGN CHOICE, assumption 2. -/
  insHeld : Bool := false
  /-- the state that a SUSPENDED state left for KEEP had itself left (05 R132); reset value DESIGN CHOICE, assumption 2. -/
  left2 : TapState := .absent
  /-- rank of the event this tap has acted on in the present sample, 0 none (05 R133); reset value DESIGN CHOICE, assumption 2. -/
  acted : Nat := 0
  /-- limits that governed at some time in the present period (06 R172); reset value DESIGN CHOICE, assumption 2. -/
  seen : List Nat := []
  /-- sums of the NTC A and B readings and their number in the present second (05 R137); reset value DESIGN CHOICE, assumption 2. -/
  ntcSum : Int × Int × Nat := (0, 0, 0)
deriving DecidableEq, Repr

/-- `Tap` at its reset values. -/
def Tap.reset : Tap := {}

/-- The link of one port (12 R281 to R309). -/
structure LinkPort where
  /-- LNKx_STATE.STATE (12 R309). -/
  state : LinkState := .unattached
  /-- ROLE, true source (12 R309). -/
  role : Bool := false
  /-- PRESENT (12 R309). -/
  present : Present := .sink
  /-- the dual-role phase now presented is source (12 R280); reset value DESIGN CHOICE, assumption 2. -/
  phaseSource : Bool := false
  /-- LEAD (12 R309). -/
  lead : Bool := false
  /-- PROVISIONAL (12 R309). -/
  provisional : Bool := false
  /-- DEADBATT (12 R309). -/
  deadbatt : Bool := false
  /-- MODES (12 R309). -/
  modes : BitVec 3 := 0
  /-- Enter mode requests that have passed and await an ACK (12 R305); reset value DESIGN CHOICE, assumption 2. -/
  enterAsked : BitVec 3 := 0
  /-- receive buffer, oldest first; RXQ its length (12 R309). -/
  rx : List Msg := []
  /-- EVENT.ATTACH (12 R309). -/
  evAttach : Bool := false
  /-- EVENT.DETACH (12 R309). -/
  evDetach : Bool := false
  /-- EVENT.VOID (12 R309). -/
  evVoid : Bool := false
  /-- EVENT.TRANS_FAIL (12 R309). -/
  evTransFail : Bool := false
  /-- EVENT.KA_TIMEOUT (12 R309). -/
  evKa : Bool := false
  /-- EVENT.RX_OVF (12 R309). -/
  evRxOvf : Bool := false
  /-- EVENT.COLLISION (12 R309). -/
  evCollision : Bool := false
  /-- EVENT.SWAP (12 R309). -/
  evSwap : Bool := false
  /-- EVENT.CRC_ERR (12 R309). -/
  evCrc : Bool := false
  /-- VOID_CAUSE (12 R309). -/
  voidCause : Nat := 0
  /-- a contract is in force (12 R292). -/
  inForce : Bool := false
  /-- LNKx_CWMIN (12 R309). -/
  cwMin : Nat := 0
  /-- LNKx_CWMAX (12 R309). -/
  cwMax : Nat := 0
  /-- LNKx_CILIM (12 R309). -/
  ciLim : Nat := 0
  /-- LNKx_AGE (12 R309). -/
  age : Nat := 0
  /-- LNKx_PILOT (12 R309). -/
  pilot : Int := 0
  /-- TXCNT.MSG (12 R309). -/
  txMsgs : BitVec 8 := 0
  /-- TXCNT.ERR (12 R309). -/
  txErr : BitVec 8 := 0
  /-- RXCNT.MSG (12 R309). -/
  rxMsgs : BitVec 8 := 0
  /-- RXCNT.ERR (12 R309). -/
  rxErr : BitVec 8 := 0
  /-- CTR.TX (12 R309). -/
  txCtr : BitVec 3 := 0
  /-- CTR.RX (12 R309). -/
  rxCtr : BitVec 3 := 0
  /-- TYPE of the last message accepted (12 R288). -/
  rxType : Nat := 0
  /-- CTR.RX_VALID (12 R309). -/
  rxValid : Bool := false
  /-- messages waiting to be sent, in the order of R282 (12 R282); reset value DESIGN CHOICE, assumption 2. -/
  txq : List TxMsg := []
  /-- the message sent and not yet acknowledged or abandoned (12 R288); reset value DESIGN CHOICE, assumption 2. -/
  flight : Option TxMsg := none
  /-- retries of that message (12 R288); reset value DESIGN CHOICE, assumption 2. -/
  retries : Nat := 0
  /-- collisions of that message (12 R287); reset value DESIGN CHOICE, assumption 2. -/
  collisions : Nat := 0
  /-- that message waits to be sent again, for a retry or after a collision (12 R288); reset value DESIGN CHOICE, assumption 2. -/
  resend : Bool := false
  /-- collisions of the acknowledgement that is due (12 R287); reset value DESIGN CHOICE, assumption 2. -/
  ackCollisions : Nat := 0
  /-- time since the last keep-alive request (source) or response (sink) in CONTRACT (12 R297); reset value DESIGN CHOICE, assumption 2. -/
  kaVoid : Nat := 0
  /-- collision back-off runs (12 R287); reset value DESIGN CHOICE, assumption 2. -/
  backoff : Bool := false
  /-- counters of received messages whose acknowledgement is due (12 R288); reset value DESIGN CHOICE, assumption 2. -/
  acksDue : List (BitVec 3) := []
  /-- an Accept has been sent since attach (12 R295). -/
  acceptSent : Bool := false
  /-- the apply in force followed an Accept this port sent (12 R293). -/
  readyDue : Bool := false
  /-- a Ready received since the last Accept is remembered (12 R294). -/
  readyRem : Bool := false
  /-- an Accept has been received since attach (12 R294). -/
  acceptRecv : Bool := false
  /-- a Request waits for an answer (12 R290). -/
  reqWaiting : Bool := false
  /-- transition timer runs (12 R306). -/
  tTransition : Bool := false
  /-- tie close timer runs (12 R306). -/
  tTieClose : Bool := false
  /-- Ready wait runs (12 R306). -/
  tReady : Bool := false
  /-- negotiation timer runs (12 R306). -/
  tNegotiation : Bool := false
  /-- responder repeat runs (12 R306). -/
  tResponder : Bool := false
  /-- swap answer timer runs (12 R306). -/
  tSwapAnswer : Bool := false
  /-- swap retry hold-back runs (12 R306). -/
  tSwapRetry : Bool := false
  /-- a LNK_SWAP_ROLE held back until the retry time ends (12 R302). -/
  swapHeld : Bool := false
  /-- own swap request outstanding (12 R302). -/
  swapOwn : Bool := false
  /-- voltage and current object of the responder's Request (12 R300); reset value DESIGN CHOICE, assumption 2. -/
  offerPick : Option (BitVec 32 × BitVec 32) := none
  /-- rank of the link event acted on in this sample; 0 none (12 R282); reset value DESIGN CHOICE, assumption 2. -/
  acted : Nat := 0
  /-- who asked for the swap outstanding or held back (12 R302); reset value DESIGN CHOICE, assumption 2. -/
  swapVia : Option Via := none
  /-- the last frame sent (12 R284); a field of the model itself. -/
  outFrame : Option Frame := none
deriving DecidableEq, Repr

/-- `LinkPort` at its reset values. -/
def LinkPort.reset : LinkPort := {}

/-- The tie of port D (12 R299, R309). -/
structure Tie where
  /-- TIE_EN (12 R309). -/
  en : Bool := false
  /-- TRIP (12 R309). -/
  trip : Bool := false
  /-- TIE_TIMEOUT (12 R309). -/
  timeout : Bool := false
  /-- LNK_TIE_I (12 R309). -/
  cur : Int := 0
deriving DecidableEq, Repr

/-- `Tie` at its reset values. -/
def Tie.reset : Tie := {}

/-- One pour entry (08 R210). -/
structure PourEntry where
  /-- opcode (08 R197). -/
  op : Word := 0
  /-- argument words (08 R197). -/
  args : List Word := []
  /-- POUR_ENTRYi.OUTCOME (08 R210). -/
  outcome : Nat := 1
  /-- POUR_ENTRYi.CODE (08 R210). -/
  code : Nat := 0
deriving DecidableEq, Repr

/-- `PourEntry` at its reset values. -/
def PourEntry.reset : PourEntry := {}

/-- The pour engine and the module's part of TICK (08 R195 to R210). -/
structure Pour where
  /-- STATE (08 R210). -/
  state : PourState := .idle
  /-- POUR_ID (08 R210). -/
  id : Word := 0
  /-- staged entries (08 R210). -/
  entries : List PourEntry := []
  /-- POUR_RESULT (08 R210). -/
  result : Nat := 0
  /-- RESULT_VALID (08 R210). -/
  resultValid : Bool := false
  /-- POUR_FAIL.INDEX (08 R210). -/
  fail : Nat := 255
  /-- who gave the POUR_PREPARE now validating (08 R199); reset value DESIGN CHOICE, assumption 2. -/
  prepVia : Option Via := none
  /-- TICK pulled for a prepared pour (08 R195). -/
  pull : Bool := false
  /-- veto pull (08 R203). -/
  veto : Bool := false
  /-- HOLD pull (08 R204). -/
  holdPull : Bool := false
  /-- TICK level of the line (08 R210). -/
  tick : Bool := true
  /-- another participant pulls TICK (08 R201); reset value DESIGN CHOICE, assumption 2. -/
  tickOther : Bool := false
  /-- POUR_LOWTIME (08 R210). -/
  low10us : Nat := 0
  /-- false when TICK was low at entry to BOOT (18 R403). -/
  lowKnown : Bool := true
  /-- IGNORED (08 R210). -/
  ignored : Bool := false
  /-- PROFILE (08 R210). -/
  profile : Bool := false
  /-- SKIPS (08 R210). -/
  skips : Bool := false
  /-- POUR_COMMITS (08 R210). -/
  commits : Nat := 0
  /-- within the 500 ns after a rise of TICK (08 R205); reset value DESIGN CHOICE, assumption 2. -/
  rise : Bool := false
  /-- the low period before the rise in progress lasted less than 1 µs or more than 50 ms (08 R201); reset value DESIGN CHOICE, assumption 2. -/
  badLow : Bool := false
deriving DecidableEq, Repr

/-- `Pour` at its reset values. -/
def Pour.reset : Pour := {}

/-- One VSEL profile (04 R118). -/
structure Profile where
  /-- entries (04 R118). -/
  entries : List PourEntry := []
  /-- run action: enter RUN (04 R118). -/
  run : Bool := false
  /-- contactor action: 0 none, 1 assert, 2 de-assert (04 R118). -/
  str : Nat := 0
  /-- valid flag (04 R118). -/
  valid : Bool := false
deriving DecidableEq, Repr

/-- `Profile` at its reset values. -/
def Profile.reset : Profile := {}

/-- VSEL and its profiles (04 R118 to R122). -/
structure Vsel where
  /-- PINS (04 R122). -/
  pins : Nat := 0
  /-- APPLIED (04 R122). -/
  applied : Nat := 0
  /-- NONE_YET (04 R122). -/
  noneYet : Bool := true
  /-- ENABLED (04 R122). -/
  enabled : Bool := true
  /-- PENDING (04 R122). -/
  pending : Bool := false
  /-- FAIL (04 R122). -/
  fail : Bool := false
  /-- stored profiles (04 R118). -/
  profiles : Vector Profile 8 := .replicate 8 .reset
  /-- open working copy and its profile number (11 R260). -/
  work : Option (Nat × Profile) := none
  /-- profile now poured (04 R120); reset value DESIGN CHOICE, assumption 2. -/
  applying : Option Nat := none
  /-- profile whose pour is in progress (04 R120); reset value DESIGN CHOICE, assumption 2. -/
  staged : Option Nat := none
  /-- attempts of the profile pour (08 R209). -/
  tries : Nat := 0
deriving DecidableEq, Repr

/-- `Vsel` at its reset values. -/
def Vsel.reset : Vsel := {}

/-- The watchdog (14 R323 to R349). -/
structure Wdg where
  /-- ENABLED (14 R349). -/
  enabled : Bool := true
  /-- GRACE (14 R349). -/
  grace : Bool := true
  /-- WDG_COUNT (14 R349). -/
  count : Nat := 0
  /-- part of a tick elapsed (14 R323); reset value DESIGN CHOICE, assumption 2. -/
  frac : Nat := 0
  /-- WDG_OPEN (14 R349). -/
  openT : Nat := 64
  /-- WDG_CLOSE (14 R349). -/
  closeT : Nat := 256
  /-- pair written, in force from the next accepted service (14 R323); reset value DESIGN CHOICE, assumption 2. -/
  nextPair : Option (Nat × Nat) := none
  /-- required mask before the hardware removal of R328 (14 R349). -/
  reqMask : Word := 1
  /-- mask written, in force from the next accepted service (14 R328); reset value DESIGN CHOICE, assumption 2. -/
  nextMask : Option Word := none
  /-- WDG_CHECKIN (14 R349). -/
  checkin : Word := 0
  /-- WDG_MISSING (14 R349). -/
  missing : Word := 0
  /-- WDG_EXPIRIES (14 R349). -/
  expiries : Nat := 0
  /-- F (14 R349). -/
  fails : Nat := 0
  /-- N (14 R349). -/
  n : Nat := 3
  /-- LAST_RUNG (14 R349). -/
  lastRung : Nat := 0
  /-- LAST_CAUSE (14 R349). -/
  lastCause : Nat := 0
  /-- EXPIRED (14 R349). -/
  expired : Bool := false
  /-- FOREIGN (14 R349). -/
  foreign : Bool := false
  /-- WDG_LOCK.LOCKED (14 R349). -/
  locked : Bool := false
  /-- BAD_KEYS (14 R349). -/
  badKeys : Nat := 0
  /-- challenge in force; never zero (14 R326); reset value DESIGN CHOICE, assumption 2. -/
  challenge : Word := 1
  /-- time of the last accepted service (14 R337); reset value DESIGN CHOICE, assumption 2. -/
  lastGood : Nat := 0
  /-- the sixteen latest watchdog records (14 R337). -/
  evidence : List Evidence := []
  /-- cores being restarted that have not checked in yet (14 R328); reset value DESIGN CHOICE, assumption 2. -/
  awaiting : BitVec 8 := 0
deriving DecidableEq, Repr

/-- `Wdg` at its reset values. -/
def Wdg.reset : Wdg := {}

/-- One black-box record (14 R339, R340). -/
structure BbxRec where
  /-- record sequence number (14 R339). -/
  seq : Nat := 0
  /-- record type (14 R340). -/
  type : Nat := 0
  /-- time valid (14 R339). -/
  timeValid : Bool := false
  /-- written in HOLD (14 R339). -/
  inHold : Bool := false
  /-- carried forward (14 R339). -/
  carried : Bool := false
  /-- written by the flush (14 R339). -/
  flushed : Bool := false
  /-- module time (14 R339). -/
  time : Nat := 0
  /-- payload words (14 R340). -/
  payload : List Word := []
  /-- passes its CRC in copy A (14 R347). -/
  okA : Bool := true
  /-- passes its CRC in copy B (14 R347). -/
  okB : Bool := true
  /-- locations its read-back mismatches took (14 R342). -/
  spoil : Nat := 0
deriving DecidableEq, Repr

/-- `BbxRec` at its reset values. -/
def BbxRec.reset : BbxRec := {}

/-- One tap-history record (05 R127, 14 R340). -/
structure HistRec where
  /-- record sequence number (14 R339). -/
  seq : Nat := 0
  /-- tap (14 R340). -/
  tap : Nat := 0
  /-- void flag (05 R127). -/
  void : Bool := false
  /-- block serial (05 R127). -/
  serial : BitVec 64 := 0
  /-- learned capacity (05 R127). -/
  cap : Option Nat := none
  /-- R_int and R_ohm in 10 uOhm and the OCV in mV (05 R127). -/
  cup : Option (Nat × Nat × Nat) := none
  /-- cupping time (05 R127). -/
  cupTime : Nat := 0
  /-- capacity time (05 R127). -/
  capTime : Nat := 0
  /-- carried forward (14 R343). -/
  carried : Bool := false
  /-- time valid as it was written (14 R339). -/
  timeValid : Bool := false
  /-- written in HOLD (14 R339). -/
  inHold : Bool := false
  /-- module time as it was written (14 R339). -/
  time : Nat := 0
  /-- written by the flush (14 R339). -/
  flushed : Bool := false
  /-- passes its CRC in copy A (14 R347). -/
  okA : Bool := true
  /-- passes its CRC in copy B (14 R347). -/
  okB : Bool := true
  /-- locations its read-back mismatches took (14 R342). -/
  spoil : Nat := 0
deriving DecidableEq, Repr

/-- `HistRec` at its reset values. -/
def HistRec.reset : HistRec := {}

/-- One lease snapshot (07 R187, 14 R341). -/
structure SnapRec where
  /-- snapshot sequence number (07 R187). -/
  seq : Nat := 0
  /-- record sequence number, 0 while pending (14 R339). -/
  bbxSeq : Nat := 0
  /-- module time (07 R187). -/
  time : Nat := 0
  /-- time-valid flag (07 R187). -/
  timeValid : Bool := false
  /-- module state code (07 R187). -/
  modState : Nat := 0
  /-- per tap: block serial, lessee, tap state code (07 R187). -/
  blocks : List (BitVec 64 × Nat × Nat) := []
  /-- every counter (07 R187). -/
  ctrs : Counters := .reset
  /-- written by the flush (14 R339). -/
  flushed : Bool := false
  /-- passes its CRC in copy A (14 R347). -/
  okA : Bool := true
  /-- passes its CRC in copy B (14 R347). -/
  okB : Bool := true
  /-- locations its read-back mismatches took (14 R342). -/
  spoil : Nat := 0
  /-- written in HOLD (14 R339). -/
  inHold : Bool := false
deriving DecidableEq, Repr

/-- `SnapRec` at its reset values. -/
def SnapRec.reset : SnapRec := {}

/-- One COUNTERS record (14 R340). -/
structure CtrRec where
  /-- record sequence number (14 R339). -/
  seq : Nat := 0
  /-- every counter with its residue and LNK_TIE_E (14 R340). -/
  ctrs : Counters := .reset
  /-- last snapshot sequence (14 R340). -/
  lastSnap : Nat := 0
  /-- passes its CRC in copy A (14 R347). -/
  okA : Bool := true
  /-- passes its CRC in copy B (14 R347). -/
  okB : Bool := true
  /-- locations its read-back mismatches took (14 R342). -/
  spoil : Nat := 0
  /-- time valid as it was written (14 R339). -/
  timeValid : Bool := false
  /-- written in HOLD (14 R339). -/
  inHold : Bool := false
  /-- module time as it was written (14 R339). -/
  time : Nat := 0
  /-- written by the flush (14 R339). -/
  flushed : Bool := false
deriving DecidableEq, Repr

/-- `CtrRec` at its reset values. -/
def CtrRec.reset : CtrRec := {}

/-- A record on its way to the black box (R342): one of the event ring, the history ring, the snapshot ring or the flush
area (R338). -/
inductive BbxItem where
  | event (r : BbxRec)
  | hist (h : HistRec)
  | snap (r : SnapRec)
  | ctr (r : CtrRec)
deriving DecidableEq, Repr

/-- One withholding window (14 R344). -/
structure Withhold where
  /-- type and key (14 R344). -/
  key : Nat × Nat × Nat := (0, 0, 0)
  /-- records of the key in the window (14 R344). -/
  n : Nat := 0
deriving DecidableEq, Repr

/-- `Withhold` at its reset values. -/
def Withhold.reset : Withhold := {}

/-- The black box (14 R338 to R349). -/
structure Bbx where
  /-- next record sequence number; 1 at manufacture (14 R339). -/
  nextSeq : Nat := 1
  /-- write queue, oldest first (14 R342). -/
  queue : List BbxItem := []
  /-- records held, oldest first (14 R338). -/
  ring : List BbxRec := []
  /-- history ring, oldest first (14 R338). -/
  hist : List HistRec := []
  /-- snapshot ring, oldest first (14 R338). -/
  snaps : List SnapRec := []
  /-- flush area, oldest first (14 R338). -/
  flush : List CtrRec := []
  /-- the newest POWER_LOSS record shows a completed flush (14 R349). -/
  lossDone : Bool := false
  /-- BBX_STATUS.FLUSHED (14 R349). -/
  flushed : Bool := false
  /-- COPY_A_OK, non-volatile (14 R349). -/
  okA : Bool := true
  /-- COPY_B_OK, non-volatile (14 R349). -/
  okB : Bool := true
  /-- consecutive mismatches in copy A (14 R342); reset value DESIGN CHOICE, assumption 2. -/
  missA : Nat := 0
  /-- consecutive mismatches in copy B (14 R342); reset value DESIGN CHOICE, assumption 2. -/
  missB : Nat := 0
  /-- WRITE_FAIL (14 R349). -/
  writeFail : Bool := false
  /-- NEW (14 R349). -/
  new : Bool := false
  /-- withholding windows open (14 R344). -/
  windows : List Withhold := []
  /-- TAP_FORGET commands whose void record is not written yet: its sequence number, the tap, who sent it (14 R342). -/
  forgets : List (Nat × Fin 32 × Via) := []
  /-- BBX_WIN_SEQ (14 R349). -/
  winSeq : Nat := 0
  /-- sequence number of the record whose pane loads or is shown (14 R346); reset value DESIGN CHOICE, assumption 2. -/
  loadSeq : Nat := 0
  /-- BBX_WIN_PANE (14 R349). -/
  pane : BitVec 4 := 0
  /-- VALID (14 R349). -/
  winValid : Bool := false
  /-- BUSY (14 R349). -/
  winBusy : Bool := false
  /-- NOT_HELD (14 R349). -/
  winNotHeld : Bool := false
  /-- COPY (14 R349). -/
  winCopyB : Bool := false
  /-- DAMAGED (14 R349). -/
  winDamaged : Bool := false
  /-- TYPE (14 R349). -/
  winType : Nat := 0
  /-- BBX_WIN_LEN (14 R349). -/
  winLen : Nat := 0
  /-- BBX_WINk (14 R349). -/
  win : List Word := []
deriving DecidableEq, Repr

/-- `Bbx` at its reset values. -/
def Bbx.reset : Bbx := {}

/-- The alert queue (20 R436 to R441). -/
structure Alr where
  /-- queued alerts, oldest first (20 R436). -/
  queue : List Alert := []
  /-- alerts that wait for the control plane (20 R436). -/
  deferred : List Alert := []
  /-- sequence number of the next alert (20 R436); reset value DESIGN CHOICE, assumption 2. -/
  nextSeq : Nat := 1
  /-- OVERFLOW (20 R441). -/
  overflow : Bool := false
  /-- ACK_MISS (20 R441). -/
  ackMiss : Bool := false
  /-- ALR_LOST (20 R441). -/
  lost : Nat := 0
  /-- ALR_ACK (20 R441). -/
  ackSeq : Nat := 0
deriving DecidableEq, Repr

/-- `Alr` at its reset values. -/
def Alr.reset : Alr := {}

/-- What the registers that are updated every 5 ms show (02 R57, 03 R96, 04 R122, 05 R160, 06 R179, 20 R442), and the mirror of the AON island (14 R349), word by word. -/
structure Shown where
  /-- the mirror block of each tap (05 R160). -/
  taps : Vector (List Word) 32 := .replicate 32 tapBlock
  /-- the register block of each port (02 R57). -/
  ports : Vector (List Word) 4 := .replicate 4 portBlock
  /-- hub and arbiter registers from 0x0C80 (02 R57, 06 R179). -/
  hub : List Word := hubBlock
  /-- fault summary from 0x0280; a change of FLT_MODULE updates it at once (20 R442). -/
  flt : List Word := .replicate 11 0
  /-- SYS_VSEL (04 R122). -/
  vsel : Word := 0x00C0
  /-- the HOST mirror of the WDG and BBX registers of the AON island, from 0x0E00 (14 R349). -/
  aon : List Word := aonBlock
deriving DecidableEq, Repr

/-- `Shown` at its reset values. -/
def Shown.reset : Shown := {}

/-- Module state, control plane, supplies and the string (01, 15, 18). -/
structure Sys where
  /-- SYS_STATE.STATE; BOOT is the reset value 0x2 (01 R28). -/
  st : ModState := .boot
  /-- CAUSE (01 R28). -/
  cause : Nat := 0
  /-- HOLD_SEEN (01 R28). -/
  holdSeen : Bool := false
  /-- HOLD_COUNT (01 R28). -/
  holdCount : Nat := 0
  /-- state before HOLD (01 R26); reset value DESIGN CHOICE, assumption 2. -/
  before : ModState := .standby
  /-- cause of that state (01 R28); reset value DESIGN CHOICE, assumption 2. -/
  beforeCause : Nat := 0
  /-- cluster islands powered; CL_ON shows those whose engine runs too (01 R20, R24). -/
  clOn : BitVec 4 := 0
  /-- CL_WAKING (01 R24). -/
  clWaking : BitVec 4 := 0
  /-- the SYS_STANDBY ramp runs (01 R26). -/
  rampStandby : Bool := false
  /-- the HOLD-limit ramp runs (01 R31). -/
  rampHold : Bool := false
  /-- ms passed of the ramp of SYS_STANDBY, of the HOLD limit or of housekeeping loss (01 R26, 15 R352); reset value DESIGN CHOICE, assumption 2. -/
  rampMs : Nat := 0
  /-- the 2 s limit of this HOLD has been reached (01 R31). -/
  holdLimit : Bool := false
  /-- accepted state changes that wait for their moment, oldest first: recovery, reset, hold by command, hold by activation, BOOT by activation, ship (11 R257). -/
  chg : List Deferred := []
  /-- the deferred change is SYS_RESET's (15 R371); reset value DESIGN CHOICE, assumption 2. -/
  sysReset : Bool := false
  /-- cores that run, bit c for core Cc (01 R29); reset value DESIGN CHOICE, assumption 2. -/
  cores : BitVec 8 := 1
  /-- mailboxes whose command was lost to a core restart or collision (10 R251); reset value DESIGN CHOICE, assumption 2. -/
  lostCmds : List Nat := []
  /-- HK_SRC (15 R371). -/
  hkSrc : Nat := 0
  /-- AUX_OK (15 R371). -/
  auxOk : Bool := false
  /-- SRC_OK (15 R371). -/
  srcOk : BitVec 4 := 0
  /-- tap groups qualified; TAP_OK while not 0 (15 R371). -/
  tapOk : BitVec 8 := 0
  /-- HK_CHANGED (15 R371). -/
  hkChanged : Bool := false
  /-- the hold-up sequence runs (15 R352). -/
  hkLost : Bool := false
  /-- AUX voltage (15 R350); reset value DESIGN CHOICE, assumption 2. -/
  auxV : Int := 0
  /-- ESTOP (15 R371). -/
  estop : Bool := false
  /-- SYS_KEY.LEVEL (15 R371). -/
  keyLow : Bool := false
  /-- SHORT (15 R371). -/
  keyShort : Bool := false
  /-- the 2 s open period of the long press runs (15 R363). -/
  longPress : Bool := false
  /-- the tap path runs for a KEY# wake in SHIP (15 R361). -/
  shipWake : Bool := false
  /-- RECOVERY_REQ (15 R371). -/
  recReq : Bool := false
  /-- ship latch; the start that leads to reset has cleared it (15 R353). -/
  shipLatch : Bool := false
  /-- SYS_RSTINFO.LAST (15 R371). -/
  last : Nat := 0
  /-- FALLBACK (15 R371). -/
  fallback : Bool := false
  /-- TRIAL (15 R371). -/
  trial : Bool := false
  /-- REVERTED (15 R371). -/
  reverted : Bool := false
  /-- a bank fallback alert is due on reaching STANDBY (15 R354); reset value DESIGN CHOICE, assumption 2. -/
  bootAlerts : Bool := false
  /-- FLT_MODULE.SELFTEST (20 R442). -/
  selfTest : Bool := false
  /-- STR_EN (18 R419). -/
  strEn : Bool := false
  /-- STR_FB (18 R419). -/
  strFb : Bool := false
  /-- SH_VALID (18 R419). -/
  shValid : Bool := false
  /-- SH_LOST (18 R419). -/
  shLost : Bool := false
  /-- SH_FAULT (18 R419). -/
  shFault : Bool := false
  /-- SH_RANGE (18 R419). -/
  shRange : Bool := false
  /-- DIV_ON (18 R419). -/
  divOn : Bool := false
  /-- when the bitstream was lost, while no latch has come of it (18 R410); reset value DESIGN CHOICE, assumption 2. -/
  shLostAt : Option Nat := none
  /-- time from which the bitstream has been valid (18 R410); reset value DESIGN CHOICE, assumption 2. -/
  shOkAt : Nat := 0
  /-- SYS_ISTR (18 R419). -/
  iStr : Int := 0
  /-- peak string current of the last 100 ms (06 R164); reset value DESIGN CHOICE, assumption 2. -/
  iStrPeak : Int := 0
  /-- SYS_VSTR (18 R419). -/
  vStr : Int := 0
  /-- inlet temperature; reset is out of range, so SYS_INLET reads 0x8000 (18 R419); reset value DESIGN CHOICE, assumption 2. -/
  inlet : Int := 2000
  /-- time since power-on reset (14 R339); reset value DESIGN CHOICE, assumption 2. -/
  uptime : Nat := 0
  /-- module time, ms since 1970, while valid (11 R259); reset value DESIGN CHOICE, assumption 2. -/
  time : Nat := 0
  /-- TIME_VALID (07 R194). -/
  timeValid : Bool := false
  /-- ADDR[2:0] held since BOOT; an open strap reads 1 (09 R224); reset value DESIGN CHOICE, assumption 2. -/
  addr : BitVec 3 := 7
  /-- averaged TRACK voltage; VALUE (04 R122). -/
  trackMv : Int := 0
  /-- VALID (04 R122). -/
  trackValid : Bool := false
  /-- FAULT (04 R122). -/
  trackFault : Bool := false
  /-- SYS_FSW (03 R96). -/
  fsw : Nat := 50000
  /-- SYS_SYNC.SRC (03 R96). -/
  syncSrc : Nat := 0
  /-- IN_VALID (03 R96). -/
  syncValid : Bool := false
  /-- LOSS (03 R96). -/
  syncLoss : Bool := false
  /-- IN_DISABLED (03 R96). -/
  syncDis : Bool := false
  /-- own frequency (03 R94). -/
  ownFsw : Nat := 50000
  /-- SYNC_IN frequency last seen valid (03 R91); reset value DESIGN CHOICE, assumption 2. -/
  inFsw : Nat := 0
  /-- SLOT, the ADDR value used for the 45 degree step (03 R96). -/
  slotAddr : BitVec 3 := 0
  /-- rank of the state change the state logic has acted on in the present sampling period, 0 none (01 R27); reset value DESIGN CHOICE, assumption 2. -/
  acted : Nat := 0
  /-- phase error of the chain reference against SYNC_IN (03 R91); reset value DESIGN CHOICE, assumption 2. -/
  phErr : Int := 0
  /-- time at which each core last ran again after a restart; its firmware timers count from there (05 R159); reset value DESIGN CHOICE, assumption 2. -/
  fwFrom : Vector (Option Nat) 8 := .replicate 8 none
  /-- load and store access faults raised on a core by an access to a powered-down island, core and island, newest last (01 R23); reset value DESIGN CHOICE, assumption 2. -/
  accessFault : List (Nat × Nat) := []
  /-- tracking is held off after a fault until TRACK has been valid for 100 ms (04 R117); reset value DESIGN CHOICE, assumption 2. -/
  trackHeld : Bool := false
  /-- the present stretch of an invalid TRACK has raised its fault (04 R117); reset value DESIGN CHOICE, assumption 2. -/
  trackTold : Bool := false
  /-- the levels of the straps ADDR[2:0]; an open strap reads 1 (09 R224); reset value DESIGN CHOICE, assumption 2. -/
  strap : BitVec 3 := 7
  /-- TRACK has been valid since reset (04 R114, R117); reset value DESIGN CHOICE, assumption 2. -/
  trackSeen : Bool := false
  /-- how long KEY# has been high, ms, up to 100 (15 R362); reset value DESIGN CHOICE, assumption 2. -/
  keyHigh : Nat := 0
  /-- the press that lies on KEY#, or the last one, is not timed (15 R361, R362); reset value DESIGN CHOICE, assumption 2. -/
  keyStale : Bool := false
  /-- how long STR_FB and STR_EN have disagreed, ms, up to 200 (18 R411); reset value DESIGN CHOICE, assumption 2. -/
  fbMs : Nat := 0
  /-- sequence number of each core's last internal message (10 R249); reset value DESIGN CHOICE, assumption 2. -/
  boxSeq : Vector Word 8 := .replicate 8 0
deriving DecidableEq, Repr

/-- `Sys` at its reset values. -/
def Sys.reset : Sys := {}

/-- Hub bus and selection (02 R33, R45, R57). -/
structure Hub where
  /-- HUB_V (02 R57). -/
  v : Nat := 0
  /-- DROOP (02 R57). -/
  droop : Bool := false
  /-- undervoltage hold at 0 A (02 R33). -/
  uv : Bool := false
  /-- HANDOVER (02 R57). -/
  handover : Bool := false
  /-- ms of the hand-over ramp passed (02 R51); reset value DESIGN CHOICE, assumption 2. -/
  ramp0 : Nat := 0
  /-- HUB_OV (02 R57). -/
  ov : Bool := false
  /-- times (ms) of hub over-voltage events (02 R34). -/
  ovTimes : List Nat := []
  /-- FLT_MODULE.HUB_OV3 (20 R442). -/
  ov3 : Bool := false
  /-- MODE (02 R57). -/
  mode : SelMode := .priority
  /-- site cap (02 R47). -/
  siteCap : Nat := 123000
  /-- HUB_PAVAIL (02 R57). -/
  pavail : Nat := 0
  /-- selection mode in force since the last period (02 R47). -/
  modeIn : SelMode := .priority
deriving DecidableEq, Repr

/-- `Hub` at its reset values. -/
def Hub.reset : Hub := {}

/-- The arbiter's module-level state (06 R162, R179). -/
structure Arb where
  /-- ARB_SET_LOSS_CAP setting (06 R162). -/
  lossCap : Nat := 3600
  /-- ARB_QMAX (06 R179). -/
  qMax : Nat := 3600
  /-- INLET_BAD (06 R179). -/
  inletBad : Bool := false
  /-- BINDING, 1 coolant (06 R179). -/
  binding : Bool := false
  /-- P3_SHORT (06 R179). -/
  p3Short : Bool := false
  /-- P4_SHORT (06 R179). -/
  p4Short : Bool := false
  /-- FROZEN (06 R179). -/
  frozen : Bool := false
  /-- CUT_SEEN (06 R179). -/
  cutSeen : Bool := false
  /-- OVERCOMMIT (06 R179). -/
  overcommit : Bool := false
  /-- ARB_BUDGET (06 R179). -/
  budget : Nat := 0
  /-- ARB_GRANT (06 R179). -/
  grant : Nat := 0
  /-- ARB_PERIOD (06 R179). -/
  periods : Nat := 0
  /-- higher doses of the period await their 64 us (06 R168); reset value DESIGN CHOICE, assumption 2. -/
  higherDue : Bool := false
  /-- a period has completed since C3 last started (06 R177); reset value DESIGN CHOICE, assumption 2. -/
  fresh : Bool := false
deriving DecidableEq, Repr

/-- `Arb` at its reset values. -/
def Arb.reset : Arb := {}

/-- Meter status (07 R183 to R194). -/
structure Mtr where
  /-- RESTORED (07 R194). -/
  restored : Bool := false
  /-- SNAP_SEEN (07 R194). -/
  snapSeen : Bool := false
  /-- SNAP_MISSED (07 R194). -/
  snapMissed : Bool := false
  /-- RESTORE_GAP (07 R194). -/
  restoreGap : Bool := false
  /-- a RESTORE_GAP since the previous statement (07 R191); reset value DESIGN CHOICE, assumption 2. -/
  gapSince : Bool := false
  /-- snapshots pending (07 R188). -/
  pending : List SnapRec := []
  /-- sequence number of the last snapshot written (07 R194). -/
  snapSeq : Nat := 0
  /-- next snapshot sequence number; 1 at manufacture (07 R187). -/
  snapNext : Nat := 1
  /-- sequence number of the last statement built (07 R194). -/
  stmtSeq : Nat := 0
  /-- next statement sequence number; kept in flash (07 R190); reset value DESIGN CHOICE, assumption 2. -/
  stmtNext : Nat := 1
  /-- statement buffer; STMT_READY while not empty (07 R190). -/
  stmt : List Byte := []
  /-- alarm timers (07 R194). -/
  alarms : Vector Alarm 4 := .replicate 4 .reset
  /-- module clock at which the next lease snapshot is due; none before STANDBY or a clock setting (07 R186); reset value DESIGN CHOICE, assumption 2. -/
  snapAt : Option Nat := none
deriving DecidableEq, Repr

/-- `Mtr` at its reset values. -/
def Mtr.reset : Mtr := {}

/-- Host buses (09 R211 to R238). -/
structure Bus where
  /-- SPI_CRC (09 R238). -/
  spiCrc : Bool := false
  /-- TW_PEC (09 R238). -/
  twPec : Bool := false
  /-- CTL_FAST (09 R238). -/
  ctlFast : Bool := false
  /-- ARA_EN (09 R238). -/
  araEn : Bool := true
  /-- SPI_LAST (09 R238). -/
  spiLast : Nat := 0
  /-- TW_LAST (09 R238). -/
  twLast : Nat := 0
  /-- TW_STUCK (09 R238). -/
  twStuck : Bool := false
  /-- ARB_LOST (09 R238). -/
  arbLost : Bool := false
  /-- ARA_LEVEL (09 R238). -/
  level : Nat := 0
  /-- ALERT_OUT (09 R238). -/
  alertOut : Bool := false
  /-- BUS_ERR (09 R238). -/
  busErr : Bool := false
  /-- SYS_SPI_ERRCNT (09 R238). -/
  spiErr : Nat := 0
  /-- SYS_TW_ERRCNT (09 R238). -/
  twErr : Nat := 0
  /-- SYS_TW_CTLCNT.ARB (09 R238). -/
  ctlArb : Nat := 0
  /-- RECOVER (09 R238). -/
  ctlRecover : Nat := 0
  /-- two-wire pointer left by the last access (09 R226); reset value DESIGN CHOICE, assumption 2. -/
  pointer : Nat := 0
  /-- FIX bit of that pointer (09 R226); reset value DESIGN CHOICE, assumption 2. -/
  pointerFix : Bool := false
  /-- the bus is ignored until addressed again (09 R229). -/
  twIgnore : Bool := false
  /-- alerts held at an answered response read, re-pull due after 100 ms (09 R231). -/
  repull : Bool := false
  /-- SPI snapshot latches by address (09 R214). -/
  latchSpi : List (Nat × Word) := []
  /-- two-wire snapshot latches (09 R214). -/
  latchTw : List (Nat × Word) := []
  /-- monitor snapshot latches (17 R391). -/
  latchMon : List (Nat × Word) := []
  /-- words the last SPI read frame returned (09 R221); a field of the model itself. -/
  outSpi : List Word := []
  /-- status word of the last SPI frame (09 R223); a field of the model itself. -/
  outSpiStatus : Word := 0
  /-- words the last two-wire read returned (09 R226); a field of the model itself. -/
  outTw : List Word := []
  /-- check or PEC bytes of the last read (09 R222); a field of the model itself. -/
  outChecks : List Byte := []
  /-- byte answered to the last alert response read (09 R232); a field of the model itself. -/
  ara : Option Byte := none
  /-- transfers queued by firmware as controller (09 R237). -/
  ctlQueue : List CtlXfer := []
  /-- consecutive arbitration losses of the front transfer (09 R236). -/
  ctlLosses : Nat := 0
  /-- the transfer last sent as controller (09 R235); a field of the model itself. -/
  outCtl : Option CtlXfer := none
  /-- another module pulls ALERT# (09 R232); reset value DESIGN CHOICE, assumption 2. -/
  alertOther : Bool := false
  /-- words read by the last controller transfer (09 R235); a field of the model itself. -/
  inCtl : List Word := []
  /-- PEC byte sent with the last controller transfer (09 R235); a field of the model itself. -/
  outCtlPec : Option Byte := none
  /-- the module NACKed a byte of the last write transfer (09 R217); a field of the model itself. -/
  outNack : Bool := false
deriving DecidableEq, Repr

/-- `Bus` at its reset values. -/
def Bus.reset : Bus := {}

/-- Backplane (13 R310 to R322). -/
structure Bp where
  /-- STANDALONE (13 R322). -/
  standalone : Bool := false
  /-- NMOD (13 R322). -/
  nmod : BitVec 3 := 7
  /-- FAULT_ACT (13 R322). -/
  faultAct : BitVec 2 := 0
  /-- LEADER (13 R322). -/
  leader : Bool := false
  /-- LEADER_ADDR (13 R322). -/
  leaderAddr : BitVec 3 := 0
  /-- BEAT_OK (13 R322). -/
  beatOk : Bool := false
  /-- ADDR_DUP (13 R322). -/
  addrDup : Bool := false
  /-- FAULT_IN (13 R322). -/
  faultIn : Bool := false
  /-- a foreign edge seen in HOLD waits (13 R312). -/
  faultWaits : Bool := false
  /-- SHARE_REJ (13 R322). -/
  shareRej : Bool := false
  /-- FALLBACK (13 R322). -/
  fallback : Bool := false
  /-- SYS_BP_CAP (13 R322). -/
  cap : Nat := 0
  /-- BEAT.ADDR (13 R322). -/
  beatAddr : BitVec 3 := 0
  /-- BEAT.SEQ (13 R322). -/
  beatSeq : BitVec 8 := 0
  /-- time this module has led (13 R321); reset value DESIGN CHOICE, assumption 2. -/
  leadMs : Nat := 0
  /-- the alert of a duplicate ADDR is due on reaching STANDBY (13 R310); reset value DESIGN CHOICE, assumption 2. -/
  dupAlert : Bool := false
  /-- sequence number of the beats this module sends (13 R320); reset value DESIGN CHOICE, assumption 2. -/
  mySeq : BitVec 8 := 0
deriving DecidableEq, Repr

/-- `Bp` at its reset values. -/
def Bp.reset : Bp := {}

/-- One core's inbound internal mailbox (10 R249). -/
structure CoreBox where
  /-- unread messages, oldest first (10 R249). -/
  msgs : List BoxMsg := []
  /-- collision flag (10 R249). -/
  collision : Bool := false
  /-- overwritten sequence numbers (10 R249). -/
  lostSeqs : List Nat := []
deriving DecidableEq, Repr

/-- `CoreBox` at its reset values. -/
def CoreBox.reset : CoreBox := {}

/-- One firmware bank (15 R365). -/
structure FwBank where
  /-- bank valid (11 R275); reset value DESIGN CHOICE, assumption 2. -/
  valid : Bool := false
  /-- version (15 R365); reset value DESIGN CHOICE, assumption 2. -/
  version : BitVec 32 := 0
  /-- retained-table layout number (15 R365); reset value DESIGN CHOICE, assumption 2. -/
  layout : Word := 0
  /-- rollback index (15 R365); reset value DESIGN CHOICE, assumption 2. -/
  rollback : Nat := 0
deriving DecidableEq, Repr

/-- `FwBank` at its reset values. -/
def FwBank.reset : FwBank := {}

/-- Firmware banks and staging (15 R365 to R370). -/
structure Fw where
  /-- banks; bank 0 holds a valid image at reset (15 R365); reset value DESIGN CHOICE, assumption 2. -/
  banks : Vector FwBank 2 := #v[{ valid := true }, .reset]
  /-- active bank (15 R371). -/
  active : Nat := 0
  /-- stage state (11 R275). -/
  stage : StageState := .idle
  /-- declared size (11 R275). -/
  size : Nat := 0
  /-- the inactive bank's bytes; an unlisted byte reads 0xFF (15 R366). -/
  mem : Memory := []
  /-- rollback floor (15 R366); reset value DESIGN CHOICE, assumption 2. -/
  floor : Nat := 0
  /-- layout number of the running image (15 R369); reset value DESIGN CHOICE, assumption 2. -/
  running : Word := 0
  /-- version of the running image, SYS_FWVER (20 R435). -/
  runVer : BitVec 32 := 0
deriving DecidableEq, Repr

/-- `Fw` at its reset values. -/
def Fw.reset : Fw := {}

/-- One recipe slot (16 R372, R373). -/
structure Slot where
  /-- code bytes; unwritten reads 0xFF (16 R372). -/
  code : Memory := []
  /-- data bytes (16 R372). -/
  data : Memory := []
  /-- signature bytes (16 R372). -/
  sig : Memory := []
  /-- verified flag (16 R373). -/
  verified : Bool := false
deriving DecidableEq, Repr

/-- `Slot` at its reset values. -/
def Slot.reset : Slot := {}

/-- Recipe engine (16 R372 to R383). -/
structure Rcp where
  /-- customer key X (11 R273). -/
  keyX : Option (List Byte) := none
  /-- customer key Y (11 R273). -/
  keyY : Option (List Byte) := none
  /-- slots (16 R373). -/
  slots : Vector Slot 8 := .replicate 8 .reset
  /-- running slot (11 R273). -/
  running : Option (Fin 8) := none
  /-- idle, waiting to start, init running, tick running or between ticks (16 R375); reset value DESIGN CHOICE, assumption 2. -/
  phase : RcpPhase := .idle
  /-- governed tap mask (11 R273). -/
  mask : BitVec 32 := 0
  /-- tick overruns (11 R273). -/
  overruns : Nat := 0
  /-- consecutive tick overruns (16 R381). -/
  consec : Nat := 0
  /-- last fault code (11 R273). -/
  lastFault : Nat := 0
  /-- tick number (16 R376). -/
  tick : Nat := 0
  /-- input page (16 R377). -/
  inPage : List Byte := .replicate 1088 0
  /-- persistent area kept in the retained table (16 R382). -/
  persist : List Byte := []
  /-- time of the last note written (16 R380). -/
  noteAt : Option Nat := none
  /-- counter CSRs the recipe read in its last run, with the values returned (16 R388); a field of the model itself. -/
  csr : List (Nat × BitVec 32) := []
  /-- output page of the last completed tick, until the arbiter period that takes it (16 R376). -/
  out : List RcpOut := []
  /-- values of the string and the taps at the last completed arbiter period (16 R376); reset value DESIGN CHOICE, assumption 2. -/
  seen : List Byte := .replicate 1032 0
  /-- the recipe's registers x0 to x31 as its last entry set them; a0 is x10 (16 R374); reset value DESIGN CHOICE, assumption 2. -/
  regs : Vector (BitVec 32) 32 := .replicate 32 0
  /-- program counter of the recipe: the entry called last, then the instruction fetched last as a yield shows it (16 R375); reset value DESIGN CHOICE, assumption 2. -/
  pc : BitVec 32 := 0
  /-- data region; an unlisted byte reads 0xFF (16 R374). -/
  data : Memory := []
  /-- output page (16 R378). -/
  outPage : List Byte := .replicate 256 0
  /-- what the recipe loaded in its last run: address and value (16 R374); a field of the model itself. -/
  loads : List (BitVec 32 × BitVec 32) := []
deriving DecidableEq, Repr

/-- `Rcp` at its reset values. -/
def Rcp.reset : Rcp := {}

/-- One core's performance unit (16 R384 to R389). -/
structure PerfCore where
  /-- EN (16 R389). -/
  en : Bool := false
  /-- TAG (16 R389). -/
  tag : Bool := false
  /-- USER_READ (16 R389). -/
  userRead : Bool := false
  /-- mean tag interval (11 R274); reset value DESIGN CHOICE, assumption 2. -/
  mean : Nat := 256
  /-- dump period (11 R274); reset value DESIGN CHOICE, assumption 2. -/
  period : Nat := 1
  /-- settings that take effect at the next dump boundary (16 R387). -/
  next : Option (Bool × Bool × Nat × Nat) := none
  /-- USER_READ change that waits for the next recipe tick (16 R387). -/
  nextUser : Option Bool := none
  /-- event code of each counter (16 R384); reset value DESIGN CHOICE, assumption 2. -/
  sel : Vector Nat 8 := .replicate 8 0
  /-- counters (16 R384); reset value DESIGN CHOICE, assumption 2. -/
  ctr : Vector (BitVec 64) 8 := .replicate 8 0
  /-- dump records held with their offset in the ring, oldest first (16 R386). -/
  ring : List (Nat × List Byte) := []
  /-- write offset (16 R386); reset value DESIGN CHOICE, assumption 2. -/
  offset : Nat := 16
  /-- wrap count (16 R386). -/
  wraps : Nat := 0
  /-- dump sequence number (16 R386); reset value DESIGN CHOICE, assumption 2. -/
  dumpSeq : Nat := 0
  /-- cycle counter (16 R388); reset value DESIGN CHOICE, assumption 2. -/
  cycle : BitVec 64 := 0
  /-- retired-instruction counter (16 R388); reset value DESIGN CHOICE, assumption 2. -/
  instret : BitVec 64 := 0
  /-- instructions to the next tag (16 R385); reset value DESIGN CHOICE, assumption 2. -/
  tagIn : Nat := 0
  /-- events a read has counted since the last dump (16 R384); a field of the model itself. -/
  ahead : Vector Nat 8 := .replicate 8 0
  /-- instructions a read has counted as retired since the last dump (16 R388); a field of the model itself. -/
  aheadRet : Nat := 0
deriving DecidableEq, Repr

/-- `PerfCore` at its reset values. -/
def PerfCore.reset : PerfCore := {}

/-- The Ndoiz monitor (17 R390 to R397). -/
structure Mon where
  /-- level, true SERVICE (17 R392). -/
  service : Bool := false
  /-- nonce awaiting its answer: draw number and time (ms) of issue (17 R393). -/
  nonce : Option (Nat × Nat) := none
  /-- times (ms) of the failed answers of the last 10 min (17 R393). -/
  fails : List Nat := []
  /-- AUTH blocked for 60 s (17 R393). -/
  blocked : Bool := false
  /-- BB NEW lists records (17 R395). -/
  listing : Bool := false
  /-- latch test mode (17 R396). -/
  testLatch : Bool := false
  /-- words of the last answer (17 R395); a field of the model itself. -/
  out : List Word := []
  /-- none: OK; some code: ER and its reason (17 R395); a field of the model itself. -/
  outErr : Option Nat := none
  /-- a CMD is in flight (17 R397). -/
  inFlight : Bool := false
  /-- characters sent back by the echo of the last line (17 R390); a field of the model itself. -/
  echo : List Byte := []
  /-- lay-out of the last answer (17 R395); a field of the model itself. -/
  form : MonForm := .plain
  /-- a CMD that waits for its cores (17 R397). -/
  cmdWait : Option (Nat × List Word) := none
  /-- C0 has checked the CMD that waits (17 R397); reset value DESIGN CHOICE, assumption 2. -/
  cmdTaken : Bool := false
  /-- line of the last answer in which a key was pressed (17 R395); a field of the model itself. -/
  stop : Option Nat := none
deriving DecidableEq, Repr

/-- `Mon` at its reset values. -/
def Mon.reset : Mon := {}

/-- The stored configuration (11 R256). -/
structure StoredCfg where
  /-- port enables, windows, limits, OV levels, ranks, weights and caps (11 R256). -/
  ports : Vector Port 4 := .replicate 4 .reset
  /-- selection mode (11 R256). -/
  mode : SelMode := .priority
  /-- site cap (11 R256). -/
  siteCap : Nat := 123000
  /-- tap settings, gangs and shares (11 R256). -/
  taps : Vector TapCfg 32 := .replicate 32 .reset
  /-- loss cap (11 R256). -/
  lossCap : Nat := 3600
  /-- own frequency (11 R256). -/
  ownFsw : Nat := 50000
  /-- SYNC_IN disabled (11 R256). -/
  syncDis : Bool := false
  /-- ladder length (11 R256). -/
  n : Nat := 3
deriving DecidableEq, Repr

/-- `StoredCfg` at its reset values. -/
def StoredCfg.reset : StoredCfg := {}

/-- The whole module: every register, queue, buffer, counter, mode and pin the spec gives it, and the
commands that wait. -/
structure State where
  /-- Module state, control plane, supplies, string, carrier, TRACK. -/
  sys : Sys := .reset
  /-- Source ports A to D. -/
  ports : Vector Port 4 := .replicate 4 .reset
  /-- Hub bus and selection settings. -/
  hub : Hub := .reset
  /-- What the registers updated every 5 ms show. -/
  shown : Shown := .reset
  /-- Taps 0 to 31 with their stakes. -/
  taps : Vector Tap 32 := .replicate 32 .reset
  /-- Dose arbiter. -/
  arb : Arb := .reset
  /-- Meter status, snapshots, statement buffer, alarm timers. -/
  mtr : Mtr := .reset
  /-- Every meter counter. -/
  ctrs : Counters := .reset
  /-- Alert queue. -/
  alr : Alr := .reset
  /-- Pour engine and TICK. -/
  pour : Pour := .reset
  /-- VSEL profiles. -/
  vsel : Vsel := .reset
  /-- Host buses. -/
  bus : Bus := .reset
  /-- Host mailboxes. -/
  mbx : Vector Mailbox 4 := .replicate 4 .reset
  /-- Answer of the monitor's CMD. -/
  monAnswer : Option Answer := none
  /-- Answer of the last command the module issued on its own behalf. -/
  ownAnswer : Option Answer := none
  /-- Backplane. -/
  bp : Bp := .reset
  /-- Internal mailboxes of C0 to C7. -/
  boxes : Vector CoreBox 8 := .replicate 8 .reset
  /-- Derbel links. -/
  links : Vector LinkPort 4 := .replicate 4 .reset
  /-- Tie of port D. -/
  tie : Tie := .reset
  /-- Watchdog. -/
  wdg : Wdg := .reset
  /-- Black box. -/
  bbx : Bbx := .reset
  /-- Firmware banks. -/
  fw : Fw := .reset
  /-- Recipe engine. -/
  rcp : Rcp := .reset
  /-- Performance units. -/
  perf : Vector PerfCore 8 := .replicate 8 .reset
  /-- Ndoiz monitor. -/
  mon : Mon := .reset
  /-- Stored configuration. -/
  stored : StoredCfg := .reset
  /-- Mailboxes whose doorbell has rung and whose command is not taken yet, in the order rung (10 R245). -/
  bells : List (Fin 4) := []
  /-- Mailboxes TAKEN, in the order taken (10 R245). -/
  taken : List (Fin 4) := []
  /-- Commands (opcode, sender, arguments) that stay TAKEN while their cluster island wakes (10 R250). -/
  held : List (Nat × Via × List Word) := []
  /-- The model's own counter of free values drawn (assumption 3); no statement rests on its reset value. -/
  free : Nat := 0
  /-- Commands that wait, first in, first out. -/
  pending : List Instr := []
deriving DecidableEq, Repr

/-- The records of a first start (R340): OFF to BOOT, and BOOT with cause, bank, version, ADDR and variant. -/
def bootRecords : List BbxItem :=
  [.event { seq := 1, type := 0x03, payload := [0, 2, 0], okA := false, okB := false },
   .event { seq := 2, type := 0x01, payload := [0, 0, 0, 0, 7, if Config.isLC then 1 else 0]
            okA := false, okB := false }]

/-- The machine right after a power-on reset: `SYS_STATE` shows BOOT, every register field at its Reset column
(R11, R28, R358), the ship latch cleared by the start (R353), no command waiting. The ports' default ranks are A 1,
B 2, C 3, D 4 (R47). The STATE and the BOOT record of the start wait to be written (R340). -/
def State.reset : State :=
  { bbx := { nextSeq := 3, queue := bootRecords }
    ports := #v[{ rank := 1 }, { rank := 2 }, { rank := 3 }, { rank := 4 }]
    stored := { ports := #v[{ rank := 1 }, { rank := 2 }, { rank := 3 }, { rank := 4 }] } }

/-- The module as it is delivered (R448): in SHIP, with the ship latch set, every VSEL profile empty, no descriptor on any tap
and, as from manufacture, no record held (R339). A start from here is `HK_PATH_QUALIFY`'s; `State.reset` is what a power-on
reset leaves at the start of BOOT (log entry 2). -/
def State.delivered : State :=
  { State.reset with sys := { Sys.reset with st := .ship, shipLatch := true, cores := 0 }, bbx := .reset }

end Sys2Proof.Machine
end

