-- ==== Sys2Proof/Machine/Bits.lean ====
section
/-! DEFINITION. Register files indexed by Fin, word packing, signed words, byte strings and the two CRCs. -/

namespace Sys2Proof.Machine

/-- `f` at every index, as a list; structural, so that the kernel can run it. -/
def tabulate {α : Type} : (n : Nat) → (Fin n → α) → List α
  | 0, _ => []
  | n + 1, f => f 0 :: tabulate n (fun i => f i.succ)

theorem tabulate_length {α : Type} : ∀ (n : Nat) (f : Fin n → α), (tabulate n f).length = n
  | 0, _ => rfl
  | n + 1, f => by simp [tabulate, tabulate_length n]

theorem tabulate_getElem {α : Type} : ∀ (n : Nat) (f : Fin n → α) (i : Nat) (h : i < n),
    (tabulate n f)[i]'(by rw [tabulate_length]; exact h) = f ⟨i, h⟩
  | _ + 1, _, 0, _ => rfl
  | n + 1, f, i + 1, h => by
      simpa [tabulate] using tabulate_getElem n (fun i => f i.succ) i (Nat.lt_of_succ_lt_succ h)

/-- The vector of `f`'s values. -/
def vec {α : Type} {n : Nat} (f : Fin n → α) : Vector α n :=
  ⟨(tabulate n f).toArray, by simp [tabulate_length]⟩

@[simp] theorem vec_getElem {α : Type} {n : Nat} (f : Fin n → α) (i : Nat) (h : i < n) :
    (vec f)[i] = f ⟨i, h⟩ := by
  simp [vec, tabulate_getElem _ _ _ h]

/-- Every index of `Fin n`. -/
def indices (n : Nat) : List (Fin n) := tabulate n id

/-- Fold over every index, in ascending order. -/
def foldFin {σ : Type} (n : Nat) (f : Fin n → σ → σ) (s : σ) : σ := (indices n).foldl (fun s i => f i s) s

/-- A bit as a number. -/
def bit (b : Bool) (p : Nat) : Nat := if b then 2 ^ p else 0

/-- A number as a register word. -/
def word (n : Nat) : Word := BitVec.ofNat 16 n

/-- Bits of a word as a number. -/
def field (w : Word) (lo len : Nat) : Nat := w.toNat / 2 ^ lo % 2 ^ len

/-- Word `k` of a signed or unsigned quantity wider than 16 bits, least significant word first (R8). -/
def wordOf (v : Int) (k : Nat) : Word := BitVec.ofInt 16 (v / 2 ^ (16 * k))

/-- Unsigned value of words, least significant first (R253). -/
def natOf : List Word → Nat
  | [] => 0
  | w :: ws => w.toNat + 65536 * natOf ws

/-- `k` words of a natural number, least significant first. -/
def wordsOf : (k : Nat) → Nat → List Word
  | 0, _ => []
  | k + 1, n => word n :: wordsOf k (n / 65536)

/-- `k` bytes of a number, least significant first. -/
def bytesOf : (k : Nat) → Nat → List Byte
  | 0, _ => []
  | k + 1, n => BitVec.ofNat 8 n :: bytesOf k (n / 256)

/-- Two's complement of `bits` bits as a natural number. -/
def twos (bits : Nat) (v : Int) : Nat := (v % (2 ^ bits : Int)).toNat

/-- The bytes of a word, high byte first (R211). -/
def bytesHL (w : Word) : List Byte := [BitVec.ofNat 8 (w.toNat / 256), BitVec.ofNat 8 w.toNat]

/-- Saturating sum. -/
def sat (cap n : Nat) : Nat := min cap n

/-- Clamp of an integer. -/
def clamp (lo hi v : Int) : Int := max lo (min hi v)

/-- One bit of a CRC-8 step with polynomial 0x07 (R222). -/
def crc8Bit (c : BitVec 8) : BitVec 8 := if c.msb then (c <<< 1) ^^^ 0x07 else c <<< 1

/-- CRC-8 of R222: initial value 0, no reflection, no final XOR. -/
def crc8 (bs : List Byte) : Byte :=
  bs.foldl (fun c b => crc8Bit (crc8Bit (crc8Bit (crc8Bit (crc8Bit (crc8Bit (crc8Bit (crc8Bit (c ^^^ b))))))))) 0

/-- One bit of the reflected CRC-32 (R286). -/
def crc32Bit (c : BitVec 32) : BitVec 32 := if c.getLsbD 0 then (c >>> 1) ^^^ 0xEDB88320 else c >>> 1

/-- CRC-32 of IEEE 802.3 (R286): reflected, initial value and final XOR all ones. -/
def crc32 (bs : List Byte) : BitVec 32 :=
  ~~~ bs.foldl (fun c b =>
    let c := c ^^^ (b.setWidth 32)
    crc32Bit (crc32Bit (crc32Bit (crc32Bit (crc32Bit (crc32Bit (crc32Bit (crc32Bit c)))))))) 0xFFFFFFFF

/-- Reading a byte of an erasable store; an unlisted byte reads 0xFF (R373). -/
def memRead : Memory → Nat → Byte
  | [], _ => 0xFF
  | (a, b) :: m, k => if a = k then b else memRead m k

/-- Writing a byte of an erasable store, keeping the canonical form. -/
def memWrite : Memory → Nat → Byte → Memory
  | [], k, v => if v = 0xFF then [] else [(k, v)]
  | (a, b) :: m, k, v =>
    if k < a then (if v = 0xFF then (a, b) :: m else (k, v) :: (a, b) :: m)
    else if k = a then (if v = 0xFF then m else (a, v) :: m)
    else (a, b) :: memWrite m k v

/-- The canonical form of a store above a lower bound: addresses strictly rising, no entry 0xFF. -/
def memWfFrom : Nat → Memory → Bool
  | _, [] => true
  | lo, (a, b) :: m => decide (lo ≤ a) && decide (b ≠ 0xFF) && memWfFrom (a + 1) m

/-- The canonical form of a store. -/
def Memory.wf (m : Memory) : Bool := memWfFrom 0 m

/-- Writing bytes from an address upwards. -/
def memWriteAll : Memory → Nat → List Byte → Memory
  | m, _, [] => m
  | m, k, b :: bs => memWriteAll (memWrite m k b) (k + 1) bs

/-- `n` bytes from an address upwards. -/
def memBytes (m : Memory) (a : Nat) : Nat → List Byte
  | 0 => []
  | n + 1 => memRead m a :: memBytes m (a + 1) n

/-- Little-endian number of bytes. -/
def natLE : List Byte → Nat
  | [] => 0
  | b :: bs => b.toNat + 256 * natLE bs

end Sys2Proof.Machine
end

