-- ==== Sys2Proof/Machine/Ops.lean ====
section
/-! DEFINITION. The named operations every meaning is built from: access to one port, tap, link, mailbox; black-box
records and alerts; stakes, taps and ports going to their safe states; contracts and pours ending; the module's state
changes. -/

namespace Sys2Proof.Machine

/-! ### Absolute maximum ratings (R420) -/

/-- A figure whose limits are equal in both directions. -/
def within (lim v : Int) : Bool := decide (-lim ≤ v ∧ v ≤ lim)
/-- A port voltage, mV. -/
def portRated (v : Int) : Bool := within Config.absPort v
/-- A tap voltage, mV. -/
def tapRated (v : Int) : Bool := within Config.absTap v
/-- A pilot voltage, 10 mV. -/
def pilotRated (v : Int) : Bool := within Config.absPilot v
/-- A TRACK voltage, mV. -/
def trackRated (v : Int) : Bool := within Config.absTrack v
/-- A string voltage, mV. -/
def stringRated (v : Int) : Bool := decide (Config.absStringMin ≤ v ∧ v ≤ Config.absString)

/-! ### Access -/

/-- Change the module-level system part. -/
def State.modSys (s : State) (f : Sys → Sys) : State := { s with sys := f s.sys }
/-- Change one port. -/
def State.modPort (s : State) (x : Fin 4) (f : Port → Port) : State := { s with ports := s.ports.set x (f s.ports[x]) }
/-- Change one tap. -/
def State.modTap (s : State) (n : Fin 32) (f : Tap → Tap) : State := { s with taps := s.taps.set n (f s.taps[n]) }
/-- Change the stake of one tap. -/
def State.modStake (s : State) (n : Fin 32) (f : Stake → Stake) : State :=
  s.modTap n (fun t => { t with stake := f t.stake })
/-- Change the settings of one tap. -/
def State.modCfg (s : State) (n : Fin 32) (f : TapCfg → TapCfg) : State := s.modTap n (fun t => { t with cfg := f t.cfg })
/-- Change one link. -/
def State.modLink (s : State) (x : Fin 4) (f : LinkPort → LinkPort) : State :=
  { s with links := s.links.set x (f s.links[x]) }
/-- Change one mailbox. -/
def State.modMbx (s : State) (n : Fin 4) (f : Mailbox → Mailbox) : State := { s with mbx := s.mbx.set n (f s.mbx[n]) }
/-- Change every tap. -/
def State.mapTaps (s : State) (f : Fin 32 → Tap → Tap) : State := { s with taps := vec fun n => f n s.taps[n] }
/-- Change every port. -/
def State.mapPorts (s : State) (f : Fin 4 → Port → Port) : State := { s with ports := vec fun x => f x s.ports[x] }
/-- Change the watchdog. -/
def State.modWdg (s : State) (f : Wdg → Wdg) : State := { s with wdg := f s.wdg }
/-- Change the pour engine. -/
def State.modPour (s : State) (f : Pour → Pour) : State := { s with pour := f s.pour }
/-- Change the black box. -/
def State.modBbx (s : State) (f : Bbx → Bbx) : State := { s with bbx := f s.bbx }
/-- Change the buses. -/
def State.modBus (s : State) (f : Bus → Bus) : State := { s with bus := f s.bus }

/-- `SYS_STATE.STATE` code (R28); OFF and SHIP have none and show 0. -/
def modCode : ModState → Nat
  | .off => 0 | .ship => 0 | .boot => 2 | .standby => 3 | .run => 4 | .hold => 5 | .safe => 6 | .recovery => 7

/-- Tap state code (R129). -/
def tapCode : TapState → Nat
  | .absent => 0 | .detect => 1 | .cupping => 2 | .precharge => 3 | .cc => 4 | .cv => 5 | .done => 6 | .topoff => 7
  | .suspended => 8 | .keep => 9 | .standIn => 10 | .faultTimer => 11 | .faultShort => 12 | .faultOpen => 13
  | .faultOv => 14 | .faultTherm => 15

/-- Port state code (R57). -/
def portCode : PortState → Nat
  | .disabled => 0 | .idle => 1 | .qualify => 2 | .precharge => 3 | .softstart => 4 | .online => 5 | .backoff => 6
  | .locked => 7

/-- Selection mode code (R57). -/
def selCode : SelMode → Nat
  | .priority => 0 | .blend => 1 | .cap => 2 | .contract => 3

/-- Link state code (R281). -/
def linkCode : LinkState → Nat
  | .off => 0 | .unattached => 1 | .debounce => 2 | .attached => 3 | .transition => 4 | .contract => 5 | .swap => 6
  | .blank => 7

/-- Presentation code (R271, R309). -/
def presentCode : Present → Nat
  | .off => 0 | .sink => 1 | .source => 2 | .dual => 3

/-- Pour state code (R195). -/
def pourCode : PourState → Nat
  | .idle => 0 | .opened => 1 | .validating => 2 | .prepared => 3 | .released => 4

/-- Mailbox state code (R252). -/
def mbxCode : MbxState → Nat
  | .empty => 0 | .pending => 1 | .taken => 2 | .ready => 3

/-- Stage state code (R275). -/
def stageCode : StageState → Nat
  | .idle => 0 | .erasing => 1 | .opened => 2 | .verifying => 3 | .verified => 4 | .failed => 5

/-- The FAULT states (R129). -/
def TapState.isFault : TapState → Bool
  | .faultTimer | .faultShort | .faultOpen | .faultOv | .faultTherm => true
  | _ => false

/-- "Holding a block" (R132): any state except ABSENT, STAND-IN and FAULT-OPEN. -/
def TapState.holds : TapState → Bool
  | .absent | .standIn | .faultOpen => false
  | _ => true

/-- The module is powered and its HOST island runs (R211, R354). -/
def State.powered (s : State) : Bool :=
  match s.sys.st with
  | .off | .ship => false
  | _ => true

/-- Time carried by records and alerts (R339, R441): module time once it has been set, else time since power-on
reset. -/
def State.stamp (s : State) : Nat := if s.sys.timeValid then s.sys.time else s.sys.uptime

/-- The cluster engine of a tap runs, so that FW transitions occur (R132, R134). -/
def fwUp (s : State) (n : Fin 32) : Bool := s.powered && s.sys.cores.getLsbD (4 + n.val / 8)

/-- Draw number of a free value: the counter's value, and the state with the counter advanced (log entry 3). -/
def State.draw (s : State) : Nat × State := (s.free, { s with free := s.free + 1 })

/-- Times of `ts` that lie within the last `w` ms. -/
def recent (now w : Nat) (ts : List Nat) : List Nat := ts.filter (fun t => now < t + w)

/-! ### Black-box records and alerts -/

/-- Append a record of the event ring to the write queue (R339, R342); it takes the next record sequence number. The queue has
32 KiB: the spec does not say what a full one does, and the model lets what lies beyond wait in its order (DESIGN CHOICE, log
entry 70). -/
def record (type : Nat) (payload : List Word) (s : State) : State :=
  s.modBbx fun b =>
    { b with
      nextSeq := b.nextSeq + 1
      queue := b.queue ++ [.event { seq := b.nextSeq, type := type, timeValid := s.sys.timeValid
                                    inHold := decide (s.sys.st = ModState.hold), time := s.stamp, payload := payload
                                    okA := false, okB := false }] }

/-- Append a record that R344 may withhold: the first 16 of a key in its window are written. -/
def recordKeyed (key : Nat × Nat × Nat) (payload : List Word) (s : State) : State :=
  match s.bbx.windows.find? (fun w => w.key = key) with
  | none => record key.1 payload (s.modBbx fun b => { b with windows := b.windows ++ [{ key := key, n := 1 }] })
  | some w =>
    let s' := s.modBbx fun b =>
      { b with windows := b.windows.map fun v => if v.key = key then { v with n := v.n + 1 } else v }
    if w.n < 16 then record key.1 payload s' else s'

/-- Event codes of EVENT records (log entry 7: the spec lists none). -/
inductive EvCode where
  | portTrip | fuseOut | boxCollision | holdEntry | wrongKey | foreignService | missedSnapshot | hkMove | dropped
  | longPress | shuntHeld | stringOver | wdgDisabled | restoreGap | recipeFault | note | authDone | repair | hubOv
deriving DecidableEq, Repr

/-- Number of an event code. -/
def EvCode.num : EvCode → Nat
  | .portTrip => 1 | .fuseOut => 2 | .boxCollision => 3 | .holdEntry => 4 | .wrongKey => 5 | .foreignService => 6
  | .missedSnapshot => 7 | .hkMove => 8 | .dropped => 9 | .longPress => 10 | .shuntHeld => 11 | .stringOver => 12
  | .wdgDisabled => 13 | .restoreGap => 14 | .recipeFault => 15 | .note => 16 | .authDone => 17 | .repair => 18
  | .hubOv => 19

/-- Write an EVENT record (R340). -/
def event (c : EvCode) (params : List Int) (s : State) : State :=
  recordKeyed (0x0D, c.num, 0) (word c.num :: params.map (fun p => BitVec.ofInt 16 p)) s

/-- Sequence number of the newest record. -/
def lastRec (s : State) : Nat := s.bbx.nextSeq - 1

/-- Make room for an alert of class `c` in a full queue (R439): the oldest alert of the highest class present, if
that class is `c` or more; none when the new alert is dropped instead. -/
def evict (c : Nat) (q : List Alert) : Option (List Alert) :=
  let top := q.foldl (fun m a => max m a.cls) 0
  if c ≤ top then some (q.eraseP fun a => a.cls = top) else none

/-- Queue an alert, which takes the next sequence number and pulls ALERT# (R231, R436, R439). -/
def enqueue (a : Alert) (s : State) : State :=
  let a : Alert := { a with seq := s.alr.nextSeq }
  let alr : Alr := { s.alr with nextSeq := s.alr.nextSeq + 1 }
  let full : Alr := { alr with lost := sat 0xFFFF (alr.lost + 1), overflow := true }
  let alr : Alr := if alr.queue.length < 64 then { alr with queue := alr.queue ++ [a] }
    else match evict a.cls alr.queue with
      | some q => { full with queue := q ++ [a] }
      | none => full
  { s with alr := alr, bus := { s.bus with alertOut := s.bus.alertOut || (s.bus.araEn && !s.bp.addrDup) } }

/-- The control plane restarts: in HOLD, or with every core restarting in SAFE (R29, R333). -/
def planeDown (s : State) : Bool := decide (s.sys.st = .hold) || (decide (s.sys.st = .safe) && decide (s.sys.cores = 0))

/-- Raise an alert (R440); while the control plane restarts it is deferred (R134, R177, R337, R436). -/
def alertAt (bbxSeq : Nat) (cls kind reason inst : Nat) (param : Int) (s : State) : State :=
  let a : Alert := { seq := 0, cls := cls, kind := kind, reason := reason, inst := inst,
                     param := BitVec.ofInt 32 param, time := s.stamp, timeValid := s.sys.timeValid,
                     deferred := planeDown s, bbxSeq := bbxSeq }
  if planeDown s then { s with alr := { s.alr with deferred := s.alr.deferred ++ [a] } } else enqueue a s

/-- Raise an alert without a record. -/
def alert (cls kind reason inst : Nat) (param : Int) (s : State) : State := alertAt 0 cls kind reason inst param s

/-- The sequence number of the record written between two states (R441): 0 where R344 has withheld it. -/
def recSince (s t : State) : Nat := if t.bbx.nextSeq = s.bbx.nextSeq then 0 else lastRec t

/-- Write a record and raise the alert that names it (R441). -/
def alertRec (rec_ : State → State) (cls kind reason inst : Nat) (param : Int) (s : State) : State :=
  alertAt (recSince s (rec_ s)) cls kind reason inst param (rec_ s)

/-! ### Fault summary -/

/-- A 32-bit bitmap of the taps that satisfy a test. -/
def tapBits (s : State) (p : Tap → Bool) : Nat := ((indices 32).map fun n => bit (p s.taps[n]) n.val).sum

/-- Some cut episode of a tap is open (R179). -/
def Tap.cut (t : Tap) : Bool := t.cutSup.running || t.cutCon.running

/-- FLT page (R442), by the offset from 0x0280. -/
def fltReg (s : State) (off : Nat) : Word :=
  let map (p : Tap → Bool) : Word := wordOf (tapBits s p) (off % 2)
  match off / 2 with
  | 0 => if off = 0 then
      word (bit s.hub.ov3 0 + bit s.sys.selfTest 1 + bit s.sys.shFault 2 + bit s.sys.estop 3
        + bit (s.taps.toList.any fun t => t.stake.withdrawn) 4 + bit (!s.bbx.okA || !s.bbx.okB) 5 + bit s.bp.addrDup 6)
    else 0
  | 1 => map fun t => t.state.isFault
  | 2 => map fun t => decide (t.state = .suspended)
  | 3 => map Tap.cut
  | 4 => map fun t => t.stake.slotByp
  | 5 => if off = 10 then
      word ((indices 4).map fun x => bit (decide (s.ports[x].state = .locked)) x.val
        + bit (decide (s.ports[x].state = .backoff)) (4 + x.val) + bit s.ports[x].tripped (8 + x.val)).sum
    else 0
  | _ => 0

/-- The fault summary as its registers show it (R442). -/
def fltWords (s : State) : List Word := tabulate 11 fun k => fltReg s k.val

/-- The fault summary follows at once where `FLT_MODULE` has changed from that of `a` (R442). -/
def fltSince (a s : State) : State :=
  if fltReg a 0 = fltReg s 0 then s else { s with shown := { s.shown with flt := fltWords s } }

/-- An event with the change of the fault summary that may follow (R442). -/
def withFlt (f : State → State) (s : State) : State := fltSince s (f s)

/-! ### The ALERT# line -/

/-- The alert level is 0 while ALERT# is high (R232). -/
def Bus.lineLevel (b : Bus) : Bus := if b.alertOut || b.alertOther then b else { b with level := 0 }

/-- ALERT# follows the queue: released once no alert is unacknowledged (R231, R232, R436). -/
def settleAlert (s : State) : State :=
  if s.alr.queue.isEmpty then
    { s with bus := ({ s.bus with alertOut := false, repull := false } : Bus).lineLevel } else s

/-! ### Stakes -/

/-- The taps whose stakes act together: a ganged pair, or the tap alone (R65). -/
def mates (s : State) (n : Fin 32) : List (Fin 32) :=
  if s.taps[n].cfg.gang then
    [⟨n.val / 2 * 2, by omega⟩, ⟨n.val / 2 * 2 + 1, by omega⟩]
  else [n]

/-- Change the stakes that act together with tap `n`. -/
def onMates (n : Fin 32) (f : Stake → Stake) (s : State) : State := (mates s n).foldl (fun s m => s.modStake m f) s

/-- The tap whose stake and state machine serve a tap: tap 2k of a ganged pair (R65, R136). -/
def headTap (s : State) (n : Fin 32) : Fin 32 := if s.taps[n].cfg.gang then ⟨n.val / 2 * 2, by omega⟩ else n

/-- The odd tap of a ganged pair, addressed as tap 2k (R3). -/
def gangedOdd (s : State) (n : Fin 32) : Bool := s.taps[n].cfg.gang && decide (n.val % 2 = 1)

/-- All rods off. -/
def rodsOff (k : Stake) : Stake := { k with rods := k.rods.map fun r => { r with active := false, duty := 0, iRod := 0 } }

/-- A stake stops: it does not convert and its tap switch is open (R129); attempts return to zero (R105). The outputs and
errors of its loops (R68) keep their values and the next start goes on from them: the spec does not say what a stop or
a start does to them (DESIGN CHOICE, log entry 46). -/
def Stake.halt (k : Stake) : Stake :=
  { rodsOff k with
    conv := false, sw := false, start := .off, softStart := false, slewing := false, attempts := 0
    bypRamp := false, bypMs := 0, caps := [], handOff := .none, fromBypass := false, droopSi := false
    refReached := false, braking := false, buckOff := false, iTarget := 0, ist := 0, rodRef := 0, testing := false
    swapOut := none, wearDue := false, clearMs := 0, openDue := false }

/-- A tap changes its state (R105): the attempt count returns to zero and an off time of the hiccup is cancelled. -/
def Stake.fresh (k : Stake) : Stake :=
  { k with attempts := 0, caps := [], start := if k.start = .hiccup then .off else k.start }

/-- A tap takes up a state with a block (R140, R416): SLOT_BYP and what a hand-off left are released. -/
def Stake.rejoin (k : Stake) : Stake :=
  { k.fresh with slotByp := false, bypassed := false, bypRamp := false, bypMs := 0, handOff := .none, fromBypass := false
                 autoReturned := false, openDue := false }

/-- Stop the stake of a tap, and of its gang partner, with SLOT_BYP asserted first in STAND-IN (R18, R129). -/
def stopStake (n : Fin 32) (s : State) : State :=
  let byp := decide (s.taps[n].state = .standIn)
  let s := onMates n Stake.halt s
  let s := if byp then s.modStake n fun k => { k with slotByp := true } else s
  s.modTap n fun t => { t with limit := 0, tracking := false, keepLow := false }

/-- Number of healthy rods. -/
def Stake.healthy (k : Stake) : Nat := (k.rods.toList.filter (·.healthy)).length
/-- Number of active rods. -/
def Stake.nActive (k : Stake) : Nat := (k.rods.toList.filter (·.active)).length
/-- A rod is available when it is healthy and not forced to rest (R78). -/
def Rod.avail (r : Rod) : Bool := r.healthy && decide (r.rest = .none) && !r.susp && !r.overTemp
/-- Number of available rods. -/
def Stake.nAvail (k : Stake) : Nat := (k.rods.toList.filter (·.avail)).length

/-- Current and power rating of a single stake from its healthy rods (R88): 10 mA and W. -/
def rate (h : Nat) : Nat × Nat :=
  if 15 ≤ h then (8000, 3750) else if 4 ≤ h then (8000 * h / 15, 3750 * h / 15) else (0, 0)

/-- Sum of R89 over a ganged pair. -/
def pairSum (s : State) (n : Fin 32) : Nat := ((mates s n).map fun m => min 15 s.taps[m].stake.healthy).sum

/-- Current and power rating of the stake or pair that serves tap `n` (R88, R89). -/
def rating (s : State) (n : Fin 32) : Nat × Nat :=
  if (mates s n).any fun m => s.taps[m].stake.withdrawn then (0, 0)
  else if s.taps[n].cfg.gang then
    let h := pairSum s n
    if h < 8 then (0, 0) else (min 16000 (16000 * h / 30), min 7500 (7500 * h / 30))
  else rate s.taps[n].stake.healthy

/-- A stake or pair whose healthy rods give it no rating (R88, R89). -/
def unrated (s : State) (n : Fin 32) : Bool :=
  if s.taps[n].cfg.gang then decide (pairSum s n < 8) else decide (s.taps[n].stake.healthy < 4)

/-- Every stake and pair without a rating is withdrawn (R88 to R90): what BOOT finds in the health records. -/
def markWithdrawn (s : State) : State :=
  s.mapTaps fun n t => if unrated s n then { t with stake := { t.stake with withdrawn := true } } else t

/-- Current limit at a tap voltage in mV (R15): the lower of the current rating and power ÷ voltage; 10 mA. -/
def ampsAt (r : Nat × Nat) (mv : Int) : Nat := if mv ≤ 0 then r.1 else min r.1 (r.2 * 100000 / mv.toNat)

/-- Stake current limit under R15 at the present Kelvin voltage. -/
def stakeLimit (s : State) (n : Fin 32) : Nat := ampsAt (rating s n) s.taps[n].vKel

/-- Running times are saved to flash (R79). -/
def saveTimes (s : State) : State :=
  s.mapTaps fun _ t =>
    { t with stake := { t.stake with rods := t.stake.rods.map fun r => { r with savedTime := r.runTime } } }

/-! ### Descriptor values with their defaults (R123, R124, R138) -/

/-- Per-cell defaults of a chemistry class: CV, OV, keep, nominal, precharge threshold (R124). -/
def chemDefaults : Nat → Nat × Nat × Nat × Nat × Nat
  | 0 => (3600, 3750, 3000, 3200, 2500)
  | 1 => (4150, 4300, 3400, 3650, 3000)
  | _ => (2700, 2850, 2100, 2300, 1800)

/-- CV per cell. -/
def Descriptor.cvC (d : Descriptor) : Nat := d.cv.getD (chemDefaults d.chem).1
/-- OV per cell. -/
def Descriptor.ovC (d : Descriptor) : Nat := d.ov.getD (chemDefaults d.chem).2.1
/-- Keep per cell. -/
def Descriptor.keepC (d : Descriptor) : Nat := d.keep.getD (chemDefaults d.chem).2.2.1
/-- Nominal per cell. -/
def Descriptor.nomC (d : Descriptor) : Nat := d.nominal.getD (chemDefaults d.chem).2.2.2.1
/-- Precharge threshold per cell. -/
def Descriptor.preC (d : Descriptor) : Nat := d.preThr.getD (chemDefaults d.chem).2.2.2.2
/-- Temperature thresholds T1 to T4 and T_fault. -/
def Descriptor.temps (d : Descriptor) : Int × Int × Int × Int × Int :=
  (d.t1.getD 0, d.t2.getD 100, d.t3.getD 450, d.t4.getD 550, d.tFault.getD 650)
/-- R_max, 10 µΩ. -/
def Descriptor.rMaxV (d : Descriptor) : Nat := d.rMaxInt.getD (min 65535 (max 100 (d.cells * 200)))

/-- Latest history record of a tap that is stored (R127, R128); one that fails its CRC in both copies shows nothing. -/
def lastHist (s : State) (n : Fin 32) : Option HistRec :=
  s.bbx.hist.reverse.find? fun h => decide (h.tap = n.val) && (h.okA || h.okB)

/-- What a latest record is to a tap (R127): nothing when it is void or carries another serial than the descriptor. -/
def histOf (h : Option HistRec) (d : Option Descriptor) : Option HistRec :=
  match h, d with
  | some h, some d => if h.void || h.serial != d.serial then none else some h
  | _, _ => none

/-- The history of a tap (R127). -/
def history (s : State) (n : Fin 32) : Option HistRec := histOf (lastHist s n) s.taps[n].desc

/-- The history a tap has once its write queue is written (R127, R342): what a new record builds on. -/
def nextHistory (s : State) (n : Fin 32) : Option HistRec :=
  histOf ((s.bbx.queue.reverse.findSome? fun i => match i with
    | .hist h => if h.tap = n.val then some h else none
    | _ => none).orElse fun _ => lastHist s n) s.taps[n].desc

/-- Capacity in use C (R123): learned, else nameplate; 0.1 Ah. -/
def capacity (s : State) (n : Fin 32) : Nat :=
  match s.taps[n].desc with
  | none => 0
  | some d => ((history s n).bind (·.cap)).getD d.nameplate

/-- Cells of a tap; 6 on a tap with no descriptor (R138). -/
def cells (t : Tap) : Int := match t.desc with
  | none => 6
  | some d => d.cells

/-- Precharge current, default 0.02 C clamped into 0.50 A to 10.00 A (R123). -/
def preCurOf (s : State) (n : Fin 32) (d : Descriptor) : Nat :=
  d.preCur.getD (min 1000 (max 50 (capacity s n * 10 * 2 / 100)))
/-- Top-off current, default 0.05 C clamped into 0.50 A to I_fast (R123). -/
def topCurOf (s : State) (n : Fin 32) (d : Descriptor) : Nat :=
  d.topCur.getD (min d.iFast (max 50 (capacity s n * 10 * 5 / 100)))

/-- CV target in mV. -/
def cvTarget (t : Tap) : Nat := match t.desc with
  | none => 0
  | some d => d.cells * d.cvC
/-- Effective CV target (R129, R154, R155): lowered in the warm and hot bands and, with policy DERATE, without a valid NTC.
A reduction may bring it below the 18.000 V of R98: the spec does not say which wins, and the model does not clamp it
(DESIGN CHOICE, log entry 47). -/
def effCv (t : Tap) : Nat := match t.desc with
  | none => 0
  | some d =>
    d.cells * d.cvC - (if t.band = 3 ∨ t.band = 4 ∨ (t.band = 6 ∧ !d.noNtcSuspend) then d.cells * d.warmRed.getD 100 else 0)
/-- Temperature current fraction in percent (R154, R155). -/
def fraction (t : Tap) : Nat := match t.desc with
  | none => 100
  | some d => if t.band = 0 ∨ t.band = 1 ∨ (t.band = 6 ∧ !d.noNtcSuspend) then d.coldFrac.getD 25 else 100
/-- Temperature thresholds of a tap; the defaults of R123 with no descriptor (R137). -/
def tapTemps (t : Tap) : Int × Int × Int × Int × Int := (t.desc.getD .reset).temps
/-- Keep voltage in mV (R106). -/
def keepVolt (t : Tap) : Nat := t.cfg.keepV.getD (match t.desc with
  | none => 0
  | some d => d.cells * d.keepC)
/-- Stand-in voltage, if the tap has one (R108). -/
def siVolt (t : Tap) : Option Nat := t.cfg.siV.orElse fun _ => t.desc.map fun d => d.cells * d.nomC
/-- Stand-in window (R108). -/
def siWindow (t : Tap) : Nat × Nat :=
  let v := (siVolt t).getD 0
  (t.cfg.siMin.getD (max 18000 (v * 8 / 10)), t.cfg.siMax.getD (min 96000 (v * 12 / 10)))

/-- The tracked value before its clamp (R115), from the averaged TRACK voltage in mV; none when not tracking: before TRACK
has been valid, and from 1 ms of its invalidity until it resumes (R117). A shorter gap moves nothing to the fixed target,
and the averaged value is followed within its clamp (R116). -/
def tracked (s : State) (t : Tap) : Option Nat :=
  if !s.sys.trackSeen || s.sys.trackHeld then none else
  match t.cfg.track with
  | .off => none
  | .ratio => some (t.cfg.trackFs * s.sys.trackMv.toNat / 5000)
  | .coincident => some (20 * s.sys.trackMv.toNat)

/-- Voltage target of a tap in KEEP (R106, R115). With no descriptor there is no CV target to clamp to, and the model
clamps the tracked value at the highest tap voltage, 96 V (R98; DESIGN CHOICE, log entry 47). -/
def keepTarget (s : State) (t : Tap) : Nat := match tracked s t with
  | none => keepVolt t
  | some v => (match t.desc with
    | none => min Config.tapMax (max (keepVolt t) v)
    | some _ => min (cvTarget t) (max (keepVolt t) v))
/-- Stand-in reference of a tap (R109, R115). -/
def siTarget (s : State) (t : Tap) : Nat := match tracked s t with
  | none => (siVolt t).getD 0
  | some v => min (siWindow t).2 (max (siWindow t).1 v)

/-- Block-current target and voltage target that a state asks for (R129, R147, R150), with a recipe's voltage
ceiling (R378). -/
def targets (s : State) (n : Fin 32) (st : TapState) : Nat × Int :=
  let t := s.taps[n]
  let v := effCv t
  let vr := if t.rcpCeil = 0 ∨ v ≤ t.rcpCeil then v else t.rcpCeil
  match t.desc with
  | none => (match st with
    | .keep => (keepTarget s t, 0)
    | .standIn => (siTarget s t, 0)
    | _ => (0, 0))
  | some d => match st with
    | .precharge => (vr, preCurOf s n d * fraction t / 100)
    | .cc | .cv => (vr, d.iFast * fraction t / 100)
    | .topoff => (vr, topCurOf s n d * fraction t / 100)
    | .keep => (keepTarget s t, 0)
    | .standIn => (siTarget s t, 0)
    | .done => (v, 0)
    | _ => (cvTarget t, 0)

/-- A helper tap of a shared block (R313, R317). -/
def isHelper (t : Tap) : Bool := decide (0 < t.cfg.share) && t.cfg.helper

/-- The states in which the stake converts (R129); DONE converts with FLOAT, and always at a helper (R316). -/
def TapState.converts (t : Tap) : TapState → Bool
  | .cupping | .precharge | .cc | .cv | .topoff | .keep | .standIn => true
  | .done => isHelper t || (match t.desc with | none => false | some d => d.doneFloat)
  | .detect => t.stake.conv
  | _ => false

/-- Give the stake of a tap the references its state asks for: a converting stake slews (R99), a stopped one keeps
them for its start. A new target equal to `v_ref` ends the ramp (R100). -/
def retarget (n : Fin 32) (s : State) : State :=
  let g := targets s n s.taps[n].state
  s.modTap n fun t =>
    let k := t.stake
    let hit := k.conv && k.sw && !k.fromBypass && decide (k.vref = g.1 * 1000)
    { t with
      tracking := decide (t.state = .keep ∨ t.state = .standIn) && (tracked s t).isSome
      stake := { k with
        vTarget := g.1, iTarget := g.2, softStart := k.softStart && !hit
        attempts := if k.softStart && hit then 0 else k.attempts
        refReached := k.refReached || (hit && decide (t.state = .standIn))
        slewing := k.conv && !k.softStart && !hit } }

/-! ### Tap transitions -/

/-- Stake current that reaches the block of a tap (R65, R180): its stake's, or the sum over both stakes of a pair. -/
def stakeAmps (s : State) (n : Fin 32) : Int := ((mates s n).map fun m => s.taps[m].iStk).sum

/-- Block current of a tap (R180): stake current − string current, and 0 A with the switch open and SLOT_FB present; at a
primary of a shared block s × i⁺ is added, with its own switch open too (R317). A pair has one block, which both its stakes feed (R63, R65): the model
shows its current at both taps. -/
def iBlk (s : State) (n : Fin 32) : Int :=
  let t := s.taps[n]
  if !t.stake.sw && t.stake.slotFb then 0 else
  let own := (if t.stake.sw then stakeAmps s n else 0) - s.sys.iStr
  if 0 < t.cfg.share ∧ t.cfg.helper = false then own + t.cfg.share * max 0 s.sys.iStr / 16 else own

/-- Words of a TAP_FAULT record (R105, R129, R340). -/
def faultRecord (n : Fin 32) (s : State) : List Word :=
  let t := s.taps[n]
  [word n.val, word (tapCode t.state), word t.cause, wordOf t.vKel 0, wordOf t.vKel 1, wordOf (iBlk s n) 0,
   wordOf (iBlk s n) 1, wordOf t.iStk 0, wordOf t.iStk 1, wordOf t.ntcA 0, wordOf t.ntcB 0,
   wordOf (t.pre.elapsed / 256) 0, wordOf (t.pre.elapsed / 256) 1, wordOf (t.chg.elapsed / 256) 0,
   wordOf (t.chg.elapsed / 256) 1]
  ++ t.stake.caps.flatMap fun c => [c.1, c.2.1, c.2.2].flatMap fun v => [wordOf v 0, wordOf v 1]

/-- Class of the alert of a SUSPENDED cause (R131); module state raises none. -/
def suspClass : Nat → Option Nat
  | 10 => none
  | 5 | 6 | 7 | 11 => some 0
  | _ => some 3

/-- Disarmed timers. -/
def Tap.disarm (t : Tap) : Tap := { t with pre := .reset, chg := .reset }

/-- Enter SUSPENDED with a cause (R131): the stake stops, the state left is remembered. -/
def suspend (n : Fin 32) (cause : Nat) (s : State) : State :=
  let left := s.taps[n].state
  let s := stopStake n s
  let s := s.modTap n fun t =>
    { t with state := .suspended, cause := cause, left := if left = .suspended then t.left else left }
  match suspClass cause with
  | none => s
  | some c => alert c 2 (0x80 + cause) n.val s.taps[n].vKel s

/-- A tap that leaves SUSPENDED releases the SLOT_BYP it held there (R416). -/
def Tap.releaseByp (t : Tap) : Stake := { t.stake with slotByp := t.stake.slotByp && decide (t.state ≠ .suspended) }

/-- Enter a FAULT state (R129): stop, record, priority-0 alert, SLOT_BYP under bypass-on-fault. -/
def tapFault (n : Fin 32) (st : TapState) (cause : Nat) (s : State) : State :=
  let s0 := s.modTap n fun t => { t with state := st, cause := cause }
  let rec_ := faultRecord n s0
  let s := stopStake n (s.modTap n fun t => { t with stake := t.releaseByp })
  let s := s.modTap n fun t =>
    { t with state := st, cause := cause
             stake := { t.stake with slotByp := t.stake.slotByp || t.cfg.bypOnFault } }
  let s := if st = .faultOpen then s.modTap n Tap.disarm else s
  alertRec (record 0x08 rec_) 0 2 (tapCode st) n.val s.taps[n].vKel s

/-- A powered-down cluster island is asked to wake (R22). -/
def wakeFor (n : Fin 32) (s : State) : State :=
  if s.sys.clOn.getLsbD (n.val / 8) then s
  else s.modSys fun y => { y with clWaking := y.clWaking ||| (1#4 <<< (n.val / 8)) }

/-- Enter DETECT (R129, R143), a converting stake at a block current of 0 A; a new block disarms both safety timers and breaks a charge from KEEP (R128, R156). -/
def toDetect (n : Fin 32) (isNew : Bool) (s : State) : State :=
  let s := s.modTap n fun t =>
    { t with state := .detect, cause := 0, newBlock := isNew
             doneSeen := false, tracking := false
             keepQ := if isNew then none else t.keepQ }
  let s := if isNew then s.modTap n Tap.disarm else s
  let s := s.modTap n fun t => { t with insHeld := false, stake := { t.stake.rejoin with iTarget := 0 } }
  wakeFor n (if s.taps[n].stake.conv && s.taps[n].desc.isSome then retarget n s else s)

/-- Arm the timers an entry to a charge state arms (R150, R156). -/
def armFor (n : Fin 32) (st : TapState) (s : State) : State :=
  match s.taps[n].desc with
  | none => s
  | some d =>
    let c := capacity s n
    s.modTap n fun t => match st with
      | .precharge =>
        if t.pre.armed then { t with timerShown := 1 }
        else { t with timerShown := 1, pre := { armed := true, size := d.preTimer.getD 60 * 60000 } }
      | .cc | .cv =>
        if t.chg.armed then { t with timerShown := 2 }
        else { t with timerShown := 2
                      chg := { armed := true
                               size := min 64800000 (d.kFactor.getD 15 * c * 3600000 / d.iFast) } }
      | .topoff => { t with timerShown := 3, top := { armed := true, size := d.topTimer.getD 60 * 60000 } }
      | _ => t

/-- A helper enters DONE in place of the states that charge or keep (R316). -/
def helperState (t : Tap) (st : TapState) : TapState := match st with
  | .cupping | .precharge | .cc | .cv | .topoff | .keep => if isHelper t then .done else st
  | _ => st

/-- Enter a charge state or DONE (R129, R316): entry alerts, timers, counts and references. -/
def enterCharge (n : Fin 32) (st : TapState) (s : State) : State :=
  let st := helperState s.taps[n] st
  let s := s.modTap n fun t => { t with state := st, cause := 0, stake := t.stake.rejoin }
  match st with
  | .done =>
    let s := s.modTap n fun t =>
      { t.disarm with outQ := 0, doneSeen := true, top := .reset, timerShown := 0 }
    let s := alert 3 2 6 n.val s.taps[n].vKel s
    if TapState.converts s.taps[n] .done then retarget n s else stopStake n s
  | .cupping =>
    let s := s.modTap n fun t => { t with cupT := 0, cupOhm := [], cupInt := [], keepQ := none }
    retarget n (onMates n (fun k => { k with rods := k.rods.map fun r => { r with trim := 0 } }) s)
  | _ => retarget n (armFor n st s)

/-- The Kelvin voltage in use: the power pair stands in for a bad Kelvin pair (R142). -/
def kelvin (t : Tap) : Int := if t.kelvinBad then t.vPair else t.vKel

/-- "By Kelvin" (R132): PRECHARGE below cells × precharge threshold, CC otherwise. -/
def byKelvin (t : Tap) : TapState := match t.desc with
  | none => .cc
  | some d => if kelvin t < (d.cells * d.preC : Nat) then .precharge else .cc

/-- Enter the state chosen by Kelvin. -/
def goByKelvin (n : Fin 32) (s : State) : State := enterCharge n (byKelvin s.taps[n]) s

/-- Enter KEEP, remembering the state left (R151); a helper enters DONE instead (R316). -/
def toKeep (n : Fin 32) (s : State) : State :=
  if isHelper s.taps[n] then enterCharge n .done s else
  let s := s.modTap n fun t =>
    { t with state := .keep, left := t.state, leftCause := t.cause, left2 := t.left, cause := 0, keepQ := none
             stake := t.stake.rejoin }
  retarget n (alert 3 2 9 n.val s.taps[n].vKel s)

/-- Return to a state left (R151, R156): no alert, counts kept; a timer of the state that is disarmed is armed. -/
def returnTo (n : Fin 32) (st : TapState) (cause : Nat) (s : State) : State :=
  let st := helperState s.taps[n] st
  let s := s.modTap n fun t => { t with state := st, cause := cause, stake := t.stake.rejoin }
  let s := if st = .topoff ∧ s.taps[n].top.armed then s.modTap n fun t => { t with timerShown := 3 } else armFor n st s
  if TapState.converts s.taps[n] st then retarget n s else stopStake n s

/-- Enter STAND-IN with a converting or stopped stake (R109). -/
def toStandIn (n : Fin 32) (s : State) : State :=
  let s := s.modTap n fun t =>
    { t with state := .standIn, cause := 0, keepLow := false
             stake := { t.stake.fresh with
               refReached := false, bypassed := false, handOff := .none, bypFail := t.stake.bypFail, autoReturned := false } }
  retarget n (alert 3 2 10 n.val s.taps[n].vKel s)

/-- Enter ABSENT (R129, R416): stopped, safety timers disarmed; a tap that leaves SUSPENDED releases SLOT_BYP. -/
def toAbsent (n : Fin 32) (s : State) : State :=
  let s := stopStake n s
  s.modTap n fun t =>
    { t.disarm with state := .absent, cause := 0, timerShown := 0, doneSeen := false, keepQ := none, stake := t.releaseByp }

/-- What leaving RUN does to one tap (R135); the event ranks first among those of its sample (R133). -/
def leaveRunTap (n : Fin 32) (s : State) : State :=
  let t := s.taps[n]
  let go (s : State) : State := (suspend n 10 s).modTap n fun t => { t with acted := 1 }
  match t.state with
  | .detect | .cupping | .precharge | .cc | .cv | .topoff | .keep | .standIn => go s
  | .done => if TapState.converts t .done then go s else s
  | .suspended => if t.cause = 4 then s.modTap n fun t => { t with cause := 10 } else s
  | _ => s

/-- The tap has acted on no event in the present sample that ranks before a command (R133). -/
def unacted (s : State) (n : Fin 32) : Bool := decide (s.taps[n].acted = 0 ∨ 8 ≤ s.taps[n].acted)

/-- A tap has acted on what led from `a` to `b` (R133): its state, its cause, its start or its hand-off has moved. -/
def tapMoved (a b : Tap) : Bool :=
  decide (a.state ≠ b.state ∨ a.cause ≠ b.cause ∨ a.stake.start ≠ b.stake.start ∨ a.stake.handOff ≠ b.stake.handOff)

/-- What a command or pour entry does to a tap, with its rank remembered for the present sample (R133). -/
def byCommand (n : Fin 32) (f : State → State) (s : State) : State :=
  let t := f s
  if tapMoved s.taps[n] t.taps[n] then t.modTap n fun a => { a with acted := 8 } else t

/-- A transition event of rank `r` of R133: it is discarded once the tap has acted, in the present sample, on one of a rank up
to `top`, and of one that moves the tap the rank is remembered. Rows lie in one sample while nothing that takes time stands
between them, and stand in the queue in the order of their rank (DESIGN CHOICE, log entry 48). -/
def rankTap (r top : Nat) (n : Fin 32) (f : State → State) (s : State) : State :=
  let a := s.taps[n]
  if a.acted ≠ 0 ∧ a.acted ≤ top then s else
  let s := f s
  if tapMoved a s.taps[n] then s.modTap n fun t => { t with acted := r } else s

/-- The module is in RUN, or in a HOLD entered from RUN, which is no departure from it (R135). -/
def inRun (s : State) : Bool := decide (s.sys.st = .run) || (decide (s.sys.st = .hold) && decide (s.sys.before = .run))

/-- Every tap when the module leaves RUN (R135); elsewhere there is no RUN to leave. -/
def leaveRun (s : State) : State := if inRun s then foldFin 32 leaveRunTap s else s

/-! ### Ports and hand-over -/

/-- A port is sent to DISABLED by a command or the module state (R36, R450). -/
def Port.disable (p : Port) : Port :=
  { p with
    state := .disabled, allow := 0, allowFrom := 0, allowTo := 0, allowMs := 5, stopping := false, handoverWait := false
    softMs := 0
    lastTrip := match p.state with
      | .precharge | .softstart | .online => 7
      | _ => p.lastTrip }

/-- Every port DISABLED, its enable setting kept (R450). -/
def disablePorts (s : State) : State := s.mapPorts fun _ p => p.disable

/-- Some port is ONLINE. -/
def anyOnline (s : State) : Bool := s.ports.toList.any fun p => decide (p.state = .online)

/-- Where a ramp of every stake over 20 ms begins (R26, R31, R352): one that runs already goes on. -/
def Sys.rampFrom (y : Sys) : Nat := if y.rampStandby || y.rampHold || y.hkLost then y.rampMs else 0

/-- SLOT_BYP for every tap in STAND-IN (R52, R352, R363, R364). -/
def bypStandIns (s : State) : State :=
  s.mapTaps fun _ t => if t.state = .standIn then { t with stake := { t.stake with slotByp := true } } else t

/-- Hand-over begins when the last port leaves ONLINE in RUN or HOLD (R51, R52); `was` tells whether a port was
ONLINE before. The limits fall from where they stand: a ramp whose doses have not been issued afresh goes on. -/
def handOver (was : Bool) (s : State) : State :=
  if was && !anyOnline s && decide (s.sys.st = .run ∨ s.sys.st = .hold) then
    let t : State := { s with hub := { s.hub with handover := true } }
    if s.hub.handover then t else bypStandIns t
  else s

/-- Change one port and start hand-over if that takes the last port out of ONLINE. -/
def changePort (x : Fin 4) (f : Port → Port) (s : State) : State := handOver (anyOnline s) (s.modPort x f)

/-- A port leaves SOFTSTART or ONLINE through loss (R36, R38): no trip. -/
def Port.lose (p : Port) : Port := { p with state := .idle, lastTrip := 5, allow := 0, allowFrom := 0, allowTo := 0, allowMs := 5, stopping := false, softMs := 0 }

/-! ### Links -/

/-- Order of transmission of R282: a message is placed before every waiting message of a later class. -/
def txRank : TxClass → Nat
  | .voidMsg => 1 | .readyMsg => 2 | .keepAlive => 3 | .swapAnswer => 4 | .responder => 5 | .host => 6

/-- Put a message into a transmit queue at its place (R282). -/
def txInsert (m : TxMsg) (q : List TxMsg) : List TxMsg :=
  q.takeWhile (fun a => txRank a.cls ≤ txRank m.cls) ++ m :: q.dropWhile (fun a => txRank a.cls ≤ txRank m.cls)

/-- Queue a message of a link. -/
def send (x : Fin 4) (m : TxMsg) (s : State) : State := s.modLink x fun l => { l with txq := txInsert m l.txq }

/-- Words of a LINK record (R340). -/
def linkRecord (x : Fin 4) (ev cause : Nat) (s : State) : State :=
  let l := s.links[x]
  recordKeyed (0x0C, x.val, ev) [word x.val, word ev, word cause, word l.cwMin, word l.cwMax, word l.ciLim] s

/-- A contract of a port becomes void (R298); no effect with none in force. -/
def voidLink (x : Fin 4) (cause : Nat) (tell : Bool) (s : State) : State :=
  let l := s.links[x]
  if !l.inForce then s else
  let bbx := recSince s (linkRecord x 3 cause s)
  let s := linkRecord x 3 cause s
  let s := s.modLink x fun l =>
    { l with
      inForce := false, cwMin := 0, cwMax := 0, ciLim := 0, age := 0, provisional := false, deadbatt := false
      state := if l.state = .transition ∨ l.state = .contract then .attached else l.state
      modes := l.modes &&& 0b011, readyDue := false
      tTransition := false, tTieClose := false, tReady := false, tNegotiation := false, kaVoid := 0
      evVoid := true, voidCause := cause }
  let s := s.modPort x fun p => { p with narrow := false }
  let s := if l.role && x.val = 3 then { s with tie := { s.tie with en := false } } else s
  let s := if !l.role && decide (s.hub.modeIn = .contract)
      && decide (s.ports[x].state = .softstart ∨ s.ports[x].state = .online)
    then changePort x Port.lose s else s
  let s := if tell then send x { cls := .voidMsg, type := 0x08, objs := [], via := none } s else s
  alertAt bbx 2 6 3 x.val cause s

/-- TIE_EN de-asserted and the source contract of port D void with cause module state (R307). -/
def dropTie (s : State) : State :=
  let s := { s with tie := { s.tie with en := false } }
  if s.links[(3 : Fin 4)].role && s.links[(3 : Fin 4)].inForce then
    (voidLink 3 10 true s).modLink 3 fun l => { l with acted := 3 }
  else s

/-- Take the link out of its attachment: message counters, modes and queues are cleared (R281, R305), and the port presents what
is set, dual-role from a sink phase (R280). -/
def LinkPort.detach (l : LinkPort) (st : LinkState) : LinkPort :=
  { l with
    state := st, modes := 0, enterAsked := 0, role := false, lead := false, txCtr := 0, rxCtr := 0, rxValid := false
    acceptSent := false, acceptRecv := false, readyRem := false, readyDue := false, reqWaiting := false
    acksDue := [], retries := 0, collisions := 0, ackCollisions := 0, backoff := false, resend := false
    txq := [], flight := none, swapOwn := false, swapHeld := false, swapVia := none
    phaseSource := if st = .attached then l.phaseSource else decide (l.present = .source)
    tResponder := false, tSwapAnswer := false, tSwapRetry := false, offerPick := none }

/-! ### Answers -/

/-- Give a command its return code and result words (R246, R248). -/
def answer (via : Via) (code : Nat) (res : List Word) (s : State) : State :=
  match via with
  | .host n => s.modMbx n fun m => { m with answer := some { code := code, res := res } }
  | .monitor => { s with monAnswer := some { code := code, res := res } }
  | .own => { s with ownAnswer := some { code := code, res := res } }

/-- Answer a command that may not be waiting. -/
def answerOpt (via : Option Via) (code : Nat) (res : List Word) (s : State) : State :=
  match via with
  | none => s
  | some v => answer v code res s

/-! ### Pours -/

/-- This module pulls TICK (R195, R203, R204). -/
def Pour.pulling (p : Pour) : Bool := (p.pull || p.veto || p.holdPull) && !p.rise

/-- TICK after a change of a pull: low while anyone pulls (R201). A rise starts the 500 ns of R205, and a fall ends
them. -/
def Pour.settle (p : Pour) : Pour :=
  let up := !(p.pulling || p.tickOther)
  { p with tick := up, rise := up && (p.rise || !p.tick), badLow := p.badLow && up && p.tick }

/-- A pour ends (R203, R206): record, result, and, where the ending asks for it, the veto while TICK is low, which has an end once the
low time is 55 ms. A pour that ends in VALIDATING answers its `POUR_PREPARE` with POUR_ABORTED and no words (DESIGN CHOICE, log entry 21). -/
def pourEnd (result : Nat) (veto : Bool) (s : State) : State :=
  let p := s.pour
  if p.state = .idle then s else
  let s := answerOpt (if p.state = .validating then p.prepVia else none) 0x50 [] s
  let s := record 0x0B [p.id, word result, word p.entries.length, word p.fail, wordOf s.stamp 0, wordOf s.stamp 1] s
  let s := { s with vsel := { s.vsel with staged := none } }
  s.modPour fun p =>
    ({ p with
       state := .idle, result := result, resultValid := true, pull := false, prepVia := none
       veto := p.veto || (veto && !p.tick && decide (p.low10us < 5500)), profile := false } : Pour).settle

/-- POUR_ABORTED for a pour that is open, validating, prepared or released (R203, R204). -/
def pourAbort (s : State) : State := pourEnd 0x50 true s

/-! ### Recipes -/

/-- A recipe's request and ceiling at a tap go (R378, R381): its voltage target is at once what its state gives it. -/
def rcpRelease (n : Fin 32) (s : State) : State :=
  let had := decide (s.taps[n].rcpCeil ≠ 0)
  let s := s.modTap n fun t => { t with rcpReq := none, rcpCeil := 0 }
  if had && TapState.converts s.taps[n] s.taps[n].state && decide (s.taps[n].state ≠ .cupping ∧ s.taps[n].state ≠ .detect) then
    retarget n s else s

/-- Withdraw every request and ceiling of the recipe (R381). -/
def rcpWithdraw (s : State) : State := foldFin 32 rcpRelease s

/-- Stop the running recipe without a fault code (R382, R383). -/
def rcpHalt (s : State) : State :=
  rcpWithdraw { s with rcp := { s.rcp with running := none, phase := .idle, mask := 0, out := [] } }

/-- A tap leaves the set a recipe governs (R379): its request and ceiling go with it. -/
def ungovern (n : Fin 32) (s : State) : State :=
  if s.rcp.mask.getLsbD n.val then
    rcpRelease n { s with rcp := { s.rcp with mask := s.rcp.mask &&& ~~~(1#32 <<< n.val) } }
  else s

/-! ### Performance counters -/

/-- A core's counters of one event go up by `k` (R384). -/
def perfCount (c : Fin 8) (code k : Nat) (s : State) : State :=
  let p := s.perf[c]
  if p.en then
    { s with perf := s.perf.set c { p with ctr := vec fun i => if p.sel[i] = code then p.ctr[i] + BitVec.ofNat 64 k else p.ctr[i] } }
  else s

/-! ### Watchdog -/

/-- One clock of the Galois LFSR with the feedback 0xB400 (R326). -/
def lfsrStep (x : Word) : Word := if x.getLsbD 0 then (x >>> 1) ^^^ 0xB400 else x >>> 1

/-- The LFSR after a number of clocks. -/
def lfsrRun : Nat → Word → Word
  | 0, x => x
  | k + 1, x => lfsrRun k (lfsrStep x)

/-- Draw a new challenge (R326): the LFSR runs on from the last one, and is never all zeros. -/
def newChallenge (s : State) : State :=
  let (k, s) := s.draw
  s.modWdg fun w => { w with challenge := lfsrRun (Config.lfsrClocks k) (if w.challenge = 0 then 1 else w.challenge) }

/-- A grace period begins (R330): the count starts at 0. -/
def grace (s : State) : State := s.modWdg fun w => { w with grace := true, count := 0, frac := 0 }

/-- Enable a disabled watchdog (R335); nothing changes when it is enabled. -/
def wdgEnable (s : State) : State :=
  if s.wdg.enabled then s else grace (s.modWdg fun w => { w with enabled := true })

/-! ### The string contactor -/

/-- STR_EN is set (R25); where STR_FB matches it they do not disagree (R411). -/
def setStr (en : Bool) (y : Sys) : Sys := { y with strEn := en, fbMs := if y.strFb = en then 0 else y.fbMs }

/-- STR_EN and STR_FB have disagreed for 200 ms or more (R411). -/
def fbMismatch (y : Sys) : Bool := decide (y.strFb ≠ y.strEn) && decide (200 ≤ y.fbMs)

/-! ### Module state -/

/-- The STATE record of a change to `st` (R340). -/
def stateRecord (st : ModState) (cause : Nat) (s : State) : State :=
  record 0x03 [word (modCode s.sys.st), word (modCode st), word cause] s

/-- Change the module state with its cause and write the STATE record (R28, R340). -/
def setState (st : ModState) (cause : Nat) (s : State) : State :=
  let old := s.sys.st
  record 0x03 [word (modCode old), word (modCode st), word cause]
    (s.modSys fun y => { y with st := st, cause := cause, rampStandby := false, rampHold := false })

/-- The pilot of a link is attached and its messages run (R281). -/
def LinkPort.attached (l : LinkPort) : Bool :=
  decide (l.state = .attached ∨ l.state = .transition ∨ l.state = .contract)

/-- A port presents source to its partner (R280, R296, R303): now, or as the source end of its attachment. -/
def LinkPort.asSource (l : LinkPort) : Bool := l.phaseSource || (l.attached && l.role)

/-- Ports enabled by their setting go from DISABLED to IDLE on entry to STANDBY (R36, R450); port D stays DISABLED
while it presents source (R296). -/
def portsToIdle (s : State) : State :=
  s.mapPorts fun x p =>
    if p.enabled && decide (p.state = .disabled) && !s.links[x].asSource then { p with state := .idle } else p

/-- Entry to SAFE (R26, R135, R192, R204, R307, R382, R450): what HOLD has put off,
the `SYS_STANDBY` of an alarm and the action of FAULT#, is dropped. -/
def enterSafe (cause : Nat) (s : State) : State :=
  let s := leaveRun s
  let s := s.mapTaps fun _ t => { t with stake := t.stake.halt }
  let s := disablePorts (rcpHalt (pourAbort (dropTie s)))
  let s := { s with hub := { s.hub with handover := false }
                    mtr := { s.mtr with alarms := s.mtr.alarms.map fun a => { a with standbyWaits := false } }
                    bp := { s.bp with faultWaits := false } }
  alertRec (setState .safe cause) 0 1 cause 6 0 s

/-- A state change of rank `r` (R27): within one sampling period of the state logic the first in rank is acted on, and
one of the same or a lower rank after it is discarded. Rows lie in one period while nothing that takes time stands
between them, and the rows of one period stand in the queue in the order of their rank: one that ranks before a row that
has acted belongs to a later period (DESIGN CHOICE, log entry 48). -/
def ranked (r : Nat) (f : State → State) (s : State) : State :=
  if s.sys.acted ≠ 0 ∧ s.sys.acted ≤ r then s else (f s).modSys fun y => { y with acted := r }

/-- A new sampling period of the state logic (R27) and of every tap (R133) begins. -/
def newPeriod (s : State) : State :=
  { (s.mapTaps fun _ t => { t with acted := 0 }).modSys (fun y => { y with acted := 0 }) with
    links := s.links.map fun l => { l with acted := 0 } }

/-- A latched module-wide hardware fault is set (R443). -/
def latchedFault (s : State) : Bool := s.hub.ov3 || s.sys.selfTest || s.sys.shFault

/-- The site cap of a module alone: `SYS_BP_CAP` ÷ NMOD, limited as in the division (R321). -/
def fallbackCap (b : Bp) : Nat := max 1000 (min 123000 (100 * b.cap / (b.nmod.toNat + 1)))

/-- The module answers its own address (R310). -/
def isTarget (s : State) : Bool := s.powered && !s.bp.addrDup

/-- The module does not lead any more: BEAT_OK stood for its own lead (R319, R322). -/
def Bp.follow (b : Bp) : Bp := { b with leader := false, beatOk := b.beatOk && !b.leader }

/-- The module at an address leads (R319); the 6 s of R321 run from the moment it began to. -/
def Bp.lead (addr : BitVec 3) (b : Bp) : Bp :=
  { b with leader := true, leaderAddr := addr, beatOk := true, leadMs := if b.leader then b.leadMs else 0 }

/-- The role at an entry to STANDBY or RUN from BOOT or HOLD (R319): with no lower address to probe a standalone module leads at
once, and another follows until its probe is over (log entry 29). -/
def decideRole (s : State) : State :=
  if s.bp.standalone && decide (s.sys.addr = 0) && !s.bp.addrDup && decide (s.sys.st = .standby ∨ s.sys.st = .run) then
    { s with bp := s.bp.lead 0 }
  else s

/-- Set the own share of the backplane cap (R321). -/
def fallBack (s : State) : State :=
  if s.bp.standalone && decide (0 < s.bp.cap) then
    { s with hub := { s.hub with siteCap := fallbackCap s.bp }, bp := { s.bp with fallback := true } }
  else s

/-- Alerts that wait for STANDBY: a duplicate address (R310), a bank fallback (R354). -/
def standbyAlerts (s : State) : State :=
  let s := if s.bp.dupAlert then alert 0 9 1 0xFF 0 { s with bp := { s.bp with dupAlert := false } } else s
  if s.sys.bootAlerts then alert 1 0xA 2 0xFF 0 (s.modSys fun y => { y with bootAlerts := false }) else s

/-- The next snapshot after one due at `k`, with the clock at `t`: a quarter of an hour apart (R186). -/
def nextSnap (k t : Nat) : Nat := k + 900000 * ((t - k) / 900000 + 1)

/-- The clock of the lease snapshots starts with the first entry to STANDBY (R186), unless `SYS_SET_TIME` has set it. -/
def startSnaps (s : State) : State := match s.mtr.snapAt with
  | none => { s with mtr := { s.mtr with snapAt := some (s.sys.uptime + 900000) } }
  | some _ => s

/-- Entry to STANDBY (R36, R186, R321, R364, R410): ports go to IDLE; a held ESTOP# or a latch that SAFE waits for acts
at once. -/
def enterStandby (cause : Nat) (s : State) : State :=
  let s := startSnaps s
  let s := standbyAlerts (fallBack (portsToIdle (setState .standby cause s)))
  if s.sys.estop then enterSafe 5 s else if s.sys.shFault then enterSafe 7 s else s

/-- One of the occasions of R119 arises: with VSEL honoured, the counted profile falls due, always or when it differs
from the last one applied. While none has been applied yet it counts as differing (DESIGN CHOICE, log entry 69). -/
def vselOccasion (always : Bool) (s : State) : State :=
  let v := s.vsel
  if v.enabled && (always || v.noneYet || decide (v.pins ≠ v.applied)) then
    { s with vsel := { v with applying := some v.pins, pending := false, tries := 0 } }
  else { s with vsel := { v with pending := false, applying := none } }

/-- Entry to RUN (R132, R135, R335, R396): suspended taps with cause module state enter DETECT, where their firmware runs (that of
another acts once it runs, R134), the watchdog is enabled, the monitor's latch test ends. -/
def enterRun (cause : Nat) (s : State) : State :=
  let s := { s with mon := { s.mon with testLatch := false } }
  let s := wdgEnable (setState .run cause s)
  foldFin 32 (fun n s =>
    if s.taps[n].state = .suspended ∧ s.taps[n].cause = 10 ∧ fwUp s n then toDetect n false s else s) s

/-- An accepted change joins those that wait for their moment (R257). -/
def defer (d : Deferred) (s : State) : State := s.modSys fun y => { y with chg := y.chg ++ [d] }

/-- An accepted change waits no more (R257). -/
def dropOf (d : Deferred) (s : State) : State := s.modSys fun y => { y with chg := y.chg.filter fun e => decide (e ≠ d) }

/-- The cores are held in reset (R29, R237, R332): core RAM, internal mailboxes, performance units, commands in
progress, working copies and controller transfers are lost, doses freeze, and every core's task bits wait for its first
check-in (R328). -/
def loseCores (s : State) : State :=
  { s.modSys (fun y => { y with cores := 0 }) with
    arb := { s.arb with frozen := true, fresh := false }
    held := [], boxes := .replicate 8 .reset, perf := .replicate 8 .reset
    vsel := { s.vsel with work := none, applying := none, staged := none }
    rcp := { s.rcp with out := [] }
    bus := { s.bus with ctlQueue := [], ctlLosses := 0 }, bbx := { s.bbx with forgets := [] }
    mbx := s.mbx.map fun m => { m with answer := none }
    monAnswer := none, ownAnswer := none, mon := { s.mon with cmdWait := none, cmdTaken := false }
    wdg := { s.wdg with awaiting := 0xFF } }

/-- An allowance stays at its value at HOLD entry (R56); the drain of `SRC_DISABLE`, which no arbiter makes, goes on. -/
def Port.freeze (p : Port) : Port :=
  if p.stopping then p else { p with allowFrom := p.allow, allowTo := p.allow, allowMs := 5 }

/-- Entry to HOLD (R29 to R31, R56, R204, R330): cores in reset, allowances frozen, pours end, TICK pulled, a grace period begins. -/
def enterHold (cause : Nat) (s : State) : State :=
  let s := pourAbort s
  let s := alertRec (event .holdEntry [cause]) 3 1 cause 5 0 s
  let old := s.sys
  let s := setState .hold cause s
  let s := s.modSys fun y =>
    { y with
      before := old.st, beforeCause := old.cause, holdSeen := true, holdCount := sat 15 (y.holdCount + 1)
      holdLimit := false, rampStandby := old.rampStandby
      chg := y.chg.filter fun d => decide (d ≠ .holdCmd ∧ d ≠ .holdFw) }
  let s := { s.mapPorts fun _ p => p.freeze with bp := s.bp.follow }
  grace (loseCores (s.modPour fun p => ({ p with holdPull := true } : Pour).settle))

end Sys2Proof.Machine
end

