-- ==== Sys2Proof/Machine/Operands.lean ====
section
/-! DEFINITION. Argument words of a host command: reading them, and the checks of R254 steps 2 to 4. -/

namespace Sys2Proof.Machine

/-- Argument word `k`; a word not written in the mailbox reads 0x0000 (R252). -/
def argW (a : List Word) (k : Nat) : Word := a.getD k 0
/-- Argument word `k` as a number. -/
def arg (a : List Word) (k : Nat) : Nat := (argW a k).toNat
/-- Arguments `k` and `k + 1` as one 32-bit number, least significant word first (R253). -/
def arg2 (a : List Word) (k : Nat) : Nat := arg a k + 65536 * arg a (k + 1)
/-- Arguments `k` to `k + 3` as one 64-bit number. -/
def arg4 (a : List Word) (k : Nat) : Nat := arg2 a k + 2 ^ 32 * arg2 a (k + 2)
/-- Argument word `k` as a signed number. -/
def argS (a : List Word) (k : Nat) : Int := (argW a k).toInt
/-- Argument word `k` with the default value 0xFFFF (R266). -/
def argD (a : List Word) (k : Nat) : Option Nat := if arg a k = 0xFFFF then none else some (arg a k)
/-- A packed byte with the default value 0xFF (R266). -/
def byteD (b : Nat) : Option Nat := if b = 0xFF then none else some b

/-- Argument words of a row that stands for one value of ARG1 (R265, R271); a value beyond those of the rows stands in the
words, and is out of range. -/
def withArg1 (v : Nat) (a : List Word) : List Word := if 2 ≤ arg a 1 then a else argW a 0 :: word v :: a.drop 2

/-- Range check: OUT_OF_RANGE outside `lo` to `hi` (R254). -/
def rng (lo hi v : Nat) : Option Nat := if lo ≤ v ∧ v ≤ hi then none else some 0x22
/-- Step, encoding or consistency check: BAD_ARG (R254). -/
def need (b : Bool) : Option Nat := if b then none else some 0x21
/-- State check: DENIED_STATE (R254). -/
def allow (b : Bool) : Option Nat := if b then none else some 0x30
/-- Range check of a word that may select its default. -/
def rngD (lo hi : Nat) : Option Nat → Option Nat
  | none => none
  | some v => rng lo hi v
/-- The first check that fails (R254). -/
def first : List (Option Nat) → Option Nat
  | [] => none
  | some c :: _ => some c
  | none :: cs => first cs

/-- What running a command answers: a return code with its result words and the state it leaves, or nothing yet. -/
inductive Reply where
  | now (code : Nat) (res : List Word) (s : State)
  | later (s : State)

/-- DONE without result words. -/
def done (s : State) : Reply := .now 0 [] s
/-- DONE with result words. -/
def doneWith (res : List Word) (s : State) : Reply := .now 0 res s
/-- ACCEPTED. -/
def accepted (s : State) : Reply := .now 1 [] s
/-- A refusal, which changes nothing (R254). -/
def deny (code : Nat) (s : State) : Reply := .now code [] s

/-- Run a command once its checks pass; the first that fails gives the return code. -/
def checked (cs : List (Option Nat)) (s : State) (k : Reply) : Reply := match first cs with
  | some c => deny c s
  | none => k

/-- A command that stores to flash (R254 step 5): a write that fails gives NV_FAIL and nothing changes but the model's
own draw counter; whether it fails is a free value (log entry 3). -/
def toFlash (r : State → Reply) (s : State) : Reply :=
  match r s with
  | .now 0 res t =>
    if Config.flashFails s.free then .now 0x60 [] { s with free := s.free + 1 }
    else .now 0 res { t with free := t.free + 1 }
  | other => other

/-- A tap number of an argument word, in range once checked. -/
def tapOf (v : Nat) : Fin 32 := ⟨v % 32, Nat.mod_lt v (by decide)⟩
/-- A port index of an argument word, in range once checked. -/
def portOf (v : Nat) : Fin 4 := ⟨v % 4, Nat.mod_lt v (by decide)⟩
/-- A core number of an argument word, in range once checked. -/
def coreOf (v : Nat) : Fin 8 := ⟨v % 8, Nat.mod_lt v (by decide)⟩
/-- A rod position of an argument word, in range once checked. -/
def rodOf (v : Nat) : Fin 16 := ⟨v % 16, Nat.mod_lt v (by decide)⟩
/-- The cluster of a tap (R2). -/
def clusterOf (n : Fin 32) : Fin 4 := ⟨n.val / 8, by omega⟩
/-- The cluster island of a tap is powered and its engine runs (R24). -/
def clUp (s : State) (n : Fin 32) : Bool := s.sys.clOn.getLsbD (clusterOf n).val

/-- A port argument (R253). -/
def portArg (a : List Word) : Option Nat := rng 0 3 (arg a 0)
/-- A tap argument (R253). -/
def tapArg (a : List Word) : Option Nat := rng 0 31 (arg a 0)
/-- A slot argument (R273). -/
def slotArg (a : List Word) : Option Nat := rng 0 7 (arg a 0)
/-- A tap command addressed to tap 2k + 1 of a ganged pair is denied (R3, R264). -/
def notOdd (s : State) (a : List Word) : Option Nat := allow (!gangedOdd s (tapOf (arg a 0)))

end Sys2Proof.Machine
end

