-- ==== Sys2Proof/Machine/Gate.lean ====
section
/-! DEFINITION. The command reference's table (opcode, states, pourable, argument words, owner), the checks C0 makes
at taking (R254 step 1), and issuing a command. -/

namespace Sys2Proof.Machine

/-- Owning core of a command (R449): a core, the cluster core of ARG0's tap, or of the rod ARG0 names. -/
inductive Owner where
  | c0 | c1 | c2 | c3 | cluster | rod
deriving DecidableEq, Repr

/-- One row of the reference. -/
structure CmdInfo where
  /-- Opcode. -/
  op : Nat
  /-- Module states that accept it (R255). -/
  states : List ModState
  /-- It may be poured (R198). -/
  pour : Bool
  /-- Argument words it takes (R197); 30 where the number varies and the command may not be poured. -/
  argc : Nat
  /-- Owner (R449). -/
  owner : Owner
deriving DecidableEq, Repr

/-- Commands 0x01xx. -/
def sysTable : List CmdInfo :=
  [⟨0x0101, [.standby, .run, .safe, .recovery], false, 0, .c0⟩ /- SYS_GET_INFO -/,
   ⟨0x0102, [.standby], false, 0, .c0⟩ /- SYS_RUN -/,
   ⟨0x0103, [.run], false, 0, .c0⟩ /- SYS_STANDBY -/,
   ⟨0x0104, [.standby, .run], false, 0, .c0⟩ /- SYS_SAFE -/,
   ⟨0x0105, [.safe], false, 0, .c0⟩ /- SYS_LEAVE_SAFE -/,
   ⟨0x0106, [.standby, .safe], false, 0, .c0⟩ /- SYS_ENTER_RECOVERY -/,
   ⟨0x0107, [.standby, .safe, .recovery], false, 0, .c0⟩ /- SYS_RESET -/,
   ⟨0x0108, [.standby, .run], false, 0, .c0⟩ /- SYS_RESTART_CONTROL -/,
   ⟨0x0109, [.standby], false, 0, .c0⟩ /- SYS_ENTER_SHIP -/,
   ⟨0x010A, [.standby, .run, .safe, .recovery], false, 1, .c0⟩ /- SYS_SET_STR -/,
   ⟨0x010B, [.standby, .run, .safe], true, 2, .c0⟩ /- SYS_SET_SYNC -/,
   ⟨0x010C, [.standby, .run, .safe, .recovery], false, 4, .c0⟩ /- SYS_SET_TIME -/,
   ⟨0x010D, [.standby, .run, .safe], false, 30, .c0⟩ /- SYS_SET_PROFILE -/,
   ⟨0x010E, [.standby, .run, .safe], false, 1, .c0⟩ /- SYS_SET_VSEL -/,
   ⟨0x010F, [.standby, .run, .safe], false, 0, .c0⟩ /- SYS_SAVE_CONFIG -/]

/-- Commands 0x02xx. -/
def srcTable : List CmdInfo :=
  [⟨0x0201, [.standby, .run], true, 1, .c3⟩ /- SRC_ENABLE -/,
   ⟨0x0202, [.standby, .run, .safe], true, 1, .c3⟩ /- SRC_DISABLE -/,
   ⟨0x0203, [.standby, .run, .safe], true, 5, .c3⟩ /- SRC_SET_WINDOW -/,
   ⟨0x0204, [.standby, .run, .safe], true, 2, .c3⟩ /- SRC_SET_LIMIT -/,
   ⟨0x0205, [.standby, .run, .safe], true, 3, .c3⟩ /- SRC_SET_OV -/,
   ⟨0x0206, [.standby, .run, .safe], true, 16, .c3⟩ /- SRC_SET_MODE -/,
   ⟨0x0207, [.standby, .run], false, 1, .c3⟩ /- SRC_CLEAR_LOCK -/,
   ⟨0x0208, [.standby, .run], false, 9, .c3⟩ /- SRC_CAL_INPUT -/]

/-- Commands 0x03xx. -/
def tapTable : List CmdInfo :=
  [⟨0x0301, [.standby, .run, .safe], true, 27, .cluster⟩ /- TAP_SET_DESCRIPTOR -/,
   ⟨0x0302, [.standby, .run, .safe, .recovery], false, 1, .cluster⟩ /- TAP_GET_DESCRIPTOR -/,
   ⟨0x0303, [.standby, .run, .safe], true, 2, .cluster⟩ /- TAP_SET_SUPPORT -/,
   ⟨0x0304, [.standby, .run, .safe], true, 2, .cluster⟩ /- TAP_SET_LIMITS -/,
   ⟨0x0305, [.standby, .run], true, 1, .cluster⟩ /- TAP_STOP -/,
   ⟨0x0306, [.standby, .run], true, 1, .cluster⟩ /- TAP_RESUME -/,
   ⟨0x0307, [.standby, .run], false, 1, .cluster⟩ /- TAP_REARM_TIMER -/,
   ⟨0x0308, [.standby, .run, .safe], false, 1, .cluster⟩ /- TAP_CLEAR_FAULT -/,
   ⟨0x0309, [.standby, .run, .safe], false, 1, .cluster⟩ /- TAP_FORGET -/,
   ⟨0x030A, [.standby, .run, .safe, .recovery], false, 2, .c0⟩ /- TAP_GET_HISTORY -/,
   ⟨0x030B, [.standby, .run, .safe], true, 3, .cluster⟩ /- TAP_SET_RAMP -/,
   ⟨0x030C, [.standby, .run, .safe], true, 3, .cluster⟩ /- TAP_SET_KEEP -/,
   ⟨0x030D, [.standby, .run, .safe], true, 8, .cluster⟩ /- TAP_SET_STANDIN -/,
   ⟨0x030E, [.run], false, 1, .cluster⟩ /- TAP_STAND_IN -/,
   ⟨0x030F, [.standby, .run, .safe], true, 4, .cluster⟩ /- TAP_SET_TRACK -/,
   ⟨0x0310, [.standby, .run, .safe], true, 11, .cluster⟩ /- TAP_SET_COEFF -/,
   ⟨0x0311, [.standby, .run, .safe], true, 1, .cluster⟩ /- TAP_LOAD_DEFAULT_COEFF -/,
   ⟨0x0312, [.standby, .run, .safe], true, 4, .cluster⟩ /- TAP_SET_SCHEDULE -/,
   ⟨0x0313, [.standby, .run, .safe], true, 3, .cluster⟩ /- TAP_SET_SHED -/,
   ⟨0x0314, [.standby, .run, .safe], true, 2, .cluster⟩ /- TAP_SET_GANG -/,
   ⟨0x0315, [.standby, .run, .safe], false, 3, .cluster⟩ /- TAP_GET_RODS -/,
   ⟨0x0316, [.standby, .run, .safe], false, 5, .cluster⟩ /- TAP_SET_PLANT -/]

/-- Commands 0x04xx. -/
def arbTable : List CmdInfo :=
  [⟨0x0401, [.standby, .run, .safe], true, 3, .c3⟩ /- ARB_SET_MIN -/,
   ⟨0x0402, [.standby, .run, .safe], true, 1, .c3⟩ /- ARB_SET_LOSS_CAP -/,
   ⟨0x0403, [.standby, .run, .safe], false, 2, .c3⟩ /- ARB_GET_DOSES -/]

/-- Commands 0x05xx. -/
def mtrTable : List CmdInfo :=
  [⟨0x0501, [.standby, .run, .safe, .recovery], false, 2, .c3⟩ /- MTR_READ -/,
   ⟨0x0502, [.standby, .run, .safe, .recovery], false, 1, .c3⟩ /- MTR_GET_PUBKEY -/,
   ⟨0x0503, [.standby, .run, .safe], false, 11, .c3⟩ /- MTR_GET_STATEMENT -/,
   ⟨0x0504, [.standby, .run, .safe], false, 2, .c3⟩ /- MTR_READ_STATEMENT -/]

/-- Commands 0x06xx. -/
def pourTable : List CmdInfo :=
  [⟨0x0601, [.standby, .run], false, 1, .c3⟩ /- POUR_OPEN -/,
   ⟨0x0602, [.standby, .run], false, 30, .c3⟩ /- POUR_ADD -/,
   ⟨0x0603, [.standby, .run], false, 1, .c3⟩ /- POUR_PREPARE -/,
   ⟨0x0604, [.standby, .run], false, 1, .c3⟩ /- POUR_ABORT -/]

/-- Commands 0x07xx. -/
def lnkTable : List CmdInfo :=
  [⟨0x0701, [.standby, .run], false, 2, .c2⟩ /- LNK_SET_PRESENT -/,
   ⟨0x0702, [.standby, .run], false, 16, .c2⟩ /- LNK_SEND -/,
   ⟨0x0703, [.standby, .run, .safe], false, 1, .c2⟩ /- LNK_RECV -/,
   ⟨0x0704, [.standby, .run], false, 5, .c2⟩ /- LNK_SET_CONTRACT -/,
   ⟨0x0705, [.standby, .run], false, 2, .c2⟩ /- LNK_SET_TIE -/,
   ⟨0x0706, [.standby, .run], false, 1, .c2⟩ /- LNK_SWAP_ROLE -/,
   ⟨0x0707, [.standby, .run, .safe, .recovery], false, 1, .c2⟩ /- LNK_GET_STATUS -/]

/-- Commands 0x08xx. -/
def wdgBbxTable : List CmdInfo :=
  [⟨0x0801, [.standby, .safe], false, 1, .c0⟩ /- WDG_SET_LADDER -/,
   ⟨0x0802, [.standby, .safe, .recovery], false, 3, .c0⟩ /- WDG_DISABLE -/,
   ⟨0x0803, [.standby, .run, .safe, .recovery], false, 0, .c0⟩ /- WDG_ENABLE -/,
   ⟨0x0804, [.standby, .run, .safe, .recovery], false, 0, .c0⟩ /- WDG_SET_LOCK -/,
   ⟨0x0805, [.standby, .run, .safe, .recovery], false, 1, .c0⟩ /- WDG_GET_EVIDENCE -/,
   ⟨0x0806, [.standby, .run, .safe, .recovery], false, 0, .c0⟩ /- BBX_GET_INFO -/,
   ⟨0x0807, [.standby, .run, .safe, .recovery], false, 2, .c0⟩ /- BBX_SEEK -/,
   ⟨0x0808, [.standby, .run, .safe, .recovery], false, 4, .c0⟩ /- BBX_READ -/]

/-- Commands 0x09xx. -/
def rcpTable : List CmdInfo :=
  [⟨0x0901, [.standby], false, 17, .c1⟩ /- RCP_REGISTER_KEY -/,
   ⟨0x0902, [.standby, .run, .safe], false, 30, .c1⟩ /- RCP_LOAD -/,
   ⟨0x0903, [.standby, .run, .safe], false, 1, .c1⟩ /- RCP_VERIFY -/,
   ⟨0x0904, [.standby, .run], false, 3, .c1⟩ /- RCP_START -/,
   ⟨0x0905, [.standby, .run, .safe], false, 0, .c1⟩ /- RCP_STOP -/,
   ⟨0x0906, [.standby, .run, .safe, .recovery], false, 0, .c1⟩ /- RCP_GET_STATUS -/]

/-- Commands 0x0Axx. -/
def perfTable : List CmdInfo :=
  [⟨0x0A01, [.standby, .run, .safe], false, 4, .c0⟩ /- PERF_SET_CTL -/,
   ⟨0x0A02, [.standby, .run, .safe], false, 3, .c0⟩ /- PERF_SELECT -/,
   ⟨0x0A03, [.standby, .run, .safe], false, 3, .c0⟩ /- PERF_READ -/]

/-- Commands 0x0Bxx. -/
def fwTable : List CmdInfo :=
  [⟨0x0B01, [.standby, .run, .safe, .recovery], false, 0, .c0⟩ /- FW_GET_INFO -/,
   ⟨0x0B02, [.standby, .run, .safe, .recovery], false, 2, .c0⟩ /- FW_STAGE_BEGIN -/,
   ⟨0x0B03, [.standby, .run, .safe, .recovery], false, 30, .c0⟩ /- FW_STAGE_WRITE -/,
   ⟨0x0B04, [.standby, .run, .safe, .recovery], false, 0, .c0⟩ /- FW_STAGE_VERIFY -/,
   ⟨0x0B05, [.standby, .run, .recovery], false, 0, .c0⟩ /- FW_ACTIVATE -/]

/-- Commands 0x0Cxx. -/
def serviceTable : List CmdInfo :=
  [⟨0x0C01, [.standby, .safe], false, 2, .rod⟩ /- SERVICE_FUSE_ROD -/]

/-- Every command of the reference. -/
def cmdTable : List CmdInfo :=
  sysTable ++ srcTable ++ tapTable ++ arbTable ++ mtrTable ++ pourTable ++ lnkTable ++ wdgBbxTable ++ rcpTable ++ perfTable ++ fwTable ++ serviceTable

/-- The row of an opcode. -/
def cmdInfo (op : Nat) : Option CmdInfo := cmdTable.find? fun c => c.op = op

/-- Commands that request a change of the module state (R26, R257). -/
def changesState (op : Nat) : Bool :=
  decide (op ∈ [0x0102, 0x0103, 0x0104, 0x0105, 0x0106, 0x0107, 0x0108, 0x0109, 0x0B05])

/-- A pour is PREPARED or RELEASED (R200). -/
def pourBusy (s : State) : Bool := decide (s.pour.state = .prepared ∨ s.pour.state = .released)

/-- An accepted `SYS_ENTER_RECOVERY` or `SYS_RESET` waits for its moment (R257). -/
def changeDue (s : State) : Bool := s.sys.chg.any fun d => decide (d = .recovery ∨ d = .reset)

/-- A lock refuses the opcode: `WDG_LOCK` (R336), or both parts of the recipe key stored (R273). -/
def lockedOut (s : State) (op : Nat) : Bool :=
  (s.wdg.locked && decide (op ∈ [0x0801, 0x0802, 0x0803]))
    || (s.rcp.keyX.isSome && s.rcp.keyY.isSome && decide (op = 0x0901))

/-- The checks at taking, in the order of R254 step 1; in BOOT the boot ROM answers NOT_READY at once (R244). A command that
asks for a state change in a period that has acted on a higher rank is discarded (R27). -/
def gate (op : Nat) (s : State) : Option Nat :=
  if s.sys.st = .boot then some 0x11 else
  match cmdInfo op with
  | none => some 0x20
  | some c =>
    if s.sys.st ∉ c.states ∨ (changesState op ∧ (changeDue s ∨ s.sys.acted ≠ 0)) then some 0x30
    else if lockedOut s op then some 0x31
    else if c.pour ∧ pourBusy s then some 0x10
    else none

/-- The second check of the module state and of R200, immediately before a command acts (R254); a change of state that another
one has overtaken is discarded here too (R27, R257). -/
def recheck (op : Nat) (s : State) : Option Nat := match cmdInfo op with
  | none => none
  | some c =>
    if s.sys.st ∉ c.states ∨ (changesState op ∧ (changeDue s ∨ s.sys.acted ≠ 0)) then some 0x30
    else if c.pour ∧ pourBusy s then some 0x10 else none

/-- What a command that has waited since it was taken answers (R254): a check of its words or of the state it addresses that
fails, then the second check, and else what it does. -/
def lateReply (op : Nat) (s : State) : Reply → Reply
  | .now c res t =>
    if c = 0 ∨ c = 1 ∨ c = 0x60 then (match recheck op s with
      | some k => deny k s
      | none => .now c res t)
    else .now c res t
  | .later t => (match recheck op s with
    | some k => deny k s
    | none => .later t)

/-- Deliver a reply to who sent the command. -/
def deliver (via : Via) : Reply → State
  | .now code res s => answer via code res s
  | .later s => s

/-- The core that owns a command with these arguments (R449). -/
def ownerCore (op : Nat) (a : List Word) : Fin 8 := match cmdInfo op with
  | none => 0
  | some c => match c.owner with
    | .c0 => 0
    | .c1 => 1
    | .c2 => 2
    | .c3 => 3
    | .cluster => ⟨4 + arg a 0 % 32 / 8, by omega⟩
    | .rod => ⟨4 + arg a 0 / 16 % 32 / 8, by omega⟩

/-- C0 runs: the boot ROM in BOOT, firmware else (R244, R251). -/
def c0Up (s : State) : Bool := decide (s.sys.st = .boot) || s.sys.cores.getLsbD 0

/-- The core that serves a command runs; in RECOVERY C0 serves every command (R251, R255). -/
def ownerUp (op : Nat) (a : List Word) (s : State) : Bool :=
  decide (s.sys.st = .recovery) || s.sys.cores.getLsbD (ownerCore op a).val

/-- The command of a mailbox is QUEUED: its core has an earlier one to execute first (R244, R245). -/
def waits (via : Via) (s : State) : Bool := match via with
  | .host n => decide (s.mbx[n].state = .taken) && decide (s.mbx[n].accept = 2)
  | _ => false

/-- C0 has taken the command already, with the checks of a taking (R244, R254). In BOOT the boot ROM answers all it takes at
once. -/
def isTaken (via : Via) (s : State) : Bool := decide (s.sys.st ≠ .boot) && (match via with
  | .host n => decide (s.mbx[n].state = .taken)
  | .monitor => s.mon.cmdTaken
  | .own => false)

/-- Issue a command: without power nothing happens, in HOLD, while a core it needs restarts and while it is QUEUED no command
completes (R30, R211, R245, R251). A command not yet taken is checked at taking, where a refusal answers at once, and runs; one that has been
taken runs through the checks of its words and then the second check (R254). -/
def issue (op : Nat) (run : List Word → State → Reply) (via : Via) (args : List Word) (s : State) : State :=
  if !s.powered ∨ s.sys.st = .hold ∨ !c0Up s ∨ waits via s then s
  else if isTaken via s then (if ownerUp op args s then deliver via (lateReply op s (run args s)) else s)
  else match gate op s with
  | some code => answer via code [] s
  | none => if ownerUp op args s then deliver via (run args s) else s

/-- The meaning of a host command's row. -/
def hostCommand (op : Nat) (run : List Word → State → Reply) (via : Via) (args : List Word) (s : State) :
    Host.Outcome State Fault Refusal := .next (issue op run via args s)

/-- The island a held command waits for. -/
def heldCluster (c : Nat × Via × List Word) : Nat :=
  if c.1 = 0x0C01 then arg c.2.2 0 / 128 % 4 else if c.1 = 0x0A01 ∨ c.1 = 0x0A02 ∨ c.1 = 0x0A03 then arg c.2.2 0 - 4
  else arg c.2.2 0 / 8 % 4

/-- A command that the cores would take up now (R30, R211, R245, R251, R254): it is neither refused at taking, nor lost, nor
QUEUED. -/
def accepts (op : Nat) (via : Via) (args : List Word) (s : State) : Bool :=
  s.powered && decide (s.sys.st ≠ .hold) && c0Up s && !waits via s && ownerUp op args s
    && (isTaken via s || decide (gate op s = none))

/-- A command waits behind those its cluster core has not yet executed (R245). -/
def behind (c : Nat × Via × List Word) (s : State) : Bool := s.held.any fun d => decide (heldCluster d = heldCluster c)

/-- A command is held until the island it names is up. -/
def hold (c : Nat × Via × List Word) (s : State) : State := { s with held := s.held ++ [c] }

/-- A command of a cluster core that wakes no island: it follows what that core holds (R245). -/
def afterHeld (op : Nat) (run : List Word → State → Reply) (via : Via) (args : List Word) (s : State) :
    Host.Outcome State Fault Refusal :=
  if accepts op via args s ∧ arg args 0 ≤ 31 ∧ behind (op, via, args) s then .next (hold (op, via, args) s)
  else hostCommand op run via args s

/-- A command of a powered-down cluster island that changes a target or state wakes the island and stays TAKEN until
it is up (R22, R250, R264). -/
def onCluster (op : Nat) (run : List Word → State → Reply) (via : Via) (args : List Word) (s : State) :
    Host.Outcome State Fault Refusal :=
  let n := tapOf (arg args 0)
  if accepts op via args s ∧ arg args 0 ≤ 31 ∧ !clUp s n then
    .next (hold (op, via, args) (s.modSys fun y => { y with clWaking := y.clWaking ||| (1#4 <<< (clusterOf n).val) }))
  else hostCommand op run via args s

end Sys2Proof.Machine
end

