-- ==== Sys2Proof/Machine/TapCmd.lean ====
section
/-! DEFINITION. The TAP commands (R264 to R266): their argument words, checks and effects. -/

namespace Sys2Proof.Machine

/-! ### History -/

/-- Append a history record of a tap to the write queue (R127, R339, R342); it takes a black-box sequence number, and is the
tap's history once it is written. -/
def addHist (h : HistRec) (s : State) : State :=
  s.modBbx fun b =>
    { b with
      nextSeq := b.nextSeq + 1
      queue := b.queue ++ [.hist { h with
        seq := b.nextSeq, carried := false, time := s.stamp, timeValid := s.sys.timeValid
        inHold := decide (s.sys.st = ModState.hold), flushed := false, okA := false, okB := false, spoil := 0 }] }

/-- Append a void history record (R126, R127). -/
def voidHist (n : Fin 32) (s : State) : State :=
  addHist { tap := n.val, void := true, serial := (s.taps[n].desc.map (·.serial)).getD 0, cupTime := s.stamp } s

/-! ### Conditions -/

/-- Fitted NTC readings of a tap (R137). -/
def fitted (t : Tap) : List Int := match (t.desc.getD .reset).ntcs with
  | 0 => []
  | 1 => [t.ntcA]
  | _ => [t.ntcA, t.ntcB]

/-- A plausible reading (R137). -/
def plausible (v : Int) : Bool := decide (-400 ≤ v ∧ v ≤ 1250)
/-- An open NTC (R137). -/
def isOpen (v : Int) : Bool := decide (v < -500)

/-- A tap has a valid NTC (R137). -/
def validNtc (t : Tap) : Bool := (fitted t).any plausible

/-- The governing temperature: the hotter plausible fitted NTC (R154). -/
def hotter (t : Tap) : Option Int :=
  ((fitted t).filter plausible).foldl (fun m v => match m with | none => some v | some w => some (max v w)) none

/-- A tap in DONE whose stake rests (R148). -/
def doneRest (t : Tap) : Bool := decide (t.state = .done) && !TapState.converts t .done

/-- The states that a temperature, a missing sensor or a missing dose suspends (R132). -/
def working : TapState → Bool
  | .cupping | .precharge | .cc | .cv | .topoff => true
  | _ => false

/-- A tap without a valid NTC whose policy is SUSPEND enters SUSPENDED with cause sensor (R132, R155). -/
def sensorSuspend (n : Fin 32) (s : State) : State :=
  let t := s.taps[n]
  if working t.state && !validNtc t && (t.desc.map (·.noNtcSuspend)).getD false then
    suspend n 9 (s.modTap n fun t => { t with band := 6 }) else s

/-- The states in which a descriptor is accepted (R125) and `TAP_FORGET` acts (R265). -/
def restful (t : Tap) : Bool := t.state.isFault || doneRest t || decide (t.state = .absent ∨ t.state = .suspended)

/-- The power pairs of a ganged pair agree with each other and with tap 2k's Kelvin voltage (R64). -/
def gangOk (s : State) (n m : Fin 32) : Bool :=
  let a := s.taps[n].vPair
  let b := s.taps[m].vPair
  let k := s.taps[n].vKel
  decide (-500 ≤ a - b ∧ a - b ≤ 500 ∧ -1000 ≤ a - k ∧ a - k ≤ 1000 ∧ -1000 ≤ b - k ∧ b - k ≤ 1000)

/-! ### Ends of KEEP and hand-off -/

/-- The net charge out has reached the recharge depth (R132, R151); 10 µAs. -/
def rechargeDue (s : State) (n : Fin 32) : Bool := match s.taps[n].desc with
  | none => false
  | some d => decide ((d.reDepth.getD 20 * capacity s n * 36000000 / 200 : Nat) ≤ s.taps[n].outQ)

/-- The net charge out has reached the top-off depth (R132). -/
def topOffDue (s : State) (n : Fin 32) : Bool := match s.taps[n].desc with
  | none => false
  | some d => decide ((d.topDepth.getD 4 * capacity s n * 36000000 / 200 : Nat) ≤ s.taps[n].outQ)

/-- The capacity learned by a charge that left KEEP at the keep voltage is stored (R127, R128). -/
def learn (n : Fin 32) (s : State) : State := match s.taps[n].keepQ with
  | none => s
  | some q =>
    if q ≤ 0 then s else
    let base : HistRec := (nextHistory s n).getD { tap := n.val, serial := (s.taps[n].desc.map (·.serial)).getD 0 }
    addHist { base with cap := some (min 0xFFFF (q.toNat / 36000000)), capTime := s.stamp, carried := false } s

/-- The top-off timer has run out (R128, R150): DONE, EOC clear, and no fault. -/
def topOffEnd (n : Fin 32) (s : State) : State :=
  enterCharge n .done ((learn n s).modTap n fun t => { t with eoc := false, keepQ := none })

/-- KEEP ends (R151): the tap returns to the state it left, or by Kelvin when a recharge is due. A charge that leaves
KEEP with the keep voltage as its target starts the count of R128. -/
def endKeep (n : Fin 32) (s : State) : State :=
  let t := s.taps[n]
  let atKeep := decide (keepTarget s t = keepVolt t)
  let s := s.modTap n fun t =>
    { t with keepLow := false, keepQ := if atKeep then some 0 else none }
  match t.left with
  | .done | .topoff => if rechargeDue s n then goByKelvin n s else returnTo n t.left 0 s
  | .suspended => (returnTo n .suspended t.leftCause s).modTap n fun a => { a with left := t.left2 }
  | .detect => toDetect n false s
  | st => returnTo n st 0 s

/-- A stand-in stops and stays, bypassed (R112). -/
def bypassNow (n : Fin 32) (s : State) : State :=
  (onMates n Stake.halt s).modTap n fun t => { t with limit := 0, stake := { t.stake with bypassed := true } }

/-- The hand-off is over (R112, R132, R139): a stopped or removed tap enters ABSENT, a stand-in stays, bypassed. The end of
`TAP_STOP` is firmware's: until its core runs the tap stays a bypassed STAND-IN that is to be stopped (R134). -/
def endHandOff (n : Fin 32) (s : State) : State := match s.taps[n].stake.handOff with
  | .stop => if fwUp s n then toAbsent n s else (bypassNow n s).modStake n fun k => { k with handOff := .stop }
  | .removal => alert 3 2 0 n.val s.taps[n].vKel (toAbsent n s)
  | _ => bypassNow n s

/-- A hand-off ends the auto-return with which a stand-in began: it counts with the time of that return, and the third return
within 10 min turns auto-return off (R113). -/
def countReturn (n : Fin 32) (s : State) : State :=
  let k := s.taps[n].stake
  if !k.autoReturned then s else
  let times := recent k.returnAt 600000 k.returns ++ [k.returnAt]
  let s := s.modStake n fun k => { k with autoReturned := false, returns := times }
  if 3 ≤ times.length ∧ s.taps[n].cfg.autoReturn then
    alert 3 3 6 n.val 0 (s.modCfg n fun c => { c with autoReturn := false }) else s

/-- A hand-off to the slot-bypass unit begins (R105, R112, R113): SLOT_BYP is asserted; a stake that carries the tap begins its
20 ms ramp as soon as SLOT_FB is there, and any start of another is cancelled, which with SLOT_FB present ends the
hand-off at once. -/
def startHandOff (n : Fin 32) (why : HandOff) (s : State) : State :=
  let s := countReturn n s
  let on := s.taps[n].stake.conv && s.taps[n].stake.sw
  let s := if on then s else (onMates n Stake.halt s).modTap n fun t => { t with limit := 0 }
  let s := s.modStake n fun k =>
    { k.fresh with slotByp := true, handOff := why, fromBypass := false, bypRamp := on && k.slotFb, bypMs := 0 }
  if !on && s.taps[n].stake.slotFb then endHandOff n s else s

/-- A hand-off without SLOT_FB ends in FAULT-OPEN, SLOT_BYP held (R112, R139). -/
def openFault (n : Fin 32) (s : State) : State :=
  (tapFault n .faultOpen 0 s).modStake n fun k => { k with slotByp := true }

/-! ### Argument words -/

/-- Words of `TAP_SET_DESCRIPTOR` (R266), in ascending order: for each its range, then its encoding. -/
def wordsDescriptor (a : List Word) : Option Nat :=
  let w1 := argW a 1
  first ([tapArg a, rng 0 2 (field w1 0 2), rng 6 40 (field w1 2 6), rng 0 2 (field w1 9 2),
      need (decide (field w1 12 4 = 0)), rng 50 20000 (arg a 2), rng 50 16000 (arg a 3)]
    ++ tabulate 5 (fun k => rngD 1000 5000 (argD a (8 + k.val)))
    ++ [rngD 10 1000 (argD a 13), rngD 1 240 (argD a 14),
      rngD 10 40 (byteD (field (argW a 15) 0 8)), rngD 4 64 (byteD (field (argW a 15) 8 8)),
      rngD 1 20 (byteD (field (argW a 16) 0 8)), rngD 4 100 (byteD (field (argW a 16) 8 8)),
      rngD 50 (max 50 (arg a 3)) (argD a 17), rngD 5 240 (argD a 18)]
    ++ tabulate 5 (fun k =>
      if arg a (19 + k.val) = 0x8000 ∨ (-400 ≤ argS a (19 + k.val) ∧ argS a (19 + k.val) ≤ 900) then none
      else some 0x22)
    ++ [if arg a 24 = 0xFFFF then none else rngD 5 100 (byteD (field (argW a 24) 0 8)),
      need (decide (arg a 24 = 0xFFFF ∨ field (argW a 24) 8 8 = 0)),
      rngD 0 300 (argD a 25), if arg a 26 = 0 then none else rng 100 65535 (arg a 26)])

/-- A temperature word: 0x8000 selects the default (R266). -/
def tempD (a : List Word) (k : Nat) : Option Int := if arg a k = 0x8000 then none else some (argS a k)

/-- The descriptor that the words of `TAP_SET_DESCRIPTOR` spell (R266). -/
def descOf (a : List Word) : Descriptor :=
  let w1 := argW a 1
  { chem := field w1 0 2, cells := field w1 2 6, doneFloat := decide (field w1 8 1 = 1), ntcs := field w1 9 2
    noNtcSuspend := decide (field w1 11 1 = 1), nameplate := arg a 2, iFast := arg a 3
    serial := BitVec.ofNat 64 (arg4 a 4), cv := argD a 8, ov := argD a 9, keep := argD a 10, nominal := argD a 11
    preThr := argD a 12, preCur := argD a 13, preTimer := argD a 14, kFactor := byteD (field (argW a 15) 0 8)
    eocN := byteD (field (argW a 15) 8 8), topDepth := byteD (field (argW a 16) 0 8)
    reDepth := byteD (field (argW a 16) 8 8), topCur := argD a 17, topTimer := argD a 18
    t1 := tempD a 19, t2 := tempD a 20, t3 := tempD a 21, t4 := tempD a 22, tFault := tempD a 23
    coldFrac := if arg a 24 = 0xFFFF then none else byteD (field (argW a 24) 0 8)
    warmRed := argD a 25, rMaxInt := if arg a 26 = 0 then none else some (arg a 26) }

/-- The rules of R125 that tie a descriptor's fields together. -/
def descOk (s : State) (n : Fin 32) (d : Descriptor) : Bool :=
  let (t1, t2, t3, t4, tf) := d.temps
  decide (d.preC < d.keepC ∧ d.keepC < d.nomC ∧ d.nomC < d.cvC ∧ d.cvC < d.ovC)
    && decide (18000 ≤ d.cells * d.keepC ∧ d.cells * d.cvC ≤ 96000 ∧ d.cells * d.ovC ≤ 97000)
    && decide (t1 + 20 ≤ t2 ∧ t2 + 20 ≤ t3 ∧ t3 + 20 ≤ t4 ∧ t4 + 50 ≤ tf)
    && decide (d.topDepth.getD 4 < d.reDepth.getD 20)
    && decide (d.iFast ≤ ampsAt (rating s n) (d.cells * d.cvC : Nat))

/-- Words of a command with the tap alone. -/
def wordsTap (a : List Word) : Option Nat := tapArg a
/-- Words of `TAP_SET_SUPPORT` (R265). -/
def wordsSupport (a : List Word) : Option Nat :=
  first [tapArg a, rng 0 2 (field (argW a 1) 2 2), need (decide (field (argW a 1) 4 12 = 0))]
/-- Words of `TAP_SET_LIMITS` (R265). -/
def wordsLimits (a : List Word) : Option Nat := first [tapArg a, rngOr' (arg a 1)]
where
  /-- `cmd_lim` in range, or 0xFFFF for no limit. -/
  rngOr' (v : Nat) : Option Nat := if v = 0xFFFF then none else rng 0 16000 v
/-- Words of `TAP_SET_RAMP` (R98). -/
def wordsRamp (a : List Word) : Option Nat := first [tapArg a, rng 1 500 (arg a 1), rng 1 500 (arg a 2)]
/-- A voltage from 18 V to 96 V (R98). -/
def tapVolt (mv : Nat) : Option Nat := rng Config.tapMin Config.tapMax mv
/-- Words of `TAP_SET_KEEP` (R106). -/
def wordsKeep (a : List Word) : Option Nat := first [tapArg a, tapVolt (arg2 a 1)]
/-- Words of `TAP_SET_STANDIN` (R108). -/
def wordsStandin (a : List Word) : Option Nat :=
  first [tapArg a, tapVolt (arg2 a 1), tapVolt (arg2 a 3), tapVolt (arg2 a 5), rng 0 1 (arg a 7)]
/-- Words of `TAP_SET_TRACK` (R115). -/
def wordsTrack (a : List Word) : Option Nat := first [tapArg a, rng 0 2 (arg a 1), tapVolt (arg2 a 2)]
/-- The shift words of a bank have no reserved bit set (R69). -/
def shiftsOk (a : List Word) : Bool := decide (arg a 4 < 8 ∧ arg a 7 < 8 ∧ arg a 9 < 8)
/-- Words of `TAP_SET_COEFF` (R69). -/
def wordsCoeff (a : List Word) : Option Nat := first [tapArg a, rng 0 3 (arg a 1), need (shiftsOk a)]
/-- Words of `TAP_SET_SCHEDULE` (R70). -/
def wordsSchedule (a : List Word) : Option Nat := first [tapArg a, rng 24000 90000 (arg2 a 1), rng 3 15 (arg a 3)]
/-- Words of `TAP_SET_SHED` (R77). -/
def wordsShed (a : List Word) : Option Nat := first [tapArg a, rng 60 90 (arg a 1), rng 30 75 (arg a 2)]
/-- Words of `TAP_SET_GANG` (R265): an odd tap is a wrong encoding. -/
def wordsGang (a : List Word) : Option Nat := first [tapArg a, need (decide (arg a 0 % 2 = 0)), rng 0 1 (arg a 1)]

/-! ### Effects -/

/-- The descriptor carries another serial than the tap's (R126). -/
def otherSerial (t : Tap) (d : Descriptor) : Bool := match t.desc with
  | none => false
  | some o => o.serial != d.serial

/-- A written descriptor changes the state of the tap (R126, R132). -/
def descMoves (t : Tap) (d : Descriptor) : Bool :=
  (otherSerial t d && (doneRest t || (t.state.isFault && decide (t.state ≠ .faultOpen))))
    || (decide (t.state = .suspended) && (otherSerial t d || decide (t.cause = 8 ∨ t.cause = 7)))

/-- What a newly written descriptor does to the tap (R125, R126, R132). -/
def takeDescriptor (n : Fin 32) (d : Descriptor) (s : State) : State :=
  let t := s.taps[n]
  let changed := otherSerial t d
  let s := if changed then voidHist n s else s
  let s := s.modTap n fun t =>
    { t with desc := some d
             cfg := { t.cfg with keepV := none, siV := none, siMin := none, siMax := none } }
  if descMoves t d then toDetect n changed s else s

/-- `TAP_SET_DESCRIPTOR` (R125, R126, R266) without the write to flash. -/
def applyDescriptor (a : List Word) (s : State) : Reply :=
  let n := tapOf (arg a 0)
  let d := descOf a
  checked [wordsDescriptor a, need (descOk s n d), notOdd s a,
           allow (restful s.taps[n] && (!descMoves s.taps[n] d || unacted s n))] s <|
    done (byCommand n (takeDescriptor n d) s)

/-- `TAP_SET_DESCRIPTOR` (R125, R254). -/
def runSetDescriptor (a : List Word) (s : State) : Reply := toFlash (applyDescriptor a) s

/-- A descriptor as result words, defaults resolved (R265, R266). -/
def descWords (s : State) (n : Fin 32) (d : Descriptor) : List Word :=
  let (t1, t2, t3, t4, tf) := d.temps
  let sgn (v : Int) : Word := BitVec.ofInt 16 v
  [word (d.chem + d.cells * 4 + bit d.doneFloat 8 + d.ntcs * 512 + bit d.noNtcSuspend 11), word d.nameplate,
   word d.iFast] ++ wordsOf 4 d.serial.toNat
  ++ [word d.cvC, word d.ovC, word d.keepC, word d.nomC, word d.preC, word (preCurOf s n d),
      word (d.preTimer.getD 60), word (d.kFactor.getD 15 + 256 * d.eocN.getD 10),
      word (d.topDepth.getD 4 + 256 * d.reDepth.getD 20), word (topCurOf s n d), word (d.topTimer.getD 60),
      sgn t1, sgn t2, sgn t3, sgn t4, sgn tf, word (d.coldFrac.getD 25), word (d.warmRed.getD 100), word d.rMaxV]

/-- `TAP_GET_DESCRIPTOR` (R265). -/
def runGetDescriptor (a : List Word) (s : State) : Reply :=
  let n := tapOf (arg a 0)
  checked [tapArg a, notOdd s a] s <| match s.taps[n].desc with
    | none => deny 0x11 s
    | some d => doneWith (descWords s n d) s

/-- `TAP_SET_SUPPORT` (R130): turning keep off in KEEP ends KEEP at once. -/
def runSetSupport (a : List Word) (s : State) : Reply :=
  let n := tapOf (arg a 0)
  let on := decide (field (argW a 1) 0 1 = 1)
  checked [wordsSupport a, notOdd s a, allow (on || decide (s.taps[n].state ≠ .keep) || unacted s n)] s <|
    let s := s.modCfg n fun c =>
      { c with keepEn := on, bypOnFault := decide (field (argW a 1) 1 1 = 1)
               removal := match field (argW a 1) 2 2 with | 0 => .standIn | 1 => .bypass | _ => .openTap }
    done (if !on && decide (s.taps[n].state = .keep) then byCommand n (endKeep n) s else s)

/-- `TAP_SET_LIMITS` (R147, R265). -/
def runSetLimits (a : List Word) (s : State) : Reply :=
  checked [wordsLimits a, notOdd s a] s <|
    done (s.modCfg (tapOf (arg a 0)) fun c => { c with cmdLim := argD a 1 })

/-- The states from which `TAP_STOP` leads to SUSPENDED (R132). -/
def stoppable : TapState → Bool
  | .detect | .cupping | .precharge | .cc | .cv | .done | .topoff => true
  | _ => false

/-- `TAP_STOP` (R105, R112, R132): SUSPENDED with cause host, or in STAND-IN the hand-off to the bypass, which a stopped
stake with SLOT_FB present has behind it. -/
def runStop (a : List Word) (s : State) : Reply :=
  let n := tapOf (arg a 0)
  let t := s.taps[n]
  checked [wordsTap a, notOdd s a, allow (unacted s n && (stoppable t.state || decide (t.state = .standIn)))] s <|
    let s := s.modTap n fun t => { t with hostStop := true }
    if t.state = .standIn then
      accepted (byCommand n (startHandOff n .stop) s)
    else done (byCommand n (suspend n 1) s)

/-- `TAP_RESUME` (R132): SUSPENDED with cause host enters DETECT; a KEEP that remembers it remembers DETECT. -/
def runResume (a : List Word) (s : State) : Reply :=
  let n := tapOf (arg a 0)
  let t := s.taps[n]
  let susp := decide (t.state = .suspended) && decide (t.cause = 1)
  let kept := decide (t.state = .keep) && decide (t.left = .suspended) && decide (t.leftCause = 1)
  checked [wordsTap a, notOdd s a, allow ((susp && unacted s n) || kept)] s <|
    let s := s.modTap n fun t => { t with hostStop := false }
    done (if susp then byCommand n (toDetect n false) s else s.modTap n fun t => { t with left := .detect, leftCause := 0 })

/-- Both safety timers armed anew at full size (R156, R158). -/
def rearm (n : Fin 32) (s : State) : State := match s.taps[n].desc with
  | none => s
  | some d =>
    let c := capacity s n
    s.modTap n fun t =>
      { t with
        pre := { armed := true, size := d.preTimer.getD 60 * 60000 }
        chg := { armed := true
                 size := min Config.chargeTimerMax (d.kFactor.getD 15 * c * 3600000 / d.iFast) } }

/-- `TAP_REARM_TIMER` (R132, R158). -/
def runRearmTimer (a : List Word) (s : State) : Reply :=
  let n := tapOf (arg a 0)
  let st := s.taps[n].state
  checked [wordsTap a, notOdd s a,
           allow ((decide (st = .faultTimer) && unacted s n) || decide (st = .precharge ∨ st = .cc ∨ st = .cv))] s <|
    let s := rearm n s
    done (if st = .faultTimer then
            byCommand n (fun s => if s.sys.st = .run then goByKelvin n s else suspend n 10 s) s
          else s)

/-- Kelvin and power pair lie at or above the level of R132 for the end of FAULT-SHORT. -/
def unshorted (t : Tap) : Bool := decide (cells t * 500 ≤ kelvin t ∧ cells t * 500 ≤ t.vPair)

/-- The condition of a fault state is gone (R132), for FAULT-SHORT since 2 s. With no descriptor there is no CV target, and the condition of
FAULT-OV is the stake's own level of R62. -/
def faultGone (t : Tap) : Bool := match t.state with
  | .faultShort => unshorted t && decide (2000 ≤ t.stake.clearMs)
  | .faultOv => (match t.desc with
    | none => decide (kelvin t < Config.stakeOv)
    | some _ => decide (kelvin t < (cvTarget t : Int)))
  | .faultTherm => (match hotter t with
    | none => false
    | some v => decide (v < (tapTemps t).2.2.1))
  | _ => false

/-- `TAP_CLEAR_FAULT` (R132). -/
def runClearFault (a : List Word) (s : State) : Reply :=
  let n := tapOf (arg a 0)
  checked [wordsTap a, notOdd s a, allow (unacted s n && faultGone s.taps[n])] s <|
    done (byCommand n (toDetect n false) s)

/-- `TAP_FORGET` (R127, R132, R265): its effect depends on the void record, so that it acts and answers once that is written
(R342); NV_FAIL when neither copy of the black box takes the write. -/
def runForget (via : Via) (a : List Word) (s : State) : Reply :=
  let n := tapOf (arg a 0)
  let t := s.taps[n]
  let leaves := decide (t.state = .suspended ∧ (t.cause = 8 ∨ t.cause = 7))
  checked [wordsTap a, notOdd s a, allow (restful t && (!leaves || unacted s n)), if s.bbx.okA || s.bbx.okB then none else some 0x60] s <|
    .later ((voidHist n s).modBbx fun b => { b with forgets := b.forgets ++ [(s.bbx.nextSeq, n, via)] })

/-- `TAP_GET_HISTORY` (R265). -/
def runGetHistory (a : List Word) (s : State) : Reply :=
  let n := tapOf (arg a 0)
  checked [tapArg a, rng 0 63 (arg a 1), notOdd s a] s <|
    match (s.bbx.hist.reverse.filter fun h => decide (h.tap = n.val) && (h.okA || h.okB))[arg a 1]? with
    | none => deny 0x22 s
    | some h =>
      let c := h.cup.getD (0, 0, 0)
      doneWith ([word (bit h.void 0 + bit h.cap.isSome 1 + bit h.cup.isSome 2)] ++ wordsOf 4 h.serial.toNat
        ++ [word (h.cap.getD 0), word c.1, word c.2.1] ++ wordsOf 2 c.2.2 ++ wordsOf 4 h.cupTime
        ++ wordsOf 4 h.capTime) s

/-- `TAP_SET_RAMP` (R98). -/
def runSetRamp (a : List Word) (s : State) : Reply :=
  checked [wordsRamp a, notOdd s a] s <|
    done (s.modCfg (tapOf (arg a 0)) fun c => { c with softRate := arg a 1, slewRate := arg a 2 })

/-- A changed reference of KEEP or STAND-IN reaches the stake (R99, R106, R115). -/
def refresh (n : Fin 32) (s : State) : State :=
  if s.taps[n].state = .keep ∨ s.taps[n].state = .standIn then retarget n s else s

/-- `TAP_SET_KEEP` (R106). -/
def runSetKeep (a : List Word) (s : State) : Reply :=
  let n := tapOf (arg a 0)
  checked [wordsKeep a, need (s.taps[n].desc.isNone || decide (arg2 a 1 < cvTarget s.taps[n])), notOdd s a] s <|
    done (refresh n (s.modCfg n fun c => { c with keepV := some (arg2 a 1) }))

/-- `TAP_SET_STANDIN` (R108). -/
def runSetStandin (a : List Word) (s : State) : Reply :=
  let n := tapOf (arg a 0)
  checked [wordsStandin a, need (decide (arg2 a 3 ≤ arg2 a 1 ∧ arg2 a 1 ≤ arg2 a 5)), notOdd s a] s <|
    done (refresh n (s.modCfg n fun c =>
      { c with siV := some (arg2 a 1), siMin := some (arg2 a 3), siMax := some (arg2 a 5)
               autoReturn := decide (arg a 7 = 1) }))

/-- The partner of a tap in its pair (R3). -/
def partner (n : Fin 32) : Fin 32 := if n.val % 2 = 0 then ⟨(n.val + 1) % 32, by omega⟩ else ⟨n.val - 1, by omega⟩

/-- A power pair of the stake or pair lies below −1.0 V (R61). -/
def reversed (s : State) (n : Fin 32) : Bool := (mates s n).any fun m => decide (s.taps[m].vPair < -1000)

/-- A start is refused (R61). -/
def refuseStart (n : Fin 32) (s : State) : State := s.modStake n fun k => { k with start := .off, softStart := false }

/-- The module states in which a stake may start (R81, R135, R363). -/
def mayStart (s : State) : Bool := decide (s.sys.st = .run ∨ s.sys.st = .hold) && !s.sys.hkLost && !s.sys.longPress

/-- A start request (R61, R64, R82, R101): refused while the power pair is reversed or the module allows no start; a pair whose voltages disagree
enters SUSPENDED; a stake without a rating is withdrawn; otherwise the pre-start test runs. A stand-in that is bypassed
starts from the bypass (R109). -/
def requestStart (n : Fin 32) (s : State) : State :=
  let t := s.taps[n]
  if reversed s n || !mayStart s then refuseStart n s
  else if t.cfg.gang && !gangOk s n (partner n) then alert 0 0xA 11 n.val 0 (suspend n 5 s)
  else if (rating s n).1 = 0 then withFlt (fun s => suspend n 6 (onMates n (fun k => { k with withdrawn := true }) s)) s
  else wakeFor n ((onMates n (fun k => { k with testing := true }) s).modTap n fun t =>
    { t with stake := { t.stake with
        start := .pretest, softStart := true, refReached := false, bypRamp := false, bypassed := false
        fromBypass := t.stake.fromBypass || (decide (t.state = .standIn) && t.stake.slotByp && t.stake.slotFb) } })

/-- Stand-in from the bypass is entered (R109): the start request with the tap switch open. -/
def fromBypass (n : Fin 32) (auto : Bool) (s : State) : State :=
  requestStart n ((toStandIn n s).modStake n fun k => { k with attempts := 0, fromBypass := true, autoReturned := auto })

/-- `TAP_STAND_IN` (R109, R265). -/
def runStandIn (a : List Word) (s : State) : Reply :=
  let n := tapOf (arg a 0)
  let t := s.taps[n]
  let st := decide (t.state = .absent ∨ t.state = .faultOpen) || (decide (t.state = .standIn) && t.stake.bypassed)
  checked [wordsTap a, notOdd s a,
           allow (unacted s n && st && t.stake.slotFb && (siVolt t).isSome && decide ((rating s n).1 ≠ 0))] s <|
    accepted (byCommand n (fromBypass n false) s)

/-- `TAP_SET_TRACK` (R115). -/
def runSetTrack (a : List Word) (s : State) : Reply :=
  let n := tapOf (arg a 0)
  checked [wordsTrack a, notOdd s a] s <|
    done (refresh n (s.modCfg n fun c =>
      { c with track := (match arg a 1 with | 0 => .off | 1 => .ratio | _ => .coincident), trackFs := arg2 a 2 }))

/-- R_blk of the plant model in 10 µΩ (R72): of the last cupping, else 0.5 mΩ a cell. -/
def blockOhm (s : State) (n : Fin 32) : Nat :=
  ((history s n).bind fun h => h.cup.map fun c => c.2.1).getD ((cells s.taps[n]).toNat * 50)

/-- The extreme Kelvin voltages that can select a bank (R70, R72), mV. -/
def bankVolts (c : TapCfg) (bank : Nat) : List Nat :=
  if bank / 2 = 0 then [18000, c.hvThr] else [c.hvThr - 2000, 96000]

/-- The extreme active rod counts that can select a bank (R70, R72); a pair has twice as many. -/
def bankRods (c : TapCfg) (bank : Nat) : List Nat :=
  (if bank % 2 = 0 then [2, c.rodThr] else [c.rodThr - 2, 16]).map (· * if c.gang then 2 else 1)

/-- The sixteen cases that a bank is checked at (R72). -/
def corners (s : State) (n : Fin 32) (bank : Nat) : List Config.Plant :=
  let c := s.taps[n].cfg
  (bankVolts c bank).flatMap fun v => (bankRods c bank).flatMap fun r =>
    [c.lMin, c.lMax].flatMap fun l => [c.rMin, c.rMax].map fun o =>
      { volts := v, rods := r, cap := if c.gang then 480 else 240, loopL := l, loopR := o, blockR := blockOhm s n }

/-- The result bits of a bank's check (R71): at some corner a phase margin below 35°, a gain margin below 6 dB, a crossover
above 6.25 kHz. -/
def marginBits (bank : List Word) (ps : List Config.Plant) : Nat :=
  let m := ps.map (Config.margins bank)
  bit (m.any fun x => decide (x.1 < 3500)) 0 + bit (m.any fun x => decide (x.2.1 < 600)) 1
    + bit (m.any fun x => decide (6250 < x.2.2)) 2

/-- `TAP_SET_COEFF` (R71, R72). -/
def runSetCoeff (a : List Word) (s : State) : Reply :=
  let n := tapOf (arg a 0)
  match first [tapArg a, rng 0 3 (arg a 1)] with
  | some c => deny c s
  | none =>
    if !shiftsOk a then .now 0x21 [8] s else
    let bad := marginBits (tabulate 9 fun k => argW a (2 + k.val)) (corners s n (arg a 1))
    if bad ≠ 0 then .now 0x21 [word bad] s else
    match notOdd s a with
    | some c => deny c s
    | none =>
      done (s.modCfg n fun c =>
        { c with banks := vec fun b => if b.val = arg a 1 then vec fun k => argW a (2 + k.val) else c.banks[b] })

/-- `TAP_LOAD_DEFAULT_COEFF` (R71). -/
def runLoadDefaultCoeff (a : List Word) (s : State) : Reply :=
  checked [wordsTap a, notOdd s a] s <| done (s.modCfg (tapOf (arg a 0)) fun c => { c with banks := factoryBanks })

/-- `TAP_SET_SCHEDULE` (R70). -/
def runSetSchedule (a : List Word) (s : State) : Reply :=
  checked [wordsSchedule a, notOdd s a] s <|
    done (s.modCfg (tapOf (arg a 0)) fun c => { c with hvThr := arg2 a 1, rodThr := arg a 3 })

/-- `TAP_SET_SHED` (R77). -/
def runSetShed (a : List Word) (s : State) : Reply :=
  checked [wordsShed a, need (decide (arg a 2 + 10 ≤ arg a 1)), notOdd s a] s <|
    done (s.modCfg (tapOf (arg a 0)) fun c => { c with addPct := arg a 1, shedPct := arg a 2 })

/-- The states of a tap that a withdrawal sends to SUSPENDED (R90): a latched FAULT state and ABSENT stay. -/
def TapState.yields (st : TapState) : Bool := !st.isFault && decide (st ≠ .absent)

/-- A stake or pair is withdrawn (R90): it stops, with SLOT_BYP first in STAND-IN, and the tap enters SUSPENDED; a tap that
stays in ABSENT or a latched FAULT state raises the alert alone. -/
def withdraw (n : Fin 32) (s : State) : State :=
  let h := headTap s n
  if (mates s h).all fun m => s.taps[m].stake.withdrawn then s else
  withFlt (fun s =>
    let s := onMates h (fun k => { k with withdrawn := true }) s
    if TapState.yields s.taps[h].state then suspend h 6 s else alert 0 2 0x86 h.val s.taps[h].vKel (stopStake h s)) s

/-- A stake or pair whose healthy rods give it no rating is withdrawn (R88, R89). -/
def withdrawUnrated (n : Fin 32) (s : State) : State := if unrated s n then withdraw n s else s

/-- A start whose test still runs is given up: the next start request makes its own checks and tests (R64, R81). -/
def Stake.untest (k : Stake) : Stake :=
  if k.start = .pretest then { k with start := .off, testing := false, softStart := false } else k

/-- Form or dissolve a ganged pair of stakes that rest (R63, R64, R265). Forming leaves tap 2k + 1 without a state
machine of its own (R136); the pair, or a stake left alone, with too few healthy rods is withdrawn (R88, R89). A start still
in its test begins anew, since the test of R82 and the check of R64 are those of the stakes as they stand then. -/
def runSetGang (a : List Word) (s : State) : Reply :=
  let n := tapOf (arg a 0)
  let m := partner n
  let idle (k : Fin 32) := !s.taps[k].stake.conv && !s.taps[k].stake.sw
  let form := decide (arg a 1 = 1)
  checked [wordsGang a, need (decide (s.taps[n].cfg.share = 0 ∧ s.taps[m].cfg.share = 0)), allow (idle n && idle m),
           need (!form || gangOk s n m || decide (s.taps[n].vPair ≤ 5000 ∨ s.taps[m].vPair ≤ 5000))] s <|
    let s := if form && !s.taps[n].cfg.gang then toAbsent m s else s
    let s := if form then ungovern m (ungovern n s) else s
    let s := (s.modStake n Stake.untest).modStake m Stake.untest
    let s := (s.modCfg n fun c => { c with gang := form }).modCfg m fun c => { c with gang := form }
    done (withdrawUnrated m (withdrawUnrated n s))

/-- `TAP_GET_RODS` (R23, R265). -/
def runGetRods (a : List Word) (s : State) : Reply :=
  let n := tapOf (arg a 0)
  match tapArg a with
  | some c => deny c s
  | none =>
    if !clUp s n then deny 0x40 s else
    checked [rng 0 15 (arg a 1), rng 1 4 (arg a 2), if arg a 1 + arg a 2 ≤ 16 then none else some 0x22, notOdd s a] s <|
      let rod (p : Nat) : List Word :=
        let r := s.taps[n].stake.rods[rodOf p]
        wordsOf 2 r.runTime ++ [BitVec.ofInt 16 r.trim, BitVec.ofInt 16 r.temp,
          word ((recent s.sys.uptime 10000 r.trips).length % 256
            + 256 * ((recent s.sys.uptime 10000 r.primTrips).length % 256)), word r.cause]
      doneWith ((List.range (arg a 2)).flatMap fun i => rod (arg a 1 + i)) s

/-- Words of `TAP_SET_PLANT` (R72). -/
def wordsPlant (a : List Word) : Option Nat :=
  first [tapArg a, rng 10 2000 (arg a 1), rng 10 2000 (arg a 2), rng 5 1000 (arg a 3), rng 5 1000 (arg a 4)]

/-- `TAP_SET_PLANT` (R72, R265). -/
def runSetPlant (a : List Word) (s : State) : Reply :=
  checked [wordsPlant a, need (decide (arg a 1 ≤ arg a 2 ∧ arg a 3 ≤ arg a 4)), notOdd s a] s <|
    done (s.modCfg (tapOf (arg a 0)) fun c =>
      { c with lMin := arg a 1, lMax := arg a 2, rMin := arg a 3, rMax := arg a 4 })

/-- `TAP_SET_DESCRIPTOR` (R125). -/
def execTapSetDescriptor := onCluster 0x0301 runSetDescriptor
/-- `TAP_GET_DESCRIPTOR` (R265). -/
def execTapGetDescriptor := afterHeld 0x0302 runGetDescriptor
/-- `TAP_SET_SUPPORT` (R130). -/
def execTapSetSupport := onCluster 0x0303 runSetSupport
/-- `TAP_SET_LIMITS` (R147). -/
def execTapSetLimits := onCluster 0x0304 runSetLimits
/-- `TAP_STOP` (R132). -/
def execTapStop := onCluster 0x0305 runStop
/-- `TAP_RESUME` (R132). -/
def execTapResume := onCluster 0x0306 runResume
/-- `TAP_REARM_TIMER` (R158). -/
def execTapRearmTimer := onCluster 0x0307 runRearmTimer
/-- `TAP_CLEAR_FAULT` (R132). -/
def execTapClearFault := onCluster 0x0308 runClearFault
/-- `TAP_FORGET` (R127). -/
def execTapForget (via : Via) := onCluster 0x0309 (runForget via) via
/-- `TAP_GET_HISTORY` (R265). -/
def execTapGetHistory := hostCommand 0x030A runGetHistory
/-- `TAP_SET_RAMP` (R98). -/
def execTapSetRamp := onCluster 0x030B runSetRamp
/-- `TAP_SET_KEEP` (R106). -/
def execTapSetKeep := onCluster 0x030C runSetKeep
/-- `TAP_SET_STANDIN` (R108). -/
def execTapSetStandin := onCluster 0x030D runSetStandin
/-- `TAP_STAND_IN` (R109). -/
def execTapStandIn := onCluster 0x030E runStandIn
/-- `TAP_SET_TRACK` (R115). -/
def execTapSetTrack := onCluster 0x030F runSetTrack
/-- `TAP_SET_COEFF` (R71). -/
def execTapSetCoeff := onCluster 0x0310 runSetCoeff
/-- `TAP_LOAD_DEFAULT_COEFF` (R71). -/
def execTapLoadDefaultCoeff := onCluster 0x0311 runLoadDefaultCoeff
/-- `TAP_SET_SCHEDULE` (R70). -/
def execTapSetSchedule := onCluster 0x0312 runSetSchedule
/-- `TAP_SET_SHED` (R77). -/
def execTapSetShed := onCluster 0x0313 runSetShed
/-- `TAP_SET_GANG` with ARG1 1 (R63). -/
def execTapSetGangForm (via : Via) (a : List Word) := onCluster 0x0314 runSetGang via (withArg1 1 a)
/-- `TAP_SET_GANG` with ARG1 0 (R63). -/
def execTapSetGangDissolve (via : Via) (a : List Word) := onCluster 0x0314 runSetGang via (withArg1 0 a)
/-- `TAP_GET_RODS` (R265). -/
def execTapGetRods := afterHeld 0x0315 runGetRods
/-- `TAP_SET_PLANT` (R72). -/
def execTapSetPlant := onCluster 0x0316 runSetPlant

end Sys2Proof.Machine
end

