-- ==== Sys2Proof/Machine/ArbCmd.lean ====
section
/-! DEFINITION. The ARB and MTR commands (R267 to R269, R189 to R191). -/

namespace Sys2Proof.Machine

/-- The largest minimum a tap accepts (R267): its I_fast, 0 with no descriptor. -/
def minTop (t : Tap) : Nat := match t.desc with
  | none => 0
  | some d => d.iFast

/-- Words of `ARB_SET_MIN` (R267). -/
def wordsMin (s : State) (a : List Word) : Option Nat :=
  first [tapArg a, rng 0 (minTop s.taps[tapOf (arg a 0)]) (arg a 1), rng 0 255 (arg a 2)]

/-- `ARB_SET_MIN` (R170, R267). -/
def runSetMin (a : List Word) (s : State) : Reply :=
  checked [wordsMin s a, need (decide (arg a 1 = 0 ↔ arg a 2 = 0))] s <|
    done (s.modCfg (tapOf (arg a 0)) fun c => { c with minCur := arg a 1, lessee := arg a 2 })

/-- Words of `ARB_SET_LOSS_CAP` (R162). -/
def wordsLossCap (a : List Word) : Option Nat := first [rng 500 3600 (arg a 0), need (decide (arg a 0 % 10 = 0))]

/-- `ARB_SET_LOSS_CAP` (R162). -/
def runSetLossCap (a : List Word) (s : State) : Reply :=
  checked [wordsLossCap a] s <| done { s with arb := { s.arb with lossCap := arg a 0 } }

/-- `ARB_GET_DOSES` (R267). -/
def runGetDoses (a : List Word) (s : State) : Reply :=
  checked [tapArg a, rng 1 3 (arg a 1), if arg a 0 + arg a 1 ≤ 32 then none else some 0x22] s <|
    doneWith ((List.range (arg a 1)).flatMap fun i =>
      let t := s.taps[tapOf (arg a 0 + i)]
      [word t.request] ++ t.levels.toList.map word ++ [word t.grant] ++ wordsOf 2 t.eRem) s

/-! ### Meters -/

/-- The counters as any reader sees them: 0 until the restore of BOOT (R183). -/
def shown (s : State) : Counters := if s.mtr.restored then s.ctrs else .reset

/-- The seven counters of a tap in the order of R194. -/
def tapCtrs (c : TapCtrs) : List (BitVec 64) :=
  [c.eStake.val, c.eBlkIn.val, c.eBlkOut.val, c.qBlkIn.val, c.qBlkOut.val, c.sfSup.val, c.sfCon.val]

/-- A 64-bit value as four words (R8). -/
def words64 (v : BitVec 64) : List Word := wordsOf 4 v.toNat

/-- `MTR_READ` (R185, R268). -/
def runMtrRead (a : List Word) (s : State) : Reply :=
  let c := shown s
  checked [rng 0 2 (arg a 0), match arg a 0 with | 0 => rng 0 31 (arg a 1) | 1 => rng 0 3 (arg a 1) | _ => rng 0 0 (arg a 1)] s <|
    doneWith (match arg a 0 with
      | 0 => (tapCtrs c.taps[tapOf (arg a 1)]).flatMap words64
      | 1 => words64 c.ports[portOf (arg a 1)].eIn.val ++ words64 c.ports[portOf (arg a 1)].qIn.val
      | _ => words64 c.sfSupTotal.val ++ words64 c.sfConTotal.val ++ words64 c.eString.val) s

/-- A word of two bytes, the first in the high byte (R269, R273). -/
def wordHL (hi lo : Byte) : Word := word (hi.toNat * 256 + lo.toNat)

/-- Bytes paired into words, the lower offset in the high byte (R269). -/
def pairs : List Byte → List Word
  | [] => []
  | [b] => [wordHL b 0]
  | b :: c :: bs => wordHL b c :: pairs bs

/-- `MTR_GET_PUBKEY` (R189, R268): the public key in two parts, the certificate in eight pieces of 48 bytes. -/
def runGetPubkey (a : List Word) (s : State) : Reply :=
  checked [rng 0 9 (arg a 0)] s <|
    doneWith (pairs ((List.range (if arg a 0 < 2 then 32 else 48)).map (Config.pubkeyByte (arg a 0)))) s

/-- Bytes of one entry of a statement (R191). -/
def stmtEntry (n : Nat) (serial : BitVec 64) (c : TapCtrs) : List Byte :=
  [BitVec.ofNat 8 n, 0] ++ bytesOf 8 serial.toNat ++ (tapCtrs c).flatMap fun v => bytesOf 8 v.toNat

/-- Serial and lessee of a tap at the source of a statement: live, or as the snapshot recorded them (R187); a tap with no
descriptor has serial 0 (DESIGN CHOICE, log entry 64: R191 does not say). -/
def blockAt (s : State) (src : Option SnapRec) (n : Fin 32) : BitVec 64 × Nat := match src with
  | none => ((s.taps[n].desc.map (·.serial)).getD 0, s.taps[n].cfg.lessee)
  | some r => let b := r.blocks.getD n.val (0, 0, 0); (b.1, b.2.1)

/-- The bytes of a statement before its signature (R191). -/
def stmtBody (s : State) (src : Option SnapRec) (lessee : Nat) (sel : List (Fin 32)) (nonce : Nat) : List Byte :=
  let c := match src with
    | none => shown s
    | some r => r.ctrs
  let time := match src with
    | none => s.stamp
    | some r => r.time
  let valid := match src with
    | none => s.sys.timeValid
    | some r => r.timeValid
  let l := 40 + 66 * sel.length
  bytesOf 2 1 ++ bytesOf 2 l ++ bytesOf 8 Config.serial.toNat ++ bytesOf 4 s.mtr.stmtNext ++ bytesOf 8 time
    ++ bytesOf 2 (bit valid 0 + bit src.isSome 1 + bit s.mtr.gapSince 2)
    ++ bytesOf 4 (match src with | none => 0xFFFFFFFF | some r => r.seq) ++ bytesOf 8 nonce
    ++ bytesOf 1 lessee ++ bytesOf 1 sel.length
    ++ sel.flatMap fun n => stmtEntry n.val (blockAt s src n).1 c.taps[n]

/-- Build the statement: buffer, sequence number, record with its hash (R190). -/
def buildStmt (src : Option SnapRec) (lessee : Nat) (sel : List (Fin 32)) (nonce : Nat) (s : State) : Reply :=
  let body := stmtBody s src lessee sel nonce
  let stmt := body ++ (List.range 64).map (Config.signByte body)
  let seq := s.mtr.stmtNext
  let s := { s with mtr := { s.mtr with stmt := stmt, stmtSeq := seq, stmtNext := seq + 1, gapSince := false } }
  let s := record 0x0A (wordsOf 2 seq ++ pairs ((List.range 32).map (Config.sha256Byte body))) s
  doneWith (wordsOf 2 seq ++ [word stmt.length]) s

/-- `MTR_GET_STATEMENT` (R190, R268, R269): arguments that ARG0 and ARG3 do not select are not read. -/
def runGetStatement (a : List Word) (s : State) : Reply :=
  let live := decide (arg a 0 = 0)
  let byLessee := decide (arg a 3 = 0)
  checked [rng 0 1 (arg a 0), rng 0 1 (arg a 3), if byLessee then rng 1 255 (arg a 4) else none] s <|
    let src := if live then none else snap (arg2 a 1)
    if !live && src.isNone then deny 0x22 s else
    let sel := (indices 32).filter fun n =>
      if byLessee then decide ((blockAt s src n).2 = arg a 4) else (arg2 a 5).testBit n.val
    if sel.isEmpty then deny 0x21 s
    else toFlash (buildStmt src (if byLessee then arg a 4 else 0) sel (arg4 a 7)) s
where
  /-- The stored snapshot of a sequence number (R190). -/
  snap (seq : Nat) : Option SnapRec := s.bbx.snaps.find? fun r => decide (r.seq = seq) && (r.okA || r.okB)

/-- `MTR_READ_STATEMENT` (R269). -/
def runReadStatement (a : List Word) (s : State) : Reply :=
  checked [need (decide (arg a 0 % 2 = 0)), rng 2 56 (arg a 1), need (decide (arg a 1 % 2 = 0)),
           if s.mtr.stmt.isEmpty then some 0x11 else none,
           if arg a 0 + arg a 1 ≤ s.mtr.stmt.length then none else some 0x22] s <|
    doneWith (pairs ((s.mtr.stmt.drop (arg a 0)).take (arg a 1))) s

/-- `ARB_SET_MIN` (R170). -/
def execArbSetMin := hostCommand 0x0401 runSetMin
/-- `ARB_SET_LOSS_CAP` (R162). -/
def execArbSetLossCap := hostCommand 0x0402 runSetLossCap
/-- `ARB_GET_DOSES` (R267). -/
def execArbGetDoses := hostCommand 0x0403 runGetDoses
/-- `MTR_READ` (R268). -/
def execMtrRead := hostCommand 0x0501 runMtrRead
/-- `MTR_GET_PUBKEY` (R189). -/
def execMtrGetPubkey := hostCommand 0x0502 runGetPubkey
/-- `MTR_GET_STATEMENT` (R190). -/
def execMtrGetStatement := hostCommand 0x0503 runGetStatement
/-- `MTR_READ_STATEMENT` (R269). -/
def execMtrReadStatement := hostCommand 0x0504 runReadStatement

end Sys2Proof.Machine
end

