-- ==== Sys2Proof/Machine/Recipe.lean ====
section
/-! DEFINITION. The recipe engine and the performance units (R372 to R389), with the RCP and PERF commands (R273, R274). -/

namespace Sys2Proof.Machine

/-! ### Slots -/

/-- Change one slot. -/
def modSlot (k : Nat) (f : Slot → Slot) (s : State) : State :=
  { s with rcp := { s.rcp with slots := vec fun i => if i.val = k then f s.rcp.slots[i] else s.rcp.slots[i] } }

/-- A slot by its number. -/
def slotAt (s : State) (k : Nat) : Slot := s.rcp.slots.toList.getD k .reset

/-- The slot an argument names is the running one (R273). -/
def isRunning (s : State) (k : Nat) : Bool := match s.rcp.running with
  | some r => decide (r.val = k)
  | none => false

/-- Header field of four bytes at an offset of the code region (R372). -/
def slotField (p : Slot) (off : Nat) : Nat := natLE (memBytes p.code off 4)

/-- Persistent bytes P of a slot. -/
def slotP (p : Slot) : Nat := slotField p 16

/-- The header fields lie within their ranges and both entries lie below L_code (R372, R373). -/
def headerOk (p : Slot) : Bool :=
  decide (20 ≤ slotField p 8 ∧ slotField p 8 ≤ 262144 ∧ slotField p 12 ≤ 131072 ∧ slotP p ≤ 8192
    ∧ slotP p % 4 = 0 ∧ slotP p ≤ slotField p 12 ∧ slotField p 0 < slotField p 8 ∧ slotField p 4 < slotField p 8)

/-- The key registered, X then Y (R273). -/
def rcpKey (s : State) : Option (List Byte) := match s.rcp.keyX, s.rcp.keyY with
  | some x, some y => some (x ++ y)
  | _, _ => none

/-- The signature of a slot verifies (R372). -/
def slotSigned (key : List Byte) (p : Slot) : Bool :=
  Config.verify key (memBytes p.code 0 (slotField p 8) ++ memBytes p.data 0 (slotField p 12)) (memBytes p.sig 0 64)

/-! ### Commands -/

/-- `RCP_REGISTER_KEY` (R273). -/
def runRegisterKey (a : List Word) (s : State) : Reply :=
  let key := (tabulate 16 fun k => bytesHL (argW a (1 + k.val))).flatten
  checked [rng 0 1 (arg a 0)] s <| toFlash (fun s =>
    let r : Rcp := if arg a 0 = 0 then { s.rcp with keyX := some key } else { s.rcp with keyY := some key }
    done { s with rcp := r }) s

/-- Size of a region of a slot (R372). -/
def regionSize : Nat → Nat
  | 0 => 262144 | 1 => 131072 | _ => 64

/-- `RCP_LOAD` (R273, R373): bytes go in at even offsets, high byte first; the verified flag is cleared. -/
def runLoad (a : List Word) (s : State) : Reply :=
  let k := arg a 0
  let off := arg2 a 2
  let bytes := ((tabulate 25 fun i => bytesHL (argW a (5 + i.val))).take (arg a 4)).flatten
  checked [slotArg a, rng 0 2 (arg a 1), need (decide (off % 2 = 0)), rng 1 25 (arg a 4),
           if off + 2 * arg a 4 ≤ regionSize (arg a 1) then none else some 0x22, allow (!isRunning s k)] s <|
    toFlash (fun s => done (modSlot k (fun p => match arg a 1 with
      | 0 => { p with code := memWriteAll p.code off bytes, verified := false }
      | 1 => { p with data := memWriteAll p.data off bytes, verified := false }
      | _ => { p with sig := memWriteAll p.sig off bytes, verified := false }) s)) s

/-- `RCP_VERIFY` (R273, R373). -/
def runVerify (a : List Word) (s : State) : Reply :=
  let k := arg a 0
  checked [slotArg a, allow (!isRunning s k)] s <| match rcpKey s with
    | none => deny 0x30 s
    | some key =>
      if headerOk (slotAt s k) && slotSigned key (slotAt s k) then
        toFlash (fun s => done (modSlot k (fun p => { p with verified := true }) s)) s
      else deny 0x21 s

/-- Taps a recipe may not govern: tap 2k + 1 of a ganged pair and helper taps (R379). -/
def ungovernable (s : State) (n : Fin 32) : Bool :=
  gangedOdd s n || (decide (0 < s.taps[n].cfg.share) && s.taps[n].cfg.helper)

/-- The registers at an entry (R374): sp at the end of the data region, a0 as the call gives it, the others 0. -/
def entryRegs (a0 : Nat) : Vector (BitVec 32) 32 :=
  vec fun i => if i.val = 2 then 0x10020000 else if i.val = 10 then BitVec.ofNat 32 a0 else 0

/-- Call an entry of the running slot, named by the place of its offset in the header (R372, R375, R376). -/
def callEntry (off : Nat) (phase : RcpPhase) (a0 : Nat) (s : State) : State := match s.rcp.running with
  | none => s
  | some r => { s with rcp := { s.rcp with
      phase := phase, regs := entryRegs a0, pc := BitVec.ofNat 32 (slotField (slotAt s r.val) off), csr := [], loads := [] } }

/-- The recipe begins again after HOLD or a restart of C1 (R382): the data region comes from flash, the persistent area from
its retained copy, and init is called with a0 = 1. One that has not begun yet goes on waiting (R383). -/
def rcpAgain (s : State) : State := match s.rcp.running with
  | none => s
  | some r =>
    if s.rcp.phase = .starting ∨ s.rcp.phase = .alone then s
    else callEntry 0 .init 1 { s with rcp := { s.rcp with
      tick := 0, out := [], data := memWriteAll (slotAt s r.val).data 0 s.rcp.persist } }

/-- `RCP_START` (R273, R375, R379, R383): the data region is loaded, both pages are cleared and init is called with a0 = 0; after
a running recipe, which is stopped first, only once an arbiter period has run. -/
def runStart (a : List Word) (s : State) : Reply :=
  let k := arg a 0
  let mask : BitVec 32 := BitVec.ofNat 32 (arg2 a 1)
  checked [slotArg a, need ((indices 32).all fun n => !(mask.getLsbD n.val && ungovernable s n)),
           allow (slotAt s k).verified] s <|
    let again := s.rcp.running.isSome
    let s := rcpHalt s
    let s := { s with rcp := { s.rcp with
      running := some ⟨k % 8, Nat.mod_lt k (by decide)⟩, phase := .starting, mask := mask, overruns := 0, consec := 0
      lastFault := 0, tick := 0, inPage := .replicate 1088 0, outPage := .replicate 256 0, persist := []
      data := (slotAt s k).data } }
    done (if again then s else callEntry 0 .init 0 s)

/-- `RCP_STOP` (R383). -/
def runRcpStop (_ : List Word) (s : State) : Reply := done (rcpHalt s)

/-- `RCP_GET_STATUS` (R273). -/
def runRcpStatus (_ : List Word) (s : State) : Reply :=
  doneWith ([word (match s.rcp.running with | some r => r.val | none => 0xFFFF),
      word ((tabulate 8 fun i => bit s.rcp.slots[i].verified i.val).sum)] ++ wordsOf 2 s.rcp.mask.toNat
    ++ [word s.rcp.overruns, word s.rcp.lastFault]) s

/-- `RCP_REGISTER_KEY` (R273). -/
def execRcpRegisterKey := hostCommand 0x0901 runRegisterKey
/-- `RCP_LOAD` (R373). -/
def execRcpLoad := hostCommand 0x0902 runLoad
/-- `RCP_VERIFY` (R373). -/
def execRcpVerify := hostCommand 0x0903 runVerify
/-- `RCP_START` (R375). -/
def execRcpStart := hostCommand 0x0904 runStart
/-- `RCP_STOP` (R383). -/
def execRcpStop := hostCommand 0x0905 runRcpStop
/-- `RCP_GET_STATUS` (R273). -/
def execRcpGetStatus := hostCommand 0x0906 runRcpStatus

/-! ### Ticks -/

/-- C1 runs recipe code (R376, R382). -/
def c1Up (s : State) : Bool :=
  decide (s.sys.st = .standby ∨ s.sys.st = .run) && s.sys.cores.getLsbD 1 && s.rcp.running.isSome

/-- NTC reading of the input page and of `TAPnn_NTCA`: 0x8000 when not plausible (R160, R377). -/
def ntcWord (v : Int) : Word := if plausible v then BitVec.ofInt 16 v else 0x8000

/-- Carry (R164), reduced at a primary by its share (R317). -/
def carry (s : State) (t : Tap) : Nat :=
  let c := s.sys.iStr.toNat
  if isHelper t then c else c - t.cfg.share * c / 16

/-- The block current that a dose allows (R176): the dose less the carry, and not below 0 A. -/
def blockDose (s : State) (t : Tap) : Nat := t.dose - carry s t

/-- Words of an integer as little-endian bytes. -/
def bytesI (k : Nat) (v : Int) : List Byte := bytesOf k (twos (8 * k) v)

/-- One record of the input page (R377); state and cause as `TAPnn_STATE` shows them, for a tap 2k + 1 of a pair those of tap
2k (R136). -/
def inRecord (s : State) (n : Fin 32) : List Byte :=
  let t := s.taps[n]
  let h := s.taps[headTap s n]
  bytesOf 1 (tapCode h.state) ++ bytesOf 1 h.cause
    ++ bytesOf 1 (bit (s.rcp.mask.getLsbD n.val) 0 + bit (history s n).isSome 1) ++ bytesOf 1 t.band
    ++ bytesI 4 t.vKel ++ bytesI 4 (iBlk s n) ++ bytesOf 2 (ntcWord t.ntcA).toNat ++ bytesOf 2 (ntcWord t.ntcB).toNat
    ++ bytesOf 4 (effCv t) ++ bytesOf 2 ((t.desc.map (·.iFast)).getD 0) ++ bytesOf 1 (fraction t)
    ++ bytesOf 1 ((t.desc.map (·.cells)).getD 0) ++ bytesOf 2 (capacity s n)
    ++ bytesOf 2 (blockDose s t) ++ bytesOf 4 t.eRem

/-- An arbiter period is complete: its values of the string and of every tap are those the next tick copies (R376). -/
def recipeSees (s : State) : State :=
  { s with rcp := { s.rcp with
    seen := bytesI 4 s.sys.iStr ++ bytesI 4 s.sys.vStr ++ (tabulate 32 (inRecord s)).flatten } }

/-- The input page (R376, R377): the header, the string's values and the records of the taps. -/
def inputPage (s : State) : List Byte :=
  let seen (k : Nat) (off : Nat) : List Byte := tabulate k fun i => s.rcp.seen.getD (off + i.val) 0
  bytesOf 4 s.rcp.tick ++ bytesOf 8 s.stamp ++ bytesOf 2 (modCode s.sys.st)
    ++ bytesOf 2 (bit s.sys.timeValid 0 + bit (decide (s.rcp.tick = 0)) 1) ++ seen 8 0
    ++ List.replicate 40 0 ++ seen 1024 8

/-- `RECIPE_TICK` (R376, R387): page filled, tick entry called with its number, watchdog bit 3 checked in, which is a check-in
of C1 (R328), and USER_READ in force; a tick that falls due in init or while one runs is skipped. -/
def execRecipeTick (s : State) : Host.Outcome State Fault Refusal :=
  if !c1Up s || decide (s.rcp.phase ≠ .between) then .next s else
  let s := s.modWdg fun w => { w with checkin := w.checkin ||| 0x0008, awaiting := w.awaiting &&& ~~~0x02 }
  let p := s.perf[(1 : Fin 8)]
  let q : PerfCore := { p with userRead := p.nextUser.getD p.userRead, nextUser := none }
  let s : State := { s with perf := s.perf.set 1 q }
  let s := { s with rcp := { s.rcp with inPage := inputPage s } }
  let s := callEntry 4 .tick s.rcp.tick s
  .next { s with rcp := { s.rcp with tick := (s.rcp.tick + 1) % 2 ^ 32 } }

/-- Number of the tick that runs, or ran last; 0 before the first (R376). -/
def tickNumber (r : Rcp) : Nat := if r.phase = .init then 0 else (r.tick + (2 ^ 32 - 1)) % 2 ^ 32

/-- A fault stops the slot, withdraws its requests, and is recorded (R381). -/
def rcpFault (code : Nat) (pc : BitVec 32) (s : State) : State := match s.rcp.running with
  | none => s
  | some r =>
    let params := wordsOf 2 pc.toNat ++ wordsOf 2 (tickNumber s.rcp)
    let s := rcpHalt { s with rcp := { s.rcp with lastFault := code } }
    alertRec (recordKeyed (0x0D, EvCode.recipeFault.num, 0) (word EvCode.recipeFault.num :: word code :: params))
      3 0xA 8 r.val code s

/-- A fault whose row does not tell what the recipe had fetched last (R381): the program counter is a free value (log entry 3). -/
def rcpFaultFree (code : Nat) (s : State) : State :=
  let (k, s) := s.draw
  rcpFault code (BitVec.ofNat 32 (Config.freeValue k)) s

/-- `TICK_OVERRUN` (R376, R381): outputs discarded; the eighth in a row is fault 5. -/
def execTickOverrun (s : State) : Host.Outcome State Fault Refusal :=
  if c1Up s && decide (s.rcp.phase = .tick) then
    let s := { s with rcp := { s.rcp with
      phase := .between, overruns := sat 0xFFFF (s.rcp.overruns + 1), consec := s.rcp.consec + 1 } }
    .next (if 8 ≤ s.rcp.consec then rcpFaultFree 5 s else s)
  else .next s

/-- `INIT_TIMEOUT` (R381). -/
def execInitTimeout (s : State) : Host.Outcome State Fault Refusal :=
  .next (if c1Up s && decide (s.rcp.phase = .init) then rcpFaultFree 6 s else s)

/-- Take one record of the output page (R378). -/
def takeOut (n : Fin 32) (o : RcpOut) (s : State) : State :=
  if !s.rcp.mask.getLsbD n.val then s else
  let t := s.taps[n]
  let takes := decide (t.state = .precharge ∨ t.state = .cc ∨ t.state = .cv ∨ t.state = .topoff) && o.flags.getLsbD 0
  let ceil := if o.ceil.toNat < 18000 then 0 else o.ceil.toNat
  let s := s.modTap n fun t =>
    if takes then { t with rcpReq := if o.cur = 0xFFFF then none else some o.cur.toNat, rcpCeil := ceil }
    else { t with rcpReq := none, rcpCeil := 0 }
  if TapState.converts t t.state ∧ t.state ≠ .cupping ∧ t.state ≠ .detect then retarget n s else s

/-- An arbiter period that begins takes the output page of the last completed tick; a recipe that waits for one on the taps' own
requests begins once that period has run (R376, R383). -/
def takeOutputs (s : State) : State :=
  let out := s.rcp.out
  let s := { s with rcp := { s.rcp with out := [] } }
  let s := match s.rcp.phase with
    | .starting => { s with rcp := { s.rcp with phase := .alone } }
    | .alone => callEntry 0 .init 0 s
    | _ => s
  if out.isEmpty then s
  else foldFin 32 (fun n s => takeOut n (out.getD n.val { cur := 0xFFFF, flags := 0, ceil := 0 }) s) s

/-! ### The sandbox -/

/-- Change one unit. -/
def modPerf (c : Fin 8) (f : PerfCore → PerfCore) (s : State) : State := { s with perf := s.perf.set c (f s.perf[c]) }

/-- The island of a core is powered (R20). -/
def coreUp (s : State) (c : Fin 8) : Bool := decide (c.val < 4) || s.sys.clOn.getLsbD (c.val - 4)

/-- Events the model counts itself, as they happen (R384): cycles, messages, collisions and access faults. What the others count
between two dumps the next dump tells. -/
def counted (code : Nat) : Bool := decide (code = 0x01 ∨ code = 0x0E ∨ code = 0x0F ∨ code = 0x10)

/-- The counters of a core as a read finds them between dumps (R384, R388): what the core's own work has added since the last
dump is a free value (log entry 3), which the next dump then does not add again. -/
def catchUp (c : Fin 8) (s : State) : State :=
  if !coreUp s c || !s.sys.cores.getLsbD c.val then s else
  let f := s.free
  let ret := Config.freeValue (f + 8)
  modPerf c (fun p =>
    let more (k : Fin 8) : Nat :=
      if !p.en || counted p.sel[k] || decide (p.sel[k] = 0) then 0
      else if p.sel[k] = 2 then ret else Config.freeValue (f + k.val)
    { p with ctr := vec fun k => p.ctr[k] + BitVec.ofNat 64 (more k), ahead := vec fun k => p.ahead[k] + more k
             instret := p.instret + BitVec.ofNat 64 ret, aheadRet := p.aheadRet + ret }) { s with free := f + 9 }

/-- A user counter CSR of a core, by its number less 0xC00 (R388): cycle, instret, hpmcounter3 to 10. -/
def userCounter (p : PerfCore) (k : Nat) : Option (BitVec 64) :=
  if k = 0 then some p.cycle else if k = 2 then some p.instret
  else if 3 ≤ k ∧ k ≤ 10 then some (p.ctr.toList.getD (k - 3) 0) else none

/-- A CSR read by the recipe (R388), by the numbers of the RISC-V user counters (PRESUMED, log entry 66): none where it is
not allowed. -/
def csrRead (p : PerfCore) (a : Nat) : Option (BitVec 32) :=
  if !p.userRead then none
  else if 0xC80 ≤ a then (userCounter p (a - 0xC80)).map fun v => v.extractLsb' 32 32
  else if 0xC00 ≤ a then (userCounter p (a - 0xC00)).map fun v => v.extractLsb' 0 32
  else none

/-- One byte of a core's dump ring (R386): write offset, wrap count, and the records from byte 16; a byte that holds none of
these reads 0 (DESIGN CHOICE, log entry 66). -/
def ringByte (p : PerfCore) (k : Nat) : Byte :=
  if k < 16 then (bytesOf 4 p.offset ++ bytesOf 4 p.wraps).getD k 0
  else match p.ring.find? fun q => decide (q.1 ≤ k ∧ k < q.1 + q.2.length) with
    | some q => q.2.getD (k - q.1) 0
    | none => 0

/-- `n` bytes of the recipe's address space from `a` (R374), none where it may not read them: code, data, input page, output
page and, with USER_READ, the dump ring of C1. -/
def rcpBytes (s : State) (a n : Nat) : Option (List Byte) :=
  if a + n ≤ 0x40000 then
    some (memBytes ((s.rcp.running.map fun r => (slotAt s r.val).code).getD []) a n)
  else if 0x10000000 ≤ a ∧ a + n ≤ 0x10020000 then some (memBytes s.rcp.data (a - 0x10000000) n)
  else if 0x20000000 ≤ a ∧ a + n ≤ 0x20000440 then some (tabulate n fun i => s.rcp.inPage.getD (a - 0x20000000 + i.val) 0)
  else if 0x20001000 ≤ a ∧ a + n ≤ 0x20001100 then some (tabulate n fun i => s.rcp.outPage.getD (a - 0x20001000 + i.val) 0)
  else if 0x20002000 ≤ a ∧ a + n ≤ 0x20012000 ∧ s.perf[(1 : Fin 8)].userRead then
    some (tabulate n fun i => ringByte s.perf[(1 : Fin 8)] (a - 0x20002000 + i.val))
  else none

/-- `n` bytes from `a` may be written (R374): in the data region and in the output page. -/
def rcpWritable (a n : Nat) : Bool :=
  decide (0x10000000 ≤ a ∧ a + n ≤ 0x10020000) || decide (0x20001000 ≤ a ∧ a + n ≤ 0x20001100)

/-- The fault a step of the recipe is (R374, R381, R388): 1 a CSR access not allowed, 2 an access fault, 3 a misaligned access. -/
def opFault (s : State) : RcpOp → Option Nat
  | .fetch a => if a.toNat % 2 ≠ 0 then some 3 else if a.toNat < 0x40000 then none else some 2
  | .load a k => if a.toNat % 2 ^ k.val ≠ 0 then some 3 else if (rcpBytes s a.toNat (2 ^ k.val)).isSome then none else some 2
  | .store a k _ => if a.toNat % 2 ^ k.val ≠ 0 then some 3 else if rcpWritable a.toNat (2 ^ k.val) then none else some 2
  | .csrRead a => if (csrRead s.perf[(1 : Fin 8)] a).isSome then none else some 1
  | .csrWrite _ => some 1

/-- Bytes put into a list from a place on. -/
def putBytes : List Byte → Nat → List Byte → List Byte
  | l, _, [] => l
  | l, k, b :: bs => putBytes (l.set k b) (k + 1) bs

/-- What a step that is allowed does: a fetch moves the program counter, a load and a CSR read are kept with the value returned. -/
def opEffect (o : RcpOp) (s : State) : State := match o with
  | .fetch a => { s with rcp := { s.rcp with pc := a } }
  | .load a k => { s with rcp := { s.rcp with
      loads := s.rcp.loads ++ [(a, BitVec.ofNat 32 (natLE ((rcpBytes s a.toNat (2 ^ k.val)).getD [])))] } }
  | .store a k v =>
    let bs := bytesOf (2 ^ k.val) v.toNat
    if a.toNat < 0x20000000 then
      { s with rcp := { s.rcp with data := memWriteAll s.rcp.data (a.toNat - 0x10000000) bs } }
    else { s with rcp := { s.rcp with outPage := putBytes s.rcp.outPage (a.toNat - 0x20001000) bs } }
  | .csrRead a =>
    let s := catchUp 1 s
    { s with rcp := { s.rcp with csr := s.rcp.csr ++ [(a, (csrRead s.perf[(1 : Fin 8)] a).getD 0)] } }
  | .csrWrite _ => s

/-- The program counter a fault of a step shows (R381): the address of a fetch that faults, else of the instruction fetched last. -/
def faultPc (s : State) : RcpOp → BitVec 32
  | .fetch a => a
  | _ => s.rcp.pc

/-- The steps of a recipe up to its first fault (R381). -/
def runOps : List RcpOp → State → State
  | [], s => s
  | o :: os, s => match opFault s o with
    | some code => rcpFault code (faultPc s o) s
    | none => runOps os (opEffect o s)

/-- The output page as bytes (R378). -/
def pageOf (out : List RcpOut) : List Byte :=
  (tabulate 32 fun n =>
    let o := out.getD n.val { cur := 0xFFFF, flags := 0, ceil := 0 }
    bytesOf 2 o.cur.toNat ++ bytesOf 2 o.flags.toNat ++ bytesOf 4 o.ceil.toNat).flatten

/-- The recipe yields (R380, R382): the first P bytes of its data region go to the retained table. -/
def yielded (s : State) : State := match s.rcp.running with
  | none => s
  | some r => { s with rcp := { s.rcp with
      phase := .between, persist := memBytes s.rcp.data 0 (slotP (slotAt s r.val)) } }

/-- `YIELD` (R374, R376, R378, R380, R382, R388): what the recipe did on its way acts first, and a fault in it ends the slot; then
init or the tick ends. The outputs of a tick, the output page as the recipe leaves it, wait for the next arbiter period. -/
def execYield (out : List RcpOut) (rest : RcpRest) (s : State) :
    Host.Outcome State Fault Refusal :=
  if !c1Up s || !decide (s.rcp.phase = .init ∨ s.rcp.phase = .tick) then .next s else
  let s := runOps rest.ops s
  .next (match s.rcp.phase with
    | .init => yielded { s with rcp := { s.rcp with outPage := pageOf out } }
    | .tick => yielded { s with rcp := { s.rcp with consec := 0, out := out, outPage := pageOf out } }
    | _ => s)

/-- A call of the supervisor returns `v` in a0 (R380). -/
def returnA0 (v : BitVec 32) (s : State) : State := { s with rcp := { s.rcp with regs := s.rcp.regs.set 10 v } }

/-- `NOTE` (R380): at most one per second is written; a further note is dropped and a0 returns 1. -/
def execNote (a : List (BitVec 32)) (s : State) : Host.Outcome State Fault Refusal :=
  if !c1Up s || !decide (s.rcp.phase = .init ∨ s.rcp.phase = .tick) then .next s else
  let free := match s.rcp.noteAt with
    | none => true
    | some t => decide (t + 1000 ≤ s.sys.uptime)
  if free then
    .next (recordKeyed (0x0D, EvCode.note.num, 0)
      (word EvCode.note.num :: (a.take 4).flatMap fun v => wordsOf 2 v.toNat)
      (returnA0 0 { s with rcp := { s.rcp with noteAt := some s.sys.uptime } }))
  else .next (returnA0 1 s)

/-- Recipe code is in init or in a tick. -/
def inRecipe (s : State) : Bool := c1Up s && decide (s.rcp.phase = .init ∨ s.rcp.phase = .tick)

/-- `STOP` (R380): fault code 7. -/
def execStop (s : State) : Host.Outcome State Fault Refusal := .next (if inRecipe s then rcpFaultFree 7 s else s)

/-- `RECIPE_FAULT` (R381), codes 1 to 4. -/
def execRecipeFault (code : Nat) (pc : BitVec 32) (s : State) : Host.Outcome State Fault Refusal :=
  .next (if inRecipe s && decide (1 ≤ code ∧ code ≤ 4) then rcpFault code pc s else s)

/-! ### Performance units -/

/-- `PERF_SET_CTL` (R274, R387): in force from the next dump boundary, USER_READ from the next recipe tick. -/
def runPerfSetCtl (a : List Word) (s : State) : Reply :=
  checked [rng 0 7 (arg a 0), need (decide (arg a 1 < 8)), rng 256 65535 (arg a 2), rng 1 1000 (arg a 3),
           need (decide (arg a 1 < 4 ∨ arg a 0 = 1))] s <|
    done (modPerf (coreOf (arg a 0)) (fun p =>
      { p with next := some ((argW a 1).getLsbD 0, (argW a 1).getLsbD 1, arg a 2, arg a 3)
               nextUser := if arg a 0 = 1 then some ((argW a 1).getLsbD 2) else none }) s)

/-- What a dump period has counted of the selected event before its selection: retired instructions as the read of
them stands, tags a free value (log entry 3); the other events are reported for the counter alone. -/
def seenBefore (code draw : Nat) (p : PerfCore) : Nat :=
  if code = 0x02 then p.aheadRet else if code = 0x11 then Config.freeValue draw else 0

/-- `PERF_SELECT` (R274, R384): the counter is cleared, and nothing that came before counts in it. -/
def runPerfSelect (a : List Word) (s : State) : Reply :=
  checked [rng 0 7 (arg a 0), rng 0 7 (arg a 1), need (decide (arg a 2 ≤ 0x11))] s <|
    let s := catchUp (coreOf (arg a 0)) s
    done (modPerf (coreOf (arg a 0)) (fun p =>
      { p with sel := vec fun k => if k.val = arg a 1 then arg a 2 else p.sel[k]
               ctr := vec fun k => if k.val = arg a 1 then 0 else p.ctr[k]
               ahead := vec fun k => if k.val = arg a 1 then seenBefore (arg a 2) s.free p else p.ahead[k] })
      { s with free := s.free + 1 })

/-- `PERF_READ` (R274): the counters as they stand. -/
def runPerfRead (a : List Word) (s : State) : Reply :=
  let c := coreOf (arg a 0)
  checked [rng 0 7 (arg a 0), rng 0 7 (arg a 1), rng 1 7 (arg a 2),
           if arg a 1 + arg a 2 ≤ 8 then none else some 0x22, if coreUp s c then none else some 0x40] s <|
    let s := catchUp c s
    doneWith (((s.perf[c].ctr.toList.drop (arg a 1)).take (arg a 2)).flatMap fun v => wordsOf 4 v.toNat) s

/-- A PERF setting of a powered-down cluster core wakes its island and stays TAKEN until it is up (R22, R250). -/
def onCore (op : Nat) (run : List Word → State → Reply) (via : Via) (args : List Word) (s : State) :
    Host.Outcome State Fault Refusal :=
  if accepts op via args s ∧ arg args 0 ≤ 7 ∧ !coreUp s (coreOf (arg args 0)) then
    .next (hold (op, via, args)
      (s.modSys fun y => { y with clWaking := y.clWaking ||| (1#4 <<< (arg args 0 - 4)) }))
  else hostCommand op run via args s

/-- `PERF_SET_CTL` (R387). -/
def execPerfSetCtl := onCore 0x0A01 runPerfSetCtl
/-- `PERF_SELECT` (R384). -/
def execPerfSelect := onCore 0x0A02 runPerfSelect
/-- `PERF_READ` (R274): it follows what is held for the same core (R245). -/
def execPerfRead (via : Via) (args : List Word) (s : State) : Host.Outcome State Fault Refusal :=
  if accepts 0x0A03 via args s ∧ 4 ≤ arg args 0 ∧ arg args 0 ≤ 7 ∧ behind (0x0A03, via, args) s then
    .next (hold (0x0A03, via, args) s)
  else hostCommand 0x0A03 runPerfRead via args s

/-- A tag record (R385): a compressed instruction, which does not end in two ones, occupies the lower half of its word. -/
def tagBytes (t : TagSeen) : List Byte :=
  let ins := if t.ins.toNat % 4 = 3 then t.ins.toNat else t.ins.toNat % 65536
  bytesOf 4 t.pc.toNat ++ bytesOf 4 ins ++ bytesOf 4 t.cycle
    ++ (tabulate 4 fun k => bytesOf 1 (min 255 (t.stages.getD k.val 0))).flatten

/-- The interval to the next tag (R385): drawn from 0.5 to 1.5 times the mean; the draw is a free value. -/
def tagGap (mean k : Nat) : Nat :=
  (mean + 1) / 2 + Config.freeValue k % (3 * mean / 2 - (mean + 1) / 2 + 1)

/-- The tags taken among `left` retired instructions (R385), the first of which comes after `gap` of them: those taken, the
interval that remains and the draws made. -/
def takeTags (mean : Nat) : List TagSeen → Nat → Nat → Nat → List TagSeen × Nat × Nat
  | [], left, gap, f => ([], gap - left, f)
  | t :: ts, left, gap, f =>
    if left < gap then ([], gap - left, f)
    else
      let r := takeTags mean ts (left - gap) (tagGap mean f) (f + 1)
      (t :: r.1, r.2)

/-- Bytes of a dump record (R386). -/
def dumpRecord (p : PerfCore) (cycles : Nat) (tags : List TagSeen) : List Byte :=
  let kept := tags.take 64
  let len := 80 + 16 * kept.length
  bytesOf 2 len ++ bytesOf 1 kept.length ++ bytesOf 1 (tags.length - 64) ++ bytesOf 4 p.dumpSeq ++ bytesOf 8 cycles
    ++ p.ctr.toList.flatMap (fun v => bytesOf 8 v.toNat) ++ kept.flatMap tagBytes

/-- Two stretches of a ring share a byte. -/
def overlaps (a la b lb : Nat) : Bool := decide (a < b + lb ∧ b < a + la)

/-- Append a dump record to the ring of 64 KiB (R386): one that does not fit before the end starts again at byte 16. -/
def pushDump (r : List Byte) (p : PerfCore) : PerfCore :=
  let wrap := decide (65536 < p.offset + r.length)
  let at' := if wrap then 16 else p.offset
  { p with
    ring := p.ring.filter (fun q => !overlaps q.1 q.2.length at' r.length) ++ [(at', r)]
    offset := at' + r.length, wraps := if wrap then p.wraps + 1 else p.wraps, dumpSeq := p.dumpSeq + 1 }

/-- What one event added up to a dump boundary (R384): its own count as the row gives it, or what the model counts itself. -/
def dumpCount (counts : List Nat) (spent : Spent) (tags : Nat) (p : PerfCore) (k : Fin 8) : Nat :=
  if p.sel[k] = 0 then 0
  else if p.sel[k] = 0x02 then spent.retired - p.ahead[k]
  else if p.sel[k] = 0x11 then tags - p.ahead[k]
  else if counted p.sel[k] then 0
  else counts.getD k.val 0 - p.ahead[k]

/-- Settings that wait for the dump boundary take effect (R387); tagging that begins draws its first interval (R385). -/
def dumpBoundary (f : Nat) (p : PerfCore) : PerfCore := match p.next with
  | some (en, tag, mean, period) =>
    { p with en := en, tag := tag, mean := mean, period := period, next := none
             tagIn := if tag && !p.tag then tagGap mean f else p.tagIn }
  | none => p

/-- `PERF_DUMP` (R384 to R387), which needs no core: the events counted since the last dump are added while EN is 1, the record
is appended with the tags taken, and settings that wait for this boundary take effect. `tags` are the instructions at the
tags, in order. -/
def execPerfDump (core : Fin 8) (counts : List Nat) (spent : Spent) (tags : List TagSeen) (s : State) :
    Host.Outcome State Fault Refusal :=
  if !s.powered || !coreUp s core then .next s else
  let p := s.perf[core]
  let (got, gap, f) := if p.tag then takeTags p.mean tags spent.retired p.tagIn s.free else ([], p.tagIn, s.free)
  .next (modPerf core (fun p =>
    let ctr := vec fun k => p.ctr[k] + BitVec.ofNat 64 (dumpCount counts spent got.length p k)
    let p : PerfCore := { (if p.en then { p with ctr := ctr } else p : PerfCore) with
      cycle := BitVec.ofNat 64 spent.cycles, instret := p.instret + BitVec.ofNat 64 (spent.retired - p.aheadRet)
      ahead := .replicate 8 0, aheadRet := 0, tagIn := gap }
    dumpBoundary f (pushDump (dumpRecord p spent.cycles got) p)) { s with free := f + 1 })

end Sys2Proof.Machine
end

