-- ==== Sys2Proof/Machine/SrcCmd.lean ====
section
/-! DEFINITION. The SRC commands (R261 to R263). -/

namespace Sys2Proof.Machine

/-- Whole volts (R261). -/
def volts (mv : Nat) : Option Nat := need (decide (mv % 1000 = 0))

/-- Effective qualification window: the configured window, narrowed by a contract in force (R48); mV. -/
def window (s : State) (x : Fin 4) : Int × Int :=
  let p := s.ports[x]
  let l := s.links[x]
  if l.inForce && !l.role then (max p.vMin (l.cwMin * 250), min p.vMax (l.cwMax * 250)) else (p.vMin, p.vMax)

/-- Effective input current limit, 10 mA: the lower of the port's limit in force (R43) and the contract's (R48). -/
def effLimit (s : State) (x : Fin 4) : Nat :=
  let l := s.links[x]
  if l.inForce && !l.role then min s.ports[x].limIn (l.ciLim * 5) else s.ports[x].limIn

/-- An intersection narrower than 50 V raises a priority-2 alert once, when it arises (R48, R440). -/
def checkNarrow (x : Fin 4) (s : State) : State :=
  let w := window s x
  let now := decide (w.2 - w.1 < 50000)
  let was := s.ports[x].narrow
  let s := s.modPort x fun p => { p with narrow := now }
  if now && !was then alert 2 4 8 x.val s.ports[x].iin s else s

/-- Words of a command with the port alone. -/
def wordsPort (a : List Word) : Option Nat := portArg a

/-- `SRC_ENABLE` (R36, R37, R450); port D stays DISABLED while it presents source (R296). During the 5 ms drain after
`SRC_DISABLE` the port enters IDLE while the drain runs on with the switches closed: the spec is silent there (DESIGN CHOICE,
log entry 50). -/
def runSrcEnable (a : List Word) (s : State) : Reply :=
  let x := portOf (arg a 0)
  checked [portArg a] s <| done (s.modPort x fun p =>
    { p with enabled := true
             state := if p.state = .disabled ∧ s.links[x].asSource = false then .idle else p.state })

/-- A port after `SRC_DISABLE` (R36, R38): DISABLED at once, while an allowance it has goes to zero over 5 ms before the
switches open (DEDUCED, log entry 50: R36 gives the state no delay). -/
def Port.drain (p : Port) : Port :=
  if p.state = .softstart ∨ p.state = .online then
    { p.disable with allow := p.allow, allowFrom := p.allow, allowTo := 0, allowMs := 0, stopping := true }
  else if p.stopping then { p.disable with
    allow := p.allow, allowFrom := p.allowFrom, allowTo := 0, allowMs := p.allowMs, stopping := true }
  else p.disable

/-- `SRC_DISABLE` (R36, R38, R450). -/
def runSrcDisable (a : List Word) (s : State) : Reply :=
  checked [portArg a] s <|
    done (changePort (portOf (arg a 0)) (fun p => { p.drain with enabled := false }) s)

/-- Words of `SRC_SET_WINDOW` (R35, R261). -/
def wordsWindow (a : List Word) : Option Nat :=
  first [portArg a, rng 250000 1000000 (arg2 a 1), volts (arg2 a 1), rng 250000 1000000 (arg2 a 3), volts (arg2 a 3)]

/-- `SRC_SET_WINDOW` (R35, R261). -/
def runSrcSetWindow (a : List Word) (s : State) : Reply :=
  let x := portOf (arg a 0)
  checked [wordsWindow a, if arg2 a 1 + 50000 ≤ arg2 a 3 then none else some 0x22,
           need (decide (arg2 a 3 + 20000 ≤ s.ports[x].ovLevel))] s <|
    done (checkNarrow x (s.modPort x fun p => { p with vMin := arg2 a 1, vMax := arg2 a 3 }))

/-- Words of `SRC_SET_LIMIT` (R43). -/
def wordsLimit (a : List Word) : Option Nat :=
  first [portArg a, rng 50 20000 (arg a 1), need (decide (arg a 1 % 10 = 0))]

/-- `SRC_SET_LIMIT` (R43): a limit raised while the port is ONLINE waits for the next arbiter period. -/
def runSrcSetLimit (a : List Word) (s : State) : Reply :=
  checked [wordsLimit a] s <| done (s.modPort (portOf (arg a 0)) fun p =>
    { p with iLim := arg a 1
             limIn := if p.state = .online ∧ p.limIn < arg a 1 then p.limIn else arg a 1 })

/-- Words of `SRC_SET_OV` (R41, R261): from V_max + 20 V to 1050 V. -/
def wordsOv (s : State) (a : List Word) : Option Nat :=
  first [portArg a, rng (s.ports[portOf (arg a 0)].vMax + 20000) 1050000 (arg2 a 1), volts (arg2 a 1)]

/-- `SRC_SET_OV` (R41). -/
def runSrcSetOv (a : List Word) (s : State) : Reply :=
  checked [wordsOv s a] s <| done (s.modPort (portOf (arg a 0)) fun p => { p with ovLevel := arg2 a 1 })

/-- Rank nibble of a port in ARG1 (R262). -/
def rankOf (a : List Word) (x : Nat) : Nat := field (argW a 1) (4 * x) 4

/-- A value in range or one that leaves the setting unchanged (R262). -/
def rngOr (unch lo hi v : Nat) : Option Nat := if v = unch then none else rng lo hi v

/-- Words of `SRC_SET_MODE` (R262). -/
def wordsMode (a : List Word) : Option Nat :=
  first ([rngOr 0xFFFF 0 3 (arg a 0)] ++ tabulate 4 (fun x => rng 0 4 (rankOf a x.val))
    ++ tabulate 4 (fun x => rng 0 255 (arg a (2 + x.val)))
    ++ tabulate 4 (fun x => rngOr 0xFFFFFFFF 0 41000 (arg2 a (6 + 2 * x.val)))
    ++ [rngOr 0xFFFFFFFF 1000 123000 (arg2 a 14)])

/-- Give a port a rank; the port that held it takes the rank given up (R47). -/
def swapRank (x : Fin 4) (r : Nat) (s : State) : State :=
  if r = 0 then s else
  let old := s.ports[x].rank
  s.mapPorts fun y p => if y = x then { p with rank := r } else if p.rank = r then { p with rank := old } else p

/-- Selection mode of a number. -/
def selOf : Nat → SelMode
  | 0 => .priority | 1 => .blend | 2 => .cap | _ => .contract

/-- `SRC_SET_MODE` (R45, R47, R262): rank nibbles in port order, each swapping; unchanged values keep the setting. A site cap
set here is no longer the fallback of R321. -/
def runSrcSetMode (a : List Word) (s : State) : Reply :=
  checked [wordsMode a] s <|
    let s := foldFin 4 (fun x s => swapRank x (rankOf a x.val) s) s
    let s := s.mapPorts fun x p =>
      { p with
        weight := if arg a (2 + x.val) = 0 then p.weight else arg a (2 + x.val)
        cap := if arg2 a (6 + 2 * x.val) = 0xFFFFFFFF then p.cap else arg2 a (6 + 2 * x.val) }
    let hub : Hub := { s.hub with
      mode := if arg a 0 = 0xFFFF then s.hub.mode else selOf (arg a 0)
      siteCap := if arg2 a 14 = 0xFFFFFFFF then s.hub.siteCap else arg2 a 14 }
    done { s with hub := hub, bp := { s.bp with fallback := s.bp.fallback && decide (arg2 a 14 = 0xFFFFFFFF) } }

/-- `SRC_CLEAR_LOCK` (R36, R261). The trips of the last 60 s stay counted: the spec does not say that the command empties
them (DESIGN CHOICE, log entry 51). -/
def runSrcClearLock (a : List Word) (s : State) : Reply :=
  let x := portOf (arg a 0)
  checked [portArg a, allow (decide (s.ports[x].state = .locked))] s <|
    done (s.modPort x fun p => { p with state := .idle })

/-- A lease snapshot by its sequence number (R187, R190). -/
def snapOf (s : State) (seq : Nat) : Option SnapRec := s.bbx.snaps.find? fun r => decide (r.seq = seq) && (r.okA || r.okB)

/-- `SRC_CAL_INPUT` (R50, R263): the trim is reference ÷ own integral − 1, at most ±3 %; it is stored in 0.001 % and
composes with the trim already applied, both rounded towards zero (DESIGN CHOICE, log entry 13). -/
def runSrcCalInput (a : List Word) (s : State) : Reply :=
  let x := portOf (arg a 0)
  match portArg a with
  | some c => deny c s
  | none =>
    match snapOf s (arg2 a 1), snapOf s (arg2 a 3) with
    | some r1, some r2 =>
      let e := (r2.ctrs.ports[x].eIn.val - r1.ctrs.ports[x].eIn.val).toInt
      let dt : Int := r2.time - r1.time
      if arg2 a 3 ≤ arg2 a 1 ∨ dt < 900000 ∨ e * 3600 < 5000 * dt then deny 0x21 s
      else
        let d : Int := arg4 a 5 - e
        let trim := Int.tdiv (d * 100000) e
        if d * 100 < -3 * e ∨ 3 * e < d * 100 then deny 0x22 s
        else toFlash (fun s => doneWith [BitVec.ofInt 16 trim] (s.modPort x fun p =>
          { p with cal := true, trim := p.trim + trim + Int.tdiv (p.trim * trim) 100000 })) s
    | _, _ => deny 0x22 s

/-- `SRC_ENABLE` (R450). -/
def execSrcEnable := hostCommand 0x0201 runSrcEnable
/-- `SRC_DISABLE` (R450). -/
def execSrcDisable := hostCommand 0x0202 runSrcDisable
/-- `SRC_SET_WINDOW` (R35). -/
def execSrcSetWindow := hostCommand 0x0203 runSrcSetWindow
/-- `SRC_SET_LIMIT` (R43). -/
def execSrcSetLimit := hostCommand 0x0204 runSrcSetLimit
/-- `SRC_SET_OV` (R41). -/
def execSrcSetOv := hostCommand 0x0205 runSrcSetOv
/-- `SRC_SET_MODE` (R262). -/
def execSrcSetMode := hostCommand 0x0206 runSrcSetMode
/-- `SRC_CLEAR_LOCK` (R36). -/
def execSrcClearLock := hostCommand 0x0207 runSrcClearLock
/-- `SRC_CAL_INPUT` (R263). -/
def execSrcCalInput := hostCommand 0x0208 runSrcCalInput

end Sys2Proof.Machine
end

