-- ==== Sys2Proof/Machine/SysCmd.lean ====
section
/-! DEFINITION. The SYS commands (R259) other than the profile commands. -/

namespace Sys2Proof.Machine

/-- `SYS_GET_INFO`: serial, variant, active version, active bank, ADDR (R259). -/
def runGetInfo (_ : List Word) (s : State) : Reply :=
  let b := s.fw.banks.toList.getD s.fw.active .reset
  doneWith (wordsOf 4 Config.serial.toNat ++ [word (if Config.isLC then 1 else 0)] ++ wordsOf 2 b.version.toNat
    ++ [word s.fw.active, word s.sys.addr.toNat]) s

/-- `SYS_RUN` (R26, R257). -/
def runRun (_ : List Word) (s : State) : Reply := done (enterRun 1 s)

/-- `SYS_STANDBY`: SLOT_BYP is asserted for every stand-in, then the 20 ms ramp of every stake begins (R18, R26, R257). -/
def runStandby (_ : List Word) (s : State) : Reply :=
  accepted ((bypStandIns s).modSys fun y => { y with rampStandby := true, rampMs := y.rampFrom })

/-- `SYS_SAFE` (R26). -/
def runSafe (_ : List Word) (s : State) : Reply := done (enterSafe 1 s)

/-- `SYS_LEAVE_SAFE`: refused with its cause bits while ESTOP# is asserted or a latched fault is set (R259). -/
def runLeaveSafe (_ : List Word) (s : State) : Reply :=
  if s.sys.estop || latchedFault s then
    .now 0x30 [word (bit s.sys.estop 0 + bit (latchedFault s) 1)] s
  else done (vselOccasion false (enterStandby 1 s))

/-- `SYS_ENTER_RECOVERY`: the change waits for its moment (R257). -/
def runEnterRecovery (_ : List Word) (s : State) : Reply := accepted (defer .recovery s)

/-- `SYS_RESET` (R257). -/
def runReset (_ : List Word) (s : State) : Reply := accepted (defer .reset s)

/-- `SYS_RESTART_CONTROL` (R257). -/
def runRestartControl (_ : List Word) (s : State) : Reply := accepted (defer .holdCmd s)

/-- AUX and the ports at or above their detection levels, AUX bit 0 and ports A to D bits 1 to 4 (R40, R259). -/
def present (s : State) : Nat :=
  bit (decide (16000 ≤ s.sys.auxV)) 0 + bit (decide (60000 ≤ s.ports[0].vin)) 1
    + bit (decide (60000 ≤ s.ports[1].vin)) 2 + bit (decide (60000 ≤ s.ports[2].vin)) 3
    + bit (decide (60000 ≤ s.ports[3].vin)) 4

/-- `SYS_ENTER_SHIP` (R40, R259, R359): the latch is set and a STATE record written. -/
def runEnterShip (_ : List Word) (s : State) : Reply :=
  if present s ≠ 0 then .now 0x30 [word (present s)] s
  else accepted (record 0x03 [word (modCode s.sys.st), 0, 1]
    ((defer .ship s).modSys fun y => { y with shipLatch := true }))

/-- `SYS_SET_STR` (R25, R259, R411): STR_EN is set, held de-asserted during the open period of a long press (R363).
Whether STR_FB matches within 200 ms is the contactor's answer, a free value; RES0 and the feedback follow it. -/
def runSetStr (a : List Word) (s : State) : Reply :=
  checked [rng 0 1 (arg a 0)] s <|
    let en := decide (arg a 0 = 1) && !s.sys.longPress
    let (k, s) := s.draw
    let ok := decide (Config.freeValue k % 2 = 1)
    doneWith [word (bit ok 0)] (s.modSys fun y =>
      { y with strEn := en, strFb := if ok then en else !en, fbMs := if ok then 0 else 200 })

/-- The carrier after a change of its own settings (R93, R94): it stays locked or on its way to SYNC_IN while that is
enabled and valid, and otherwise glides to its own frequency unless it is there. -/
def resync (y : Sys) : Sys :=
  if !y.syncDis && y.syncValid then (if y.syncSrc = 2 then y else { y with syncSrc := 1 })
  else if y.fsw = y.ownFsw then { y with syncSrc := 0 } else { y with syncSrc := 3 }

/-- Words of `SYS_SET_SYNC` (R259). -/
def wordsSync (a : List Word) : Option Nat :=
  first [rng 450 550 (arg a 0), need (decide (arg a 1 ≤ 1))]

/-- `SYS_SET_SYNC` (R94). -/
def runSetSync (a : List Word) (s : State) : Reply :=
  checked [wordsSync a] s <|
    done (s.modSys fun y => resync { y with ownFsw := arg a 0 * 100, syncDis := decide (arg a 1 = 1) })

/-- `SYS_SET_TIME` (R259). -/
def runSetTime (a : List Word) (s : State) : Reply :=
  done { s.modSys (fun y => { y with time := arg4 a 0, timeValid := true }) with
    mtr := { s.mtr with snapAt := some (nextSnap 0 (arg4 a 0)) } }

/-- `SYS_SET_VSEL` (R118): the setting is stored. -/
def runSetVsel (a : List Word) (s : State) : Reply :=
  checked [rng 0 1 (arg a 0)] s <|
    toFlash (fun s => done { s with vsel := { s.vsel with enabled := decide (arg a 0 = 1) } }) s

/-- The settings that `SYS_SAVE_CONFIG` stores (R256, R450). -/
def settingsOf (s : State) : StoredCfg :=
  { ports := vec fun x =>
      let p := s.ports[x]
      { enabled := p.enabled, vMin := p.vMin, vMax := p.vMax, ovLevel := p.ovLevel, iLim := p.iLim, rank := p.rank
        weight := p.weight, cap := p.cap }
    mode := s.hub.mode, siteCap := s.hub.siteCap, taps := vec fun n => s.taps[n].cfg
    lossCap := s.arb.lossCap, ownFsw := s.sys.ownFsw, syncDis := s.sys.syncDis, n := s.wdg.n }

/-- `SYS_SAVE_CONFIG` (R256). -/
def runSaveConfig (_ : List Word) (s : State) : Reply := toFlash (fun s => done { s with stored := settingsOf s }) s

/-- `SYS_GET_INFO` (R259). -/
def execSysGetInfo := hostCommand 0x0101 runGetInfo
/-- `SYS_RUN` (R26). -/
def execSysRun := hostCommand 0x0102 runRun
/-- `SYS_STANDBY` (R26). -/
def execSysStandby := hostCommand 0x0103 runStandby
/-- `SYS_SAFE` (R26). -/
def execSysSafe := hostCommand 0x0104 runSafe
/-- `SYS_LEAVE_SAFE` (R26, R259). -/
def execSysLeaveSafe := hostCommand 0x0105 runLeaveSafe
/-- `SYS_ENTER_RECOVERY` (R257). -/
def execSysEnterRecovery := hostCommand 0x0106 runEnterRecovery
/-- `SYS_RESET` (R257). -/
def execSysReset := hostCommand 0x0107 runReset
/-- `SYS_RESTART_CONTROL` (R257). -/
def execSysRestartControl := hostCommand 0x0108 runRestartControl
/-- `SYS_ENTER_SHIP` (R359). -/
def execSysEnterShip := hostCommand 0x0109 runEnterShip
/-- `SYS_SET_STR` (R25, R259). -/
def execSysSetStr := hostCommand 0x010A runSetStr
/-- `SYS_SET_SYNC` (R94). -/
def execSysSetSync := hostCommand 0x010B runSetSync
/-- `SYS_SET_TIME` (R259). -/
def execSysSetTime := hostCommand 0x010C runSetTime
/-- `SYS_SET_VSEL` (R118). -/
def execSysSetVsel := hostCommand 0x010E runSetVsel
/-- `SYS_SAVE_CONFIG` (R256). -/
def execSysSaveConfig := hostCommand 0x010F runSaveConfig

/-- `STANDBY_RAMP_END` (R26, R135): with the ramp of `SYS_STANDBY` running in RUN, the switches open and the module
enters STANDBY with CAUSE 0x1. -/
def execStandbyRampEnd (s : State) : Host.Outcome State Fault Refusal :=
  if s.sys.rampStandby && decide (s.sys.st = .run) then
    .next (enterStandby 1 ((leaveRun s).mapTaps fun _ t => { t with stake := t.stake.halt }))
  else .next s

end Sys2Proof.Machine
end

