-- ==== Sys2Proof/Machine/Pour.lean ====
section
/-! DEFINITION. Pours and VSEL profiles: the pourable commands as entries, staging, validation, the TICK line, the commit,
and the profile commands (R118 to R120, R195 to R210, R260). -/

namespace Sys2Proof.Machine

/-! ### Entries -/

/-- Step 2 of R254 for a pourable command, as the command itself would check its words now (R197): the setting in force at the add bounds
`SRC_SET_OV` from below and `ARB_SET_MIN` from above (DESIGN CHOICE, log entry 13). -/
def entryWords (op : Nat) (a : List Word) (s : State) : Option Nat := match op with
  | 0x010B => wordsSync a
  | 0x0201 | 0x0202 => wordsPort a
  | 0x0203 => wordsWindow a
  | 0x0204 => wordsLimit a
  | 0x0205 => wordsOv s a
  | 0x0206 => wordsMode a
  | 0x0301 => wordsDescriptor a
  | 0x0303 => wordsSupport a
  | 0x0304 => wordsLimits a
  | 0x0305 | 0x0306 | 0x0311 => wordsTap a
  | 0x030B => wordsRamp a
  | 0x030C => wordsKeep a
  | 0x030D => wordsStandin a
  | 0x030F => wordsTrack a
  | 0x0310 => wordsCoeff a
  | 0x0312 => wordsSchedule a
  | 0x0313 => wordsShed a
  | 0x0314 => wordsGang a
  | 0x0401 => wordsMin s a
  | 0x0402 => wordsLossCap a
  | _ => some 0x21

/-- A pourable command as it would act (R198, R207). A poured `TAP_SET_DESCRIPTOR` acts at once, its flash write with it, of which the model
draws no failure (DESIGN CHOICE, log entry 21). -/
def entryRun (op : Nat) (a : List Word) (s : State) : Reply := match op with
  | 0x010B => runSetSync a s
  | 0x0201 => runSrcEnable a s
  | 0x0202 => runSrcDisable a s
  | 0x0203 => runSrcSetWindow a s
  | 0x0204 => runSrcSetLimit a s
  | 0x0205 => runSrcSetOv a s
  | 0x0206 => runSrcSetMode a s
  | 0x0301 => applyDescriptor a s
  | 0x0303 => runSetSupport a s
  | 0x0304 => runSetLimits a s
  | 0x0305 => runStop a s
  | 0x0306 => runResume a s
  | 0x030B => runSetRamp a s
  | 0x030C => runSetKeep a s
  | 0x030D => runSetStandin a s
  | 0x030F => runSetTrack a s
  | 0x0310 => runSetCoeff a s
  | 0x0311 => runLoadDefaultCoeff a s
  | 0x0312 => runSetSchedule a s
  | 0x0313 => runSetShed a s
  | 0x0314 => runSetGang a s
  | 0x0401 => runSetMin a s
  | 0x0402 => runSetLossCap a s
  | _ => deny 0x21 s

/-- The checks of `POUR_ADD` on an entry (R197): opcode, pourable, count, words. -/
def entryCheck (op c : Nat) (a : List Word) (s : State) : Option Nat := match cmdInfo op with
  | none => some 0x20
  | some i => first [need i.pour, rng 0 27 c, need (decide (c = i.argc)), entryWords op a s]

/-- Run one entry under the module state in force (R199): its return code and the state it leaves. -/
def runEntry (e : PourEntry) (s : State) : Nat × State :=
  match gate e.op.toNat s with
  | some c => (c, s)
  | none => match entryRun e.op.toNat e.args s with
    | .now c _ t => (c, t)
    | .later t => (1, t)

/-- A return code of success. -/
def okCode (c : Nat) : Bool := decide (c ≤ 1)

/-- A state with the settings of another (R199): module, tap and port states stay as they are. -/
def withSettings (s t : State) : State :=
  { t with
    sys := s.sys
    taps := vec fun n => { s.taps[n] with cfg := t.taps[n].cfg, desc := t.taps[n].desc }
    ports := vec fun x =>
      let q := t.ports[x]
      { s.ports[x] with
        enabled := q.enabled, vMin := q.vMin, vMax := q.vMax, ovLevel := q.ovLevel, iLim := q.iLim, rank := q.rank
        weight := q.weight, cap := q.cap } }

/-- Validate the entries in index order (R199), each against the module and tap states at validation and the settings
that the entries before it leave: the index and code of the first that fails. -/
def validate : Nat → List PourEntry → State → Option (Nat × Nat)
  | _, [], _ => none
  | i, e :: es, s =>
    let r := runEntry e s
    if okCode r.1 then validate (i + 1) es (withSettings s r.2) else some (i, r.1)

/-- Outcomes after validation (R210): valid before the failing entry, failed at it, staged after it. -/
def markValid (fail : Option (Nat × Nat)) (es : List PourEntry) : List PourEntry :=
  es.mapIdx fun i e => match fail with
    | none => { e with outcome := 2 }
    | some (k, c) => if i < k then { e with outcome := 2 } else if i = k then { e with outcome := 5, code := c } else e

/-- The tap a TAP entry addresses. -/
def entryTap (e : PourEntry) : Option (Fin 32) :=
  if e.op.toNat / 256 = 3 then some (tapOf (arg e.args 0)) else none

/-- Apply one entry at the commit instant (R207): skipped without effect, with POUR_SKIP, when it no longer fits. -/
def applyEntry (e : PourEntry) (s : State) : PourEntry × State :=
  let r := runEntry e s
  if okCode r.1 then
    ({ e with outcome := 3 }, match entryTap e with
      | some n => wakeFor n r.2
      | none => r.2)
  else ({ e with outcome := 4 }, match entryTap e with
      | some n => s.modTap n fun t => { t with pourSkip := true }
      | none => s)

/-- Apply every entry in index order. -/
def applyAll : List PourEntry → State → List PourEntry × State
  | [], s => ([], s)
  | e :: es, s =>
    let r := applyEntry e s
    let q := applyAll es r.2
    (r.1 :: q.1, q.2)

/-! ### Commit -/

/-- What a committed profile does besides its entries (R120): run action, contactor action, APPLIED. -/
def profileCommit (k : Nat) (s : State) : State :=
  let p := (s.vsel.profiles.toList.getD k .reset)
  let s := { s with vsel := { s.vsel with
    applied := k, noneYet := false, tries := 0, staged := none
    applying := if s.vsel.applying = some k then none else s.vsel.applying } }
  let s := if p.valid && p.run && decide (s.sys.st = .standby) then enterRun 0xA s else s
  if p.valid && !s.sys.longPress then
    match p.str with
    | 1 => s.modSys (setStr true)
    | 2 => s.modSys (setStr false)
    | _ => s
  else s

/-- An applied entry sets the selection mode (R47). -/
def setsMode (e : PourEntry) : Bool := decide (e.op = 0x0206 ∧ e.outcome = 3 ∧ arg e.args 0 ≠ 0xFFFF)

/-- The commit instant of a RELEASED pour (R47, R206, R207): tap state requests become events of the next sample, and a
selection mode that an entry has set is in force. -/
def commit (s : State) : State :=
  let profile := s.vsel.staged
  -- the pour is over before its entries act, so that R200 does not stand in their way
  let es := s.pour.entries
  let r := applyAll es ((s.mapTaps fun _ t => { t with acted := 0 }).modPour fun p => { p with state := .opened })
  let s := pourEnd 0 false
    { r.2 with hub := { r.2.hub with modeIn := if r.1.any setsMode then r.2.hub.mode else r.2.hub.modeIn } }
  let s := s.modPour fun p =>
    { p with entries := r.1, commits := (p.commits + 1) % 65536
             skips := p.skips || r.1.any fun e => decide (e.outcome = 4) }
  match profile with
  | some k => profileCommit k s
  | none => s

/-- The end of the 500 ns after a rise (R201, R205): a RELEASED pour commits if the low period was known and its length
fits, and a pull that waited begins. -/
def edgeEnd (fits : Bool) (s : State) : State :=
  let known := s.pour.lowKnown
  let s := s.modPour fun p => ({ p with rise := false, low10us := 0, lowKnown := true, badLow := false } : Pour).settle
  if known && fits && decide (s.pour.state = .released) then commit s else s

/-- The low time of a line that has risen allows a commit edge (R201): it counts at most 50 ms, and no report of the rise has
shown it too short or too long. A release takes longer than 1 µs to reach the module (DEDUCED, log entry 60). -/
def lowFits (p : Pour) : Bool := decide (p.low10us ≤ 5000) && !p.badLow

/-- HOLD within 500 ns of a rise (R205): a RELEASED pour commits before HOLD takes effect. -/
def goHold (cause : Nat) (s : State) : State :=
  enterHold cause (if s.pour.rise && s.pour.lowKnown && lowFits s.pour && decide (s.pour.state = .released) then commit s
    else s)

/-! ### POUR commands -/

/-- `POUR_OPEN` (R196). -/
def runPourOpen (a : List Word) (s : State) : Reply :=
  checked [need (decide (arg a 0 ≠ 0)), if s.pour.state = .idle then none else some 0x10] s <|
    done (s.modPour fun p =>
      { p with state := .opened, id := argW a 0, entries := [], fail := 255, profile := false })

/-- The identifier and state checks of the POUR commands (R197, R270): with no pour open there is none to compare. -/
def pourIs (s : State) (id : Word) (ok : PourState → Bool) : Option Nat :=
  if s.pour.state = .idle then some 0x30
  else first [need (decide (s.pour.id = id)), allow (ok s.pour.state)]

/-- `POUR_ADD` (R197). -/
def runPourAdd (a : List Word) (s : State) : Reply :=
  let c := arg a 2
  let args := tabulate 27 (fun k => argW a (3 + k.val)) |>.take c
  checked [entryCheck (arg a 1) c args s, pourIs s (argW a 0) (fun st => decide (st = .opened)),
           if s.pour.entries.length < 64 then none else some 0x22] s <|
    doneWith [word s.pour.entries.length]
      (s.modPour fun p => { p with entries := p.entries ++ [{ op := argW a 1, args := args }] })

/-- `POUR_PREPARE` (R199): an invalid entry ends the pour without any pull; otherwise the pour validates until its
pull begins, and the command waits for it. -/
def runPourPrepare (via : Via) (a : List Word) (s : State) : Reply :=
  checked [pourIs s (argW a 0) (fun st => decide (st = .opened))] s <|
    let s := s.modPour fun p => { p with state := .validating }
    let bad := validate 0 s.pour.entries s
    let s := s.modPour fun p => { p with entries := markValid bad p.entries }
    match bad with
    | some (k, c) => .now 0x50 [word k, word c] (pourEnd 0x50 false (s.modPour fun p => { p with fail := k }))
    | none => .later (s.modPour fun p => { p with prepVia := some via })

/-- An abort acts: OPEN or PREPARED, or RELEASED while the line is still low (R203). -/
def abortable (p : Pour) : Bool := match p.state with
  | .opened | .prepared => true
  | .released => !p.tick
  | _ => false

/-- `POUR_ABORT` (R203, R270). ARG0 0x0000 matches a VSEL profile in progress, whose identifier it is, and aborts it: R202 bars
0x0000 through the register alone (DESIGN CHOICE, log entry 69). -/
def runPourAbort (a : List Word) (s : State) : Reply :=
  checked [pourIs s (argW a 0) (fun _ => abortable s.pour)] s <| done (pourAbort s)

/-! ### Profile commands -/

/-- Words of ARG0 of `SYS_SET_PROFILE` (R260). -/
def wordsProfile (a : List Word) : Option Nat :=
  first [rng 0 3 (arg a 0 / 256), need (decide (field (argW a 0) 3 5 = 0))]

/-- The open working copy of the profile ARG0 names. -/
def workOf (a : List Word) (s : State) : Option Profile := match s.vsel.work with
  | some (k, p) => if k = field (argW a 0) 0 3 then some p else none
  | none => none

/-- Operation 0, Begin (R260). -/
def runProfileBegin (a : List Word) (s : State) : Reply :=
  checked [wordsProfile a, rng 0 1 (field (argW a 1) 0 2), rng 0 2 (field (argW a 1) 2 2),
           need (decide (field (argW a 1) 4 12 = 0))] s <|
    done { s with vsel := { s.vsel with
      work := some (field (argW a 0) 0 3,
        { run := decide (field (argW a 1) 0 2 = 1), str := field (argW a 1) 2 2 }) } }

/-- Operation 1, Add (R260). -/
def runProfileAdd (a : List Word) (s : State) : Reply :=
  let c := arg a 2
  let args := tabulate 27 (fun k => argW a (3 + k.val)) |>.take c
  checked [wordsProfile a, entryCheck (arg a 1) c args s] s <|
    match workOf a s with
    | none => deny 0x30 s
    | some p =>
      if 64 ≤ p.entries.length then deny 0x22 s
      else doneWith [word p.entries.length] { s with vsel := { s.vsel with
        work := some (field (argW a 0) 0 3, { p with entries := p.entries ++ [{ op := argW a 1, args := args }] }) } }

/-- A profile stored in flash. -/
def storeProfile (k : Nat) (p : Profile) (s : State) : State :=
  { s with vsel := { s.vsel with profiles := vec fun i => if i.val = k then p else s.vsel.profiles[i] } }

/-- Operation 2, Store (R260): the working copy closes with it (DESIGN CHOICE, log entry 19). -/
def runProfileStore (a : List Word) (s : State) : Reply :=
  checked [wordsProfile a] s <|
    match workOf a s with
    | none => deny 0x30 s
    | some p => toFlash (fun s =>
        let s := storeProfile (field (argW a 0) 0 3) { p with valid := true } s
        done { s with vsel := { s.vsel with work := none } }) s

/-- Operation 3, Clear (R260). -/
def runProfileClear (a : List Word) (s : State) : Reply :=
  checked [wordsProfile a] s <| toFlash (fun s => done (storeProfile (field (argW a 0) 0 3) .reset s)) s

/-- `SYS_SET_PROFILE` by its operation field (R260). -/
def runSetProfile (a : List Word) (s : State) : Reply := match arg a 0 / 256 with
  | 0 => runProfileBegin a s
  | 1 => runProfileAdd a s
  | 2 => runProfileStore a s
  | 3 => runProfileClear a s
  | _ => deny 0x22 s

/-- Argument words of a row that stands for one operation of ARG0 (R260); an operation beyond those of the rows stands in the
words, and is out of range. -/
def withOp (k : Nat) (a : List Word) : List Word :=
  if 4 ≤ arg a 0 / 256 then a else word (k * 256 + arg a 0 % 256) :: a.drop 1

/-- `POUR_OPEN` (R196). -/
def execPourOpen := hostCommand 0x0601 runPourOpen
/-- `POUR_ADD` (R197). -/
def execPourAdd := hostCommand 0x0602 runPourAdd
/-- `POUR_PREPARE` (R199). -/
def execPourPrepare (via : Via) := hostCommand 0x0603 (runPourPrepare via) via
/-- `POUR_ABORT` (R203). -/
def execPourAbort := hostCommand 0x0604 runPourAbort
/-- `SYS_SET_PROFILE`, Begin (R260). -/
def execSysSetProfileBegin (via : Via) (a : List Word) := hostCommand 0x010D runProfileBegin via (withOp 0 a)
/-- `SYS_SET_PROFILE`, Add (R260). -/
def execSysSetProfileAdd (via : Via) (a : List Word) := hostCommand 0x010D runProfileAdd via (withOp 1 a)
/-- `SYS_SET_PROFILE`, Store (R260). -/
def execSysSetProfileStore (via : Via) (a : List Word) := hostCommand 0x010D runProfileStore via (withOp 2 a)
/-- `SYS_SET_PROFILE`, Clear (R260). -/
def execSysSetProfileClear (via : Via) (a : List Word) := hostCommand 0x010D runProfileClear via (withOp 3 a)

/-! ### Events of the pour and of TICK -/

/-- The pull of a valid pour begins (R199, R205): the 500 ns after any rise are over. -/
def Pour.prepare (p : Pour) : Pour :=
  ({ p with
     state := .prepared, pull := true, prepVia := none, rise := false
     low10us := if p.tick then 0 else p.low10us, lowKnown := p.tick || p.lowKnown } : Pour).settle

/-- This module releases TICK (R202, R209). -/
def Pour.release (p : Pour) : Pour := ({ p with state := .released, pull := false } : Pour).settle

/-- `POUR_PREPARED` (R199, R205, R206, R209): the pull begins and `POUR_PREPARE` returns DONE; a profile, prepared only
while TICK is high, is released at once. -/
def execPourPrepared (s : State) : Host.Outcome State Fault Refusal :=
  .next (if s.pour.state ≠ .validating then s
    else if s.pour.profile then if s.pour.tick then s.modPour fun p => p.prepare.release else s
    else answerOpt s.pour.prepVia 0 [] (s.modPour Pour.prepare))

/-- A write of RELEASE (R202): PREPARED with the matching identifier becomes RELEASED, otherwise IGNORED is set. -/
def ctlRelease (id : Option Word) (s : State) : State :=
  if s.pour.state = .prepared ∧ id = some s.pour.id ∧ id ≠ some 0 then s.modPour Pour.release
  else s.modPour fun p => { p with ignored := true }

/-- A write of ABORT (R202, R203). -/
def ctlAbort (id : Option Word) (s : State) : State :=
  if abortable s.pour ∧ id = some s.pour.id ∧ id ≠ some 0 then pourAbort s
  else s.modPour fun p => { p with ignored := true }

/-- `POUR_CTL_RELEASE` (R202). -/
def execPourCtlRelease (id : Option Word) (s : State) : Host.Outcome State Fault Refusal :=
  .next (if s.powered then ctlRelease id s else s)

/-- `POUR_CTL_ABORT` (R202, R203). -/
def execPourCtlAbort (id : Option Word) (s : State) : Host.Outcome State Fault Refusal :=
  .next (if s.powered then ctlAbort id s else s)

/-- `TICK_FALL` (R201 to R203): another participant pulls the line. If that takes it low, the low time counts from here, and a
rise it cuts short is no commit edge; a line that this module holds already goes on, and stays low when this module
releases it. -/
def execTickFall (s : State) : Host.Outcome State Fault Refusal :=
  .next (if s.powered then
    s.modPour fun p => ({ p with
      tickOther := true, low10us := if p.tick then 0 else p.low10us, lowKnown := p.tick || p.lowKnown } : Pour).settle
    else s)

/-- `COMMIT_EDGE` (R201, R205, R206, R403): every other participant has released the line after its low time.
With this module pulling it stays low. The rise alone starts the 500 ns; once it has stood for them, a RELEASED pour
commits if the low period was known and lasted 1 µs to 50 ms. -/
def execCommitEdge (edge : TickEdge) (s : State) : Host.Outcome State Fault Refusal :=
  .next (if !s.powered then s else
    let fits := decide (1000 ≤ edge.lowNs ∧ edge.lowNs ≤ 50000000)
    let s := s.modPour fun p =>
      let p := ({ p with tickOther := false } : Pour).settle
      { p with badLow := p.rise && !fits }
    if s.pour.rise && edge.stood then edgeEnd fits s else s)

/-- A profile pour timed out or failed (R120, R209). -/
def profileFailed (s : State) : State :=
  alert 3 9 7 0xFF 0 { s with vsel := { s.vsel with fail := true, applying := none, staged := none, tries := 0 } }

/-- `POUR_TIMEOUT` (R203, R209): the low time reaches 50 ms with TICK low. -/
def execPourTimeout (s : State) : Host.Outcome State Fault Refusal :=
  if pourBusy s && !s.pour.tick then
    let profile := s.pour.profile
    let s := pourEnd 0x51 true s
    if profile then
      let tries := s.vsel.tries + 1
      if 5 ≤ tries then .next (profileFailed s) else .next { s with vsel := { s.vsel with tries := tries } }
    else .next s
  else .next s

/-- `VETO_END` (R203). -/
def execVetoEnd (s : State) : Host.Outcome State Fault Refusal :=
  .next (if s.pour.veto then s.modPour fun p => ({ p with veto := false } : Pour).settle else s)

/-- `HOLD_PULL_END` (R204): HOLD is over and 60 ms have passed. -/
def execHoldPullEnd (s : State) : Host.Outcome State Fault Refusal :=
  .next (if s.pour.holdPull && decide (s.sys.st ≠ .hold) then
    s.modPour fun p => ({ p with holdPull := false } : Pour).settle else s)

/-! ### VSEL -/

/-- `VSEL_COUNT` (R119): a newly counted value falls due at once in STANDBY and RUN and waits in every other state. A
value that returns to the applied one while a change waits leaves PENDING until the next occasion (DESIGN CHOICE, log
entry 61: R119 says nothing of it). -/
def execVselCount (v : Fin 8) (s : State) : Host.Outcome State Fault Refusal :=
  if !s.powered || decide (s.vsel.pins = v.val) then .next s else
  let s := { s with vsel := { s.vsel with pins := v.val } }
  if !s.vsel.enabled then .next s
  else if s.sys.st = .standby ∨ s.sys.st = .run then
    .next { s with vsel := { s.vsel with applying := some v.val, pending := false, tries := 0 } }
  else .next { s with vsel := { s.vsel with pending := true } }

/-- Stage a profile as pour 0x0000 and validate it (R120, R209); a pour in progress ends with POUR_ABORTED. -/
def stageProfile (k : Nat) (s : State) : State :=
  let s := pourAbort s
  let p := s.vsel.profiles.toList.getD k .reset
  let s := s.modPour fun q =>
    { q with state := .validating, id := 0, fail := 255, profile := true
             entries := if p.valid then p.entries.map fun e => { e with outcome := 1 } else [] }
  let s := { s with vsel := { s.vsel with staged := some k } }
  let bad := validate 0 s.pour.entries s
  let s := s.modPour fun q => { q with entries := markValid bad q.entries }
  match bad with
  | some (i, _) => profileFailed (pourEnd 0x50 false (s.modPour fun q => { q with fail := i }))
  | none => s

/-- A profile waits for its application in STANDBY or RUN. -/
def profileDue (s : State) : Bool :=
  decide (s.sys.st = .standby ∨ s.sys.st = .run) && s.vsel.applying.isSome
    && decide (s.vsel.staged ≠ s.vsel.applying)

/-- `PROFILE_APPLY` (R120): the profile that fell due is staged and validated. -/
def execProfileApply (s : State) : Host.Outcome State Fault Refusal :=
  match s.vsel.applying with
  | some k => .next (if profileDue s && decide (s.vsel.tries = 0) then stageProfile k s else s)
  | none => .next s

/-- `PROFILE_RETRY` (R209): after a timeout the profile is staged again. -/
def execProfileRetry (s : State) : Host.Outcome State Fault Refusal :=
  match s.vsel.applying with
  | some k => .next (if profileDue s && decide (s.vsel.tries ≠ 0) then stageProfile k s else s)
  | none => .next s

end Sys2Proof.Machine
end

