-- ==== Sys2Proof/Machine/Records.lean ====
section
/-! DEFINITION. The black box as it reads: words of a record, records held in the four regions, the register window
(R338 to R349). -/

namespace Sys2Proof.Machine

/-- Words of a record (R339): header of eight words, payload, CRC-32 of every earlier word. -/
def recWords (type : Nat) (timeValid inHold carried flushed : Bool) (seq time : Nat) (payload : List Word) : List Word :=
  let body := [word (payload.length + 10), word (type + bit timeValid 8 + bit inHold 9 + bit carried 10 + bit flushed 11)]
    ++ wordsOf 2 seq ++ wordsOf 4 time ++ payload
  body ++ wordsOf 2 (crc32 (body.flatMap fun w => bytesOf 2 w.toNat)).toNat

/-- Words of a counter (R340). -/
def ctrWords (c : Ctr) : List Word := wordsOf 4 c.val.toNat
/-- Words of a counter with its residue. -/
def ctrResWords (c : Ctr) : List Word := ctrWords c ++ wordsOf 2 c.res

/-- The seven counters of a tap in the order of R341. -/
def tapCtrList (c : TapCtrs) : List Ctr := [c.eStake, c.eBlkIn, c.eBlkOut, c.qBlkIn, c.qBlkOut, c.sfSup, c.sfCon]

/-- Every counter of a set (R340): taps, ports, totals, tie. -/
def allCtrs (c : Counters) : List Ctr :=
  c.taps.toList.flatMap tapCtrList ++ c.ports.toList.flatMap (fun p => [p.eIn, p.qIn])
    ++ [c.sfSupTotal, c.sfConTotal, c.eString, c.tieE]

/-- Payload of a SNAPSHOT record (R341), offsets 16 to 2235 of its layout. -/
def snapPayload (r : SnapRec) : List Word :=
  wordsOf 2 r.seq ++ [word r.modState, 0]
    ++ (tabulate 32 fun n =>
        let b := r.blocks.getD n.val (0, 0, 0)
        wordsOf 4 b.1.toNat ++ [word (b.2.1 + 256 * b.2.2)] ++ (tapCtrList r.ctrs.taps[n]).flatMap ctrWords).flatten
    ++ (tabulate 4 fun x => ctrWords r.ctrs.ports[x].eIn ++ ctrWords r.ctrs.ports[x].qIn).flatten
    ++ ctrWords r.ctrs.sfSupTotal ++ ctrWords r.ctrs.sfConTotal ++ ctrWords r.ctrs.eString ++ List.replicate 6 0

/-- Payload of a HISTORY record (R340): 64 bytes with header and CRC. -/
def histPayload (h : HistRec) : List Word :=
  let (ri, ro, ocv) := h.cup.getD (0, 0, 0)
  [word (h.tap + bit h.void 8 + bit h.cap.isSome 9 + bit h.cup.isSome 10)] ++ wordsOf 4 h.serial.toNat
    ++ [word (h.cap.getD 0), word ri, word ro] ++ wordsOf 2 ocv ++ wordsOf 4 h.cupTime ++ wordsOf 4 h.capTime
    ++ List.replicate 4 0

/-- One record as it is held: sequence number, type, words, and whether copy A and copy B pass their CRC. -/
structure Held where
  /-- Record sequence number. -/
  seq : Nat
  /-- Type. -/
  type : Nat
  /-- Words. -/
  words : List Word
  /-- Copy A passes. -/
  okA : Bool
  /-- Copy B passes. -/
  okB : Bool
deriving DecidableEq, Repr

/-- Words of an event record. -/
def bbxWords (r : BbxRec) : List Word := recWords r.type r.timeValid r.inHold r.carried r.flushed r.seq r.time r.payload

/-- Words of a history record. -/
def histWords (h : HistRec) : List Word :=
  recWords 0x07 h.timeValid h.inHold h.carried h.flushed h.seq h.time (histPayload h)

/-- Words of a snapshot record. -/
def snapWords (r : SnapRec) : List Word :=
  recWords 0x06 r.timeValid r.inHold false r.flushed r.bbxSeq r.time (snapPayload r)

/-- Words of a COUNTERS record. -/
def ctrRecWords (r : CtrRec) : List Word :=
  recWords 0x05 r.timeValid r.inHold false r.flushed r.seq r.time
    ((allCtrs r.ctrs).flatMap ctrResWords ++ wordsOf 2 r.lastSnap)

/-- A record as it is held (R339, R347). -/
def heldOf : BbxItem → Held
  | .event r => { seq := r.seq, type := r.type, words := bbxWords r, okA := r.okA, okB := r.okB }
  | .hist h => { seq := h.seq, type := 0x07, words := histWords h, okA := h.okA, okB := h.okB }
  | .snap r => { seq := r.bbxSeq, type := 0x06, words := snapWords r, okA := r.okA, okB := r.okB }
  | .ctr r => { seq := r.seq, type := 0x05, words := ctrRecWords r, okA := r.okA, okB := r.okB }

/-- Type of a record (R340). -/
def BbxItem.type : BbxItem → Nat
  | .event r => r.type
  | .hist _ => 0x07
  | .snap _ => 0x06
  | .ctr _ => 0x05

/-- A record with what its copies hold of it. -/
def BbxItem.copies (okA okB : Bool) (spoil : Nat) : BbxItem → BbxItem
  | .event r => .event { r with okA := okA, okB := okB, spoil := r.spoil + spoil }
  | .hist h => .hist { h with okA := okA, okB := okB, spoil := h.spoil + spoil }
  | .snap r => .snap { r with okA := okA, okB := okB, spoil := r.spoil + spoil }
  | .ctr r => .ctr { r with okA := okA, okB := okB, spoil := r.spoil + spoil }

/-- A record written by the flush (R345). -/
def BbxItem.flushed : BbxItem → BbxItem
  | .event r => .event { r with flushed := true }
  | .hist h => .hist { h with flushed := true }
  | .snap r => .snap { r with flushed := true }
  | .ctr r => .ctr { r with flushed := true }

/-- Every record held, region by region (R338). -/
def heldRecs (b : Bbx) : List Held :=
  (b.ring.map fun r => heldOf (.event r)) ++ (b.hist.map fun h => heldOf (.hist h))
    ++ (b.snaps.map fun r => heldOf (.snap r)) ++ (b.flush.map fun r => heldOf (.ctr r))

/-- Sequence numbers of the records held. -/
def heldSeqs (b : Bbx) : List Nat :=
  b.ring.map (·.seq) ++ b.hist.map (·.seq) ++ b.snaps.map (·.bbxSeq) ++ b.flush.map (·.seq)

/-- A record held. -/
def heldRec (b : Bbx) (seq : Nat) : Option Held := (heldRecs b).find? fun r => r.seq = seq

/-- Newest sequence number held, 0 with none (R349). -/
def newest (b : Bbx) : Nat := (heldSeqs b).foldl max 0
/-- Oldest sequence number held, 0 with none. -/
def oldest (b : Bbx) : Nat := match heldSeqs b with
  | [] => 0
  | q :: qs => qs.foldl min q

/-- Words an event record takes, with the locations its mismatches took: a location skipped in one copy is skipped in both
(DESIGN CHOICE, log entry 70). -/
def eventCost (r : BbxRec) : Nat := (r.payload.length + 10) * (1 + r.spoil)
/-- Words of the event ring in use. -/
def ringWords (b : Bbx) : Nat := (b.ring.map eventCost).sum
/-- Ring fill in 0.1 % (R349). -/
def ringFill (b : Bbx) : Nat := ringWords b * 1000 / Config.eventRingWords

/-- Drop the oldest records until a region of a capacity holds the rest (R338). -/
def fit {α : Type} (cost : α → Nat) (cap : Nat) : Nat → List α → List α
  | _, [] => []
  | total, r :: rs => if total ≤ cap then r :: rs else fit cost cap (total - cost r) rs

/-- Append a record to the event ring; a POWER_LOSS record that a copy holds shows a completed flush (R345, R349). -/
def addRing (r : BbxRec) (b : Bbx) : Bbx :=
  { b with ring := fit eventCost Config.eventRingWords (ringWords b + eventCost r) (b.ring ++ [r])
           lossDone := b.lossDone || (decide (r.type = 2) && (r.okA || r.okB)) }

/-- Slots of a ring of slots in use. -/
def slotsOf (spoils : List Nat) : Nat := (spoils.map (· + 1)).sum

/-- Slots of the history ring a record takes. -/
def histCost (h : HistRec) : Nat := h.spoil + 1

/-- Some later record of `q` is of the same tap. -/
def superseded (h : HistRec) (q : List HistRec) : Bool := q.any fun r => decide (r.tap = h.tap)

/-- The oldest record that writing `h` would overwrite although it is the latest of its tap (R343), with the slots the ring
would take; a carried-forward copy stands for its own original. -/
def latestLost (h : HistRec) : Nat → List HistRec → Option HistRec
  | _, [] => none
  | total, r :: rs =>
    if total ≤ Config.histSlots then none
    else if superseded r rs || (h.carried && decide (r.tap = h.tap)) then latestLost h (total - histCost r) rs
    else some r

/-- Slots the history ring takes with a further record. -/
def histTotal (h : HistRec) (b : Bbx) : Nat := (b.hist.map histCost).sum + histCost h

/-- The copy that R343 appends before `h` is written: a new sequence number, carried forward, written as any record. -/
def carriedCopy (h : HistRec) (b : Bbx) : Option HistRec :=
  (latestLost h (histTotal h b) b.hist).map fun r =>
    { r with seq := b.nextSeq, carried := true, flushed := h.flushed, spoil := 0, okA := false, okB := false }

/-- The controller turns to the front of its queue (R343): a history record lets the copy go first that it would lose. -/
def carryOver (b : Bbx) : Bbx := match b.queue with
  | .hist h :: q => (match carriedCopy h b with
    | none => b
    | some c => { b with nextSeq := b.nextSeq + 1, queue := .hist c :: .hist h :: q })
  | _ => b

/-- Append a record to the history ring (R338). -/
def addHistory (h : HistRec) (b : Bbx) : Bbx :=
  { b with hist := fit histCost Config.histSlots (histTotal h b) (b.hist ++ [h]) }

/-- Append a record to the snapshot ring (R338). -/
def addSnap (r : SnapRec) (b : Bbx) : Bbx :=
  let q := b.snaps ++ [r]
  { b with snaps := fit (fun r => r.spoil + 1) Config.snapSlots (slotsOf (q.map (·.spoil))) q }

/-- Append a record to the flush area (R338). -/
def addCtrs (r : CtrRec) (b : Bbx) : Bbx :=
  let q := b.flush ++ [r]
  { b with flush := fit (fun r => r.spoil + 1) Config.flushSlots (slotsOf (q.map (·.spoil))) q }

/-- Bits of cores of a mask of cores (R327). -/
def taskBits (cores : BitVec 8) : Word :=
  word (((indices 8).map fun c => if cores.getLsbD c.val then 3 * 4 ^ c.val else 0).sum)

/-- The effective required mask (R328): powered-down islands, cores that restart, and in RECOVERY all but C0 removed. -/
def effReq (s : State) : Word :=
  let off : BitVec 8 := ~~~(BitVec.append s.sys.clOn (0xF#4))
  let r := s.wdg.reqMask &&& ~~~(taskBits off) &&& ~~~(taskBits s.wdg.awaiting)
  if s.sys.st = .recovery then r &&& 3 else if s.sys.st = .boot then 1 else r

/-- A WDG or BBX register of the AON island as it stands there (R349), by the offset from 0x0E00. -/
def aonReg (s : State) (off : Nat) : Word :=
  let w := s.wdg
  let b := s.bbx
  match off with
  | 0x00 => word (bit w.enabled 0 + bit w.grace 1 + 4 * w.fails + 32 * w.n + 256 * w.lastRung + 1024 * w.lastCause
      + bit w.expired 13 + bit w.foreign 14)
  | 0x01 => word (bit w.locked 0 + 2 * w.badKeys)
  | 0x02 => word w.openT
  | 0x03 => word w.closeT
  | 0x04 => word w.count
  | 0x05 => effReq s
  | 0x06 => w.checkin
  | 0x07 => w.missing
  | 0x08 => word w.expiries
  | 0x10 => word (bit b.okA 0 + bit b.okB 1 + bit b.flushed 2 + bit b.writeFail 3 + bit b.new 4 + bit (!b.queue.isEmpty) 5)
  | 0x11 => word (min 1000 (ringFill b))
  | 0x12 => wordOf (newest b) 0
  | 0x13 => wordOf (newest b) 1
  | 0x14 => wordOf (oldest b) 0
  | 0x15 => wordOf (oldest b) 1
  | _ => 0

/-- The HOST island mirrors the AON island (R349). -/
def mirrorAon (s : State) : State :=
  { s with shown := { s.shown with aon := tabulate 22 fun k => aonReg s k.val } }

/-- A record enters its region, sets NEW and is mirrored (R349), and is shown by a listing of the monitor (R395). A snapshot
written is the latest (R187, R194). -/
def store (i : BbxItem) (s : State) : State :=
  let s := s.modBbx fun b =>
    { (match i with
       | .event r => addRing r b
       | .hist h => addHistory h b
       | .snap r => addSnap r b
       | .ctr r => addCtrs r b : Bbx) with new := true }
  let s := match i with
    | .snap r => { s with mtr := { s.mtr with snapSeq := r.seq, snapSeen := true } }
    | _ => s
  let s := mirrorAon s
  if s.mon.listing then { s with mon := { s.mon with out := s.mon.out ++ (heldOf i).words } } else s

/-- Start loading a pane of the record `BBX_WIN_SEQ` names (R346): until it is loaded the window holds none (R349). -/
def startPane (p : BitVec 4) (s : State) : State :=
  s.modBbx fun b =>
    { b with pane := p, loadSeq := b.winSeq, winBusy := true, winValid := false, winType := 0, winLen := 0, win := [] }

/-- A snapshot joins the write queue as a SNAPSHOT record (R187, R342). -/
def queueSnap (r : SnapRec) (s : State) : State :=
  s.modBbx fun b =>
    { b with nextSeq := b.nextSeq + 1
             queue := b.queue ++ [.snap { r with
               bbxSeq := b.nextSeq, flushed := false, inHold := decide (s.sys.st = ModState.hold), okA := false
               okB := false, spoil := 0 }] }

/-- The pending snapshots join the write queue in order (R188). -/
def writePending (s : State) : State :=
  s.mtr.pending.foldl (fun s r => queueSnap r s) { s with mtr := { s.mtr with pending := [] } }

/-- `PANE_LOADED` (R346, R347): the window shows the pane, copy A where it passes its CRC. -/
def execPaneLoaded (s : State) : Host.Outcome State Fault Refusal :=
  .next (if !s.powered || !s.bbx.winBusy then s else
    match heldRec s.bbx s.bbx.loadSeq with
    | none => s.modBbx fun b =>
        { b with winBusy := false, winValid := false, winNotHeld := true, winCopyB := false, winDamaged := false
                 winType := 0, winLen := 0, win := [] }
    | some r => s.modBbx fun b =>
        { b with winBusy := false, winValid := true, winNotHeld := false, winCopyB := !r.okA && r.okB
                 winDamaged := !r.okA && !r.okB, winType := r.type, winLen := r.words.length
                 win := (r.words.drop (128 * b.pane.toNat)).take 128 })

/-- `BBX_WIN_PANE_WRITE` (R346): any write loads a pane, worked by the AON controller in every powered state. -/
def execBbxWinPaneWrite (p : BitVec 4) (s : State) : Host.Outcome State Fault Refusal :=
  .next (if s.powered then startPane p s else s)

/-- One copy takes the record at the front of the queue, or its read-back mismatches: whether the copy now holds it,
the consecutive mismatches, whether the copy is still good (R342). -/
def tryCopy (good has bad : Bool) (miss : Nat) : Bool × Nat × Bool :=
  if !good || has then (has, miss, good)
  else if !bad then (true, 0, true)
  else (false, if 2 ≤ miss then 0 else miss + 1, decide (miss < 2))

/-- A copy marked failed raises a priority-0 alert (R342, R440). -/
def copyFailed (was now : Bool) (copy : Nat) (s : State) : State := if was && !now then alert 0 7 3 copy 0 s else s

/-- The record of a `TAP_FORGET` has left the write queue (R127, R132, R342): where a copy holds it the timers are disarmed, a tap suspended
for want of trust in its history enters DETECT, and the command answers DONE; with neither copy it answers NV_FAIL. -/
def endForget (seq : Nat) (kept : Bool) (s : State) : State :=
  match s.bbx.forgets.find? fun f => f.1 = seq with
  | none => s
  | some f =>
    let s := s.modBbx fun b => { b with forgets := b.forgets.filter fun g => decide (g.1 ≠ seq) }
    if !kept then answer f.2.2 0x60 [] s else
    let n := f.2.1
    let t := s.taps[n]
    let s := s.modTap n Tap.disarm
    answer f.2.2 0 []
      (if t.state = .suspended ∧ (t.cause = 8 ∨ t.cause = 7) then byCommand n (toDetect n false) s else s)

/-- The controller writes the record `i` at the front of its queue, `rs` behind it (R342). -/
def writeFront (badA badB : Bool) (i : BbxItem) (rs : List BbxItem) (s : State) : State :=
    let h := heldOf i
    let a := tryCopy s.bbx.okA h.okA badA s.bbx.missA
    let b := tryCopy s.bbx.okB h.okB badB s.bbx.missB
    let mis := (s.bbx.okA && !h.okA && badA) || (s.bbx.okB && !h.okB && badB)
    let i := i.copies a.1 b.1 (if mis then 1 else 0)
    let done := (a.1 || !a.2.2) && (b.1 || !b.2.2)
    let wasA := s.bbx.okA
    let wasB := s.bbx.okB
    let s := s.modBbx fun x =>
      { x with missA := a.2.1, missB := b.2.1, okA := a.2.2, okB := b.2.2, writeFail := x.writeFail || mis
               queue := if done then rs else i :: rs }
    let s := if done && (a.1 || b.1) then store i s else s
    let s := copyFailed wasB b.2.2 1 (copyFailed wasA a.2.2 0 s)
    if done then endForget h.seq (a.1 || b.1) s else s

/-- `BBX_RECORD_WRITE` (R342, R343, R442): the front record goes to copy A and then to copy B; a mismatch is written again at the next
location, and three in a row mark the copy failed. The record leaves the queue once every good copy holds it. -/
def execBbxRecordWrite (badA badB : Bool) (s : State) : Host.Outcome State Fault Refusal :=
  if !s.powered then .next s else
  let s := s.modBbx carryOver
  match s.bbx.queue with
  | [] => .next s
  | i :: rs => .next (withFlt (writeFront badA badB i rs) s)

/-- A record is written to the copies not marked failed. -/
def storeAll (i : BbxItem) (s : State) : State :=
  if s.bbx.okA || s.bbx.okB then store (i.copies ((heldOf i).okA || s.bbx.okA) ((heldOf i).okB || s.bbx.okB) 0) s else s

/-- The copies that a history record would lose are written before it (R343); at most 32 taps need one. -/
def storeCarried (h : HistRec) : Nat → State → State
  | 0, s => s
  | k + 1, s => match carriedCopy h s.bbx with
    | none => s
    | some c => storeCarried h k (storeAll (.hist c) (s.modBbx fun b => { b with nextSeq := b.nextSeq + 1 }))

/-- Every record of the queue is written, to the copies not marked failed (R343, R345). -/
def drain (s : State) : State :=
  s.bbx.queue.foldl (fun s i =>
    storeAll i (match i with
      | .hist h => if s.bbx.okA || s.bbx.okB then storeCarried h 64 s else s
      | _ => s))
    (s.modBbx fun b => { b with queue := [] })

/-- What a flush cut short leaves (R345): of the queue only the record it was writing, in the copy that holds it already; whether one
that no copy holds yet is torn, and stands damaged in its place, or was not begun is a free value (log entry 3). -/
def cutFlush (s : State) : State := match s.bbx.queue with
  | [] => s
  | i :: _ =>
    let (k, s) := (s.modBbx fun b => { b with queue := [] }).draw
    if (heldOf i).okA || (heldOf i).okB || Config.flashFails k then store i s else s

/-- `WITHHOLD_WINDOW_CLOSE` (R344): the window closes, with a SUMMARY of the records withheld. -/
def execWithholdWindowClose (key : Nat × Nat × Nat) (s : State) : Host.Outcome State Fault Refusal :=
  match s.bbx.windows.find? fun w => w.key = key with
  | none => .next s
  | some w =>
    let s := s.modBbx fun b => { b with windows := b.windows.filter fun v => v.key ≠ key }
    .next (if 16 < w.n then record 0x0E [word key.1, word key.2.1, word key.2.2, word (w.n - 16)] s else s)

/-- A record good in exactly one copy, the other copy not marked failed, is repaired (R347). -/
def repairable (b : Bbx) (okA okB : Bool) : Bool := (okA && !okB && b.okB) || (!okA && okB && b.okA)

/-- `BBX_SCRUB` (R347): in every region damaged copies are rewritten from the good one; the repairs are counted in an EVENT
record. -/
def execBbxScrub (s : State) : Host.Outcome State Fault Refusal :=
  if !s.powered then .next s else
  let n := ((heldRecs s.bbx).filter fun h => repairable s.bbx h.okA h.okB).length
  let s := s.modBbx fun b =>
    { b with
      ring := b.ring.map fun r => if repairable b r.okA r.okB then { r with okA := true, okB := true } else r
      hist := b.hist.map fun r => if repairable b r.okA r.okB then { r with okA := true, okB := true } else r
      snaps := b.snaps.map fun r => if repairable b r.okA r.okB then { r with okA := true, okB := true } else r
      flush := b.flush.map fun r => if repairable b r.okA r.okB then { r with okA := true, okB := true } else r }
  .next (if n = 0 then s else event .repair [n] s)

end Sys2Proof.Machine
end

