-- ==== Sys2Proof/Machine/Watchdog.lean ====
section
/-! DEFINITION. The watchdog: check-in, tokens, windows, rungs, core restart (R323 to R337), with the WDG and BBX
commands (R272). -/

namespace Sys2Proof.Machine

/-! ### Cores -/

/-- Core that serves the command a mailbox holds: its owner (R449), in RECOVERY C0 (R255). -/
def mbxCore (s : State) (n : Fin 4) : Fin 8 :=
  if s.sys.st = .recovery then 0 else ownerCore s.mbx[n].opcode.toNat s.mbx[n].args.toList

/-- The first TAKEN command of a core that runs is executed: its accept code becomes RUN (R244, R245, R251). -/
def promote (c : Fin 8) (s : State) : State :=
  if !s.sys.cores.getLsbD c.val then s else
  match s.taken.find? fun n => decide (mbxCore s n = c) with
  | none => s
  | some n => s.modMbx n fun m => { m with accept := 1 }

/-- Post a mailbox's return code and results (R246): READY, the command no longer in flight, the next one for the same
core starts. -/
def post (n : Fin 4) (a : Answer) (s : State) : State :=
  let c := mbxCore s n
  promote c { s.modMbx n (fun m =>
      { m with state := .ready, code := a.code % 256, res := a.res.take 30, answer := none }) with
    taken := s.taken.filter fun k => k ≠ n }

/-- Post INTERNAL for a TAKEN mailbox (R30, R251). -/
def postLost (n : Fin 4) (s : State) : State :=
  if s.mbx[n].state = .taken then post n { code := 0xFF, res := [] } s else s

/-- A `CMD` of the monitor in flight ends with INTERNAL (R30, R397). -/
def monLost (s : State) : State :=
  if s.mon.inFlight then
    { s with mon := { s.mon with inFlight := false, outErr := none, out := [0x00FF], form := .command
                                 cmdWait := none, cmdTaken := false } }
  else s

/-- A restart of C0 loses the record of a `CMD` it has taken (R251, R397). -/
def Mon.forget (m : Mon) : Mon := if m.cmdTaken then { m with cmdWait := none, cmdTaken := false } else m

/-- The record of what the messages of a link answer is lost (R251): they go on, and their results are discarded. -/
def LinkPort.forget (l : LinkPort) : LinkPort :=
  { l with txq := l.txq.map fun m => { m with via := none }, flight := l.flight.map fun m => { m with via := none }
           swapVia := none }

/-- Results that arrive for commands taken before a core was lost are discarded (R251). -/
def forgetVias (s : State) : State :=
  { s.modPour (fun p => { p with prepVia := none }) with links := s.links.map LinkPort.forget }

/-- The commands a restarted core forgets that wait for the black box (R251): those of its taps, and with C0 all. -/
def forgetForgets (c : Fin 8) (s : State) : State :=
  s.modBbx fun b => { b with forgets := b.forgets.filter fun f => decide (c.val ≠ 0 ∧ c.val ≠ 4 + f.2.1.val / 8) }

/-- One core is restarted (R332): its inbound messages and the commands it executes are lost, and what depends on it
behaves as in HOLD (R29, R251, R384). The sequence numbers of its messages go on (DESIGN CHOICE, log entry 30). -/
def restartCore (c : Fin 8) (s : State) : State :=
  let s := if c = 3 then
      let s := pourAbort s
      { s with arb := { s.arb with frozen := true, fresh := false } }
    else s
  let s := if c = 0 then
      { s with vsel := { s.vsel with work := none }, bus := { s.bus with ctlQueue := [], ctlLosses := 0 }
               held := [], monAnswer := none, ownAnswer := none, mon := s.mon.forget }
    else s
  let s := forgetForgets c s
  let s := if c = 0 then forgetVias s else if c = 2 then { s with links := s.links.map LinkPort.forget } else s
  let lost := s.taken.filter fun n => decide (c = 0) || decide (mbxCore s n = c)
  let s := if c = 1 then { s with rcp := { s.rcp with out := [] } } else s
  let s := { s with
    boxes := s.boxes.set c .reset, perf := s.perf.set c .reset
    mbx := vec fun n => if n ∈ lost then { s.mbx[n] with answer := none } else s.mbx[n] }
  (s.modSys fun y => { y with
    cores := y.cores &&& ~~~(1#8 <<< c.val), lostCmds := y.lostCmds ++ lost.map (·.val) }).modWdg fun w =>
      { w with awaiting := w.awaiting ||| (1#8 <<< c.val) }

/-- Every core restarts in a state that does not change to HOLD (R333). -/
def restartAll (s : State) : State := forgetVias (loseCores (pourAbort s))

/-! ### Failure -/

/-- The window of the count: `[lo, hi)` (R324, R330). -/
def wdgWindow (w : Wdg) : Nat × Nat := if w.grace then (8, 4096) else (w.openT, w.closeT)

/-- The token for a challenge (R326). -/
def token (c : Word) : Word := (c ^^^ 0xA5C3).rotateLeft 5 + 0x3B1D

/-- The offending core (R332): the one core other than C0 that accounts for every missing bit, else C0. -/
def offender (cause : Nat) (missing : Word) : Fin 8 :=
  if (cause = 1 ∨ cause = 4) ∧ missing ≠ 0 then
    match (indices 8).filter fun c => decide (field missing (2 * c.val) 2 ≠ 0) with
    | [c] => c
    | _ => 0
  else 0

/-- The rung of a failure (R331). -/
def rungOf (n f : Nat) : Nat := if n ≤ f then 3 else if f = 1 then 1 else 2

/-- The previous bank becomes active and the trial image is marked invalid (R370). -/
def dropTrial (s : State) : State :=
  let bad := s.fw.active
  { s with fw := { s.fw with
      active := 1 - bad
      banks := vec fun i => if i.val = bad then { s.fw.banks[i] with valid := false } else s.fw.banks[i] } }.modSys
    fun y => { y with trial := false }

/-- Rung 2 during the trial (R370): the control plane restarts from the previous bank. -/
def revert (s : State) : State :=
  if s.sys.trial then
    let s := dropTrial s
    let s := { s with fw := { s.fw with running := (s.fw.banks.toList.getD s.fw.active .reset).layout } }
    alert 1 0xA 3 0xFF 0 (s.modSys fun y => { y with reverted := true })
  else s

/-- The watchdog runs: powered, enabled, not in the hold-up (R333). -/
def wdgRuns (s : State) : Bool := s.powered && s.wdg.enabled && !s.sys.hkLost

/-- An accepted service (R323, R326, R328, R331). -/
def wdgAccept (s : State) : State :=
  newChallenge (s.modWdg fun w =>
    { w with
      count := 0, frac := 0, grace := false, fails := 0, checkin := 0, lastGood := s.stamp
      openT := (w.nextPair.getD (w.openT, w.closeT)).1, closeT := (w.nextPair.getD (w.openT, w.closeT)).2
      nextPair := none, reqMask := w.nextMask.getD w.reqMask, nextMask := none })

/-- `WDG_CHECKIN` (R327, R328): only the writing core's own bits count; the first check-in of a restarted core ends the
removal of its bits. -/
def execWdgCheckin (core : Fin 8) (bits : Word) (s : State) : Host.Outcome State Fault Refusal :=
  .next (if !s.powered then s else s.modWdg fun w =>
    { w with checkin := w.checkin ||| (bits &&& taskBits (1#8 <<< core.val))
             awaiting := if s.sys.cores.getLsbD core.val then w.awaiting &&& ~~~(1#8 <<< core.val) else w.awaiting })

/-- A valid pair of window ticks (R323). -/
def pairOk (p : Nat × Nat) : Bool := decide (16 ≤ p.1 ∧ p.1 ≤ 1024 ∧ p.1 + 16 ≤ p.2 ∧ p.2 ≤ 4096)

/-- `WDG_SETTING_WRITE` (R323, R328): C0's pair or mask waits for the next accepted service; an invalid pair and a
write from another core are ignored. -/
def execWdgSettingWrite (core : Fin 8) (pair : Option (Nat × Nat)) (mask : Option Word) (s : State) :
    Host.Outcome State Fault Refusal :=
  .next (if !s.powered || decide (core ≠ 0) then s else s.modWdg fun w =>
    { w with nextPair := (pair.filter pairOk).orElse fun _ => w.nextPair
             nextMask := mask.orElse fun _ => w.nextMask })

/-! ### Commands -/

/-- `WDG_SET_LADDER` (R331). -/
def runSetLadder (a : List Word) (s : State) : Reply :=
  checked [rng 1 7 (arg a 0)] s <| done (s.modWdg fun w => { w with n := arg a 0 })

/-- Set the lock, the watchdog enabled first (R334, R336). -/
def setLock (s : State) : State := (wdgEnable s).modWdg fun w => { w with locked := true }

/-- `WDG_DISABLE` (R272, R334): a wrong key is counted and recorded, and the third sets the lock. -/
def runDisable (a : List Word) (s : State) : Reply :=
  if [argW a 0, argW a 1, argW a 2] = Config.wdgKey then
    done (alertRec (event .wdgDisabled []) 3 7 2 0 0 (s.modWdg fun w =>
      { w with enabled := false, grace := false, fails := 0, checkin := 0 }))
  else
    let k := min 3 (s.wdg.badKeys + 1)
    let s := event .wrongKey [k] (s.modWdg fun w => { w with badKeys := k })
    .now 0x21 [] (if k = 3 then setLock s else s)

/-- `WDG_ENABLE` (R335). -/
def runEnable (_ : List Word) (s : State) : Reply := done (wdgEnable s)

/-- `WDG_SET_LOCK` (R336). -/
def runSetLock (_ : List Word) (s : State) : Reply := done (setLock s)

/-- `WDG_GET_EVIDENCE` (R272, R337). -/
def runEvidence (a : List Word) (s : State) : Reply :=
  checked [rng 0 15 (arg a 0)] s <| match s.wdg.evidence[arg a 0]? with
    | none => deny 0x22 s
    | some e => doneWith ((e.pcs.flatMap fun p => wordsOf 2 p.toNat) ++ wordsOf 4 e.lastGood ++ wordsOf 4 e.time
        ++ [word e.rung, e.missing]) s

/-- `BBX_GET_INFO` (R272). -/
def runBbxInfo (_ : List Word) (s : State) : Reply :=
  doneWith (wordsOf 2 (oldest s.bbx) ++ wordsOf 2 (newest s.bbx)
    ++ [word (bit s.bbx.okA 0 + bit s.bbx.okB 1), word (ringFill s.bbx)]) s

/-- A sequence number within the series held (R272). -/
def seqArg (a : List Word) (s : State) : Option Nat :=
  if s.bbx.ring.isEmpty && s.bbx.hist.isEmpty && s.bbx.snaps.isEmpty && s.bbx.flush.isEmpty then some 0x22
  else rng (oldest s.bbx) (newest s.bbx) (arg2 a 0)

/-- `BBX_SEEK` (R272, R346). -/
def runSeek (a : List Word) (s : State) : Reply :=
  checked [seqArg a s] s <| done (startPane 0 (s.modBbx fun b => { b with winSeq := arg2 a 0 }))

/-- `BBX_READ` (R272, R347): words beyond the record's length read 0. -/
def runRead (a : List Word) (s : State) : Reply :=
  checked [seqArg a s, rng 1 28 (arg a 3)] s <| match heldRec s.bbx (arg2 a 0) with
    | none => deny 0x22 s
    | some r =>
      if r.words.length ≤ arg a 2 then deny 0x22 s
      else if !r.okA && !r.okB then deny 0x60 s
      else doneWith ((tabulate 28 fun k => r.words.getD (arg a 2 + k.val) 0).take (arg a 3)) s

/-- `WDG_SET_LADDER` (R331). -/
def execWdgSetLadder := hostCommand 0x0801 runSetLadder
/-- `WDG_DISABLE` (R334). -/
def execWdgDisable := hostCommand 0x0802 runDisable
/-- `WDG_ENABLE` (R335). -/
def execWdgEnable := hostCommand 0x0803 runEnable
/-- `WDG_SET_LOCK` (R336). -/
def execWdgSetLock := hostCommand 0x0804 runSetLock
/-- `WDG_GET_EVIDENCE` (R337). -/
def execWdgGetEvidence := hostCommand 0x0805 runEvidence
/-- `BBX_GET_INFO` (R272). -/
def execBbxGetInfo := hostCommand 0x0806 runBbxInfo
/-- `BBX_SEEK` (R346). -/
def execBbxSeek := hostCommand 0x0807 runSeek
/-- `BBX_READ` (R347). -/
def execBbxRead := hostCommand 0x0808 runRead

end Sys2Proof.Machine
end

