-- ==== Sys2Proof/Machine/Mailbox.lean ====
section
/-! DEFINITION. The host mailboxes and the internal mailboxes (R239 to R252). -/

namespace Sys2Proof.Machine

/-- Argument words written from `ARG0` up; words beyond the thirtieth are not arguments (R239). -/
def setArgs (args : List Word) (m : Mailbox) : Mailbox :=
  { m with args := vec fun k => args.getD k.val m.args[k] }

/-- The doorbell of an EMPTY mailbox rings (R240): PENDING, the value written is the opcode. -/
def ring (n : Fin 4) (op : Word) (s : State) : State :=
  if s.mbx[n].state = .empty then
    { s.modMbx n (fun m => { m with state := .pending, accept := 0, opcode := op }) with bells := s.bells ++ [n] }
  else s

/-- `DOORBELL` (R217, R240, R241): the words of an access from `MBXn_CMD`; with the mailbox full the whole access is
rejected. -/
def execDoorbell (n : Fin 4) (op : Word) (args : List Word) (s : State) : Host.Outcome State Fault Refusal :=
  .next (if s.powered && decide (s.mbx[n].state = .empty) then ring n op (s.modMbx n (setArgs args)) else s)

/-- A write of `MBXn_RELEASE` (R242, R247): a READY mailbox becomes EMPTY. -/
def release (n : Fin 4) (s : State) : State :=
  if s.mbx[n].state = .ready then
    s.modMbx n fun m => { m with state := .empty, accept := 0, code := 0, res := [] }
  else s

/-- `MBX_RELEASE` (R242). -/
def execMbxRelease (n : Fin 4) (s : State) : Host.Outcome State Fault Refusal :=
  .next (if s.powered then release n s else s)

/-- A result word read before READY sets EARLY (R246). -/
def readEarly (n : Fin 4) (s : State) : State :=
  if s.mbx[n].state = .ready then s else s.modMbx n fun m => { m with early := true }

/-- `EARLY_READ` (R246). -/
def execEarlyRead (n : Fin 4) (_k : Fin 30) (s : State) : Host.Outcome State Fault Refusal :=
  .next (if s.powered then readEarly n s else s)

/-- C0 takes the mailbox whose doorbell rang first (R244, R245): refused at once with its code, or RUN, or QUEUED behind
an earlier command of the same core or while that core restarts (R251). -/
def take (n : Fin 4) (s : State) : State :=
  let s := { s with bells := s.bells.drop 1 }
  let m := s.mbx[n]
  match gate m.opcode.toNat s with
  | some code =>
    s.modMbx n fun m =>
      { m with state := .ready, accept := 3, seq := m.seq + 1, code := code % 256, res := [], answer := none }
  | none =>
    let c := mbxCore s n
    let busy := (s.taken.any fun k => decide (mbxCore s k = c)) || !ownerUp m.opcode.toNat m.args.toList s
    { s.modMbx n (fun m =>
        { m with state := .taken, accept := if busy then 2 else 1, seq := m.seq + 1, answer := none }) with
      taken := s.taken ++ [n] }

/-- `COMMAND_TAKE` (R244): none is taken in HOLD or while C0 restarts, and only in the order rung (R245). The command is taken
in a new sampling period (log entry 48). -/
def execCommandTake (n : Fin 4) (s : State) : Host.Outcome State Fault Refusal :=
  .next (if s.powered && decide (s.sys.st ≠ .hold) && c0Up s && decide (s.bells.head? = some n)
      && decide (s.mbx[n].state = .pending) then take n (newPeriod s) else s)

/-- `RESULT_POST` (R242, R246): the answer the owning core has produced is posted. -/
def execResultPost (n : Fin 4) (s : State) : Host.Outcome State Fault Refusal :=
  match s.mbx[n].answer with
  | none => .next s
  | some a =>
    .next (if s.powered && decide (s.sys.st ≠ .hold) && c0Up s && decide (s.mbx[n].state = .taken ∧ s.mbx[n].accept ≠ 2)
      then post n a s else s)

/-- The host tag of a message that serves the command of a mailbox (R249): bit 15, the mailbox and the number of its taking
(DESIGN CHOICE, log entry 30); 0 without one. -/
def hostTag (s : State) : Option (Fin 4) → Word
  | none => 0
  | some n => word (0x8000 + 256 * n.val + s.mbx[n].seq.toNat)

/-- The host mailbox a tag links to (R249, R251), while the command it served still stands in it. -/
def tagged (s : State) (tag : Word) : Option (Fin 4) := (indices 4).find? fun n => decide (hostTag s (some n) = tag)

/-- A core's message reaches its inbound mailbox (R249): the ninth unread one overwrites the oldest. -/
def deliverMsg (m : BoxMsg) (b : CoreBox) : CoreBox := match b.msgs with
  | [] => { b with msgs := [m] }
  | old :: rest =>
    if b.msgs.length < 8 then { b with msgs := b.msgs ++ [m] }
    else { msgs := rest ++ [m], collision := true, lostSeqs := b.lostSeqs ++ [old.seq.toNat] }

/-- The message a delivery would overwrite (R249, R251). -/
def overwritten (b : CoreBox) : Option BoxMsg := if b.msgs.length < 8 then none else b.msgs.head?

/-- A core of a cluster whose island is powered down (R20). -/
def islandOff (s : State) (c : Fin 8) : Bool := decide (4 ≤ c.val) && !s.sys.clOn.getLsbD (c.val - 4)

/-- `INTERNAL_MAILBOX_MESSAGE` (R23, R249 to R251): an access to a powered-down island is never queued and raises an access
fault on the sending core. A message takes its sender's next number. An overwritten message is reported, and the host command it served completes with INTERNAL. -/
def execInternalMailboxMessage (dst : Fin 8) (m : IntMsg) (s : State) : Host.Outcome State Fault Refusal :=
  if !s.powered || !s.sys.cores.getLsbD m.sender.val then .next s
  else if islandOff s dst then
    .next (perfCount m.sender 0x10 1 (s.modSys fun y => { y with accessFault := y.accessFault ++ [(m.sender.val, dst.val)] }))
  else
    let seq := s.sys.boxSeq[m.sender] + 1
    let lost := overwritten s.boxes[dst]
    let msg : BoxMsg := { sender := m.sender, seq := seq, tag := hostTag s m.host, words := m.words }
    let s := { s.modSys (fun y => { y with boxSeq := y.boxSeq.set m.sender seq }) with
      boxes := s.boxes.set dst (deliverMsg msg s.boxes[dst]) }
    let s := perfCount dst 0x0E 1 s
    .next (match lost with
      | none => s
      | some o =>
        let s := perfCount dst 0x0F 1 (alertRec (event .boxCollision [dst.val, o.sender.val, o.seq.toNat]) 3 0xA 7 0xFF 0 s)
        match tagged s o.tag with
        | none => s
        | some n => postLost n s)

end Sys2Proof.Machine
end

