-- ==== Sys2Proof/Machine/Backplane.lean ====
section
/-! DEFINITION. The backplane: FAULT#, duplicate addresses, beats and the leader, the division of the site cap (R310 to
R321). -/

namespace Sys2Proof.Machine

/-- Change the backplane part. -/
def State.modBp (s : State) (f : Bp → Bp) : State := { s with bp := f s.bp }

/-- `ADDR_PROBE` (R310): in BOOT, an acknowledged probe of the module's own address. -/
def execAddrProbe (acked : Bool) (s : State) : Host.Outcome State Fault Refusal :=
  .next (if decide (s.sys.st = .boot) && acked then
    withFlt (fun s => { s.modBp (fun b => { b with addrDup := true, dupAlert := true, leader := false }) with
      bus := ({ s.bus with alertOut := false } : Bus).lineLevel }) s else s)

/-- The action `FAULT_ACT` asks for on a foreign edge (R312). -/
def faultAction (s : State) : State := match s.bp.faultAct.toNat with
  | 1 => if s.sys.st = .run then issue 0x0103 runStandby .own [] s else s
  | 2 => if s.sys.st = .standby ∨ s.sys.st = .run then issue 0x0104 runSafe .own [] s else s
  | _ => s

/-- `FAULT_EDGE` (R312): a foreign falling edge; in HOLD, and while C0 restarts in STANDBY or RUN (R332), its action waits for the
control plane. -/
def execFaultEdge (own : Bool) (s : State) : Host.Outcome State Fault Refusal :=
  if !s.powered || own then .next s else
  let s := alert 0 9 2 0xFF 0 (s.modBp fun b => { b with faultIn := true })
  .next (if decide (s.sys.st = .hold) || (decide (s.sys.st = .standby ∨ s.sys.st = .run) && !c0Up s) then s.modBp fun b => { b with faultWaits := true } else faultAction s)

/-- The firmware that leads or follows runs: powered, standalone, in a state with a control plane. -/
def bpRuns (s : State) : Bool :=
  s.powered && s.bp.standalone && decide (s.sys.st ≠ .boot ∧ s.sys.st ≠ .hold) && c0Up s

/-- Addresses of the other fitted modules (R320, R321): 0 to NMOD − 1. -/
def others (s : State) : List (BitVec 3) :=
  ((indices 8).map fun a => BitVec.ofNat 3 a.val).filter fun a => decide (a ≤ s.bp.nmod) && decide (a ≠ s.sys.addr)

/-- Queue transfers for the module as bus controller (R235). -/
def queueCtl (q : List CtlXfer) (s : State) : State := s.modBus fun b => { b with ctlQueue := b.ctlQueue ++ q }

/-- Word of `SYS_BP_BEAT` (R322). -/
def beatWord (addr : BitVec 3) (seq : BitVec 8) : Word := word (addr.toNat + 256 * seq.toNat)

/-- `BEAT_SEND` (R320): the leader writes its beat, with a rising sequence number, on each other fitted address. -/
def execBeatSend (s : State) : Host.Outcome State Fault Refusal :=
  .next (if bpRuns s && s.bp.leader then
    let s := s.modBp fun b => { b with mySeq := b.mySeq + 1, beatAddr := s.sys.addr, beatSeq := b.mySeq + 1 }
    queueCtl ((others s).map fun a => { target := a, addr := 0x033, words := [beatWord s.bp.beatAddr s.bp.beatSeq] }) s
  else s)

/-- A beat arrives in `SYS_BP_BEAT` (R319, R320): a leader stops for a lower ADDR, a follower takes the lowest of the
recent senders. -/
def beatSeen (addr : BitVec 3) (seq : BitVec 8) (s : State) : State :=
  s.modBp fun b =>
    let b := { b with beatAddr := addr, beatSeq := seq }
    if b.leader then
      if addr < s.sys.addr then { b with leader := false, leaderAddr := addr, beatOk := true } else b
    else { b with leaderAddr := if b.standalone && (!b.beatOk || decide (addr ≤ b.leaderAddr)) then addr else b.leaderAddr
                  beatOk := true }

/-- `BEAT` (R310, R320). -/
def execBeat (addr : BitVec 3) (seq : BitVec 8) (s : State) : Host.Outcome State Fault Refusal :=
  .next (if isTarget s then beatSeen addr seq s else s)

/-- `BEAT_TIMEOUT` (R310, R319): the lower addresses have been probed; with none acknowledged the module leads. -/
def execBeatTimeout (lowerAcked : Bool) (s : State) : Host.Outcome State Fault Refusal :=
  if !s.powered then .next s
  else if bpRuns s && !lowerAcked && !s.bp.addrDup then
    .next (s.modBp (Bp.lead s.sys.addr))
  else if bpRuns s then .next (s.modBp fun b => { b with leader := false, beatOk := false })
  else .next (s.modBp fun b => { b with beatOk := b.leader })

/-- Weight of a module in a division round, four times the figure of R321. -/
def weight (p : PeerCap) : Nat := if field p.status 1 4 = 0 then 4 * (p.grant + 1000) else 5 * (p.grant + 1000)

/-- `ARB_STATUS` bits [4:1] of this module (R179). -/
def arbShort (s : State) : Word :=
  word (bit (s.taps.toList.any fun t => t.cutSup.running) 1 + bit (s.taps.toList.any fun t => t.cutCon.running) 2
    + bit s.arb.p3Short 3 + bit s.arb.p4Short 4)

/-- This module as one of the modules it divides among. -/
def ownCap (s : State) : PeerCap :=
  { addr := s.sys.addr, grant := s.arb.grant, status := arbShort s, siteCap := s.hub.siteCap
    full := decide (s.mbx[(3 : Fin 4)].state = .pending ∨ s.mbx[(3 : Fin 4)].state = .taken) }

/-- New cap of a module (R321): its part of the caps of the modules that answer, within limits, lower only in the first
6 s of leading. `total` is the sum of the weights and `reach` the number of modules that answer. -/
def newCap (b : Bp) (total reach : Nat) (p : PeerCap) : Nat :=
  let fitted := b.nmod.toNat + 1
  let new := max 1000 (min 123000 (100 * b.cap * min reach fitted * weight p / (fitted * total)))
  if b.leadMs < 6000 then min new p.siteCap else new

/-- Words of `SRC_SET_MODE` that change the site cap alone (R262, R321). -/
def capWords (cap : Nat) : List Word :=
  [0xFFFF, 0] ++ List.replicate 4 0 ++ List.replicate 8 0xFFFF ++ wordsOf 2 cap

/-- The transfers with which a round of the division begins (R235, R321): MBX3 of each other fitted module is released from the
round before (DESIGN CHOICE, log entry 29), and its `ARB_GRANT` and `ARB_STATUS` are read. -/
def askPeer (a : BitVec 3) : List CtlXfer :=
  [{ target := a, addr := 0x1C2, words := [0] }, { target := a, addr := 0xCC6, words := [], reads := 2 },
   { target := a, addr := 0xCC0, words := [], reads := 1 }]

/-- Send a module its cap through its MBX3; a module whose MBX3 is full is skipped. -/
def sendCap (p : PeerCap) (cap : Nat) (s : State) : State :=
  if p.full then s
  else if p.addr = s.sys.addr then ring 3 0x0206 ((release 3 s).modMbx 3 (setArgs (capWords cap)))
  else queueCtl [{ target := p.addr, addr := 0x1C3, words := 0x0206 :: capWords cap }] s

/-- `CAP_DIVISION` (R321): the leader asks the other fitted modules, and divides the backplane site cap among itself and those
that answer. -/
def execCapDivision (peers : List PeerCap) (s : State) : Host.Outcome State Fault Refusal :=
  if bpRuns s && s.bp.leader && decide (0 < s.bp.cap) then
    let all := ownCap s :: (others s).filterMap fun a => peers.find? fun p => p.addr = a
    let total := (all.map weight).sum
    .next (all.foldl (fun t p => sendCap p (newCap s.bp total all.length p) t) (queueCtl ((others s).flatMap askPeer) s))
  else .next s

/-- `FALLBACK` (R321): a follower without a beat for 5 s. -/
def execFallback (s : State) : Host.Outcome State Fault Refusal :=
  .next (if bpRuns s && !s.bp.leader && !s.bp.beatOk then fallBack s else s)

end Sys2Proof.Machine
end

