-- ==== Sys2Proof/Machine/Link.lean ====
section
/-! DEFINITION. The Derbel link: attach, messages, contracts, the tie, role swaps and the responder (R277 to R309), with
the LNK commands (R271). -/

namespace Sys2Proof.Machine

/-! ### Attachment -/

/-- The attach band of R278, 10 mV. -/
def inBand (v : Int) : Bool := decide (Config.attachLow ≤ v ∧ v ≤ Config.attachHigh)

/-- The responder serves attached sink ports in BOOT and RECOVERY (R300). -/
def responderOn (x : Fin 4) (s : State) : Bool :=
  decide (s.sys.st = .boot ∨ s.sys.st = .recovery) && s.links[x].attached && !s.links[x].role

/-- End every message of a link that is waiting or in flight with an outcome for its `LNK_SEND` (R271, R283), and an
own swap request with no answer (R302). -/
def dropMessages (x : Fin 4) (outcome : Nat) (s : State) : State :=
  let l := s.links[x]
  let s := (l.flight.toList ++ l.txq).foldl (fun s m => answerOpt m.via 0 [word outcome, word l.txCtr.toNat] s) s
  answerOpt l.swapVia 0 [3] s

/-- Leave an attachment for `st` (R281, R283): messages end, counters and modes are cleared. -/
def detachTo (x : Fin 4) (st : LinkState) (s : State) : State :=
  (dropMessages x 2 s).modLink x fun l => l.detach st

/-- While port D presents source, its intake stays DISABLED (R296). -/
def sourceOff (x : Fin 4) (s : State) : State :=
  if s.links[x].asSource && decide (s.ports[x].state ≠ .disabled) then changePort x Port.disable s else s

/-- Queue the responder's Offer request and start its repeat (R300). -/
def offerRequest (x : Fin 4) (s : State) : State :=
  (send x { cls := .responder, type := 0x0A, objs := [], via := none } s).modLink x fun l => { l with tResponder := true }

/-- A Role-swap request goes out (R302). -/
def sendSwap (x : Fin 4) (s : State) : State :=
  send x { cls := .host, type := 0x07, objs := [], via := none } (s.modLink x fun l => { l with swapOwn := true })

/-- Own swap request ended with the answer of its `LNK_SWAP_ROLE` (R302). -/
def swapEnds (x : Fin 4) (res : Word) (s : State) : State :=
  (answerOpt s.links[x].swapVia 0 [res] s).modLink x fun l =>
    { l with swapOwn := false, tSwapAnswer := false, swapVia := none }

/-- Enter SWAP (R303): contract void with cause role swap, TIE_EN off, intake stopped; the presentations change from
the present role. -/
def enterSwap (x : Fin 4) (s : State) : State :=
  let s := voidLink x 11 false s
  let s := if x.val = 3 ∧ s.links[x].role then { s with tie := { s.tie with en := false } } else s
  let s := if !s.links[x].role && decide (s.ports[x].state = .softstart ∨ s.ports[x].state = .online)
    then changePort x Port.lose s else s
  s.modLink x fun l => { l with state := .swap, phaseSource := l.role, tSwapAnswer := false, swapOwn := false }

/-! ### Contracts -/

/-- Window of the contract in force holds a voltage in mV (R293, R299). -/
def inContract (l : LinkPort) (mv : Int) : Bool := decide ((l.cwMin * 250 : Nat) ≤ mv ∧ mv ≤ (l.cwMax * 250 : Nat))

/-- IN_WINDOW of the tie (R309): the cable voltage lies inside the window of port D's contract. -/
def tieInWindow (s : State) : Bool :=
  s.links[(3 : Fin 4)].inForce && inContract s.links[(3 : Fin 4)] s.ports[(3 : Fin 4)].vin

/-- No pilot loss, tie trip, module-state void, end of a timer or received Void has acted on the link in this sample, so
that a command of it is not discarded (R282). -/
def linkFree (s : State) (x : Fin 4) : Option Nat := allow (decide (s.links[x].acted = 0 ∨ 6 ≤ s.links[x].acted))

/-- A link event of rank `r` has acted in this sample (R282). -/
def linkActs (x : Fin 4) (r : Nat) (s : State) : State := s.modLink x fun l => { l with acted := r }

/-- A link command that is not refused has acted in this sample, so that messages received in it are discarded (R282). -/
def acting (run : List Word → State → Reply) (a : List Word) (s : State) : Reply :=
  match run a s with
  | .now c res t => .now c res (if c = 0 ∨ c = 1 then linkActs (portOf (arg a 0)) 6 t else t)
  | .later t => .later (linkActs (portOf (arg a 0)) 6 t)

/-- Put a contract in force (R292 to R295): on a source it is provisional and capped at 8.00 A until this port has sent
an Accept, and its transition timer starts at the later of apply and TIE_EN; on a sink it enters CONTRACT at once
while a Ready is remembered. -/
def applyContract (x : Fin 4) (lo hi lim : Nat) (dead : Bool) (s : State) : State :=
  let s := s.modLink x fun l =>
    let prov := l.role && !l.acceptSent
    let go := !l.role && l.readyRem
    { l with
      inForce := true, cwMin := lo, cwMax := hi, ciLim := if prov then min lim 160 else lim, age := 0
      provisional := prov, deadbatt := dead, kaVoid := 0
      state := if go then .contract else .transition
      readyDue := l.role && l.acceptSent
      tTieClose := l.role && !s.tie.en, tTransition := l.role && s.tie.en
      tReady := !l.role && !l.readyRem }
  checkNarrow x s

/-! ### Commands -/

/-- `LNK_SET_PRESENT` (R279, R281). A port in an attachment or in SWAP goes to UNATTACHED at once and one in BLANK stays there, for which
R281 has no row (DESIGN CHOICE, log entry 22). -/
def runSetPresent (a : List Word) (s : State) : Reply :=
  let x := portOf (arg a 0)
  let p : Present := match arg a 1 with
    | 0 => .off | 1 => .sink | 2 => .source | _ => .dual
  checked [portArg a, rng 0 3 (arg a 1), need (decide (arg a 1 ≤ 1 ∨ arg a 0 = 3)), linkFree s x] s <|
    if s.links[x].present = p then done s else
    let was := s.links[x]
    let s := voidLink x 9 false s
    let s := if was.attached || decide (was.state = .swap) then detachTo x .unattached s else s
    let s := s.modLink x fun l =>
      { l with present := p, phaseSource := decide (p = .source)
               state := if p = .off then .off
                        else if l.state = .off ∨ l.state = .debounce then .unattached else l.state }
    done (sourceOff x s)

/-- The object counts `LNK_SEND` takes for a type (R290); none where the module alone sends it or it is unlisted. -/
def sendable : Nat → List Nat
  | 0x01 | 0x02 | 0x03 | 0x09 | 0x0A => [0]
  | 0x10 => [2, 4, 6]
  | 0x11 => [2]
  | 0x20 => [1, 2, 3, 4, 5, 6, 7]
  | _ => []

/-- The objects of `LNK_SEND`: 32 bits each from ARG2, least significant word first (R271, R253). -/
def sendObjs (a : List Word) : List (BitVec 32) :=
  (tabulate 7 fun k => BitVec.ofNat 32 (arg2 a (2 + 2 * k.val))).take (field (argW a 1) 8 4)

/-- COMMAND of a vendor-defined header (R304). -/
def vdCommand (o : BitVec 32) : Nat := o.toNat / 2 ^ 24
/-- KIND of a vendor-defined header. -/
def vdKind (o : BitVec 32) : Nat := o.toNat / 2 ^ 22 % 4
/-- MODE of a vendor-defined header. -/
def vdMode (o : BitVec 32) : Nat := o.toNat / 2 ^ 16 % 16

/-- An Enter mode request for firmware relay (R305). -/
def asksRelay (type : Nat) (objs : List (BitVec 32)) : Bool := match objs with
  | o :: _ => decide (type = 0x20 ∧ vdCommand o = 2 ∧ vdKind o = 0 ∧ vdMode o = 3)
  | [] => false

/-- `LNK_SEND` (R271, R290, R305): it answers with the message's outcome. -/
def runSend (via : Via) (a : List Word) (s : State) : Reply :=
  let x := portOf (arg a 0)
  let l := s.links[x]
  let type := field (argW a 1) 0 8
  let objs := sendObjs a
  checked [portArg a, need (decide (field (argW a 1) 8 4 ∈ sendable type ∧ field (argW a 1) 12 4 = 0)), linkFree s x, allow l.attached,
           allow (!decide (type = 1 ∨ type = 2 ∨ type = 3) || l.reqWaiting),
           if asksRelay type objs && !l.inForce then some 0x70 else none] s <|
    .later ((send x { cls := .host, type := type, objs := objs, via := some via } s).modLink x fun l =>
      { l with reqWaiting := l.reqWaiting && !decide (type = 1 ∨ type = 2 ∨ type = 3) })

/-- `LNK_RECV` (R271, R289). -/
def runRecv (a : List Word) (s : State) : Reply :=
  let x := portOf (arg a 0)
  checked [portArg a, linkFree s x] s <| match s.links[x].rx with
    | [] => deny 0x11 s
    | m :: ms =>
      doneWith ([word (m.type + 256 * m.objs.length), word m.ctr.toNat]
        ++ m.objs.flatMap fun o => wordsOf 2 o.toNat) (s.modLink x fun l => { l with rx := ms })

/-- `LNK_SET_CONTRACT` with action 0, apply (R271, R292). -/
def runApply (a : List Word) (s : State) : Reply :=
  let x := portOf (arg a 0)
  checked [portArg a, rng 0 1 (arg a 1), rng 1000 4000 (arg a 2), rng 1000 4000 (arg a 3), rng 0 4000 (arg a 4),
           need (decide (arg a 2 + 200 ≤ arg a 3)), linkFree s x, allow s.links[x].attached] s <|
    done (applyContract x (arg a 2) (arg a 3) (arg a 4) false s)

/-- `LNK_SET_CONTRACT` with action 1, void (R271, R298). -/
def runVoid (a : List Word) (s : State) : Reply :=
  let x := portOf (arg a 0)
  checked [portArg a, rng 0 1 (arg a 1), linkFree s x, if s.links[x].inForce then none else some 0x70] s <| done (voidLink x 1 true s)

/-- `LNK_SET_TIE` with close (R271, R299); TIE_EN is held de-asserted during the open period of a long press (R363). -/
def runTieClose (a : List Word) (s : State) : Reply :=
  let l := s.links[(3 : Fin 4)]
  checked [rng 3 3 (arg a 0), rng 0 1 (arg a 1), linkFree s 3, if l.role && l.inForce then none else some 0x70, allow (inContract l s.sys.vStr)] s <|
    accepted (if s.tie.en || s.sys.longPress then s else
      State.modLink { s with tie := { s.tie with en := true } } 3 fun l =>
        { l with tTieClose := false, tTransition := decide (l.state = .transition), tNegotiation := l.provisional })

/-- `LNK_SET_TIE` with open (R271, R299). -/
def runTieOpen (a : List Word) (s : State) : Reply :=
  checked [rng 3 3 (arg a 0), rng 0 1 (arg a 1), linkFree s 3] s <| accepted { s with tie := { s.tie with en := false } }

/-- `LNK_SWAP_ROLE` (R302): held back until 200 ms after a Wait; it answers with the partner's answer. -/
def runSwapRole (via : Via) (a : List Word) (s : State) : Reply :=
  let x := portOf (arg a 0)
  let l := s.links[x]
  checked [portArg a, linkFree s x, allow (l.attached && !l.swapOwn && !l.swapHeld)] s <|
    let s := s.modLink x fun l => { l with swapVia := some via }
    .later (if l.tSwapRetry then s.modLink x fun l => { l with swapHeld := true } else sendSwap x s)

/-- `LNK_GET_STATUS` (R271, R309). -/
def runLnkStatus (a : List Word) (s : State) : Reply :=
  let l := s.links[portOf (arg a 0)]
  checked [portArg a] s <|
    doneWith [word (linkCode l.state), word (bit l.role 0 + 2 * presentCode l.present + bit l.lead 3),
              word l.cwMin, word l.cwMax, word l.ciLim, word (sat 0xFFFF l.age)] s

/-- `LNK_SET_PRESENT` (R279). -/
def execLnkSetPresent := hostCommand 0x0701 (acting runSetPresent)
/-- `LNK_SEND` (R290). -/
def execLnkSend (via : Via) := hostCommand 0x0702 (acting (runSend via)) via
/-- `LNK_RECV` (R289). -/
def execLnkRecv := hostCommand 0x0703 (acting runRecv)
/-- `LNK_SET_CONTRACT` apply (R292). -/
def execLnkSetContractApply (via : Via) (a : List Word) := hostCommand 0x0704 (acting runApply) via (withArg1 0 a)
/-- `LNK_SET_CONTRACT` void (R298). -/
def execLnkSetContractVoid (via : Via) (a : List Word) := hostCommand 0x0704 (acting runVoid) via (withArg1 1 a)
/-- `LNK_SET_TIE` close (R299). -/
def execLnkSetTieClose (via : Via) (a : List Word) := hostCommand 0x0705 (acting runTieClose) via (withArg1 1 a)
/-- `LNK_SET_TIE` open (R299). -/
def execLnkSetTieOpen (via : Via) (a : List Word) := hostCommand 0x0705 (acting runTieOpen) via (withArg1 0 a)
/-- `LNK_SWAP_ROLE` (R302). -/
def execLnkSwapRole (via : Via) := hostCommand 0x0706 (acting (runSwapRole via)) via
/-- `LNK_GET_STATUS` (R309). -/
def execLnkGetStatus := hostCommand 0x0707 runLnkStatus

/-! ### Attach events -/

/-- The link hardware acts in every powered state (R297, R308). -/
def linkEvent (f : State → State) (s : State) : Host.Outcome State Fault Refusal :=
  .next (if s.powered then f s else s)

/-- A timer of a link ends (R282, R306): it acts where it runs and nothing of the same or a higher rank has acted in this
sample. -/
def linkTimer (x : Fin 4) (due : State → Bool) (f : State → State) : State → Host.Outcome State Fault Refusal :=
  linkEvent fun s =>
    if due s && decide (s.links[x].acted = 0 ∨ 4 < s.links[x].acted) then linkActs x 4 (f s) else s

/-- An event of a port that carries its voltage: beyond the absolute maximum, which holds unpowered too, the spec gives no
behaviour (R420), without power nothing happens, and otherwise the voltage is the port's newest sample. -/
def portEvent (x : Fin 4) (v : Int) (f : State → State) (s : State) : Host.Outcome State Fault Refusal :=
  if !portRated v then .fault .beyondAbsoluteMaximum
  else if !s.powered then .next s
  else .next (f (s.modPort x fun p => { p with vin := v }))

/-- An event that carries the pilot voltage, which `LNKx_PILOT` then shows (R309); beyond the absolute maximum the spec gives
no behaviour (R420). -/
def pilotEvent (x : Fin 4) (v : Int) (f : State → State) (s : State) : Host.Outcome State Fault Refusal :=
  if !pilotRated v then .fault .beyondAbsoluteMaximum
  else if !s.powered then .next s
  else .next (f (s.modLink x fun l => { l with pilot := v }))

/-- `PILOT_IN_BAND` (R281). -/
def execPilotInBand (x : Fin 4) (v : Int) := pilotEvent x v fun s =>
  if s.links[x].state = .unattached ∧ inBand v then s.modLink x fun l => { l with state := .debounce } else s

/-- `DEBOUNCE_OUT` (R280, R281). -/
def execDebounceOut (x : Fin 4) (v : Int) := pilotEvent x v fun s =>
  if s.links[x].state = .debounce ∧ !inBand v then s.modLink x fun l => { l with state := .unattached } else s

/-- `ATTACH` (R281, R300, R301): the role is fixed, the source end holds the lead role, counters and modes are cleared;
the responder sends its first Offer request. -/
def execAttach (x : Fin 4) := linkTimer x (fun s => decide (s.links[x].state = .debounce)) fun s =>
  let src := decide (s.links[x].present = .source) || (decide (s.links[x].present = .dual) && s.links[x].phaseSource)
  let s := s.modLink x fun l =>
    { l.detach .attached with role := src, lead := src, evAttach := true }
  let s := alertRec (linkRecord x 1 0) 2 6 1 x.val 0 s
  let s := sourceOff x s
  if responderOn x s then offerRequest x s else s

/-- `DUAL_ROLE_PHASE` (R280, R296): in a source phase the intake of port D is DISABLED. -/
def execDualRolePhase (x : Fin 4) :=
  linkTimer x (fun s => decide (s.links[x].state = .unattached ∧ s.links[x].present = .dual)) fun s =>
    sourceOff x (s.modLink x fun l => { l with phaseSource := !l.phaseSource })

/-- `PILOT_LOSS` (R283, R48): the contract is void, a sink in contract mode stops drawing, a source drops TIE_EN, the
port enters BLANK; the receive buffer stays. -/
def execPilotLoss (x : Fin 4) (v : Int) := pilotEvent x v fun s =>
  if s.links[x].attached && !inBand v then
    let s := alertRec (linkRecord x 2 0) 2 6 2 x.val 0 s
    let s := voidLink x 8 false s
    let s := if x.val = 3 ∧ s.links[x].role then { s with tie := { s.tie with en := false } } else s
    let s := if decide (s.hub.modeIn = .contract) && decide (s.ports[x].state = .softstart ∨ s.ports[x].state = .online)
      then changePort x Port.lose s else s
    linkActs x 1 (sourceOff x ((detachTo x .blank s).modLink x fun l => { l with evDetach := true }))
  else s

/-- `BLANK_END` (R281). -/
def execBlankEnd (x : Fin 4) := linkTimer x (fun s => decide (s.links[x].state = .blank)) fun s =>
  s.modLink x fun l => { l with state := .unattached }

/-! ### Messages -/

/-- Messages run on a link, in SWAP too (R288, R302). -/
def LinkPort.linked (l : LinkPort) : Bool := l.attached || decide (l.state = .swap)

/-- The header of a frame (R285). -/
def header (type count : Nat) (role lead : Bool) (ctr : BitVec 3) : Word :=
  word (type % 256 + 256 * (count % 8) + bit role 11 + bit lead 12 + 8192 * ctr.toNat)

/-- The CRC of header and objects, the least significant byte of each first (R284, R286). -/
def frameCrc (h : Word) (objs : List (BitVec 32)) : BitVec 32 :=
  crc32 (bytesOf 2 h.toNat ++ objs.flatMap fun o => bytesOf 4 o.toNat)

/-- A frame this end sends (R284 to R286, R301). -/
def LinkPort.frame (l : LinkPort) (type : Nat) (objs : List (BitVec 32)) (ctr : BitVec 3) : Frame :=
  let h := header type objs.length l.role l.lead ctr
  { header := h, objs := objs, crc := frameCrc h objs }

/-- The message of a frame (R285). -/
def msgOf (f : Frame) : Msg :=
  { type := field f.header 0 8, objs := f.objs, role := f.header.getLsbD 11, lead := f.header.getLsbD 12
    ctr := BitVec.ofNat 3 (field f.header 13 3) }

/-- A frame without an invalid code, with its CRC right and as many objects as its COUNT (R286). -/
def frameOk (f : Frame) (codesOk : Bool) : Bool :=
  codesOk && decide (f.crc = frameCrc f.header f.objs) && decide (field f.header 8 3 = f.objs.length)

/-- A message is abandoned or unacknowledged (R287, R288): its `LNK_SEND` ends and the counter rises. -/
def endMessage (x : Fin 4) (outcome : Nat) (s : State) : State := match s.links[x].flight with
  | none => s
  | some m =>
    let s := answerOpt m.via 0 [word outcome, word s.links[x].txCtr.toNat] s
    s.modLink x fun l =>
      { l with flight := none, resend := false, retries := 0, collisions := 0, txCtr := l.txCtr + 1 }

/-- The third collision of a message (R287): it is abandoned, with its event and alert. -/
def collisionOver (x : Fin 4) (s : State) : State :=
  alertRec (linkRecord x 4 0) 2 6 4 x.val 0 (s.modLink x fun l => { l with evCollision := true })

/-- A frame of message `m` is on the wire whole (R285, R288, R295, R300, R302). -/
def sentFrame (x : Fin 4) (m : TxMsg) (s : State) : State :=
  s.modLink x fun l =>
    { l with
      flight := some m, resend := false, outFrame := some (l.frame m.type m.objs l.txCtr)
      acceptSent := l.acceptSent || decide (m.type = 0x01)
      tNegotiation := l.tNegotiation && !decide (m.type = 0x01)
      tSwapAnswer := l.tSwapAnswer || (decide (m.type = 0x07) && l.swapOwn) }

/-- The acknowledgement that is due goes out first (R282, R287, R288). -/
def transmitAck (x : Fin 4) (collided : Bool) (s : State) : State :=
  if !collided then s.modLink x fun l =>
    { l with acksDue := l.acksDue.drop 1, ackCollisions := 0, outFrame := l.acksDue.head?.map (l.frame 0x00 []) }
  else if s.links[x].ackCollisions < 2 then
    s.modLink x fun l => { l with ackCollisions := l.ackCollisions + 1, backoff := true }
  else collisionOver x (s.modLink x fun l => { l with acksDue := l.acksDue.drop 1, ackCollisions := 0 })

/-- A message goes out or collides (R287). -/
def transmitMsg (x : Fin 4) (m : TxMsg) (collided : Bool) (s : State) : State :=
  if !collided then sentFrame x m s
  else if s.links[x].collisions < 2 then
    s.modLink x fun l =>
      { l with flight := some m, resend := true, collisions := l.collisions + 1, backoff := true }
  else
    let s := collisionOver x (endMessage x 3 (s.modLink x fun l => { l with flight := some m }))
    if m.type = 0x07 then swapEnds x 3 s else s

/-- `MESSAGE_TRANSMIT` (R282, R287): an acknowledgement first, then the message to be sent again, then the queue in
its order; one message is in flight at a time. -/
def execMessageTransmit (x : Fin 4) (collided : Bool) := linkEvent fun s =>
  let l := s.links[x]
  if l.backoff || !l.linked then s
  else if !l.acksDue.isEmpty then transmitAck x collided s
  else match l.flight with
    | some m => if l.resend then transmitMsg x m collided s else s
    | none => match l.txq with
      | [] => s
      | m :: ms => transmitMsg x m collided (s.modLink x fun l => { l with txq := ms })

/-- `COLLISION_BACKOFF_END` (R287): the message may be transmitted again. -/
def execCollisionBackoffEnd (x : Fin 4) := linkTimer x (fun s => s.links[x].backoff) fun s =>
  s.modLink x fun l => { l with backoff := false }

/-- `ACKNOWLEDGEMENT_WAIT_END` (R288): a retry with the same counter, at most two; then outcome 1. -/
def execAcknowledgementWaitEnd (x : Fin 4) :=
  linkTimer x (fun s => s.links[x].flight.isSome && !s.links[x].resend) fun s =>
  if s.links[x].retries < 2 then
    s.modLink x fun l => { l with retries := l.retries + 1, txErr := l.txErr + 1, resend := true }
  else endMessage x 1 s

/-- A vendor-defined header passes in either direction (R305): an Enter request and its ACK enter a mode, firmware
relay only with a contract in force; an Exit ACK leaves it. -/
def vendorPass (o : BitVec 32) (l : LinkPort) : LinkPort :=
  let m : BitVec 3 := if 1 ≤ vdMode o ∧ vdMode o ≤ 3 then 1#3 <<< (vdMode o - 1) else 0
  let ok := l.inForce || decide (vdMode o ≠ 3)
  match vdCommand o, vdKind o with
  | 2, 0 => { l with enterAsked := l.enterAsked ||| m }
  | 2, 1 => { l with modes := if ok then l.modes ||| (l.enterAsked &&& m) else l.modes
                     enterAsked := l.enterAsked &&& ~~~m }
  | 2, 2 => { l with enterAsked := l.enterAsked &&& ~~~m }
  | 3, 1 => { l with modes := l.modes &&& ~~~m }
  | _, _ => l

/-- Both counters return to 0 and modes are left; the contract is void with cause soft reset (R288, R298, R305). -/
def softReset (x : Fin 4) (s : State) : State :=
  (voidLink x 12 false s).modLink x fun l => { l with txCtr := 0, rxCtr := 0, modes := 0, enterAsked := 0 }

/-- `ACKNOWLEDGEMENT` (R288, R303): the message in flight is complete and the counter advances; an acknowledged Accept
to a swap request starts the swap, an acknowledged Soft reset clears the counters. It is a received message: in a sample that
acted on another event it is discarded, and the wait for it runs out (R282). -/
def execAcknowledgement (x : Fin 4) (ctr : BitVec 3) := linkEvent fun s =>
  let l := s.links[x]
  match l.flight with
  | none => s
  | some m =>
    if l.resend ∨ ctr ≠ l.txCtr ∨ l.acted ≠ 0 then s else
    let s := (endMessage x 0 s).modLink x fun l => { l with txMsgs := l.txMsgs + 1 }
    let s := match m.type, m.objs with
      | 0x20, o :: _ => s.modLink x (vendorPass o)
      | _, _ => s
    if m.type = 0x09 then softReset x s
    else if m.cls = .swapAnswer ∧ m.type = 0x01 then enterSwap x s
    else s

/-- Types that are not put in the receive buffer (R290). -/
def unbuffered (type : Nat) : Bool := decide (type = 0x00 ∨ type = 0x05 ∨ type = 0x06)

/-- A received message is discarded where an event of higher rank has acted in this sample: a Void ranks before the commands and
after the timers, every other message after the commands (R282). -/
def discards (type : Nat) (acted : Nat) : Bool := decide (acted ≠ 0) && !(decide (type = 0x08) && decide (5 < acted))

/-- `MESSAGE_RECEIVED` (R282, R285, R286, R288, R289): the frame's own handling; in a sample that acted on a link event of higher
rank it is discarded and not acknowledged. What a message of a given type then does is the
row of that type (log entry 9). -/
def execMessageReceived (x : Fin 4) (f : Frame) (codesOk : Bool) := linkEvent fun s =>
  let l := s.links[x]
  let m := msgOf f
  if !l.linked || discards m.type l.acted then s
  else if !frameOk f codesOk || decide (m.role = l.role) then s.modLink x fun l => { l with rxErr := l.rxErr + 1, evCrc := true }
  else if m.type = 0x00 then s
  else if l.rxValid ∧ m.ctr = l.rxCtr ∧ m.type = l.rxType then
    s.modLink x fun l => { l with acksDue := l.acksDue ++ [m.ctr] }
  else if !unbuffered m.type && decide (8 ≤ l.rx.length) then s.modLink x fun l => { l with evRxOvf := true }
  else
    s.modLink x fun l =>
      { l with
        rxCtr := m.ctr, rxType := m.type, rxValid := true, rxMsgs := l.rxMsgs + 1, acksDue := l.acksDue ++ [m.ctr]
        rx := if unbuffered m.type then l.rx else l.rx ++ [m]
        reqWaiting := l.reqWaiting || decide (m.type = 0x11) }

/-- An effect of a received message other than a Void on a link, in a sample with no event of higher rank (R282). -/
def received (x : Fin 4) (f : State → State) (s : State) : Host.Outcome State Fault Refusal :=
  linkEvent (fun s => if s.links[x].linked && decide (s.links[x].acted = 0) then f s else s) s

/-- `ACCEPT` (R294, R300, R302): it completes an own swap request, or lets the responder apply its contract. -/
def execAccept (x : Fin 4) := received x fun s =>
  if s.links[x].swapOwn then enterSwap x (swapEnds x 0 s)
  else
    let pick := s.links[x].offerPick
    let s := s.modLink x fun l => { l with acceptRecv := true, readyRem := false, offerPick := none }
    match pick with
    | some (v, c) =>
      if responderOn x s then
        applyContract x (v.toNat % 4096) (v.toNat / 4096 % 4096) (c.toNat % 4096) true s
      else s
    | none => s

/-- The responder returns to its first step after 500 ms (R300). -/
def responderAgain (x : Fin 4) (s : State) : State :=
  if responderOn x s then s.modLink x fun l => { l with tResponder := true, offerPick := none } else s

/-- `REJECT` (R300, R302). -/
def execReject (x : Fin 4) := received x fun s =>
  if s.links[x].swapOwn then swapEnds x 2 s else responderAgain x s

/-- `WAIT` (R300, R302): a Wait to a swap request holds back the next one for 200 ms. -/
def execWait (x : Fin 4) := received x fun s =>
  if s.links[x].swapOwn then (swapEnds x 1 s).modLink x fun l => { l with tSwapRetry := true }
  else responderAgain x s

/-- `READY` (R294): a sink in TRANSITION enters CONTRACT; after an Accept it is remembered. -/
def execReady (x : Fin 4) := received x fun s =>
  s.modLink x fun l =>
    if l.role then l
    else { l with readyRem := l.readyRem || l.acceptRecv
                  state := if l.state = .transition then .contract else l.state
                  kaVoid := if l.state = .transition then 0 else l.kaVoid, tReady := false }

/-- `KEEP_ALIVE_REQUEST` (R297): a source answers and restarts its void timer. -/
def execKeepAliveRequest (x : Fin 4) := received x fun s =>
  if s.links[x].role && s.links[x].inForce then
    (send x { cls := .keepAlive, type := 0x06, objs := [], via := none } s).modLink x fun l => { l with kaVoid := 0 }
  else s

/-- `KEEP_ALIVE_RESPONSE` (R297): a sink restarts its void timer. -/
def execKeepAliveResponse (x : Fin 4) := received x fun s =>
  if s.links[x].role then s else s.modLink x fun l => { l with kaVoid := 0 }

/-- The answer to a Role-swap request (R302): type of the message, and whether an own request ends. -/
def swapAnswer (x : Fin 4) (s : State) : Nat × Bool :=
  let l := s.links[x]
  if s.sys.st = .boot ∨ s.sys.st = .hold ∨ s.sys.st = .recovery ∨ l.state = .transition ∨ l.state = .swap then (3, false)
  else if l.swapOwn then (if l.lead then (3, false) else (1, true))
  else if l.present ≠ .dual then (2, false)
  else (1, false)

/-- An own Role-swap request is not sent further (R288, R302): waiting it is dropped, in flight it is abandoned. -/
def dropSwapRequest (x : Fin 4) (s : State) : State :=
  let s := s.modLink x fun l => { l with txq := l.txq.filter fun m => decide (m.type ≠ 0x07) }
  if s.links[x].flight.any fun m => decide (m.type = 0x07) then endMessage x 3 s else s

/-- `ROLE_SWAP_REQUEST` (R302). -/
def execRoleSwapRequest (x : Fin 4) := received x fun s =>
  let r := swapAnswer x s
  let s := if r.2 then dropSwapRequest x (swapEnds x 1 s) else s
  send x { cls := .swapAnswer, type := r.1, objs := [], via := none } s

/-- `VOID` (R282, R298). -/
def execVoid (x : Fin 4) := linkEvent fun s =>
  if s.links[x].linked && s.links[x].inForce && !discards 0x08 s.links[x].acted then linkActs x 5 (voidLink x 2 false s) else s

/-- `SOFT_RESET` (R288). -/
def execSoftReset (x : Fin 4) := received x (softReset x)

/-- The fields of an offer lie in the ranges of R291, its reserved bits at 0. -/
def offerOk (v c : BitVec 32) : Bool :=
  let lo := v.toNat % 4096
  let hi := v.toNat / 4096 % 4096
  decide (1000 ≤ lo ∧ lo ≤ 4000 ∧ 1000 ≤ hi ∧ hi ≤ 4000) && decide (v.toNat / 2 ^ 24 ≤ 2) && decide (c.toNat ≤ 4000)

/-- The first offer whose window contains the port voltage, or the first of all below 60 V (R300). An offer whose fields fail
the check of R291 is passed over (DESIGN CHOICE, log entry 69). -/
def pickOffer (mv : Int) : List (BitVec 32) → Option (BitVec 32 × BitVec 32)
  | v :: c :: os =>
    if offerOk v c ∧
        (mv < 60000 ∨ ((v.toNat % 4096 * 250 : Nat) ≤ mv ∧ mv ≤ (v.toNat / 4096 % 4096 * 250 : Nat))) then some (v, c)
    else pickOffer mv os
  | _ => none

/-- `OFFER` (R300): the responder requests the offer it chooses, limited to 8.00 A. -/
def execOffer (x : Fin 4) (objs : List (BitVec 32)) := received x fun s =>
  if responderOn x s then
    let s := s.modLink x fun l => { l with tResponder := false }
    match pickOffer s.ports[x].vin objs with
    | none => s
    | some (v, c) =>
      let c : BitVec 32 := BitVec.ofNat 32 (min 160 (c.toNat % 4096))
      send x { cls := .responder, type := 0x11, objs := [v, c], via := none }
        (s.modLink x fun l => { l with offerPick := some (v, c) })
  else s

/-- `VENDOR_DEFINED` (R305). -/
def execVendorDefined (x : Fin 4) (object0 : BitVec 32) := received x fun s => s.modLink x (vendorPass object0)

/-! ### Timers and the tie -/

/-- `KEEP_ALIVE` (R297): a sink in CONTRACT sends a Keep-alive request. -/
def execKeepAlive (x : Fin 4) := linkTimer x (fun s => decide (s.links[x].state = .contract) && !s.links[x].role)
  (send x { cls := .keepAlive, type := 0x05, objs := [], via := none })

/-- The contract is void for want of keep-alives: a timer of the link has acted (R282, R297). -/
def keepAliveOut (x : Fin 4) (s : State) : State :=
  linkActs x 4 (voidLink x 3 true (s.modLink x fun l => { l with evKa := true }))

/-- `KEEP_ALIVE_TIMEOUT` (R282, R297). -/
def execKeepAliveTimeout (x : Fin 4) := linkTimer x (fun s => decide (s.links[x].state = .contract)) (keepAliveOut x)

/-- `WINDOW_CONFIRM` (R293): the cable has stayed in the window for 10 ms; Ready is sent if the apply followed an
Accept. -/
def execWindowConfirm (x : Fin 4) (v : Int) := portEvent x v fun s =>
  let l := s.links[x]
  if l.state = .transition && l.role && inContract l v && decide (l.acted = 0 ∨ 4 < l.acted) then
    let s := s.modLink x fun l => { l with acted := 4, state := .contract, tTransition := false, readyDue := false, kaVoid := 0 }
    if l.readyDue then send x { cls := .readyMsg, type := 0x04, objs := [], via := none } s else s
  else s

/-- `TRANSITION_TIMEOUT` (R282, R293): the transition timer, or the tie close timer with TIE_EN not asserted. -/
def execTransitionTimeout (x : Fin 4) := linkTimer x (fun s => s.links[x].tTransition || s.links[x].tTieClose) fun s =>
  if s.links[x].tTransition then
    let s := { s with tie := { s.tie with en := false, timeout := true } }
    alert 2 6 6 x.val 0 (voidLink x 4 true (s.modLink x fun l => { l with evTransFail := true }))
  else voidLink x 4 true s

/-- `READY_TIMEOUT` (R282, R294). -/
def execReadyTimeout (x : Fin 4) := linkTimer x (fun s => s.links[x].tReady) fun s =>
  voidLink x 5 true (s.modLink x fun l => { l with evTransFail := true })

/-- `NEGOTIATION_TIMEOUT` (R282, R295). -/
def execNegotiationTimeout (x : Fin 4) := linkTimer x (fun s => s.links[x].tNegotiation) fun s =>
  voidLink x 6 true { s with tie := { s.tie with en := false } }

/-- The tie trip level of a limit in 0.05 A, in 10 mA (R296): above 1.25 × the limit and above the limit + 2.0 A. -/
def tieTrips (lim : Nat) (i : Int) : Bool := decide ((25 * lim : Nat) < 4 * i ∧ (5 * lim + 200 : Nat) < i)

/-- `TIE_TRIP` (R296). -/
def execTieTrip (i : Int) := linkEvent fun s =>
  let s := { s with tie := { s.tie with cur := i } }
  if s.tie.en && tieTrips s.links[(3 : Fin 4)].ciLim i then
    let s := { s with tie := { s.tie with en := false, trip := true } }
    linkActs 3 2 (voidLink 3 7 true (alertRec (linkRecord 3 5 7) 0 6 5 3 0 s))
  else s

/-- `RESPONDER_REPEAT` (R300). -/
def execResponderRepeat (x : Fin 4) := linkTimer x (fun s => s.links[x].tResponder) fun s =>
  if responderOn x s then offerRequest x s
  else s.modLink x fun l => { l with tResponder := false }

/-! ### Role swap -/

/-- `SWAP_ANSWER_TIMEOUT` (R282, R302). -/
def execSwapAnswerTimeout (x : Fin 4) := linkTimer x (fun s => s.links[x].tSwapAnswer) (swapEnds x 3)

/-- `SWAP_RETRY` (R302): 200 ms after a Wait a held request goes out. -/
def execSwapRetry (x : Fin 4) := linkTimer x (fun s => s.links[x].tSwapRetry) fun s =>
  let held := s.links[x].swapHeld
  let s := s.modLink x fun l => { l with tSwapRetry := false, swapHeld := false }
  if held then sendSwap x s else s

/-- `SWAP_PRESENTATION` (R303): the old source presents sink. -/
def execSwapPresentation (x : Fin 4) :=
  linkTimer x (fun s => decide (s.links[x].state = .swap) && s.links[x].role) fun s =>
    s.modLink x fun l => { l with phaseSource := false }

/-- `SWAP_PILOT_LOW` (R279, R303): the old sink presents source, its intake DISABLED; only port D can. -/
def execSwapPilotLow (x : Fin 4) (v : Int) := pilotEvent x v fun s =>
  if s.links[x].state = .swap && !s.links[x].role && decide (x = 3) && decide (v < Config.attachLow) then
    sourceOff x (s.modLink x fun l => { l with phaseSource := true })
  else s

/-- `SWAP_ATTACH` (R303): the pilot is in band under the new presentations; roles are exchanged, the new source holds
the lead role, counters and modes are cleared. -/
def execSwapAttach (x : Fin 4) (v : Int) := pilotEvent x v fun s =>
  let l := s.links[x]
  if l.state = .swap ∧ inBand v ∧ l.phaseSource ≠ l.role then
    sourceOff x ((dropMessages x 2 s).modLink x fun l =>
      { l.detach .attached with role := l.phaseSource, lead := l.phaseSource, evSwap := true })
  else s

/-- `SWAP_WINDOW_END` (R282, R303): without the new presentations the port goes BLANK. -/
def execSwapWindowEnd (x : Fin 4) := linkTimer x (fun s => decide (s.links[x].state = .swap)) fun s =>
  sourceOff x (detachTo x .blank s)

end Sys2Proof.Machine
end

