-- ==== Sys2Proof/Machine/RegMap.lean ====
section
/-! DEFINITION. The host register map as it reads (R434): every register of every page, the snapshot latches of each
bus (R184, R185, R214), and a read of a run of words. -/

namespace Sys2Proof.Machine

/-! ### Pages -/

/-- SYS page below the shares (R435, R28, R24, R371, R96, R122, R419, R238, R322). The identity words are loaded in BOOT. -/
def sysReg (s : State) (a : Nat) : Word :=
  let y := s.sys
  let b := s.bus
  let p := s.bp
  match a with
  | 0x00 => 0x5120
  | 0x01 => word (0x1000 + (if y.st = .boot then 0 else Config.boardIssue.toNat + bit Config.isLC 8))
  | 0x02 => wordOf s.fw.runVer.toNat 0
  | 0x03 => wordOf s.fw.runVer.toNat 1
  | 0x04 => word (modCode y.st + 16 * y.cause + bit y.holdSeen 8 + 4096 * y.holdCount)
  | 0x05 => word ((y.clOn &&& (y.cores >>> 4).setWidth 4).toNat + 16 * y.clWaking.toNat)
  | 0x06 => word (y.hkSrc + bit y.auxOk 2 + 8 * y.srcOk.toNat + bit (decide (y.tapOk ≠ 0)) 7 + bit y.estop 8
      + bit y.hkChanged 9)
  | 0x07 => word (bit y.keyLow 0 + bit y.keyShort 1 + bit y.recReq 2)
  | 0x08 => word (y.last + 8 * s.fw.active + bit y.fallback 4 + bit y.trial 5 + bit y.reverted 6)
  | 0x10 => word (y.syncSrc + bit y.syncValid 2 + bit y.syncLoss 3 + bit y.syncDis 4 + 32 * y.slotAddr.toNat)
  | 0x11 => word y.fsw
  | 0x12 => word ((clamp 0 4095 (y.trackMv * 4096 / 5000)).toNat + bit y.trackValid 12 + bit y.trackFault 13)
  | 0x13 => word (s.vsel.pins + 8 * s.vsel.applied + bit s.vsel.noneYet 6 + bit s.vsel.enabled 7 + bit s.vsel.pending 8
      + bit s.vsel.fail 9)
  | 0x14 => word (bit y.strEn 0 + bit y.strFb 1 + bit (fbMismatch y) 2 + bit y.shValid 3 + bit y.shLost 4 + bit y.shFault 5
      + bit y.shRange 6 + bit y.divOn 7)
  | 0x15 => wordOf y.iStr 0
  | 0x16 => wordOf y.iStr 1
  | 0x17 => wordOf y.vStr 0
  | 0x18 => wordOf y.vStr 1
  | 0x19 => if y.inlet < -450 ∨ 900 < y.inlet then 0x8000 else BitVec.ofInt 16 y.inlet
  | 0x20 => word (bit b.spiCrc 0 + bit b.twPec 1 + bit b.ctlFast 2 + bit b.araEn 3)
  | 0x21 => word (b.spiLast + 8 * b.twLast + bit b.twStuck 6 + bit b.arbLost 7 + 256 * b.level + bit b.alertOut 10
      + bit b.busErr 11)
  | 0x22 => word b.spiErr
  | 0x23 => word b.twErr
  | 0x24 => word (b.ctlArb + 256 * b.ctlRecover)
  | 0x30 => word (bit p.standalone 0 + 2 * p.nmod.toNat + 16 * p.faultAct.toNat)
  | 0x31 => word (bit p.leader 0 + 2 * p.leaderAddr.toNat + bit p.beatOk 4 + bit p.addrDup 5 + bit p.faultIn 6
      + bit (decide (y.st = .safe)) 7 + bit p.shareRej 8 + bit p.fallback 9)
  | 0x32 => word p.cap
  | 0x33 => beatWord p.beatAddr p.beatSeq
  | _ => 0

/-- `SYS_SHAREnn` (R322). -/
def shareReg (t : Tap) : Word :=
  word (t.cfg.share + bit t.cfg.helper 5 + 64 * t.cfg.partnerAddr.toNat + 512 * t.cfg.partnerTap.toNat)

/-- A mailbox register (R252). -/
def mbxReg (m : Mailbox) (off : Nat) : Word :=
  let ready := decide (m.state = .ready)
  if off = 0 then word (mbxCode m.state + bit m.early 2 + (if ready then 8 * m.res.length + 256 * m.code else 0))
  else if off = 1 then word (m.accept + 256 * m.seq.toNat)
  else if off = 2 then 0
  else if off = 3 then m.opcode
  else if off < 0x22 then m.args.toList.getD (off - 4) 0
  else if ready then m.res.getD (off - 0x22) 0 else 0

/-- The head of the alert queue (R437): the lowest class, and in it the lowest sequence number. -/
def headAlert (q : List Alert) : Option Alert :=
  (q.find? fun a => a.cls = 0).orElse fun _ => (q.find? fun a => a.cls = 1).orElse fun _ =>
    (q.find? fun a => a.cls = 2).orElse fun _ => q.head?

/-- The twelve words of the head entry (R441). -/
def headWords (q : List Alert) : List Word := match headAlert q with
  | none => List.replicate 12 0
  | some a => wordsOf 2 a.seq ++ [word (256 * a.kind + a.reason),
      word (a.cls + bit a.deferred 2 + bit a.timeValid 3 + 256 * a.inst)] ++ wordsOf 2 a.param.toNat ++ wordsOf 4 a.time
      ++ wordsOf 2 a.bbxSeq

/-- ALR page (R441), by the offset from 0x0200. -/
def alrReg (s : State) (off : Nat) : Word :=
  let q := s.alr.queue
  if off = 0 then
    word (q.length + ((indices 4).map fun c => bit (q.any fun a => decide (a.cls = c.val)) (8 + c.val)).sum
      + bit s.alr.overflow 12 + bit s.alr.ackMiss 13 + 16384 * ((headAlert q).map (·.cls)).getD 0)
  else if off = 1 then word s.alr.lost
  else if off = 2 then wordOf s.alr.ackSeq 0
  else if off = 3 then wordOf s.alr.ackSeq 1
  else if 0x10 ≤ off then (headWords q).getD (off - 0x10) 0
  else 0

/-- POUR page (R210), by the offset from 0x0300. -/
def pourReg (s : State) (off : Nat) : Word :=
  let p := s.pour
  match off with
  | 0 => word (pourCode p.state + bit p.pulling 3 + bit (p.pulling && (p.veto || p.holdPull)) 4 + bit p.tick 5 + bit p.ignored 6
      + bit p.profile 7 + bit p.skips 8 + bit p.resultValid 15)
  | 1 => p.id
  | 2 => word p.result
  | 3 => word p.fail
  | 5 => word (if p.tick then 0 else p.low10us)
  | 6 => word p.commits
  | _ => if 0x40 ≤ off ∧ off < 0x80 then match p.entries[off - 0x40]? with
      | some e => word (e.outcome + if e.outcome = 5 then 256 * (e.code % 256) else 0)
      | none => 0
    else 0

/-- Word `k` of a counter as the map shows it: 0 until the counters are restored (R183, R194). -/
def ctrWord (s : State) (c : Ctr) (k : Nat) : Word := if s.mtr.restored then wordOf c.val.toNat k else 0

/-- The counter at a counter index of the MTR page (R194): seven per tap, two per port, three totals. -/
def mtrCtr (s : State) (i : Nat) : Ctr :=
  if i < 224 then (tapCtrList (s.ctrs.taps.toList.getD (i / 7) .reset)).getD (i % 7) .reset
  else if i < 232 then
    let p := s.ctrs.ports.toList.getD ((i - 224) / 2) .reset
    if i % 2 = 0 then p.eIn else p.qIn
  else if i = 232 then s.ctrs.sfSupTotal else if i = 233 then s.ctrs.sfConTotal
  else if i = 234 then s.ctrs.eString else .reset

/-- The latch of the counters is bypassed (R185). -/
def latchByp (s : State) : Bool := decide (s.sys.st = .boot ∨ s.sys.st = .recovery) || s.mon.testLatch

/-- Alarm timer `k` (R194). -/
def alarmAt (s : State) (k : Nat) : Alarm := s.mtr.alarms.toList.getD k .reset

/-- MTR page (R194), by the offset from 0x0400. -/
def mtrReg (s : State) (off : Nat) : Word :=
  let m := s.mtr
  if off < 0x3AC then ctrWord s (mtrCtr s (off / 4)) (off % 4)
  else match off with
  | 0x3C0 => word (bit (latchByp s) 0 + bit s.sys.timeValid 1 + bit m.snapSeen 2 + bit m.snapMissed 3
      + 16 * m.pending.length + bit (!m.stmt.isEmpty) 7 + bit m.restoreGap 8 + bit m.restored 9)
  | 0x3C1 => wordOf m.snapSeq 0
  | 0x3C2 => wordOf m.snapSeq 1
  | 0x3C3 => wordOf m.stmtSeq 0
  | 0x3C4 => wordOf m.stmtSeq 1
  | _ => if 0x3D0 ≤ off ∧ off < 0x3F0 then
      let k := alarmAt s ((off - 0x3D0) / 8)
      match off % 8 with
      | 0 => word (bit k.running 2 + bit k.expired 3 + 16 * k.action.toNat)
      | 1 => wordOf k.load 0
      | 2 => wordOf k.load 1
      | 3 => wordOf k.remain 0
      | 4 => wordOf k.remain 1
      | _ => 0
    else 0

/-- The timer shown in `TAPnn_STATE.TIMER` (R160): the one that counted last, while it stays armed or expired. -/
def timerOf (t : Tap) : Nat :=
  let held (k : SafetyTimer) (c : Nat) : Nat := if k.armed || k.expired then c else 0
  match t.timerShown with
  | 1 => held t.pre 1
  | 2 => held t.chg 2
  | 3 => held t.top 3
  | _ => 0

/-- `TAPnn_TIMER` (R160): time left on the timer shown, in seconds rounded up. -/
def timerWord (t : Tap) : Word :=
  let left (k : SafetyTimer) : Word := word ((k.size * 256 - k.elapsed + 255999) / 256000)
  match timerOf t with
  | 1 => left t.pre
  | 2 => left t.chg
  | 3 => left t.top
  | _ => 0xFFFF

/-- Reading of an NTC input: 0x8000 unless it is fitted and plausible (R137, R160). -/
def ntcReg (t : Tap) (k : Nat) (v : Int) : Word := if k ≤ (t.desc.getD .reset).ntcs then ntcWord v else 0x8000

/-- An NTC input is fitted and not plausible (R160). -/
def ntcBad (t : Tap) (k : Nat) (v : Int) : Bool := decide (k ≤ (t.desc.getD .reset).ntcs) && !plausible v

/-- `TAPnn_REFSTAT.PHASE` (R122). -/
def phase (k : Stake) : Nat := if k.start = .hiccup then 3 else if k.softStart then 1 else if k.slewing then 2 else 0

/-- The rating is derated (R88, R89): lowered, but not withdrawn. -/
def derated (s : State) (n : Fin 32) : Bool :=
  if s.taps[n].cfg.gang then decide (8 ≤ pairSum s n ∧ pairSum s n < 30)
  else decide (4 ≤ s.taps[n].stake.healthy ∧ s.taps[n].stake.healthy < 15)

/-- `TAPnn_ILIM_STAKE` (R96). -/
def ilimReg (s : State) (n : Fin 32) : Word := if gangedOdd s n then 0 else word (stakeLimit s n)

/-- Removal action code (R160). -/
def removalCode : RemovalAct → Nat
  | .standIn => 0 | .bypass => 1 | .openTap => 2

/-- Mirror block of a tap (R160, R179, R122, R96); state and cause of a pair are tap 2k's (R136). -/
def tapReg (s : State) (n : Fin 32) (off : Nat) : Word :=
  let t := s.taps[n]
  let h := s.taps[headTap s n]
  let k := t.stake
  match off with
  | 0x00 => word (tapCode h.state + 16 * h.cause + bit (history s n).isSome 8 + 512 * timerOf t + bit t.stretch 11
      + bit t.hostStop 12 + bit t.cfg.keepEn 13 + 16384 * removalCode t.cfg.removal)
  | 0x01 => word (bit (ntcBad t 1 t.ntcA) 0 + bit (ntcBad t 2 t.ntcB) 1 + bit t.kelvinBad 2 + bit t.reverse 3
      + bit t.overcharge 4 + bit t.removed 5 + bit t.inserted 6 + bit t.timerExp 7 + bit t.cupDone 8 + bit t.eoc 9
      + bit t.fallback 10 + bit t.ntcSplit 11 + bit t.pourSkip 12)
  | 0x02 => wordOf t.vKel 0
  | 0x03 => wordOf t.vKel 1
  | 0x04 => wordOf (iBlk s n) 0
  | 0x05 => wordOf (iBlk s n) 1
  | 0x06 => wordOf t.iStk 0
  | 0x07 => wordOf t.iStk 1
  | 0x08 => ntcReg t 1 t.ntcA
  | 0x09 => ntcReg t 2 t.ntcB
  | 0x0A => word (t.limit + 16 * t.band)
  | 0x0B => wordOf (effCv t) 0
  | 0x0C => wordOf (effCv t) 1
  | 0x0D => timerWord t
  | 0x0E => word t.dose
  | 0x0F => word (t.cls + bit t.cut 3 + bit (decide (0 < t.cfg.minCur)) 4 + bit s.arb.frozen 5 + 256 * t.fill)
  | 0x10 => word (((history s n).bind (·.cup)).map (·.1) |>.getD 0)
  | 0x11 => word (((history s n).bind (·.cap)).getD 0)
  | 0x14 => wordOf (k.vref / 1000) 0
  | 0x15 => wordOf (k.vref / 1000) 1
  | 0x16 => word (phase k + 4 * k.attempts + bit t.tracking 4 + bit t.keepLow 5 + bit k.slotByp 6 + bit k.slotFb 7
      + bit (decide (t.state = .standIn) && !k.conv && k.slotFb) 8 + bit k.bypFail 9 + bit k.prebiasFail 10 + bit k.shortSeen 11 + bit k.droopSi 12)
  | 0x18 => word (k.nActive + 32 * k.bank + bit t.cfg.gang 7 + bit (derated s n) 8 + bit k.withdrawn 9 + bit k.brake 10
      + bit (k.rods.toList.any fun r => r.susp) 11 + bit k.pretestFail 12
      + bit (decide (s.sys.syncSrc = 2)) 13)
  | 0x19 => word ((indices 16).map fun p => bit k.rods[p].healthy p.val).sum
  | 0x1A => word ((indices 16).map fun p => bit k.rods[p].active p.val).sum
  | 0x1B => ilimReg s n
  | _ => 0

/-- Block of a port (R57). -/
def srcReg (s : State) (x : Fin 4) (off : Nat) : Word :=
  let p := s.ports[x]
  let l := s.links[x]
  match off with
  | 0x0 => word (portCode p.state + bit (l.inForce && !l.role) 3 + 16 * p.lastTrip + bit p.handoverWait 7
      + 256 * min 3 (recent s.sys.uptime 60000 p.trips).length + bit p.cal 10)
  | 0x1 => word p.tripTotal
  | 0x2 => wordOf p.vin 0
  | 0x3 => wordOf p.vin 1
  | 0x4 => wordOf p.iin 0
  | 0x5 => wordOf p.iin 1
  | 0x6 => wordOf p.pin 0
  | 0x7 => wordOf p.pin 1
  | 0x8 => word (effLimit s x)
  | 0x9 => word p.allow
  | _ => 0

/-- Hub and arbiter registers (R57, R179), by the offset from 0x0C80. -/
def hubReg (s : State) (off : Nat) : Word :=
  let h := s.hub
  match off with
  | 0x00 => word (bit (decide (Config.hubLow ≤ h.v ∧ h.v ≤ Config.hubHigh)) 0 + bit h.droop 1 + bit h.handover 2 + bit h.ov 3
      + bit (!anyOnline s) 4 + 32 * selCode h.modeIn)
  | 0x02 => wordOf h.v 0
  | 0x03 => wordOf h.v 1
  | 0x04 => wordOf h.pavail 0
  | 0x05 => wordOf h.pavail 1
  | 0x40 => arbShort s ||| word (bit s.arb.binding 0 + bit s.arb.frozen 5 + bit s.arb.inletBad 6 + bit s.arb.cutSeen 7
      + bit s.arb.overcommit 8)
  | 0x42 => wordOf s.arb.budget 0
  | 0x43 => wordOf s.arb.budget 1
  | 0x44 => word s.arb.qMax
  | 0x46 => wordOf s.arb.grant 0
  | 0x47 => wordOf s.arb.grant 1
  | 0x48 => word s.arb.periods
  | _ => 0

/-- WDG and BBX page (R349), by the offset from 0x0E00. -/
def wdgReg (s : State) (off : Nat) : Word :=
  let b := s.bbx
  if off < 22 then aonReg s off else
  match off with
  | 0x16 => wordOf b.winSeq 0
  | 0x17 => wordOf b.winSeq 1
  | 0x18 => word b.pane.toNat
  | 0x19 => word (bit b.winValid 0 + bit b.winBusy 1 + bit b.winNotHeld 2 + bit b.winCopyB 3 + bit b.winDamaged 4
      + 256 * b.winType)
  | 0x1A => word b.winLen
  | _ => if 0x80 ≤ off then b.win.getD (off - 0x80) 0 else 0

/-- Block of a link port (R309). -/
def lnkReg (s : State) (x : Fin 4) (off : Nat) : Word :=
  let l := s.links[x]
  match off with
  | 0x0 => word (linkCode l.state + bit l.role 3 + 16 * presentCode l.present + bit l.lead 6 + bit l.provisional 7
      + bit l.deadbatt 8 + 512 * l.modes.toNat + 4096 * l.rx.length)
  | 0x1 => word (bit l.evAttach 0 + bit l.evDetach 1 + bit l.evVoid 2 + bit l.evTransFail 3 + bit l.evKa 4 + bit l.evRxOvf 5
      + bit l.evCollision 6 + bit l.evSwap 7 + bit l.evCrc 8 + 4096 * l.voidCause)
  | 0x2 => word l.cwMin
  | 0x3 => word l.cwMax
  | 0x4 => word l.ciLim
  | 0x5 => wordOf l.age 0
  | 0x6 => wordOf l.age 1
  | 0x7 => BitVec.ofInt 16 l.pilot
  | 0x8 => word (l.txMsgs.toNat + 256 * l.txErr.toNat)
  | 0x9 => word (l.rxMsgs.toNat + 256 * l.rxErr.toNat)
  | 0xA => word (l.txCtr.toNat + 8 * l.rxCtr.toNat + bit l.rxValid 6)
  | _ => 0

/-- Tie registers (R309), by the offset from 0x0F40. -/
def tieReg (s : State) (off : Nat) : Word := match off with
  | 0 => word (bit s.tie.en 0 + bit (tieInWindow s) 1 + bit s.tie.trip 2 + bit s.tie.timeout 3)
  | 2 => wordOf s.tie.cur 0
  | 3 => wordOf s.tie.cur 1
  | _ => if 4 ≤ off ∧ off < 8 then ctrWord s s.ctrs.tieE (off - 4) else 0

/-- The register at a host address as it stands (R434); an address no register occupies reads 0 (R211). -/
def live (s : State) (a : Nat) : Word :=
  if a < 0x40 then sysReg s a
  else if a < 0x60 then shareReg (s.taps[tapOf (a - 0x40)])
  else if a < 0x100 then 0
  else if a < 0x200 then mbxReg s.mbx[portOf ((a - 0x100) / 0x40)] (a % 0x40)
  else if a < 0x280 then (if a < 0x21C then alrReg s (a - 0x200) else 0)
  else if a < 0x300 then fltReg s (a - 0x280)
  else if a < 0x400 then pourReg s (a - 0x300)
  else if a < 0x800 then mtrReg s (a - 0x400)
  else if a < 0xC00 then tapReg s (tapOf ((a - 0x800) / 0x20)) (a % 0x20)
  else if a < 0xC40 then srcReg s (portOf ((a - 0xC00) / 0x10)) (a % 0x10)
  else if a < 0xC80 then 0
  else if a < 0xE00 then hubReg s (a - 0xC80)
  else if a < 0xF00 then wdgReg s (a - 0xE00)
  else if a < 0xF40 then lnkReg s (portOf ((a - 0xF00) / 0x10)) (a % 0x10)
  else if a < 0x1000 then tieReg s (a - 0xF40)
  else 0

/-! ### Registers updated every 5 ms -/

/-- The registers that are updated once per period take up what stands now (R57, R96, R122, R160, R179, R442). -/
def refreshShown (s : State) : State :=
  { s with shown := { s.shown with
      taps := vec fun n => (indices 28).map fun o => tapReg s n o.val
      ports := vec fun x => (indices 10).map fun o => srcReg s x o.val
      hub := (indices 73).map fun o => hubReg s o.val
      flt := fltWords s
      vsel := sysReg s 0x13 } }

/-- What a read of a host address gives: for the registers updated every 5 ms what they showed last, for the WDG and BBX registers what
the HOST island mirrored last (R349), else the register as it stands; `FLT_MODULE` is updated at once (R442). -/
def hostReg (s : State) (a : Nat) : Word :=
  if a = 0x13 then s.shown.vsel
  else if 0x281 ≤ a ∧ a < 0x300 then s.shown.flt.getD (a - 0x280) 0
  else if 0x800 ≤ a ∧ a < 0xC00 then s.shown.taps[tapOf ((a - 0x800) / 0x20)].getD (a % 0x20) 0
  else if 0xC00 ≤ a ∧ a < 0xC40 then s.shown.ports[portOf ((a - 0xC00) / 0x10)].getD (a % 0x10) 0
  else if 0xC80 ≤ a ∧ a < 0xE00 then s.shown.hub.getD (a - 0xC80) 0
  else if 0xE00 ≤ a ∧ a < 0xE16 then s.shown.aon.getD (a - 0xE00) 0
  else live s a

/-! ### Snapshot latches -/

/-- Base and length of the RS group an address lies in, if any: the lower word latches the others (R10, R214). -/
def rsGroup (a : Nat) : Option (Nat × Nat) :=
  if a < 0x100 then (if a = 2 ∨ a = 3 then some (2, 2) else if a = 0x15 ∨ a = 0x16 then some (0x15, 2)
    else if a = 0x17 ∨ a = 0x18 then some (0x17, 2) else none)
  else if a < 0x210 then none
  else if a < 0x21C then some (0x210, 12)
  else if a < 0x282 then none
  else if a < 0x28A then some (a / 2 * 2, 2)
  else if a < 0x400 then none
  else if a < 0x7AC then some (a / 4 * 4, 4)
  else if a < 0x800 then (if a = 0x7C1 ∨ a = 0x7C2 then some (0x7C1, 2) else if a = 0x7C3 ∨ a = 0x7C4 then some (0x7C3, 2)
    else if 0x7D0 ≤ a ∧ a < 0x7F0 ∧ (a % 8 = 3 ∨ a % 8 = 4) then some (a / 8 * 8 + 3, 2) else none)
  else if a < 0xC00 then
    let o := a % 0x20
    if 2 ≤ o ∧ o < 8 then some (a / 2 * 2, 2)
    else if o = 0xB ∨ o = 0xC then some (a - o + 0xB, 2)
    else if o = 0x14 ∨ o = 0x15 then some (a / 2 * 2, 2) else none
  else if a < 0xC40 then (if 2 ≤ a % 0x10 ∧ a % 0x10 < 8 then some (a / 2 * 2, 2) else none)
  else if 0xC82 ≤ a ∧ a < 0xC86 then some (a / 2 * 2, 2)
  else if a = 0xCC2 ∨ a = 0xCC3 ∨ a = 0xCC6 ∨ a = 0xCC7 then some (a / 2 * 2, 2)
  else if 0xE12 ≤ a ∧ a < 0xE16 then some (a / 2 * 2, 2)
  else if 0xF00 ≤ a ∧ a < 0xF40 ∧ (a % 0x10 = 5 ∨ a % 0x10 = 6) then some (a / 0x10 * 0x10 + 5, 2)
  else if a = 0xF42 ∨ a = 0xF43 then some (0xF42, 2)
  else if 0xF44 ≤ a ∧ a < 0xF48 then some (0xF44, 4)
  else none

/-- Snapshot latches of a bus, by address, addresses rising, no entry 0. -/
abbrev Latches := List (Nat × Word)

/-- A latched word, 0 when none is held (R184). -/
def latchGet : Latches → Nat → Word
  | [], _ => 0
  | (a, w) :: l, k => if a = k then w else latchGet l k

/-- Latch a word. -/
def latchSet : Latches → Nat → Word → Latches
  | [], k, v => if v = 0 then [] else [(k, v)]
  | (a, w) :: l, k, v =>
    if k < a then (if v = 0 then (a, w) :: l else (k, v) :: (a, w) :: l)
    else if k = a then (if v = 0 then l else (a, v) :: l)
    else (a, w) :: latchSet l k v

/-- The latches of a bus (R214, R391). -/
def latches (b : BusId) (s : State) : Latches := match b with
  | .spi => s.bus.latchSpi
  | .twoWire => s.bus.latchTw
  | .monitor => s.bus.latchMon

/-- Put back the latches of a bus. -/
def setLatches (b : BusId) (l : Latches) (s : State) : State := match b with
  | .spi => s.modBus fun u => { u with latchSpi := l }
  | .twoWire => s.modBus fun u => { u with latchTw := l }
  | .monitor => s.modBus fun u => { u with latchMon := l }

/-- Latch the words after the base of a group. -/
def latchGroup (s : State) (base : Nat) : Nat → Latches → Latches
  | 0, l => l
  | k + 1, l => latchGroup s base k (if k = 0 then l else latchSet l (base + k) (hostReg s (base + k)))

/-- The address is a result word of a mailbox (R252). -/
def resAddr (a : Nat) : Option (Fin 4) :=
  if 0x100 ≤ a ∧ a < 0x200 ∧ 0x22 ≤ a % 0x40 then some (portOf ((a - 0x100) / 0x40)) else none

/-- Read one word on a bus: the word, and the state with its latches and EARLY (R184, R185, R214, R246). -/
def regRead (b : BusId) (a : Nat) (s : State) : Word × State :=
  match rsGroup a with
  | some (base, len) =>
    if len = 4 ∧ latchByp s then (hostReg s a, s)
    else if a = base then (hostReg s a, setLatches b (latchGroup s base len (latches b s)) s)
    else (latchGet (latches b s) a, s)
  | none =>
    match resAddr a with
    | some n => (hostReg s a, readEarly n s)
    | none => (hostReg s a, s)

/-- Address of the next word of an access (R212). -/
def nextAddr (fix : Bool) (a : Nat) : Nat := if fix then a else (a + 1) % 4096

/-- Read a run of words from a start address (R212). -/
def readRun (b : BusId) (fix : Bool) : Nat → Nat → State → List Word × State
  | 0, _, s => ([], s)
  | k + 1, a, s =>
    let r := regRead b a s
    let rest := readRun b fix k (nextAddr fix a) r.2
    (r.1 :: rest.1, rest.2)

/-- The mailbox of the first result word of an access (R246). -/
def firstRes (fix : Bool) : Nat → Nat → Option (Fin 4)
  | 0, _ => none
  | k + 1, a => (resAddr a).or (firstRes fix k (nextAddr fix a))

/-- The words of an access with every result word zero. -/
def dropRes (fix : Bool) : Nat → List Word → List Word
  | _, [] => []
  | a, w :: ws => (if (resAddr a).isSome then 0 else w) :: dropRes fix (nextAddr fix a) ws

/-- A read access (R212, R246): where its first result word is early, every result word of it is zero. -/
def readAccess (b : BusId) (fix : Bool) (k a : Nat) (s : State) : List Word × State :=
  let r := readRun b fix k a s
  if (firstRes fix k a).any fun n => decide (s.mbx[n].state ≠ .ready) then (dropRes fix a r.1, r.2) else r

/-- Address an access of `n` words leaves behind. -/
def endAddr (fix : Bool) (a n : Nat) : Nat := if fix then a else (a + n) % 4096

/-- `SNAPSHOT_READ` (R184, R214, R437): one word is read on a bus. -/
def execSnapshotRead (b : BusId) (a : Nat) (s : State) : Host.Outcome State Fault Refusal :=
  .next (if s.powered && decide (a < 4096) && (decide (b ≠ .twoWire) || isTarget s) then (regRead b a s).2 else s)

end Sys2Proof.Machine
end

