-- ==== Sys2Proof/Machine/Firmware.lean ====
section
/-! DEFINITION. Firmware banks, staging and activation (R365 to R370), with the FW commands (R275). -/

namespace Sys2Proof.Machine

/-- Number of the inactive bank. -/
def inactive (s : State) : Nat := 1 - s.fw.active

/-- Change one bank. -/
def modBank (k : Nat) (f : FwBank → FwBank) (s : State) : State :=
  { s with fw := { s.fw with banks := vec fun i => if i.val = k then f s.fw.banks[i] else s.fw.banks[i] } }

/-- A bank by its number. -/
def bankAt (s : State) (k : Nat) : FwBank := s.fw.banks.toList.getD k .reset

/-- What the check of R366 finds of a bank as it is held: it is marked valid and its index is at least the floor. -/
def bankGood (s : State) (k : Nat) : Bool := (bankAt s k).valid && decide (s.fw.floor ≤ (bankAt s k).rollback)

/-- Set the stage state. -/
def setStage (st : StageState) (s : State) : State := { s with fw := { s.fw with stage := st } }

/-- `FW_GET_INFO` (R275). -/
def runFwInfo (_ : List Word) (s : State) : Reply :=
  doneWith ([word s.fw.active, word (bit (bankAt s 0).valid 0 + bit (bankAt s 1).valid 1)]
    ++ wordsOf 2 (bankAt s 0).version.toNat ++ wordsOf 2 (bankAt s 1).version.toNat ++ [word (stageCode s.fw.stage)]) s

/-- `FW_STAGE_BEGIN` (R275, R366): the inactive bank is invalid from here, its erase begins. -/
def runStageBegin (a : List Word) (s : State) : Reply :=
  checked [rng 1 8388608 (arg2 a 0)] s <|
    accepted (modBank (inactive s) (fun b => { b with valid := false })
      { s with fw := { s.fw with stage := .erasing, size := arg2 a 0 } })

/-- `FW_ERASE_COMPLETE` (R366). -/
def execFwEraseComplete (s : State) : Host.Outcome State Fault Refusal :=
  .next (if s.powered && decide (s.fw.stage = .erasing) then
    { s with fw := { s.fw with stage := .opened, mem := [] } } else s)

/-- `FW_STAGE_WRITE` (R275, R366): NOT_READY while erasing. -/
def runStageWrite (a : List Word) (s : State) : Reply :=
  let off := arg2 a 0
  let bytes := ((tabulate 27 fun i => bytesHL (argW a (3 + i.val))).take (arg a 2)).flatten
  checked [need (decide (off % 2 = 0)), rng 1 27 (arg a 2),
           if s.fw.stage = .erasing then some 0x11 else none, allow (decide (s.fw.stage = .opened)),
           if off + 2 * arg a 2 ≤ s.fw.size then none else some 0x22] s <|
    toFlash (fun s => done { s with fw := { s.fw with mem := memWriteAll s.fw.mem off bytes } }) s

/-- `FW_STAGE_VERIFY` (R275, R366). -/
def runStageVerify (_ : List Word) (s : State) : Reply :=
  checked [allow (decide (s.fw.stage = .opened))] s <| accepted (setStage .verifying s)

/-- The check of R366 on the staged image: magic, size, signature, rollback index. -/
def imageOk (s : State) : Bool :=
  let m := s.fw.mem
  decide (natLE (memBytes m 0 4) = 0x4C4E4246 ∧ natLE (memBytes m 8 4) = s.fw.size ∧ 128 ≤ s.fw.size
      ∧ s.fw.floor ≤ natLE (memBytes m 14 2))
    && Config.verify Config.firmwareKey (memBytes m 0 (s.fw.size - 64)) (memBytes m (s.fw.size - 64) 64)

/-- `FW_VERIFY_COMPLETE` (R365, R366): verified with the bank valid, or failed. -/
def execFwVerifyComplete (s : State) : Host.Outcome State Fault Refusal :=
  if !s.powered || decide (s.fw.stage ≠ .verifying) then .next s
  else if imageOk s then
    let m := s.fw.mem
    .next (setStage .verified (modBank (inactive s) (fun _ =>
      { valid := true, version := BitVec.ofNat 32 (natLE (memBytes m 4 4)), layout := word (natLE (memBytes m 12 2))
        rollback := natLE (memBytes m 14 2) }) s))
  else .next (setStage .failed s)

/-- `FW_ACTIVATE` (R275, R368, R369): HOLD for a matching layout; in STANDBY otherwise a module reset; in RECOVERY
BOOT. -/
def runActivate (_ : List Word) (s : State) : Reply :=
  let same := decide ((bankAt s (inactive s)).layout = s.fw.running)
  checked [allow (decide (s.fw.stage = .verified)), allow (same || decide (s.sys.st ≠ .run))] s <|
    accepted (defer (if s.sys.st = .recovery ∨ !same then .bootFw else .holdFw) s)

/-- The verified bank becomes the active one, on trial (R368, R370). -/
def activate (s : State) : State :=
  { s with fw := { s.fw with
      active := inactive s, stage := .idle, mem := [], size := 0
      running := (bankAt s (inactive s)).layout } }.modSys fun y => { y with trial := true }

/-- `TRIAL_END` (R370): after 60 s without a failure the rollback floor is raised to the image's index. -/
def execTrialEnd (s : State) : Host.Outcome State Fault Refusal :=
  .next (if s.sys.trial && decide (s.sys.st = .standby ∨ s.sys.st = .run) then
    { s with fw := { s.fw with floor := max s.fw.floor (bankAt s s.fw.active).rollback } }.modSys
      fun y => { y with trial := false } else s)

/-- `FW_GET_INFO` (R275). -/
def execFwGetInfo := hostCommand 0x0B01 runFwInfo
/-- `FW_STAGE_BEGIN` (R366). -/
def execFwStageBegin := hostCommand 0x0B02 runStageBegin
/-- `FW_STAGE_WRITE` (R366). -/
def execFwStageWrite := hostCommand 0x0B03 runStageWrite
/-- `FW_STAGE_VERIFY` (R366). -/
def execFwStageVerify := hostCommand 0x0B04 runStageVerify
/-- `FW_ACTIVATE` (R368). -/
def execFwActivate := hostCommand 0x0B05 runActivate

end Sys2Proof.Machine
end

