-- ==== Sys2Proof/Machine/Monitor.lean ====
section
/-! DEFINITION. The Ndoiz monitor (R390 to R397): its functions, and the commands it may pass. What a function answers
stands in the monitor's part of the state as words, and `monText` gives the characters sent. -/

namespace Sys2Proof.Machine

/-- Change the monitor's part. -/
def State.modMon (s : State) (f : Mon → Mon) : State := { s with mon := f s.mon }

/-- Answer `OK` with words in a lay-out. -/
def monShow (form : MonForm) (ws : List Word) (s : State) : State :=
  s.modMon fun m => { m with out := ws, outErr := none, form := form }

/-- Answer `OK` with words. -/
def monOk (ws : List Word) (s : State) : State := monShow .plain ws s

/-- Answer `ER` with a reason: 1 RANGE, 2 AUTH, 3 STATE, 4 BUSY, 5 LEVEL, 6 NOT HELD, 7 LINE, else the code shown. -/
def monErr (reason : Nat) (s : State) : State := s.modMon fun m => { m with out := [], outErr := some reason }

/-- The characters of a line (R390): it ends with CR, and LF is ignored. -/
def typed (line : List Byte) : List Byte := (line.takeWhile (· ≠ 0x0D)).filter (· ≠ 0x0A)

/-- The words of a line, parted by spaces (R395). -/
def lineWords : List Byte → List (List Byte)
  | [] => []
  | c :: cs =>
    if c = 0x20 then [] :: lineWords cs
    else match lineWords cs with
      | [] => [[c]]
      | w :: ws => (c :: w) :: ws

/-- A digit of a number in a base of at most 16. -/
def digitOf (base : Nat) (c : Byte) : Option Nat :=
  let v := c.toNat
  let d := if 48 ≤ v ∧ v ≤ 57 then v - 48 else if 65 ≤ v ∧ v ≤ 70 then v - 55 else if 97 ≤ v ∧ v ≤ 102 then v - 87 else 99
  if d < base then some d else none

/-- Digits after a number read so far. -/
def digits (base : Nat) : Nat → List Byte → Option Nat
  | acc, [] => some acc
  | acc, c :: cs => (digitOf base c).bind fun d => digits base (base * acc + d) cs

/-- A number in decimal or with a 0x prefix (R395). -/
def numberOf : List Byte → Option Nat
  | [] => none
  | [c] => digits 10 0 [c]
  | 0x30 :: 0x78 :: cs => if cs.isEmpty then none else digits 16 0 cs
  | c :: cs => digits 10 0 (c :: cs)

/-- Word `k` of a line as a number: `v` where the line is not given to that word, none where it is no number (R395). -/
def numAt (line : List Byte) (k v : Nat) : Option Nat := match (lineWords (typed line))[k]? with
  | none => some v
  | some w => numberOf w

/-- Every word of a list as a number. -/
def numbers : List (List Byte) → Option (List Nat)
  | [] => some []
  | w :: ws => (numberOf w).bind fun n => (numbers ws).map (n :: ·)

/-- The words of a line from word `k` as numbers, `vs` where the line is not given so far (R395). -/
def numsFrom (line : List Byte) (k : Nat) (vs : List Nat) : Option (List Nat) :=
  if (lineWords (typed line)).length ≤ k then some vs else numbers ((lineWords (typed line)).drop k)

/-- A CR alone, on an idle line (R392). -/
def idleCr (line : List Byte) : Bool := decide (line.filter (· ≠ 0x0A) = [0x0D])

/-- The echo of a line and the end of a listing (R390, R395). -/
def echoLine (line : List Byte) (s : State) : State :=
  s.modMon fun m => { m with listing := false, echo := typed line ++ [0x0D], stop := none }

/-- A function of the line engine, which runs in every powered state (R391): its line holds at most `most` characters, and a
longer one is discarded with `ER LINE` (R390); a CR alone brings the prompt (R392). -/
def monRun (most : Nat) (line : List Byte) (f : State → State) (s : State) : Host.Outcome State Fault Refusal :=
  .next (if !s.powered then s
    else if idleCr line then monShow .prompt [] (echoLine line s)
    else if most < (typed line).length then monErr 7 (echoLine line s)
    else f (echoLine line s))

/-- A function whose line holds at most 128 characters (R390). -/
def monLine (line : List Byte) (f : State → State) (s : State) : Host.Outcome State Fault Refusal := monRun 128 line f s

/-- Characters of a text. -/
def chars (t : String) : List Byte := t.toList.map fun c => BitVec.ofNat 8 c.toNat

/-- A number in hexadecimal, of `k` digits. -/
def hexDigits (k v : Nat) : List Byte :=
  tabulate k fun i =>
    let d := v / 16 ^ (k - 1 - i.val) % 16
    BitVec.ofNat 8 (if d < 10 then 48 + d else 55 + d)

/-- The prompt shows the level (R392). -/
def prompt (m : Mon) : List Byte := chars (if m.service then "svc> " else "mon> ")

/-- The reason of an `ER` (R390, R393, R396, R397); names the spec does not give are the model's (log entry 43). -/
def reasonText (k : Nat) : List Byte := match k with
  | 1 => chars "RANGE" | 2 => chars "AUTH" | 3 => chars "STATE" | 4 => chars "BUSY" | 5 => chars "LEVEL"
  | 6 => chars "NOT HELD" | 7 => chars "LINE" | _ => chars "0x" ++ hexDigits 4 k

/-- The words of an answer, each after a space. -/
def spaced (ws : List Word) : List Byte := ws.flatMap fun w => 0x20 :: hexDigits 4 w.toNat

/-- The lines of a listing, `k` words each, with the address of the first word of each where there is one (R395). -/
def listLines (k : Nat) (base : Option Nat) (ws : List Word) : List (List Byte) :=
  tabulate ((ws.length + k - 1) / k) fun i =>
    (match base with
      | some a => 0x20 :: hexDigits 4 ((a + k * i.val) % 4096) ++ [0x3A]
      | none => []) ++ spaced ((ws.drop (k * i.val)).take k)

/-- Lines joined by CR. -/
def joinLines : List (List Byte) → List Byte
  | [] => []
  | [l] => l
  | l :: ls => l ++ 0x0D :: joinLines ls

/-- What stands after `OK` (R393, R395, R397): the lines of a listing up to the one in which a key is pressed, and else the
lay-out of the spec's session. -/
def answerText (m : Mon) : List Byte := match m.form with
  | .rows k base => joinLines (match m.stop with
      | some j => (listLines k base m.out).take (j + 1)
      | none => listLines k base m.out)
  | .command => m.out.flatMap fun w => chars " 0x" ++ hexDigits 4 w.toNat
  | .nonce => 0x20 :: (m.out.take 4).flatMap (fun w => hexDigits 4 w.toNat)
      ++ 0x20 :: (m.out.drop 4).flatMap fun w => hexDigits 4 w.toNat
  | .key => chars (if m.out = [1] then " SERVICE service key" else " SERVICE customer key")
  | .plain => spaced m.out
  | .prompt => []

/-- The characters sent for a line (R390, R392, R395): its echo, the answer, the prompt; of a `CMD` in flight the echo alone. What the spec's session does not show
of the lay-out is the model's (DESIGN CHOICE, log entry 43). -/
def monText (m : Mon) : List Byte :=
  if m.inFlight && decide (m.form = .command ∧ m.out = [] ∧ m.outErr = none) then m.echo else
  m.echo ++ (match m.outErr with
    | some k => chars "ER " ++ reasonText k ++ [0x0D]
    | none => if m.form = .prompt then [] else chars "OK" ++ answerText m ++ [0x0D]) ++ prompt m

/-- Return to VIEW (R394, R396): the test mode ends. -/
def toView (s : State) : State := s.modMon fun m => { m with service := false, testLatch := false }

/-- A key ends a listing after the current line (R395). -/
def listed (stop : Option Nat) (s : State) : State := s.modMon fun m => { m with stop := stop }

/-- `RD` (R391, R395): through the monitor's own latches. -/
def execRd (addr : Nat) (count : Typed Nat) (s : State) : Host.Outcome State Fault Refusal :=
  monLine count.line (fun s => match numAt count.line 1 addr, numAt count.line 2 count.val with
    | some a, some k =>
      if 1 ≤ k ∧ k ≤ 64 ∧ a < 4096 then
        let r := readAccess .monitor false k a s
        listed count.stop (monShow (.rows 8 (some a)) r.1 r.2)
      else monErr 1 s
    | _, _ => monErr 1 s) s

/-- `BB` (R395). -/
def execBb (s : State) : Host.Outcome State Fault Refusal :=
  monLine (chars "BB") (fun s => monOk (wordsOf 2 (oldest s.bbx) ++ wordsOf 2 (newest s.bbx)
    ++ [word (bit s.bbx.okA 0 + bit s.bbx.okB 1)]) s) s

/-- `BB s [k]` (R347, R395): the window registers are untouched; a record damaged in both copies is answered as read,
with no copy to choose. -/
def execBbRecord (seq : Nat) (count : Typed (Option Nat)) (s : State) : Host.Outcome State Fault Refusal :=
  monLine count.line (fun s => match numAt count.line 1 seq, numAt count.line 2 (count.val.getD 64) with
    | some q, some k => (match heldRec s.bbx q with
      | none => monErr 6 s
      | some r => listed count.stop (monShow (.rows 8 none) (if count.val.isSome ∨ 2 < (lineWords (typed count.line)).length
          then r.words.take k else r.words) s))
    | _, _ => monErr 1 s) s

/-- `BB NEW` (R395): lists until a key is pressed. -/
def execBbNew (keyPressed : Typed Bool) (s : State) : Host.Outcome State Fault Refusal :=
  monLine keyPressed.line (fun s => if keyPressed.val then s else
    (monShow (.rows 8 none) [] s).modMon fun m => { m with listing := true }) s

/-- `ST` (R395): module, tap, port and link states, up to the line in which a key is pressed, which the row does not tell (a
free value, log entry 3). -/
def execSt (s : State) : Host.Outcome State Fault Refusal :=
  monLine (chars "ST") (fun s =>
    let (k, s) := s.draw
    listed (some (Config.freeValue k)) (monShow (.rows 1 none) ([word (modCode s.sys.st)]
      ++ (s.taps.toList.map fun t => word (tapCode t.state)) ++ (s.ports.toList.map fun p => word (portCode p.state))
      ++ (s.links.toList.map fun l => word (linkCode l.state))) s)) s

/-- The words of a nonce in the order its digits are sent, the most significant first (R393). -/
def nonceWords (nonce : BitVec 128) : List Word := (wordsOf 8 nonce.toNat).reverse

/-- What is signed: the nonce, its bytes as sent, followed by the module serial (R393). -/
def authMessage (nonce : BitVec 128) : List Byte := (nonceWords nonce).flatMap bytesHL ++ bytesOf 8 Config.serial.toNat

/-- The key that verifies an answer (R393): 1 Holran's service key, 2 the customer key, 0 none. -/
def authKey (s : State) (nonce : BitVec 128) (sig : List Byte) : Nat :=
  if Config.verify Config.serviceKey (authMessage nonce) sig then 1
  else match rcpKey s with
    | none => 0
    | some k => if Config.verify k (authMessage nonce) sig then 2 else 0

/-- A failed answer (R393): the third within 10 min blocks `AUTH`. -/
def authFail (s : State) : State :=
  let fs := recent s.sys.uptime 600000 s.mon.fails ++ [s.sys.uptime]
  let s := monErr 2 (s.modMon fun m => { m with nonce := none, fails := fs })
  if 3 ≤ fs.length then alert 3 0xA 9 0xFF 0 (s.modMon fun m => { m with blocked := true, fails := [] }) else s

/-- `AUTH` (R393): without an answer a fresh nonce; an answer must arrive within 60 s of it. A line with the answer may hold the
128 digits of the signature after `AUTH`, which never fit into the 128 characters of R390 (DESIGN CHOICE, log entry 67). -/
def execAuth (ans : Typed (Option (List Byte))) (s : State) : Host.Outcome State Fault Refusal :=
  monRun (if ans.val.isSome then 133 else 128) ans.line (fun s => if s.mon.blocked then monErr 2 s else match ans.val with
    | none =>
      let (k, s) := s.draw
      monShow .nonce (nonceWords (Config.nonce k)) (s.modMon fun m => { m with nonce := some (k, s.sys.uptime) })
    | some sig => match s.mon.nonce with
      | none => authFail s
      | some (k, t0) =>
        let key := authKey s (Config.nonce k) sig
        if sig.length ≠ 64 ∨ key = 0 ∨ t0 + 60000 < s.sys.uptime then authFail s
        else monShow .key [word key] (event .authDone [key] (s.modMon fun m => { m with nonce := none, service := true }))) s

/-- `AUTH_BLOCK_END` (R393). -/
def execAuthBlockEnd (s : State) : Host.Outcome State Fault Refusal :=
  .next (if s.powered then s.modMon fun m => { m with blocked := false } else s)

/-- `BYE` (R394). -/
def execBye (s : State) : Host.Outcome State Fault Refusal := monLine (chars "BYE") (fun s => monOk [] (toView s)) s

/-- `SERVICE_INACTIVITY` (R394). -/
def execServiceInactivity (s : State) : Host.Outcome State Fault Refusal := .next (if s.powered then toView s else s)

/-- `BREAK` (R394). -/
def execLineBreak (s : State) : Host.Outcome State Fault Refusal := .next (if s.powered then toView s else s)

/-- A function that needs SERVICE (R395). -/
def svcRun (line : List Byte) (f : State → State) (s : State) : Host.Outcome State Fault Refusal :=
  monLine line (fun s => if s.mon.service then f s else monErr 5 s) s

/-- `PR c [n]` (R386, R395): the last records of a core's ring, byte by byte. -/
def execPr (core : Fin 8) (count : Typed Nat) (s : State) : Host.Outcome State Fault Refusal :=
  svcRun count.line (fun s => match numAt count.line 1 core.val, numAt count.line 2 count.val with
    | some c, some k =>
      if c < 8 ∧ 1 ≤ k ∧ k ≤ 64 then
        let r := s.perf[coreOf c].ring
        listed count.stop (monShow (.rows 16 none)
          ((r.drop (r.length - k)).flatMap fun e => e.2.map fun b => word b.toNat) s)
      else monErr 1 s
    | _, _ => monErr 1 s) s

/-- `TEST LATCH ON` (R396). -/
def execTestLatchOn (s : State) : Host.Outcome State Fault Refusal :=
  svcRun (chars "TEST LATCH ON") (fun s => if s.sys.st = .standby ∨ s.sys.st = .safe ∨ s.sys.st = .recovery then
      monOk [] (s.modMon fun m => { m with testLatch := true }) else monErr 3 s) s

/-- `TEST LATCH OFF` (R396). -/
def execTestLatchOff (s : State) : Host.Outcome State Fault Refusal :=
  svcRun (chars "TEST LATCH OFF") (fun s => monOk [] (s.modMon fun m => { m with testLatch := false })) s

/-- The commands `CMD` may pass (R397). -/
def monRunOf (op : Nat) : Option (List Word → State → Reply) := match op with
  | 0x0101 => some runGetInfo
  | 0x0105 => some runLeaveSafe
  | 0x0106 => some runEnterRecovery
  | 0x0107 => some runReset
  | 0x030A => some runGetHistory
  | 0x0315 => some runGetRods
  | 0x0707 => some runLnkStatus
  | 0x0805 => some runEvidence
  | 0x0B01 => some runFwInfo
  | 0x0B02 => some runStageBegin
  | 0x0B03 => some runStageWrite
  | 0x0B04 => some runStageVerify
  | 0x0B05 => some runActivate
  | _ => none

/-- What becomes of a `CMD` (R397): it is issued as from a mailbox, and its return code and result words are shown; while C0 or
its core restarts it is in flight, taken by C0 where that runs (R244, R251). -/
def passCmd (op : Nat) (run : List Word → State → Reply) (a : List Word) (s : State) : State :=
  let t := issue op run .monitor a { s with monAnswer := none }
  match t.monAnswer with
  | some r => (monShow .command (word r.code :: r.res) { t with monAnswer := none }).modMon fun m =>
      { m with inFlight := false, cmdWait := none, cmdTaken := false }
  | none => (monShow .command [] t).modMon fun m =>
      { m with inFlight := true, cmdWait := some (op, a), cmdTaken := m.cmdTaken || c0Up s }

/-- A `CMD` that waits for its cores is taken up again as one of them runs (R251, R397). -/
def retryCmd (s : State) : State := match s.mon.cmdWait with
  | none => s
  | some c => match monRunOf c.1 with
    | none => s
    | some run => passCmd c.1 run c.2 s

/-- C0 runs again (R251, R397): a `CMD` it had taken ends with INTERNAL, and one not yet taken is taken now. -/
def monAgain (s : State) : State := if s.mon.cmdWait.isSome then retryCmd s else monLost s

/-- `CMD` (R395, R397). -/
def execCmd (op : Word) (args : Typed (List Word)) (s : State) : Host.Outcome State Fault Refusal :=
  svcRun args.line (fun s => match numAt args.line 1 op.toNat, numsFrom args.line 2 (args.val.map (·.toNat)) with
    | some o, some vs => (match monRunOf o with
      | none => monErr 0x20 s
      | some run =>
        let a := vs.map word
        if decide (s.sys.st = .boot ∨ s.sys.st = .hold) || s.mon.inFlight then monErr 4 s
        else passCmd o run a (s.modMon fun m => { m with cmdTaken := false }))
    | _, _ => monErr 1 s) s

end Sys2Proof.Machine
end

