-- ==== Sys2Proof/Machine/Meters.lean ====
section
/-! DEFINITION. The meters: integration, lease snapshots, the flush, the restore, alarm timers (R180 to R193, R345). -/

namespace Sys2Proof.Machine

/-! ### Integration -/

/-- Amounts of energy are counted in 10⁻⁸ J, of which 1 µWh holds this many (R180, R181). -/
def unitE : Int := 360000
/-- Amounts of charge are counted in 1 µAs (R180, R181). -/
def unitQ : Int := 1

/-- Count an amount of which `u` make one unit of the residue (R181): the residue stands in 1 µWh or 1 µAs, what lies
below it is carried too (log entry 62), so that nothing is lost to rounding; the counter wraps. -/
def Ctr.count (u d : Int) (c : Ctr) : Ctr :=
  let t := (c.sub : Int) + d
  let m := (c.res : Int) + t / u
  { val := c.val + BitVec.ofInt 64 (m / 1000), res := (m % 1000).toNat, sub := (t % u).toNat }

/-- Sum of two counts of one quantity (R183). -/
def Ctr.plus (u : Int) (a b : Ctr) : Ctr :=
  let c := a.count u (b.res * u + b.sub)
  { c with val := c.val + b.val }

/-- Counter by counter sum of a tap's counters. -/
def TapCtrs.plus (a b : TapCtrs) : TapCtrs :=
  { eStake := a.eStake.plus unitE b.eStake, eBlkIn := a.eBlkIn.plus unitE b.eBlkIn
    eBlkOut := a.eBlkOut.plus unitE b.eBlkOut, qBlkIn := a.qBlkIn.plus unitQ b.qBlkIn
    qBlkOut := a.qBlkOut.plus unitQ b.qBlkOut, sfSup := a.sfSup.plus unitE b.sfSup, sfCon := a.sfCon.plus unitE b.sfCon }

/-- Counter by counter sum of every counter. -/
def Counters.plus (a b : Counters) : Counters :=
  { taps := vec fun n => a.taps[n].plus b.taps[n]
    ports := vec fun x =>
      { eIn := a.ports[x].eIn.plus unitE b.ports[x].eIn, qIn := a.ports[x].qIn.plus unitQ b.ports[x].qIn }
    sfSupTotal := a.sfSupTotal.plus unitE b.sfSupTotal, sfConTotal := a.sfConTotal.plus unitE b.sfConTotal
    eString := a.eString.plus unitE b.eString, tieE := a.tieE.plus unitE b.tieE }

/-- Voltage the meters use at a tap (R142, R180); both taps of a pair use tap 2k's. -/
def meterVolt (s : State) (n : Fin 32) : Int :=
  let t := if gangedOdd s n then s.taps[partner n] else s.taps[n]
  if t.kelvinBad then t.vPair else t.vKel

/-- One millisecond of a tap's counters (R180, R317). -/
def meterTap (s : State) (n : Fin 32) (c : TapCtrs) : TapCtrs :=
  let t := s.taps[n]
  let v := meterVolt s n
  let c := if t.stake.conv then { c with eStake := c.eStake.count unitE (max 0 (v * t.iStk)) } else c
  let i := iBlk s n
  if !t.state.holds || gangedOdd s n || isHelper t then c
  else { c with
    eBlkIn := c.eBlkIn.count unitE (max 0 (v * max 0 i)), eBlkOut := c.eBlkOut.count unitE (max 0 (v * max 0 (-i)))
    qBlkIn := c.qBlkIn.count unitQ (10 * max 0 i), qBlkOut := c.qBlkOut.count unitQ (10 * max 0 (-i)) }

/-- One millisecond of every counter but the shortfalls (R180, R299). The counters of the ports are signed, as R180's table
has them, against R7's words on counters named 'in' (DEDUCED, log entry 63). -/
def meter (s : State) : State :=
  let c := s.ctrs
  let tieE := if s.tie.en then c.tieE.count unitE (max 0 (s.ports[(3 : Fin 4)].vin * s.tie.cur)) else c.tieE
  { s with ctrs := { c with
      taps := vec fun n => meterTap s n c.taps[n]
      ports := vec fun x =>
        { eIn := c.ports[x].eIn.count unitE (s.ports[x].pin * 100000), qIn := c.ports[x].qIn.count unitQ (10 * s.ports[x].iin) }
      eString := c.eString.count unitE (s.sys.vStr * s.sys.iStr), tieE := tieE } }

/-! ### Snapshots -/

/-- A snapshot as it stands (R186, R187); a tap with no descriptor has serial 0 (DESIGN CHOICE, log entry 64), and tap 2k + 1 of a pair
its own state, ABSENT (DESIGN CHOICE, log entry 17). -/
def snapNow (s : State) : SnapRec :=
  { seq := s.mtr.snapNext, bbxSeq := 0, time := s.stamp, timeValid := s.sys.timeValid, modState := modCode s.sys.st
    blocks := tabulate 32 fun n =>
      let t := s.taps[n]
      ((t.desc.map (·.serial)).getD 0, t.cfg.lessee, tapCode t.state)
    ctrs := s.ctrs }

/-- C3 runs (R188). -/
def c3Up (s : State) : Bool := decide (s.sys.st ≠ .boot ∧ s.sys.st ≠ .hold) && s.sys.cores.getLsbD 3

/-- The lease snapshot is due by the module clock (R186). -/
def snapDue (s : State) : Bool := match s.mtr.snapAt with
  | none => false
  | some k => decide (k ≤ s.stamp)

/-- `LEASE_SNAPSHOT` (R186, R188): at a quarter hour of the clock; written by C3, pending while C3 does not run, missed
with four pending. -/
def execLeaseSnapshot (s : State) : Host.Outcome State Fault Refusal :=
  if !s.powered || !snapDue s then .next s else
  let r := snapNow s
  let s := { s with mtr := { s.mtr with snapNext := r.seq + 1, snapAt := s.mtr.snapAt.map fun k => nextSnap k s.stamp } }
  .next (if c3Up s then queueSnap r s
    else if s.mtr.pending.length < 4 then { s with mtr := { s.mtr with pending := s.mtr.pending ++ [r] } }
    else event .missedSnapshot ((wordsOf 2 r.seq).map fun w => (w.toNat : Int)) { s with mtr := { s.mtr with snapMissed := true } })

/-! ### Flush and restore -/

/-- Step 3 of the flush: a COUNTERS record (R340), with the counters given. -/
def queueCounters (c : Counters) (s : State) : State :=
  s.modBbx fun b =>
    let r : CtrRec := { seq := b.nextSeq, ctrs := c, lastSnap := s.mtr.snapNext - 1, okA := false, okB := false
                        time := s.stamp, timeValid := s.sys.timeValid, inHold := decide (s.sys.st = ModState.hold) }
    { b with nextSeq := b.nextSeq + 1, queue := b.queue ++ [.ctr r] }

/-- Residues restart at 0 (R183). -/
def Counters.noRes (c : Counters) : Counters :=
  let z (k : Ctr) : Ctr := { k with res := 0, sub := 0 }
  { taps := c.taps.map fun t =>
      { eStake := z t.eStake, eBlkIn := z t.eBlkIn, eBlkOut := z t.eBlkOut, qBlkIn := z t.qBlkIn, qBlkOut := z t.qBlkOut
        sfSup := z t.sfSup, sfCon := z t.sfCon }
    ports := c.ports.map fun p => { eIn := z p.eIn, qIn := z p.qIn }
    sfSupTotal := z c.sfSupTotal, sfConTotal := z c.sfConTotal, eString := z c.eString, tieE := z c.tieE }

/-- The counters take restored values, to which what was counted since the start of BOOT is added (R183). -/
def restoreFrom (c : Counters) (s : State) : State :=
  { s with ctrs := c.plus s.ctrs, mtr := { s.mtr with restored := true } }

/-- A restore with a gap (R183): flag, record and alert naming the record used. -/
def restoreGap (seq : Nat) (s : State) : State :=
  let s := { s with mtr := { s.mtr with restoreGap := true, gapSince := true } }
  alertRec (event .restoreGap ((wordsOf 2 seq).map fun w => (w.toNat : Int))) 1 8 1 0 seq s

/-- The restore of BOOT (R183): the newest COUNTERS record, else the newer of the newest good COUNTERS record and the
newest good snapshot. -/
def restore (s : State) : State :=
  match s.bbx.flush.getLast? with
  | none => restoreFrom .reset s
  | some r =>
    if r.okA || r.okB then restoreFrom r.ctrs s else
    let c := (s.bbx.flush.reverse.find? fun r => r.okA || r.okB)
    match c, s.bbx.snaps.reverse.find? fun r => r.okA || r.okB with
    | some c, some n =>
      if n.bbxSeq < c.seq then restoreGap c.seq (restoreFrom c.ctrs s)
      else restoreGap n.bbxSeq (restoreFrom (Counters.noRes { n.ctrs with tieE := c.ctrs.tieE }) s)
    | some c, none => restoreGap c.seq (restoreFrom c.ctrs s)
    | none, some n => restoreGap n.bbxSeq (restoreFrom { n.ctrs.noRes with tieE := Ctr.reset } s)
    | none, none => restoreGap 0 (restoreFrom .reset s)

/-- What the flush writes up to its COUNTERS record, in the order of R345: the write queue, pending snapshots, COUNTERS, each
with the flush flag. Before the restore of BOOT what has been counted in BOOT is held apart; the record is then the counters
as the restore would leave them, so that nothing counted in BOOT is lost (R183). -/
def queueFlush (s : State) : State :=
  let s := writePending s
  let s := queueCounters (if s.mtr.restored then s.ctrs else (restore s).ctrs) s
  s.modBbx fun b => { b with queue := b.queue.map BbxItem.flushed }

/-- Steps 1 to 3 of the flush run (R357). -/
def flushThree (s : State) : State := drain (queueFlush s)

/-- The whole flush is due (R345): its POWER_LOSS record, written last, names the last state, the records flushed and
completion. -/
def queueLoss (s : State) : State :=
  let s := queueFlush (s.modBbx fun b => { b with lossDone := false })
  let s := record 0x02 [word (modCode s.sys.st), word s.bbx.queue.length, 1] s
  s.modBbx fun b => { b with queue := b.queue.map BbxItem.flushed }

/-- The whole flush runs (R345, R359). -/
def flushAll (s : State) : State := drain (queueLoss s)

/-! ### Alarm timers -/

/-- An alarm timer reaches zero (R192, R193); while C0 restarts its command waits as in HOLD (R332). -/
def alarmExpire (k : Fin 4) (s : State) : State :=
  let a := s.mtr.alarms[k]
  if !a.running then s else
  let hold := decide (s.sys.st = .hold) || (decide (s.sys.st = .run) && !c0Up s)
  let act := decide (a.action = 1)
  let a : Alarm := { a with remain := 0, running := false, expired := true, standbyWaits := a.standbyWaits || (act && hold) }
  let s := { s with mtr := { s.mtr with alarms := s.mtr.alarms.set k a } }
  let s := alert 3 8 2 k.val 0 s
  if act && !hold && decide (s.sys.st = .run) then issue 0x0103 runStandby .own [] s else s

/-- `ALARM_EXPIRY` (R192). -/
def execAlarmExpiry (k : Fin 4) (s : State) : Host.Outcome State Fault Refusal :=
  .next (if s.powered then alarmExpire k s else s)

end Sys2Proof.Machine
end

