-- ==== Sys2Proof/Machine/Power.lean ====
section
/-! DEFINITION. Housekeeping, starts, resets, ship mode, KEY# and ESTOP# (R350 to R364), the deferred state changes
(R257). -/

namespace Sys2Proof.Machine

/-! ### What a reset leaves (R358) -/

/-- System part: after a power-on reset only what housekeeping, the straps and non-volatile bits give stays; a module
reset keeps STR_EN, what is counted since power-on reset, and what its inputs show. A press that ended SHIP, or that lies on
KEY# at the start of BOOT, is not timed (R361, R362). -/
def resetSys (por : Bool) (y : Sys) : Sys :=
  let base : Sys := { Sys.reset with
    hkSrc := y.hkSrc, auxOk := y.auxOk, srcOk := y.srcOk, tapOk := y.tapOk, auxV := y.auxV, shipLatch := y.shipLatch
    strap := y.strap, addr := y.addr, trial := y.trial, recReq := y.recReq && !por
    keyLow := y.keyLow && (!por || y.shipWake), keyStale := y.keyLow && (!por || y.shipWake) }
  if por then base else { base with
    holdCount := y.holdCount, uptime := y.uptime, strEn := y.strEn, strFb := y.strFb, fbMs := y.fbMs
    selfTest := y.selfTest, estop := y.estop, keyHigh := y.keyHigh, shValid := y.shValid, shRange := y.shRange
    shLostAt := y.shLostAt, shOkAt := y.shOkAt, divOn := y.divOn, iStr := y.iStr, iStrPeak := y.iStrPeak, vStr := y.vStr
    inlet := y.inlet, trackMv := y.trackMv, trackValid := y.trackValid, trackSeen := y.trackSeen || y.trackValid }

/-- A port: the trips counted and the calibration stored in flash stay (R50, R57). -/
def resetPort (por : Bool) (x : Fin 4) (p : Port) : Port :=
  let base : Port := { Port.reset with rank := x.val + 1, tripTotal := p.tripTotal, cal := p.cal, trim := p.trim }
  if por then base else { base with vin := p.vin, iin := p.iin, pin := p.pin }

/-- A rod: its health and saved running time are in flash (R79, R86). -/
def resetRod (r : Rod) : Rod :=
  { Rod.reset with healthy := r.healthy, cause := r.cause, runTime := r.savedTime, savedTime := r.savedTime }

/-- A tap: its descriptor is in flash (R256); a module reset keeps SLOT_BYP and a withdrawal (R90, R358). -/
def resetTap (por : Bool) (t : Tap) : Tap :=
  let k : Stake := { Stake.reset with rods := t.stake.rods.map resetRod }
  let base : Tap := { Tap.reset with desc := t.desc, stake := k }
  if por then base else { base with
    vKel := t.vKel, vPair := t.vPair, ntcA := t.ntcA, ntcB := t.ntcB, reverse := t.reverse
    stake := { k with slotByp := t.stake.slotByp, slotFb := t.stake.slotFb, withdrawn := t.stake.withdrawn } }

/-- The black box is non-volatile; its window and flags are registers (R338, R349). The AON controller stays up through a module
reset, with the withholding windows it times (R344). -/
def resetBbx (por : Bool) (b : Bbx) : Bbx :=
  { Bbx.reset with
    nextSeq := b.nextSeq, queue := b.queue, ring := b.ring, hist := b.hist, snaps := b.snaps, flush := b.flush
    windows := if por then [] else b.windows, lossDone := b.lossDone, flushed := b.lossDone, okA := b.okA, okB := b.okB, missA := b.missA, missB := b.missB }

/-- The pour engine (R358, R403): TICK as other participants hold it, its low time unknown if low. -/
def resetPour (por low : Bool) (p : Pour) : Pour :=
  let base : Pour := { Pour.reset with tick := !low, tickOther := low, lowKnown := !low, low10us := if low then 0xFFFF else 0 }
  if por then base else { base with commits := p.commits, resultValid := p.resultValid }

/-- Firmware banks (R366): a verified stage survives a module reset only. -/
def resetFw (por : Bool) (f : Fw) : Fw :=
  let base : Fw := { Fw.reset with banks := f.banks, active := f.active, floor := f.floor, running := f.running }
  if !por && decide (f.stage = .verified) then { base with stage := .verified, size := f.size, mem := f.mem } else base

/-- Watchdog (R334, R336, R337, R358). -/
def resetWdg (por : Bool) (w : Wdg) : Wdg :=
  let base : Wdg := { Wdg.reset with evidence := w.evidence, challenge := w.challenge }
  if por then base else { base with locked := w.locked, badKeys := w.badKeys, expiries := w.expiries }

/-- Every part at its reset values but for what a reset leaves (R358). -/
def resetState (por low : Bool) (s : State) : State :=
  { s with
    sys := resetSys por s.sys
    ports := vec fun x => resetPort por x s.ports[x]
    hub := .reset
    taps := s.taps.map (resetTap por)
    shown := .reset
    arb := .reset
    mtr := { Mtr.reset with snapNext := s.mtr.snapNext, stmtNext := s.mtr.stmtNext, gapSince := s.mtr.gapSince
                            pending := s.mtr.pending }
    ctrs := .reset
    alr := if por then .reset else { Alr.reset with nextSeq := s.alr.nextSeq, lost := s.alr.lost }
    pour := resetPour por low s.pour
    vsel :=
      let v : Vsel := { Vsel.reset with enabled := s.vsel.enabled, profiles := s.vsel.profiles }
      if por then v else { v with noneYet := s.vsel.noneYet }
    bus := if por then .reset else { Bus.reset with spiErr := s.bus.spiErr, twErr := s.bus.twErr }
    mbx := s.mbx.map fun m => if por then .reset else { Mailbox.reset with seq := m.seq }
    monAnswer := none, ownAnswer := none, bp := .reset, boxes := .replicate 8 .reset, links := .replicate 4 .reset
    tie := .reset, wdg := resetWdg por s.wdg, bbx := resetBbx por s.bbx, fw := resetFw por s.fw
    rcp := { Rcp.reset with keyX := s.rcp.keyX, keyY := s.rcp.keyY, slots := s.rcp.slots }
    perf := .replicate 8 .reset, mon := .reset, bells := [], taken := [], held := [] }

/-- The BOOT record (R340): cause, active bank and version, ADDR, variant. -/
def bootRecord (s : State) : State :=
  record 0x01 ([word s.sys.last, word s.fw.active] ++ wordsOf 2 (bankAt s s.fw.active).version.toNat
    ++ [word s.sys.addr.toNat, word (if Config.isLC then 1 else 0)]) s

/-- Entry to BOOT (R28, R224, R340, R354): why the start is made, ADDR as strapped, a BOOT record. -/
def enterBoot (por : Bool) (last cause : Nat) (low : Bool) (s : State) : State :=
  bootRecord (newChallenge ((resetState por low s).modSys fun y =>
    { y with st := .boot, cause := cause, last := last, addr := y.strap, cores := 1 }))

/-- A module reset (R357): the state change is recorded, TIE_EN and its contract go, with a Void to the partner (R298, R307),
steps 1 to 3 of the flush run. -/
def moduleReset (last cause : Nat) (s : State) : State :=
  let told := s.links[(3 : Fin 4)].role && s.links[(3 : Fin 4)].inForce
  let void := s.links[(3 : Fin 4)].frame 0x08 [] s.links[(3 : Fin 4)].txCtr
  let s := flushThree (setState .boot cause (dropTie (pourAbort s)))
  let s := enterBoot false last cause s.pour.tickOther s
  if told then s.modLink 3 fun l => { l with outFrame := some void } else s

/-- Unpowered (R352, R359): every output at its unpowered level, what is volatile lost. -/
def unpower (st : ModState) (s : State) : State :=
  (resetState true false s).modSys fun y =>
    { y with st := st, hkSrc := 0, auxOk := false, srcOk := 0, tapOk := 0, cores := 0 }

/-! ### Housekeeping paths -/

/-- The highest-ranked path that is qualified (R351): 1 AUX, 2 source, 3 tap, 0 none. -/
def bestPath (y : Sys) : Nat := if y.auxOk then 1 else if y.srcOk ≠ 0 then 2 else if y.tapOk ≠ 0 then 3 else 0

/-- Mark a path qualified or not, at the voltage it shows (R350). -/
def setPath (p : HkPath) (ok : Bool) (s : State) : State := match p with
  | .aux v => s.modSys fun y => { y with auxOk := ok, auxV := v }
  | .source x v => (s.modPort x fun q => { q with vin := v }).modSys fun y =>
      { y with srcOk := if ok then y.srcOk ||| (1#4 <<< x.val) else y.srcOk &&& ~~~(1#4 <<< x.val) }
  | .tap g _ => s.modSys fun y =>
      { y with tapOk := if ok then y.tapOk ||| (1#8 <<< g.val) else y.tapOk &&& ~~~(1#8 <<< g.val) }

/-- The path is a tap group. -/
def tapPath : HkPath → Bool
  | .tap _ _ => true
  | _ => false

/-- The voltage of a path reaches the level it qualifies at (R350). -/
def pathUp : HkPath → Bool
  | .aux v => decide (18000 ≤ v)
  | .source _ v => decide (150000 ≤ v)
  | .tap _ v => decide (24000 ≤ v)

/-- The voltage of a path lies within its absolute maximum (R420). -/
def pathRated : HkPath → Bool
  | .aux v => within Config.absAux v
  | .source _ v => portRated v
  | .tap _ v => tapRated v

/-- The source port housekeeping draws from (R350): of the ports qualified, the one with the highest voltage, of equal ones the
first (DESIGN CHOICE, log entry 69). -/
def hkPort (s : State) : Option (Fin 4) :=
  ((indices 4).filter fun x => s.sys.srcOk.getLsbD x.val).foldl (fun b x => match b with
    | none => some x
    | some z => if s.ports[z].vin < s.ports[x].vin then some x else some z) none

/-- What a move of R351 is recorded with: the path left, the path taken and, where that is the source path, its port. -/
def moveWords (s : State) (b : Nat) : List Int :=
  [(s.sys.hkSrc : Int), (b : Int)] ++ (if b = 2 then (hkPort s).toList.map fun x => (x.val : Int) else [])

/-- Move to the path that ranks highest (R351); with none qualified the one in use stands until housekeeping is lost. -/
def movePath (s : State) : State :=
  let b := bestPath s.sys
  if b = 0 ∨ b = s.sys.hkSrc then s
  else if s.sys.hkSrc = 0 then s.modSys fun y => { y with hkSrc := b }
  else event .hkMove (moveWords s b) (s.modSys fun y => { y with hkSrc := b, hkChanged := true })

/-- A start from OFF or SHIP (R340, R353, R361): the change of state recorded, power-on reset, the ship latch cleared. -/
def startUp (p : HkPath) (strap : BitVec 3) (low : Bool) (last : Nat) (s : State) : State :=
  let s := setState .boot 0 (s.modSys fun y => { y with shipLatch := false, strap := strap })
  (setPath p true (enterBoot true last 0 low s)).modSys fun y => { y with hkSrc := bestPath y }

/-- `HK_PATH_QUALIFY` (R340, R350, R351, R353, R361): at its level, from OFF and SHIP it starts the module or, on taps with the ship
latch set, leads to SHIP, which is recorded; otherwise the module may move to it. -/
def execHkPathQualify (p : HkPath) (strap : BitVec 3) (tickLow : Bool) (s : State) : Host.Outcome State Fault Refusal :=
  if !pathRated p then .fault .beyondAbsoluteMaximum
  else if !pathUp p then .next s
  else .next (match s.sys.st with
    | .off =>
      if tapPath p && s.sys.shipLatch then drain (setState .ship s.sys.cause s)
      else startUp p strap tickLow 0 s
    | .ship => if tapPath p && !s.sys.shipWake then s else startUp p strap tickLow 1 s
    | _ =>
      let s := setPath p true s
      if s.sys.hkLost then s else movePath s)

/-- `HK_PATH_LOST` (R350, R351): a path below its level. -/
def execHkPathLost (p : HkPath) (s : State) : Host.Outcome State Fault Refusal :=
  if !pathRated p then .fault .beyondAbsoluteMaximum
  else .next (if !s.powered || pathUp p then s else
    let s := setPath p false s
    if s.sys.hkLost then s else movePath s)

/-- Every stake stopped and its switch open; every input switch open. -/
def stopAll (s : State) : State :=
  disablePorts ((bypStandIns s).mapTaps fun _ t => { t with stake := t.stake.halt })

/-- `HOUSEKEEPING_LOSS` (R204, R340, R345, R352): SLOT_BYP for stand-ins, tie and input switches open, every stake ramps to zero
over 20 ms (a ramp that runs goes on), an open pour ends and the flush begins, which the controller writes record by
record; among its first is the STATE record of the change to OFF, which can be written at no later time (DESIGN CHOICE, log entry 70). -/
def execHousekeepingLoss (s : State) : Host.Outcome State Fault Refusal :=
  .next (if !s.powered || s.sys.hkLost then s else
    let s := disablePorts (bypStandIns (s.modSys fun y => { y with
      hkLost := true, auxOk := false, srcOk := 0, tapOk := 0, acted := 1, rampMs := y.rampFrom }))
    queueLoss (stateRecord .off s.sys.cause (pourAbort { s with tie := { s.tie with en := false } })))

/-- `HOLD_UP_END` (R204, R345, R352): an open pour has ended with POUR_ABORTED; the module is OFF. A flush not yet complete is
cut short. -/
def execHoldUpEnd (s : State) : Host.Outcome State Fault Refusal :=
  .next (if s.powered && s.sys.hkLost then unpower .off (cutFlush s) else s)

/-! ### BOOT -/

/-- Settings of the stored configuration come into force (R256, R450). -/
def loadConfig (s : State) : State :=
  let c := s.stored
  let s := s.mapPorts fun x p =>
    let q := c.ports[x]
    { p with enabled := q.enabled, vMin := q.vMin, vMax := q.vMax, ovLevel := q.ovLevel, iLim := q.iLim, rank := q.rank
             limIn := q.iLim, weight := q.weight, cap := q.cap }
  let s := s.mapTaps fun n t => { t with cfg := c.taps[n] }
  { s.modSys (fun y => resync { y with ownFsw := c.ownFsw, syncDis := c.syncDis, slotAddr := y.addr }) with
    hub := { s.hub with mode := c.mode, modeIn := c.mode, siteCap := c.siteCap }, arb := { s.arb with lossCap := c.lossCap }
    wdg := { s.wdg with n := c.n } }

/-- The boot ROM's choice of bank (R354, R367): the active one, else the other; none when neither passes. `ok` tells of each
bank whether the check of its image passes; a bank marked invalid, or with an index below the floor, does not. -/
def pickBank (ok : Nat → Bool) (s : State) : Option Nat :=
  let pass (k : Nat) : Bool := ok k && bankGood s k
  if pass s.fw.active then some s.fw.active else if pass (inactive s) then some (inactive s) else none

/-- The bank that boots becomes the active one, a bank that failed is not valid (R354, R435), and with it its trial ends (R370). -/
def bootBank (b : Nat) (s : State) : State :=
  let fell := decide (b ≠ s.fw.active)
  let s := if fell then modBank s.fw.active (fun k => { k with valid := false }) s else s
  let k := bankAt s b
  { s with fw := { s.fw with active := b, running := k.layout, runVer := k.version } }.modSys fun y =>
    { y with fallback := y.fallback || fell, bootAlerts := fell, trial := y.trial && !fell }

/-- BOOT ends in RECOVERY (R26, R355): C0 alone runs. -/
def bootToRecovery (cause : Nat) (s : State) : State :=
  (setState .recovery cause s).modSys fun y => { y with cores := 1, clOn := 0xF, recReq := false }

/-- `BOOT_COMPLETE` (R88, R232, R319, R354, R442): self-test, image check, restore, health records, configuration; then SAFE on a self-test
fault, RECOVERY with no valid bank or on a recovery request, STANDBY otherwise. The recovery request shows the cause of BOOT. A
module in SAFE with no valid bank runs C0 alone, as in RECOVERY (DESIGN CHOICE, log entry 71). L is 0 after BOOT. -/
def execBootComplete (selfTestOk bank0Ok bank1Ok : Bool) (s : State) : Host.Outcome State Fault Refusal :=
  if s.sys.st ≠ .boot then .next s else
  let ok (k : Nat) : Bool := if k = 0 then bank0Ok else bank1Ok
  let finish (s : State) : State := newPeriod (grace (markWithdrawn (loadConfig (restore
    ((s.modSys fun y => { y with selfTest := !selfTestOk }).modBus fun b => { b with level := 0 })))))
  let running (y : Sys) : Sys := { y with cores := 0xFF, clOn := 0xF, clWaking := 0 }
  let alone (y : Sys) : Sys := { y with cores := 1, clOn := 0xF, clWaking := 0 }
  .next (withFlt (fun s => match pickBank ok s with
    | none => if !selfTestOk then (enterSafe 7 (finish s)).modSys alone else bootToRecovery 8 (finish s)
    | some b =>
      let s := finish (bootBank b s)
      if !selfTestOk then (enterSafe 7 s).modSys running
      else if s.sys.recReq then bootToRecovery s.sys.cause s
      else vselOccasion true (decideRole (enterStandby s.sys.cause (s.modSys running)))) s)

/-- `RECOVERY_KEY_WAIT_END` (R355): KEY# is still low at t0 + 3 s. -/
def execRecoveryKeyWaitEnd (s : State) : Host.Outcome State Fault Refusal :=
  .next (if s.sys.st = .boot then s.modSys fun y => { y with recReq := true, keyLow := true, keyStale := true } else s)

/-! ### Deferred state changes -/

/-- Entry to RECOVERY by command (R26, R382, R450): the tie stays as it is, recovery firmware runs on C0 alone and
commands in flight complete with INTERNAL. -/
def enterRecovery (s : State) : State :=
  let s := disablePorts (rcpHalt (pourAbort (leaveRun s)))
  let s := s.mapTaps fun _ t => { t with stake := t.stake.halt }
  let s := setState .recovery 1 (s.modPour fun p => ({ p with veto := false, holdPull := false } : Pour).settle)
  let s := (loseCores s).modSys fun y => { y with cores := 1, clOn := 0xF, clWaking := 0, lostCmds := [] }
  let s := (forgetVias s).modWdg fun w => { w with awaiting := 0 }
  foldFin 4 (fun n s => postLost n s) (monLost s)

/-- `DEFERRED_STATE_CHANGE` (R27, R224, R257): the change is made if R26 allows it from the present state and no event of a
higher rank has acted in the same period, and otherwise dropped with an EVENT record. BOOT samples the straps. -/
def execDeferredStateChange (s : State) : Host.Outcome State Fault Refusal :=
  if !s.powered then .next s else
  let st := s.sys.st
  let free := decide (s.sys.acted = 0)
  .next (match s.sys.chg.find? fun d => decide (d = .recovery ∨ d = .reset ∨ d = .bootFw) with
    | none => s
    | some d =>
      let s := dropOf d s
      let dropped := event .dropped [modCode st] s
      match d with
      | .recovery => if free ∧ (st = .standby ∨ st = .safe) then enterRecovery s else dropped
      | .reset => if free ∧ (st = .standby ∨ st = .safe ∨ st = .recovery) then moduleReset 2 1 s else dropped
      | _ => if free ∧ (st = .standby ∨ st = .recovery) then moduleReset 5 4 (activate s) else dropped)

/-! ### Ship mode -/

/-- `SHIP_ENTRY` (R204, R359): cores and host interface stop, an open pour ends, the full flush runs, every path is switched off. A module no
longer in STANDBY drops the change. -/
def execShipEntry (s : State) : Host.Outcome State Fault Refusal :=
  if !s.powered || !s.sys.chg.contains .ship then .next s
  else if s.sys.st = .standby then .next (unpower .ship (flushAll (pourAbort s)))
  else .next (event .dropped [modCode s.sys.st] ((dropOf .ship s).modSys fun y => { y with shipLatch := false }))

/-- `SHIP_KEY_WAKE` (R361): the tap path runs. -/
def execShipKeyWake (s : State) : Host.Outcome State Fault Refusal :=
  .next (if s.sys.st = .ship then s.modSys fun y => { y with shipWake := true, keyLow := true } else s)

/-- `SHIP_KEY_WAKE_TIMEOUT` (R361): no tap qualified, the module stays in SHIP. -/
def execShipKeyWakeTimeout (s : State) : Host.Outcome State Fault Refusal :=
  .next (if s.sys.st = .ship then s.modSys fun y => { y with shipWake := false, keyLow := false } else s)

/-! ### KEY# and ESTOP# -/

/-- `KEY_SHORT_PRESS` (R362): the release of a press that is timed. -/
def execKeyShortPress (s : State) : Host.Outcome State Fault Refusal :=
  .next (if !s.powered then s else
    let s := s.modSys fun y => { y with keyLow := false, keyHigh := 0 }
    if s.sys.keyStale then s else alert 3 0xA 1 0xFF 0 (s.modSys fun y => { y with keyShort := true }))

/-- `LONG_PRESS` (R362, R363, R307): of a press that is timed; STR_EN and TIE_EN off, bypass, every stake, intake and switch open; yields only to
housekeeping loss. -/
def execLongPress (s : State) : Host.Outcome State Fault Refusal :=
  .next (if !s.powered || s.sys.hkLost || s.sys.keyStale then s else
    let s := s.modSys fun y => { setStr false y with longPress := true, keyLow := true, acted := 2 }
    event .longPress [] (stopAll (dropTie s)))

/-- `LONG_PRESS_RESET` (R363): at t0 + 12 s, whatever the state. -/
def execLongPressReset (strap : BitVec 3) (s : State) : Host.Outcome State Fault Refusal :=
  .next (if s.powered && s.sys.longPress && !s.sys.hkLost then moduleReset 3 6 (s.modSys fun y => { y with strap := strap }) else s)

/-- `ESTOP` (R364, R26): the hardware acts in every state; STANDBY, RUN and HOLD lead to SAFE, RECOVERY stays with an
alert. -/
def execEstop (s : State) : Host.Outcome State Fault Refusal :=
  if !s.powered then .next s else
  .next (withFlt (fun s =>
    let s := stopAll (s.modSys fun y => { y with estop := true })
    match s.sys.st with
    | .standby | .run | .hold => ranked 3 (enterSafe 5) s
    | .recovery => alert 0 0xA 10 0xFF 0 { s with tie := { s.tie with en := false } }
    | _ => { s with tie := { s.tie with en := false } }) s)

/-- `ESTOP_RELEASE` (R364). -/
def execEstopRelease (s : State) : Host.Outcome State Fault Refusal :=
  .next (if s.powered then withFlt (fun s => newPeriod (s.modSys fun y => { y with estop := false })) s else s)

end Sys2Proof.Machine
end

