-- ==== Sys2Proof/Machine/Hold.lean ====
section
/-! DEFINITION. HOLD: its entry by command or activation, its limit, and the control plane ready again (R29 to R31). -/

namespace Sys2Proof.Machine

/-- An accepted change that R26 does not allow any more is dropped with an EVENT record (R257). -/
def dropChange (s : State) : State := event .dropped [modCode s.sys.st] s

/-- `HOLD_ENTRY` (R31, R257, R369): 1 ms after READY of `SYS_RESTART_CONTROL` or of a `FW_ACTIVATE` whose image runs
after HOLD. -/
def execHoldEntry (s : State) : Host.Outcome State Fault Refusal :=
  if !s.powered then .next s else
  .next (match s.sys.chg.find? fun d => decide (d = .holdCmd ∨ d = .holdFw) with
    | none => s
    | some d =>
      let s := dropOf d s
      if decide (s.sys.st = .standby ∨ s.sys.st = .run) && decide (s.sys.acted = 0) then
        if d = .holdCmd then ranked 6 (goHold 1) s else ranked 6 (fun s => goHold 4 (activate s)) s
      else dropChange s)

/-- `HOLD_LIMIT` (R31): the control plane is not ready at t0 + 2 s. -/
def execHoldLimit (s : State) : Host.Outcome State Fault Refusal :=
  .next (if decide (s.sys.st = .hold) && !s.sys.holdLimit then
    (bypStandIns s).modSys fun y => { y with holdLimit := true, rampHold := true, rampMs := y.rampFrom } else s)

/-- The ramp of the HOLD limit is complete (R31): every tap switch opens. -/
def holdRampEnd (s : State) : State :=
  let s := s.mapTaps fun _ t => { t with stake := t.stake.halt }
  alert 1 1 0x10 5 0 (s.modSys fun y => { y with rampHold := false })

/-- `HOLD_RAMP_COMPLETE` (R31): at t0 + 2.020 s. -/
def execHoldRampComplete (s : State) : Host.Outcome State Fault Refusal :=
  .next (if decide (s.sys.st = .hold) && s.sys.rampHold then holdRampEnd s else s)

/-- Deferred alerts enter the queue in the order they arose (R436). -/
def queueDeferred (s : State) : State :=
  s.alr.deferred.foldl (fun s a => enqueue a s) { s with alr := { s.alr with deferred := [] } }

/-- What the firmware of a tap finds when it runs again (R134, R140): a bypassed FAULT-OPEN enters ABSENT, a stand-in with
a block inserted enters DETECT, one that was to be stopped enters ABSENT once bypassed and FAULT-OPEN without SLOT_FB, a tap
suspended with cause module state enters DETECT in RUN, one without a sensor is suspended, a CUPPING pattern starts again, a
top-off timer that has run out ends TOPOFF, and a depth reached is acted on in RUN. -/
def reviewTap (n : Fin 32) (s : State) : State :=
  let t := s.taps[n]
  if gangedOdd s n then s
  else if t.state = .faultOpen ∧ t.stake.slotFb then toAbsent n s
  else if t.state = .standIn ∧ t.insHeld then toDetect n true s
  else if t.state = .standIn ∧ t.stake.handOff = .stop ∧ t.stake.slotFb ∧ t.stake.conv = false then toAbsent n s
  else if t.stake.openDue ∧ t.stake.handOff = .stop ∧ t.stake.slotFb = false then openFault n s
  else if t.state = .suspended ∧ t.cause = 10 ∧ s.sys.st = .run then toDetect n false s
  else if working t.state ∧ (sensorSuspend n s).taps[n].state = .suspended then sensorSuspend n s
  else
    let s := s.modTap n fun t => { t with insHeld := false }
    let s := if t.state = .cupping then
        s.modTap n fun t => { t with cupT := 0, cupOhm := [], cupInt := [], stake := { t.stake with iTarget := 0 } }
      else s
    if t.state = .topoff ∧ t.top.armed ∧ t.top.size * 256 ≤ t.top.elapsed then topOffEnd n s
    else if s.sys.st ≠ .run ∨ isHelper t then s
    else if decide (t.state = .done ∨ t.state = .topoff) && rechargeDue s n then goByKelvin n s
    else if t.state = .done ∧ topOffDue s n then enterCharge n .topoff s
    else s

/-- What the firmware of every core does once it runs again (R30, R134, R188, R330, R382): the image of the active bank
runs, what was taken completes with INTERNAL, deferred alerts are queued, pending snapshots are written, a recipe starts
from init with a0 = 1, firmware timers start again from zero (R159), every tap is reviewed, running times are saved (R95), a
new image is checked and the other bank runs where it fails (R367; DESIGN CHOICE, log entry 71). -/
def planeUp (s : State) : State :=
  let s := if !bankGood s s.fw.active && bankGood s (inactive s) then bootBank (inactive s) s else s
  let s := { s.modSys (fun y => { y with cores := 0xFF, lostCmds := [], fwFrom := .replicate 8 (some y.uptime) }) with
    fw := { s.fw with runVer := (bankAt s s.fw.active).version, running := (bankAt s s.fw.active).layout }
    arb := { s.arb with frozen := false } }
  let s := rcpAgain s
  let s := monAgain (foldFin 4 (fun n s => postLost n s) (forgetVias s))
  let s := saveTimes (foldFin 32 reviewTap s)
  newPeriod (writePending (queueDeferred s))

/-- Commands the module had put off until the control plane is ready (R192, R312); each acts if the state still allows
it. -/
def putOff (s : State) : State :=
  let s := if s.bp.faultWaits then faultAction (s.modBp fun b => { b with faultWaits := false }) else s
  let due := s.mtr.alarms.toList.any (·.standbyWaits)
  let s := { s with mtr := { s.mtr with alarms := s.mtr.alarms.map fun a => { a with standbyWaits := false } } }
  if due && decide (s.sys.st = .run) then issue 0x0103 runStandby .own [] s else s

/-- HOLD ends (R26, R31, R335): before the limit in the state before HOLD with its cause, after it in STANDBY with
CAUSE 0x9; an entry to RUN enables the watchdog. A return to STANDBY is an entry to STANDBY, which sends enabled ports that
are DISABLED to IDLE (R450) and does what else such an entry does (DEDUCED, log entry 34). -/
def leaveHold (s : State) : State :=
  if s.sys.holdLimit then
    let s := if s.sys.rampHold then holdRampEnd s else s
    enterStandby 9 (leaveRun s)
  else if s.sys.before = .standby then enterStandby s.sys.beforeCause s
  else
    let ramp := s.sys.rampStandby
    let s := if s.sys.before = .run then wdgEnable s else s
    let s := setState s.sys.before s.sys.beforeCause s
    s.modSys fun y => { y with rampStandby := ramp }

/-- `CONTROL_PLANE_READY` (R30, R31, R319): ends HOLD, with a grace period (R330) and the decision who leads; after a restart of every core in SAFE the cores run again
(R333). -/
def execControlPlaneReady (s : State) : Host.Outcome State Fault Refusal :=
  .next (match s.sys.st with
    | .hold => putOff (vselOccasion false (grace (decideRole (planeUp (leaveHold s)))))
    | .safe => if planeDown s then planeUp s else s
    | _ => s)

end Sys2Proof.Machine
end

