-- ==== Sys2Proof/Machine/Sense.lean ====
section
/-! DEFINITION. What the module measures: a sample enters the state (R57, R160, R419), the outer loop and the rod loop of a
stake (R66 to R70, R315), and the active limit it shows (R16, R59, R160). -/

namespace Sys2Proof.Machine

/-! ### Limits -/

/-- Droop factor of R33 in 1/30000: 0 in the undervoltage hold. -/
def droopFactor (h : Hub) : Nat :=
  if h.uv then 0 else if h.droop then min 30000 (h.v - Config.hubUv) else 30000

/-- Hand-over factor of R51 in 1/20: falls over 20 ms and stays 0 until doses are issued afresh. -/
def rampFactor (h : Hub) : Nat := 20 - h.ramp0

/-- Factor of the ramp of `SYS_STANDBY`, of the HOLD limit or of housekeeping loss in 1/20 (R26, R31, R352). -/
def moduleFactor (y : Sys) : Nat := if y.rampStandby || y.rampHold || y.hkLost then 20 - y.rampMs else 20

/-- Factor of the bypass ramp in 1/20 (R112); in a hand-over the stake ramps with the others (R52). -/
def bypassFactor (s : State) (n : Fin 32) : Nat :=
  let k := s.taps[n].stake
  if k.bypRamp && !s.hub.handover then 20 - k.bypMs else 20

/-- The stake current limit of R66 before droop and hand-over, with the code of what sets it (R160): 4 dose, 6 command,
7 stake rating. -/
def baseLimit (s : State) (n : Fin 32) : Nat × Nat :=
  let t := s.taps[n]
  let r := stakeLimit s n
  let c := t.cfg.cmdLim.getD r
  if r ≤ c ∧ r ≤ t.dose then (r, 7) else if c ≤ t.dose then (c, 6) else (t.dose, 4)

/-- The stake current limit `i_lim` (R66), 10 mA. -/
def iLim (s : State) (n : Fin 32) : Nat :=
  (baseLimit s n).1 * droopFactor s.hub * rampFactor s.hub * moduleFactor s.sys * bypassFactor s n / 240000000

/-- The block-current target with a recipe's request (R147, R378). -/
def blkTarget (t : Tap) : Int := match t.rcpReq with
  | none => t.stake.iTarget
  | some r => min t.stake.iTarget r

/-- `ib` is `iv` in KEEP and STAND-IN (R66), until a block is inserted (R140). -/
def noTarget (t : Tap) : Bool := decide (t.state = .keep ∨ t.state = .standIn) && !t.insHeld

/-- The states in which the temperature fraction acts (R154). -/
def fractionActs (t : Tap) : Bool := decide (t.state = .precharge ∨ t.state = .cc ∨ t.state = .cv ∨ t.state = .topoff)

/-- Highest tap voltage the hub can support (R59), mV; 0 while the hub voltage is unknown. -/
def dutyVolt (h : Hub) : Nat := 97 * (h.v / 4 - 500) / 100

/-! ### Outer loop -/

/-- A coefficient word as a signed Q1.15 number (R68). -/
def coeff (k : Stake) (banks : Vector (Vector Word 9) 4) (i : Fin 9) : Int :=
  ((banks.toList.getD k.bank (.replicate 9 0))[i]).toInt

/-- Shift of a loop, bits [2:0] (R69). -/
def shiftOf (k : Stake) (banks : Vector (Vector Word 9) 4) (i : Fin 9) : Nat :=
  ((banks.toList.getD k.bank (.replicate 9 0))[i]).toNat % 8

/-- One sample of a loop in velocity form (R66, R68), in 1/2^30 of full scale; the integral part stops in the direction
of an active clamp. -/
def piStep (u e ePrev kp ki : Int) (shift : Nat) (hi lo : Bool) : Int :=
  let i := ki * e
  let i := if (hi && decide (0 < i)) || (lo && decide (i < 0)) then 0 else i
  clamp (-(2 ^ 30)) (2 ^ 30) (u + (kp * (e - ePrev) + i) * 2 ^ shift)

/-- A loop output in 10 mA (R68): full scale 256 A. -/
def loopAmps (u : Int) : Int := u * 25600 / 2 ^ 30

/-- What the stake current would have to be for `iv` (R16, R66, R315, R317), before its clamp, 10 mA: the block current
plus the string current, less the share that the helpers of a shared block carry; at a helper that share. -/
def wantAmps (s : State) (n : Fin 32) (iv : Int) : Int :=
  let t := s.taps[n]
  let i := clamp (-25600) 25600 s.sys.iStr
  let share : Int := t.cfg.share * max 0 i / 16
  let ib := if noTarget t then iv else min iv (blkTarget t)
  if isHelper t then share + min 0 iv else ib + i - share

/-- Stake current demand (R66) from `iv`, 10 mA: the sum clamped to the range of R14 and R15. -/
def demand (s : State) (n : Fin 32) (iv : Int) : Int := clamp 0 (iLim s n) (wantAmps s n iv)

/-- Active rods of a stake or pair (R65). -/
def activeCount (s : State) (n : Fin 32) : Nat := ((mates s n).map fun m => s.taps[m].stake.nActive).sum

/-- One outer-loop sample of a converting stake or pair (R65, R66, R68): voltage full scale 128 V, currents 256 A; the
stake current of a pair is the sum over both stakes. -/
def regulate (s : State) (n : Fin 32) : Stake :=
  let t := s.taps[n]
  let k := t.stake
  let b := t.cfg.banks
  let active := activeCount s n
  let ev := ((k.vref / 1000 : Nat) - kelvin t) * 32768 / 128000
  let want := wantAmps s n (loopAmps k.uV)
  let hi := decide ((iLim s n : Int) ≤ want) || (!noTarget t && decide (blkTarget t < loopAmps k.uV))
  let uV := piStep k.uV ev k.eV (coeff k b 0) (coeff k b 1) (shiftOf k b 2) hi (decide (want ≤ 0))
  let ist := demand s n (loopAmps uV)
  let ec := (ist - stakeAmps s n) * 32768 / 25600
  let top := decide ((active * 550 : Nat) ≤ k.rodRef * active)
  let uC := piStep k.uC ec k.eC (coeff k b 3) (coeff k b 4) (shiftOf k b 5) top (decide (k.rodRef ≤ 0))
  let ir := clamp 0 (active * 550 : Nat) (ist + loopAmps uC)
  { k with uV := uV, eV := ev, uC := uC, eC := ec, ist := ist, rodRef := if active = 0 then 0 else ir / active
           ilimRun := min (t.cfg.cmdLim.getD 0xFFFF) t.dose }

/-- One sample in pre-bias (R101): the output node is regulated to 0.3 V below the power pair, with at most 2 A a rod. The
spec gives pre-bias no loop of its own: the voltage loop does it, its output being the demand (DEDUCED, log entry 54). -/
def prebias (s : State) (n : Fin 32) : Stake :=
  let t := s.taps[n]
  let k := t.stake
  let b := t.cfg.banks
  let active := activeCount s n
  let ev := (t.vPair - 300 - k.vNode) * 32768 / 128000
  let top : Int := (active * 200 : Nat)
  let uV := piStep k.uV ev k.eV (coeff k b 0) (coeff k b 1) (shiftOf k b 2) (decide (top ≤ loopAmps k.uV))
    (decide (k.uV ≤ 0))
  let ist := clamp 0 top (loopAmps uV)
  { k with uV := uV, eV := ev, ist := ist, rodRef := if active = 0 then 0 else ist / active
           ilimRun := min (t.cfg.cmdLim.getD 0xFFFF) t.dose }

/-- One outer-loop sample of a stake (R66); a stopped stake runs none. -/
def outerLoop (s : State) (n : Fin 32) : Stake :=
  let k := s.taps[n].stake
  if !k.conv then k else if k.start = .prebias then prebias s n else regulate s n

/-! ### Rod loop -/

/-- Highest duty, 0.97 in Q1.15 (R67). -/
def dutyMax : Int := 31784

/-- Intermediate rail of a switching rod, mV (R58): a quarter of the hub voltage, less 0.5 V at 5.5 A. -/
def railOf (h : Hub) (r : Rod) : Int := h.v / 4 - r.iRod * 500 / 550

/-- The duty of an active rod (R67, R68), Q1.15: feed-forward, current error on a full scale of 16 A with the gain
KPR × 2^SR, and trim. The shift of the rod loop scales KPR alone (DEDUCED, log entry 54). `h` is the stake whose outer
loop gives the reference, `node` the output node of the rod's own stake. -/
def rodDuty (h : Stake) (banks : Vector (Vector Word 9) 4) (node rail : Int) (r : Rod) : Int :=
  clamp 0 dutyMax (coeff h banks 8 * node / max 1 rail
    + coeff h banks 6 * 2 ^ shiftOf h banks 7 * (h.rodRef - r.iRod) / 1600 + r.trim)

/-- The rod loop of one stake (R60, R67): a resting rod has duty 0 and its rail held by burst idle, at what R60 allows
(DESIGN CHOICE, log entry 54: a quarter of the hub voltage). -/
def rodLoop (h : Stake) (banks : Vector (Vector Word 9) 4) (hub : Hub) (k : Stake) : Stake :=
  if !k.conv then k else
  { k with
    buckOff := false
    rods := k.rods.map fun r =>
      if r.active then
        let rail := railOf hub r
        { r with vInt := rail, duty := rodDuty h banks k.vNode rail r }
      else { r with vInt := hub.v / 4, duty := 0 } }

/-! ### Active limit -/

/-- Every switching rod of a stake or pair stands at the highest duty (R59). -/
def dutyHeld (s : State) (n : Fin 32) : Bool :=
  decide (0 < activeCount s n) && (mates s n).all fun m =>
    s.taps[m].stake.rods.toList.all fun r => !r.active || decide (r.duty = dutyMax)

/-- The block stands at its target, below what the voltage loop asks for (R147). -/
def atTarget (t : Tap) (iv : Int) : Bool := !noTarget t && decide (blkTarget t ≤ iv)

/-- Active limit of a tap (R16, R59, R66, R147, R160, R378), from the demanded sum: a sum above the stake's limit, or at it with no
block at its target, shows what sets the limit, one beyond what the active rods give at 5.5 A each (R66, R427) or below 0 A (R16)
the stake clamp; then rods held at the highest duty show the duty limit, a block
at its target what sets the target, a target beyond the duty range the duty limit, and else the voltage loop governs. The
order among limits that hold together is the model's (log entry 35), and so is hub droop for the 20 ms ramps of `SYS_STANDBY`, of
HOLD and of housekeeping loss, for which R160 has no code (log entry 53). -/
def activeLimit (s : State) (n : Fin 32) : Nat :=
  let t := s.taps[n]
  let iv := loopAmps t.stake.uV
  let want := wantAmps s n iv
  let far := decide (0 < s.hub.v ∧ dutyVolt s.hub < t.stake.vTarget)
  if !t.stake.conv then 0
  else if activeCount s n * 550 < iLim s n ∧ (activeCount s n * 550 : Int) < want then 7
  else if (iLim s n : Int) < want || (decide ((iLim s n : Int) = want) && !atTarget t iv) then
    (if rampFactor s.hub < 20 then 10 else if droopFactor s.hub < 30000 ∨ moduleFactor s.sys < 20 then 9 else (baseLimit s n).2)
  else if want < 0 then 7
  else if far && dutyHeld s n then 8
  else if atTarget t iv then
    (if blkTarget t < t.stake.iTarget then 5 else if fractionActs t && decide (fraction t < 100) then 3 else 2)
  else if far then 8 else 1

/-! ### One sample of a tap -/

/-- The states in which a charge by the system is reported (R17, R153). -/
def charged (t : Tap) : Bool := decide (t.state = .cv ∨ t.state = .done ∨ t.state = .topoff)

/-- With a negative string current the Kelvin voltage exceeds the effective CV target by more than 50 mV a cell (R153). -/
def overcharged (iStr : Int) (t : Tap) (v : Int) : Bool :=
  charged t && decide (iStr < 0) && decide ((effCv t : Int) + 50 * cells t < v)

/-- Bank selection with its hysteresis (R70). -/
def selectBank (s : State) (n : Fin 32) (k : Stake) : Stake :=
  let t := s.taps[n]
  let v := kelvin t
  let hv := if (t.cfg.hvThr : Int) ≤ v then true else if v < t.cfg.hvThr - 2000 then false else k.hv
  let act := activeCount s n
  let act := if t.cfg.gang then act / 2 else act
  let many := if t.cfg.rodThr ≤ act then true else if act + 2 ≤ t.cfg.rodThr then false else k.many
  { k with hv := hv, many := many, bank := 2 * (if hv then 1 else 0) + (if many then 1 else 0) }

/-- The stake that runs the loop of a stake or pair, after one sample: the loop runs with the bank selected at the sample
before, and the bank is selected after it. The spec does not fix that order (DESIGN CHOICE, log entry 55). -/
def headStake (s : State) (n : Fin 32) : Stake := selectBank s n (outerLoop s n)

/-- A limit code that has governed in this period (R172). -/
def noteLimit (c : Nat) (l : List Nat) : List Nat := if c ∈ l then l else l ++ [c]

/-- One outer-loop sample of a tap: loop, bank, rod loop, active limit, end of KEEP_LOW (R107) and of OVERCHARGE (R153),
droop of a stand-in (R110); a pair runs one outer loop, in stake 2k, which gives the rods of both their reference (R65). -/
def loopTap (s : State) (n : Fin 32) (t : Tap) : Tap :=
  let h := headTap s n
  let k := headStake s h
  let b := s.taps[h].cfg.banks
  if gangedOdd s n then { t with stake := rodLoop k b s.hub t.stake } else
  let k := rodLoop k b s.hub k
  let droop := decide (t.state = .standIn) && k.conv
    && decide ((ampsAt (rating s n) (siTarget s t) : Int) < s.sys.iStr)
  let near := decide (kelvin t - 200 ≤ k.vref / 1000 ∧ (k.vref / 1000 : Int) ≤ kelvin t + 200)
  let c := activeLimit (s.modStake n fun _ => k) n
  { t with limit := c, seen := noteLimit c t.seen, keepLow := t.keepLow && !near
           overcharge := t.overcharge && overcharged s.sys.iStr t (kelvin t), stake := { k with droopSi := droop } }

/-- Every stake's outer loop. -/
def loops (s : State) : State := s.mapTaps fun n t => loopTap s n t

/-! ### Samples -/

/-- Input-power estimate of a port, W (R49, R50): voltage × current × the factory gain that the in-service calibration
trims, plus the factory offset. -/
def inputPower (x : Fin 4) (p : Port) (v i : Int) : Int :=
  v * i * Config.factoryGain x.val * (100000 + p.trim) / 1000000000000000 + Config.factoryOffset x.val

/-- The ports' part of a sample (R57). -/
def samplePort (m : Sample) (x : Fin 4) (p : Port) : Port := match m.ports[x.val]? with
  | none => p
  | some (v, i) => { p with vin := v, iin := i, pin := inputPower x p v i }

/-- The NTC readings averaged over 1 s, 200 periods of 5 ms (R137). Within the first second the mean of what has come
so far is shown (DESIGN CHOICE, log entry 56). -/
def ntcAverage (a b : Int) (t : Tap) : Tap :=
  let x := t.ntcSum.1 + a
  let y := t.ntcSum.2.1 + b
  let k := t.ntcSum.2.2 + 1
  if k ≤ 200 then { t with ntcA := x / k, ntcB := y / k, ntcSum := if k = 200 then (0, 0, 200) else (x, y, k) }
  else if k = 400 then { t with ntcA := x / 200, ntcB := y / 200, ntcSum := (0, 0, 200) }
  else { t with ntcSum := (x, y, k) }

/-- The taps' part of a sample (R62, R67, R137, R160). -/
def sampleTap (m : Sample) (n : Fin 32) (t : Tap) : Tap := match m.taps[n.val]? with
  | none => t
  | some a =>
    ntcAverage a.ntcA a.ntcB { t with
      vKel := a.vKel, vPair := a.vPair, iStk := a.iStk, reverse := decide (a.vPair < -1000)
      stake := { t.stake with
        vNode := a.vNode
        rods := vec fun p => { t.stake.rods[p] with iRod := a.rods.getD p.val t.stake.rods[p].iRod } } }

/-- TRACK lies in its valid range (R114). -/
def trackOk (v : Int) : Bool := decide (-100 ≤ v ∧ v ≤ 5100)

/-- The AUX and TRACK voltages and the straps of a sample (R40, R114, R224). -/
def sampleAux (m : Sample) (y : Sys) : Sys :=
  { y with auxV := m.auxV, strap := m.strap, trackMv := m.track, trackValid := trackOk m.track, trackSeen := y.trackSeen || trackOk m.track, trackTold := y.trackTold && !trackOk m.track }

/-- KEY# in a sample (R362, R371): a press that begins before KEY# has been high for 100 ms is not timed. -/
def sampleKey (m : Sample) (y : Sys) : Sys :=
  if m.keyLow && !y.keyLow then { y with keyLow := true, keyStale := y.keyStale || decide (y.keyHigh < 100) }
  else if !m.keyLow && y.keyLow then { y with keyLow := false, keyHigh := 0 }
  else y

/-- The string's part of a sample (R411, R419): the current measured while the bitstream is valid, else the last valid one
(R410), with the range of R409, the contactor's feedback, voltage and inlet. -/
def sampleString (m : Sample) (y : Sys) : Sys :=
  let y := { y with vStr := m.vStr, inlet := m.inlet, divOn := true, strFb := m.strFb }
  if y.shValid then { y with iStr := m.iStr, iStrPeak := m.iStrPeak, shRange := decide (m.iStr < -32000 ∨ 32000 < m.iStr) }
  else y

/-- The hub's part of a sample (R33): droop and the undervoltage hold end with the hub voltage. -/
def sampleHub (m : Sample) (h : Hub) : Hub :=
  { h with v := m.hubV, droop := h.droop && decide (m.hubV < Config.hubDroop), uv := h.uv && decide (m.hubV ≤ Config.hubUvEnd) }

/-- Every voltage of a sample lies within the absolute maximum ratings (R420). -/
def rated (m : Sample) : Bool :=
  (m.ports.all fun p => portRated p.1) && (m.taps.all fun t => tapRated t.vKel && tapRated t.vPair)
    && stringRated m.vStr && within Config.absAux m.auxV && trackRated m.track && m.pilots.all pilotRated

/-- Taps in KEEP and STAND-IN take their present reference (R116, R117). -/
def retrack (s : State) : State := foldFin 32 (fun n s => refresh n s) s

/-- The targets of a tap follow a new band (R154, R155), except in DETECT and CUPPING. -/
def bandTargets (n : Fin 32) (s : State) : State :=
  let a := s.taps[n]
  if decide (a.state ≠ .cupping ∧ a.state ≠ .detect) && TapState.converts a a.state then retarget n s else s

/-- A tap that has lost every valid NTC shows so (R155), and with policy DERATE takes its reduced targets. -/
def lostNtc (n : Fin 32) (s : State) : State :=
  if fwUp s n && !gangedOdd s n && !validNtc s.taps[n] && decide (s.taps[n].band ≠ 6) then
    wakeFor n (bandTargets n (s.modTap n fun t => { t with band := 6 })) else s

/-- A power pair that has turned (R61): the tap switch, of a pair both switches, is held open, and a start or a converting
stake ends. -/
def turnBack (h : Fin 32) (s : State) : State :=
  let k := s.taps[h].stake
  if k.conv || decide (k.start = .pretest ∨ k.start = .prebias) then stopStake h s else s

/-- What a sample shows of a reversed power pair (R61); one that was not reversed before is a tap-sense event, which wakes the
island (R21, R22). -/
def reverseSeen (was : Vector Tap 32) (n : Fin 32) (s : State) : State :=
  if !s.taps[n].reverse then s
  else
    let s := turnBack (headTap s n) s
    if was[n].reverse then s else wakeFor n s

/-- A sample enters the state, a reversed pair opens its switch, the tracked references follow TRACK, and the loops see
it. -/
def absorb (m : Sample) (s : State) : State :=
  let was := s.taps
  let s := ((s.mapPorts (samplePort m)).mapTaps (sampleTap m)).modSys fun y => sampleKey m (sampleAux m (sampleString m y))
  let s := { s with
    tie := { s.tie with cur := m.tie }
    bus := ({ s.bus with alertOther := m.alertLow } : Bus).lineLevel
    links := vec fun x => { s.links[x] with pilot := m.pilots.getD x.val s.links[x].pilot } }
  loops (retrack (foldFin 32 lostNtc <| foldFin 32 (reverseSeen was) { s with hub := sampleHub m s.hub }))

end Sys2Proof.Machine
end

