-- ==== Sys2Proof/Machine/Arbiter.lean ====
section
/-! DEFINITION. The dose arbiter: budget, classes, fill, doses, guarantees and cut episodes (R44 to R47, R161 to R178). -/

namespace Sys2Proof.Machine

/-! ### Budget -/

/-- Full ceiling of a port (R44), W: stage rating, current limit, cap in CAP mode, contract in CONTRACT mode. -/
def fullCeiling (s : State) (x : Fin 4) : Nat :=
  let p := s.ports[x]
  let c := min Config.stageRating (effLimit s x * p.vin.toNat / 100000)
  let c := if s.hub.modeIn = .cap ∧ 0 < p.cap then min c p.cap else c
  if s.hub.modeIn = .contract ∧ !(s.links[x].inForce && !s.links[x].role) then 0 else c

/-- Ceiling of a port (R44): rising over 50 ms in SOFTSTART, 0 W unless SOFTSTART or ONLINE. -/
def ceiling (s : State) (x : Fin 4) : Nat := match s.ports[x].state with
  | .online => fullCeiling s x
  | .softstart => fullCeiling s x * min 50 s.ports[x].softMs / 50
  | _ => 0

/-- Sum over the four ports. -/
def sumPorts (f : Fin 4 → Nat) : Nat := f 0 + f 1 + f 2 + f 3

/-- Available intake power (R46). -/
def available (s : State) : Nat :=
  let a := min Config.intakeRating (sumPorts (ceiling s))
  if s.hub.modeIn = .cap then min a s.hub.siteCap else a

/-- Modelled loss of one intake stage at a port power, W: a0 + a1·i + a2·i² with the factory coefficients
(02_source_intake.md, "The input-power estimate"); a stage that is off has none. -/
def stageLoss (s : State) (x : Fin 4) (w : Nat) : Nat :=
  let p := s.ports[x]
  if p.state = .softstart ∨ p.state = .online then
    let i : Int := w * 100000 / max 1 p.vin.toNat
    ((Config.stageA x.val 0 + Config.stageA x.val 1 * i + Config.stageA x.val 2 * i * i) / 1000).toNat
  else 0

/-- Stage losses predicted at the ceilings (R161). -/
def stageLosses (s : State) : Nat := sumPorts fun x => stageLoss s x (ceiling s x)

/-- The inlet sensor reads out of range (R162). -/
def inletBad (t : Int) : Bool := decide (t < -450 ∨ 900 < t)

/-- Coolant-loss budget (R162), W, for an inlet temperature in 0.1 °C and the loss cap. -/
def qMax (t : Int) (cap : Nat) : Nat :=
  min cap (if inletBad t then Config.lossBadInlet
    else if t ≤ 550 then Config.lossMax else if t ≤ 700 then (Config.lossMax * (700 - t) / 150).toNat else 0)

/-- Intake budget (R161). After a hand-over R53 has zero doses "until a port is ONLINE again" and R54 fresh doses from a port's
rising ceiling in SOFTSTART: the model follows R54 and its worked example (DEDUCED, log entry 72). -/
def intakeBudget (s : State) : Nat := available s - stageLosses s

/-! ### Requests -/

/-- The state whose ceiling, request and class the arbiter takes (R152, R164). -/
def arbState (t : Tap) : TapState := if t.state = .suspended ∧ t.cause = 4 then t.left else t.state

/-- Support carry (R164); at a helper its share of it (R317). -/
def supportCarry (s : State) (t : Tap) : Nat :=
  let c := s.sys.iStrPeak.toNat + 200
  if isHelper t then t.cfg.share * c / 16 else c

/-- Cupping current (R144). -/
def cupCurrent (d : Descriptor) : Nat := min 500 (d.nameplate / 2)

/-- Block request (R164), 10 mA. -/
def blockRequest (s : State) (n : Fin 32) : Nat :=
  let t := s.taps[n]
  let st := arbState t
  let goal := (targets s n st).2.toNat
  match t.desc with
  | none => 0
  | some d => match st with
    | .precharge | .cc | .topoff => goal
    | .cv =>
      let i := iBlk s n
      min goal (i + max 200 (i / 4)).toNat
    | .cupping => cupCurrent d
    | _ => 0

/-- A recipe governs the tap (R165, R175). -/
def governed (s : State) (n : Fin 32) : Bool := s.rcp.running.isSome && s.rcp.mask.getLsbD n.val

/-- Block request as a recipe that governs the tap lowers it (R171, R175). -/
def blockWish (s : State) (n : Fin 32) : Nat :=
  let b := blockRequest s n
  match s.taps[n].rcpReq with
  | some r => if governed s n then min r b else b
  | none => b

/-- Request (R164, R175): carry and block request, or the lower request of a recipe; at a helper its share (R317). -/
def request (s : State) (n : Fin 32) : Nat :=
  let t := s.taps[n]
  if isHelper t then supportCarry s t else carry s t + blockWish s n

/-- The arbiter may grant a tap something: its state converts, in the sense of R164. -/
def asks (s : State) (n : Fin 32) : Bool :=
  let t := s.taps[n]
  !gangedOdd s n && TapState.converts t (arbState t) && !(decide (t.state = .standIn) && t.stake.bypassed)

/-- Ceiling of a tap, class P0 (R164). -/
def tapCeiling (s : State) (n : Fin 32) : Nat :=
  if asks s n then min (stakeLimit s n) (s.taps[n].cfg.cmdLim.getD 0xFFFF) else 0

/-- The states of class P2. -/
def p2State : TapState → Bool
  | .precharge | .cc | .cv | .topoff => true
  | _ => false

/-- Level that a class asks for, before the ceiling (R165); none where the tap is no member. -/
def classLevel (s : State) (n : Fin 32) (c : Fin 5) : Option Nat :=
  let t := s.taps[n]
  let st := arbState t
  if !asks s n then none else
  let fill := decide (st = .cc ∨ st = .cv ∨ st = .topoff)
  match c with
  | 0 => if st = .standIn then some (supportCarry s t) else none
  | 1 => if st = .keep ∨ isHelper t then some (supportCarry s t) else none
  | 2 => if p2State st ∧ 0 < t.cfg.minCur then some (carry s t + min t.cfg.minCur (blockRequest s n)) else none
  | 3 => if !isHelper t && ((fill && governed s n) || decide (st = .cupping ∨ st = .precharge ∨ st = .detect ∨ st = .done))
      then some (request s n) else none
  | 4 => if fill && !governed s n then some (request s n) else none

/-- Level that each class raises the grant to (R165): none exceeds the ceiling. -/
def level (s : State) (n : Fin 32) (c : Fin 5) : Option Nat := (classLevel s n c).map fun l => min l (tapCeiling s n)

/-- Net charge still to deliver (R164), 10 µAs. -/
def chargeLeft (s : State) (n : Fin 32) : Nat :=
  let c := capacity s n * 36000000
  if s.taps[n].doneSeen then min c (max (c / 100) s.taps[n].outQ.toNat) else c / 2

/-- Energy still to deliver (R164), 1 Wh. -/
def energyLeft (s : State) (n : Fin 32) : Nat := match s.taps[n].desc with
  | none => 0
  | some d => d.cells * d.nomC * chargeLeft s n / 360000000000

/-- Hub power of a stake current (R163), 10 µW: tap voltage × current ÷ efficiency, which is that of the present tap voltage,
current and active rods, of both stakes in a pair (R65). -/
def hubPower (s : State) (n : Fin 32) (i : Nat) : Nat :=
  let t := s.taps[n]
  t.vKel.toNat * i * 65536 / max 1 (Config.eta t.vKel i (activeCount s n))

/-! ### Allocation -/

/-- The greatest current up to a bound that satisfies a test. -/
def greatest (p : Nat → Bool) : Nat → Nat
  | 0 => 0
  | k + 1 => if p (k + 1) then k + 1 else greatest p k

/-- One member of a sharing: who, weight, amount wanted. -/
structure Want where
  /-- Member. -/
  id : Nat
  /-- Weight. -/
  weight : Nat
  /-- Amount wanted. -/
  want : Nat
deriving DecidableEq, Repr

/-- Share an amount by weights, each member held at what it wants and the excess shared again (R45, R167). -/
def shareOut : Nat → Nat → List Want → List (Nat × Nat)
  | 0, _, _ => []
  | fuel + 1, b, ws =>
    let total := (ws.map (·.weight)).sum
    let full := ws.filter fun w => decide (w.want * total ≤ b * w.weight)
    if full.isEmpty then ws.map fun w => (w.id, b * w.weight / total)
    else
      full.map (fun w => (w.id, w.want))
        ++ shareOut fuel (b - (full.map (·.want)).sum) (ws.filter fun w => !decide (w.want * total ≤ b * w.weight))

/-- The amount a member received. -/
def got (l : List (Nat × Nat)) (i : Nat) : Nat := ((l.find? fun p => p.1 = i).map (·.2)).getD 0

/-- What an allocation run carries from class to class: grants, budget left (10 µW), last class that raised each grant,
classes that fell short, cost of P1 and P2. -/
structure Alloc where
  /-- Grants, 10 mA. -/
  g : Vector Nat 32
  /-- Budget left. -/
  b : Nat
  /-- Last class that raised each grant. -/
  cls : Vector Nat 32
  /-- Classes that fell short. -/
  short : List (Fin 5)
  /-- Cost of each class's level. -/
  cost : List Nat
deriving DecidableEq, Repr

/-- Number of a class in `TAPnn_DOSEINFO.CLASS` (R179). -/
def classNo (c : Fin 5) : Nat := max 1 c.val

/-- Allocate one class (R165 to R167); without budget no dose is raised, whatever it would cost (R53, R166). -/
def allocClass (s : State) (c : Fin 5) (a : Alloc) : Alloc :=
  let want : Vector Nat 32 := vec fun n => match level s n c with
    | none => 0
    | some l => l - a.g[n]
  let cost : Vector Nat 32 := vec fun n => hubPower s n (a.g[n] + want[n]) - hubPower s n a.g[n]
  let total := cost.toList.sum
  let raise (f : Fin 32 → Nat) (b : Nat) (short : Bool) : Alloc :=
    { g := vec fun n => a.g[n] + f n, b := b, cls := vec fun n => if 0 < f n then classNo c else a.cls[n]
      short := if short then a.short ++ [c] else a.short, cost := a.cost ++ [total] }
  if a.b = 0 then raise (fun _ => 0) 0 (want.toList.any fun w => decide (0 < w))
  else if total ≤ a.b then raise (fun n => want[n]) (a.b - total) false
  else
    let part : List (Nat × Nat) :=
      if c = 4 then
        shareOut 33 a.b ((indices 32).filterMap fun n =>
          if 0 < want[n] then some { id := n.val, weight := max 1 (energyLeft s n), want := cost[n] } else none)
      else (indices 32).map fun n => (n.val, cost[n] * a.b / total)
    raise (fun n => greatest (fun i => decide (hubPower s n (a.g[n] + i) - hubPower s n a.g[n] ≤ got part n.val)) want[n])
      0 true

/-- The five classes in order (R166). -/
def allocate (s : State) (budget : Nat) : Alloc :=
  foldFin 5 (allocClass s) { g := .replicate 32 0, b := budget * 100000, cls := .replicate 32 0, short := [], cost := [] }

/-! ### Allowances -/

/-- Ports in rank order. -/
def byRank (s : State) : List (Fin 4) :=
  (indices 4).flatMap fun r => (indices 4).filter fun x => s.ports[x].rank = r.val + 1

/-- Fill ports in the order given (R45). -/
def fillPorts : Nat → List (Nat × Nat) → List (Nat × Nat)
  | _, [] => []
  | d, (x, c) :: ps => (x, min d c) :: fillPorts (d - min d c) ps

/-- Split an intake demand into allowances (R32, R45): together at most 123 kW. -/
def split (s : State) (demand : Nat) : List (Nat × Nat) :=
  let d := min demand Config.intakeRating
  match s.hub.modeIn with
  | .priority | .contract => fillPorts d ((byRank s).map fun x => (x.val, ceiling s x))
  | .blend =>
    shareOut 5 d (((indices 4).filter fun x => decide (s.ports[x].state = .softstart ∨ s.ports[x].state = .online)).map
      fun x => { id := x.val, weight := s.ports[x].weight, want := ceiling s x })
  | .cap =>
    let total := sumPorts (ceiling s)
    let d := min (min d s.hub.siteCap) total
    (indices 4).map fun x => (x.val, if total = 0 then 0 else ceiling s x * d / total)

/-! ### Coolant budget -/

/-- Modelled loss of the stakes at their grants, 10 µW (R162): hub-power cost less output. -/
def stakeLoss (s : State) (g : Vector Nat 32) : Nat :=
  ((indices 32).map fun n => hubPower s n g[n] - s.taps[n].vKel.toNat * g[n]).sum

/-- Modelled burst-idle loss of the resting rods of converting stakes, mW (R60, R162). -/
def idleLoss (s : State) : Nat :=
  (s.taps.toList.map fun t => if t.stake.conv then t.stake.healthy - t.stake.nActive else 0).sum * Config.idleRod s.hub.v

/-- The greatest number below `x + 2^k` from `x` up that satisfies a test which holds up to some point. -/
def bisect (p : Nat → Bool) : Nat → Nat → Nat
  | 0, x => x
  | k + 1, x => bisect p k (if p (x + 2 ^ k) then x + 2 ^ k else x)

/-- Losses of the stages while together they deliver a hub power, W: each stage takes its share of R45 at its input, and
delivers that less its loss (02_source_intake.md, "The input-power estimate"), so that the losses are the figure that equals
what the stages lose at the intake of hub power and losses. -/
def stagesAt (s : State) (p : Nat) : Nat :=
  bisect (fun loss =>
    let l := split s (p + loss)
    decide (loss ≤ sumPorts fun x => stageLoss s x (got l x.val))) 17 0

/-- The module's total modelled loss at a hub-side power for the grants, W (R162): stages, which deliver that power and what
burst idle draws, stakes at the grants of that power, rods in burst idle and housekeeping. -/
def lossAt (s : State) (p : Nat) : Nat :=
  stagesAt s (p + idleLoss s / 1000) + stakeLoss s (allocate s p).g / 100000 + idleLoss s / 1000 + Config.housekeeping

/-- P_Q (R162): the hub-side power, in whole watts, at which the total loss reaches the coolant budget, 0 W where every
power loses more, and 123 kW where no power the intake can give loses as much (DEDUCED, log entry 57). -/
def coolantPower (s : State) : Nat :=
  let q := qMax s.sys.inlet s.arb.lossCap
  bisect (fun p => decide (p ≤ Config.intakeRating ∧ lossAt s p ≤ q)) 17 0

/-! ### Guarantees -/

/-- What stops a stake in the sense of R172, as codes beside those of `TAPnn_ACTIVE.LIMIT`: 11 the hand-off, 12 withdrawal,
13 the end of HOLD. -/
def stopCodes (s : State) (t : Tap) : List Nat :=
  (if !t.stake.conv && t.stake.bypassed then [11] else []) ++ (if t.stake.withdrawn then [12] else [])
    ++ (if !t.stake.conv && decide (s.sys.st = .hold) && s.sys.holdLimit then [13] else [])

/-- Cause of a cut (R173) for a limit or stop code, 0 where R172 counts none. A cut under the duty limit, for which R173 has no
cause, is named stake rating (DESIGN CHOICE, log entry 53). -/
def causeOf (s : State) (code : Nat) : Nat :=
  let hold := decide (s.sys.st = .hold)
  match code with
  | 4 => if hold then 5 else if s.arb.binding then 2 else 1
  | 7 | 8 => 6
  | 9 => if hold && s.sys.rampHold then 5 else 3
  | 10 => 4
  | 11 => 7
  | 12 => 8
  | 13 => 5
  | _ => 0

/-- Cause of a cut, 0 where R172 counts no shortfall: what held at any time in the period. Where several held the model names
what holds at its end, and else the first in the order of R173 (DESIGN CHOICE, log entry 53). -/
def cutCause (s : State) (t : Tap) : Nat :=
  let rank (l : List Nat) : Nat := ((l.map (causeOf s)).filter (0 < ·)).foldl (fun m c => if m = 0 then c else min m c) 0
  let now := rank (stopCodes s t ++ [t.limit])
  if now ≠ 0 then now else rank t.seen

/-- A new period begins: what holds now has held in it (R172). -/
def resetSeen (s : State) : State := s.mapTaps fun _ t => { t with seen := stopCodes s t ++ [t.limit] }

/-- Voltage that values a shortfall (R172), mV: a bypassed stand-in at its reference, else the Kelvin voltage or the power
pair's in its place (R180). -/
def cutVolt (s : State) (t : Tap) : Nat := if t.state = .standIn ∧ t.stake.bypassed then siTarget s t else (kelvin t).toNat

/-- Shortfall of one period (R172) in residue units of 10⁻⁸ J: volts × (entitled − achieved) × 5 ms; none
where the tap is entitled to nothing. The stake current of a pair is the sum over both stakes (R65). -/
def shortfall (s : State) (n : Fin 32) (contract : Bool) : Nat :=
  let t := s.taps[n]
  let bypassed := decide (t.state = .standIn) && t.stake.bypassed
  let ent : Int := if contract then t.entCon else t.entSup
  let ach : Int := if contract then max 0 (iBlk s n) else if bypassed then 0 else stakeAmps s n
  if cutCause s t = 0 ∨ ent = 0 then 0 else cutVolt s t * (ent - ach).toNat * 5

/-- The CUT record and the alert of a guarantee (R173, R340, R440), the alert with its own time and whether that is module time;
C3 runs. -/
def cutNotice (n : Fin 32) (contract : Bool) (cause : Nat) (fin : Bool) (mwh time : Nat) (valid : Bool) (payload : List Word)
    (s : State) : State :=
  let s := record 0x09 ([word n.val, word (bit contract 0), word cause] ++ payload) s
  enqueue { seq := 0, cls := if fin then 3 else 1, kind := 5, reason := cause + bit contract 4 + bit fin 5
            inst := n.val, param := BitVec.ofNat 32 mwh, time := time, timeValid := valid
            deferred := decide (time ≠ s.stamp), bbxSeq := lastRec s } s

/-- The budget and class demands of the start record (R173). The spec gives the record B and "the class demands" and no
quantity for these: the model writes, for P1 to P4, the sum of the taps' levels in stake current, 10 mA (DESIGN CHOICE, log
entry 53). -/
def demandWords (s : State) : List Word :=
  wordsOf 2 s.arb.budget ++ (indices 4).flatMap fun c =>
    wordsOf 2 ((s.taps.toList.map fun t => t.levels[c]).sum)

/-- The episode of one tap and guarantee. -/
def episodeOf (t : Tap) (contract : Bool) : Episode := if contract then t.cutCon else t.cutSup
/-- Replace it. -/
def setEpisode (n : Fin 32) (contract : Bool) (e : Episode) (s : State) : State :=
  s.modTap n fun t => if contract then { t with cutCon := e } else { t with cutSup := e }

/-- C3 runs, so that alerts and records of episodes are issued (R177). -/
def issueCut (n : Fin 32) (contract : Bool) (e : Episode) (s : State) : State :=
  if e.told || !c3Up s then s
  else
    let s := setEpisode n contract { e with told := true } s
    cutNotice n contract e.cause false 0 e.since e.sinceValid (wordsOf 4 e.since ++ demandWords s) s

/-- One period of one guarantee of one tap (R172, R173). -/
def meterCut (n : Fin 32) (contract : Bool) (s : State) : State :=
  let sf := shortfall s n contract
  let e := episodeOf s.taps[n] contract
  if sf = 0 then
    (if e.running then issueCut n contract { e with quiet := e.quiet + 1 }
      (setEpisode n contract { e with quiet := e.quiet + 1 } s) else s)
  else
    let c := s.ctrs
    let s := { s with ctrs := if contract then
        { c with taps := c.taps.set n { c.taps[n] with sfCon := c.taps[n].sfCon.count unitE sf }
                 sfConTotal := c.sfConTotal.count unitE sf }
      else { c with taps := c.taps.set n { c.taps[n] with sfSup := c.taps[n].sfSup.count unitE sf }
                    sfSupTotal := c.sfSupTotal.count unitE sf } }
    let e' : Episode := if e.running then { e with quiet := 0, total := e.total + sf }
      else { running := true, quiet := 0, total := sf, since := s.stamp, sinceValid := s.sys.timeValid
             cause := cutCause s s.taps[n] }
    let s := if e.running then s else { s with arb := { s.arb with cutSeen := true } }
    issueCut n contract e' (setEpisode n contract e' s)

/-- Shortfalls of the period just ended (R172); the meter hardware counts in HOLD too (R177). -/
def meterCuts (s : State) : State :=
  foldFin 32 (fun n s => meterCut n true (meterCut n false s)) s

/-- An episode ends after 200 periods without a shortfall (R173); one whose start is still to be issued begins first (R177). -/
def endCut (n : Fin 32) (contract : Bool) (s : State) : State :=
  let s := issueCut n contract (episodeOf s.taps[n] contract) s
  let e := episodeOf s.taps[n] contract
  let mwh := e.total / 360000000
  let s := setEpisode n contract .reset s
  cutNotice n contract e.cause true mwh s.stamp s.sys.timeValid (wordsOf 4 (s.stamp - e.since) ++ wordsOf 2 mwh) s

/-- Episodes whose 200 periods have passed end, once C3 runs. -/
def endCuts (s : State) : State :=
  if !c3Up s then s else
  foldFin 32 (fun n s =>
    let f (contract : Bool) (s : State) : State :=
      let e := episodeOf s.taps[n] contract
      if e.running && decide (200 ≤ e.quiet) then endCut n contract s else s
    f true (f false s)) s

/-- Entitlements (R171, R317): support at a stand-in, a keep and a helper; contract up to the ceiling the tap would have
without derating (R170), with the block request as a recipe lowers it (R175). -/
def entitle (s : State) (n : Fin 32) (t : Tap) : Tap :=
  let st := arbState t
  let full : Nat × Nat := if t.cfg.gang then (16000, 7500) else (8000, 3750)
  let top := min (ampsAt full t.vKel) (t.cfg.cmdLim.getD 0xFFFF)
  let sup := if gangedOdd s n then 0
    else if t.state = .standIn ∨ t.state = .keep then carry s t
    else if isHelper t && TapState.converts t st then t.cfg.share * carry s t / 16 else 0
  let con := if p2State st ∧ 0 < t.cfg.minCur then
      min t.cfg.minCur (min (blockWish s n) (top - carry s t)) else 0
  { t with entSup := sup, entCon := con }

/-! ### The period -/

/-- What a tap's registers show of the period (R164, R179, R267): the request is carry and block request whatever the stake
does; tap 2k + 1 of a pair makes none. -/
def showGrant (s : State) (a : Alloc) (n : Fin 32) (t : Tap) : Tap :=
  let req := if gangedOdd s n then 0 else request s n
  let g := a.g[n]
  let lv (c : Fin 5) : Nat := (level s n c).getD 0
  { t with
    nextDose := g, grant := g, request := req, cls := a.cls[n]
    fill := if req = 0 ∨ req ≤ g then 255 else g * 255 / req
    levels := #v[max (lv 0) (lv 1), lv 2, lv 3, lv 4], eRem := energyLeft s n }

/-- Settings that wait for a period come into force (R43, R47): the selection mode and raised current limits. -/
def takeSettings (s : State) : State :=
  { s.mapPorts (fun _ p => { p with limIn := p.iLim }) with hub := { s.hub with modeIn := s.hub.mode } }

/-- A port's allowance begins its 5 ms move to a new value (R47); a move already made there goes on. -/
def Port.moveTo (w : Nat) (p : Port) : Port :=
  if p.stopping || decide (p.allowTo = w) then p else { p with allowFrom := p.allow, allowTo := w, allowMs := 0 }

/-- The computation of C3 (R161 to R168, R45). -/
def computePeriod (s : State) : State :=
  let s := takeOutputs (takeSettings s)
  let bad := inletBad s.sys.inlet
  let s := if bad && !s.arb.inletBad then alert 3 0xA 6 0xFF 0 s else s
  let intake := intakeBudget s
  let pq := coolantPower s
  let a := allocate s (min intake pq)
  let cost := ((indices 32).map fun n => hubPower s n a.g[n]).sum / 100000
  let hub := cost + idleLoss s / 1000
  let allow := split s (hub + stagesAt s hub)
  let s' := s.mapTaps fun n t => entitle s n (showGrant s a n t)
  let s' := s'.mapPorts fun x p => p.moveTo (got allow x.val)
  { s' with
    hub := { s.hub with pavail := available s }
    arb := { s.arb with
      qMax := qMax s.sys.inlet s.arb.lossCap, inletBad := bad, binding := decide (pq < intake)
      p3Short := decide (3 ∈ a.short), p4Short := decide (4 ∈ a.short)
      overcommit := decide (123000 * 100000 < (a.cost.take 3).sum)
      budget := min intake pq, grant := cost, periods := (s.arb.periods + 1) % 65536, higherDue := false, fresh := true } }

/-- `ARB_PERIOD` (R57, R166, R172, R177): a new sample of every tap, the shortfalls of the period that ends, the computation of
C3 where it runs, and the registers that are updated once per period. A voltage beyond its absolute maximum is a fault
(R420). -/
def execArbPeriod (m : Sample) (s : State) : Host.Outcome State Fault Refusal :=
  if !rated m then .fault .beyondAbsoluteMaximum
  else if !s.powered then .next s
  else
    let s := resetSeen (endCuts (meterCuts (absorb m (newPeriod s))))
    .next (refreshShown (if c3Up s && !s.arb.frozen && decide (s.sys.st ≠ .recovery) then recipeSees (computePeriod s) else s))

/-- `CUT_EPISODE_END` (R173): 200 periods without a shortfall. -/
def execCutEpisodeEnd (n : Fin 32) (contract : Bool) (s : State) : Host.Outcome State Fault Refusal :=
  .next (if c3Up s && (episodeOf s.taps[n] contract).running then endCut n contract s else s)

/-! ### Doses -/

/-- Put the period's doses of one kind into force: lower first, then higher (R168). -/
def applyDoses (higher : Bool) (s : State) : State :=
  foldFin 32 (fun n s =>
    let t := s.taps[n]
    if (higher && decide (t.dose < t.nextDose)) || (!higher && decide (t.nextDose < t.dose)) then
      let s := s.modTap n fun t => { t with dose := t.nextDose, stake := { t.stake with ilimRun := min (t.cfg.cmdLim.getD 0xFFFF) t.nextDose } }
      if 0 < t.nextDose then wakeFor n s else s
    else s) s

/-- `DOSE_APPLY` (R33, R51, R168): the first after a period applies the lower doses, and with it the period has granted
within its new budget, which ends droop scaling above the undervoltage hold (DEDUCED, log entry 52) and what the hand-over
ramp left at 0 A; the second, 64 µs later, applies the higher ones. Frozen doses stay (R177), and while the hand-over ramp
runs it alone moves the limits. -/
def execDoseApply (s : State) : Host.Outcome State Fault Refusal :=
  if !s.powered || s.arb.frozen || !s.arb.fresh || s.hub.handover then .next s
  else if s.arb.higherDue then .next (applyDoses true { s with arb := { s.arb with higherDue := false } })
  else
    let s := applyDoses false s
    .next { s with arb := { s.arb with higherDue := true }, hub := { s.hub with ramp0 := 0, droop := false } }

end Sys2Proof.Machine
end

