-- ==== Sys2Proof/Machine/RegWrite.lean ====
section
/-! DEFINITION. Writing the host registers: the effect of each word (R10, R215), the effects at the end of an access
(R213, R217, R240, R438, R202), and the rows that write one register. -/

namespace Sys2Proof.Machine

/-! ### Registers with a rule of their own -/

/-- Change one alarm timer. -/
def modAlarm (k : Fin 4) (f : Alarm → Alarm) (s : State) : State :=
  { s with mtr := { s.mtr with alarms := s.mtr.alarms.set k (f s.mtr.alarms[k]) } }

/-- Arm an alarm timer (R192): REMAIN is loaded, at least 10 ms. -/
def Alarm.arm (k : Alarm) : Alarm := { k with remain := max 10 k.load, expired := false, running := true }

/-- Disarm an alarm timer (R192). -/
def Alarm.disarm (k : Alarm) : Alarm := { k with running := false }

/-- A write of `MTR_ALMk_CTL` (R192, R194): W1C of EXPIRED, ACTION, then ARM or DISARM, which wins. -/
def Alarm.ctl (w : Word) (k : Alarm) : Alarm :=
  let k := { k with expired := k.expired && !w.getLsbD 3, action := BitVec.ofNat 2 (field w 4 2) }
  if w.getLsbD 1 then k.disarm else if w.getLsbD 0 then k.arm else k

/-- Low or high word of a two-word register replaced. -/
def putWord (old : Nat) (hi : Bool) (w : Word) : Nat :=
  if hi then old % 65536 + 65536 * w.toNat else old / 65536 * 65536 + w.toNat

/-- A write of 1 to SH_FAULT (R410): the latch clears only after 1 s of valid bitstream. -/
def clearShFault (s : State) : State :=
  withFlt (fun s =>
    if s.sys.shValid && decide (s.sys.shOkAt + 1000 ≤ s.sys.uptime) then s.modSys fun y => { y with shFault := false } else s) s

/-- A write of 1 to HUB_OV3 (R443): in SAFE the latch and its count clear. -/
def clearHubOv3 (s : State) : State :=
  withFlt (fun s => if s.sys.st = .safe then { s with hub := { s.hub with ov3 := false, ovTimes := [] } } else s) s

/-- A write of `SYS_SHAREnn` (R314, R379): in a tap state that allows it, of a tap not ganged, a share up to 16. -/
def writeShare (n : Fin 32) (w : Word) (s : State) : State :=
  let t := s.taps[n]
  if restful t && !t.cfg.gang && decide (field w 0 5 ≤ 16) then
    let s := s.modCfg n fun c =>
      { c with share := field w 0 5, helper := w.getLsbD 5, partnerAddr := BitVec.ofNat 3 (field w 6 3)
               partnerTap := BitVec.ofNat 5 (field w 9 5) }
    if 0 < field w 0 5 ∧ w.getLsbD 5 then ungovern n s else s
  else s.modBp fun b => { b with shareRej := true }

/-- A write of `SYS_BUSCFG` (R231, R238): ALERT# follows ARA_EN. -/
def writeBusCfg (w : Word) (s : State) : State :=
  s.modBus fun b =>
    ({ b with
      spiCrc := w.getLsbD 0, twPec := w.getLsbD 1, ctlFast := w.getLsbD 2, araEn := w.getLsbD 3
      alertOut := if b.araEn = w.getLsbD 3 then b.alertOut
        else w.getLsbD 3 && !s.alr.queue.isEmpty && !s.bp.addrDup
      repull := b.repull && w.getLsbD 3 } : Bus).lineLevel

/-- A write of `SYS_BP_CFG` (R318, R322). -/
def writeBpCfg (w : Word) (s : State) : State :=
  s.modBp fun b =>
    { (if w.getLsbD 0 then b else b.follow) with
             standalone := w.getLsbD 0, nmod := BitVec.ofNat 3 (field w 1 3), faultAct := BitVec.ofNat 2 (field w 4 2) }

/-- Words of a register that is updated every 5 ms after a write of 1 to bits of `mask` (R10): the bits clear at once. -/
def clearShown (ws : List Word) (off : Nat) (w mask : Word) : List Word := ws.set off (ws.getD off 0 &&& ~~~(w &&& mask))

/-- Clear bits of a tap's mirror block. -/
def clearTapShown (n : Fin 32) (off : Nat) (w mask : Word) (s : State) : State :=
  { s with shown := { s.shown with taps := s.shown.taps.set n (clearShown s.shown.taps[n] off w mask) } }

/-- Clear bits of a hub or arbiter register. -/
def clearHubShown (off : Nat) (w mask : Word) (s : State) : State :=
  { s with shown := { s.shown with hub := clearShown s.shown.hub off w mask } }

/-- Clear bits of a register of the fault summary. -/
def clearFltShown (off : Nat) (w mask : Word) (s : State) : State :=
  { s with shown := { s.shown with flt := clearShown s.shown.flt off w mask } }

/-- Clear bits of a mirrored WDG or BBX register. -/
def clearAonShown (off : Nat) (w mask : Word) (s : State) : State :=
  { s with shown := { s.shown with aon := clearShown s.shown.aon off w mask } }

/-! ### The effect of one word -/

/-- SYS page (R28, R371, R96, R122, R419, R238, R322). -/
def writeSys (a : Nat) (w : Word) (s : State) : State :=
  let b (k : Nat) : Bool := w.getLsbD k
  match a with
  | 0x04 => s.modSys fun y => { y with holdSeen := y.holdSeen && !b 8 }
  | 0x06 => s.modSys fun y => { y with hkChanged := y.hkChanged && !b 9 }
  | 0x07 => s.modSys fun y => { y with keyShort := y.keyShort && !b 1 }
  | 0x08 => s.modSys fun y => { y with fallback := y.fallback && !b 4, reverted := y.reverted && !b 6 }
  | 0x10 => s.modSys fun y => { y with syncLoss := y.syncLoss && !b 3 }
  | 0x12 => s.modSys fun y => { y with trackFault := y.trackFault && !b 13 }
  | 0x13 => { s with vsel := { s.vsel with fail := s.vsel.fail && !b 9 }
                     shown := { s.shown with vsel := s.shown.vsel &&& ~~~(w &&& 0x0200) } }
  | 0x14 =>
    let s := s.modSys fun y => { y with shLost := y.shLost && !b 4 }
    if b 5 then clearShFault s else s
  | 0x20 => writeBusCfg w s
  | 0x21 => s.modBus fun u => { u with twStuck := u.twStuck && !b 6, arbLost := u.arbLost && !b 7, busErr := u.busErr && !b 11 }
  | 0x30 => writeBpCfg w s
  | 0x31 => s.modBp fun p => { p with faultIn := p.faultIn && !b 6, shareRej := p.shareRej && !b 8 }
  | 0x32 => s.modBp fun p => { p with cap := w.toNat }
  | 0x33 => beatSeen (BitVec.ofNat 3 (field w 0 3)) (BitVec.ofNat 8 (field w 8 8)) s
  | _ => if 0x40 ≤ a ∧ a < 0x60 then writeShare (tapOf (a - 0x40)) w s else s

/-- MBX page (R241, R242, R246); the doorbell acts at the end of the access. -/
def writeMbx (n : Fin 4) (off : Nat) (w : Word) (s : State) : State :=
  if off = 0 then s.modMbx n fun m => { m with early := m.early && !w.getLsbD 2 }
  else if off = 2 then release n s
  else if 4 ≤ off ∧ off < 0x22 ∧ s.mbx[n].state = .empty then
    s.modMbx n fun m => { m with args := vec fun k => if k.val = off - 4 then w else m.args[k] }
  else s

/-- ALR, FLT and POUR pages (R441, R442, R210); acknowledgements and `POUR_CTL` act at the end of the access. -/
def writeMid (a : Nat) (w : Word) (s : State) : State :=
  let b (k : Nat) : Bool := w.getLsbD k
  match a with
  | 0x200 => { s with alr := { s.alr with overflow := s.alr.overflow && !b 12, ackMiss := s.alr.ackMiss && !b 13 } }
  | 0x202 => { s with alr := { s.alr with ackSeq := putWord s.alr.ackSeq false w } }
  | 0x203 => { s with alr := { s.alr with ackSeq := putWord s.alr.ackSeq true w } }
  | 0x280 => if b 0 then clearHubOv3 s else s
  | 0x28A => clearFltShown 0x0A w 0x0F00 (s.mapPorts fun x p => { p with tripped := p.tripped && !b (8 + x.val) })
  | 0x300 => s.modPour fun p => { p with ignored := p.ignored && !b 6, skips := p.skips && !b 8 }
  | _ => s

/-- MTR page (R192, R194). -/
def writeMtr (a : Nat) (w : Word) (s : State) : State :=
  let b (k : Nat) : Bool := w.getLsbD k
  if a = 0x7C0 then
    { s with mtr := { s.mtr with
      snapSeen := s.mtr.snapSeen && !b 2, snapMissed := s.mtr.snapMissed && !b 3, restoreGap := s.mtr.restoreGap && !b 8 } }
  else if 0x7D0 ≤ a ∧ a < 0x7F0 then
    let k := portOf ((a - 0x7D0) / 8)
    match a % 8 with
    | 0 => modAlarm k (Alarm.ctl w) s
    | 1 => modAlarm k (fun m => { m with load := putWord m.load false w }) s
    | 2 => modAlarm k (fun m => { m with load := putWord m.load true w }) s
    | _ => s
  else s

/-- Mirror block of a tap (R160, R122, R96). -/
def writeTap (n : Fin 32) (off : Nat) (w : Word) (s : State) : State :=
  let b (k : Nat) : Bool := w.getLsbD k
  match off with
  | 0x01 => clearTapShown n 0x01 w 0x1FE0 <| s.modTap n fun t =>
    { t with
      removed := t.removed && !b 5, inserted := t.inserted && !b 6, timerExp := t.timerExp && !b 7
      cupDone := t.cupDone && !b 8, eoc := t.eoc && !b 9, fallback := t.fallback && !b 10
      ntcSplit := t.ntcSplit && !b 11, pourSkip := t.pourSkip && !b 12 }
  | 0x16 => clearTapShown n 0x16 w 0x0E00 <| s.modStake n fun k =>
    { k with bypFail := k.bypFail && !b 9, prebiasFail := k.prebiasFail && !b 10, shortSeen := k.shortSeen && !b 11 }
  | 0x18 => clearTapShown n 0x18 w 0x1400 <| s.modStake n fun k => { k with brake := k.brake && !b 10, pretestFail := k.pretestFail && !b 12 }
  | _ => s

/-- HUB, ARB, WDG, BBX and LNK pages (R57, R179, R349, R346, R309). -/
def writeHigh (a : Nat) (w : Word) (s : State) : State :=
  let b (k : Nat) : Bool := w.getLsbD k
  match a with
  | 0xC80 => clearHubShown 0x00 w 0x0008 { s with hub := { s.hub with ov := s.hub.ov && !b 3 } }
  | 0xCC0 => clearHubShown 0x40 w 0x0080 { s with arb := { s.arb with cutSeen := s.arb.cutSeen && !b 7 } }
  | 0xE00 => clearAonShown 0x00 w 0x6000 <| s.modWdg fun u => { u with expired := u.expired && !b 13, foreign := u.foreign && !b 14 }
  | 0xE10 => clearAonShown 0x10 w 0x0018 <| s.modBbx fun u => { u with writeFail := u.writeFail && !b 3, new := u.new && !b 4 }
  | 0xE16 => s.modBbx fun u => { u with winSeq := putWord u.winSeq false w }
  | 0xE17 => s.modBbx fun u => { u with winSeq := putWord u.winSeq true w }
  | 0xE18 => startPane (BitVec.ofNat 4 (field w 0 4)) s
  | 0xF40 => { s with tie := { s.tie with trip := s.tie.trip && !b 2, timeout := s.tie.timeout && !b 3 } }
  | _ =>
    if 0xF00 ≤ a ∧ a < 0xF40 ∧ a % 0x10 = 1 then
      s.modLink (portOf ((a - 0xF00) / 0x10)) fun l =>
        { l with
          evAttach := l.evAttach && !b 0, evDetach := l.evDetach && !b 1, evVoid := l.evVoid && !b 2
          evTransFail := l.evTransFail && !b 3, evKa := l.evKa && !b 4, evRxOvf := l.evRxOvf && !b 5
          evCollision := l.evCollision && !b 6, evSwap := l.evSwap && !b 7, evCrc := l.evCrc && !b 8 }
    else s

/-- The effect of one written word but for what acts at the end of the access; a read-only word and an address no
register occupies are ignored (R211, R215). -/
def regWrite (a : Nat) (w : Word) (s : State) : State :=
  if a < 0x100 then writeSys a w s
  else if a < 0x200 then writeMbx (portOf ((a - 0x100) / 0x40)) (a % 0x40) w s
  else if a < 0x400 then writeMid a w s
  else if a < 0x800 then writeMtr a w s
  else if a < 0xC00 then writeTap (tapOf ((a - 0x800) / 0x20)) (a % 0x20) w s
  else writeHigh a w s

/-! ### The end of an access -/

/-- The mailbox whose `MBXn_CMD` an address is (R252). -/
def cmdAddr (a : Nat) : Option (Fin 4) :=
  if 0x100 ≤ a ∧ a < 0x200 ∧ a % 0x40 = 3 then some (portOf ((a - 0x100) / 0x40)) else none

/-- An acknowledgement by sequence (R438). -/
def ackBySeq (s : State) : State :=
  if s.alr.queue.any fun a => decide (a.seq = s.alr.ackSeq) then
    settleAlert { s with alr := { s.alr with queue := s.alr.queue.filter fun a => a.seq ≠ s.alr.ackSeq } }
  else { s with alr := { s.alr with ackMiss := true } }

/-- An acknowledgement by class (R438). -/
def ackByClass (mask : Word) (s : State) : State :=
  settleAlert { s with alr := { s.alr with queue := s.alr.queue.filter fun a => !(mask.getLsbD a.cls && decide (a.cls < 4)) } }

/-- The word last written to an address in an access. -/
def wordAt (ws : List (Nat × Word)) (a : Nat) : Option Word := (ws.reverse.find? fun p => p.1 = a).map (·.2)

/-- What acts once every word of an access has been applied (R213): the first doorbell (R212, R240) if `bell`, the
acknowledgements (R438), `POUR_CTL` with the identifier of the same access (R202), ABORT winning. -/
def accessEnd (bell : Bool) (ws : List (Nat × Word)) (s : State) : State :=
  let s := match (if bell then ws.find? fun p => (cmdAddr p.1).isSome else none) with
    | some (a, w) => (match cmdAddr a with | some n => ring n w s | none => s)
    | none => s
  let s := if (wordAt ws 0x203).isSome then ackBySeq s else s
  let s := match wordAt ws 0x204 with
    | some m => ackByClass m s
    | none => s
  match wordAt ws 0x304 with
  | some c =>
    if c.getLsbD 1 then ctlAbort (wordAt ws 0x307) s
    else if c.getLsbD 0 then ctlRelease (wordAt ws 0x307) s else s
  | none => s

/-- The words of an access with their addresses (R212). -/
def addressed (fix : Bool) : Nat → List Word → List (Nat × Word)
  | _, [] => []
  | a, w :: ws => (a, w) :: addressed fix (nextAddr fix a) ws

/-- Some word addresses `MBXn_CMD` of a full mailbox (R217). -/
def hitsFull (ws : List (Nat × Word)) (s : State) : Bool :=
  ws.any fun p => match cmdAddr p.1 with
    | some n => decide (s.mbx[n].state ≠ .empty)
    | none => false

/-- Apply an access that has ended without error (R212, R213): with FIX each word has its own effects in turn, and one
access rings at most one doorbell. -/
def applyWords (fix : Bool) (ws : List (Nat × Word)) (s : State) : State :=
  if fix then
    (ws.foldl (fun (acc : Bool × State) p =>
      (false, accessEnd acc.1 [p] (regWrite p.1 p.2 acc.2))) (true, s)).2
  else accessEnd true ws (ws.foldl (fun s p => regWrite p.1 p.2 s) s)

/-- One access of one word (R215, R217). -/
def writeOne (a : Nat) (w : Word) (s : State) : State :=
  if hitsFull [(a, w)] s then s else applyWords false [(a, w)] s

/-! ### Rows -/

/-- A register write of the host: powered, nothing else (R211). -/
def hostWrite (f : State → State) (s : State) : Host.Outcome State Fault Refusal := .next (if s.powered then f s else s)

/-- `REGISTER_WRITE` (R215): one word to an address of the map. -/
def execRegisterWrite (a : Nat) (w : Word) := hostWrite fun s => if a < 4096 then writeOne a w s else s

/-- `ALR_ACK` (R438): both words of `ALR_ACK` in one access. -/
def execAlrAck (seq : Nat) := hostWrite fun s =>
  applyWords false [(0x202, wordOf seq 0), (0x203, wordOf seq 1)] s

/-- `ALR_ACK_CLASS` (R438). -/
def execAlrAckClass (mask : BitVec 4) := hostWrite (writeOne 0x204 (mask.setWidth 16))

/-- `ALARM_ARM` (R192). -/
def execAlarmArm (k : Fin 4) := hostWrite (modAlarm k Alarm.arm)

/-- `ALARM_DISARM` (R192). -/
def execAlarmDisarm (k : Fin 4) := hostWrite (modAlarm k Alarm.disarm)

/-- `SH_FAULT_CLEAR` (R410). -/
def execShFaultClear := hostWrite clearShFault

/-- `HUB_OV3_CLEAR` (R443). -/
def execHubOv3Clear := hostWrite clearHubOv3

/-- `SYS_SHARE_WRITE` (R314). -/
def execSysShareWrite (n : Fin 32) (w : Word) := hostWrite (writeShare n w)

end Sys2Proof.Machine
end

