-- ==== Sys2Proof/Machine/Buses.lean ====
section
/-! DEFINITION. SPI frames, two-wire transfers, the alert response, and the module as bus controller (R211 to R237). -/

namespace Sys2Proof.Machine

/-! ### SPI -/

/-- FIX bit of a header or pointer (R220). -/
def hdrFix (h : Word) : Bool := h.getLsbD 14
/-- Start address of a header or pointer (R220). -/
def hdrAddr (h : Word) : Nat := field h 0 12
/-- The reserved header bits [13:12] are zero (R220). -/
def hdrOk (h : Word) : Bool := decide (field h 12 2 = 0)

/-- The status word a frame shifts out (R223). -/
def spiStatus (s : State) : Word :=
  word (0xA000 + 1024 * s.bus.spiLast + bit (!s.alr.queue.isEmpty) 9 + bit (decide (s.sys.st = .hold)) 8
    + ((indices 4).map fun n => bit (decide (s.mbx[n].state = .ready)) (4 + n.val)).sum + modCode s.sys.st)

/-- Result of an SPI frame (R216, R223): the code, counted where it is not OK; `st` is the status word it returned. -/
def spiResult (code : Nat) (st : Word) (s : State) : State :=
  s.modBus fun b => { b with spiLast := code, spiErr := if code = 0 then b.spiErr else sat 0xFFFF (b.spiErr + 1)
                             outSpiStatus := st }

/-- Check bytes of a read: after each word the CRC of everything sent so far (R222, R228). -/
def checks (head : List Byte) : List Word → List Byte
  | [] => []
  | w :: ws => crc8 (head ++ bytesHL w) :: checks (head ++ bytesHL w) ws

/-- Result code of an SPI write frame (R217, R221, R222). -/
def spiWriteCode (h : Word) (ws : List Word) (check : Option Byte) (whole : Bool) (s : State) : Nat :=
  if !whole || !hdrOk h || h.getLsbD 15 || ws.isEmpty || decide (check.isSome ≠ s.bus.spiCrc) then 3
  else if 64 < ws.length then 4
  else if check.isSome && decide (check ≠ some (crc8 ((h :: ws).flatMap bytesHL))) then 1
  else if hitsFull (addressed (hdrFix h) (hdrAddr h) ws) s then 2
  else 0

/-- `SPI_WRITE_FRAME` (R213, R221 to R223): applied whole, or discarded with its code. -/
def execSpiWriteFrame (h : Word) (ws : List Word) (check : Option Byte) (whole : Bool) (s : State) :
    Host.Outcome State Fault Refusal :=
  if !s.powered then .next s else
  let code := spiWriteCode h ws check whole s
  let st := spiStatus s
  let s := if code = 0 then applyWords (hdrFix h) (addressed (hdrFix h) (hdrAddr h) ws) s else s
  .next (spiResult code st s)

/-- `SPI_READ_FRAME` (R221, R222): `count` words from the start address. A frame that ends inside a word or a check byte
after them is not told apart and reports OK (DESIGN CHOICE, log entry 69). -/
def execSpiReadFrame (h : Word) (count : Nat) (s : State) : Host.Outcome State Fault Refusal :=
  if !s.powered then .next s else
  let st := spiStatus s
  let ok := hdrOk h && h.getLsbD 15 && decide (count ≠ 0)
  let crc := s.bus.spiCrc
  let r := if ok then readAccess .spi (hdrFix h) count (hdrAddr h) s else (List.replicate count 0, s)
  .next ((spiResult (if ok then 0 else 3) st r.2).modBus fun b =>
    { b with outSpi := r.1, outChecks := if crc then checks (bytesHL h) r.1 else [] })

/-! ### Two-wire -/

/-- Address byte of this module, with W or R (R5, R224). -/
def twByte (s : State) (rd : Bool) : Byte := BitVec.ofNat 8 (2 * (0x58 + s.sys.addr.toNat) + bit rd 0)

/-- A pointer is valid: bits [15] and [13:12] zero (R226). -/
def ptrOk (p : Word) : Bool := hdrOk p && !p.getLsbD 15

/-- Result of a two-wire transfer as target (R216). -/
def twResult (code : Nat) (s : State) : State :=
  s.modBus fun b => { b with twLast := code, twErr := if code = 0 then b.twErr else sat 0xFFFF (b.twErr + 1) }

/-- The words of a write transfer that the module judges as their first bytes arrive (R217): the complete ones and one of
which a byte alone came. -/
def begun (ws : List Word) (whole : Bool) : List Word := (if whole then ws else ws ++ [0]).take 64

/-- A write transfer ends inside a word (R227): with PEC off a byte that would be the PEC byte is a data byte. -/
def halfWord (pec : Option Byte) (ending : TwEnd) (pecOn : Bool) : Bool := !ending.whole || (pec.isSome && !pecOn)

/-- A byte of a 65th data word came (R227): the byte after the 64th word, or with PEC on the one after the PEC byte. -/
def overlong (ws : List Word) (pec : Option Byte) (ending : TwEnd) (pecOn : Bool) : Bool :=
  decide (64 < ws.length) || (decide (ws.length = 64) && halfWord pec ending pecOn && (!pecOn || pec.isSome))

/-- Result code of a two-wire write transfer (R217, R226 to R228, R230): a byte that was NACKed decides, then the end of the
transfer; a mailbox that filled too late for a NACK is found last (R217). -/
def twWriteCode (p : Word) (ws : List Word) (pec : Option Byte) (ending : TwEnd) (s : State) : Nat :=
  let half := halfWord pec ending s.bus.twPec
  let full := hitsFull (addressed (hdrFix p) (hdrAddr p) (begun ws !half)) s
  if !ptrOk p then 3
  else if full && !ending.late then 2
  else if overlong ws pec ending s.bus.twPec then 4
  else if ws.isEmpty && !half && pec.isNone then 0
  else if half || decide (pec.isSome ≠ s.bus.twPec) then 3
  else if pec.isSome && decide (pec ≠ some (crc8 (twByte s false :: (p :: ws).flatMap bytesHL))) then 1
  else if full then 2
  else 0

/-- The pointer left by an access (R226): the address after its last word; an access with FIX leaves its start address, and
a read that follows without a pointer keeps its FIX bit (DESIGN CHOICE, log entry 69). -/
def leavePointer (fix : Bool) (a n : Nat) (s : State) : State :=
  s.modBus fun b => { b with pointer := endAddr fix a n, pointerFix := fix }

/-- `WRITE_TRANSFER` (R226 to R228, R230). -/
def execWriteTransfer (p : Word) (ws : List Word) (pec : Option Byte) (ending : TwEnd) (s : State) :
    Host.Outcome State Fault Refusal :=
  if !isTarget s then .next s else
  let s := s.modBus fun b => { b with twIgnore := false }
  let code := twWriteCode p ws pec ending s
  let s := if code = 0 then
      leavePointer (hdrFix p) (hdrAddr p) ws.length
        (applyWords (hdrFix p) (addressed (hdrFix p) (hdrAddr p) ws) s)
    else s
  .next ((twResult code s).modBus fun b => { b with outNack := decide ((code = 2 ∧ ending.late = false) ∨ code = 4) })

/-- `READ_TRANSFER` (R226, R228): from the pointer given, or from the one the last access left. -/
def execReadTransfer (pointer : Option Word) (count : Nat) (s : State) : Host.Outcome State Fault Refusal :=
  if !isTarget s then .next s else
  let s := s.modBus fun b => { b with twIgnore := false }
  let pec := s.bus.twPec
  let head := (match pointer with
    | some p => twByte s false :: bytesHL p
    | none => []) ++ [twByte s true]
  let ok := pointer.all ptrOk
  let fix := (pointer.map hdrFix).getD s.bus.pointerFix
  let a := (pointer.map hdrAddr).getD s.bus.pointer
  let r := if ok then readAccess .twoWire fix count a s else (List.replicate count 0, s)
  let s := if ok then leavePointer fix a count r.2 else r.2
  .next ((twResult (if ok then 0 else 3) s).modBus fun b =>
    { b with outTw := r.1, outChecks := if pec then checks head r.1 else [] })

/-- `BUS_ERROR` (R229): nothing is written; the bus is ignored until the module is addressed again. -/
def execBusError (s : State) : Host.Outcome State Fault Refusal :=
  .next (if isTarget s then (twResult 5 s).modBus fun b => { b with busErr := true, twIgnore := true } else s)

/-- `SMBUS_TIMEOUT` (R233). -/
def execSmbusTimeout (s : State) : Host.Outcome State Fault Refusal := .next (if isTarget s then twResult 6 s else s)

/-! ### The alert response -/

/-- The module answers a read of 0x0C (R232): it pulls ALERT# and the class of its head alert is at most L. -/
def eligible (s : State) : Bool := match headAlert s.alr.queue with
  | none => false
  | some a => s.bus.alertOut && decide (a.cls ≤ s.bus.level)

/-- `ALERT_RESPONSE_READ` (R231, R232, R310): `won` tells how arbitration ends where another module answers too. A module whose address is
doubled keeps its level from what it observes and never answers. -/
def execAlertResponseRead (others : AraOthers) (won : Bool) (s : State) : Host.Outcome State Fault Refusal :=
  if !s.powered then .next s else
  let s := s.modBus fun b => ({ b with alertOther := others.pulls } : Bus).lineLevel
  let mine := eligible s && !s.bp.addrDup
  .next (s.modBus fun b => (if mine && (!others.answered || won) then
      { b with ara := some (twByte s false), alertOut := false, repull := true, level := 0, twIgnore := false }
    else { b with ara := none, level := if mine || others.answered then 0 else min 3 (b.level + 1) } : Bus).lineLevel)

/-- `ALERT_REPULL` (R231). -/
def execAlertRepull (s : State) : Host.Outcome State Fault Refusal :=
  .next (if s.powered && s.bus.repull then
    s.modBus fun b => { b with
      repull := false, alertOut := b.alertOut || (b.araEn && !s.alr.queue.isEmpty && !s.bp.addrDup) } else s)

/-! ### The module as controller -/

/-- `BUS_RECOVERY` (R234): counted; SDA still low after the ninth pulse is a stuck bus. -/
def execBusRecovery (freed : Bool) (s : State) : Host.Outcome State Fault Refusal :=
  if !s.powered then .next s else
  let s := s.modBus fun b => { b with ctlRecover := sat 0xFF (b.ctlRecover + 1), twStuck := b.twStuck || !freed }
  .next (if freed then s else alert 3 9 3 0xFF 0 s)

/-- The PEC byte of a write as controller (R228, R235). -/
def ctlPec (x : CtlXfer) : Byte :=
  crc8 (BitVec.ofNat 8 (2 * (0x58 + x.target.toNat)) :: (word x.addr :: x.words).flatMap bytesHL)

/-- The first bytes of a read as controller (R226). -/
def ctlHead (x : CtlXfer) : List Byte :=
  BitVec.ofNat 8 (2 * (0x58 + x.target.toNat)) :: bytesHL (word x.addr) ++ [BitVec.ofNat 8 (2 * (0x58 + x.target.toNat) + 1)]

/-- The words of a read up to the first one whose PEC byte is wrong (R228, R235); without PEC all of them. The rest is dropped
(DESIGN CHOICE, log entry 69). -/
def checkedWords (pecOn : Bool) (head : List Byte) : List Word → List Byte → List Word
  | [], _ => []
  | w :: ws, ps =>
    if pecOn && decide (ps.head? ≠ some (crc8 (head ++ bytesHL w))) then []
    else w :: checkedWords pecOn (head ++ bytesHL w) ws (ps.drop 1)

/-- `CONTROLLER_TRANSFER` (R235 to R237): the front transfer is sent, a write with PEC where the module's own setting has it,
a read answered with the words given, each with its PEC byte; without an answer it is lost in arbitration, and the eighth
loss in a row abandons it. A target that does not acknowledge leaves TW_LAST at OK, and the transfer is not sent again (DESIGN
CHOICE, log entry 69). No transfer starts in HOLD. -/
def execControllerTransfer (answer : Option CtlAnswer) (s : State) : Host.Outcome State Fault Refusal :=
  match s.bus.ctlQueue with
  | [] => .next s
  | x :: rest =>
    if !s.powered || decide (s.sys.st = .hold) then .next s
    else match answer with
    | some got => .next (s.modBus fun b => { b with
      twLast := 0, ctlQueue := rest, ctlLosses := 0, outCtl := some x, inCtl := checkedWords b.twPec (ctlHead x) (got.words.take x.reads) got.pecs
      outCtlPec := if b.twPec && decide (x.reads = 0) then some (ctlPec x) else none })
    | none =>
      let drop := decide (7 ≤ s.bus.ctlLosses)
      let s := s.modBus fun b => { b with
        twLast := 7, arbLost := true, ctlArb := sat 0xFF (b.ctlArb + 1)
        ctlQueue := if drop then rest else b.ctlQueue, ctlLosses := if drop then 0 else b.ctlLosses + 1 }
      .next (if drop then alert 3 9 4 0xFF 0 s else s)

end Sys2Proof.Machine
end

