-- ==== Sys2Proof/Machine/HubPorts.lean ====
section
/-! DEFINITION. The ports' state machines and protection, the hub's limits and the end of a hand-over (R33 to R55). -/

namespace Sys2Proof.Machine

/-- The voltage is inside the effective window (R35, R48). -/
def inWindow (s : State) (x : Fin 4) (v : Int) : Bool := decide ((window s x).1 ≤ v ∧ v ≤ (window s x).2)

/-- A port may leave IDLE (R36, R48): an effective window of at least 50 V and, in contract mode, a contract in force. -/
def mayQualify (s : State) (x : Fin 4) : Bool :=
  decide (50000 ≤ (window s x).2 - (window s x).1)
    && (decide (s.hub.modeIn ≠ .contract) || (s.links[x].inForce && !s.links[x].role))

/-- An IDLE port sees its voltage inside the window (R36, R54). -/
def enterQualify (x : Fin 4) (s : State) : State :=
  let p := s.ports[x]
  if decide (p.state = .idle) && inWindow s x p.vin && mayQualify s x then
    if s.hub.handover then s.modPort x fun p => { p with handoverWait := true }
    else s.modPort x fun p => { p with state := .qualify, handoverWait := false }
  else s

/-- `PORT_IN_WINDOW` (R36, R54). -/
def execPortInWindow (x : Fin 4) (v : Int) (s : State) : Host.Outcome State Fault Refusal :=
  portEvent x v (enterQualify x) s

/-- A waiting or qualifying port sees its voltage outside the window (R36, R54). -/
def leaveQualify (x : Fin 4) (s : State) : State :=
  if inWindow s x s.ports[x].vin then s else
  match s.ports[x].state with
  | .qualify => s.modPort x fun p => { p with state := .idle }
  | .idle => s.modPort x fun p => { p with handoverWait := false }
  | _ => s

/-- `PORT_OUT_OF_WINDOW` (R36). -/
def execPortOutOfWindow (x : Fin 4) (v : Int) (s : State) : Host.Outcome State Fault Refusal :=
  portEvent x v (leaveQualify x) s

/-- `QUALIFY_END` (R36): 100 ms inside the window without a break, and inside it still. -/
def execQualifyEnd (x : Fin 4) (s : State) : Host.Outcome State Fault Refusal :=
  .next (if decide (s.ports[x].state = .qualify) && inWindow s x s.ports[x].vin then s.modPort x fun p => { p with state := .precharge } else s)

/-- `PRECHARGE_COMPLETE` (R36): the stage input lies within 20 V of the port voltage. -/
def execPrechargeComplete (x : Fin 4) (vStage : Int) (s : State) : Host.Outcome State Fault Refusal :=
  let p := s.ports[x]
  .next (if p.state = .precharge ∧ p.vin - vStage ≤ 20000 ∧ vStage - p.vin ≤ 20000 then
    s.modPort x fun p => { p with state := .softstart, softMs := 0 } else s)

/-! ### Trips -/

/-- A port after a trip (R36, R42). -/
def Port.trip (now cause : Nat) (p : Port) : Port :=
  { p with
    state := .backoff, lastTrip := cause, allow := 0, allowFrom := 0, allowTo := 0, allowMs := 5, softMs := 0, tripped := true
    trips := recent now 60000 p.trips ++ [now], tripTotal := sat 0xFFFF (p.tripTotal + 1) }

/-- A trip (R42): BACKOFF, a black-box record with voltage and current captured, a priority-0 alert. -/
def tripPort (x : Fin 4) (cause : Nat) (s : State) : State :=
  let p := s.ports[x]
  let s := alertRec (event .portTrip [x.val, cause, p.vin, p.vin / 65536, p.iin]) 0 4 cause x.val p.iin s
  changePort x (Port.trip s.sys.uptime cause) s

/-- The states in which protection acts (R36). -/
def PortState.guarded : PortState → Bool
  | .precharge | .softstart | .online => true
  | _ => false

/-- `PRECHARGE_TRIP` (R36, R42): 200 ms without completing. -/
def execPrechargeTrip (x : Fin 4) (s : State) : Host.Outcome State Fault Refusal :=
  .next (if s.ports[x].state = .precharge then tripPort x 4 s else s)

/-- `SOURCE_OV` (R41): the port voltage is above its trip level. -/
def execSourceOv (x : Fin 4) (v : Int) (s : State) : Host.Outcome State Fault Refusal :=
  portEvent x v (fun s =>
    if PortState.guarded s.ports[x].state ∧ (s.ports[x].ovLevel : Int) < v then tripPort x 1 s else s) s

/-- Threshold of source OC, 10 mA (R41): the greater of 1.25 times the port's current limit and that limit plus 5 A, at most
220 A. A contract's limit is another (R44, R48). -/
def ocLevel (s : State) (x : Fin 4) : Nat :=
  let l := s.ports[x].limIn
  min 22000 (max (l * 5 / 4) (l + 500))

/-- An event of a port that carries its input current. -/
def currentEvent (x : Fin 4) (i : Int) (cause : Nat) (hit : Bool) (s : State) : Host.Outcome State Fault Refusal :=
  if !s.powered then .next s else
  let s := s.modPort x fun p => { p with iin := i }
  .next (if PortState.guarded s.ports[x].state && hit then tripPort x cause s else s)

/-- `SOURCE_OC` (R41). -/
def execSourceOc (x : Fin 4) (i : Int) (s : State) : Host.Outcome State Fault Refusal :=
  currentEvent x i 2 (decide ((ocLevel s x : Int) < i)) s

/-- `REVERSE_CURRENT` (R41): the current, positive into the module, is below −2.0 A. -/
def execReverseCurrent (x : Fin 4) (i : Int) (s : State) : Host.Outcome State Fault Refusal :=
  currentEvent x i 3 (decide (i < -200)) s

/-- `SOFTSTART_END` (R36, R56): a port that comes ONLINE in HOLD has no allowance. -/
def execSoftstartEnd (x : Fin 4) (s : State) : Host.Outcome State Fault Refusal :=
  .next (if s.ports[x].state = .softstart then
    s.modPort x fun p =>
      let p := { p with state := .online, softMs := 0 }
      if s.sys.st = ModState.hold then { p with allow := 0, allowFrom := 0, allowTo := 0, allowMs := 5 } else p
    else s)

/-- The voltage is outside the window with the 10 V hysteresis (R35). -/
def outside (s : State) (x : Fin 4) (v : Int) : Bool := decide (v < (window s x).1 - 10000 ∨ (window s x).2 + 10000 < v)

/-- `PORT_LOSS` (R36, R38): no trip. -/
def execPortLoss (x : Fin 4) (v : Int) (s : State) : Host.Outcome State Fault Refusal :=
  portEvent x v (fun s =>
    if decide (s.ports[x].state = .softstart ∨ s.ports[x].state = .online) && outside s x v then changePort x Port.lose s
    else s) s

/-- `BACKOFF_END` (R36): 1 s after the trip. The trips of the last 60 s are counted here, at the end of BACKOFF, and not at the
moment of the trip: R36 does not say which (DESIGN CHOICE, log entry 51). -/
def execBackoffEnd (x : Fin 4) (s : State) : Host.Outcome State Fault Refusal :=
  .next (if s.ports[x].state = .backoff then
    s.modPort x fun p =>
      { p with state := if 3 ≤ (recent s.sys.uptime 60000 p.trips).length then .locked else .idle }
    else s)

/-! ### Hub -/

/-- A port at a hub over-voltage (R33, R36, R42): BACKOFF, no trip; what still drains after `SRC_DISABLE` stops at once. -/
def Port.hubOv (p : Port) : Port :=
  if PortState.guarded p.state then
    { p with state := .backoff, lastTrip := 6, allow := 0, allowFrom := 0, allowTo := 0, allowMs := 5, softMs := 0 }
  else if p.stopping then { p with allow := 0, allowFrom := 0, allowTo := 0, allowMs := 5, stopping := false }
  else p

/-- A latched module-wide hardware fault sends STANDBY, RUN and HOLD to SAFE (R26). -/
def hardwareFault (s : State) : State := match s.sys.st with
  | .standby | .run | .hold => ranked 5 (enterSafe 7) s
  | _ => s

/-- `HUB_OV` (R33, R34, R442): the third within 60 s is the latched fault. -/
def execHubOv (s : State) : Host.Outcome State Fault Refusal :=
  if !s.powered then .next s else
  let was := anyOnline s
  let times := recent s.sys.uptime 60000 s.hub.ovTimes ++ [s.sys.uptime]
  let s := event .hubOv [times.length] s
  let s := handOver was ((s.mapPorts fun _ p => p.hubOv))
  let s := withFlt (fun s =>
    { s with hub := { s.hub with ov := true, ovTimes := times, ov3 := s.hub.ov3 || decide (3 ≤ times.length) } }) s
  .next (if 3 ≤ times.length then hardwareFault s else s)

/-- A new hub voltage: the limits of R33 it crosses, and the stakes' loops see it. -/
def hubAt (v : Nat) (f : Hub → Hub) (s : State) : State := loops { s with hub := f { s.hub with v := v } }

/-- `HUB_DROOP` (R33): below 390 V. -/
def execHubDroop (v : Nat) (s : State) : Host.Outcome State Fault Refusal :=
  .next (if s.powered ∧ v < Config.hubDroop then
    hubAt v (fun h => { h with droop := true, uv := h.uv || decide (v < Config.hubUv) }) s else s)

/-- `HUB_UNDERVOLTAGE` (R33): below 360 V. -/
def execHubUndervoltage (v : Nat) (s : State) : Host.Outcome State Fault Refusal :=
  .next (if s.powered ∧ v < Config.hubUv then hubAt v (fun h => { h with droop := true, uv := true }) s else s)

/-- `HUB_RECOVERY` (R33): droop scaling ends above 390 V, the hold at 0 A above 380 V. -/
def execHubRecovery (v : Nat) (s : State) : Host.Outcome State Fault Refusal :=
  .next (if s.powered then
    hubAt v (fun h => { h with
      droop := h.droop && decide (v < Config.hubDroop), uv := h.uv && decide (v ≤ Config.hubUvEnd) }) s
    else s)

/-- A waiting port enters QUALIFY when the ramp ends (R54), if it still may and its voltage lies in the window as it stands
then (R36, R48). -/
def releasePort (s : State) (x : Fin 4) (p : Port) : Port :=
  if p.handoverWait then
    { p with
      handoverWait := false
      state := if decide (p.state = .idle) && mayQualify s x && inWindow s x p.vin then .qualify else p.state }
  else p

/-- `HAND_OVER_END` (R51, R52, R54): stand-in taps still without SLOT_FB raise their alert. -/
def execHandOverEnd (s : State) : Host.Outcome State Fault Refusal :=
  if !s.hub.handover then .next s else
  let s := { s.mapPorts (releasePort s) with hub := { s.hub with handover := false, ramp0 := 20 } }
  .next (loops (foldFin 32 (fun n s =>
    if s.taps[n].state = .standIn ∧ !s.taps[n].stake.slotFb then alert 0 3 5 n.val 0 s else s) s))

end Sys2Proof.Machine
end

