-- ==== Sys2Proof/Machine/Rods.lean ====
section
/-! DEFINITION. Rods: carrier phases, protection, forced rests, adding, shedding and swapping, balancing, braking, fuse-out
and withdrawal (R60 to R90). -/

namespace Sys2Proof.Machine

/-! ### Access -/

/-- The rods of a stake or pair as stake and position, in position order. -/
def pairRods (s : State) (n : Fin 32) : List (Fin 32 × Fin 16) :=
  (mates s n).flatMap fun m => (indices 16).map fun p => (m, p)

/-- One rod. -/
def rodAt (s : State) (r : Fin 32 × Fin 16) : Rod := s.taps[r.1].stake.rods[r.2]

/-- Change one rod. -/
def modRod (r : Fin 32 × Fin 16) (f : Rod → Rod) (s : State) : State :=
  s.modStake r.1 fun k => { k with rods := k.rods.set r.2 (f k.rods[r.2]) }

/-- The rod with the least running time, the lower position at a tie (R79). -/
def leastWorn (s : State) (l : List (Fin 32 × Fin 16)) : Option (Fin 32 × Fin 16) :=
  l.foldl (fun m r => match m with
    | none => some r
    | some q => if (rodAt s r).runTime < (rodAt s q).runTime then some r else some q) none

/-- The rod with the most running time, the lower position at a tie (R79). -/
def mostWorn (s : State) (l : List (Fin 32 × Fin 16)) : Option (Fin 32 × Fin 16) :=
  l.foldl (fun m r => match m with
    | none => some r
    | some q => if (rodAt s q).runTime < (rodAt s r).runTime then some r else some q) none

/-- The rods that switch. -/
def activeRods (s : State) (n : Fin 32) : List (Fin 32 × Fin 16) := (pairRods s n).filter fun r => (rodAt s r).active
/-- The available rods that rest (R78). -/
def spareRods (s : State) (n : Fin 32) : List (Fin 32 × Fin 16) :=
  (pairRods s n).filter fun r => (rodAt s r).avail && !(rodAt s r).active

/-- The stake or pair converts. -/
def converting (s : State) (n : Fin 32) : Bool := s.taps[headTap s n].stake.conv

/-- An event that carries a tap voltage: beyond the absolute maximum the spec gives no behaviour (R420). -/
def atVolt (v : Int) (go : State → Host.Outcome State Fault Refusal) (s : State) : Host.Outcome State Fault Refusal :=
  if !tapRated v then .fault .beyondAbsoluteMaximum else go s

/-! ### Carrier phases -/

/-- Counts of 78.125 ps in a switching period, at a carrier in 10 Hz (R73). -/
def periodCounts (fsw : Nat) : Nat := 1280000000 / fsw

/-- Carrier phase of an active rod in 1/25600 of a period (R73): 45° a module, 11.25° a stake, an equal share of the period a
rank. -/
def phaseOf (addr n k active : Nat) : Nat := (addr * 3200 + n * 800 + k * 25600 / active) % 25600

/-- Phase of a rod's transformer carrier in 1/25600 of the transformer period (R73): 22.5° a position. -/
def transformerPhase (p : Fin 16) : Nat := p.val * 1600

/-- A phase as PWM counts at the present carrier (R73, R94). -/
def phaseCounts (fsw ph : Nat) : Nat := ph * periodCounts fsw / 25600

/-- Where a rod's phase stands after `step` of the sixteen equal steps (R73), the shorter way round (DESIGN CHOICE, log entry
58). -/
def stepPhase (step : Nat) (r : Rod) : Nat :=
  let d : Int := ((r.phaseTo : Int) - r.phase + 12800) % 25600 - 12800
  (((r.phase : Int) + d * (min 16 step : Nat) / 16) % 25600).toNat

/-- The rods of a stake or pair take their phases after the active set has changed from that of `s0` (R73): a rod that joins
starts at its final phase, one that stays moves there. The ranks of a pair run over both its stakes (DEDUCED, log entry 58). -/
def rephase (n : Fin 32) (s0 s : State) : State :=
  let act := activeRods s n
  if act = activeRods s0 n then s else
  let base := (headTap s n).val
  (mates s n).foldl (fun s m => s.modStake m fun k =>
    { k with
      phaseStep := 0
      rods := vec fun p =>
        let r := k.rods[p]
        if r.active then
          let goal := phaseOf s.sys.slotAddr.toNat base (act.idxOf (m, p)) act.length
          { r with phase := if (rodAt s0 (m, p)).active then stepPhase k.phaseStep r else goal, phaseTo := goal }
        else r }) s

/-- A change of the active set with the phases that follow it. -/
def reactivate (n : Fin 32) (f : State → State) (s : State) : State := rephase n s (f s)

/-! ### Joining and leaving -/

/-- The available resting rod with the least running time joins (R79). -/
def joinOne (n : Fin 32) (s : State) : State := match leastWorn s (spareRods s n) with
  | none => s
  | some r => modRod r (fun r => { r with active := true }) s

/-- `k` rods join. -/
def joinMany (n : Fin 32) : Nat → State → State
  | 0, s => s
  | k + 1, s => joinMany n k (joinOne n s)

/-- Add threshold of one rod, 10 µA (R77). -/
def addAt (s : State) (n : Fin 32) : Nat := s.taps[headTap s n].cfg.addPct * 550
/-- Shed threshold of one rod, 10 µA (R77). -/
def shedAt (s : State) (n : Fin 32) : Nat := s.taps[headTap s n].cfg.shedPct * 550

/-- Rods that the add condition calls for at a demand in 10 mA, with at least two (R78). -/
def wanted (s : State) (n : Fin 32) (ist : Int) : Nat := max 2 ((ist.toNat * 100 + addAt s n - 1) / addAt s n)

/-- Stake current demand of the last outer-loop sample (R66). -/
def demandOf (s : State) (n : Fin 32) : Int := s.taps[headTap s n].stake.ist

/-- After a rod has left or become available: a replacement joins when the count is below what R78 asks for. -/
def replaceRod (n : Fin 32) (s : State) : State :=
  if converting s n ∧ (activeRods s n).length < wanted s n (demandOf s n) then joinOne n s else s

/-- A stake keeps at least two rods active, or every available rod if fewer are available (R78). -/
def keepMinimum (n : Fin 32) (s : State) : State :=
  if converting s n ∧ (activeRods s n).length < 2 then reactivate n (joinMany n (2 - (activeRods s n).length)) s else s

/-- A rod leaves: its switches are off, and a replacement joins (R78). -/
def leaveRod (n : Fin 32) (p : Fin 16) (f : Rod → Rod) (s : State) : State :=
  let was := (rodAt s (n, p)).active
  reactivate n (fun s =>
    let s := modRod (n, p) (fun r => f { r with active := false, duty := 0 }) s
    if was then replaceRod n s else s) s

/-! ### Fuse-out and withdrawal -/

/-- Fuse a rod out (R87, R88): its health record, an EVENT record and an alert; a stake left without a rating, or whose
fuse was not confirmed, is withdrawn. Causes are those of `TAP_GET_RODS` (R265). The running times are saved at once, as R79 has it
at every fuse-out, in HOLD too, for which R95 names the return of the control plane (DESIGN CHOICE, log entry 73). -/
def fuseRod (n : Fin 32) (p : Fin 16) (cause : Nat) (ok : Bool) (s : State) : State :=
  let rod := 16 * n.val + p.val
  let s0 := s
  let s := saveTimes (modRod (n, p) (fun r =>
    { r with active := false, duty := 0, healthy := false, rest := .none, susp := false, overTemp := false
             cause := if ok then cause else 6 }) s)
  let s := alertRec (event .fuseOut [rod, cause, if ok then 1 else 0]) (if ok then 3 else 0) 3 (if ok then 7 else 8) n.val rod s
  if !ok || decide ((rating s (headTap s n)).1 = 0) then withdraw n s else rephase n s0 (replaceRod n s)

/-! ### Protection -/

/-- A trip of one kind (R62, R86): the third within 10 s fuses the rod out, else it rests for 1 s. -/
def tripRod (n : Fin 32) (p : Fin 16) (cause : Nat) (ok : Bool) (times : List Nat) (f : Rod → Rod) (s : State) : State :=
  if 3 ≤ times.length then fuseRod n p cause ok (modRod (n, p) f s) else leaveRod n p f s

/-- `ROD_CURRENT_TRIP` (R62, R86): of a switching rod. -/
def execRodCurrentTrip (n : Fin 32) (p : Fin 16) (fuseOk : Bool) (s : State) : Host.Outcome State Fault Refusal :=
  let r := rodAt s (n, p)
  let times := recent s.sys.uptime 10000 r.trips ++ [s.sys.uptime]
  .next (if s.taps[n].stake.conv && r.healthy && r.active then
    tripRod n p 2 fuseOk times (fun r => { r with trips := times, rest := .trip }) s else s)

/-- `TRANSFORMER_PRIMARY_OVERCURRENT` (R60, R62, R86): of a switching rod or of one in burst idle. -/
def execTransformerPrimaryOvercurrent (n : Fin 32) (p : Fin 16) (fuseOk : Bool) (s : State) :
    Host.Outcome State Fault Refusal :=
  let r := rodAt s (n, p)
  let times := recent s.sys.uptime 10000 r.primTrips ++ [s.sys.uptime]
  .next (if s.taps[n].stake.conv && r.healthy && decide (r.rest ≠ .primTrip) then
    tripRod n p 3 fuseOk times (fun r => { r with primTrips := times, rest := .primTrip }) s else s)

/-- `ROD_OVER_TEMPERATURE` (R62): above 115 °C the rod is forced to rest. -/
def execRodOverTemperature (n : Fin 32) (p : Fin 16) (t : Int) (s : State) : Host.Outcome State Fault Refusal :=
  .next (if s.powered && (rodAt s (n, p)).healthy && decide (Config.rodHot < t) then
    leaveRod n p (fun r => { r with overTemp := true, temp := t }) s else s)

/-- `ROD_COOLED` (R62): below 95 °C the rod is available again. -/
def execRodCooled (n : Fin 32) (p : Fin 16) (t : Int) (s : State) : Host.Outcome State Fault Refusal :=
  .next (if s.powered && (rodAt s (n, p)).overTemp && decide (t < Config.rodCool) then
    keepMinimum n (modRod (n, p) (fun r => { r with overTemp := false, temp := t }) s) else s)

/-- A rest as suspect has lasted its 60 s (R75). -/
def suspectOver (now : Nat) (r : Rod) : Bool := r.suspects.all fun t => decide (t + 60000 ≤ now)

/-- The end of a forced rest of 1 s or 60 s (R62, R75): a rest of 1 s ends first, and with it that of a suspect rod whose 60 s
have passed. -/
def Rod.restOver (now : Nat) (r : Rod) : Rod :=
  if r.rest ≠ .none then { r with rest := .none, susp := r.susp && !suspectOver now r } else { r with susp := false }

/-- `ROD_REST_END` (R62, R75): the forced rest of 1 s or 60 s is over. -/
def execRodRestEnd (n : Fin 32) (p : Fin 16) (s : State) : Host.Outcome State Fault Refusal :=
  let r := rodAt s (n, p)
  .next (if s.powered && (decide (r.rest ≠ .none) || r.susp) then
    keepMinimum n (modRod (n, p) (Rod.restOver s.sys.uptime) s) else s)

/-- Clamp of a trim, 0.02 of duty in 1/2^15 (R74). -/
def trimMax : Int := 655

/-- `SUSPECT` (R75): a trim at its clamp; the third suspect rest within 24 h fuses the rod out. -/
def execSuspect (n : Fin 32) (p : Fin 16) (fuseOk : Bool) (s : State) : Host.Outcome State Fault Refusal :=
  let r := rodAt s (n, p)
  let times := recent s.sys.uptime 86400000 r.suspects ++ [s.sys.uptime]
  .next (if s.taps[n].stake.conv && r.healthy && r.active && decide (r.trim = trimMax ∨ r.trim = -trimMax) then
    tripRod n p 4 fuseOk times (fun r => { r with suspects := times, susp := true }) s else s)

/-! ### Adding, shedding and wear -/

/-- The add condition holds and a rod can join (R77). -/
def addDue (s : State) (n : Fin 32) : Bool :=
  decide ((activeRods s n).length * addAt s n < demandOf s n * 100) && !(spareRods s n).isEmpty

/-- The shed condition holds and two rods stay (R77, R78). -/
def shedDue (s : State) (n : Fin 32) : Bool :=
  decide (2 < (activeRods s n).length) && decide (demandOf s n * 100 < ((activeRods s n).length - 1) * shedAt s n)

/-- `ADD_ROD` (R77): four consecutive outer-loop samples above the threshold. -/
def execAddRod (n : Fin 32) (s : State) : Host.Outcome State Fault Refusal :=
  .next (if !gangedOdd s n && converting s n && addDue s n then reactivate n (joinOne n) s else s)

/-- The active rod with the most running time leaves (R79). -/
def shedOne (n : Fin 32) (s : State) : State := match mostWorn s (activeRods s n) with
  | none => s
  | some r => modRod r (fun r => { r with active := false, duty := 0 }) s

/-- A braking event suspends shedding, and 1 ms after it (R80). -/
def isBraking (s : State) (n : Fin 32) : Bool := s.taps[headTap s n].stake.braking

/-- `SHED_ROD` (R77, R80): 20 ms below the threshold. -/
def execShedRod (n : Fin 32) (s : State) : Host.Outcome State Fault Refusal :=
  .next (if !gangedOdd s n && converting s n && shedDue s n && !isBraking s n then reactivate n (shedOne n) s else s)

/-- The half of a pair that a stake is. -/
def halfOf (n : Fin 32) : Fin 2 := ⟨n.val % 2, by omega⟩

/-- The stake of a pair by its half; a single stake is its own. -/
def stakeOf (s : State) (n : Fin 32) (j : Fin 2) : Fin 32 :=
  if s.taps[n].cfg.gang then ⟨n.val / 2 * 2 + j.val, by omega⟩ else n

/-- The wear swap of a stake or pair (R79): the resting rod joins now, and the worn one is due to be shed 100 µs later. -/
def swapRods (n : Fin 32) (s : State) : State :=
  let s := s.modStake n fun k => { k with wearDue := false }
  match leastWorn s (spareRods s n), mostWorn s (activeRods s n) with
  | some a, some b =>
    if (rodAt s a).runTime + 3600 ≤ (rodAt s b).runTime then
      (reactivate n (modRod a fun r => { r with active := true }) s).modStake n fun k =>
        { k with swapOut := some (b.2, halfOf b.1) }
    else s
  | _, _ => s

/-- The worn rod of a swap is shed (R79); the stake keeps its two rods (R78). -/
def endSwap (n : Fin 32) (s : State) : State := match s.taps[n].stake.swapOut with
  | none => s
  | some (p, j) =>
    keepMinimum (headTap s n) (reactivate n (modRod (stakeOf s n j, p) fun r => { r with active := false, duty := 0 })
      (s.modStake n fun k => { k with swapOut := none }))

/-- An add, shed or braking event is in progress (R79). -/
def rodsBusy (s : State) (n : Fin 32) : Bool := addDue s n || shedDue s n || isBraking s n

/-- `WEAR_SWAP` (R79): every 10 min; while an add, shed or braking event is in progress it is deferred and stays due. -/
def execWearSwap (n : Fin 32) (s : State) : Host.Outcome State Fault Refusal :=
  .next (if gangedOdd s n || !converting s n then s
    else if rodsBusy s n then s.modStake n fun k => { k with wearDue := true }
    else swapRods n s)

/-- `RUNNING_TIME_SAVE` (R79, R95): every hour, once the control plane runs. -/
def execRunningTimeSave (s : State) : Host.Outcome State Fault Refusal :=
  .next (if s.powered && !planeDown s then saveTimes s else s)

/-! ### Balancing and braking -/

/-- Weight of a rod in 1/1000 from its excess over the mean temperature, in 0.1 °C (R74). -/
def hotWeight (d : Int) : Int := if 100 < d then 1000 - min (d - 100) 100 else 1000

/-- One balancing step of a stake (R74): trims of active rods in 1/2^15 of duty. -/
def balanceStake (iAvg temps : List Int) (k : Stake) : Stake :=
  let act := (indices 16).filter fun p => k.rods[p].active
  let m : Int := act.length
  let mean := (act.map fun p => iAvg.getD p.val 0).sum / m
  let tMean := (act.map fun p => temps.getD p.val 0).sum / m
  { k with rods := vec fun p =>
      let r := { k.rods[p] with temp := temps.getD p.val k.rods[p].temp }
      if r.active then
        let err := hotWeight (temps.getD p.val 0 - tMean) * mean / 1000 - iAvg.getD p.val 0
        { r with trim := clamp (-trimMax) trimMax (r.trim + Config.balance err) }
      else r }

/-- `BALANCING_STEP` (R74): every 1 ms. -/
def execBalancingStep (n : Fin 32) (iAvg temps : List Int) (s : State) : Host.Outcome State Fault Refusal :=
  .next (if s.taps[n].stake.conv then s.modStake n (balanceStake iAvg temps) else s)

/-- A stake brakes (R84): its demand falls by 10 A or more within one sample, or under the voltage loop the Kelvin voltage
rises 0.5 V or more above `v_ref`. -/
def brakeDue (t : Tap) (ist v : Int) : Bool :=
  decide (ist + 1000 ≤ t.stake.ist) || (decide (t.limit = 1) && decide ((t.stake.vref / 1000 : Int) + 500 ≤ v))

/-- A braking stake (R84): both buck switches of its active rods are off, until the next outer-loop sample. -/
def Stake.brakeOn (k : Stake) : Stake :=
  { k with braking := true, brake := true, buckOff := true, rods := k.rods.map fun r => { r with duty := 0 } }

/-- `BRAKE` (R80, R84): a sample with a demand and a Kelvin voltage at which a braking event begins, or a braking event ended
1 ms ago. None begins while the last holds the switches off. -/
def execBrake (n : Fin 32) (seen : BrakeSeen) (s : State) : Host.Outcome State Fault Refusal :=
  atVolt seen.v (fun s =>
    .next (if gangedOdd s n || !converting s n then s
      else if seen.ended then onMates n (fun k => { k with braking := false }) s
      else if s.taps[n].stake.buckOff || !brakeDue s.taps[n] seen.ist seen.v then s
      else (onMates n Stake.brakeOn s).modTap n fun t => { t with vKel := seen.v, stake := { t.stake with ist := seen.ist } })) s

/-! ### Service -/

/-- `SERVICE_FUSE_ROD` (R86, R276); whether the fuse is confirmed is a free value (log entry 3). -/
def runFuseRod (a : List Word) (s : State) : Reply :=
  let n : Fin 32 := tapOf (arg a 0 / 16)
  let p := rodOf (arg a 0)
  let busy := (mates s n).any fun m => s.taps[m].stake.conv
  checked [rng 0 511 (arg a 0), need (decide (arg a 1 = 0xF05E)), allow ((rodAt s (n, p)).healthy && !busy)] s <|
    let (k, s) := s.draw
    let ok := decide (Config.freeValue k % 2 = 1)
    doneWith [if ok then 1 else 0] (fuseRod n p 5 ok s)

/-- `SERVICE_FUSE_ROD` (R276): a powered-down cluster island wakes first (R22, R250). -/
def execServiceFuseRod (via : Via) (args : List Word) (s : State) : Host.Outcome State Fault Refusal :=
  let n : Fin 32 := tapOf (arg args 0 / 16)
  if accepts 0x0C01 via args s ∧ arg args 0 ≤ 511 ∧ !clUp s n then
    .next (hold (0x0C01, via, args)
      (s.modSys fun y => { y with clWaking := y.clWaking ||| (1#4 <<< (clusterOf n).val) }))
  else hostCommand 0x0C01 runFuseRod via args s

end Sys2Proof.Machine
end

