-- ==== Sys2Proof/Machine/Carrier.lean ====
section
/-! DEFINITION. The carrier and SYNC (R91 to R94), and the cluster islands' power (R20 to R22, R250). -/

namespace Sys2Proof.Machine

/-! ### SYNC -/

/-- The carrier glides to the module's own frequency, or is there (R93, R94). -/
def glideBack (y : Sys) : Sys := { y with syncSrc := if y.fsw = y.ownFsw then 0 else 3 }

/-- What SYNC_OUT carries (R92). -/
inductive SyncOut where
  | low | syncIn | own
deriving DecidableEq, Repr

/-- Source of SYNC_OUT (R92): low without power, SYNC_IN while locked, else the module's own reference. It is the chain
reference, not the module's shifted carrier. -/
def syncOut (s : State) : SyncOut := if !s.powered then .low else if s.sys.syncSrc = 2 then .syncIn else .own

/-- The module's carrier phase from the phase of the chain reference, both in 1/25600 of a period (R92): ADDR × 45° more. -/
def carrierPhase (s : State) (chain : Nat) : Nat := (chain + s.sys.slotAddr.toNat * 3200) % 25600

/-- `SYNC_IN_VALID` (R91, R93): 64 periods between 450 kHz and 550 kHz; the carrier glides towards it from wherever it is.
-/
def execSyncInValid (sig : SyncSignal) (s : State) : Host.Outcome State Fault Refusal :=
  .next (if s.powered ∧ 45000 ≤ sig.f ∧ sig.f ≤ 55000 then
    s.modSys fun y =>
      { y with syncValid := true, inFsw := sig.f, phErr := sig.ph, syncSrc := if y.syncDis ∨ y.syncSrc = 2 then y.syncSrc else 1 }
    else s)

/-- The glide has arrived and the phase is aligned (R91): the error lies below 2°. -/
def aligned (y : Sys) : Bool := decide (y.fsw = y.inFsw ∧ -20 < y.phErr ∧ y.phErr < 20)

/-- `SYNC_LOCK` (R91): phase error below 2° for 1 ms, at the frequency of SYNC_IN. -/
def execSyncLock (s : State) : Host.Outcome State Fault Refusal :=
  .next (if s.powered ∧ s.sys.syncValid ∧ s.sys.syncSrc = 1 ∧ aligned s.sys then
    s.modSys fun y => { y with syncSrc := 2 } else s)

/-- `SYNC_IN_LOSS` (R93). -/
def execSyncInLoss (s : State) : Host.Outcome State Fault Refusal :=
  .next (if s.powered ∧ s.sys.syncValid then
    alert 3 9 5 0xFF 0 (s.modSys fun y =>
      let y := { y with syncValid := false, syncLoss := true }
      if y.syncSrc = 1 ∨ y.syncSrc = 2 then glideBack y else y) else s)

/-- `SYNC_GLIDE_END` (R93, R94): the own frequency is reached. -/
def execSyncGlideEnd (s : State) : Host.Outcome State Fault Refusal :=
  .next (if s.powered ∧ s.sys.syncSrc = 3 ∧ s.sys.fsw = s.sys.ownFsw then s.modSys fun y => { y with syncSrc := 0 } else s)

/-! ### Cluster islands -/

/-- A tap of a cluster. -/
def tapAt (m : Fin 4) (j : Fin 8) : Fin 32 := ⟨8 * m.val + j.val, by omega⟩

/-- Core of a cluster (R2). -/
def clusterCore (m : Fin 4) : Fin 8 := ⟨4 + m.val, by omega⟩

/-- A stake is idle (R20): it neither switches nor starts, its tap switch is open, its tap rests. -/
def idleStake (t : Tap) : Bool :=
  !t.stake.conv && !t.stake.sw && decide (t.stake.start = .off)
    && (t.state.isFault || decide (t.state = .absent ∨ t.state = .done ∨ t.state = .suspended))

/-- `CLUSTER_POWER_DOWN` (R20): all eight stakes have been idle for 10 s; never in RECOVERY, and in BOOT no island is up. What the
island holds of its stakes is in the retained table (R95, R121); its performance unit is lost (R384). -/
def execClusterPowerDown (m : Fin 4) (s : State) : Host.Outcome State Fault Refusal :=
  let st := s.sys.st
  .next (if s.powered && decide (st ≠ .recovery)
      && s.sys.clOn.getLsbD m.val && (indices 8).all fun j => idleStake s.taps[tapAt m j] then
    { s.modSys (fun y => { y with clOn := y.clOn &&& ~~~(1#4 <<< m.val) }) with
      perf := s.perf.set (clusterCore m) .reset, boxes := s.boxes.set (clusterCore m) .reset } else s)

/-- `CLUSTER_WAKE` (R22): not in RECOVERY, where the islands are powered and their cores held in reset (R20). -/
def execClusterWake (m : Fin 4) (s : State) : Host.Outcome State Fault Refusal :=
  .next (if s.powered && decide (s.sys.st ≠ .recovery) && !s.sys.clOn.getLsbD m.val then
    s.modSys fun y => { y with clWaking := y.clWaking ||| (1#4 <<< m.val) } else s)

/-- The meaning of a command that can be held, by its opcode (R250). -/
def heldRun (op : Nat) (via : Via) : List Word → State → Reply := match op with
  | 0x0301 => runSetDescriptor | 0x0303 => runSetSupport | 0x0304 => runSetLimits | 0x0305 => runStop
  | 0x0306 => runResume | 0x0307 => runRearmTimer | 0x0308 => runClearFault | 0x0309 => runForget via
  | 0x030B => runSetRamp | 0x030C => runSetKeep | 0x030D => runSetStandin | 0x030E => runStandIn
  | 0x030F => runSetTrack | 0x0310 => runSetCoeff | 0x0311 => runLoadDefaultCoeff | 0x0312 => runSetSchedule
  | 0x0313 => runSetShed | 0x0314 => runSetGang | 0x0316 => runSetPlant
  | 0x0302 => runGetDescriptor | 0x0315 => runGetRods
  | 0x0A01 => runPerfSetCtl | 0x0A02 => runPerfSelect | 0x0A03 => runPerfRead | _ => runFuseRod

/-- `CLUSTER_WAKE_DONE` (R22, R24, R245, R250, R254): CL_ON is set, which takes a running engine, and the commands that waited
for the island run in the order taken, each after the second check. -/
def execClusterWakeDone (m : Fin 4) (s : State) : Host.Outcome State Fault Refusal :=
  if !s.powered || decide (s.sys.st = .recovery) || !s.sys.clWaking.getLsbD m.val
      || !s.sys.cores.getLsbD (4 + m.val) then .next s else
  let due := s.held.filter fun c => heldCluster c = m.val
  let s := { s.modSys (fun y =>
      { y with clOn := y.clOn ||| (1#4 <<< m.val), clWaking := y.clWaking &&& ~~~(1#4 <<< m.val) }) with
    held := s.held.filter fun c => heldCluster c ≠ m.val }
  .next (due.foldl (fun s c => deliver c.2.1 (lateReply c.1 s (heldRun c.1 c.2.1 c.2.2 s))) s)

end Sys2Proof.Machine
end

