-- ==== Sys2Proof/Machine/Ladder.lean ====
section
/-! DEFINITION. The watchdog ladder: what a failure does, service and lateness, and a core that runs again (R251, R323 to
R333). -/

namespace Sys2Proof.Machine

/-- `CORE_RESTART_DONE` (R251, R332, R382): the core runs again; C0 posts INTERNAL for the host commands lost with it. A
restarted C1 calls init again, a restarted C3 computes doses afresh, a restarted C0 issues what was put off (R192, R312), a
`CMD` that waited goes on (R397), and
a cluster core reviews its taps (R134, R159). -/
def execCoreRestartDone (c : Fin 8) (s : State) : Host.Outcome State Fault Refusal :=
  if !s.powered ∨ s.sys.st = .hold ∨ s.sys.cores.getLsbD c.val then .next s else
  let mine (n : Nat) : Bool :=
    decide (c = 0) || (decide (n < 4) && decide (mbxCore s ⟨n % 4, Nat.mod_lt n (by decide)⟩ = c))
  let lost := s.sys.lostCmds.filter mine
  let s := foldFin 4 (fun n s => if n.val ∈ lost then postLost n s else s) s
  let s := s.modSys fun y =>
    { y with cores := y.cores ||| (1#8 <<< c.val), fwFrom := y.fwFrom.set c (some y.uptime), lostCmds := y.lostCmds.filter fun n => n ∉ lost }
  let s := if c = 1 then rcpAgain s else s
  let s := promote c (if c = 0 then putOff (monAgain s) else retryCmd s)
  let s := if 4 ≤ c.val then (indices 8).foldl (fun s j => reviewTap ⟨8 * (c.val - 4) + j.val, by omega⟩ s) s else s
  .next (if c = 3 then writePending { s with arb := { s.arb with frozen := false } } else s)

/-- What a rung does in each module state (R27, R331, R333, R370). In BOOT it is a module reset with the recovery request
set (R357); CAUSE stays as it was, since R28 lists none for it (DESIGN CHOICE, log entry 49). -/
def ladderAct (rung : Nat) (core : Fin 8) (s : State) : State := match s.sys.st with
  | .boot => moduleReset 4 s.sys.cause (s.modSys fun y => { y with recReq := true })
  | .standby | .run => match rung with
    | 1 => restartCore core s
    | 2 => ranked 6 (fun s => goHold 2 (revert s)) s
    | _ => ranked 4 (fun s => enterSafe 3 (if s.sys.trial then dropTrial s else s)) s
  | .hold => match rung with
    | 1 => s
    | 2 => revert s
    | _ => ranked 4 (fun s => enterSafe 3 (if s.sys.trial then dropTrial s else s)) s
  | .safe => match rung with
    | 1 => restartCore core s
    | 2 => restartAll (revert s)
    | _ => restartAll (if s.sys.trial then dropTrial s else s)
  | .recovery => restartCore 0 s
  | .off | .ship => s

/-- A watchdog failure (R326, R330, R331, R337): evidence, record, alert, new challenge, grace, and the rung's action. -/
def wdgFail (cause : Nat) (tok : Word) (pcs : List (BitVec 32)) (s : State) : State :=
  let w := s.wdg
  let f := min 7 (w.fails + 1)
  let rung := rungOf w.n f
  let req := effReq s
  let miss := req &&& ~~~w.checkin
  let seen : List (BitVec 32) := tabulate 8 fun c =>
    if 4 ≤ c.val ∧ !s.sys.clOn.getLsbD (c.val - 4) then 0xFFFFFFFF else pcs.getD c.val 0xFFFFFFFF
  let ev : Evidence :=
    { cause := cause, rung := rung, f := f, n := w.n, modState := modCode s.sys.st, challenge := w.challenge
      token := tok, req := req, acc := w.checkin, missing := miss, count := w.count, pcs := seen
      lastGood := w.lastGood, time := s.stamp }
  let s := alertRec (record 0x04 ([word cause, word rung, word f, word w.n, word ev.modState, ev.challenge, tok, req, ev.acc, miss,
      word w.count] ++ (seen.flatMap fun p => wordsOf 2 p.toNat) ++ wordsOf 4 w.lastGood)) 1 7 1 rung miss.toNat s
  let s := newChallenge (s.modWdg fun w =>
    { w with
      fails := f, lastRung := rung, lastCause := cause, expired := true, missing := miss, checkin := 0
      expiries := sat 0xFFFF (w.expiries + 1), evidence := (ev :: w.evidence).take 16 })
  ladderAct rung (offender cause miss) (grace s)

/-- `WDG_SERVICE` (R324 to R329): foreign, ignored, early, late, mask, token, in this order; else accepted. -/
def execWdgService (core : Fin 8) (tok : Word) (pcs : List (BitVec 32)) (s : State) : Host.Outcome State Fault Refusal :=
  if !s.powered then .next s
  else if core ≠ 0 then
    .next (event .foreignService [core.val] (s.modWdg fun w => { w with foreign := true }))
  else if !wdgRuns s ∨ (s.wdg.grace ∧ s.wdg.count < 8) then .next s
  else if s.wdg.count < (wdgWindow s.wdg).1 then .next (wdgFail 2 tok pcs s)
  else if (wdgWindow s.wdg).2 ≤ s.wdg.count then .next (wdgFail 1 0 pcs s)
  else if effReq s &&& ~~~s.wdg.checkin ≠ 0 then .next (wdgFail 4 tok pcs s)
  else if tok ≠ token s.wdg.challenge then .next (wdgFail 3 tok pcs s)
  else .next (wdgAccept s)

/-- `WDG_LATE` (R324): the count reaches CLOSE without an accepted service. -/
def execWdgLate (pcs : List (BitVec 32)) (s : State) : Host.Outcome State Fault Refusal :=
  .next (if wdgRuns s then
    wdgFail 1 0 pcs (s.modWdg fun w => { w with count := max w.count (wdgWindow w).2 }) else s)

end Sys2Proof.Machine
end

