-- ==== Sys2Proof/Machine/StakeRef.lean ====
section
/-! DEFINITION. Starting a stake, its reference, the short check, KEEP_LOW, stand-in and the slot-bypass hand-off, TRACK
(R82, R97 to R117). -/

namespace Sys2Proof.Machine

/-- An event that has changed what the tap-sense scanner watches, a tap's state, cause, band or sense flags, wakes the tap's
island (R21, R22). -/
def waking (n : Fin 32) (f : State → State) (s : State) : State :=
  let a := s.taps[n]
  let s := f s
  let b := s.taps[n]
  if a.state = b.state ∧ a.cause = b.cause ∧ a.band = b.band ∧ a.kelvinBad = b.kelvinBad ∧ a.ntcSplit = b.ntcSplit
      ∧ a.reverse = b.reverse then s else wakeFor n s

/-- An event of a tap that hardware acts on: without power, and at tap 2k + 1 of a pair (R136), nothing happens. -/
def tapHw (n : Fin 32) (f : State → State) (s : State) : Host.Outcome State Fault Refusal :=
  .next (if s.powered && !gangedOdd s n then waking n f s else s)

/-- An event of a tap that the cluster engine acts on (R132, R134). -/
def tapFw (n : Fin 32) (f : State → State) (s : State) : Host.Outcome State Fault Refusal :=
  .next (if fwUp s n && !gangedOdd s n then waking n f s else s)

/-- A firmware timer of `ms` of a tap can have run out (R159): it counts from zero when its core runs again. -/
def dwelt (s : State) (n : Fin 32) (ms : Nat) : Bool := match s.sys.fwFrom[4 + n.val / 8]'(by omega) with
  | none => true
  | some t => decide (t + ms ≤ s.sys.uptime)

/-- The limit of R66 is held at 0 A by a zero dose, the undervoltage hold or the hand-over ramp, so that a soft start pauses
(R103). -/
def refPaused (s : State) (t : Tap) : Bool := decide (t.dose = 0) || s.hub.uv || decide (rampFactor s.hub = 0)

/-! ### Soft start -/

/-- A start is due: the tap's state converts, its stake is stopped, no start runs and no bypass is in the way. -/
def startDue (s : State) (n : Fin 32) : Bool :=
  let t := s.taps[n]
  let k := t.stake
  mayStart s && TapState.converts t t.state && !k.conv && decide (k.start = .off)
    && !(decide (t.state = .standIn) && (k.bypassed || decide (k.handOff ≠ .none)))

/-- `STAKE_START` (R101): the attempt count of a new sequence is zero. -/
def execStakeStart (n : Fin 32) (s : State) : Host.Outcome State Fault Refusal :=
  tapHw n (fun s => if startDue s n then requestStart n (s.modStake n Stake.fresh) else s) s

/-- `v_ref` has reached its target (R101, R111): a soft start or a slew is complete. -/
def arrive (n : Fin 32) (s : State) : State :=
  s.modTap n fun t =>
    let k := t.stake
    { t with stake := { k with
        vref := k.vTarget * 1000, softStart := false, slewing := false
        attempts := if k.softStart then 0 else k.attempts, caps := if k.softStart then [] else k.caps
        refReached := k.refReached || decide (t.state = .standIn) } }

/-- The tap switches of a stake or pair close with `v_ref` at a voltage in mV (R97, R101, R109); a stand-in de-asserts
SLOT_BYP, and waits for SLOT_FB to clear where it is still there. -/
def closeSwitch (n : Fin 32) (mv : Int) (s : State) : State :=
  let byp := decide (s.taps[n].state = .standIn)
  let s := onMates n (fun k => { k with conv := true, sw := true }) s
  let s := s.modStake n fun k =>
    { k with start := .running, vref := min 96000 mv.toNat * 1000, slotByp := k.slotByp && !byp
             fromBypass := k.fromBypass && k.slotFb }
  let k := s.taps[n].stake
  if k.vref = k.vTarget * 1000 ∧ !k.fromBypass then arrive n s else s

/-- After a passed pre-start test (R61, R78, R101, R363): a pair that has turned is refused, as is a start the module no
longer allows, the initial rods join; from the bypass
the switch closes at 0 V, below 1 V pre-bias is skipped, and otherwise it begins. -/
def passPretest (n : Fin 32) (s : State) : State :=
  let t := s.taps[n]
  if reversed s n || !mayStart s then refuseStart n s else
  let s := reactivate n (joinMany n (wanted s n (demand s n (loopAmps t.stake.uV)))) s
  if t.stake.fromBypass then closeSwitch n 0 s
  else if t.vPair < 1000 then closeSwitch n (kelvin t) s
  else (onMates n (fun k => { k with conv := true }) s).modStake n fun k => { k with start := .prebias }

/-- What the pre-start test measures fails a rod (R82): its switch node more than 5 V above V0 or more than 0.5 A in its
inductor, more than 2.0 A in its primary in either active check, or its rail down by more than 2 V. -/
def preFails (v0 : Int) (m : PreRod) : Bool :=
  decide (v0 + 5000 < m.node ∨ 50 < m.iL ∨ 200 < m.high ∨ 200 < m.low ∨ 2000 < m.drop)

/-- The failed rods of a test are fused out at once (R82, R83); a position the measurement does not list has passed. -/
def fuseFailed (n : Fin 32) (v0 : Int) (m : List PreRod) (ok : Bool) (s : State) : State :=
  foldFin 16 (fun p s =>
    if preFails v0 (m.getD p.val {}) && (rodAt s (n, p)).healthy then
      fuseRod n p 1 ok (s.modStake n fun k => { k with pretestFail := true }) else s) s

/-- A stake of the pair waits for the result of its test. -/
def testing (s : State) (n : Fin 32) : Bool := (mates s n).any fun m => s.taps[m].stake.testing

/-- `PRE_START_RESULT` (R82, R83, R88): each stake of a pair has its own result, at the same time, so the other's comes even
when this one's withdraws the pair; with the last the start goes on if the stake or pair can still run. -/
def execPreStartResult (n : Fin 32) (m : PreMeasured) (fuseOk : Bool) (s : State) :
    Host.Outcome State Fault Refusal :=
  atVolt m.v0 (fun s =>
    if !s.powered || !s.taps[n].stake.testing then .next s else
    let h := headTap s n
    let s := s.modStake n fun k => { k with testing := false, vNode := m.v0 }
    let more := testing s n
    let s := fuseFailed n m.v0 m.rods fuseOk s
    let s := if more then (onMates n (fun k => { k with testing := true }) s).modStake n fun k => { k with testing := false }
      else s
    .next (if !more && decide (s.taps[h].stake.start = .pretest) then passPretest h s else s)) s

/-- `PRE_BIAS_COMPLETE` (R61, R101): the output node lies within 0.5 V below the power pair, which has not turned, and not
above it. -/
def execPreBiasComplete (n : Fin 32) (vNode : Int) (s : State) : Host.Outcome State Fault Refusal :=
  atVolt vNode (tapHw n fun s =>
    let t := s.taps[n]
    if decide (t.stake.start = .prebias ∧ t.vPair - 500 ≤ vNode ∧ vNode ≤ t.vPair) && !reversed s n && mayStart s then
      closeSwitch n (kelvin t) (s.modStake n fun k => { k with vNode := vNode }) else s) s

/-- A failed attempt (R102, R104, R105, R112): the stake stops, with SLOT_BYP first in STAND-IN; the third leads to
FAULT-SHORT, the others to the off time of 1 s, or, where a hand-off runs, on to its end. -/
def failAttempt (n : Fin 32) (prebias : Bool) (s : State) : State :=
  let t := s.taps[n]
  let k := t.stake
  let caps := k.caps ++ [(t.vKel, t.iStk, (k.vref / 1000 : Int))]
  let byp := decide (t.state = .standIn)
  let s := (onMates n Stake.halt s).modTap n fun t =>
    { t with limit := 0, stake := { t.stake with
        attempts := k.attempts + 1, caps := caps, shortSeen := true, prebiasFail := t.stake.prebiasFail || prebias
        slotByp := t.stake.slotByp || byp, handOff := k.handOff
        start := if k.attempts + 1 < 3 ∧ k.handOff = .none then .hiccup else .off } }
  if k.attempts + 1 < 3 then (if k.handOff ≠ .none ∧ k.slotFb then endHandOff n s else s)
  else (tapFault n .faultShort 0 s).modTap n fun t => { t with acted := 4, stake := { t.stake with attempts := 3 } }

/-- `PREBIAS_FAIL` (R102): pre-bias has not completed in time. -/
def execPrebiasFail (n : Fin 32) (s : State) : Host.Outcome State Fault Refusal :=
  tapHw n (fun s => if s.taps[n].stake.start = .prebias then failAttempt n true s else s) s

/-- `v_ref` is less than a millisecond of its ramp at `rate` V/s away from its target: between two ticks the ramp covers that
distance (R97, log entry 5). -/
def nearTarget (rate : Nat) (k : Stake) : Bool :=
  decide (k.vTarget * 1000 ≤ k.vref + rate * 1000 ∧ k.vref ≤ k.vTarget * 1000 + rate * 1000)

/-- `SOFT_START_COMPLETE` (R97, R101, R105): the ramp reaches its target. -/
def execSoftStartComplete (n : Fin 32) (s : State) : Host.Outcome State Fault Refusal :=
  tapHw n (fun s =>
    let k := s.taps[n].stake
    if k.conv && k.sw && k.softStart && !k.fromBypass && !refPaused s s.taps[n] && nearTarget s.taps[n].cfg.softRate k then
      arrive n s
    else s) s

/-- `SLEW_COMPLETE` (R97, R99): the ramp reaches its target. -/
def execSlewComplete (n : Fin 32) (s : State) : Host.Outcome State Fault Refusal :=
  tapHw n (fun s =>
    let k := s.taps[n].stake
    if k.conv && k.sw && !k.softStart && !k.fromBypass && k.slewing && nearTarget s.taps[n].cfg.slewRate k then arrive n s
    else s) s

/-- The short check of a start is open (R103, R104): `v_ref` has passed 25 % of its target in a soft start that is not
paused. -/
def checkOpen (s : State) (t : Tap) : Bool :=
  let k := t.stake
  k.conv && k.sw && k.softStart && !k.fromBypass && !refPaused s t && decide (k.vTarget * 1000 ≤ k.vref * 4)

/-- `SHORT_CHECK_FAIL` (R104): 20 ms after `v_ref` passed 25 % of its target, the Kelvin voltage has not. -/
def execShortCheckFail (n : Fin 32) (v : Int) (s : State) : Host.Outcome State Fault Refusal :=
  atVolt v (tapHw n fun s =>
    if checkOpen s s.taps[n] && decide (v * 4 ≤ s.taps[n].stake.vTarget) then
      failAttempt n false (s.modTap n fun t => { t with vKel := v }) else s) s

/-- `HICCUP_END` (R104): after the off time the start runs again from its test. -/
def execHiccupEnd (n : Fin 32) (s : State) : Host.Outcome State Fault Refusal :=
  tapHw n (fun s => if s.taps[n].stake.start = .hiccup ∧ mayStart s then requestStart n s else s) s

/-! ### Keep and stand-in -/

/-- `KEEP_LOW` (R107): at its limit, with the Kelvin voltage more than 0.5 V below `v_ref` for 1 s. -/
def execKeepLow (n : Fin 32) (v : Int) (s : State) : Host.Outcome State Fault Refusal :=
  atVolt v (tapHw n fun s =>
    let t := s.taps[n]
    if t.state = .keep ∧ t.stake.conv ∧ (iLim s n : Int) ≤ t.stake.ist ∧ v + 500 < t.stake.vref / 1000 then
      s.modTap n fun t => { t with vKel := v, keepLow := true } else s) s

/-- A stand-in that carries the string and is in no hand-off. -/
def standsIn (t : Tap) : Bool :=
  decide (t.state = .standIn) && t.stake.conv && t.stake.sw && !t.stake.bypRamp && decide (t.stake.handOff = .none)

/-- A hand-off of a stand-in begins (R112, R113). -/
def handOffNow (n : Fin 32) (s : State) : State := startHandOff n .excess s

/-- Limit of R15 at the stand-in reference, 10 mA (R110). -/
def siLimit (s : State) (n : Fin 32) : Nat := ampsAt (rating s n) (siTarget s s.taps[n])

/-- `STAND_IN_EXCESS` (R18, R112): the string current has exceeded the limit at the stand-in reference for 100 ms; while the
bitstream is invalid the current held is the one compared (R410). -/
def execStandInExcess (n : Fin 32) (i : Int) (s : State) : Host.Outcome State Fault Refusal :=
  tapHw n (fun s =>
    if standsIn s.taps[n] ∧ (siLimit s n : Int) < (if s.sys.shValid then i else s.sys.iStr) then handOffNow n s else s) s

/-- `STAND_IN_IMMEDIATE_BYPASS` (R111): below the window minimum once the reference has been reached, or 2 V above
`v_ref`. -/
def execStandInImmediateBypass (n : Fin 32) (v : Int) (s : State) : Host.Outcome State Fault Refusal :=
  atVolt v (tapHw n fun s =>
    let t := s.taps[n]
    let low := t.stake.refReached && decide (v < (siWindow t).1)
    let high := decide ((t.stake.vref / 1000 : Int) + 2000 ≤ v)
    if standsIn t && (low || high) then handOffNow n (s.modTap n fun t => { t with vKel := v }) else s) s

/-! ### Slot bypass -/

/-- SLOT_FB is seen while SLOT_BYP is asserted (R53, R112): in a hand-off a converting stake begins its ramp of 20 ms, and
outside one it goes on with its switch closed; a stopped stake is bypassed at once. -/
def fbSeen (n : Fin 32) (s : State) : State :=
  let t := s.taps[n]
  let k := t.stake
  if !k.slotByp then s
  else if k.conv then
    (if k.handOff = .none then s else s.modStake n fun k => { k with bypRamp := true, bypMs := 0 })
  else if t.state = .absent then s.modStake n fun k => { k with handOff := .none }
  else if k.start = .off ∧ (t.state = .standIn ∨ k.handOff ≠ .none) then endHandOff n s
  else s

/-- `SLOT_FB_PRESENT` (R112, R132, R133): FAULT-OPEN enters ABSENT by firmware. -/
def execSlotFbPresent (n : Fin 32) (s : State) : Host.Outcome State Fault Refusal :=
  tapHw n (fun s =>
    let s := s.modStake n fun k => { k with slotFb := true, openDue := false }
    if s.taps[n].state = .faultOpen then (if fwUp s n then rankTap 9 9 n (toAbsent n) s else s) else fbSeen n s) s

/-- `BYPASS_RAMP_END` (R112): 20 ms after SLOT_FB. -/
def execBypassRampEnd (n : Fin 32) (s : State) : Host.Outcome State Fault Refusal :=
  tapHw n (fun s => if s.taps[n].stake.bypRamp then endHandOff n s else s) s

/-- `BYP_FAIL` (R112): no SLOT_FB 50 ms after the assertion of a hand-off. -/
def execBypFail (n : Fin 32) (s : State) : Host.Outcome State Fault Refusal :=
  tapHw n (fun s =>
    let k := s.taps[n].stake
    if k.slotByp && !k.slotFb && decide (k.handOff ≠ .none) then
      alert 0 3 4 n.val 0 (s.modStake n fun k => { k with bypFail := true }) else s) s

/-- `BYPASS_FAULT_OPEN` (R112, R132, R134, R139): no SLOT_FB 150 ms after the assertion for `TAP_STOP`, which firmware acts on once it
runs, or a removal. -/
def execBypassFaultOpen (n : Fin 32) (s : State) : Host.Outcome State Fault Refusal :=
  tapHw n (fun s =>
    let k := s.taps[n].stake
    if !k.slotByp || k.slotFb then s
    else if k.handOff = .removal ∨ (k.handOff = .stop ∧ fwUp s n) then openFault n s
    else if k.handOff = .stop then s.modStake n fun k => { k with openDue := true } else s) s

/-- `SLOT_FB_CLEAR` (R109): in a stand-in from the bypass the ramp to the reference begins. -/
def execSlotFbClear (n : Fin 32) (s : State) : Host.Outcome State Fault Refusal :=
  tapHw n (fun s => s.modStake n fun k =>
    { k with slotFb := false, bypassed := false, fromBypass := k.fromBypass && !k.conv }) s

/-- `SLOT_FB_CLEAR_TIMEOUT` (R109): SLOT_FB is still there after 50 ms; the tap stays bypassed. -/
def execSlotFbClearTimeout (n : Fin 32) (s : State) : Host.Outcome State Fault Refusal :=
  tapHw n (fun s =>
    let k := s.taps[n].stake
    if k.conv && k.fromBypass && k.slotFb then
      (onMates n Stake.halt (s.modStake n fun k => { k with slotByp := true })).modTap n fun t =>
        { t with limit := 0, stake := { t.stake with bypFail := true, bypassed := true } }
    else s) s

/-- `AUTO_RETURN` (R113): 5 s of a string current between 0 A and 90 % of the limit at the stand-in reference. -/
def execAutoReturn (n : Fin 32) (s : State) : Host.Outcome State Fault Refusal :=
  tapFw n (fun s =>
    let t := s.taps[n]
    let ok := t.cfg.autoReturn && decide (t.state = .standIn) && t.stake.bypassed && t.stake.slotFb && (siVolt t).isSome
      && decide ((rating s n).1 ≠ 0) && decide (0 ≤ s.sys.iStr ∧ s.sys.iStr * 10 ≤ siLimit s n * 9)
    if ok && mayStart s && dwelt s n 5000 then
      (fromBypass n true s).modStake n fun k => { k with returnAt := s.sys.uptime } else s) s

/-! ### TRACK -/

/-- `TRACK_FAULT` (R117): the TRACK voltage last sampled lies outside its range and has for 1 ms; tracking is held off
until it resumes. -/
def execTrackFault (s : State) : Host.Outcome State Fault Refusal :=
  .next (if s.powered && !trackOk s.sys.trackMv && !s.sys.trackTold then
    alert 3 9 6 0xFF 0 (retrack (s.modSys fun y =>
      { y with trackValid := false, trackFault := true, trackHeld := true, trackTold := true })) else s)

/-- `TRACK_RESUME` (R114, R117, R420): TRACK has been valid again for 100 ms. -/
def execTrackResume (v : Int) (s : State) : Host.Outcome State Fault Refusal :=
  if !trackRated v then .fault .beyondAbsoluteMaximum else .next (if s.powered && trackOk v then
    retrack (s.modSys fun y => { y with trackMv := v, trackValid := true, trackSeen := true, trackHeld := false, trackTold := false }) else s)

end Sys2Proof.Machine
end

