-- ==== Sys2Proof/Machine/TapSm.lean ====
section
/-! DEFINITION. The tap state machine: presence, removal, DETECT, cupping, the charge, keep, suspensions, timers and
faults (R17, R61, R62, R129 to R158). -/

namespace Sys2Proof.Machine

/-- A removal's hand-off runs (R139): the tap waits for it alone. -/
def leaving (t : Tap) : Bool := decide (t.stake.handOff = .removal) && decide (t.state ≠ .absent)

/-- A hardware event of a tap, of a rank of R133, unless the tap waits for the hand-off of a removal. -/
def smHw (r : Nat) (n : Fin 32) (f : State → State) : State → Host.Outcome State Fault Refusal :=
  tapHw n fun s => if leaving s.taps[n] then s else rankTap r r n f s

/-- A firmware event of a tap whose timer of `ms` has run out (R159): it ranks last in R133. -/
def smFw (ms : Nat) (n : Fin 32) (f : State → State) : State → Host.Outcome State Fault Refusal :=
  tapFw n fun s => if leaving s.taps[n] || !dwelt s n ms then s else rankTap 9 9 n f s

/-- A firmware event that a time spent in the tap's state must precede: it lies in a later sample than a command or another event
of firmware that has brought the tap into that state (R133, log entry 48). -/
def smDwell (ms : Nat) (n : Fin 32) (f : State → State) : State → Host.Outcome State Fault Refusal :=
  tapFw n fun s => if leaving s.taps[n] || !dwelt s n ms then s else rankTap 9 7 n f s

/-- The voltage an event carries is the newest sample. It is what the hardware is fed: the Kelvin voltage, or the power pair's
where that stands in for it (R142). -/
def seeV (n : Fin 32) (v : Int) (s : State) : State :=
  s.modTap n fun t => if t.kelvinBad then { t with vPair := v } else { t with vKel := v }

/-! ### Presence, removal, insertion -/

/-- `PRESENCE` (R132, R138): the Kelvin voltage at or above 1 V a cell for 2 s. -/
def execPresence (n : Fin 32) (v : Int) (s : State) : Host.Outcome State Fault Refusal :=
  atVolt v (smFw 2000 n fun s =>
    let t := s.taps[n]
    if decide (t.state = .absent ∨ t.state = .faultOpen) && decide (cells t * 1000 ≤ v) then
      toDetect n true ((seeV n v s).modTap n fun t => { t with inserted := true, fallback := t.fallback || !validNtc t })
    else s) s

/-- The removal action in force (R108, R139, R316). -/
def removalOf (t : Tap) : RemovalAct :=
  if isHelper t then .openTap
  else match t.cfg.removal with
    | .standIn => if (siVolt t).isNone ∨ 0 < t.cfg.share then .bypass else .standIn
    | a => a

/-- The tap enters ABSENT on a removal (R129). -/
def removedToAbsent (n : Fin 32) (s : State) : State := alert 3 2 0 n.val s.taps[n].vKel (toAbsent n s)

/-- What a removal does (R139). A STAND-IN holds the timers (R129); elsewhere they are disarmed with the state entered. "Both
history and timers are disarmed" leaves open what disarming does to the history: the model breaks off the learning of the
capacity and leaves the history record in force, which a changed serial or `TAP_FORGET` voids (DESIGN CHOICE, log entry 59). -/
def removed (n : Fin 32) (s : State) : State :=
  let t := s.taps[n]
  let act := removalOf t
  let s := s.modTap n fun t => { t with removed := true, doneSeen := false, keepQ := none, stake := t.releaseByp }
  if !inRun s then
    let s := removedToAbsent n s
    if act = .bypass then s.modStake n fun k => { k with slotByp := true } else s
  else match act with
    | .standIn => if t.stake.withdrawn then tapFault n .faultOpen 0 s else toStandIn n s
    | .bypass =>
      if t.stake.conv then startHandOff n .removal s
      else (removedToAbsent n s).modStake n fun k =>
        { k with slotByp := true, handOff := if k.slotFb then .none else .removal }
    | .openTap => tapFault n .faultOpen 0 s

/-- The fitted NTCs' unaveraged readings (R137). -/
def fittedNow (t : Tap) (a b : Int) : List Int := fitted { t with ntcA := a, ntcB := b }

/-- The block current with which an event is judged: the one it carries, and while the bitstream is invalid the one that the string
current held gives (R410). -/
def seenBlk (s : State) (n : Fin 32) (ib : Int) : Int := if s.sys.shValid then ib else iBlk s n

/-- The removal conditions of R138: with a valid NTC every fitted one open, without one a low voltage of a stopped stake, or
at a converting one a rise to `v_ref` with no block current. -/
def removalSeen (t : Tap) (fallback : Bool) (a b v ib : Int) : Bool :=
  let now := fittedNow t a b
  if !fallback then validNtc t && !now.isEmpty && now.all isOpen
  else !now.any plausible && (if t.stake.conv then
      decide (kelvin t + cells t * 100 ≤ v ∧ v - 200 ≤ t.stake.vref / 1000 ∧ (t.stake.vref / 1000 : Int) ≤ v + 200 ∧ ib < 50)
    else decide (v < cells t * 1000))

/-- `REMOVAL` (R132, R138, R139): the NTC readings of 1 ms, the voltage and the block current with which it is judged. -/
def execRemoval (n : Fin 32) (seen : RemovalSeen) (s : State) : Host.Outcome State Fault Refusal :=
  atVolt seen.v (smHw 5 n fun s =>
    let t := s.taps[n]
    if TapState.holds t.state && removalSeen t seen.fallback seen.a seen.b seen.v (seenBlk s n seen.ib) then
      removed n ((seeV n seen.v s).modTap n fun t => { t with fallback := t.fallback || seen.fallback })
    else s) s

/-- A block has been inserted (R140): a fitted NTC is plausible, or without fitted NTCs more than 2.0 A flow into the block. -/
def insertionSeen (t : Tap) (a b ib : Int) : Bool :=
  let now := fittedNow t a b
  if now.isEmpty then decide (200 < ib) else now.any plausible

/-- `BLOCK_INSERTED` (R140, R358): the stake takes a target of 0 A, SLOT_BYP is released and the tap enters DETECT as a
new block once firmware runs; in ABSENT it ends a slot that stays bypassed. -/
def execBlockInserted (seen : InsertSeen) (s : State) : Host.Outcome State Fault Refusal :=
  let n := seen.tap
  smHw 9 n (fun s =>
    let t := s.taps[n]
    let here := decide (t.state = .standIn) || (decide (t.state = .absent) && t.stake.slotByp)
    if !here || !insertionSeen t seen.a seen.b (seenBlk s n seen.ib) then s else
    let s := s.modTap n fun t =>
      { t with inserted := true, insHeld := true, stake := { t.stake with slotByp := false, iTarget := 0 } }
    if fwUp s n then toDetect n true s else s) s

/-! ### DETECT and cupping -/

/-- Shorted with the stake stopped and a valid NTC (R141). -/
def shortedAt (t : Tap) (v vPair : Int) : Bool :=
  !t.stake.conv && validNtc t && decide (v < cells t * 500 ∧ vPair < cells t * 500)

/-- Kelvin at or above cells × OV (R132, R143). -/
def atOv (t : Tap) (v : Int) : Bool := match t.desc with
  | none => false
  | some d => decide ((d.cells * d.ovC : Nat) ≤ v)

/-- The first rule of R143 that applies. -/
def leaveDetect (n : Fin 32) (s : State) : State :=
  let t := s.taps[n]
  let v := kelvin t
  if t.reverse then suspend n 11 s
  else if shortedAt t v t.vPair then tapFault n .faultShort 0 s
  else if atOv t v then tapFault n .faultOv 0 s
  else if t.desc.isNone then suspend n 8 s
  else if s.sys.st ≠ .run then suspend n 10 s
  else if t.hostStop then suspend n 1 s
  else if (history s n).isNone then enterCharge n .cupping s
  else goByKelvin n s

/-- `DETECT_SETTLED` (R143). -/
def execDetectSettled (n : Fin 32) (v vPair : Int) (s : State) : Host.Outcome State Fault Refusal :=
  atVolt v (atVolt vPair (smDwell 2000 n fun s =>
    if s.taps[n].state = .detect then
      leaveDetect n (s.modTap n fun t => { t with vKel := v, vPair := vPair, reverse := decide (vPair < -1000) })
    else s)) s

/-- The current of cupping at a tap, 10 mA (R144). -/
def cupAmps (t : Tap) : Nat := (t.desc.map cupCurrent).getD 0

/-- `CUPPING_PULSE` (R144, R145): at an even boundary the pulse begins and R_ohm is measured, at an odd one the rest
begins and R_int is measured; a step with too small a current difference gives no value. Resistances are in 10 µΩ. -/
def execCuppingPulse (n : Fin 32) (dv di : Int) (s : State) : Host.Outcome State Fault Refusal :=
  smDwell 0 n (fun s =>
    let t := s.taps[n]
    if t.state ≠ .cupping ∨ 22 ≤ t.cupT then s else
    let pulse := decide (t.cupT % 2 = 0)
    let r : List Nat := if 0 < di ∧ (cupAmps t : Int) ≤ 2 * di then [(dv * 10000 / di).toNat] else []
    s.modTap n fun t =>
      { t with
        cupT := t.cupT + 1, cupOhm := if pulse then t.cupOhm ++ r else t.cupOhm
        cupInt := if pulse then t.cupInt else t.cupInt ++ r
        stake := { t.stake with iTarget := if pulse then cupAmps t else 0 } }) s

/-- A number in its place of a sorted list. -/
def insertSorted (a : Nat) : List Nat → List Nat
  | [] => [a]
  | b :: l => if a ≤ b then a :: b :: l else b :: insertSorted a l

/-- Median of a list, the mean of the middle two of an even number. -/
def median (l : List Nat) : Nat :=
  let l := l.foldr insertSorted []
  (l.getD ((l.length - 1) / 2) 0 + l.getD (l.length / 2) 0) / 2

/-- Cupping is judged (R145). -/
def judgeCupping (n : Fin 32) (ocv : Nat) (s : State) : State :=
  let t := s.taps[n]
  match t.desc with
  | none => s
  | some d =>
    if t.cupOhm.length < 6 ∨ t.cupInt.length < 6 then
      s.modTap n fun t => { t with cupT := 0, cupOhm := [], cupInt := [], stake := { t.stake with iTarget := 0 } }
    else
      let ro := median t.cupOhm
      let ri := median t.cupInt
      if d.rMaxV < ri ∨ ri < d.cells * 5 ∨ ro < d.cells * 5 then suspend n 7 s
      else
        let s := addHist { tap := n.val, serial := d.serial, cup := some (ri, ro, ocv), cupTime := s.stamp } s
        goByKelvin n (s.modTap n fun t => { t with cupDone := true })

/-- `CUPPING_END` (R145, R420): at 120 s, when every boundary of the pattern has passed. -/
def execCuppingEnd (n : Fin 32) (ocv : Nat) (s : State) : Host.Outcome State Fault Refusal :=
  atVolt ocv (smDwell 0 n fun s => if s.taps[n].state = .cupping ∧ 22 ≤ s.taps[n].cupT then judgeCupping n ocv s else s) s

/-! ### The charge -/

/-- `PRECHARGE_TO_CC` (R132): 50 mV a cell above the threshold for 10 s. -/
def execPrechargeToCc (n : Fin 32) (v : Int) (s : State) : Host.Outcome State Fault Refusal :=
  atVolt v (smDwell 10000 n fun s => match s.taps[n].desc with
    | none => s
    | some d =>
      if s.taps[n].state = .precharge ∧ ((d.cells * (d.preC + 50) : Nat) : Int) ≤ v then enterCharge n .cc (seeV n v s)
      else s) s

/-- The block-current target of the state governs (R132, R160), as it is or lowered by a temperature band; a recipe's request
below it moves no state (R378). -/
def targetGoverns (t : Tap) : Bool := decide (t.limit = 2 ∨ t.limit = 3)

/-- `CC_TO_CV` (R132, R147): the voltage loop has governed for 1 s. -/
def execCcToCv (n : Fin 32) (s : State) : Host.Outcome State Fault Refusal :=
  smDwell 1000 n (fun s => if s.taps[n].state = .cc ∧ s.taps[n].limit = 1 then enterCharge n .cv s else s) s

/-- `CV_TO_CC` (R132, R147): the block-current target has governed for 10 s. -/
def execCvToCc (n : Fin 32) (s : State) : Host.Outcome State Fault Refusal :=
  smDwell 10000 n (fun s => if s.taps[n].state = .cv ∧ targetGoverns s.taps[n] then enterCharge n .cc s else s) s

/-- `END_OF_CHARGE` (R146): in CV or TOPOFF, the block current below I_fast ÷ N for 60 s under the voltage loop. -/
def execEndOfCharge (n : Fin 32) (i : Int) (s : State) : Host.Outcome State Fault Refusal :=
  smDwell 60000 n (fun s => match s.taps[n].desc with
    | none => s
    | some d =>
      let st := s.taps[n].state
      if decide (st = .cv ∨ st = .topoff) && decide (s.taps[n].limit = 1) && decide (i * d.eocN.getD 10 < d.iFast) then
        enterCharge n .done ((learn n s).modTap n fun t => { t with eoc := true, keepQ := none })
      else s) s

/-- `TOP_OFF_DEPTH` (R132): not at a helper (R316), and only where something may convert (R135). -/
def execTopOffDepth (n : Fin 32) (s : State) : Host.Outcome State Fault Refusal :=
  smFw 0 n (fun s =>
    if s.taps[n].state = .done ∧ s.sys.st = .run ∧ !isHelper s.taps[n] ∧ topOffDue s n then enterCharge n .topoff s
    else s) s

/-- `RECHARGE_DEPTH` (R132, R150). -/
def execRechargeDepth (n : Fin 32) (s : State) : Host.Outcome State Fault Refusal :=
  smFw 0 n (fun s =>
    let st := s.taps[n].state
    if decide (st = .done ∨ st = .topoff) && decide (s.sys.st = .run) && !isHelper s.taps[n] && rechargeDue s n then
      goByKelvin n s
    else s) s

/-- `TOP_OFF_TIMER_EXPIRY` (R150): EOC is clear, and it is no fault. -/
def execTopOffTimerExpiry (n : Fin 32) (s : State) : Host.Outcome State Fault Refusal :=
  smDwell 0 n (fun s => if s.taps[n].state = .topoff then topOffEnd n s else s) s

/-! ### Keep -/

/-- The states from which KEEP is entered (R132). -/
def keepFrom (t : Tap) : Bool := match t.state with
  | .precharge | .cc | .cv | .done | .topoff => true
  | .suspended => decide (t.cause = 1 ∨ t.cause = 2 ∨ t.cause = 3 ∨ t.cause = 4 ∨ t.cause = 9)
  | _ => false

/-- `KEEP_CONDITION` (R151): below the keep voltage for 1 s while the block current is below −0.5 A. -/
def execKeepCondition (n : Fin 32) (seen : KeepSeen) (s : State) : Host.Outcome State Fault Refusal :=
  atVolt seen.v (smFw 1000 n fun s =>
    let t := s.taps[n]
    if keepFrom t && t.cfg.keepEn && decide (s.sys.st = .run) && decide (seen.v < keepVolt t ∧ seenBlk s n seen.ib < -50) then
      toKeep n (seeV n seen.v s)
    else s) s

/-- The state left allows a release by the dose (R151). -/
def releasedByDose (t : Tap) : Bool := match t.left with
  | .precharge | .cc | .cv | .done | .topoff | .detect => true
  | _ => false

/-- `KEEP_RELEASE` (R151): the string current at or below 0 A for 10 s, or a dose that has allowed a block current of
1.0 A for 1 s. -/
def execKeepRelease (n : Fin 32) (byString : Bool) (s : State) : Host.Outcome State Fault Refusal :=
  smFw (if byString then 10000 else 1000) n (fun s =>
    let t := s.taps[n]
    let due := if byString then decide (s.sys.iStr ≤ 0)
      else releasedByDose t && decide (100 ≤ blockDose s t)
    if t.state = .keep ∧ due then endKeep n s else s) s

/-! ### Suspensions -/

/-- Band of a temperature (R154, R160). -/
def bandOf (t : Tap) (x : Int) : Nat :=
  let g := tapTemps t
  if g.2.2.2.2 ≤ x then 5 else if x < g.1 then 0 else if x < g.2.1 then 1 else if x ≤ g.2.2.1 then 2
  else if x ≤ g.2.2.2.1 then 3 else 4

/-- The band after a temperature (R154): entered at once, left towards a less restrictive one 2.0 °C inside it. -/
def nextBand (t : Tap) (x : Int) : Nat :=
  let b := bandOf t x
  if t.band < 2 ∧ t.band < b ∧ b ≤ 2 then max t.band (bandOf t (x - 20))
  else if 2 < t.band ∧ t.band < 6 ∧ 2 ≤ b ∧ b < t.band then min t.band (bandOf t (x + 20))
  else b

/-- `TEMPERATURE_SUSPENSION` (R132, R154): below T1 or above T4. -/
def execTemperatureSuspension (n : Fin 32) (t : Int) (s : State) : Host.Outcome State Fault Refusal :=
  smHw 7 n (fun s =>
    let a := s.taps[n]
    let g := tapTemps a
    if !working a.state then s
    else if t < g.1 then suspend n 2 (s.modTap n fun a => { a with band := 0 })
    else if g.2.2.2.1 < t then suspend n 3 (s.modTap n fun a => { a with band := bandOf a t })
    else s) s

/-- A suspended tap returns to the state it left; cupping restarts from its beginning (R132). -/
def resumeLeft (n : Fin 32) (s : State) : State :=
  if s.taps[n].left = .cupping then enterCharge n .cupping s else returnTo n s.taps[n].left 0 s

/-- The condition of a suspension with cause cold, hot or sensor has cleared (R154, R155). -/
def cleared (a : Tap) (t : Int) : Bool :=
  let g := tapTemps a
  (decide (a.cause = 2) && decide (g.1 + 20 ≤ t)) || (decide (a.cause = 3) && decide (t ≤ g.2.2.2.1 - 20))
    || (decide (a.cause = 9) && plausible t)

/-- `SUSPENSION_RETURN` (R132, R135, R154, R155): for 10 s; outside RUN the cause becomes module state. -/
def execSuspensionReturn (n : Fin 32) (t : Int) (s : State) : Host.Outcome State Fault Refusal :=
  smFw 10000 n (fun s =>
    let a := s.taps[n]
    if a.state = .suspended ∧ cleared a t then
      let s := s.modTap n fun a => { a with band := nextBand a t }
      if s.sys.st = .run then resumeLeft n s else s.modTap n fun a => { a with cause := 10 }
    else s) s

/-- `TEMPERATURE_BAND_CHANGE` (R154): firmware applies the band, and a new effective target slews. -/
def execTemperatureBandChange (n : Fin 32) (t : Int) (s : State) : Host.Outcome State Fault Refusal :=
  smFw 0 n (fun s => bandTargets n (s.modTap n fun a => { a with band := nextBand a t })) s

/-- `SENSOR_SUSPEND` (R132, R155). -/
def execSensorSuspend (n : Fin 32) (s : State) : Host.Outcome State Fault Refusal :=
  smFw 0 n (sensorSuspend n) s

/-- `NO_DOSE` (R132, R152, R176): a dose that allows a block current of 0 A for 60 s. -/
def execNoDose (n : Fin 32) (s : State) : Host.Outcome State Fault Refusal :=
  smFw 60000 n (fun s => if working s.taps[n].state ∧ blockDose s s.taps[n] = 0 then suspend n 4 s else s) s

/-- `NO_DOSE_RETURN` (R132, R152, R176): an offer of 1.0 A for 1 s. -/
def execNoDoseReturn (n : Fin 32) (s : State) : Host.Outcome State Fault Refusal :=
  smFw 1000 n (fun s =>
    let t := s.taps[n]
    if t.state = .suspended ∧ t.cause = 4 ∧ 100 ≤ blockDose s t ∧ s.sys.st = .run then resumeLeft n s else s) s

/-! ### Faults -/

/-- A safety timer that counts reaches its size (R158). -/
def expireTimer (n : Fin 32) (precharge : Bool) (s : State) : State :=
  let t := s.taps[n]
  let spend (x : SafetyTimer) : SafetyTimer := { x with elapsed := x.size * 256, expired := true }
  if precharge ∧ t.state = .precharge ∧ t.pre.armed then
    tapFault n .faultTimer 1 (s.modTap n fun t => { t with timerExp := true, stretch := false, pre := spend t.pre })
  else if !precharge && decide (t.state = .cc ∨ t.state = .cv) && t.chg.armed then
    tapFault n .faultTimer 2 (s.modTap n fun t => { t with timerExp := true, stretch := false, chg := spend t.chg })
  else s

/-- `SAFETY_TIMER_EXPIRY` (R132, R158). -/
def execSafetyTimerExpiry (n : Fin 32) (precharge : Bool) (s : State) : Host.Outcome State Fault Refusal :=
  smHw 6 n (expireTimer n precharge) s

/-- `FAULT_THERM` (R132, R154). -/
def execFaultTherm (n : Fin 32) (t : Int) (s : State) : Host.Outcome State Fault Refusal :=
  smHw 2 n (fun s =>
    let a := s.taps[n]
    if TapState.holds a.state ∧ a.state ≠ .faultTherm ∧ (tapTemps a).2.2.2.2 ≤ t then
      tapFault n .faultTherm 0 (s.modTap n fun a => { a with band := 5 }) else s) s

/-- Output over-voltage level of a stake (R62): 98.0 V or the descriptor's. -/
def ovLevel (t : Tap) : Int := match t.desc with
  | none => Config.stakeOv
  | some d => min Config.stakeOv (d.cells * d.ovC : Nat)

/-- A tap that holds a block enters FAULT-OV (R132). -/
def enterOv (n : Fin 32) (s : State) : State :=
  if TapState.holds s.taps[n].state ∧ s.taps[n].state ≠ .faultOv then tapFault n .faultOv 0 s else s

/-- `FAULT_OV` (R132): Kelvin at cells × OV, or 98.0 V. -/
def execFaultOv (n : Fin 32) (v : Int) (s : State) : Host.Outcome State Fault Refusal :=
  atVolt v (smHw 3 n fun s => if ovLevel s.taps[n] ≤ v then enterOv n (seeV n v s) else s) s

/-- `STAKE_OUTPUT_OVER_VOLTAGE` (R18, R62, R65, R84): at the output node or power pair of a stake; every rod of the stake or
pair off and the tap switches open, with SLOT_BYP first in STAND-IN; braking ends. The level and the tap state machine of a
pair are those of tap 2k. -/
def execStakeOutputOverVoltage (n : Fin 32) (v : Int) (s : State) : Host.Outcome State Fault Refusal :=
  let h := headTap s n
  atVolt v (fun s =>
    if !s.powered || decide (v < ovLevel s.taps[h]) then .next s else
    .next (waking h (fun s =>
      let s := stopStake h (s.modTap n fun t => { t with vPair := v, stake := { t.stake with vNode := v } })
      let s := if s.taps[h].state = .standIn ∧ s.taps[h].stake.slotFb then endHandOff h s else s
      rankTap 3 3 h (enterOv h) s) s)) s

/-- `SHORT` (R132, R141): with a valid NTC the tap enters FAULT-SHORT; without one a converting stake at its limit outside soft
start enters the hiccup. -/
def execShort (n : Fin 32) (v : Int) (fallback : Bool) (s : State) : Host.Outcome State Fault Refusal :=
  atVolt v (smHw 4 n fun s =>
    let t := s.taps[n]
    if !TapState.holds t.state || t.state.isFault then s
    else if fallback then
      (if !validNtc t && t.stake.conv && t.stake.sw && !t.stake.softStart
          && decide (v * 4000 < t.stake.vref ∧ (iLim s n : Int) ≤ t.stake.ist) then
        failAttempt n false ((seeV n v s).modTap n fun t => { t with fallback := true }) else s)
    else
      let hit := if t.stake.conv then decide (v + cells t * 300 ≤ kelvin t ∧ 0 ≤ iBlk s n)
        else decide (v < cells t * 500 ∧ t.vPair < cells t * 500)
      if validNtc t && hit then tapFault n .faultShort 0 (seeV n v s) else s) s

/-! ### Sensing -/

/-- The Kelvin pair is implausible (R142): more than 0.5 V from the power pair with the stake stopped, more than 1.0 V plus 20 mΩ
times the stake current with the switch closed. -/
def kelvinOff (t : Tap) (v vPair : Int) : Bool :=
  let d := (v - vPair).natAbs
  if t.stake.sw then decide (5000 + t.iStk.natAbs < 5 * d) else !t.stake.conv && decide (500 < d)

/-- `KELVIN_BAD` (R142): after 100 ms the power pair is used in place of the Kelvin voltage; cleared after 10 s of
agreement. -/
def execKelvinBad (n : Fin 32) (seen : KelvinSeen) (s : State) : Host.Outcome State Fault Refusal :=
  atVolt seen.v (atVolt seen.vPair (tapHw n fun s =>
    if kelvinOff s.taps[n] seen.v seen.vPair ≠ seen.bad then s else
    let was := s.taps[n].kelvinBad
    let s := s.modTap n fun t => { t with kelvinBad := seen.bad, vKel := seen.v, vPair := seen.vPair }
    if seen.bad && !was then alert 3 3 3 n.val 0 s else s)) s

/-- `NTC_SPLIT` (R137): two plausible fitted NTCs differ by more than 15.0 °C for 10 s. -/
def execNtcSplit (n : Fin 32) (a b : Int) (s : State) : Host.Outcome State Fault Refusal :=
  tapFw n (fun s =>
    let t := s.taps[n]
    if dwelt s n 10000 ∧ (t.desc.getD .reset).ntcs = 2 ∧ plausible a ∧ plausible b ∧ (150 < a - b ∨ 150 < b - a) then
      alert 3 3 2 n.val 0 (s.modTap n fun t => { t with ntcA := a, ntcB := b, ntcSplit := true }) else s) s

/-- `REVERSE` (R61): below −1.0 V the tap switch is held open (`turnBack`). -/
def execReverse (n : Fin 32) (vPair : Int) (s : State) : Host.Outcome State Fault Refusal :=
  let h := headTap s n
  atVolt vPair (fun s =>
    if !s.powered || decide (-1000 ≤ vPair) then .next s else
    .next (waking n (fun s => turnBack h (s.modTap n fun t => { t with vPair := vPair, reverse := true })) s)) s

/-- The stake current a tap needs to hold its target, 10 mA (R17). -/
def needAmps (s : State) (t : Tap) : Int := min (loopAmps t.stake.uV) (blkTarget t) + s.sys.iStr

/-- `CHARGE_FROM_SYSTEM` (R17, R153): with a negative string current a tap whose switch is closed and that would need a stake current below 0 A is named
with the excess, and one too far above its target, whatever its switch, shows OVERCHARGE. -/
def execChargeFromSystem (n : Fin 32) (v : Int) (s : State) : Host.Outcome State Fault Refusal :=
  atVolt v (tapHw n fun s =>
    let t := s.taps[n]
    if !charged t || decide (0 ≤ s.sys.iStr) then s else
    let s := (seeV n v s).modTap n fun t => { t with overcharge := overcharged s.sys.iStr t v }
    if t.stake.sw ∧ needAmps s t < 0 then alert 1 3 1 n.val (-needAmps s t) s else s) s

end Sys2Proof.Machine
end

