-- ==== Sys2Proof/Machine/Shunt.lean ====
section
/-! DEFINITION. The shunt bitstream, the string contactor's feedback and the string voltage (R410, R411, R422). -/

namespace Sys2Proof.Machine

/-- `SHUNT_BITSTREAM_INVALID` (R410): the last valid string current is held. -/
def execShuntBitstreamInvalid (s : State) : Host.Outcome State Fault Refusal :=
  .next (if s.powered && s.sys.shValid then
    alert 0 0xA 4 0xFF 0 (s.modSys fun y => { y with shValid := false, shLost := true, shRange := false, shLostAt := some y.uptime }) else s)

/-- `SHUNT_BITSTREAM_VALID` (R409, R410): the measured value is used again; an interval held for up to 10 ms is
recorded with its length. -/
def execShuntBitstreamValid (i : Int) (s : State) : Host.Outcome State Fault Refusal :=
  if !s.powered || s.sys.shValid then .next s else
  let s := match s.sys.shLostAt with
    | some t0 => if s.sys.uptime - t0 ≤ 10 then event .shuntHeld [((s.sys.uptime - t0 : Nat) : Int)] s else s
    | none => s
  .next (s.modSys fun y =>
    { y with shValid := true, shOkAt := y.uptime, iStr := i, shRange := decide (i < -32000 ∨ 32000 < i) })

/-- `SH_FAULT` (R26, R410): 10 ms without a break; a latched hardware fault, and no held interval is left to record. -/
def execShFault (s : State) : Host.Outcome State Fault Refusal :=
  .next (if s.powered && !s.sys.shValid then
    withFlt (fun s => hardwareFault (s.modSys fun y => { y with shFault := true, shLostAt := none })) s else s)

/-- `FB_MISMATCH` (R411): STR_FB as it has stood for 200 ms, since when it has differed from STR_EN or matched it. -/
def execFbMismatch (fb : Bool) (s : State) : Host.Outcome State Fault Refusal :=
  .next (if s.powered then s.modSys fun y => { y with strFb := fb, fbMs := if fb = y.strEn then 0 else 200 } else s)

/-- `STRING_OVER_1500V` (R420, R422): for 1 s, and every hour while it lasts. -/
def execStringOver1500v (v : Int) (s : State) : Host.Outcome State Fault Refusal :=
  if !stringRated v then .fault .beyondAbsoluteMaximum
  else if !s.powered then .next s
  else if v ≤ Config.stringMax then .next s
  else .next (alertRec (event .stringOver [v, v / 65536]) 0 0xA 5 0xFF 0 (s.modSys fun y => { y with vStr := v }))

end Sys2Proof.Machine
end

