-- ==== Sys2Proof/Machine/Dispatch.lean ====
section
/-! DEFINITION. The meaning of every command: one arm per constructor of `Instr`. -/

namespace Sys2Proof.Machine

/-- The effect of one command on everything but the queue. -/
def exec (i : Instr) (s : State) : Host.Outcome State Fault Refusal :=
  match i with
  | .sysGetInfo via args => Sys2Proof.Machine.execSysGetInfo via args s
  | .sysRun via args => Sys2Proof.Machine.execSysRun via args s
  | .sysStandby via args => Sys2Proof.Machine.execSysStandby via args s
  | .standbyRampEnd => Sys2Proof.Machine.execStandbyRampEnd s
  | .sysSafe via args => Sys2Proof.Machine.execSysSafe via args s
  | .sysLeaveSafe via args => Sys2Proof.Machine.execSysLeaveSafe via args s
  | .sysEnterRecovery via args => Sys2Proof.Machine.execSysEnterRecovery via args s
  | .sysReset via args => Sys2Proof.Machine.execSysReset via args s
  | .deferredStateChange => Sys2Proof.Machine.execDeferredStateChange s
  | .sysRestartControl via args => Sys2Proof.Machine.execSysRestartControl via args s
  | .holdEntry => Sys2Proof.Machine.execHoldEntry s
  | .sysEnterShip via args => Sys2Proof.Machine.execSysEnterShip via args s
  | .shipEntry => Sys2Proof.Machine.execShipEntry s
  | .sysSetStr via args => Sys2Proof.Machine.execSysSetStr via args s
  | .sysSetSync via args => Sys2Proof.Machine.execSysSetSync via args s
  | .sysSetTime via args => Sys2Proof.Machine.execSysSetTime via args s
  | .sysSetProfileBegin via args => Sys2Proof.Machine.execSysSetProfileBegin via args s
  | .sysSetProfileAdd via args => Sys2Proof.Machine.execSysSetProfileAdd via args s
  | .sysSetProfileStore via args => Sys2Proof.Machine.execSysSetProfileStore via args s
  | .sysSetProfileClear via args => Sys2Proof.Machine.execSysSetProfileClear via args s
  | .sysSetVsel via args => Sys2Proof.Machine.execSysSetVsel via args s
  | .sysSaveConfig via args => Sys2Proof.Machine.execSysSaveConfig via args s
  | .srcEnable via args => Sys2Proof.Machine.execSrcEnable via args s
  | .srcDisable via args => Sys2Proof.Machine.execSrcDisable via args s
  | .srcSetWindow via args => Sys2Proof.Machine.execSrcSetWindow via args s
  | .srcSetLimit via args => Sys2Proof.Machine.execSrcSetLimit via args s
  | .srcSetOv via args => Sys2Proof.Machine.execSrcSetOv via args s
  | .srcSetMode via args => Sys2Proof.Machine.execSrcSetMode via args s
  | .srcClearLock via args => Sys2Proof.Machine.execSrcClearLock via args s
  | .srcCalInput via args => Sys2Proof.Machine.execSrcCalInput via args s
  | .tapSetDescriptor via args => Sys2Proof.Machine.execTapSetDescriptor via args s
  | .tapGetDescriptor via args => Sys2Proof.Machine.execTapGetDescriptor via args s
  | .tapSetSupport via args => Sys2Proof.Machine.execTapSetSupport via args s
  | .tapSetLimits via args => Sys2Proof.Machine.execTapSetLimits via args s
  | .tapStop via args => Sys2Proof.Machine.execTapStop via args s
  | .tapResume via args => Sys2Proof.Machine.execTapResume via args s
  | .tapRearmTimer via args => Sys2Proof.Machine.execTapRearmTimer via args s
  | .tapClearFault via args => Sys2Proof.Machine.execTapClearFault via args s
  | .tapForget via args => Sys2Proof.Machine.execTapForget via args s
  | .tapGetHistory via args => Sys2Proof.Machine.execTapGetHistory via args s
  | .tapSetRamp via args => Sys2Proof.Machine.execTapSetRamp via args s
  | .tapSetKeep via args => Sys2Proof.Machine.execTapSetKeep via args s
  | .tapSetStandin via args => Sys2Proof.Machine.execTapSetStandin via args s
  | .tapStandIn via args => Sys2Proof.Machine.execTapStandIn via args s
  | .tapSetTrack via args => Sys2Proof.Machine.execTapSetTrack via args s
  | .tapSetCoeff via args => Sys2Proof.Machine.execTapSetCoeff via args s
  | .tapLoadDefaultCoeff via args => Sys2Proof.Machine.execTapLoadDefaultCoeff via args s
  | .tapSetSchedule via args => Sys2Proof.Machine.execTapSetSchedule via args s
  | .tapSetShed via args => Sys2Proof.Machine.execTapSetShed via args s
  | .tapSetGangForm via args => Sys2Proof.Machine.execTapSetGangForm via args s
  | .tapSetGangDissolve via args => Sys2Proof.Machine.execTapSetGangDissolve via args s
  | .tapGetRods via args => Sys2Proof.Machine.execTapGetRods via args s
  | .tapSetPlant via args => Sys2Proof.Machine.execTapSetPlant via args s
  | .arbSetMin via args => Sys2Proof.Machine.execArbSetMin via args s
  | .arbSetLossCap via args => Sys2Proof.Machine.execArbSetLossCap via args s
  | .arbGetDoses via args => Sys2Proof.Machine.execArbGetDoses via args s
  | .mtrRead via args => Sys2Proof.Machine.execMtrRead via args s
  | .mtrGetPubkey via args => Sys2Proof.Machine.execMtrGetPubkey via args s
  | .mtrGetStatement via args => Sys2Proof.Machine.execMtrGetStatement via args s
  | .mtrReadStatement via args => Sys2Proof.Machine.execMtrReadStatement via args s
  | .pourOpen via args => Sys2Proof.Machine.execPourOpen via args s
  | .pourAdd via args => Sys2Proof.Machine.execPourAdd via args s
  | .pourPrepare via args => Sys2Proof.Machine.execPourPrepare via args s
  | .pourPrepared => Sys2Proof.Machine.execPourPrepared s
  | .pourAbort via args => Sys2Proof.Machine.execPourAbort via args s
  | .lnkSetPresent via args => Sys2Proof.Machine.execLnkSetPresent via args s
  | .lnkSend via args => Sys2Proof.Machine.execLnkSend via args s
  | .lnkRecv via args => Sys2Proof.Machine.execLnkRecv via args s
  | .lnkSetContractApply via args => Sys2Proof.Machine.execLnkSetContractApply via args s
  | .lnkSetContractVoid via args => Sys2Proof.Machine.execLnkSetContractVoid via args s
  | .lnkSetTieClose via args => Sys2Proof.Machine.execLnkSetTieClose via args s
  | .lnkSetTieOpen via args => Sys2Proof.Machine.execLnkSetTieOpen via args s
  | .lnkSwapRole via args => Sys2Proof.Machine.execLnkSwapRole via args s
  | .lnkGetStatus via args => Sys2Proof.Machine.execLnkGetStatus via args s
  | .wdgSetLadder via args => Sys2Proof.Machine.execWdgSetLadder via args s
  | .wdgDisable via args => Sys2Proof.Machine.execWdgDisable via args s
  | .wdgEnable via args => Sys2Proof.Machine.execWdgEnable via args s
  | .wdgSetLock via args => Sys2Proof.Machine.execWdgSetLock via args s
  | .wdgGetEvidence via args => Sys2Proof.Machine.execWdgGetEvidence via args s
  | .bbxGetInfo via args => Sys2Proof.Machine.execBbxGetInfo via args s
  | .bbxSeek via args => Sys2Proof.Machine.execBbxSeek via args s
  | .bbxRead via args => Sys2Proof.Machine.execBbxRead via args s
  | .rcpRegisterKey via args => Sys2Proof.Machine.execRcpRegisterKey via args s
  | .rcpLoad via args => Sys2Proof.Machine.execRcpLoad via args s
  | .rcpVerify via args => Sys2Proof.Machine.execRcpVerify via args s
  | .rcpStart via args => Sys2Proof.Machine.execRcpStart via args s
  | .rcpStop via args => Sys2Proof.Machine.execRcpStop via args s
  | .rcpGetStatus via args => Sys2Proof.Machine.execRcpGetStatus via args s
  | .perfSetCtl via args => Sys2Proof.Machine.execPerfSetCtl via args s
  | .perfSelect via args => Sys2Proof.Machine.execPerfSelect via args s
  | .perfRead via args => Sys2Proof.Machine.execPerfRead via args s
  | .fwGetInfo via args => Sys2Proof.Machine.execFwGetInfo via args s
  | .fwStageBegin via args => Sys2Proof.Machine.execFwStageBegin via args s
  | .fwEraseComplete => Sys2Proof.Machine.execFwEraseComplete s
  | .fwStageWrite via args => Sys2Proof.Machine.execFwStageWrite via args s
  | .fwStageVerify via args => Sys2Proof.Machine.execFwStageVerify via args s
  | .fwVerifyComplete => Sys2Proof.Machine.execFwVerifyComplete s
  | .fwActivate via args => Sys2Proof.Machine.execFwActivate via args s
  | .serviceFuseRod via args => Sys2Proof.Machine.execServiceFuseRod via args s
  | .commandTake n => Sys2Proof.Machine.execCommandTake n s
  | .resultPost n => Sys2Proof.Machine.execResultPost n s
  | .internalMailboxMessage dst m => Sys2Proof.Machine.execInternalMailboxMessage dst m s
  | .doorbell n op args => Sys2Proof.Machine.execDoorbell n op args s
  | .mbxRelease n => Sys2Proof.Machine.execMbxRelease n s
  | .earlyRead n k => Sys2Proof.Machine.execEarlyRead n k s
  | .snapshotRead bus addr => Sys2Proof.Machine.execSnapshotRead bus addr s
  | .pourCtlRelease id => Sys2Proof.Machine.execPourCtlRelease id s
  | .pourCtlAbort id => Sys2Proof.Machine.execPourCtlAbort id s
  | .alrAck seq => Sys2Proof.Machine.execAlrAck seq s
  | .alrAckClass mask => Sys2Proof.Machine.execAlrAckClass mask s
  | .alarmArm k => Sys2Proof.Machine.execAlarmArm k s
  | .alarmDisarm k => Sys2Proof.Machine.execAlarmDisarm k s
  | .alarmExpiry k => Sys2Proof.Machine.execAlarmExpiry k s
  | .bbxWinPaneWrite p => Sys2Proof.Machine.execBbxWinPaneWrite p s
  | .paneLoaded => Sys2Proof.Machine.execPaneLoaded s
  | .shFaultClear => Sys2Proof.Machine.execShFaultClear s
  | .hubOv3Clear => Sys2Proof.Machine.execHubOv3Clear s
  | .sysShareWrite n w => Sys2Proof.Machine.execSysShareWrite n w s
  | .registerWrite addr w => Sys2Proof.Machine.execRegisterWrite addr w s
  | .spiWriteFrame header words check whole => Sys2Proof.Machine.execSpiWriteFrame header words check whole s
  | .spiReadFrame header count => Sys2Proof.Machine.execSpiReadFrame header count s
  | .writeTransfer pointer words pec ending => Sys2Proof.Machine.execWriteTransfer pointer words pec ending s
  | .readTransfer pointer count => Sys2Proof.Machine.execReadTransfer pointer count s
  | .busError => Sys2Proof.Machine.execBusError s
  | .smbusTimeout => Sys2Proof.Machine.execSmbusTimeout s
  | .alertResponseRead others won => Sys2Proof.Machine.execAlertResponseRead others won s
  | .alertRepull => Sys2Proof.Machine.execAlertRepull s
  | .busRecovery freed => Sys2Proof.Machine.execBusRecovery freed s
  | .controllerTransfer answer => Sys2Proof.Machine.execControllerTransfer answer s
  | .addrProbe acked => Sys2Proof.Machine.execAddrProbe acked s
  | .hkPathQualify p strap tickLow => Sys2Proof.Machine.execHkPathQualify p strap tickLow s
  | .hkPathLost p => Sys2Proof.Machine.execHkPathLost p s
  | .housekeepingLoss => Sys2Proof.Machine.execHousekeepingLoss s
  | .holdUpEnd => Sys2Proof.Machine.execHoldUpEnd s
  | .bootComplete selfTestOk bank0Ok bank1Ok => Sys2Proof.Machine.execBootComplete selfTestOk bank0Ok bank1Ok s
  | .recoveryKeyWaitEnd => Sys2Proof.Machine.execRecoveryKeyWaitEnd s
  | .keyShortPress => Sys2Proof.Machine.execKeyShortPress s
  | .longPress => Sys2Proof.Machine.execLongPress s
  | .longPressReset strap => Sys2Proof.Machine.execLongPressReset strap s
  | .shipKeyWake => Sys2Proof.Machine.execShipKeyWake s
  | .shipKeyWakeTimeout => Sys2Proof.Machine.execShipKeyWakeTimeout s
  | .estop => Sys2Proof.Machine.execEstop s
  | .faultEdge own => Sys2Proof.Machine.execFaultEdge own s
  | .controlPlaneReady => Sys2Proof.Machine.execControlPlaneReady s
  | .holdLimit => Sys2Proof.Machine.execHoldLimit s
  | .holdRampComplete => Sys2Proof.Machine.execHoldRampComplete s
  | .coreRestartDone c => Sys2Proof.Machine.execCoreRestartDone c s
  | .trialEnd => Sys2Proof.Machine.execTrialEnd s
  | .wdgService core token pcs => Sys2Proof.Machine.execWdgService core token pcs s
  | .wdgCheckin core bits => Sys2Proof.Machine.execWdgCheckin core bits s
  | .wdgLate pcs => Sys2Proof.Machine.execWdgLate pcs s
  | .bbxRecordWrite badA badB => Sys2Proof.Machine.execBbxRecordWrite badA badB s
  | .withholdWindowClose key => Sys2Proof.Machine.execWithholdWindowClose key s
  | .bbxScrub => Sys2Proof.Machine.execBbxScrub s
  | .leaseSnapshot => Sys2Proof.Machine.execLeaseSnapshot s
  | .arbPeriod m => Sys2Proof.Machine.execArbPeriod m s
  | .cutEpisodeEnd n contract => Sys2Proof.Machine.execCutEpisodeEnd n contract s
  | .doseApply => Sys2Proof.Machine.execDoseApply s
  | .recipeTick => Sys2Proof.Machine.execRecipeTick s
  | .tickOverrun => Sys2Proof.Machine.execTickOverrun s
  | .initTimeout => Sys2Proof.Machine.execInitTimeout s
  | .yield out rest => Sys2Proof.Machine.execYield out rest s
  | .note a => Sys2Proof.Machine.execNote a s
  | .stop => Sys2Proof.Machine.execStop s
  | .recipeFault code pc => Sys2Proof.Machine.execRecipeFault code pc s
  | .perfDump core counts spent tags => Sys2Proof.Machine.execPerfDump core counts spent tags s
  | .clusterPowerDown m => Sys2Proof.Machine.execClusterPowerDown m s
  | .clusterWake m => Sys2Proof.Machine.execClusterWake m s
  | .clusterWakeDone m => Sys2Proof.Machine.execClusterWakeDone m s
  | .hubOv => Sys2Proof.Machine.execHubOv s
  | .hubDroop v => Sys2Proof.Machine.execHubDroop v s
  | .hubUndervoltage v => Sys2Proof.Machine.execHubUndervoltage v s
  | .portInWindow x v => Sys2Proof.Machine.execPortInWindow x v s
  | .portOutOfWindow x v => Sys2Proof.Machine.execPortOutOfWindow x v s
  | .qualifyEnd x => Sys2Proof.Machine.execQualifyEnd x s
  | .prechargeComplete x vStage => Sys2Proof.Machine.execPrechargeComplete x vStage s
  | .prechargeTrip x => Sys2Proof.Machine.execPrechargeTrip x s
  | .softstartEnd x => Sys2Proof.Machine.execSoftstartEnd x s
  | .portLoss x v => Sys2Proof.Machine.execPortLoss x v s
  | .handOverEnd => Sys2Proof.Machine.execHandOverEnd s
  | .sourceOv x v => Sys2Proof.Machine.execSourceOv x v s
  | .sourceOc x amps => Sys2Proof.Machine.execSourceOc x amps s
  | .reverseCurrent x amps => Sys2Proof.Machine.execReverseCurrent x amps s
  | .backoffEnd x => Sys2Proof.Machine.execBackoffEnd x s
  | .rodCurrentTrip n p fuseOk => Sys2Proof.Machine.execRodCurrentTrip n p fuseOk s
  | .transformerPrimaryOvercurrent n p fuseOk => Sys2Proof.Machine.execTransformerPrimaryOvercurrent n p fuseOk s
  | .stakeOutputOverVoltage n v => Sys2Proof.Machine.execStakeOutputOverVoltage n v s
  | .rodOverTemperature n p t => Sys2Proof.Machine.execRodOverTemperature n p t s
  | .rodRestEnd n p => Sys2Proof.Machine.execRodRestEnd n p s
  | .suspect n p fuseOk => Sys2Proof.Machine.execSuspect n p fuseOk s
  | .addRod n => Sys2Proof.Machine.execAddRod n s
  | .shedRod n => Sys2Proof.Machine.execShedRod n s
  | .wearSwap n => Sys2Proof.Machine.execWearSwap n s
  | .runningTimeSave => Sys2Proof.Machine.execRunningTimeSave s
  | .balancingStep n iAvg temps => Sys2Proof.Machine.execBalancingStep n iAvg temps s
  | .brake n seen => Sys2Proof.Machine.execBrake n seen s
  | .syncInValid sig => Sys2Proof.Machine.execSyncInValid sig s
  | .syncLock => Sys2Proof.Machine.execSyncLock s
  | .syncInLoss => Sys2Proof.Machine.execSyncInLoss s
  | .stakeStart n => Sys2Proof.Machine.execStakeStart n s
  | .preStartResult n m fuseOk => Sys2Proof.Machine.execPreStartResult n m fuseOk s
  | .preBiasComplete n vNode => Sys2Proof.Machine.execPreBiasComplete n vNode s
  | .prebiasFail n => Sys2Proof.Machine.execPrebiasFail n s
  | .softStartComplete n => Sys2Proof.Machine.execSoftStartComplete n s
  | .shortCheckFail n v => Sys2Proof.Machine.execShortCheckFail n v s
  | .hiccupEnd n => Sys2Proof.Machine.execHiccupEnd n s
  | .keepLow n v => Sys2Proof.Machine.execKeepLow n v s
  | .standInExcess n amps => Sys2Proof.Machine.execStandInExcess n amps s
  | .standInImmediateBypass n v => Sys2Proof.Machine.execStandInImmediateBypass n v s
  | .slotFbPresent n => Sys2Proof.Machine.execSlotFbPresent n s
  | .bypassRampEnd n => Sys2Proof.Machine.execBypassRampEnd n s
  | .bypFail n => Sys2Proof.Machine.execBypFail n s
  | .bypassFaultOpen n => Sys2Proof.Machine.execBypassFaultOpen n s
  | .slotFbClear n => Sys2Proof.Machine.execSlotFbClear n s
  | .slotFbClearTimeout n => Sys2Proof.Machine.execSlotFbClearTimeout n s
  | .autoReturn n => Sys2Proof.Machine.execAutoReturn n s
  | .trackFault => Sys2Proof.Machine.execTrackFault s
  | .trackResume v => Sys2Proof.Machine.execTrackResume v s
  | .vselCount v => Sys2Proof.Machine.execVselCount v s
  | .profileApply => Sys2Proof.Machine.execProfileApply s
  | .profileRetry => Sys2Proof.Machine.execProfileRetry s
  | .tickFall => Sys2Proof.Machine.execTickFall s
  | .commitEdge edge => Sys2Proof.Machine.execCommitEdge edge s
  | .pourTimeout => Sys2Proof.Machine.execPourTimeout s
  | .vetoEnd => Sys2Proof.Machine.execVetoEnd s
  | .holdPullEnd => Sys2Proof.Machine.execHoldPullEnd s
  | .presence n v => Sys2Proof.Machine.execPresence n v s
  | .removal n seen => Sys2Proof.Machine.execRemoval n seen s
  | .blockInserted seen => Sys2Proof.Machine.execBlockInserted seen s
  | .detectSettled n v vPair => Sys2Proof.Machine.execDetectSettled n v vPair s
  | .cuppingEnd n ocv => Sys2Proof.Machine.execCuppingEnd n ocv s
  | .prechargeToCc n v => Sys2Proof.Machine.execPrechargeToCc n v s
  | .ccToCv n => Sys2Proof.Machine.execCcToCv n s
  | .cvToCc n => Sys2Proof.Machine.execCvToCc n s
  | .endOfCharge n amps => Sys2Proof.Machine.execEndOfCharge n amps s
  | .topOffDepth n => Sys2Proof.Machine.execTopOffDepth n s
  | .rechargeDepth n => Sys2Proof.Machine.execRechargeDepth n s
  | .topOffTimerExpiry n => Sys2Proof.Machine.execTopOffTimerExpiry n s
  | .keepCondition n seen => Sys2Proof.Machine.execKeepCondition n seen s
  | .keepRelease n byString => Sys2Proof.Machine.execKeepRelease n byString s
  | .temperatureSuspension n t => Sys2Proof.Machine.execTemperatureSuspension n t s
  | .suspensionReturn n t => Sys2Proof.Machine.execSuspensionReturn n t s
  | .temperatureBandChange n t => Sys2Proof.Machine.execTemperatureBandChange n t s
  | .sensorSuspend n => Sys2Proof.Machine.execSensorSuspend n s
  | .noDose n => Sys2Proof.Machine.execNoDose n s
  | .noDoseReturn n => Sys2Proof.Machine.execNoDoseReturn n s
  | .safetyTimerExpiry n precharge => Sys2Proof.Machine.execSafetyTimerExpiry n precharge s
  | .faultTherm n t => Sys2Proof.Machine.execFaultTherm n t s
  | .faultOv n v => Sys2Proof.Machine.execFaultOv n v s
  | .short n v fallback => Sys2Proof.Machine.execShort n v fallback s
  | .kelvinBad n seen => Sys2Proof.Machine.execKelvinBad n seen s
  | .ntcSplit n a b => Sys2Proof.Machine.execNtcSplit n a b s
  | .reverse n vPair => Sys2Proof.Machine.execReverse n vPair s
  | .chargeFromSystem n v => Sys2Proof.Machine.execChargeFromSystem n v s
  | .shuntBitstreamInvalid => Sys2Proof.Machine.execShuntBitstreamInvalid s
  | .shuntBitstreamValid amps => Sys2Proof.Machine.execShuntBitstreamValid amps s
  | .shFault => Sys2Proof.Machine.execShFault s
  | .fbMismatch fb => Sys2Proof.Machine.execFbMismatch fb s
  | .stringOver1500v v => Sys2Proof.Machine.execStringOver1500v v s
  | .pilotInBand x v => Sys2Proof.Machine.execPilotInBand x v s
  | .debounceOut x v => Sys2Proof.Machine.execDebounceOut x v s
  | .attach x => Sys2Proof.Machine.execAttach x s
  | .dualRolePhase x => Sys2Proof.Machine.execDualRolePhase x s
  | .pilotLoss x v => Sys2Proof.Machine.execPilotLoss x v s
  | .blankEnd x => Sys2Proof.Machine.execBlankEnd x s
  | .messageTransmit x collided => Sys2Proof.Machine.execMessageTransmit x collided s
  | .collisionBackoffEnd x => Sys2Proof.Machine.execCollisionBackoffEnd x s
  | .acknowledgementWaitEnd x => Sys2Proof.Machine.execAcknowledgementWaitEnd x s
  | .acknowledgement x ctr => Sys2Proof.Machine.execAcknowledgement x ctr s
  | .messageReceived x f codesOk => Sys2Proof.Machine.execMessageReceived x f codesOk s
  | .accept x => Sys2Proof.Machine.execAccept x s
  | .reject x => Sys2Proof.Machine.execReject x s
  | .wait x => Sys2Proof.Machine.execWait x s
  | .ready x => Sys2Proof.Machine.execReady x s
  | .keepAliveRequest x => Sys2Proof.Machine.execKeepAliveRequest x s
  | .keepAliveResponse x => Sys2Proof.Machine.execKeepAliveResponse x s
  | .roleSwapRequest x => Sys2Proof.Machine.execRoleSwapRequest x s
  | .void x => Sys2Proof.Machine.execVoid x s
  | .softReset x => Sys2Proof.Machine.execSoftReset x s
  | .offer x objs => Sys2Proof.Machine.execOffer x objs s
  | .vendorDefined x object0 => Sys2Proof.Machine.execVendorDefined x object0 s
  | .keepAlive x => Sys2Proof.Machine.execKeepAlive x s
  | .keepAliveTimeout x => Sys2Proof.Machine.execKeepAliveTimeout x s
  | .windowConfirm x v => Sys2Proof.Machine.execWindowConfirm x v s
  | .transitionTimeout x => Sys2Proof.Machine.execTransitionTimeout x s
  | .readyTimeout x => Sys2Proof.Machine.execReadyTimeout x s
  | .negotiationTimeout x => Sys2Proof.Machine.execNegotiationTimeout x s
  | .tieTrip amps => Sys2Proof.Machine.execTieTrip amps s
  | .responderRepeat x => Sys2Proof.Machine.execResponderRepeat x s
  | .swapAnswerTimeout x => Sys2Proof.Machine.execSwapAnswerTimeout x s
  | .swapRetry x => Sys2Proof.Machine.execSwapRetry x s
  | .swapPresentation x => Sys2Proof.Machine.execSwapPresentation x s
  | .swapPilotLow x v => Sys2Proof.Machine.execSwapPilotLow x v s
  | .swapAttach x v => Sys2Proof.Machine.execSwapAttach x v s
  | .swapWindowEnd x => Sys2Proof.Machine.execSwapWindowEnd x s
  | .beatSend => Sys2Proof.Machine.execBeatSend s
  | .beat addr seq => Sys2Proof.Machine.execBeat addr seq s
  | .beatTimeout lowerAcked => Sys2Proof.Machine.execBeatTimeout lowerAcked s
  | .capDivision peers => Sys2Proof.Machine.execCapDivision peers s
  | .fallback => Sys2Proof.Machine.execFallback s
  | .rd addr count => Sys2Proof.Machine.execRd addr count s
  | .bb => Sys2Proof.Machine.execBb s
  | .bbRecord seq count => Sys2Proof.Machine.execBbRecord seq count s
  | .bbNew keyPressed => Sys2Proof.Machine.execBbNew keyPressed s
  | .st => Sys2Proof.Machine.execSt s
  | .auth answer => Sys2Proof.Machine.execAuth answer s
  | .authBlockEnd => Sys2Proof.Machine.execAuthBlockEnd s
  | .bye => Sys2Proof.Machine.execBye s
  | .serviceInactivity => Sys2Proof.Machine.execServiceInactivity s
  | .lineBreak => Sys2Proof.Machine.execLineBreak s
  | .pr core count => Sys2Proof.Machine.execPr core count s
  | .testLatchOn => Sys2Proof.Machine.execTestLatchOn s
  | .testLatchOff => Sys2Proof.Machine.execTestLatchOff s
  | .cmd op args => Sys2Proof.Machine.execCmd op args s
  | .hubRecovery v => Sys2Proof.Machine.execHubRecovery v s
  | .estopRelease => Sys2Proof.Machine.execEstopRelease s
  | .rodCooled n p t => Sys2Proof.Machine.execRodCooled n p t s
  | .syncGlideEnd => Sys2Proof.Machine.execSyncGlideEnd s
  | .slewComplete n => Sys2Proof.Machine.execSlewComplete n s
  | .cuppingPulse n dv di => Sys2Proof.Machine.execCuppingPulse n dv di s
  | .wdgSettingWrite core pair mask => Sys2Proof.Machine.execWdgSettingWrite core pair mask s

end Sys2Proof.Machine
end

