-- ==== Sys2Proof/Machine/Tick.lean ====
section
/-! DEFINITION. What passes in one millisecond of the block's own time: clocks, ramps, timers, meters (log entry 5).
What a table row reports as an event is left to that row, but for the ends of the timers the state holds in full. -/

namespace Sys2Proof.Machine

/-- A value moves towards another by at most a step. -/
def toward (step v goal : Nat) : Nat := if v ≤ goal then min goal (v + step) else max goal (v - step)

/-- The frequency the carrier glides to (R91, R93): SYNC_IN's while it is followed, else the module's own. -/
def glideGoal (y : Sys) : Nat := if y.syncSrc = 1 ∨ y.syncSrc = 2 then y.inFsw else y.ownFsw

/-- Clocks, ramps, KEY# and the contactor's feedback as they stand, and the carrier (R31, R91, R93, R339, R362, R411): a glide of 2.5 kHz per ms; once there, a frequency offset of at
most 0.5 % takes away any phase error within the millisecond. -/
def tickSys (y : Sys) : Sys :=
  { y with
    uptime := y.uptime + 1, time := if y.timeValid then y.time + 1 else y.time
    rampMs := if y.rampStandby || y.rampHold || y.hkLost then min 20 (y.rampMs + 1) else y.rampMs
    fsw := toward 250 y.fsw (glideGoal y)
    phErr := if y.syncSrc = 1 ∧ y.fsw = y.inFsw then 0 else y.phErr
    keyHigh := if y.keyLow then y.keyHigh else min 100 (y.keyHigh + 1)
    keyStale := y.keyStale && (y.keyLow || decide (y.keyHigh < 99))
    fbMs := if y.strFb = y.strEn then 0 else min 200 (y.fbMs + 1) }

/-- An allowance moves to its new value over 5 ms (R38, R47); after `SRC_DISABLE` the port is done once it is zero. -/
def moveAllow (p : Port) : Port :=
  let m := min 5 (p.allowMs + 1)
  let w := ((p.allowFrom : Int) + ((p.allowTo : Int) - p.allowFrom) * m / 5).toNat
  { p with allowMs := m, allow := if p.allowMs < 5 then w else p.allow, stopping := p.stopping && decide (m < 5) }

/-- One millisecond of a port (R44, R47). -/
def tickPort (p : Port) : Port :=
  let p := moveAllow p
  if p.state = .softstart then { p with softMs := min 50 (p.softMs + 1) } else p

/-- A link with a contract in force (R297, R309). -/
def tickLink (l : LinkPort) : LinkPort :=
  if l.inForce then
    { l with age := min 0xFFFFFFFF (l.age + 1), kaVoid := if l.state = .contract then l.kaVoid + 1 else l.kaVoid }
  else l

/-- Rate of a safety timer in 1/256 (R157). -/
def timerRate (limit : Nat) (iBlk : Int) (prog : Nat) : Nat :=
  if limit = 1 ∨ limit = 2 then 256 else (clamp 64 256 (iBlk * 256 / prog)).toNat

/-- A counting timer advances (R157). -/
def SafetyTimer.advance (rate : Nat) (x : SafetyTimer) : SafetyTimer :=
  if x.armed && !x.expired then { x with elapsed := min (x.size * 256) (x.elapsed + rate) } else x

/-- The timers of a tap (R157): each counts in its own states. -/
def tickTimers (s : State) (n : Fin 32) (t : Tap) : Tap := match t.desc with
  | none => t
  | some d =>
    match t.state with
    | .precharge =>
      let r := timerRate t.limit (iBlk s n) (preCurOf s n d)
      { t with pre := t.pre.advance r, stretch := decide (r < 256) }
    | .cc | .cv =>
      let r := timerRate t.limit (iBlk s n) d.iFast
      { t with chg := t.chg.advance r, stretch := decide (r < 256) }
    | .topoff => { t with top := t.top.advance 256, stretch := false }
    | _ => { t with stretch := false }

/-- `v_ref` moves towards its target (R97 to R103); a soft start pauses while its limit is held at 0 A. -/
def tickRef (s : State) (t : Tap) : Tap :=
  let k := t.stake
  let goal := k.vTarget * 1000
  if !k.conv || !k.sw || k.fromBypass then t else
  if k.softStart then
    let v := if refPaused s t then k.vref else toward (t.cfg.softRate * 1000) k.vref goal
    let at' := decide (v = goal)
    { t with stake := { k with
        vref := v, softStart := !at', attempts := if at' then 0 else k.attempts, caps := if at' then [] else k.caps
        refReached := k.refReached || (at' && decide (t.state = .standIn)) } }
  else
    let v := toward (t.cfg.slewRate * 1000) k.vref goal
    { t with stake := { k with
        vref := v, slewing := decide (v ≠ goal), refReached := k.refReached || (decide (v = goal) && decide (t.state = .standIn)) } }

/-- Charge out since DONE and in since KEEP (R128, R149), in 10 µAs. -/
def tickCharge (s : State) (n : Fin 32) (t : Tap) : Tap :=
  if t.state.holds then { t with outQ := t.outQ - iBlk s n, keepQ := t.keepQ.map (· + iBlk s n) } else t

/-- The stake of a tap: the bypass ramp (R112), a rod's move to its phase (R73), the end of a braking pulse (R84), how long it
has been stopped with no short (R132) and, once a second, the running time of switching rods (R79). -/
def tickStake (second clear : Bool) (k : Stake) : Stake :=
  { k with
    bypMs := if k.bypRamp then min 20 (k.bypMs + 1) else k.bypMs
    phaseStep := 16, buckOff := false, clearMs := if clear then k.clearMs + 1 else 0
    rods := if second then k.rods.map fun r => if r.active then { r with runTime := r.runTime + 1 } else r else k.rods }

/-- One millisecond of a tap; a pair has one state machine and one reference, in tap 2k (R65, R136). -/
def tickTap (s : State) (n : Fin 32) (t : Tap) : Tap :=
  let t := { t with stake := tickStake (decide ((s.sys.uptime + 1) % 1000 = 0)) (!t.stake.conv && unshorted t) t.stake }
  if gangedOdd s n then t else tickRef s (tickCharge s n (tickTimers s n t))

/-- What is due of a wear swap (R79): its shed half, 100 µs after the other, and a swap that had to wait. -/
def tickWear (n : Fin 32) (s : State) : State :=
  let s := if s.taps[n].stake.swapOut.isSome then endSwap n s else s
  if s.taps[n].stake.wearDue && converting s n && !rodsBusy s n then swapRods n s else s

/-- Clock of a core's island, cycles per ms (01_module_in_its_string.md): SUP and the clusters 400 MHz, LINK 100 MHz, ARB
200 MHz. -/
def coreClock (c : Fin 8) : Nat := if c = 2 then 100000 else if c = 3 then 200000 else 400000

/-- The cycle counter of a powered core, and its counters of cycles (R384, R388). -/
def tickPerf (s : State) : State :=
  { s with perf := vec fun c =>
      let p := s.perf[c]
      if coreUp s c then
        { p with
          cycle := p.cycle + BitVec.ofNat 64 (coreClock c)
          ctr := vec fun k => if p.en && decide (p.sel[k] = 0x01) then p.ctr[k] + BitVec.ofNat 64 (coreClock c) else p.ctr[k] }
      else p }

/-- The cores that run read the messages in their mailboxes within the millisecond (R249; DESIGN CHOICE, log entry 30). -/
def tickBoxes (s : State) : State :=
  { s with boxes := vec fun c => if coreUp s c && s.sys.cores.getLsbD c.val then { s.boxes[c] with msgs := [] } else s.boxes[c] }

/-- A keep-alive has been missing for 12 s (R297). -/
def tickKeepAlive (x : Fin 4) (s : State) : State :=
  if s.links[x].state = .contract ∧ 12000 ≤ s.links[x].kaVoid then keepAliveOut x s else s

/-- The watchdog's count in ticks of 1/1024 s (R323). -/
def tickWdg (w : Wdg) : Wdg := { w with count := sat 0xFFFF (w.count + (w.frac + 1024) / 1000), frac := (w.frac + 1024) % 1000 }

/-- A safety timer that has reached its size expires (R158). -/
def tickExpire (n : Fin 32) (s : State) : State :=
  let t := s.taps[n]
  if gangedOdd s n || leaving t then s
  else if t.state = .precharge ∧ t.pre.armed ∧ t.pre.size * 256 ≤ t.pre.elapsed then expireTimer n true s
  else if decide (t.state = .cc ∨ t.state = .cv) && t.chg.armed && decide (t.chg.size * 256 ≤ t.chg.elapsed) then
    expireTimer n false s
  else s

/-- An alarm timer counts, and expires at zero (R192). -/
def tickAlarm (k : Fin 4) (s : State) : State :=
  let a := s.mtr.alarms[k]
  if !a.running then s
  else if a.remain ≤ 1 then alarmExpire k s
  else { s with mtr := { s.mtr with alarms := s.mtr.alarms.set k { a with remain := a.remain - 1 } } }

/-- The ramp of housekeeping loss is over after 20 ms: every tap switch opens (R352). -/
def tickLoss (s : State) : State :=
  if s.sys.hkLost && decide (s.sys.rampMs = 20) then s.mapTaps fun _ t => { t with stake := t.stake.halt } else s

/-- One millisecond, which begins new periods of the events (R27, R133). A rise of TICK has stood for its 500 ns (R205). The HOST
island mirrors the AON registers at the watchdog tick that falls into it (R349). -/
def tick (s : State) : State :=
  if !s.powered then s else
  let s := newPeriod (if s.pour.rise then edgeEnd (lowFits s.pour) s else s)
  let s := foldFin 32 tickWear (meter (tickPerf (tickBoxes s)))
  let s := s.mapTaps (tickTap s)
  let s := ((s.mapPorts fun _ p => tickPort p).modSys tickSys).modPour fun p =>
    if p.tick then p else { p with low10us := sat 0xFFFF (p.low10us + 100) }
  let s := { s with
    hub := if s.hub.handover then { s.hub with ramp0 := min 20 (s.hub.ramp0 + 1) } else s.hub
    links := s.links.map tickLink
    wdg := if wdgRuns s then tickWdg s.wdg else s.wdg
    bp := if s.bp.leader then { s.bp with leadMs := s.bp.leadMs + 1 } else s.bp }
  mirrorAon (tickLoss (foldFin 4 tickKeepAlive (foldFin 4 tickAlarm (foldFin 32 tickExpire s))))

end Sys2Proof.Machine
end

