-- ==== Sys2Proof/Certificates/Slice0/Obligations.lean ====
section
/-! DEFINITION. The statements about the block, from the rules of the spec, for the provers. -/

open Sys2Proof Sys2Proof.Machine

namespace Sys2Proof.Claims

/-- A host command of this opcode passes C0's checks at taking, is not QUEUED behind another, and the core that owns it runs
(R245, R254, R449). -/
def Accepts (op : Nat) (via : Via) (args : List Word) (s : State) : Prop :=
  s.powered = true ∧ s.sys.st ≠ .hold ∧ c0Up s = true ∧ waits via s = false ∧ gate op s = none ∧ ownerUp op args s = true

/-- An accepted command that addresses a tap, whose cluster island is powered and which is not the odd tap of a ganged
pair (R3, R250, R264). -/
def AcceptsTap (op : Nat) (via : Via) (args : List Word) (s : State) (n : Fin 32) : Prop :=
  Accepts op via args s ∧ arg args 0 = n.val ∧ clUp s n = true ∧ gangedOdd s n = false

/-- The answer a sender has received. -/
def answerOf (via : Via) (s : State) : Option Answer := match via with
  | .host n => s.mbx[n].answer
  | .monitor => s.monAnswer
  | .own => s.ownAnswer

/-- A command that stores to flash ends with its effect, or with NV_FAIL and nothing changed (R254 step 5); which of
the two is a free value. -/
def stored (via : Via) (res : List Word) (s u : State) : State :=
  if Config.flashFails s.free then answer via 0x60 [] { s with free := s.free + 1 }
  else answer via 0 res { u with free := u.free + 1 }

/-- Every tap but `n` is as before. -/
def TapsBut (n : Fin 32) (s t : State) : Prop := ∀ m : Fin 32, m ≠ n → t.taps[m] = s.taps[m]

/-- Every tap that does not act together with tap `n` is as before (R65). -/
def TapsButMates (n : Fin 32) (s t : State) : Prop := ∀ m : Fin 32, m ∉ mates s n → t.taps[m] = s.taps[m]

/-- Every port but `x` is as before. -/
def PortsBut (x : Fin 4) (s t : State) : Prop := ∀ y : Fin 4, y ≠ x → t.ports[y] = s.ports[y]

/-- Every link but `x` is as before. -/
def LinksBut (x : Fin 4) (s t : State) : Prop := ∀ y : Fin 4, y ≠ x → t.links[y] = s.links[y]

/-- The settings of tap `n`, and nothing else of the taps, change. -/
def OnlyCfg (n : Fin 32) (s t : State) (c : TapCfg) : Prop :=
  t.taps[n] = { s.taps[n] with cfg := c } ∧ TapsBut n s t

end Sys2Proof.Claims

open Sys2Proof.Claims

/-! ### What several statements speak of -/

/-- The entries of profile `k` as pour 0x0000 stages them (R120); a profile that was never stored has none (R118). -/
def Sys2Proof.Claims.profileEntries (k : Fin 8) (s : State) : List PourEntry :=
  if (s.vsel.profiles[k]).valid then (s.vsel.profiles[k]).entries.map fun e => { e with outcome := 1 } else []

/-- The state in which profile `k` is validated: a pour in progress has ended, and pour 0x0000 holds its entries (R120). -/
def Sys2Proof.Claims.staging (k : Fin 8) (s : State) : State :=
  let u := pourAbort s
  { u with pour := { u.pour with
             state := .validating, id := 0, fail := 255, profile := true, entries := profileEntries k s }
           vsel := { u.vsel with staged := some k.val } }

/-- Profile `k` is staged from `s` to `t` (R120, R209): where every entry validates, pour 0x0000 holds them all, valid and
in order; where one does not, the pour ends with it, and the application fails with its alert. No setting changes. -/
def Sys2Proof.Claims.Staged (k : Fin 8) (s t : State) : Prop :=
  t.taps = s.taps ∧ t.ports = s.ports ∧ t.sys = s.sys ∧ t.pour.id = 0 ∧ t.vsel.profiles = s.vsel.profiles ∧
  (validate 0 (profileEntries k s) (staging k s) = none →
    t.pour.state = .validating ∧ t.pour.profile = true ∧ t.vsel.staged = some k.val ∧ t.vsel.applying = s.vsel.applying ∧
    t.pour.entries = (profileEntries k s).map (fun e => { e with outcome := 2 }) ∧
    (s.pour.state ≠ .idle → t.pour.result = 0x50) ∧ t.vsel.fail = s.vsel.fail ∧ t.alr = s.alr) ∧
  (∀ f : Nat × Nat, validate 0 (profileEntries k s) (staging k s) = some f →
    t.pour.state = .idle ∧ t.pour.result = 0x50 ∧ t.pour.resultValid = true ∧ t.pour.fail = f.1 ∧ t.vsel.fail = true ∧
    t.vsel.applying = none ∧ t.vsel.staged = none ∧ t.vsel.tries = 0 ∧
    ((t.pour.entries[f.1]?).map fun e => e.outcome) = some 5 ∧ t.alr.nextSeq = s.alr.nextSeq + 1 ∧
    (s.alr.queue.length < 64 → ∃ a ∈ t.alr.queue, a.cls = 3 ∧ a.kind = 9 ∧ a.reason = 7))

/-- Nothing but the link of port `x` changes. -/
def Sys2Proof.Claims.OnlyLink (x : Fin 4) (s t : State) : Prop := LinksBut x s t ∧ t = { s with links := t.links }

/-- The contract of port `x` is void with this cause, and no other link changes (R298). -/
def Sys2Proof.Claims.Voided (x : Fin 4) (cause : Nat) (s t : State) : Prop :=
  t.links[x].inForce = false ∧ t.links[x].cwMin = 0 ∧ t.links[x].cwMax = 0 ∧ t.links[x].ciLim = 0 ∧
  t.links[x].voidCause = cause ∧ t.links[x].evVoid = true ∧ t.ports[x].narrow = false ∧ LinksBut x s t ∧
  t.ctrs = s.ctrs ∧ t.sys = s.sys ∧
  (s.links[x].role = true → x.val = 3 → t.tie.en = false)

/-- Message `m` of port `x` is abandoned on its third collision (R287): its `LNK_SEND` ends with outcome 3, COLLISION is
set with its alert, and the counter advances. -/
def Sys2Proof.Claims.Abandoned (x : Fin 4) (m : TxMsg) (s t : State) : Prop :=
  t.links[x].flight = none ∧ t.links[x].resend = false ∧ t.links[x].collisions = 0 ∧ t.links[x].retries = 0 ∧
  t.links[x].txCtr = s.links[x].txCtr + 1 ∧ t.links[x].evCollision = true ∧
  t.alr.nextSeq = s.alr.nextSeq + (if planeDown s then 0 else 1) ∧
  (m.type ≠ 0x07 → ∀ via : Via, m.via = some via → answerOf via t = some ⟨0, [3, word s.links[x].txCtr.toNat]⟩) ∧
  (m.type = 0x07 → t.links[x].swapOwn = false ∧
    ∀ via : Via, s.links[x].swapVia = some via → answerOf via t = some ⟨0, [3]⟩) ∧
  LinksBut x s t ∧ t.taps = s.taps ∧ t.ports = s.ports ∧ t.sys = s.sys

/-- A region of a recipe slot: code, data or signature (R372). -/
def Sys2Proof.Claims.region (p : Slot) : Nat → Memory
  | 0 => p.code
  | 1 => p.data
  | _ => p.sig

/-- The canonical form of a bus's snapshot latches above a lower bound: addresses rising, no entry 0. -/
def Sys2Proof.Claims.latchWf : Nat → Latches → Bool
  | _, [] => true
  | lo, (a, w) :: l => decide (lo ≤ a) && decide (w ≠ 0) && latchWf (a + 1) l

/-- What a write access does to the state (R212, R213): each word is written at its address in order, and what acts once
every word is applied follows; with FIX each word has its own effects in turn. -/
def Sys2Proof.Claims.written (fix : Bool) (a : Nat) (ws : List Word) (s : State) : State :=
  let q := addressed fix a ws
  if fix then (q.foldl (fun (acc : Bool × State) p => (false, accessEnd acc.1 [p] (regWrite p.1 p.2 acc.2))) (true, s)).2
  else accessEnd true q (q.foldl (fun s p => regWrite p.1 p.2 s) s)

/-- Every stake stands still with its switch open, and every port is DISABLED. -/
def Sys2Proof.Claims.AllStopped (t : State) : Prop :=
  (∀ n : Fin 32, t.taps[n].stake.conv = false ∧ t.taps[n].stake.sw = false) ∧
  ∀ x : Fin 4, t.ports[x].state = .disabled

/-- A line that is more than a CR alone and, where it is given, spells these two numbers (R392, R395). -/
def Sys2Proof.Claims.Says (line : List Byte) (a k : Nat) : Prop :=
  idleCr line = false ∧ numAt line 1 a = some a ∧ numAt line 2 k = some k

/-- The row of a command that `CMD` may pass, as the monitor sends it (R397); none for every other opcode. -/
def Sys2Proof.Claims.passed (op : Nat) (a : List Word) : Option Instr := match op with
  | 0x0101 => some (.sysGetInfo .monitor a)
  | 0x0105 => some (.sysLeaveSafe .monitor a)
  | 0x0106 => some (.sysEnterRecovery .monitor a)
  | 0x0107 => some (.sysReset .monitor a)
  | 0x030A => some (.tapGetHistory .monitor a)
  | 0x0315 => some (.tapGetRods .monitor a)
  | 0x0707 => some (.lnkGetStatus .monitor a)
  | 0x0805 => some (.wdgGetEvidence .monitor a)
  | 0x0B01 => some (.fwGetInfo .monitor a)
  | 0x0B02 => some (.fwStageBegin .monitor a)
  | 0x0B03 => some (.fwStageWrite .monitor a)
  | 0x0B04 => some (.fwStageVerify .monitor a)
  | 0x0B05 => some (.fwActivate .monitor a)
  | _ => none

/-- Port `x` has tripped with this cause: BACKOFF, no allowance, the trip counted, an alert queued (R36, R42). -/
def Sys2Proof.Claims.Tripped (x : Fin 4) (cause : Nat) (s t : State) : Prop :=
  t.ports[x].state = .backoff ∧ t.ports[x].lastTrip = cause ∧ t.ports[x].allow = 0 ∧ t.ports[x].tripped = true ∧
  t.ports[x].trips = recent s.sys.uptime 60000 s.ports[x].trips ++ [s.sys.uptime] ∧
  t.ports[x].tripTotal = min 0xFFFF (s.ports[x].tripTotal + 1) ∧ t.ports[x].enabled = s.ports[x].enabled ∧
  PortsBut x s t ∧ (planeDown s = false → t.alr.nextSeq = s.alr.nextSeq + 1) ∧ t.sys = s.sys ∧ t.ctrs = s.ctrs ∧
  t.links = s.links

/-- What an event of a stake or tap may change: the taps that act together, a wake of their island, records, alerts and
the fault summary. -/
def Sys2Proof.Claims.TapFrame (n : Fin 32) (s t : State) : Prop :=
  TapsButMates n s t ∧ t.sys = { s.sys with clWaking := t.sys.clWaking } ∧
  t = { s with taps := t.taps, sys := t.sys, bbx := t.bbx, alr := t.alr, bus := t.bus
               shown := { s.shown with flt := t.shown.flt } }

/-- Only the stakes that act together with tap `n` change. -/
def Sys2Proof.Claims.StakesOnly (n : Fin 32) (s t : State) : Prop :=
  TapsButMates n s t ∧ t = { s with taps := t.taps } ∧
  ∀ m : Fin 32, t.taps[m] = { s.taps[m] with stake := t.taps[m].stake }

/-- An event of tap `n` takes effect: the module is powered and the tap is not the odd one of a pair (R65, R136). -/
def Sys2Proof.Claims.Acts (n : Fin 32) (s : State) : Prop := s.powered = true ∧ gangedOdd s n = false

/-- Every stake that acts together with tap `n` is stopped with its switch open. -/
def Sys2Proof.Claims.Stopped (n : Fin 32) (s t : State) : Prop :=
  ∀ m ∈ mates s n, t.taps[m].stake.conv = false ∧ t.taps[m].stake.sw = false

/-- The pre-start test of stake `n` is the last its start waits for and passes: no rod fails a check, and no power
pair has turned (R61, R82, R83). -/
def Sys2Proof.Claims.TestPasses (n : Fin 32) (v0 : Int) (l : List PreRod) (s : State) : Prop :=
  tapRated v0 = true ∧ s.taps[n].stake.start = .pretest ∧ s.taps[n].stake.testing = true ∧
  (∀ m ∈ mates s n, m ≠ n → s.taps[m].stake.testing = false) ∧ reversed s n = false ∧
  ∀ p : Fin 16, preFails v0 (l.getD p.val {}) = false

/-- A firmware transition of tap `n` takes effect (R132, R133, R134, R136, R159): its cluster engine has run for the
time the transition dwells, in ms, the tap is not the odd one of a pair, no hand-off of a removal runs at it (R139),
and it has acted on nothing in the present sample. -/
def Sys2Proof.Claims.FwActs (ms : Nat) (n : Fin 32) (s : State) : Prop :=
  fwUp s n = true ∧ dwelt s n ms = true ∧ gangedOdd s n = false ∧ leaving s.taps[n] = false ∧ s.taps[n].acted = 0

/-- A hardware transition of rank `r` of R133 takes effect at tap `n` (R132, R136, R139): nothing that ranks as high
or higher has acted in the present sample. -/
def Sys2Proof.Claims.HwActs (r : Nat) (n : Fin 32) (s : State) : Prop :=
  s.powered = true ∧ gangedOdd s n = false ∧ leaving s.taps[n] = false ∧
  (s.taps[n].acted = 0 ∨ r < s.taps[n].acted)

/-- Tap `n` is in this state. -/
def Sys2Proof.Claims.Goes (n : Fin 32) (st : TapState) (s t : State) : Prop := t.taps[n].state = st ∧ TapFrame n s t

/-- Tap `n` is suspended with this cause, its stake stopped, the state left remembered (R129, R131). -/
def Sys2Proof.Claims.Suspends (n : Fin 32) (cause : Nat) (s t : State) : Prop :=
  Goes n .suspended s t ∧ t.taps[n].cause = cause ∧ Stopped n s t ∧
  (s.taps[n].state ≠ .suspended → t.taps[n].left = s.taps[n].state)

/-- Tap `n` is in this FAULT state, its stake stopped, with a record and, but while the control plane restarts, a queued
alert (R129). -/
def Sys2Proof.Claims.Faults (n : Fin 32) (st : TapState) (s t : State) : Prop :=
  Goes n st s t ∧ Stopped n s t ∧ (t.bbx.queue.getLast?.map (·.type)) = some 0x08 ∧
  t.bbx.nextSeq = s.bbx.nextSeq + 1 ∧ (planeDown s = false → t.alr.nextSeq = s.alr.nextSeq + 1) ∧
  (s.taps[n].cfg.bypOnFault = true → t.taps[n].stake.slotByp = true)

/-- A removal is seen at tap `n`, which holds a block and acts on it (R133, R138, R139). -/
def Sys2Proof.Claims.Removes (n : Fin 32) (fb : Bool) (a b v ib : Int) (s : State) : Prop :=
  tapRated v = true ∧ HwActs 5 n s ∧ TapState.holds s.taps[n].state = true ∧
  removalSeen s.taps[n] fb a b v (seenBlk s n ib) = true

/-- Opcode and sender of a command that a host, the monitor or the module itself issues (R253, R259 to R276). -/
def Sys2Proof.Claims.hostOp : Instr → Option (Nat × Via)
  | .sysGetInfo via _ => some (0x0101, via)
  | .sysRun via _ => some (0x0102, via)
  | .sysStandby via _ => some (0x0103, via)
  | .sysSafe via _ => some (0x0104, via)
  | .sysLeaveSafe via _ => some (0x0105, via)
  | .sysEnterRecovery via _ => some (0x0106, via)
  | .sysReset via _ => some (0x0107, via)
  | .sysRestartControl via _ => some (0x0108, via)
  | .sysEnterShip via _ => some (0x0109, via)
  | .sysSetStr via _ => some (0x010A, via)
  | .sysSetSync via _ => some (0x010B, via)
  | .sysSetTime via _ => some (0x010C, via)
  | .sysSetProfileAdd via _ => some (0x010D, via)
  | .sysSetProfileBegin via _ => some (0x010D, via)
  | .sysSetProfileClear via _ => some (0x010D, via)
  | .sysSetProfileStore via _ => some (0x010D, via)
  | .sysSetVsel via _ => some (0x010E, via)
  | .sysSaveConfig via _ => some (0x010F, via)
  | .srcEnable via _ => some (0x0201, via)
  | .srcDisable via _ => some (0x0202, via)
  | .srcSetWindow via _ => some (0x0203, via)
  | .srcSetLimit via _ => some (0x0204, via)
  | .srcSetOv via _ => some (0x0205, via)
  | .srcSetMode via _ => some (0x0206, via)
  | .srcClearLock via _ => some (0x0207, via)
  | .srcCalInput via _ => some (0x0208, via)
  | .tapSetDescriptor via _ => some (0x0301, via)
  | .tapGetDescriptor via _ => some (0x0302, via)
  | .tapSetSupport via _ => some (0x0303, via)
  | .tapSetLimits via _ => some (0x0304, via)
  | .tapStop via _ => some (0x0305, via)
  | .tapResume via _ => some (0x0306, via)
  | .tapRearmTimer via _ => some (0x0307, via)
  | .tapClearFault via _ => some (0x0308, via)
  | .tapForget via _ => some (0x0309, via)
  | .tapGetHistory via _ => some (0x030A, via)
  | .tapSetRamp via _ => some (0x030B, via)
  | .tapSetKeep via _ => some (0x030C, via)
  | .tapSetStandin via _ => some (0x030D, via)
  | .tapStandIn via _ => some (0x030E, via)
  | .tapSetTrack via _ => some (0x030F, via)
  | .tapSetCoeff via _ => some (0x0310, via)
  | .tapLoadDefaultCoeff via _ => some (0x0311, via)
  | .tapSetSchedule via _ => some (0x0312, via)
  | .tapSetShed via _ => some (0x0313, via)
  | .tapSetGangDissolve via _ => some (0x0314, via)
  | .tapSetGangForm via _ => some (0x0314, via)
  | .tapGetRods via _ => some (0x0315, via)
  | .tapSetPlant via _ => some (0x0316, via)
  | .arbSetMin via _ => some (0x0401, via)
  | .arbSetLossCap via _ => some (0x0402, via)
  | .arbGetDoses via _ => some (0x0403, via)
  | .mtrRead via _ => some (0x0501, via)
  | .mtrGetPubkey via _ => some (0x0502, via)
  | .mtrGetStatement via _ => some (0x0503, via)
  | .mtrReadStatement via _ => some (0x0504, via)
  | .pourOpen via _ => some (0x0601, via)
  | .pourAdd via _ => some (0x0602, via)
  | .pourPrepare via _ => some (0x0603, via)
  | .pourAbort via _ => some (0x0604, via)
  | .lnkSetPresent via _ => some (0x0701, via)
  | .lnkSend via _ => some (0x0702, via)
  | .lnkRecv via _ => some (0x0703, via)
  | .lnkSetContractApply via _ => some (0x0704, via)
  | .lnkSetContractVoid via _ => some (0x0704, via)
  | .lnkSetTieClose via _ => some (0x0705, via)
  | .lnkSetTieOpen via _ => some (0x0705, via)
  | .lnkSwapRole via _ => some (0x0706, via)
  | .lnkGetStatus via _ => some (0x0707, via)
  | .wdgSetLadder via _ => some (0x0801, via)
  | .wdgDisable via _ => some (0x0802, via)
  | .wdgEnable via _ => some (0x0803, via)
  | .wdgSetLock via _ => some (0x0804, via)
  | .wdgGetEvidence via _ => some (0x0805, via)
  | .bbxGetInfo via _ => some (0x0806, via)
  | .bbxSeek via _ => some (0x0807, via)
  | .bbxRead via _ => some (0x0808, via)
  | .rcpRegisterKey via _ => some (0x0901, via)
  | .rcpLoad via _ => some (0x0902, via)
  | .rcpVerify via _ => some (0x0903, via)
  | .rcpStart via _ => some (0x0904, via)
  | .rcpStop via _ => some (0x0905, via)
  | .rcpGetStatus via _ => some (0x0906, via)
  | .perfSetCtl via _ => some (0x0A01, via)
  | .perfSelect via _ => some (0x0A02, via)
  | .perfRead via _ => some (0x0A03, via)
  | .fwGetInfo via _ => some (0x0B01, via)
  | .fwStageBegin via _ => some (0x0B02, via)
  | .fwStageWrite via _ => some (0x0B03, via)
  | .fwStageVerify via _ => some (0x0B04, via)
  | .fwActivate via _ => some (0x0B05, via)
  | .serviceFuseRod via _ => some (0x0C01, via)
  | _ => none

/-- The measured voltages a command carries lie within the absolute maximum ratings (R420). -/
def Sys2Proof.Claims.inRatings : Instr → Bool
  | .arbPeriod m => rated m
  | .portInWindow _ v | .portOutOfWindow _ v | .portLoss _ v | .sourceOv _ v | .windowConfirm _ v => portRated v
  | .pilotInBand _ v | .debounceOut _ v | .pilotLoss _ v | .swapPilotLow _ v | .swapAttach _ v => pilotRated v
  | .trackResume v => trackRated v
  | .brake _ x => tapRated x.v
  | .preStartResult _ x _ => tapRated x.v0
  | .removal _ x => tapRated x.v
  | .keepCondition _ x => tapRated x.v
  | .preBiasComplete _ v | .shortCheckFail _ v | .keepLow _ v
  | .standInImmediateBypass _ v | .presence _ v | .prechargeToCc _ v
  | .faultOv _ v | .stakeOutputOverVoltage _ v | .short _ v _ | .reverse _ v | .chargeFromSystem _ v => tapRated v
  | .detectSettled _ v w => tapRated v && tapRated w
  | .cuppingEnd _ v => tapRated v
  | .hkPathQualify p _ _ | .hkPathLost p => pathRated p
  | .kelvinBad _ x => tapRated x.v && tapRated x.vPair
  | .stringOver1500v v => decide (-50000 ≤ v ∧ v ≤ 1600000)
  | _ => true

/-- What every step keeps: the watchdog's challenge is not zero (R326), at most 64 alerts wait (R439), TICK is high
exactly while nobody pulls it and the 500 ns after a rise pass with it high (R201, R205), HOLD remembers STANDBY or
RUN (R26), and the recipe slots and the staged image keep their canonical form. -/
def Sys2Proof.Claims.Inv (s : State) : Prop :=
  s.wdg.challenge ≠ 0 ∧ s.alr.queue.length ≤ 64 ∧
  s.pour.tick = !(s.pour.pulling || s.pour.tickOther) ∧ (s.pour.rise = true → s.pour.tick = true) ∧
  (s.sys.before = .standby ∨ s.sys.before = .run) ∧
  Memory.wf s.fw.mem = true ∧ Memory.wf s.rcp.data = true ∧
  ∀ k : Fin 8, Memory.wf s.rcp.slots[k].code = true ∧ Memory.wf s.rcp.slots[k].data = true ∧
    Memory.wf s.rcp.slots[k].sig = true

/-- The moves of the module state that R26 lists, from a state to another. -/
def Sys2Proof.Claims.listed : ModState → List ModState
  | .off => [.boot, .ship]
  | .ship => [.boot]
  | .boot => [.standby, .recovery, .safe, .off]
  | .standby => [.run, .ship, .hold, .safe, .recovery, .boot, .off]
  | .run => [.standby, .hold, .safe, .boot, .off]
  | .hold => [.standby, .run, .safe, .boot, .off]
  | .safe => [.standby, .recovery, .boot, .off]
  | .recovery => [.boot, .off]

/-! ### Commands to the module -/

/-- `SYS_RUN`, `SYS_STANDBY`, `SYS_SAFE`, `SYS_LEAVE_SAFE`: the module state they lead to, with SLOT_BYP asserted for
every stand-in before the ramp of `SYS_STANDBY` (R18, R26, R28, R135, R259). The end of the ramp of `SYS_STANDBY` in
RUN opens every tap switch and leads to STANDBY with CAUSE 0x1 (R26). Rows for the end of a time assert that it has
passed (log entry 4). -/
def Obligations.StateCommandsMoveTheModule : Prop :=
  (∀ (via : Via) (args : List Word) (s : State),
    (Accepts 0x0102 via args s → ∃ t, exec (.sysRun via args) s = .next t ∧ t.sys.st = .run ∧ t.sys.cause = 1 ∧
      answerOf via t = some ⟨0, []⟩ ∧ t.wdg.enabled = true ∧ t.ports = s.ports ∧ t.ctrs = s.ctrs ∧
      ∀ n : Fin 32, t.taps[n].state =
        if s.taps[n].state = .suspended ∧ s.taps[n].cause = 10 ∧ fwUp s n = true then .detect else s.taps[n].state) ∧
    (Accepts 0x0103 via args s → ∃ t, exec (.sysStandby via args) s = .next t ∧
      t.sys = { s.sys with rampStandby := true, rampMs := s.sys.rampFrom } ∧
      (∀ n : Fin 32, t.taps[n] = if s.taps[n].state = .standIn then
        { s.taps[n] with stake := { s.taps[n].stake with slotByp := true } } else s.taps[n]) ∧
      answerOf via t = some ⟨1, []⟩ ∧ t = answer via 1 [] { s with sys := t.sys, taps := t.taps }) ∧
    (Accepts 0x0104 via args s → ∃ t, exec (.sysSafe via args) s = .next t ∧ t.sys.st = .safe ∧ t.sys.cause = 1 ∧
      answerOf via t = some ⟨0, []⟩ ∧ t.pour.state = .idle ∧ t.tie.en = false ∧ t.ctrs = s.ctrs ∧
      (∀ x : Fin 4, t.ports[x].state = .disabled ∧ t.ports[x].enabled = s.ports[x].enabled) ∧
      ∀ n : Fin 32, t.taps[n].stake.conv = false ∧ t.taps[n].stake.sw = false) ∧
    (Accepts 0x0105 via args s → s.sys.estop = false → latchedFault s = false →
      ∃ t, exec (.sysLeaveSafe via args) s = .next t ∧ t.sys.st = .standby ∧ t.sys.cause = 1 ∧
        answerOf via t = some ⟨0, []⟩ ∧ t.taps = s.taps ∧
        ∀ x : Fin 4, t.ports[x].state =
          if s.ports[x].enabled && decide (s.ports[x].state = .disabled) && !s.links[x].asSource then .idle
          else s.ports[x].state) ∧
    (Accepts 0x0105 via args s → (s.sys.estop = true ∨ latchedFault s = true) →
      exec (.sysLeaveSafe via args) s =
        .next (answer via 0x30 [word (bit s.sys.estop 0 + bit (latchedFault s) 1)] s))) ∧
  (∀ s : State, s.sys.st = .run → s.sys.rampStandby = true → s.sys.estop = false → s.sys.shFault = false →
    ∃ t, exec .standbyRampEnd s = .next t ∧ t.sys.st = .standby ∧ t.sys.cause = 1 ∧ t.sys.rampStandby = false ∧
      ∀ n : Fin 32, t.taps[n].stake.conv = false ∧ t.taps[n].stake.sw = false ∧
        t.taps[n].desc = s.taps[n].desc ∧ t.taps[n].cfg = s.taps[n].cfg)

/-- The commands whose change waits: each only notes its change beside those that wait already, and answers ACCEPTED
(R257, R359). The changes that wait come at their moment: RECOVERY, a module reset with the straps sampled, SHIP; one
that the present state no longer allows, or that a change of a higher rank has overtaken in the same period, is
dropped (R26, R27, R204, R224, R257, R357, R358, R359). What happens to a change that the present state no longer
allows is the model's choice (log entry 20). -/
def Obligations.ChangesWaitAndComeAtTheirMoment : Prop :=
  (∀ (via : Via) (args : List Word) (s : State),
    (Accepts 0x0106 via args s → exec (.sysEnterRecovery via args) s =
      .next (answer via 1 [] { s with sys := { s.sys with chg := s.sys.chg ++ [.recovery] } })) ∧
    (Accepts 0x0107 via args s → exec (.sysReset via args) s =
      .next (answer via 1 [] { s with sys := { s.sys with chg := s.sys.chg ++ [.reset] } })) ∧
    (Accepts 0x0108 via args s → exec (.sysRestartControl via args) s =
      .next (answer via 1 [] { s with sys := { s.sys with chg := s.sys.chg ++ [.holdCmd] } })) ∧
    (Accepts 0x0109 via args s → s.sys.auxV < 16000 → (∀ x : Fin 4, s.ports[x].vin < 60000) →
      ∃ t, exec (.sysEnterShip via args) s = .next t ∧ t.sys = { s.sys with shipLatch := true, chg := s.sys.chg ++ [.ship] } ∧
        answerOf via t = some ⟨1, []⟩ ∧ t.bbx.nextSeq = s.bbx.nextSeq + 1 ∧
        t = answer via 1 [] { s with sys := t.sys, bbx := t.bbx }) ∧
    (Accepts 0x0109 via args s → (16000 ≤ s.sys.auxV ∨ ∃ x : Fin 4, 60000 ≤ s.ports[x].vin) →
      ∃ w, exec (.sysEnterShip via args) s = .next (answer via 0x30 [w] s) ∧
        (w.getLsbD 0 = true ↔ 16000 ≤ s.sys.auxV) ∧
        ∀ x : Fin 4, w.getLsbD (x.val + 1) = true ↔ 60000 ≤ s.ports[x].vin)) ∧
  (∀ s : State, s.powered = true →
    (s.sys.chg = [.recovery] → s.sys.acted = 0 → (s.sys.st = .standby ∨ s.sys.st = .safe) →
      ∃ t, exec .deferredStateChange s = .next t ∧
      t.sys.st = .recovery ∧ t.sys.cause = 1 ∧ t.sys.cores = 1 ∧ t.sys.chg = [] ∧ t.pour.state = .idle ∧
      AllStopped t ∧
      t.rcp.running = none) ∧
    (s.sys.chg = [.reset] → s.sys.acted = 0 → (s.sys.st = .standby ∨ s.sys.st = .safe ∨ s.sys.st = .recovery) →
      ∃ t, exec .deferredStateChange s = .next t ∧ t.sys.st = .boot ∧ t.sys.cause = 1 ∧ t.sys.last = 2 ∧
        t.sys.addr = s.sys.strap ∧ (∀ k : Fin 4, t.mbx[k].state = .empty) ∧
        t.sys.strEn = s.sys.strEn ∧ t.tie.en = false ∧ t.wdg.locked = s.wdg.locked ∧ t.stored = s.stored ∧
        t.wdg.challenge ≠ 0 ∧ ∀ n : Fin 32, t.taps[n].desc = s.taps[n].desc ∧ t.taps[n].state = .absent) ∧
    (∀ d : Deferred, d = .recovery ∨ d = .reset ∨ d = .bootFw → s.sys.chg = [d] → (s.sys.st = .run ∨ s.sys.acted ≠ 0) →
      ∃ t, exec .deferredStateChange s = .next t ∧ t.sys = { s.sys with chg := [] } ∧
        t = { s with sys := t.sys, bbx := t.bbx }) ∧
    (.ship ∈ s.sys.chg → s.sys.st = .standby → ∃ t, exec .shipEntry s = .next t ∧ t.sys.st = .ship ∧
      t.sys.shipLatch = s.sys.shipLatch ∧ t.sys.hkSrc = 0 ∧ t.bbx.queue = [] ∧ t.stored = s.stored ∧
      t.pour.state = .idle) ∧
    (.ship ∈ s.sys.chg → s.sys.st = .run → ∃ t, exec .shipEntry s = .next t ∧ t.sys.st = .run ∧
      (∀ d : Deferred, d ∈ t.sys.chg ↔ d ∈ s.sys.chg ∧ d ≠ .ship) ∧
      t.sys.shipLatch = false ∧ t.taps = s.taps))

/-- The module's own settings: contactor, carrier, time, VSEL, stored configuration, and the reply of `SYS_GET_INFO`
(R94, R118, R186, R256, R259). Whether the contactor answers and whether a flash write fails are free values (log
entry 3). -/
def Obligations.ModuleSettingsTakeTheirWords : Prop :=
  ∀ (via : Via) (args : List Word) (s : State),
    (Accepts 0x0101 via args s → ∃ res, exec (.sysGetInfo via args) s = .next (answer via 0 res s) ∧
      natOf (res.take 4) = Config.serial.toNat ∧ res.length = 9 ∧ res.getD 7 0 = word s.fw.active ∧
      res.getD 8 0 = word s.sys.addr.toNat) ∧
    (Accepts 0x010A via args s → arg args 0 ≤ 1 → s.sys.longPress = false →
      ∃ t ok, exec (.sysSetStr via args) s = .next t ∧ t.sys.strEn = decide (arg args 0 = 1) ∧
        answerOf via t = some ⟨0, [word (bit ok 0)]⟩ ∧ fbMismatch t.sys = !ok ∧
        (t.sys.strFb = t.sys.strEn ↔ ok = true) ∧
        t = answer via 0 [word (bit ok 0)] { s with sys := t.sys, free := t.free }) ∧
    (Accepts 0x010B via args s → 450 ≤ arg args 0 → arg args 0 ≤ 550 → arg args 1 ≤ 1 →
      ∃ t, exec (.sysSetSync via args) s = .next t ∧ t.sys.ownFsw = arg args 0 * 100 ∧
        t.sys.syncDis = decide (arg args 1 = 1) ∧ t.sys.fsw = s.sys.fsw ∧
        (arg args 1 = 1 → t.sys.syncSrc = if s.sys.fsw = arg args 0 * 100 then 0 else 3) ∧
        t = answer via 0 [] { s with sys := { s.sys with
          ownFsw := t.sys.ownFsw, syncDis := t.sys.syncDis, syncSrc := t.sys.syncSrc } }) ∧
    (Accepts 0x010C via args s → ∃ t, exec (.sysSetTime via args) s = .next t ∧
      t.sys = { s.sys with time := arg4 args 0, timeValid := true } ∧
      (∀ k, t.mtr.snapAt = some k → arg4 args 0 < k ∧ k ≤ arg4 args 0 + 900000 ∧ k % 900000 = 0) ∧
      t.mtr.snapAt.isSome = true ∧
      t = answer via 0 [] { s with sys := t.sys, mtr := { s.mtr with snapAt := t.mtr.snapAt } }) ∧
    (Accepts 0x010E via args s → arg args 0 ≤ 1 → exec (.sysSetVsel via args) s =
      .next (stored via [] s { s with vsel := { s.vsel with enabled := decide (arg args 0 = 1) } })) ∧
    (Accepts 0x010F via args s → ∃ c : StoredCfg, exec (.sysSaveConfig via args) s =
        .next (stored via [] s { s with stored := c }) ∧
      c.mode = s.hub.mode ∧ c.siteCap = s.hub.siteCap ∧ c.lossCap = s.arb.lossCap ∧ c.ownFsw = s.sys.ownFsw ∧
      c.syncDis = s.sys.syncDis ∧ c.n = s.wdg.n ∧ (∀ n : Fin 32, c.taps[n] = s.taps[n].cfg) ∧
      ∀ x : Fin 4, c.ports[x].enabled = s.ports[x].enabled ∧ c.ports[x].vMin = s.ports[x].vMin ∧
        c.ports[x].vMax = s.ports[x].vMax ∧ c.ports[x].ovLevel = s.ports[x].ovLevel ∧
        c.ports[x].iLim = s.ports[x].iLim ∧ c.ports[x].rank = s.ports[x].rank ∧
        c.ports[x].weight = s.ports[x].weight ∧ c.ports[x].cap = s.ports[x].cap)

/-! ### Commands to the source ports -/

/-- The commands to one port: enable, disable, window, limit, OV level, lock. An allowance goes to zero over 5 ms
after a disable, and a limit raised while ONLINE waits for the next period (R35, R36, R38, R41, R43, R450). Values
outside the ranges of a port command return OUT_OF_RANGE or BAD_ARG and change nothing (R35, R43, R254). DISABLED at
once while the allowance drains, and SRC_ENABLE during the drain, are the model's (log entry 50), and so is that
SRC_CLEAR_LOCK keeps the trips (log entry 51). -/
def Obligations.PortCommandsChangeOnePortOrRefuse : Prop :=
  (∀ (via : Via) (args : List Word) (s : State) (x : Fin 4), arg args 0 = x.val →
    (Accepts 0x0201 via args s → ∃ t, exec (.srcEnable via args) s = .next t ∧ PortsBut x s t ∧
      t.ports[x] = { s.ports[x] with
        enabled := true
        state := if s.ports[x].state = .disabled ∧ s.links[x].asSource = false then .idle else s.ports[x].state } ∧
      t = answer via 0 [] { s with ports := t.ports }) ∧
    (Accepts 0x0202 via args s → ∃ t, exec (.srcDisable via args) s = .next t ∧ PortsBut x s t ∧
      t.ports[x].state = .disabled ∧ t.ports[x].enabled = false ∧
      (s.ports[x].state = .softstart ∨ s.ports[x].state = .online → t.ports[x].stopping = true ∧
        t.ports[x].allow = s.ports[x].allow ∧ t.ports[x].allowTo = 0 ∧ t.ports[x].allowMs = 0) ∧
      (s.ports[x].state ≠ .softstart → s.ports[x].state ≠ .online → s.ports[x].stopping = false →
        t.ports[x].allow = 0) ∧
      t.ports[x].vMin = s.ports[x].vMin ∧ t.ports[x].vMax = s.ports[x].vMax ∧
      t.ports[x].lastTrip = (match s.ports[x].state with
        | .precharge | .softstart | .online => 7
        | _ => s.ports[x].lastTrip) ∧
      t = answer via 0 [] { s with ports := t.ports, hub := t.hub, taps := t.taps }) ∧
    (Accepts 0x0203 via args s → 250000 ≤ arg2 args 1 → arg2 args 3 ≤ 1000000 → arg2 args 1 + 50000 ≤ arg2 args 3 →
      arg2 args 1 % 1000 = 0 → arg2 args 3 % 1000 = 0 → arg2 args 3 + 20000 ≤ s.ports[x].ovLevel →
      ∃ t, exec (.srcSetWindow via args) s = .next t ∧ PortsBut x s t ∧
        t.ports[x] = { s.ports[x] with vMin := arg2 args 1, vMax := arg2 args 3, narrow := t.ports[x].narrow } ∧
        t = answer via 0 [] { s with ports := t.ports, alr := t.alr, bus := t.bus }) ∧
    (Accepts 0x0204 via args s → 50 ≤ arg args 1 → arg args 1 ≤ 20000 → arg args 1 % 10 = 0 →
      ∃ t, exec (.srcSetLimit via args) s = .next t ∧ PortsBut x s t ∧
        t.ports[x] = { s.ports[x] with
          iLim := arg args 1
          limIn := if s.ports[x].state = .online then min s.ports[x].limIn (arg args 1) else arg args 1 } ∧
        t = answer via 0 [] { s with ports := t.ports }) ∧
    (Accepts 0x0205 via args s → s.ports[x].vMax + 20000 ≤ arg2 args 1 → arg2 args 1 ≤ 1050000 → arg2 args 1 % 1000 = 0 →
      ∃ t, exec (.srcSetOv via args) s = .next t ∧ PortsBut x s t ∧
        t.ports[x] = { s.ports[x] with ovLevel := arg2 args 1 } ∧ t = answer via 0 [] { s with ports := t.ports }) ∧
    (Accepts 0x0207 via args s → s.ports[x].state = .locked →
      ∃ t, exec (.srcClearLock via args) s = .next t ∧ PortsBut x s t ∧
        t.ports[x] = { s.ports[x] with state := .idle } ∧ t = answer via 0 [] { s with ports := t.ports }) ∧
    (Accepts 0x0207 via args s → s.ports[x].state ≠ .locked →
      exec (.srcClearLock via args) s = .next (answer via 0x30 [] s))) ∧
  (∀ (via : Via) (args : List Word) (s : State),
    (Accepts 0x0204 via args s → arg args 0 ≤ 3 → (arg args 1 < 50 ∨ 20000 < arg args 1) →
      exec (.srcSetLimit via args) s = .next (answer via 0x22 [] s)) ∧
    (Accepts 0x0204 via args s → arg args 0 ≤ 3 → 50 ≤ arg args 1 → arg args 1 ≤ 20000 → arg args 1 % 10 ≠ 0 →
      exec (.srcSetLimit via args) s = .next (answer via 0x21 [] s)) ∧
    (Accepts 0x0203 via args s → arg args 0 ≤ 3 → arg2 args 1 % 1000 = 0 → arg2 args 3 % 1000 = 0 →
      (arg2 args 1 < 250000 ∨ 1000000 < arg2 args 3 ∨ arg2 args 3 < arg2 args 1 + 50000) →
      exec (.srcSetWindow via args) s = .next (answer via 0x22 [] s)) ∧
    (Accepts 0x0204 via args s → 3 < arg args 0 → exec (.srcSetLimit via args) s = .next (answer via 0x22 [] s)))

/-- `SRC_SET_MODE` takes its words, keeps what a word leaves unchanged, and keeps the ranks unique (R45, R47, R262).
`SRC_CAL_INPUT` stores the trim of the port when both snapshots are held, lie 15 min apart at least with 5 kW in the
mean, and the error is at most 3 % (R50, R263); the rounding and the way two trims compose are the model's. (Log entry
13.) -/
def Obligations.HubModeAndTrimAreStored : Prop :=
  (∀ (via : Via) (args : List Word) (s : State), Accepts 0x0206 via args s → (arg args 0 ≤ 3 ∨ arg args 0 = 0xFFFF) →
    (∀ x : Fin 4, rankOf args x.val ≤ 4 ∧ arg args (2 + x.val) ≤ 255 ∧
      (arg2 args (6 + 2 * x.val) ≤ 41000 ∨ arg2 args (6 + 2 * x.val) = 0xFFFFFFFF)) →
    (1000 ≤ arg2 args 14 ∧ arg2 args 14 ≤ 123000 ∨ arg2 args 14 = 0xFFFFFFFF) →
    ∃ t, exec (.srcSetMode via args) s = .next t ∧
      t.hub = { s.hub with mode := t.hub.mode, siteCap := t.hub.siteCap } ∧
      (arg args 0 = 0xFFFF → t.hub.mode = s.hub.mode) ∧ (arg args 0 ≤ 3 → selCode t.hub.mode = arg args 0) ∧
      t.hub.siteCap = (if arg2 args 14 = 0xFFFFFFFF then s.hub.siteCap else arg2 args 14) ∧
      ((∀ x y : Fin 4, x ≠ y → s.ports[x].rank ≠ s.ports[y].rank) →
        ∀ x y : Fin 4, x ≠ y → t.ports[x].rank ≠ t.ports[y].rank) ∧
      (∀ x : Fin 4, (∀ y : Fin 4, y ≠ x → rankOf args y.val = 0) → rankOf args x.val ≠ 0 →
        t.ports[x].rank = rankOf args x.val) ∧
      (∀ x : Fin 4, t.ports[x] = { s.ports[x] with
        rank := t.ports[x].rank
        weight := if arg args (2 + x.val) = 0 then s.ports[x].weight else arg args (2 + x.val)
        cap := if arg2 args (6 + 2 * x.val) = 0xFFFFFFFF then s.ports[x].cap else arg2 args (6 + 2 * x.val) }) ∧
      t = answer via 0 [] { s with ports := t.ports, hub := t.hub, bp := { s.bp with fallback := t.bp.fallback } }) ∧
  (∀ (via : Via) (args : List Word) (s : State) (x : Fin 4) (r1 r2 : SnapRec), Accepts 0x0208 via args s →
    arg args 0 = x.val → snapOf s (arg2 args 1) = some r1 → snapOf s (arg2 args 3) = some r2 →
    arg2 args 1 < arg2 args 3 → r1.time + 900000 ≤ r2.time →
    let e := (r2.ctrs.ports[x].eIn.val - r1.ctrs.ports[x].eIn.val).toInt
    let d : Int := arg4 args 5 - e
    let trim : Int := Int.tdiv (d * 100000) e
    5000 * ((r2.time : Int) - r1.time) ≤ e * 3600 →
    ((d * 100 < -3 * e ∨ 3 * e < d * 100) → exec (.srcCalInput via args) s = .next (answer via 0x22 [] s)) ∧
    (-3 * e ≤ d * 100 → d * 100 ≤ 3 * e →
      ∃ u, exec (.srcCalInput via args) s = .next (stored via [BitVec.ofInt 16 trim] s u) ∧ PortsBut x s u ∧
        u.ports[x] = { s.ports[x] with cal := true, trim := u.ports[x].trim } ∧
        (s.ports[x].trim = 0 → u.ports[x].trim = trim) ∧ u = { s with ports := u.ports }))

/-! ### Commands to the taps, the arbiter and the meters -/

/-- The commands that set a tap's settings and nothing else: limits, ramps, shed fractions, schedule, plant model,
factory coefficients, contracted minimum (R70, R71, R72, R77, R98, R147, R170). `TAP_SET_COEFF`: a bank the margin
check passes is stored whole and the other banks stay; one that fails is refused with its reasons and changes nothing
(R69, R71, R72). The margins at one corner of the plant are a free value; the sixteen corners and the limits they are
held to are the spec's. (Log entry 3.) -/
def Obligations.TapSettingsTakeTheirWords : Prop :=
  (∀ (via : Via) (args : List Word) (s : State) (n : Fin 32),
    let c := s.taps[n].cfg
    (AcceptsTap 0x0304 via args s n → arg args 1 ≤ 16000 → ∃ t, exec (.tapSetLimits via args) s = .next t ∧
      OnlyCfg n s t { c with cmdLim := some (arg args 1) } ∧ t = answer via 0 [] { s with taps := t.taps }) ∧
    (AcceptsTap 0x0304 via args s n → arg args 1 = 0xFFFF → ∃ t, exec (.tapSetLimits via args) s = .next t ∧
      OnlyCfg n s t { c with cmdLim := none } ∧ t = answer via 0 [] { s with taps := t.taps }) ∧
    (AcceptsTap 0x030B via args s n → 1 ≤ arg args 1 → arg args 1 ≤ 500 → 1 ≤ arg args 2 → arg args 2 ≤ 500 →
      ∃ t, exec (.tapSetRamp via args) s = .next t ∧
        OnlyCfg n s t { c with softRate := arg args 1, slewRate := arg args 2 } ∧
        t = answer via 0 [] { s with taps := t.taps }) ∧
    (AcceptsTap 0x0312 via args s n → 24000 ≤ arg2 args 1 → arg2 args 1 ≤ 90000 → 3 ≤ arg args 3 → arg args 3 ≤ 15 →
      ∃ t, exec (.tapSetSchedule via args) s = .next t ∧
        OnlyCfg n s t { c with hvThr := arg2 args 1, rodThr := arg args 3 } ∧
        t = answer via 0 [] { s with taps := t.taps }) ∧
    (AcceptsTap 0x0313 via args s n → 60 ≤ arg args 1 → arg args 1 ≤ 90 → 30 ≤ arg args 2 → arg args 2 + 10 ≤ arg args 1 →
      arg args 2 ≤ 75 → ∃ t, exec (.tapSetShed via args) s = .next t ∧
        OnlyCfg n s t { c with addPct := arg args 1, shedPct := arg args 2 } ∧
        t = answer via 0 [] { s with taps := t.taps }) ∧
    (AcceptsTap 0x0316 via args s n → 10 ≤ arg args 1 → arg args 1 ≤ arg args 2 → arg args 2 ≤ 2000 →
      5 ≤ arg args 3 → arg args 3 ≤ arg args 4 → arg args 4 ≤ 1000 → ∃ t, exec (.tapSetPlant via args) s = .next t ∧
        OnlyCfg n s t { c with lMin := arg args 1, lMax := arg args 2, rMin := arg args 3, rMax := arg args 4 } ∧
        t = answer via 0 [] { s with taps := t.taps }) ∧
    (AcceptsTap 0x0311 via args s n → ∃ t, exec (.tapLoadDefaultCoeff via args) s = .next t ∧
      OnlyCfg n s t { c with banks := factoryBanks } ∧ t = answer via 0 [] { s with taps := t.taps }) ∧
    (∀ d, Accepts 0x0401 via args s → arg args 0 = n.val → s.taps[n].desc = some d → arg args 1 ≤ d.iFast →
      1 ≤ arg args 1 → 1 ≤ arg args 2 → arg args 2 ≤ 255 → ∃ t, exec (.arbSetMin via args) s = .next t ∧
        OnlyCfg n s t { c with minCur := arg args 1, lessee := arg args 2 } ∧
        t = answer via 0 [] { s with taps := t.taps })) ∧
  (∀ (via : Via) (args : List Word) (s : State) (n : Fin 32) (b : Fin 4), AcceptsTap 0x0310 via args s n →
    arg args 1 = b.val →
    let bank := tabulate 9 fun k => argW args (2 + k.val)
    let v := (corners s n b.val).map (Config.margins bank)
    let low := v.any fun m => decide (m.1 < 3500)
    let gain := v.any fun m => decide (m.2.1 < 600)
    let fast := v.any fun m => decide (6250 < m.2.2)
    (corners s n b.val).length = 16 ∧
    ((8 ≤ arg args 4 ∨ 8 ≤ arg args 7 ∨ 8 ≤ arg args 9) →
      exec (.tapSetCoeff via args) s = .next (answer via 0x21 [8] s)) ∧
    (arg args 4 < 8 → arg args 7 < 8 → arg args 9 < 8 → ∃ t, exec (.tapSetCoeff via args) s = .next t ∧
      ((low || gain || fast) = true →
        t = answer via 0x21 [word (bit low 0 + bit gain 1 + bit fast 2)] s) ∧
      ((low || gain || fast) = false →
        (∀ k : Fin 9, t.taps[n].cfg.banks[b][k] = argW args (2 + k.val)) ∧
        (∀ a : Fin 4, a ≠ b → t.taps[n].cfg.banks[a] = s.taps[n].cfg.banks[a]) ∧
        OnlyCfg n s t { s.taps[n].cfg with banks := t.taps[n].cfg.banks } ∧
        t = answer via 0 [] { s with taps := t.taps })))

/-- Keep voltage, stand-in values and tracking are stored, and a tap in KEEP or STAND-IN takes its new reference at
once (R106, R108, R109, R115). `TAP_SET_SUPPORT` sets keep enable, bypass-on-fault and the removal action; turning
keep off in KEEP ends KEEP: the tap returns to the state it left, from DONE and TOP-OFF only while no recharge is due,
else by Kelvin (R130, R132, R151). -/
def Obligations.ReferencesAndSupportReachTheTap : Prop :=
  (∀ (via : Via) (args : List Word) (s : State) (n : Fin 32),
    (AcceptsTap 0x030C via args s n → 18000 ≤ arg2 args 1 → arg2 args 1 ≤ 96000 →
      (∀ d, s.taps[n].desc = some d → arg2 args 1 < d.cells * d.cvC) →
      ∃ t, exec (.tapSetKeep via args) s = .next t ∧
        t.taps[n].cfg = { s.taps[n].cfg with keepV := some (arg2 args 1) } ∧
        (s.taps[n].state = .keep → s.taps[n].cfg.track = .off → t.taps[n].stake.vTarget = arg2 args 1) ∧
        (s.taps[n].state ≠ .keep → s.taps[n].state ≠ .standIn → t.taps[n].stake = s.taps[n].stake) ∧
        t.taps[n].state = s.taps[n].state ∧ TapsBut n s t ∧ t = answer via 0 [] { s with taps := t.taps }) ∧
    (AcceptsTap 0x030D via args s n → 18000 ≤ arg2 args 3 → arg2 args 3 ≤ arg2 args 1 → arg2 args 1 ≤ arg2 args 5 →
      arg2 args 5 ≤ 96000 → arg args 7 ≤ 1 →
      ∃ t, exec (.tapSetStandin via args) s = .next t ∧
        t.taps[n].cfg = { s.taps[n].cfg with
          siV := some (arg2 args 1), siMin := some (arg2 args 3), siMax := some (arg2 args 5)
          autoReturn := decide (arg args 7 = 1) } ∧
        (s.taps[n].state = .standIn → s.taps[n].cfg.track = .off → t.taps[n].stake.vTarget = arg2 args 1) ∧
        (s.taps[n].state ≠ .keep → s.taps[n].state ≠ .standIn → t.taps[n].stake = s.taps[n].stake) ∧
        t.taps[n].state = s.taps[n].state ∧ TapsBut n s t ∧ t = answer via 0 [] { s with taps := t.taps }) ∧
    (AcceptsTap 0x030F via args s n → arg args 1 ≤ 2 → 18000 ≤ arg2 args 2 → arg2 args 2 ≤ 96000 →
      ∃ t, exec (.tapSetTrack via args) s = .next t ∧
        t.taps[n].cfg = { s.taps[n].cfg with
          track := if arg args 1 = 0 then .off else if arg args 1 = 1 then .ratio else .coincident
          trackFs := arg2 args 2 } ∧
        (s.taps[n].state = .standIn → s.sys.trackSeen = true → s.sys.trackHeld = false → arg args 1 = 2 →
          t.taps[n].stake.vTarget =
            min (siWindow s.taps[n]).2 (max (siWindow s.taps[n]).1 (20 * s.sys.trackMv.toNat))) ∧
        t.taps[n].state = s.taps[n].state ∧ TapsBut n s t ∧ t = answer via 0 [] { s with taps := t.taps })) ∧
  (∀ (via : Via) (args : List Word) (s : State) (n : Fin 32), AcceptsTap 0x0303 via args s n →
    arg args 1 < 12 → s.taps[n].acted = 0 →
    ∃ t, exec (.tapSetSupport via args) s = .next t ∧ answerOf via t = some ⟨0, []⟩ ∧ TapsButMates n s t ∧
      t.taps[n].cfg = { s.taps[n].cfg with
        keepEn := (argW args 1).getLsbD 0, bypOnFault := (argW args 1).getLsbD 1
        removal := if arg args 1 / 4 = 0 then .standIn else if arg args 1 / 4 = 1 then .bypass else .openTap } ∧
      ((argW args 1).getLsbD 0 = true ∨ s.taps[n].state ≠ .keep →
        OnlyCfg n s t t.taps[n].cfg ∧ t = answer via 0 [] { s with taps := t.taps }) ∧
      ((argW args 1).getLsbD 0 = false → s.taps[n].state = .keep → s.taps[n].left = .suspended →
        t.taps[n].state = .suspended ∧ t.taps[n].cause = s.taps[n].leftCause ∧ t.taps[n].left = s.taps[n].left2) ∧
      ((argW args 1).getLsbD 0 = false → s.taps[n].state = .keep → s.taps[n].left = .detect →
        t.taps[n].state = .detect ∧ t.taps[n].cause = 0 ∧ t.taps[n].newBlock = false) ∧
      ((argW args 1).getLsbD 0 = false → s.taps[n].state = .keep → isHelper s.taps[n] = false →
        (s.taps[n].left = .cupping ∨ s.taps[n].left = .precharge ∨ s.taps[n].left = .cc ∨ s.taps[n].left = .cv →
          t.taps[n].state = s.taps[n].left ∧ t.taps[n].cause = 0) ∧
        (s.taps[n].left = .done ∨ s.taps[n].left = .topoff →
          (rechargeDue s n = false → t.taps[n].state = s.taps[n].left ∧ t.taps[n].cause = 0 ∧
            t.taps[n].outQ = s.taps[n].outQ) ∧
          (rechargeDue s n = true → ∀ d, s.taps[n].desc = some d →
            t.taps[n].state = if kelvin s.taps[n] < ((d.cells * d.preC : Nat) : Int) then .precharge else .cc))))

/-- A descriptor that passes its checks is stored whole; on a tap that holds a block with another serial it sends the
tap to DETECT as a new block and voids the history (R123, R125, R126, R132). Whether the flash write fails is a free
value. That a first descriptor on a tap in ABSENT voids nothing and changes only the tap is the model's choice (log
entry 16). -/
def Obligations.DescriptorIsTakenWhole : Prop :=
  ∀ (via : Via) (args : List Word) (s : State) (n : Fin 32), AcceptsTap 0x0301 via args s n →
    wordsDescriptor args = none → descOk s n (descOf args) = true → restful s.taps[n] = true → s.taps[n].acted = 0 →
    ∃ u, exec (.tapSetDescriptor via args) s = .next (stored via [] s u) ∧
      (u.taps[n].desc = some (descOf args)) ∧ (descOf args).nameplate = arg args 2 ∧
      (descOf args).iFast = arg args 3 ∧ (descOf args).serial = BitVec.ofNat 64 (arg4 args 4) ∧
      TapsBut n s u ∧
      (s.taps[n].desc = none → s.taps[n].state = .absent →
        u = { s with taps := u.taps } ∧ u.taps[n].state = .absent ∧ u.taps[n].stake = s.taps[n].stake) ∧
      (∀ d, s.taps[n].desc = some d → d.serial ≠ BitVec.ofNat 64 (arg4 args 4) →
        (s.taps[n].state = .suspended ∨ s.taps[n].state = .faultShort) →
        u.taps[n].state = .detect ∧ u.taps[n].newBlock = true ∧ nextHistory u n = none ∧
          ∃ h : HistRec, u.bbx.queue = s.bbx.queue ++ [.hist h] ∧ h.tap = n.val ∧ h.void = true)

/-- The commands that read a tap change nothing but the answer (R127, R264, R265). The loss cap is set, and the
commands that read doses, counters, keys and the statement change nothing but the answer (R162, R185, R189, R267,
R268, R269). That TAP_GET_DESCRIPTOR is answered with the island powered down (log entry 6), and the byte order of the
parts of a certificate (log entry 69), are the model's choices. -/
def Obligations.ReadsChangeNothingButTheAnswer : Prop :=
  (∀ (via : Via) (args : List Word) (s : State) (n : Fin 32),
    (∀ d : Descriptor, Accepts 0x0302 via args s → arg args 0 = n.val → behind (0x0302, via, args) s = false →
      gangedOdd s n = false → s.taps[n].desc = some d →
      ∃ res, exec (.tapGetDescriptor via args) s = .next (answer via 0 res s) ∧ res.length = 26 ∧
        res.getD 1 0 = word d.nameplate ∧ res.getD 2 0 = word d.iFast ∧ natOf ((res.drop 3).take 4) = d.serial.toNat ∧
        res.getD 7 0 = word d.cvC ∧ res.getD 8 0 = word d.ovC) ∧
    (Accepts 0x0302 via args s → arg args 0 = n.val → behind (0x0302, via, args) s = false → gangedOdd s n = false →
      s.taps[n].desc = none →
      exec (.tapGetDescriptor via args) s = .next (answer via 0x11 [] s)) ∧
    (∀ h, Accepts 0x030A via args s → arg args 0 = n.val → gangedOdd s n = false → arg args 1 = 0 →
      lastHist s n = some h → ∃ res, exec (.tapGetHistory via args) s = .next (answer via 0 res s) ∧
        (res.getD 0 0).getLsbD 0 = h.void ∧ natOf ((res.drop 1).take 4) = h.serial.toNat ∧
        res.getD 5 0 = word (h.cap.getD 0)) ∧
    (Accepts 0x0302 via args s → arg args 0 = n.val → behind (0x0302, via, args) s = true →
      exec (.tapGetDescriptor via args) s = .next { s with held := s.held ++ [(0x0302, via, args)] }) ∧
    (Accepts 0x030A via args s → arg args 0 = n.val → gangedOdd s n = false → arg args 1 ≤ 63 → lastHist s n = none →
      exec (.tapGetHistory via args) s = .next (answer via 0x22 [] s)) ∧
    (Accepts 0x0315 via args s → arg args 0 = n.val → behind (0x0315, via, args) s = false → gangedOdd s n = false →
      clUp s n = true → 1 ≤ arg args 2 →
      arg args 2 ≤ 4 → arg args 1 + arg args 2 ≤ 16 →
      ∃ res, exec (.tapGetRods via args) s = .next (answer via 0 res s) ∧ res.length = 6 * arg args 2 ∧
        ∀ p : Fin 16, p.val = arg args 1 → res.getD 2 0 = BitVec.ofInt 16 s.taps[n].stake.rods[p].trim ∧
          res.getD 5 0 = word s.taps[n].stake.rods[p].cause) ∧
    (Accepts 0x0315 via args s → arg args 0 = n.val → behind (0x0315, via, args) s = false → clUp s n = false →
      exec (.tapGetRods via args) s = .next (answer via 0x40 [] s))) ∧
  (∀ (via : Via) (args : List Word) (s : State),
    (Accepts 0x0402 via args s → 500 ≤ arg args 0 → arg args 0 ≤ 3600 → arg args 0 % 10 = 0 →
      exec (.arbSetLossCap via args) s =
        .next (answer via 0 [] { s with arb := { s.arb with lossCap := arg args 0 } })) ∧
    (∀ n : Fin 32, Accepts 0x0403 via args s → arg args 0 = n.val → arg args 1 = 1 →
      ∃ res, exec (.arbGetDoses via args) s = .next (answer via 0 res s) ∧
        res = [word s.taps[n].request, word s.taps[n].levels[0], word s.taps[n].levels[1], word s.taps[n].levels[2],
          word s.taps[n].levels[3], word s.taps[n].grant] ++ wordsOf 2 s.taps[n].eRem) ∧
    (∀ n : Fin 32, Accepts 0x0501 via args s → arg args 0 = 0 → arg args 1 = n.val → s.mtr.restored = true →
      ∃ res, exec (.mtrRead via args) s = .next (answer via 0 res s) ∧ res.length = 28 ∧
        natOf (res.take 4) = s.ctrs.taps[n].eStake.val.toNat ∧
        natOf ((res.drop 4).take 4) = s.ctrs.taps[n].eBlkIn.val.toNat ∧
        natOf ((res.drop 24).take 4) = s.ctrs.taps[n].sfCon.val.toNat) ∧
    (∀ x : Fin 4, Accepts 0x0501 via args s → arg args 0 = 1 → arg args 1 = x.val → s.mtr.restored = true →
      ∃ res, exec (.mtrRead via args) s = .next (answer via 0 res s) ∧ res.length = 8 ∧
        natOf (res.take 4) = s.ctrs.ports[x].eIn.val.toNat ∧ natOf (res.drop 4) = s.ctrs.ports[x].qIn.val.toNat) ∧
    (Accepts 0x0502 via args s → arg args 0 ≤ 9 →
      ∃ res, exec (.mtrGetPubkey via args) s = .next (answer via 0 res s) ∧
        res.length = (if arg args 0 < 2 then 16 else 24) ∧
        res.getD 0 0 = wordHL (Config.pubkeyByte (arg args 0) 0) (Config.pubkeyByte (arg args 0) 1)) ∧
    (Accepts 0x0504 via args s → arg args 0 % 2 = 0 → arg args 1 = 2 → arg args 0 + 2 ≤ s.mtr.stmt.length →
      exec (.mtrReadStatement via args) s = .next (answer via 0
        [wordHL (s.mtr.stmt.getD (arg args 0) 0) (s.mtr.stmt.getD (arg args 0 + 1) 0)] s)) ∧
    (Accepts 0x0504 via args s → arg args 0 % 2 = 0 → arg args 1 = 2 → s.mtr.stmt = [] →
      exec (.mtrReadStatement via args) s = .next (answer via 0x11 [] s)))

/-- `TAP_STOP`, `TAP_RESUME`, `TAP_CLEAR_FAULT`: the state each leads to, in a sample that has acted on nothing that
ranks before a command; a return from the bypass that a hand-off ends is counted (R105, R112, R113, R131, R132, R133).
`TAP_REARM_TIMER` arms both safety timers at full size, and leaves FAULT-TIMER in RUN by Kelvin; `TAP_FORGET` queues a
void history record, and once a copy holds it disarms the timers and answers DONE, a tap suspended for want of trust
in its history entering DETECT; with neither copy it answers NV_FAIL (R127, R132, R156, R158, R342). -/
def Obligations.TapCommandsMoveTheTap : Prop :=
  (∀ (via : Via) (args : List Word) (s : State) (n : Fin 32), s.taps[n].acted = 0 →
    (AcceptsTap 0x0305 via args s n → stoppable s.taps[n].state = true →
      ∃ t, exec (.tapStop via args) s = .next t ∧ t.taps[n].state = .suspended ∧ t.taps[n].cause = 1 ∧
        t.taps[n].hostStop = true ∧ t.taps[n].left = s.taps[n].state ∧ t.taps[n].stake.conv = false ∧
        t.taps[n].stake.sw = false ∧ answerOf via t = some ⟨0, []⟩ ∧ TapsButMates n s t ∧
        t = answer via 0 [] { s with taps := t.taps, alr := t.alr, bus := t.bus }) ∧
    (AcceptsTap 0x0305 via args s n → s.taps[n].state = .standIn →
      (s.taps[n].stake.slotFb = false ∨ s.taps[n].stake.conv = true ∧ s.taps[n].stake.sw = true) →
      ∃ t, exec (.tapStop via args) s = .next t ∧ t.taps[n].state = .standIn ∧ t.taps[n].stake.slotByp = true ∧
        t.taps[n].stake.handOff = .stop ∧ t.taps[n].hostStop = true ∧ t.taps[n].stake.start ≠ .hiccup ∧
        t.taps[n].stake.bypRamp = s.taps[n].stake.slotFb ∧ TapsButMates n s t ∧
        (s.taps[n].stake.autoReturned = false → t.alr = s.alr ∧ t.bus = s.bus) ∧
        (s.taps[n].stake.autoReturned = true → t.taps[n].stake.returns =
          recent s.taps[n].stake.returnAt 600000 s.taps[n].stake.returns ++ [s.taps[n].stake.returnAt]) ∧
        t = answer via 1 [] { s with taps := t.taps, alr := t.alr, bus := t.bus }) ∧
    (AcceptsTap 0x0305 via args s n → s.taps[n].state = .standIn → s.taps[n].stake.slotFb = true →
      s.taps[n].stake.sw = false →
      ∃ t, exec (.tapStop via args) s = .next t ∧ t.taps[n].state = .absent ∧ t.taps[n].stake.slotByp = true ∧
        t.taps[n].stake.conv = false ∧ t.taps[n].stake.start = .off ∧ t.taps[n].hostStop = true ∧ TapsButMates n s t ∧
        (s.taps[n].stake.autoReturned = false → t.alr = s.alr ∧ t.bus = s.bus) ∧
        (s.taps[n].stake.autoReturned = true → t.taps[n].stake.returns =
          recent s.taps[n].stake.returnAt 600000 s.taps[n].stake.returns ++ [s.taps[n].stake.returnAt]) ∧
        t = answer via 1 [] { s with taps := t.taps, alr := t.alr, bus := t.bus }) ∧
    (AcceptsTap 0x0306 via args s n → s.taps[n].state = .suspended → s.taps[n].cause = 1 →
      ∃ t, exec (.tapResume via args) s = .next t ∧ t.taps[n].state = .detect ∧ t.taps[n].cause = 0 ∧
        t.taps[n].hostStop = false ∧ t.taps[n].newBlock = false ∧ TapsBut n s t ∧
        t = answer via 0 [] { s with taps := t.taps, sys := t.sys }) ∧
    (AcceptsTap 0x0306 via args s n → s.taps[n].state = .suspended → s.taps[n].cause ≠ 1 →
      exec (.tapResume via args) s = .next (answer via 0x30 [] s)) ∧
    (AcceptsTap 0x0308 via args s n → s.taps[n].state = .faultShort → cells s.taps[n] * 500 ≤ kelvin s.taps[n] →
      cells s.taps[n] * 500 ≤ s.taps[n].vPair → 2000 ≤ s.taps[n].stake.clearMs →
      ∃ t, exec (.tapClearFault via args) s = .next t ∧ t.taps[n].state = .detect ∧ TapsBut n s t ∧
        t = answer via 0 [] { s with taps := t.taps, sys := t.sys }) ∧
    (∀ d, AcceptsTap 0x0308 via args s n → s.taps[n].state = .faultOv → s.taps[n].desc = some d →
      exec (.tapClearFault via args) s =
          (if kelvin s.taps[n] < ((d.cells * d.cvC : Nat) : Int) then
            .next (answer via 0 [] (byCommand n (toDetect n false) s))
          else .next (answer via 0x30 [] s)))) ∧
  (∀ (via : Via) (args : List Word) (s : State) (n : Fin 32) (d : Descriptor), s.taps[n].desc = some d →
    (AcceptsTap 0x0307 via args s n →
      (s.taps[n].state = .precharge ∨ s.taps[n].state = .cc ∨ s.taps[n].state = .cv) →
      ∃ t, exec (.tapRearmTimer via args) s = .next t ∧
        t.taps[n] = { s.taps[n] with
          pre := { armed := true, size := d.preTimer.getD 60 * 60000 }
          chg := { armed := true, size := min 64800000 (d.kFactor.getD 15 * capacity s n * 3600000 / d.iFast) } } ∧
        TapsBut n s t ∧ t = answer via 0 [] { s with taps := t.taps }) ∧
    (AcceptsTap 0x0307 via args s n → s.taps[n].state = .faultTimer → s.sys.st = .run → isHelper s.taps[n] = false →
      s.taps[n].acted = 0 → ∃ t, exec (.tapRearmTimer via args) s = .next t ∧
        t.taps[n].state = (if kelvin s.taps[n] < ((d.cells * d.preC : Nat) : Int) then .precharge else .cc) ∧
        t.taps[n].pre.elapsed = 0 ∧ t.taps[n].chg.elapsed = 0 ∧ t.taps[n].chg.armed = true ∧
        answerOf via t = some ⟨0, []⟩ ∧ TapsBut n s t) ∧
    (AcceptsTap 0x0309 via args s n → s.taps[n].state = .absent → (s.bbx.okA || s.bbx.okB) = true →
      ∃ (t : State) (h : HistRec), exec (.tapForget via args) s = .next t ∧ t.bbx.queue = s.bbx.queue ++ [.hist h] ∧
        h.tap = n.val ∧ h.void = true ∧ h.serial = d.serial ∧ h.seq = s.bbx.nextSeq ∧
        t.bbx.forgets = s.bbx.forgets ++ [(s.bbx.nextSeq, n, via)] ∧ t = { s with bbx := t.bbx }) ∧
    (AcceptsTap 0x0309 via args s n → s.bbx.okA = false → s.bbx.okB = false → s.taps[n].state = .absent →
      exec (.tapForget via args) s = .next (answer via 0x60 [] s)) ∧
    (∀ (h : HistRec) (rs : List BbxItem), s.powered = true → s.bbx.queue = .hist h :: rs → h.okA = false →
      h.okB = false → s.bbx.okA = true → s.bbx.okB = true → carriedCopy h s.bbx = none →
      s.bbx.forgets = [(h.seq, n, via)] → s.taps[n].acted = 0 →
      (∃ t, exec (.bbxRecordWrite false false) s = .next t ∧ t.bbx.queue = rs ∧ t.bbx.forgets = [] ∧
        t.bbx.hist.getLast? = some { h with okA := true, okB := true } ∧ answerOf via t = some ⟨0, []⟩ ∧
        TapsBut n s t ∧ t.taps[n].pre = .reset ∧ t.taps[n].chg = .reset ∧
        t.taps[n].state = (if s.taps[n].state = .suspended ∧ (s.taps[n].cause = 7 ∨ s.taps[n].cause = 8) then .detect
          else s.taps[n].state)) ∧
      (s.bbx.missA = 2 → s.bbx.missB = 2 → ∃ t, exec (.bbxRecordWrite true true) s = .next t ∧ t.bbx.queue = rs ∧
        t.bbx.forgets = [] ∧ t.bbx.hist = s.bbx.hist ∧ answerOf via t = some ⟨0x60, []⟩ ∧ t.taps = s.taps)))

/-- `TAP_STAND_IN` on an ABSENT tap with SLOT_FB present starts stand-in from the bypass: the tap is in STAND-IN, its
switch as before and its pre-start test begun, unless the power pair is reversed or the module lets no stake start
(R61, R101, R109, R363). Forming a ganged pair of resting stakes whose voltages agree marks both taps and leaves tap
2k + 1 ABSENT, its mirror showing the state of tap 2k; a pair with too few healthy rods is withdrawn; dissolving marks
both as single (R63, R64, R89, R136). What tap 2k + 1 holds while ganged is the model's choice (log entry 17). -/
def Obligations.StandInAndGangCommandsAct : Prop :=
  (∀ (via : Via) (args : List Word) (s : State) (n : Fin 32), AcceptsTap 0x030E via args s n →
    (s.taps[n].state = .absent ∨ s.taps[n].state = .faultOpen) → s.taps[n].stake.slotFb = true →
    (siVolt s.taps[n]).isSome = true → (rating s n).1 ≠ 0 → s.taps[n].cfg.gang = false →
    s.taps[n].acted = 0 →
    ∃ t, exec (.tapStandIn via args) s = .next t ∧ t.taps[n].state = .standIn ∧
      t.taps[n].stake.fromBypass = true ∧
      t.taps[n].stake.start = (if s.taps[n].vPair < -1000 ∨ mayStart s = false then .off else .pretest) ∧
      t.taps[n].stake.sw = s.taps[n].stake.sw ∧ t.taps[n].stake.autoReturned = false ∧ TapsBut n s t ∧
      t = answer via 1 [] { s with taps := t.taps, alr := t.alr, bus := t.bus, sys := t.sys }) ∧
  (∀ (via : Via) (args : List Word) (s : State) (n : Fin 32),
    Accepts 0x0314 via args s → arg args 0 = n.val → clUp s n = true → n.val % 2 = 0 →
    s.taps[n].cfg.share = 0 → s.taps[partner n].cfg.share = 0 →
    s.taps[n].stake.conv = false → s.taps[partner n].stake.conv = false →
    s.taps[n].stake.sw = false → s.taps[partner n].stake.sw = false →
    (2 ≤ arg args 1 → exec (.tapSetGangForm via args) s = .next (answer via 0x22 [] s) ∧
      exec (.tapSetGangDissolve via args) s = .next (answer via 0x22 [] s)) ∧
    (arg args 1 < 2 →
    (gangOk s n (partner n) = true → s.taps[n].cfg.gang = false → s.taps[partner n].cfg.gang = false →
      ∃ t, exec (.tapSetGangForm via args) s = .next t ∧ t.taps[n].cfg.gang = true ∧
        t.taps[partner n].cfg.gang = true ∧ t.taps[partner n].state = .absent ∧
        (8 ≤ pairSum t n → t.taps[n].state = s.taps[n].state) ∧
        (pairSum t n < 8 → s.taps[n].stake.withdrawn = false → (∀ m ∈ mates t n, t.taps[m].stake.withdrawn = true) ∧
          (s.taps[n].state.yields = true → t.taps[n].state = .suspended ∧ t.taps[n].cause = 6)) ∧
        (tapReg t (partner n) 0).extractLsb' 0 8 = (tapReg t n 0).extractLsb' 0 8 ∧
        (∀ m : Fin 32, m ≠ n → m ≠ partner n → t.taps[m] = s.taps[m]) ∧
        t = answer via 0 [] { s with taps := t.taps, rcp := { s.rcp with mask := t.rcp.mask }, alr := t.alr, bus := t.bus, shown := t.shown }) ∧
    (∃ t, exec (.tapSetGangDissolve via args) s = .next t ∧
        (∀ m : Fin 32, (m = n ∨ m = partner n) → t.taps[m].cfg = { s.taps[m].cfg with gang := false } ∧
          (s.taps[m].stake.start ≠ .pretest → (4 ≤ s.taps[m].stake.healthy ∨ s.taps[m].stake.withdrawn = true) →
            t.taps[m] = { s.taps[m] with cfg := t.taps[m].cfg }) ∧
          (s.taps[m].stake.healthy < 4 → t.taps[m].stake.withdrawn = true)) ∧
        (∀ m : Fin 32, m ≠ n → m ≠ partner n → t.taps[m] = s.taps[m]) ∧
        t = answer via 0 [] { s with taps := t.taps, alr := t.alr, bus := t.bus, shown := t.shown })))

/-! ### Profiles and pours -/

/-- `SYS_SET_PROFILE`: Begin opens a working copy, Add appends a checked entry to it, Store and Clear write the
profile of that number and no other (R118, R260). -/
def Obligations.ProfileCommandsEditOneProfile : Prop :=
  ∀ (via : Via) (args : List Word) (s : State) (k : Fin 8), Accepts 0x010D via args s → arg args 0 % 256 = k.val →
    (4 ≤ arg args 0 / 256 → exec (.sysSetProfileBegin via args) s = .next (answer via 0x22 [] s) ∧
      exec (.sysSetProfileAdd via args) s = .next (answer via 0x22 [] s) ∧
      exec (.sysSetProfileStore via args) s = .next (answer via 0x22 [] s) ∧
      exec (.sysSetProfileClear via args) s = .next (answer via 0x22 [] s)) ∧
    (arg args 0 / 256 < 4 →
    (∀ run str : Nat, run ≤ 1 → str ≤ 2 → arg args 1 = run + 4 * str →
      exec (.sysSetProfileBegin via args) s = .next (answer via 0 [] { s with vsel := { s.vsel with
        work := some (k.val, { run := decide (run = 1), str := str }) } })) ∧
    (∀ p : Profile, s.vsel.work = some (k.val, p) → p.entries.length < 64 →
      entryCheck (arg args 1) (arg args 2) ((tabulate 27 fun j => argW args (3 + j.val)).take (arg args 2)) s = none →
      exec (.sysSetProfileAdd via args) s = .next (answer via 0 [word p.entries.length] { s with vsel := { s.vsel with
        work := some (k.val, { p with entries := p.entries ++
          [{ op := argW args 1, args := (tabulate 27 fun j => argW args (3 + j.val)).take (arg args 2) }] }) } })) ∧
    (∀ p : Profile, s.vsel.work = some (k.val, p) →
      ∃ u, exec (.sysSetProfileStore via args) s = .next (stored via [] s u) ∧
        u.vsel.profiles[k] = { p with valid := true } ∧ (∀ j : Fin 8, j ≠ k → u.vsel.profiles[j] = s.vsel.profiles[j]) ∧
        u = { s with vsel := { s.vsel with profiles := u.vsel.profiles, work := none } }) ∧
    (∃ u, exec (.sysSetProfileClear via args) s = .next (stored via [] s u) ∧
      u.vsel.profiles[k] = .reset ∧ (∀ j : Fin 8, j ≠ k → u.vsel.profiles[j] = s.vsel.profiles[j]) ∧
      u = { s with vsel := { s.vsel with profiles := u.vsel.profiles } }))

/-- The commands of a pour: it opens empty, takes checked entries, and validates them in order; an invalid entry ends
it without a pull; an abort ends it while it is open, prepared, or released with TICK low, and is refused after the
rise. The veto of an abort has an end only while the low time is below 55 ms (R196, R197, R199, R203, R206, R270). -/
def Obligations.PourCommandsStageThePour : Prop :=
  ∀ (via : Via) (args : List Word) (s : State),
    (Accepts 0x0601 via args s → arg args 0 ≠ 0 → s.pour.state = .idle →
      exec (.pourOpen via args) s = .next (answer via 0 [] { s with pour := { s.pour with
        state := .opened, id := argW args 0, entries := [], fail := 255, profile := false } })) ∧
    (Accepts 0x0601 via args s → arg args 0 ≠ 0 → s.pour.state ≠ .idle →
      exec (.pourOpen via args) s = .next (answer via 0x10 [] s)) ∧
    (Accepts 0x0602 via args s → argW args 0 = s.pour.id → s.pour.state = .opened → s.pour.entries.length < 64 →
      entryCheck (arg args 1) (arg args 2) ((tabulate 27 fun j => argW args (3 + j.val)).take (arg args 2)) s = none →
      exec (.pourAdd via args) s = .next (answer via 0 [word s.pour.entries.length] { s with pour := { s.pour with
        entries := s.pour.entries ++
          [{ op := argW args 1, args := (tabulate 27 fun j => argW args (3 + j.val)).take (arg args 2) }] } })) ∧
    (Accepts 0x0603 via args s → argW args 0 = s.pour.id → s.pour.state = .opened →
      validate 0 s.pour.entries { s with pour := { s.pour with state := .validating } } = none →
      ∃ t, exec (.pourPrepare via args) s = .next t ∧ t.pour.state = .validating ∧ t.pour.prepVia = some via ∧
        (∀ e ∈ t.pour.entries, e.outcome = 2) ∧ t.pour.entries.length = s.pour.entries.length ∧
        t.pour.tick = s.pour.tick ∧ t = { s with pour := t.pour }) ∧
    (∀ k c : Nat, Accepts 0x0603 via args s → argW args 0 = s.pour.id → s.pour.state = .opened →
      validate 0 s.pour.entries { s with pour := { s.pour with state := .validating } } = some (k, c) →
      ∃ t, exec (.pourPrepare via args) s = .next t ∧ t.pour.state = .idle ∧ t.pour.result = 0x50 ∧
        t.pour.resultValid = true ∧ t.pour.fail = k ∧ t.pour.pull = false ∧
        answerOf via t = some ⟨0x50, [word k, word c]⟩ ∧ t.taps = s.taps ∧ t.ports = s.ports ∧ t.sys = s.sys) ∧
    (Accepts 0x0604 via args s → argW args 0 = s.pour.id → (s.pour.state = .opened ∨ s.pour.state = .prepared) →
      ∃ t, exec (.pourAbort via args) s = .next t ∧ t.pour.state = .idle ∧ t.pour.result = 0x50 ∧
        t.pour.veto = (s.pour.veto || (!s.pour.tick && decide (s.pour.low10us < 5500))) ∧ t.pour.pull = false ∧
        answerOf via t = some ⟨0, []⟩ ∧ t.taps = s.taps ∧ t.ports = s.ports ∧ t.sys = s.sys) ∧
    (Accepts 0x0604 via args s → argW args 0 = s.pour.id → s.pour.state = .released →
      (s.pour.tick = false → ∃ t, exec (.pourAbort via args) s = .next t ∧ t.pour.state = .idle ∧
        t.pour.result = 0x50 ∧ t.pour.resultValid = true ∧
        t.pour.veto = (s.pour.veto || decide (s.pour.low10us < 5500)) ∧ t.pour.pull = false ∧
        answerOf via t = some ⟨0, []⟩ ∧ t.taps = s.taps ∧ t.ports = s.ports ∧ t.sys = s.sys) ∧
      (s.pour.tick = true → exec (.pourAbort via args) s = .next (answer via 0x30 [] s))) ∧
    (Accepts 0x0604 via args s → (s.pour.state = .idle ∨ argW args 0 = s.pour.id ∧ s.pour.state = .validating) →
      exec (.pourAbort via args) s = .next (answer via 0x30 [] s)) ∧
    (Accepts 0x0604 via args s → s.pour.state ≠ .idle → argW args 0 ≠ s.pour.id →
      exec (.pourAbort via args) s = .next (answer via 0x21 [] s))

/-- TICK and the pour's own pull: a prepared pour pulls the line low, a profile pulls and releases it at once, RELEASE
with its identifier lets go of it, ABORT ends it with a veto, a wrong identifier is only noted (R199, R201, R202,
R203, R205, R209). The events of the line: a fall starts the low time, and another participant's pull on a low line is
held beside this module's own; 50 ms low time out a pour with a veto; veto and HOLD pulls end (R201, R203, R204,
R206). A commit edge, a rise that stands for 500 ns after 1 µs to 50 ms of known low time, commits a released pour;
any other rise commits nothing. An entry that still fits acts at the edge, and a pull that waited for the 500 ns
begins (R201, R205, R206, R207, R210). Rows for the end of a time assert that it has passed (log entry 4). The pull of
another participant on a low line and the two forms of COMMIT_EDGE (log entry 21), the low time known (log entry 60)
and the new sampling period (log entry 48) are the model's. -/
def Obligations.PourLineReleasesTimesAndCommits : Prop :=
  (∀ s : State,
    (s.pour.state = .validating → s.pour.profile = false →
      ∃ t, exec .pourPrepared s = .next t ∧ t.pour.state = .prepared ∧ t.pour.pull = true ∧ t.pour.tick = false ∧
        (∀ via, s.pour.prepVia = some via → answerOf via t = some ⟨0, []⟩) ∧ t.taps = s.taps ∧ t.ports = s.ports) ∧
    (s.pour.state = .validating → s.pour.profile = true → s.pour.tick = true →
      ∃ t, exec .pourPrepared s = .next t ∧ t.pour.state = .released ∧ t.pour.pull = false ∧ t.pour.lowKnown = true ∧
        t.pour.low10us = 0 ∧ t.pour.tick = !(s.pour.veto || s.pour.holdPull || s.pour.tickOther) ∧
        t.pour.rise = t.pour.tick ∧ t.pour.entries = s.pour.entries ∧ t = { s with pour := t.pour }) ∧
    (s.powered = true → s.pour.state = .prepared → s.pour.id ≠ 0 →
      ∃ t, exec (.pourCtlRelease (some s.pour.id)) s = .next t ∧ t.pour.state = .released ∧ t.pour.pull = false ∧
        t.pour.tick = !(t.pour.pulling || s.pour.tickOther) ∧ t.pour.veto = s.pour.veto ∧
        t.pour.holdPull = s.pour.holdPull ∧ t.pour.ignored = s.pour.ignored ∧
        t = { s with pour := t.pour }) ∧
    (∀ id, s.powered = true → id ≠ some s.pour.id →
      exec (.pourCtlRelease id) s = .next { s with pour := { s.pour with ignored := true } } ∧
      exec (.pourCtlAbort id) s = .next { s with pour := { s.pour with ignored := true } }) ∧
    (s.powered = true → abortable s.pour = true → s.pour.id ≠ 0 →
      ∃ t, exec (.pourCtlAbort (some s.pour.id)) s = .next t ∧ t.pour.state = .idle ∧ t.pour.result = 0x50 ∧
        t.pour.veto = (s.pour.veto || (!s.pour.tick && decide (s.pour.low10us < 5500))) ∧
        t.taps = s.taps ∧ t.ports = s.ports ∧ t.sys = s.sys)) ∧
  (∀ s : State,
    (s.powered = true → s.pour.tick = true →
      ∃ t, exec .tickFall s = .next t ∧ t.pour.tick = false ∧ t.pour.low10us = 0 ∧ t.pour.lowKnown = true ∧
        t.pour.tickOther = true ∧ t.pour.state = s.pour.state ∧ t = { s with pour := t.pour }) ∧
    (s.powered = true → s.pour.tick = false →
      ∃ t, exec .tickFall s = .next t ∧ t.pour.tick = false ∧ t.pour.tickOther = true ∧
        t.pour.low10us = s.pour.low10us ∧ t.pour.lowKnown = s.pour.lowKnown ∧ t.pour.pull = s.pour.pull ∧
        t.pour.state = s.pour.state ∧ t = { s with pour := t.pour }) ∧
    ((s.pour.state = .prepared ∨ s.pour.state = .released) → s.pour.tick = false → s.pour.rise = false →
      s.pour.profile = false →
      ∃ t, exec .pourTimeout s = .next t ∧ t.pour.state = .idle ∧ t.pour.result = 0x51 ∧
        t.pour.resultValid = true ∧ t.pour.veto = (s.pour.veto || decide (s.pour.low10us < 5500)) ∧
        t.pour.pull = false ∧ (s.pour.low10us < 5500 → t.pour.tick = false) ∧ t.taps = s.taps ∧ t.ports = s.ports ∧ t.sys = s.sys) ∧
    ((s.pour.state = .prepared ∨ s.pour.state = .released) → s.pour.tick = false → s.pour.profile = true →
      ∃ t, exec .pourTimeout s = .next t ∧ t.pour.state = .idle ∧ t.pour.result = 0x51 ∧
        t.vsel.fail = (s.vsel.fail || decide (4 ≤ s.vsel.tries)) ∧
        t.vsel.tries = (if 4 ≤ s.vsel.tries then 0 else s.vsel.tries + 1) ∧ t.taps = s.taps ∧ t.ports = s.ports) ∧
    (s.pour.veto = true → ∃ t, exec .vetoEnd s = .next t ∧ t.pour.veto = false ∧
      t.pour.tick = !(t.pour.pulling || s.pour.tickOther) ∧ t.pour.pull = s.pour.pull ∧
      t.pour.holdPull = s.pour.holdPull ∧ t.pour.state = s.pour.state ∧ t = { s with pour := t.pour }) ∧
    (s.pour.holdPull = true → s.sys.st ≠ .hold → ∃ t, exec .holdPullEnd s = .next t ∧ t.pour.holdPull = false ∧
      t.pour.tick = !(t.pour.pulling || s.pour.tickOther) ∧ t.pour.pull = s.pour.pull ∧ t.pour.veto = s.pour.veto ∧
      t.pour.state = s.pour.state ∧ t = { s with pour := t.pour })) ∧
  (∀ (lowNs : Nat) (s : State), s.powered = true → s.pour.pulling = false →
    (s.pour.lowKnown = true → 1000 ≤ lowNs → lowNs ≤ 50000000 → s.pour.state = .released → s.vsel.staged = none →
      (s.pour.rise = true ∨ s.pour.tick = false) →
      ∃ t, exec (.commitEdge ⟨lowNs, true⟩) s = .next t ∧ t.pour.state = .idle ∧ t.pour.result = 0 ∧
        t.pour.resultValid = true ∧ t.pour.tick = !(s.pour.veto || s.pour.holdPull) ∧
        t.pour.commits = (s.pour.commits + 1) % 65536 ∧
        t.pour.entries.length = s.pour.entries.length ∧ (∀ e ∈ t.pour.entries, e.outcome = 3 ∨ e.outcome = 4) ∧
        ∀ (x : Fin 4) (amps : Word),
          s.pour.entries = [{ op := 0x0204, args := [word x.val, amps], outcome := 2, code := 0 }] →
          (s.sys.st = .standby ∨ s.sys.st = .run) → 50 ≤ amps.toNat → amps.toNat ≤ 20000 → amps.toNat % 10 = 0 →
          t.ports[x] = { s.ports[x] with
            iLim := amps.toNat
            limIn := if s.ports[x].state = .online then min s.ports[x].limIn amps.toNat else amps.toNat } ∧
          PortsBut x s t ∧ t.taps = s.taps.map fun a => { a with acted := 0 }) ∧
    (∀ stood : Bool, (lowNs < 1000 ∨ 50000000 < lowNs ∨ stood = false ∨ s.pour.lowKnown = false ∨
        s.pour.state ≠ .released) →
      ∃ t, exec (.commitEdge ⟨lowNs, stood⟩) s = .next t ∧ t.pour.state = s.pour.state ∧
        (stood = false → t.pour.tick = true) ∧
        (stood = true → t.pour.rise = false ∧ t.pour.tick = !(s.pour.pull || s.pour.veto || s.pour.holdPull)) ∧
        t.pour.commits = s.pour.commits ∧ t.pour.entries = s.pour.entries ∧ t = { s with pour := t.pour }))

/-- VSEL: a new value is counted and falls due in STANDBY and RUN or waits; a profile that fell due is staged whole as
pour 0x0000, ending a pour in progress, or fails with an alert where an entry does not validate (R119, R120, R209).
Rows for the end of a time assert that it has passed (log entry 4). -/
def Obligations.VselCountsAndStages : Prop :=
  ∀ s : State,
    (∀ v : Fin 8, s.powered = true → s.vsel.pins ≠ v.val → s.vsel.enabled = true →
      ∃ t, exec (.vselCount v) s = .next t ∧ t.vsel.pins = v.val ∧
        (s.sys.st = .standby ∨ s.sys.st = .run → t.vsel.applying = some v.val ∧ t.vsel.pending = false) ∧
        (s.sys.st ≠ .standby → s.sys.st ≠ .run → t.vsel.pending = true ∧ t.vsel.applying = s.vsel.applying) ∧
        t = { s with vsel := t.vsel }) ∧
    (∀ v : Fin 8, s.powered = true → s.vsel.pins ≠ v.val → s.vsel.enabled = false →
      exec (.vselCount v) s = .next { s with vsel := { s.vsel with pins := v.val } }) ∧
    (∀ k : Fin 8, s.vsel.applying = some k.val → s.vsel.staged ≠ some k.val → (s.sys.st = .standby ∨ s.sys.st = .run) →
      (s.vsel.tries = 0 → ∃ t, exec .profileApply s = .next t ∧ Staged k s t) ∧
      (s.vsel.tries ≠ 0 → ∃ t, exec .profileRetry s = .next t ∧ Staged k s t))

/-! ### Derbel links -/

/-- The commands of a link that set its presentation, its contract and the tie; after a pilot loss, a tie trip or a
void by the module state in the same sample they are refused (R271, R279, R282, R292, R298, R299). The commands of a
link that send, receive and report: a host message waits in the transmit queue behind what R282 puts before it, a
received message is taken oldest first (R282, R289, R290, R302, R309). That LNK_SEND on a port that is not attached
answers DENIED_STATE, and the state a changed presentation leads to, are the model's choices (log entry 22). -/
def Obligations.LinkCommandsAct : Prop :=
  (∀ (via : Via) (args : List Word) (s : State) (x : Fin 4), arg args 0 = x.val →
    (s.links[x].acted = 0 ∨ 6 ≤ s.links[x].acted → Accepts 0x0701 via args s →
      (4 ≤ arg args 1 → exec (.lnkSetPresent via args) s = .next (answer via 0x22 [] s)) ∧
      ((arg args 1 = 2 ∨ arg args 1 = 3) → x.val ≠ 3 →
        exec (.lnkSetPresent via args) s = .next (answer via 0x21 [] s)) ∧
      ((arg args 1 = 2 ∨ arg args 1 = 3) → x.val = 3 → s.links[x].inForce = false → s.links[x].attached = false →
        s.links[x].state ≠ .swap → s.links[x].present ≠ (if arg args 1 = 2 then .source else .dual) →
        ∃ t, exec (.lnkSetPresent via args) s = .next t ∧
          t.links[x] = { s.links[x] with
            present := if arg args 1 = 2 then .source else .dual, phaseSource := decide (arg args 1 = 2), acted := 6
            state := if s.links[x].state = .off ∨ s.links[x].state = .debounce then .unattached else s.links[x].state } ∧
          (arg args 1 = 2 → t.ports[x].state = .disabled) ∧ (arg args 1 = 3 → t.ports = s.ports) ∧ PortsBut x s t ∧
          LinksBut x s t ∧
          t = answer via 0 [] { s with links := t.links, ports := t.ports, hub := t.hub, taps := t.taps }) ∧
      (arg args 1 < 4 → x.val = 3 → s.links[x].attached = true →
        s.links[x].present ≠ (match arg args 1 with | 0 => .off | 1 => .sink | 2 => .source | _ => .dual) →
        ∃ t, exec (.lnkSetPresent via args) s = .next t ∧ t.links[x].inForce = false ∧
          t.links[x].present = (match arg args 1 with | 0 => .off | 1 => .sink | 2 => .source | _ => .dual) ∧
          t.links[x].state = (if arg args 1 = 0 then .off else .unattached) ∧ t.links[x].txq = [] ∧
          t.links[x].flight = none ∧ (s.links[x].inForce = true → t.links[x].voidCause = 9 ∧ t.links[x].evVoid = true) ∧
          LinksBut x s t ∧ t.sys = s.sys)) ∧
    (s.links[x].acted ≠ 0 → s.links[x].acted < 6 → arg args 1 < 2 → Accepts 0x0704 via args s →
      exec (.lnkSetContractVoid via args) s = .next (answer via 0x30 [] s)) ∧
    (2 ≤ arg args 1 → Accepts 0x0704 via args s →
      exec (.lnkSetContractApply via args) s = .next (answer via 0x22 [] s) ∧
      exec (.lnkSetContractVoid via args) s = .next (answer via 0x22 [] s)) ∧
    (2 ≤ arg args 1 → x.val = 3 → Accepts 0x0705 via args s →
      exec (.lnkSetTieClose via args) s = .next (answer via 0x22 [] s) ∧
      exec (.lnkSetTieOpen via args) s = .next (answer via 0x22 [] s)) ∧
    (s.links[x].acted = 0 ∨ 6 ≤ s.links[x].acted → arg args 1 < 2 →
    (Accepts 0x0701 via args s → arg args 1 = 0 → s.links[x].present ≠ .off → s.links[x].inForce = false →
      s.links[x].attached = false → s.links[x].state ≠ .swap → s.links[x].role = false →
      ∃ t, exec (.lnkSetPresent via args) s = .next t ∧
        t.links[x] = { s.links[x] with present := .off, phaseSource := false, state := .off, acted := 6 } ∧
        LinksBut x s t ∧
        t = answer via 0 [] { s with links := t.links }) ∧
    (Accepts 0x0701 via args s → 1 ≤ arg args 1 → s.links[x].present ≠ .sink → s.links[x].inForce = false →
      s.links[x].attached = false → s.links[x].state ≠ .swap →
      ∃ t, exec (.lnkSetPresent via args) s = .next t ∧
        t.links[x] = { s.links[x] with
          present := .sink, phaseSource := false, acted := 6
          state := if s.links[x].state = .off ∨ s.links[x].state = .debounce then .unattached else s.links[x].state } ∧
        LinksBut x s t ∧ t = answer via 0 [] { s with links := t.links }) ∧
    (Accepts 0x0704 via args s → 1000 ≤ arg args 2 → arg args 2 + 200 ≤ arg args 3 → arg args 3 ≤ 4000 →
      arg args 4 ≤ 4000 → s.links[x].attached = true →
      ∃ t, exec (.lnkSetContractApply via args) s = .next t ∧ t.links[x].inForce = true ∧
        t.links[x].cwMin = arg args 2 ∧ t.links[x].cwMax = arg args 3 ∧ t.links[x].age = 0 ∧
        t.links[x].provisional = (s.links[x].role && !s.links[x].acceptSent) ∧
        t.links[x].ciLim = (if t.links[x].provisional = true then min (arg args 4) 160 else arg args 4) ∧
        t.links[x].state = (if s.links[x].role = false ∧ s.links[x].readyRem = true then .contract else .transition) ∧
        LinksBut x s t ∧ answerOf via t = some ⟨0, []⟩ ∧ t.taps = s.taps ∧ t.sys = s.sys ∧ t.tie = s.tie) ∧
    (Accepts 0x0704 via args s → s.links[x].inForce = true →
      ∃ t, exec (.lnkSetContractVoid via args) s = .next t ∧ Voided x 1 s t ∧ answerOf via t = some ⟨0, []⟩ ∧
        (t.links[x].txq.any fun m => decide (m.type = 0x08)) = true) ∧
    (Accepts 0x0704 via args s → s.links[x].inForce = false →
      exec (.lnkSetContractVoid via args) s = .next (answer via 0x70 [] s)) ∧
    (x.val = 3 → Accepts 0x0705 via args s → s.links[x].role = true → s.links[x].inForce = true →
      s.sys.longPress = false →
      ((s.links[x].cwMin * 250 : Nat) : Int) ≤ s.sys.vStr → s.sys.vStr ≤ ((s.links[x].cwMax * 250 : Nat) : Int) →
      ∃ t, exec (.lnkSetTieClose via args) s = .next t ∧ t.tie = { s.tie with en := true } ∧ LinksBut x s t ∧
        (s.tie.en = false → s.links[x].state = .transition → t.links[x].tTransition = true ∧
          t.links[x].tTieClose = false) ∧ t = answer via 1 [] { s with tie := t.tie, links := t.links }) ∧
    (x.val = 3 → Accepts 0x0705 via args s → ∃ t, exec (.lnkSetTieOpen via args) s = .next t ∧
      t.links[x] = { s.links[x] with acted := 6 } ∧ LinksBut x s t ∧
      t = answer via 1 [] { s with tie := { s.tie with en := false }, links := t.links }))) ∧
  (∀ (via : Via) (args : List Word) (s : State) (x : Fin 4), arg args 0 = x.val →
    (Accepts 0x0702 via args s → arg args 1 = 0x0A → s.links[x].attached = true → linkFree s x = none →
      ∃ t, exec (.lnkSend via args) s = .next t ∧
        t.links[x].txq = s.links[x].txq ++ [{ cls := .host, type := 0x0A, objs := [], via := some via }] ∧
        t.links[x] = { s.links[x] with txq := t.links[x].txq, acted := 6 } ∧ OnlyLink x s t) ∧
    (Accepts 0x0702 via args s → arg args 1 = 0x0A → s.links[x].attached = false →
      exec (.lnkSend via args) s = .next (answer via 0x30 [] s)) ∧
    (∀ type n : Nat, Accepts 0x0702 via args s → type < 256 → n < 16 → arg args 1 = type + 256 * n →
      let bare := (type = 0x01 ∨ type = 0x02 ∨ type = 0x03 ∨ type = 0x09 ∨ type = 0x0A) ∧ n = 0
      let withObjects := type = 0x10 ∧ (n = 2 ∨ n = 4 ∨ n = 6) ∨ type = 0x11 ∧ n = 2 ∨ type = 0x20 ∧ 1 ≤ n ∧ n ≤ 7
      let listed := bare ∨ withObjects
      let objs := (tabulate 7 fun k => BitVec.ofNat 32 (arg2 args (2 + 2 * k.val))).take n
      let answers := type = 0x01 ∨ type = 0x02 ∨ type = 0x03
      (¬ listed → exec (.lnkSend via args) s = .next (answer via 0x21 [] s)) ∧
      (listed → s.links[x].attached = true → linkFree s x = none →
        (answers → s.links[x].reqWaiting = false → exec (.lnkSend via args) s = .next (answer via 0x30 [] s)) ∧
        (asksRelay type objs = true → s.links[x].inForce = false →
          exec (.lnkSend via args) s = .next (answer via 0x70 [] s)) ∧
        ((answers → s.links[x].reqWaiting = true) → (asksRelay type objs = true → s.links[x].inForce = true) →
          ∃ t, exec (.lnkSend via args) s = .next t ∧
            t.links[x].txq = s.links[x].txq ++ [{ cls := .host, type := type, objs := objs, via := some via }] ∧
            t.links[x].reqWaiting = (s.links[x].reqWaiting && !decide answers) ∧
            t.links[x] = { s.links[x] with
              txq := t.links[x].txq, reqWaiting := t.links[x].reqWaiting, acted := 6 } ∧ OnlyLink x s t))) ∧
    (∀ (m : Msg) (ms : List Msg), Accepts 0x0703 via args s → linkFree s x = none → s.links[x].rx = m :: ms →
      ∃ t, exec (.lnkRecv via args) s = .next t ∧ t.links[x] = { s.links[x] with rx := ms, acted := 6 } ∧ LinksBut x s t ∧
        t = answer via 0 ([word (m.type + 256 * m.objs.length), word m.ctr.toNat]
          ++ m.objs.flatMap fun o => wordsOf 2 o.toNat) { s with links := t.links }) ∧
    (Accepts 0x0703 via args s → linkFree s x = none → s.links[x].rx = [] → exec (.lnkRecv via args) s = .next (answer via 0x11 [] s)) ∧
    (Accepts 0x0706 via args s → s.links[x].attached = true → s.links[x].swapOwn = false → s.links[x].swapHeld = false →
      s.links[x].tSwapRetry = false → linkFree s x = none →
      ∃ t, exec (.lnkSwapRole via args) s = .next t ∧ t.links[x].swapOwn = true ∧ t.links[x].swapVia = some via ∧
        t.links[x].txq = s.links[x].txq ++ [{ cls := .host, type := 0x07, objs := [], via := none }] ∧
        OnlyLink x s t) ∧
    (Accepts 0x0707 via args s → ∃ res, exec (.lnkGetStatus via args) s = .next (answer via 0 res s) ∧ res.length = 6 ∧
      res.getD 0 0 = word (linkCode s.links[x].state) ∧ (res.getD 1 0).getLsbD 0 = s.links[x].role ∧
      res.getD 2 0 = word s.links[x].cwMin ∧ res.getD 3 0 = word s.links[x].cwMax ∧
      res.getD 4 0 = word s.links[x].ciLim))

/-- Attachment: the pilot's way through DEBOUNCE to attached, with the role fixed and counters cleared, and back
(R278, R280, R281, R283). The responder's repeat and the role swap: presentations change, the pilot falls and rises
again, and the roles are exchanged; without it the port goes BLANK; a time that runs out is the port's fourth rank of
events. Only port D comes to present source (R279, R282, R296, R300, R302, R303). Rows for the end of a time assert
that it has passed (log entry 4). That a dual-role port begins as sink, and the outcomes of a swap that ends, are the
model's choice (log entry 22). -/
def Obligations.LinksAttachDetachAndSwapRoles : Prop :=
  (∀ (x : Fin 4) (v : Int) (s : State), s.powered = true →
    (s.links[x].state = .unattached → 260 ≤ v → v ≤ 560 → ∃ t, exec (.pilotInBand x v) s = .next t ∧
      t.links[x] = { s.links[x] with state := .debounce, pilot := v } ∧ OnlyLink x s t) ∧
    (s.links[x].state = .unattached → pilotRated v = true → (v < 260 ∨ 560 < v) →
      ∃ t, exec (.pilotInBand x v) s = .next t ∧
      t.links[x] = { s.links[x] with pilot := v } ∧ OnlyLink x s t) ∧
    (s.links[x].state = .debounce → pilotRated v = true → (v < 260 ∨ 560 < v) →
      ∃ t, exec (.debounceOut x v) s = .next t ∧
      t.links[x] = { s.links[x] with state := .unattached, pilot := v } ∧ OnlyLink x s t) ∧
    (s.links[x].state = .debounce → (s.links[x].acted = 0 ∨ 4 < s.links[x].acted) → ∃ t, exec (.attach x) s = .next t ∧ t.links[x].state = .attached ∧
      t.links[x].role = (decide (s.links[x].present = .source) ||
        (decide (s.links[x].present = .dual) && s.links[x].phaseSource)) ∧
      t.links[x].lead = t.links[x].role ∧ t.links[x].txCtr = 0 ∧ t.links[x].rxCtr = 0 ∧ t.links[x].rxValid = false ∧
      t.links[x].modes = 0 ∧ t.links[x].evAttach = true ∧ t.links[x].rx = s.links[x].rx ∧ LinksBut x s t ∧
      (t.links[x].role = true → t.ports[x].state = .disabled) ∧ PortsBut x s t ∧ t.sys = s.sys) ∧
    (s.links[x].state = .unattached → s.links[x].present = .dual → (s.links[x].acted = 0 ∨ 4 < s.links[x].acted) →
      ∃ t, exec (.dualRolePhase x) s = .next t ∧
        t.links[x] = { s.links[x] with phaseSource := !s.links[x].phaseSource, acted := 4 } ∧
        (s.links[x].phaseSource = true → OnlyLink x s t) ∧
        (s.links[x].phaseSource = false → t.ports[x].state = .disabled ∧ PortsBut x s t ∧ LinksBut x s t ∧
          t = { s with links := t.links, ports := t.ports, hub := t.hub, taps := t.taps })) ∧
    (s.links[x].attached = true → pilotRated v = true → (v < 260 ∨ 560 < v) → ∃ t, exec (.pilotLoss x v) s = .next t ∧
      t.links[x].state = .blank ∧ t.links[x].inForce = false ∧ t.links[x].evDetach = true ∧ t.links[x].txq = [] ∧
      t.links[x].flight = none ∧ t.links[x].rx = s.links[x].rx ∧ LinksBut x s t ∧
      (x.val = 3 → s.links[x].role = true → t.tie.en = false) ∧ t.sys = s.sys ∧ t.ctrs = s.ctrs) ∧
    (s.links[x].state = .blank → (s.links[x].acted = 0 ∨ 4 < s.links[x].acted) → ∃ t, exec (.blankEnd x) s = .next t ∧
      t.links[x] = { s.links[x] with state := .unattached, acted := 4 } ∧ OnlyLink x s t)) ∧
  (∀ (x : Fin 4) (v : Int) (s : State), s.powered = true → (s.links[x].acted = 0 ∨ 4 < s.links[x].acted) →
    (s.links[x].tResponder = true → s.links[x].attached = true → s.links[x].role = false →
      (s.sys.st = .boot ∨ s.sys.st = .recovery) → ∃ t, exec (.responderRepeat x) s = .next t ∧
        (t.links[x].txq.any fun m => decide (m.type = 0x0A)) = true ∧ t.links[x].tResponder = true ∧ OnlyLink x s t) ∧
    (∀ via : Via, s.links[x].tSwapAnswer = true → s.links[x].swapVia = some via →
      ∃ t, exec (.swapAnswerTimeout x) s = .next t ∧ answerOf via t = some ⟨0, [3]⟩ ∧
        t.links[x] = { s.links[x] with swapOwn := false, tSwapAnswer := false, swapVia := none, acted := 4 } ∧
        LinksBut x s t) ∧
    (s.links[x].tSwapRetry = true → s.links[x].swapHeld = true → ∃ t, exec (.swapRetry x) s = .next t ∧
      t.links[x].swapHeld = false ∧ t.links[x].swapOwn = true ∧ t.links[x].tSwapRetry = false ∧ (t.links[x].txq.any fun m => decide (m.type = 0x07)) = true ∧ OnlyLink x s t) ∧
    (s.links[x].state = .swap → s.links[x].role = true → ∃ t, exec (.swapPresentation x) s = .next t ∧
      t.links[x] = { s.links[x] with phaseSource := false, acted := 4 } ∧ OnlyLink x s t) ∧
    (s.links[x].state = .swap → s.links[x].role = false → -3000 ≤ v → v < 260 →
      ∃ t, exec (.swapPilotLow x v) s = .next t ∧ LinksBut x s t ∧ PortsBut x s t ∧
        t.links[x] = { s.links[x] with phaseSource := s.links[x].phaseSource || decide (x = 3), pilot := v } ∧
        (x = 3 → t.ports[x].state = .disabled) ∧ (x ≠ 3 → OnlyLink x s t)) ∧
    (s.links[x].state = .swap → 260 ≤ v → v ≤ 560 → s.links[x].phaseSource ≠ s.links[x].role →
      ∃ t, exec (.swapAttach x v) s = .next t ∧ t.links[x].state = .attached ∧
        t.links[x].role = (!s.links[x].role) ∧ t.links[x].lead = (!s.links[x].role) ∧ t.links[x].txCtr = 0 ∧
        t.links[x].rxCtr = 0 ∧ t.links[x].modes = 0 ∧ t.links[x].evSwap = true ∧ LinksBut x s t ∧
        (s.ports[x].state ≠ .online → t.taps = s.taps)) ∧
    (s.links[x].state = .swap → ∃ t, exec (.swapWindowEnd x) s = .next t ∧ t.links[x].state = .blank ∧
      t.links[x].txq = [] ∧ LinksBut x s t ∧ (s.ports[x].state ≠ .online → t.taps = s.taps) ∧ t.sys = s.sys))

/-- Transmission: an acknowledgement goes first, the front message next; a collision backs off, the third abandons
with outcome 3; two retries follow a missing acknowledgement; the right acknowledgement completes. What goes out is a
frame with its header, its objects and their CRC. The ends of the two waits are timers of the link, an acknowledgement
is a received message, and neither acts after a higher rank of its sample (R282, R284 to R288). Rows for the end of a
time assert that it has passed (log entry 4). -/
def Obligations.TransmissionAcknowledgesAndRetries : Prop :=
  ∀ (x : Fin 4) (s : State), s.powered = true →
    (∀ (c : BitVec 3) (cs : List (BitVec 3)), s.links[x].acksDue = c :: cs → s.links[x].attached = true → s.links[x].backoff = false →
      ∃ t, exec (.messageTransmit x false) s = .next t ∧
        t.links[x] = { s.links[x] with acksDue := cs, ackCollisions := 0
                                       outFrame := some (s.links[x].frame 0 [] c) } ∧ OnlyLink x s t) ∧
    (∀ (type : Nat) (objs : List (BitVec 32)) (ctr : BitVec 3), type < 256 → objs.length < 8 →
      let f := s.links[x].frame type objs ctr
      frameOk f true = true ∧ msgOf f = ⟨type, objs, s.links[x].role, s.links[x].lead, ctr⟩) ∧
    (∀ (m : TxMsg) (ms : List TxMsg), s.links[x].acksDue = [] → s.links[x].flight = none → s.links[x].txq = m :: ms →
      s.links[x].attached = true → s.links[x].backoff = false →
      (∃ t, exec (.messageTransmit x false) s = .next t ∧ t.links[x].flight = some m ∧ t.links[x].txq = ms ∧
        t.links[x].retries = s.links[x].retries ∧ t.links[x].txCtr = s.links[x].txCtr ∧
        t.links[x].outFrame = some (s.links[x].frame m.type m.objs s.links[x].txCtr) ∧
        (m.type = 0x01 → t.links[x].acceptSent = true) ∧ OnlyLink x s t) ∧
      (s.links[x].collisions < 2 → ∃ t, exec (.messageTransmit x true) s = .next t ∧ t.links[x].flight = some m ∧
        t.links[x].resend = true ∧ t.links[x].backoff = true ∧ t.links[x].collisions = s.links[x].collisions + 1 ∧
        OnlyLink x s t) ∧
      (2 ≤ s.links[x].collisions → ∃ t, exec (.messageTransmit x true) s = .next t ∧ t.links[x].txq = ms ∧
        Abandoned x m s t)) ∧
    (∀ m : TxMsg, s.links[x].acksDue = [] → s.links[x].flight = some m → s.links[x].resend = true →
      s.links[x].attached = true → s.links[x].backoff = false →
      (∃ t, exec (.messageTransmit x false) s = .next t ∧ t.links[x].flight = some m ∧ t.links[x].resend = false ∧
        t.links[x].txq = s.links[x].txq ∧ t.links[x].txCtr = s.links[x].txCtr ∧
        t.links[x].outFrame = some (s.links[x].frame m.type m.objs s.links[x].txCtr) ∧ OnlyLink x s t) ∧
      (s.links[x].collisions < 2 → ∃ t, exec (.messageTransmit x true) s = .next t ∧
        t.links[x] = { s.links[x] with collisions := s.links[x].collisions + 1, backoff := true } ∧ OnlyLink x s t) ∧
      (2 ≤ s.links[x].collisions → ∃ t, exec (.messageTransmit x true) s = .next t ∧
        t.links[x].txq = s.links[x].txq ∧ Abandoned x m s t)) ∧
    (s.links[x].backoff = true → (s.links[x].acted = 0 ∨ 4 < s.links[x].acted) →
      ∃ t, exec (.collisionBackoffEnd x) s = .next t ∧ t.links[x] = { s.links[x] with backoff := false, acted := 4 } ∧
      OnlyLink x s t) ∧
    (0 < s.links[x].acted → s.links[x].acted ≤ 4 → exec (.collisionBackoffEnd x) s = .next s ∧
      exec (.acknowledgementWaitEnd x) s = .next s ∧ ∀ c : BitVec 3, exec (.acknowledgement x c) s = .next s) ∧
    (∀ m : TxMsg, s.links[x].flight = some m → s.links[x].resend = false → s.links[x].acted = 0 →
      (s.links[x].retries < 2 → ∃ t, exec (.acknowledgementWaitEnd x) s = .next t ∧
        t.links[x] = { s.links[x] with retries := s.links[x].retries + 1, txErr := s.links[x].txErr + 1
                                       resend := true, acted := 4 } ∧ OnlyLink x s t) ∧
      (2 ≤ s.links[x].retries → ∃ t, exec (.acknowledgementWaitEnd x) s = .next t ∧ t.links[x].flight = none ∧
        t.links[x].txCtr = s.links[x].txCtr + 1 ∧ t.links[x].retries = 0 ∧ LinksBut x s t ∧
        (∀ via : Via, m.via = some via → answerOf via t = some ⟨0, [1, word s.links[x].txCtr.toNat]⟩) ∧
        t.taps = s.taps ∧ t.sys = s.sys) ∧
      (m.type ≠ 0x09 → m.type ≠ 0x20 → m.cls ≠ .swapAnswer →
        ∃ t, exec (.acknowledgement x s.links[x].txCtr) s = .next t ∧ t.links[x].flight = none ∧
          t.links[x].txCtr = s.links[x].txCtr + 1 ∧ t.links[x].txMsgs = s.links[x].txMsgs + 1 ∧
          (∀ via : Via, m.via = some via → answerOf via t = some ⟨0, [0, word s.links[x].txCtr.toNat]⟩) ∧
          LinksBut x s t ∧ t.taps = s.taps ∧ t.sys = s.sys) ∧
      (∀ c : BitVec 3, c ≠ s.links[x].txCtr → exec (.acknowledgement x c) s = .next s))

/-- Reception: a valid frame is acknowledged and buffered once, a repeat is only acknowledged, a bad frame is counted,
a ninth message finds no room, and a frame in a sample that acted on a link event of higher rank is dropped; a Void
ranks before the commands, every other message after them. A frame is valid with no wrong code, its CRC and its COUNT
right (R282, R285, R286, R288, R289). What a received message of each type does on an attached link, in a sample with
no link event of higher rank: answers to a swap request, Ready, keep-alive, Void, Soft reset, Offer, vendor-defined
(R282, R288, R294, R297, R298, R300, R302, R305). That a type acts by a row of its own is the model's reading (log
entry 9). -/
def Obligations.ReceivedMessagesAreBufferedAndAct : Prop :=
  (∀ (x : Fin 4) (f : Frame) (ok : Bool) (s : State), s.powered = true → s.links[x].linked = true →
    let m := msgOf f
    (s.links[x].acted ≠ 0 → (m.type ≠ 0x08 ∨ s.links[x].acted ≤ 5) → exec (.messageReceived x f ok) s = .next s) ∧
    (s.links[x].acted = 0 ∨ m.type = 0x08 ∧ 5 < s.links[x].acted →
    ((ok = false ∨ f.crc ≠ frameCrc f.header f.objs ∨ field f.header 8 3 ≠ f.objs.length) →
      ∃ t, exec (.messageReceived x f ok) s = .next t ∧ OnlyLink x s t ∧
      t.links[x] = { s.links[x] with rxErr := s.links[x].rxErr + 1, evCrc := true }) ∧
    (frameOk f ok = true → m.role ≠ s.links[x].role → m.type ≠ 0x00 → m.type ≠ 0x05 → m.type ≠ 0x06 →
      ¬ (s.links[x].rxValid = true ∧ m.ctr = s.links[x].rxCtr ∧ m.type = s.links[x].rxType) →
      (s.links[x].rx.length < 8 → ∃ t, exec (.messageReceived x f ok) s = .next t ∧
        t.links[x].rx = s.links[x].rx ++ [m] ∧ t.links[x].acksDue = s.links[x].acksDue ++ [m.ctr] ∧
        t.links[x].rxCtr = m.ctr ∧ t.links[x].rxType = m.type ∧ t.links[x].rxValid = true ∧
        t.links[x].rxMsgs = s.links[x].rxMsgs + 1 ∧ OnlyLink x s t ∧
        ∃ u, exec (.messageReceived x f ok) t = .next u ∧ u.links[x].rx = t.links[x].rx ∧
          u.links[x].acksDue = t.links[x].acksDue ++ [m.ctr] ∧ OnlyLink x t u) ∧
      (8 ≤ s.links[x].rx.length → ∃ t, exec (.messageReceived x f ok) s = .next t ∧
        t.links[x] = { s.links[x] with evRxOvf := true } ∧ OnlyLink x s t)))) ∧
  (∀ (x : Fin 4) (s : State), s.powered = true → s.links[x].attached = true →
    (s.links[x].inForce = true → 5 < s.links[x].acted → ∃ t, exec (.void x) s = .next t ∧ Voided x 2 s t) ∧
    (s.links[x].acted = 0 →
    (∀ via : Via, s.links[x].swapOwn = true → s.links[x].swapVia = some via → s.links[x].inForce = false →
      (∃ t, exec (.accept x) s = .next t ∧ t.links[x].state = .swap ∧ t.links[x].swapOwn = false ∧
        answerOf via t = some ⟨0, [0]⟩ ∧ LinksBut x s t) ∧
      (∃ t, exec (.reject x) s = .next t ∧
        t.links[x] = { s.links[x] with swapOwn := false, tSwapAnswer := false, swapVia := none } ∧
        answerOf via t = some ⟨0, [2]⟩ ∧ LinksBut x s t ∧ t = answer via 0 [2] { s with links := t.links }) ∧
      (∃ t, exec (.wait x) s = .next t ∧
        t.links[x] = { s.links[x] with swapOwn := false, tSwapAnswer := false, swapVia := none, tSwapRetry := true } ∧
        answerOf via t = some ⟨0, [1]⟩ ∧ LinksBut x s t ∧ t = answer via 0 [1] { s with links := t.links })) ∧
    (s.links[x].swapOwn = false → s.links[x].offerPick = none →
      ∃ t, exec (.accept x) s = .next t ∧ t.links[x].acceptRecv = true ∧ t.links[x].readyRem = false ∧ OnlyLink x s t) ∧
    (s.links[x].role = false → s.links[x].state = .transition → ∃ t, exec (.ready x) s = .next t ∧
      t.links[x].state = .contract ∧ t.links[x].tReady = false ∧ t.links[x].kaVoid = 0 ∧ OnlyLink x s t) ∧
    (s.links[x].role = true → s.links[x].inForce = true → ∃ t, exec (.keepAliveRequest x) s = .next t ∧
      t.links[x].kaVoid = 0 ∧ (t.links[x].txq.any fun m => decide (m.type = 0x06)) = true ∧ OnlyLink x s t) ∧
    (s.links[x].role = false → ∃ t, exec (.keepAliveResponse x) s = .next t ∧
      t.links[x] = { s.links[x] with kaVoid := 0 } ∧ OnlyLink x s t) ∧
    (s.links[x].swapOwn = false → s.links[x].state ≠ .transition → (s.sys.st = .standby ∨ s.sys.st = .run) →
      ∃ t, exec (.roleSwapRequest x) s = .next t ∧ OnlyLink x s t ∧
        (t.links[x].txq.any fun m => decide (m.cls = .swapAnswer ∧
          m.type = if s.links[x].present = .dual then 1 else 2)) = true) ∧
    (s.links[x].inForce = true → ∃ t, exec (.void x) s = .next t ∧ Voided x 2 s t) ∧
    (s.links[x].inForce = true → ∃ t, exec (.softReset x) s = .next t ∧ Voided x 12 s t ∧
      t.links[x].txCtr = 0 ∧ t.links[x].rxCtr = 0 ∧ t.links[x].modes = 0) ∧
    (∀ v c : BitVec 32, s.links[x].role = false → (s.sys.st = .boot ∨ s.sys.st = .recovery) → s.ports[x].vin < 60000 →
      offerOk v c = true →
      ∃ t, exec (.offer x [v, c]) s = .next t ∧ OnlyLink x s t ∧ (t.links[x].offerPick.map (·.1)) = some v ∧
        (∀ p, t.links[x].offerPick = some p → p.2.toNat ≤ 160) ∧
        (t.links[x].txq.any fun m => decide (m.type = 0x11)) = true) ∧
    (∀ o : BitVec 32, vdCommand o = 2 → vdKind o = 1 → vdMode o = 1 → s.links[x].enterAsked.getLsbD 0 = true →
      ∃ t, exec (.vendorDefined x o) s = .next t ∧ t.links[x].modes.getLsbD 0 = true ∧
        t.links[x].enterAsked.getLsbD 0 = false ∧ OnlyLink x s t)))

/-- The timers of a contract: keep-alive, its 12 s, window confirmation, transition, Ready and negotiation ends, each
voiding with its own cause; a time that ends in a sample which acted on a link event of the same or a higher rank does
nothing (R282, R293, R294, R295, R297, R298). The tie trips above 1.25 × the contract's current and 2 A over it, and
not below (R296). Rows for the end of a time assert that it has passed (log entry 4). -/
def Obligations.ContractsEndWithTheirCause : Prop :=
  (∀ (x : Fin 4) (s : State), s.powered = true →
    (0 < s.links[x].acted → s.links[x].acted ≤ 4 → exec (.keepAlive x) s = .next s ∧
      exec (.keepAliveTimeout x) s = .next s ∧ exec (.transitionTimeout x) s = .next s ∧
      exec (.readyTimeout x) s = .next s ∧ exec (.negotiationTimeout x) s = .next s) ∧
    (s.links[x].acted = 0 ∨ 4 < s.links[x].acted →
    (s.links[x].state = .contract → s.links[x].role = false → ∃ t, exec (.keepAlive x) s = .next t ∧
      (t.links[x].txq.any fun m => decide (m.type = 0x05)) = true ∧
      t.links[x] = { s.links[x] with txq := t.links[x].txq, acted := 4 } ∧ OnlyLink x s t) ∧
    (s.links[x].state = .contract → s.links[x].inForce = true → ∃ t, exec (.keepAliveTimeout x) s = .next t ∧
      Voided x 3 s t ∧ t.links[x].evKa = true ∧ t.links[x].state = .attached) ∧
    (∀ v : Int, s.links[x].state = .transition → s.links[x].role = true →
      ((s.links[x].cwMin * 250 : Nat) : Int) ≤ v → v ≤ ((s.links[x].cwMax * 250 : Nat) : Int) →
      portRated v = true → ∃ t, exec (.windowConfirm x v) s = .next t ∧ t.links[x].state = .contract ∧
        (x.val = 3 → s.links[x].inForce = true → tieInWindow t = true) ∧ t.links[x].tTransition = false ∧
          t.ports[x].vin = v ∧
        (s.links[x].readyDue = true → (t.links[x].txq.any fun m => decide (m.type = 0x04)) = true) ∧
        LinksBut x s t ∧ PortsBut x s t ∧ t = { s with links := t.links, ports := t.ports }) ∧
    (s.links[x].tTransition = true → s.links[x].inForce = true → ∃ t, exec (.transitionTimeout x) s = .next t ∧
      Voided x 4 s t ∧ t.links[x].evTransFail = true ∧ t.tie.en = false ∧ t.tie.timeout = true) ∧
    (s.links[x].tReady = true → s.links[x].inForce = true → ∃ t, exec (.readyTimeout x) s = .next t ∧
      Voided x 5 s t ∧ t.links[x].evTransFail = true) ∧
    (s.links[x].tNegotiation = true → s.links[x].inForce = true → ∃ t, exec (.negotiationTimeout x) s = .next t ∧
      Voided x 6 s t ∧ t.tie.en = false))) ∧
  (∀ (i : Int) (s : State), s.powered = true → s.tie.en = true → s.links[(3 : Fin 4)].inForce = true →
    let lim := s.links[(3 : Fin 4)].ciLim
    (((25 * lim : Nat) : Int) < 4 * i → ((5 * lim + 200 : Nat) : Int) < i →
      ∃ t, exec (.tieTrip i) s = .next t ∧ t.tie.en = false ∧ t.tie.trip = true ∧ Voided 3 7 s t) ∧
    ((4 * i ≤ ((25 * lim : Nat) : Int) ∨ i ≤ ((5 * lim + 200 : Nat) : Int)) →
      exec (.tieTrip i) s = .next { s with tie := { s.tie with cur := i } }))

/-! ### Watchdog -/

/-- `WDG_DISABLE` with its key stops the watchdog with an alert and a record; a wrong key is recorded and counted, the
third enables and locks; every BOOT starts with the watchdog enabled (R334). With it the other commands that set or
read the watchdog (R272, R331, R337). -/
def Obligations.WatchdogIsDisabledOnlyByItsKey : Prop :=
  ∀ (via : Via) (args : List Word) (s : State),
    (Accepts 0x0802 via args s → argW args 0 = 0x7A3C → argW args 1 = 0xC5E1 → argW args 2 = 0x1D96 →
      ∃ t, exec (.wdgDisable via args) s = .next t ∧ answerOf via t = some ⟨0, []⟩ ∧ t.wdg.enabled = false ∧
        wdgRuns t = false ∧ t.wdg.fails = 0 ∧ t.wdg.checkin = 0 ∧ t.wdg.badKeys = s.wdg.badKeys ∧
        t.wdg.locked = s.wdg.locked ∧ t.alr.nextSeq = s.alr.nextSeq + 1 ∧
        (s.alr.queue.length < 64 → (t.alr.queue.getLast?.map (·.cls)) = some 3) ∧
        (s.bbx.windows = [] → t.bbx.nextSeq = s.bbx.nextSeq + 1) ∧
        t = answer via 0 [] { s with wdg := t.wdg, bbx := t.bbx, alr := t.alr, bus := t.bus }) ∧
    (Accepts 0x0802 via args s →
      ¬ (argW args 0 = 0x7A3C ∧ argW args 1 = 0xC5E1 ∧ argW args 2 = 0x1D96) →
      ∃ t, exec (.wdgDisable via args) s = .next t ∧ answerOf via t = some ⟨0x21, []⟩ ∧
        t.wdg.badKeys = min 3 (s.wdg.badKeys + 1) ∧ (s.bbx.windows = [] → t.bbx.nextSeq = s.bbx.nextSeq + 1) ∧
        (s.wdg.badKeys < 2 → t.wdg = { s.wdg with badKeys := s.wdg.badKeys + 1 }) ∧
        (2 ≤ s.wdg.badKeys → t.wdg.locked = true ∧ t.wdg.enabled = true) ∧
        t = answer via 0x21 [] { s with wdg := t.wdg, bbx := t.bbx }) ∧
    (∀ (strap : BitVec 3) (low : Bool),
      (∀ p : HkPath, s.sys.st = .off ∨ s.sys.st = .ship → pathRated p = true → pathUp p = true →
        ∃ t, exec (.hkPathQualify p strap low) s = .next t ∧
        (t.sys.st = .boot → t.wdg.enabled = true) ∧
        (tapPath p = false → t.sys.st = .boot)) ∧
      (s.powered = true → s.sys.longPress = true → s.sys.hkLost = false →
        ∃ t, exec (.longPressReset strap) s = .next t ∧ t.sys.st = .boot ∧ t.wdg.enabled = true) ∧
      ((s.sys.st = .standby ∨ s.sys.st = .recovery) ∧ (s.sys.chg = [.reset] ∨ s.sys.chg = [.bootFw]) ∨
          s.sys.st = .safe ∧ s.sys.chg = [.reset] →
        s.sys.acted = 0 → ∃ t, exec .deferredStateChange s = .next t ∧ t.sys.st = .boot ∧
          t.wdg.enabled = true ∧ t.sys.addr = s.sys.strap)) ∧
    (∀ (tok : Word) (pcs : List (BitVec 32)), wdgRuns s = true → s.sys.st = .boot → s.wdg.grace = false →
      s.wdg.count < s.wdg.openT → ∃ t, exec (.wdgService 0 tok pcs) s = .next t ∧ t.sys.st = .boot ∧
        t.sys.recReq = true ∧ t.wdg.enabled = true) ∧
    (Accepts 0x0801 via args s → 1 ≤ arg args 0 → arg args 0 ≤ 7 → exec (.wdgSetLadder via args) s =
      .next (answer via 0 [] { s with wdg := { s.wdg with n := arg args 0 } })) ∧
    (∀ (e : Evidence) (es : List Evidence), Accepts 0x0805 via args s → arg args 0 = 0 → s.wdg.evidence = e :: es →
      ∃ res, exec (.wdgGetEvidence via args) s = .next (answer via 0 res s) ∧ res.getLast? = some e.missing ∧
        res.getD (res.length - 2) 0 = word e.rung) ∧
    (Accepts 0x0805 via args s → arg args 0 = 0 → s.wdg.evidence = [] →
      exec (.wdgGetEvidence via args) s = .next (answer via 0x22 [] s))

/-- Once locked the watchdog stays locked through every step until the module loses power, and the lock denies the
three commands; `WDG_ENABLE` and every entry to RUN enable a disabled watchdog with a grace period, whose count the
step has let run one tick at most, and an enable of an enabled one changes nothing (R335, R336). -/
def Obligations.LockStandsAndRunIsWatched : Prop :=
  (∀ s t : State, step s = .next t → s.wdg.locked = true →
    t.wdg.locked = true ∨ t.sys.st = .off ∨ t.sys.st = .ship ∨
      ((s.sys.st = .off ∨ s.sys.st = .ship) ∧ t.sys.st = .boot)) ∧
  (∀ s t : State, step s = .next t → s.sys.st ≠ .run → t.sys.st = .run →
    t.wdg.enabled = true ∧ (s.wdg.enabled = false → t.wdg.grace = true ∧ t.wdg.count ≤ 1)) ∧
  ∀ (via : Via) (args : List Word) (s : State),
    (Accepts 0x0803 via args s → ∃ t, exec (.wdgEnable via args) s = .next t ∧ t.wdg.enabled = true ∧
      (s.wdg.enabled = false → t.wdg.grace = true ∧ t.wdg.count = 0) ∧ (s.wdg.enabled = true → t.wdg = s.wdg) ∧
      t = answer via 0 [] { s with wdg := t.wdg }) ∧
    (Accepts 0x0804 via args s → ∃ t, exec (.wdgSetLock via args) s = .next t ∧ t.wdg.enabled = true ∧
      t.wdg.locked = true ∧ t = answer via 0 [] { s with wdg := t.wdg }) ∧
    (Accepts 0x0102 via args s → s.wdg.enabled = false → ∃ t, exec (.sysRun via args) s = .next t ∧
      t.wdg.enabled = true ∧ t.wdg.grace = true ∧ t.wdg.count = 0) ∧
    (s.powered = true → s.sys.cores.getLsbD 0 = true → waits via s = false → isTaken via s = false →
      s.wdg.locked = true → s.sys.st = .standby →
      exec (.wdgSetLadder via args) s = .next (answer via 0x31 [] s) ∧
      exec (.wdgDisable via args) s = .next (answer via 0x31 [] s) ∧
      exec (.wdgEnable via args) s = .next (answer via 0x31 [] s))

/-- A service inside the window with every required bit and the right token is accepted: the count and F return to 0,
the pair and mask written before come into force, and the new challenge is not 0 (R323, R324, R326, R328, R331). A
service outside the window, without a required bit or with a wrong token is a failure with its own cause: F rises, a
grace period begins, the challenge is drawn anew and not 0; in BOOT the rung is a module reset with recovery
requested, which leaves the evidence and the count of failures (R324, R326, R328, R330, R331, R333, R337, R357, R358).
That the evidence survives the module reset of a rung in BOOT is the model's choice (log entry 24). -/
def Obligations.ServiceIsJudgedByWindowMaskAndToken : Prop :=
  (∀ (tok : Word) (pcs : List (BitVec 32)) (s : State), wdgRuns s = true → s.wdg.grace = false →
    s.wdg.openT ≤ s.wdg.count → s.wdg.count < s.wdg.closeT → effReq s &&& ~~~s.wdg.checkin = 0 →
    tok = (s.wdg.challenge ^^^ 0xA5C3).rotateLeft 5 + 0x3B1D →
    ∃ t, exec (.wdgService 0 tok pcs) s = .next t ∧ t.wdg.count = 0 ∧ t.wdg.fails = 0 ∧ t.wdg.checkin = 0 ∧
      t.wdg.grace = false ∧ t.wdg.challenge ≠ 0 ∧ t.wdg.expiries = s.wdg.expiries ∧
      (∀ p, s.wdg.nextPair = some p → t.wdg.openT = p.1 ∧ t.wdg.closeT = p.2) ∧
      (s.wdg.nextPair = none → t.wdg.openT = s.wdg.openT ∧ t.wdg.closeT = s.wdg.closeT) ∧
      t.wdg.reqMask = s.wdg.nextMask.getD s.wdg.reqMask ∧ t.wdg.locked = s.wdg.locked ∧
      t = { s with wdg := t.wdg, free := t.free } ∧
      (0 < t.wdg.openT → ∃ u, exec (.wdgService 0 tok pcs) t = .next u ∧
        u.wdg.expiries = min 0xFFFF (s.wdg.expiries + 1) ∧ u.wdg.challenge ≠ 0 ∧
        (s.sys.st ≠ .boot → u.wdg.lastCause = 2 ∧ u.wdg.expired = true ∧ u.wdg.fails = 1))) ∧
  (∀ (tok : Word) (pcs : List (BitVec 32)) (s : State) (cause : Nat), wdgRuns s = true →
    s.wdg.grace = false →
    (cause = 2 ∧ s.wdg.count < s.wdg.openT ∨
     cause = 1 ∧ s.wdg.openT ≤ s.wdg.count ∧ s.wdg.closeT ≤ s.wdg.count ∨
     cause = 4 ∧ s.wdg.openT ≤ s.wdg.count ∧ s.wdg.count < s.wdg.closeT ∧ effReq s &&& ~~~s.wdg.checkin ≠ 0 ∨
     cause = 3 ∧ s.wdg.openT ≤ s.wdg.count ∧ s.wdg.count < s.wdg.closeT ∧ effReq s &&& ~~~s.wdg.checkin = 0 ∧
       tok ≠ (s.wdg.challenge ^^^ 0xA5C3).rotateLeft 5 + 0x3B1D) →
    ∃ t, exec (.wdgService 0 tok pcs) s = .next t ∧
      t.wdg.expiries = min 0xFFFF (s.wdg.expiries + 1) ∧ t.wdg.challenge ≠ 0 ∧ t.wdg.checkin = 0 ∧ t.wdg.count = 0 ∧
      t.wdg.evidence.length = min 16 (s.wdg.evidence.length + 1) ∧ t.wdg.locked = s.wdg.locked ∧
      (∃ e ∈ t.wdg.evidence, e.cause = cause ∧ e.challenge = s.wdg.challenge) ∧
      (s.sys.st = .boot → t.sys.st = .boot ∧ t.sys.recReq = true ∧ t.sys.addr = s.sys.strap) ∧
      (s.sys.st ≠ .boot → t.wdg.fails = min 7 (s.wdg.fails + 1) ∧ t.wdg.lastCause = cause ∧ t.wdg.expired = true ∧
        t.wdg.grace = true ∧ t.ctrs = s.ctrs))

/-- The ladder in RUN: with F the failures in a row, F ≥ N leads to SAFE with CAUSE 0x3, F = 1 restarts the offending
core, and F between them restarts the control plane into HOLD with CAUSE 0x2; in BOOT every rung is a module reset
with recovery requested. A state change that ranks no higher than one of the same sampling period is discarded (R27,
R331, R332, R333, R357). Check-ins, setting writes and services of cores other than C0, and a core that comes back
(R251, R323, R325, R327, R328, R332). -/
def Obligations.LadderClimbsAndWritersAreKnown : Prop :=
  (∀ (pcs : List (BitVec 32)) (s : State), wdgRuns s = true →
    (s.sys.st = .boot → ∃ t, exec (.wdgLate pcs) s = .next t ∧ t.sys.st = .boot ∧ t.sys.recReq = true ∧
      t.sys.addr = s.sys.strap ∧ ∀ n : Fin 4, t.mbx[n].state = .empty) ∧
    (s.sys.st = .run →
    let f := min 7 (s.wdg.fails + 1)
    let miss := effReq s &&& ~~~s.wdg.checkin
    ∃ t, exec (.wdgLate pcs) s = .next t ∧ t.wdg.fails = f ∧ t.wdg.lastCause = 1 ∧
      (s.wdg.n ≤ f → s.sys.acted = 0 ∨ 4 < s.sys.acted → t.sys.st = .safe ∧ t.sys.cause = 3 ∧ t.wdg.lastRung = 3) ∧
      (f < s.wdg.n → f = 1 → t.sys.st = .run ∧ t.wdg.lastRung = 1 ∧
        t.sys.cores.getLsbD (offender 1 miss).val = false ∧
        ∀ c : Fin 8, c ≠ offender 1 miss → t.sys.cores.getLsbD c.val = s.sys.cores.getLsbD c.val) ∧
      (f < s.wdg.n → 1 < f → s.sys.acted = 0 ∨ 6 < s.sys.acted → t.sys.st = .hold ∧ t.sys.cause = 2 ∧
        t.wdg.lastRung = 2 ∧ t.sys.cores = 0))) ∧
  (∀ s : State, s.powered = true →
    (∀ (c : Fin 8) (bits : Word), ∃ t, exec (.wdgCheckin c bits) s = .next t ∧
      t.wdg.checkin = s.wdg.checkin ||| (bits &&& (3#16 <<< (2 * c.val))) ∧
      (s.sys.cores.getLsbD c.val = true → t.wdg.awaiting.getLsbD c.val = false) ∧
      t = { s with wdg := { s.wdg with checkin := t.wdg.checkin, awaiting := t.wdg.awaiting } }) ∧
    (∀ (pair : Nat × Nat) (mask : Word), 16 ≤ pair.1 → pair.1 ≤ 1024 → pair.1 + 16 ≤ pair.2 → pair.2 ≤ 4096 →
      exec (.wdgSettingWrite 0 (some pair) (some mask)) s =
        .next { s with wdg := { s.wdg with nextPair := some pair, nextMask := some mask } }) ∧
    (∀ pair : Nat × Nat, (pair.1 < 16 ∨ 1024 < pair.1 ∨ pair.2 < pair.1 + 16 ∨ 4096 < pair.2) →
      exec (.wdgSettingWrite 0 (some pair) none) s = .next s) ∧
    (∀ (c : Fin 8) (p : Option (Nat × Nat)) (m : Option Word), c ≠ 0 → exec (.wdgSettingWrite c p m) s = .next s) ∧
    (∀ (c : Fin 8) (tok : Word) (pcs : List (BitVec 32)), c ≠ 0 →
      ∃ t, exec (.wdgService c tok pcs) s = .next t ∧
      t.wdg = { s.wdg with foreign := true } ∧ t = { s with wdg := t.wdg, bbx := t.bbx }) ∧
    (∀ c : Fin 8, s.sys.st ≠ .hold → s.sys.cores.getLsbD c.val = false → s.sys.lostCmds = [] → s.taken = [] →
      s.mon.inFlight = false → s.mon.cmdWait = none →
      ∃ t, exec (.coreRestartDone c) s = .next t ∧ t.sys.cores = s.sys.cores ||| (1#8 <<< c.val) ∧ t.mbx = s.mbx ∧
        (1 ≤ c.val → c.val < 4 → t.taps = s.taps) ∧ (c.val = 3 → t.arb.frozen = false) ∧ (c.val ≠ 3 → t.arb = s.arb) ∧
        t.sys.fwFrom[c] = some s.sys.uptime ∧
        (c.val = 1 → s.rcp.running.isSome = true → s.rcp.phase ≠ .starting → s.rcp.phase ≠ .alone →
          t.rcp.phase = .init ∧ t.rcp.regs[(10 : Fin 32)] = 1)))

/-! ### Black box, recipes, performance units, firmware -/

/-- The commands and the window that read the black box change nothing but the answer and the window (R272, R346,
R347, R349). The write queue: the front record goes to both copies and then to the ring; a mismatch keeps it for
another try and the third in a row marks the copy failed; a record that the history ring would lose is carried forward
as a copy written before it; the mirror of the registers and a listing of the monitor show a record written; withheld
records are summed; the scrub repairs (R338, R342, R343, R344, R347, R349, R395). -/
def Obligations.BlackBoxWritesAndShowsItsRecords : Prop :=
  (∀ (via : Via) (args : List Word) (s : State),
    (Accepts 0x0806 via args s → ∃ res, exec (.bbxGetInfo via args) s = .next (answer via 0 res s) ∧ res.length = 6 ∧
      res.take 2 = wordsOf 2 (oldest s.bbx) ∧ (res.drop 2).take 2 = wordsOf 2 (newest s.bbx) ∧
      (res.getD 4 0).getLsbD 0 = s.bbx.okA ∧ (res.getD 4 0).getLsbD 1 = s.bbx.okB) ∧
    (Accepts 0x0807 via args s → heldRecs s.bbx ≠ [] → oldest s.bbx ≤ arg2 args 0 → arg2 args 0 ≤ newest s.bbx →
      ∃ t, exec (.bbxSeek via args) s = .next t ∧
        t.bbx = { s.bbx with
          winSeq := arg2 args 0, loadSeq := arg2 args 0, pane := 0, winBusy := true, winValid := false, winType := 0
          winLen := 0, win := [] } ∧
        t = answer via 0 [] { s with bbx := t.bbx }) ∧
    (∀ h : Held, Accepts 0x0808 via args s → oldest s.bbx ≤ arg2 args 0 → arg2 args 0 ≤ newest s.bbx →
      heldRec s.bbx (arg2 args 0) = some h → arg args 3 = 1 → arg args 2 < h.words.length →
      exec (.bbxRead via args) s = .next (if h.okA || h.okB then answer via 0 [h.words.getD (arg args 2) 0] s
        else answer via 0x60 [] s)) ∧
    (∀ p : BitVec 4, s.powered = true → exec (.bbxWinPaneWrite p) s = .next { s with bbx := { s.bbx with
      pane := p, loadSeq := s.bbx.winSeq, winBusy := true, winValid := false, winType := 0, winLen := 0, win := [] } }) ∧
    (∀ h : Held, s.powered = true → s.bbx.winBusy = true → heldRec s.bbx s.bbx.loadSeq = some h →
      ∃ t, exec .paneLoaded s = .next t ∧ t.bbx.winValid = true ∧ t.bbx.winBusy = false ∧ t.bbx.winType = h.type ∧
        t.bbx.winLen = h.words.length ∧ t.bbx.win = (h.words.drop (128 * s.bbx.pane.toNat)).take 128 ∧
        t.bbx.winDamaged = (!h.okA && !h.okB) ∧ t.bbx.winCopyB = (!h.okA && h.okB) ∧ t.bbx.ring = s.bbx.ring ∧
        t.bbx.queue = s.bbx.queue ∧ t = { s with bbx := t.bbx }) ∧
    (s.powered = true → s.bbx.winBusy = true → heldRec s.bbx s.bbx.loadSeq = none →
      ∃ t, exec .paneLoaded s = .next t ∧ t.bbx.winValid = false ∧ t.bbx.winNotHeld = true ∧ t.bbx.win = [] ∧
        t.bbx.ring = s.bbx.ring ∧ t = { s with bbx := t.bbx })) ∧
  (∀ s : State, s.powered = true →
    (∀ (r : BbxRec) (rs : List BbxItem), s.bbx.queue = .event r :: rs → s.bbx.okA = true → s.bbx.okB = true →
      r.okA = false → r.okB = false → s.bbx.forgets = [] →
      (ringWords s.bbx + eventCost r ≤ 163840 → ∃ t, exec (.bbxRecordWrite false false) s = .next t ∧
        t.bbx.queue = rs ∧ t.bbx.ring = s.bbx.ring ++ [{ r with okA := true, okB := true }] ∧ t.bbx.new = true ∧
        t.bbx.missA = 0 ∧ t.bbx.missB = 0 ∧ t.bbx.nextSeq = s.bbx.nextSeq ∧
        t.mon = (if s.mon.listing then
          { s.mon with out := s.mon.out ++ bbxWords { r with okA := true, okB := true } } else s.mon) ∧
        (∀ k : Fin 22, t.shown.aon.getD k.val 0 = aonReg t k.val) ∧
        t = { s with bbx := t.bbx, mon := t.mon, shown := { s.shown with aon := t.shown.aon } }) ∧
      (s.bbx.missA < 2 → ∃ t, exec (.bbxRecordWrite true false) s = .next t ∧
        t.bbx.queue = .event { r with okA := false, okB := true, spoil := r.spoil + 1 } :: rs ∧ t.bbx.missA = s.bbx.missA + 1 ∧
        t.bbx.writeFail = true ∧ t.bbx.okA = true ∧ t.bbx.ring = s.bbx.ring ∧ t = { s with bbx := t.bbx }) ∧
      (s.bbx.missA = 2 → ∃ t, exec (.bbxRecordWrite true false) s = .next t ∧ t.bbx.okA = false ∧
        t.bbx.okB = true ∧ t.bbx.queue = rs ∧ t.alr.nextSeq = s.alr.nextSeq + (if planeDown s then 0 else 1) ∧
        (t.shown.flt.getD 0 0).getLsbD 5 = true ∧
        t = { s with bbx := t.bbx, alr := t.alr, bus := t.bus, mon := t.mon, shown := t.shown })) ∧
    (∀ rs : List BbxItem, s.bbx.okA = true → s.bbx.okB = true → s.bbx.forgets = [] →
      (∀ h : HistRec, s.bbx.queue = .hist h :: rs → h.okA = false → h.okB = false → carriedCopy h s.bbx = none →
        ∃ t, exec (.bbxRecordWrite false false) s = .next t ∧ t.bbx.queue = rs ∧ t.bbx.new = true ∧
          t.bbx.hist.getLast? = some { h with okA := true, okB := true } ∧ t.bbx.ring = s.bbx.ring ∧
          t.bbx.snaps = s.bbx.snaps ∧ t.bbx.flush = s.bbx.flush ∧
          t = { s with bbx := t.bbx, mon := t.mon, shown := { s.shown with aon := t.shown.aon } }) ∧
      (∀ h : HistRec, s.bbx.queue = .hist h :: rs → h.okA = false → h.okB = false →
        ∀ c : HistRec, carriedCopy h s.bbx = some c →
        ∃ t, exec (.bbxRecordWrite false false) s = .next t ∧ t.bbx.queue = .hist h :: rs ∧ t.bbx.new = true ∧
          t.bbx.hist.getLast? = some { c with okA := true, okB := true } ∧ c.carried = true ∧ c.seq = s.bbx.nextSeq ∧
          t.bbx.nextSeq = s.bbx.nextSeq + 1 ∧ (∃ r ∈ s.bbx.hist, r.tap = c.tap ∧ r.cap = c.cap ∧ r.void = c.void) ∧
          t.mon = (if s.mon.listing then { s.mon with out := s.mon.out ++ (heldOf (.hist { c with okA := true, okB := true })).words }
            else s.mon) ∧
          t = { s with bbx := t.bbx, mon := t.mon, shown := { s.shown with aon := t.shown.aon } }) ∧
      (∀ r : SnapRec, s.bbx.queue = .snap r :: rs → r.okA = false → r.okB = false → r.spoil = 0 →
        ∃ t, exec (.bbxRecordWrite false false) s = .next t ∧ t.bbx.queue = rs ∧ t.bbx.new = true ∧
          t.bbx.snaps.getLast? = some { r with okA := true, okB := true } ∧ t.mtr.snapSeq = r.seq ∧
          t.mtr.snapSeen = true ∧ t.bbx.ring = s.bbx.ring ∧ t.bbx.hist = s.bbx.hist ∧ t.bbx.flush = s.bbx.flush ∧
          t = { s with bbx := t.bbx, mon := t.mon, mtr := t.mtr, shown := { s.shown with aon := t.shown.aon } })) ∧
    (∀ (key : Nat × Nat × Nat) (n : Nat), s.bbx.windows.find? (fun w => w.key = key) = some ⟨key, n⟩ →
      ∃ t, exec (.withholdWindowClose key) s = .next t ∧ (∀ w ∈ t.bbx.windows, w.key ≠ key) ∧
        t.bbx.nextSeq = s.bbx.nextSeq + (if 16 < n then 1 else 0) ∧
        (16 < n → ∃ r : BbxRec, t.bbx.queue.getLast? = some (.event r) ∧ r.type = 0x0E ∧
          r.payload.getLast? = some (word (n - 16))) ∧ t = { s with bbx := t.bbx }) ∧
    (∃ t, exec .bbxScrub s = .next t ∧ (∀ h ∈ heldRecs t.bbx, repairable t.bbx h.okA h.okB = false) ∧
      (heldRecs t.bbx).map (·.words) = (heldRecs s.bbx).map (·.words) ∧
      ((heldRecs s.bbx).any (fun h => repairable s.bbx h.okA h.okB) = false → t = s) ∧ t = { s with bbx := t.bbx }))

/-- `RCP_LOAD` puts its bytes, high byte first, at the even offset given, clears the verified flag, and leaves every
other byte and slot (R273, R373). Whether the flash write fails is a free value. The other recipe commands: key,
verification, start, stop, status (R273, R373, R375, R379, R382, R383). The verdict of a signature check and the
outcome of a flash write are free values. -/
def Obligations.RecipesAreLoadedVerifiedAndRun : Prop :=
  (∀ (via : Via) (args : List Word) (s : State) (k : Fin 8), Accepts 0x0902 via args s → arg args 0 = k.val →
    arg args 1 ≤ 2 → arg2 args 2 % 2 = 0 → 1 ≤ arg args 4 → arg args 4 ≤ 25 →
    arg2 args 2 + 2 * arg args 4 ≤ regionSize (arg args 1) → s.rcp.running ≠ some k →
    Memory.wf (region s.rcp.slots[k] (arg args 1)) = true →
    ∃ u, exec (.rcpLoad via args) s = .next (stored via [] s u) ∧ u.rcp.slots[k].verified = false ∧
      (∀ i, i < arg args 4 →
        memRead (region u.rcp.slots[k] (arg args 1)) (arg2 args 2 + 2 * i) =
          BitVec.ofNat 8 (arg args (5 + i) / 256) ∧
        memRead (region u.rcp.slots[k] (arg args 1)) (arg2 args 2 + 2 * i + 1) = BitVec.ofNat 8 (arg args (5 + i))) ∧
      (∀ a, (a < arg2 args 2 ∨ arg2 args 2 + 2 * arg args 4 ≤ a) →
        memRead (region u.rcp.slots[k] (arg args 1)) a = memRead (region s.rcp.slots[k] (arg args 1)) a) ∧
      (∀ r, r ≤ 2 → r ≠ arg args 1 → region u.rcp.slots[k] r = region s.rcp.slots[k] r) ∧
      (∀ j : Fin 8, j ≠ k → u.rcp.slots[j] = s.rcp.slots[j]) ∧
      u = { s with rcp := { s.rcp with slots := u.rcp.slots } }) ∧
  (∀ (via : Via) (args : List Word) (s : State),
    (Accepts 0x0901 via args s → arg args 0 ≤ 1 → ∃ u, exec (.rcpRegisterKey via args) s = .next (stored via [] s u) ∧
      (arg args 0 = 0 → (u.rcp.keyX.map fun b => b.length) = some 32 ∧ u.rcp.keyY = s.rcp.keyY) ∧
      (arg args 0 = 1 → (u.rcp.keyY.map fun b => b.length) = some 32 ∧ u.rcp.keyX = s.rcp.keyX) ∧
      u = { s with rcp := { s.rcp with keyX := u.rcp.keyX, keyY := u.rcp.keyY } }) ∧
    (∀ (k : Fin 8) (x y : List Byte), Accepts 0x0903 via args s → arg args 0 = k.val → s.rcp.running ≠ some k →
      s.rcp.keyX = some x → s.rcp.keyY = some y → headerOk s.rcp.slots[k] = true →
      ∃ u, exec (.rcpVerify via args) s = .next (if slotSigned (x ++ y) s.rcp.slots[k] then stored via [] s u
          else answer via 0x21 [] s) ∧
        u.rcp.slots[k] = { s.rcp.slots[k] with verified := true } ∧
        (∀ j : Fin 8, j ≠ k → u.rcp.slots[j] = s.rcp.slots[j]) ∧
        u = { s with rcp := { s.rcp with slots := u.rcp.slots } }) ∧
    (∀ k : Fin 8, Accepts 0x0903 via args s → arg args 0 = k.val → s.rcp.running ≠ some k → s.rcp.keyX.isSome = true →
      s.rcp.keyY.isSome = true → headerOk s.rcp.slots[k] = false →
      exec (.rcpVerify via args) s = .next (answer via 0x21 [] s)) ∧
    (∀ k : Fin 8, Accepts 0x0904 via args s → arg args 0 = k.val → s.rcp.slots[k].verified = true →
      (∀ n : Fin 32, (arg2 args 1).testBit n.val = true → ungovernable s n = false) →
      ∃ t, exec (.rcpStart via args) s = .next t ∧ answerOf via t = some ⟨0, []⟩ ∧ t.rcp.running = some k ∧
        t.rcp.phase = (if s.rcp.running.isSome then .starting else .init) ∧
        (s.rcp.running = none → t.rcp.regs[(10 : Fin 32)] = 0 ∧ t.rcp.regs[(2 : Fin 32)] = 0x10020000 ∧
          t.rcp.pc = BitVec.ofNat 32 (slotField s.rcp.slots[k] 0)) ∧
        t.rcp.data = s.rcp.slots[k].data ∧ t.rcp.inPage = .replicate 1088 0 ∧
        t.rcp.mask.toNat = arg2 args 1 ∧ t.rcp.slots = s.rcp.slots ∧
        (∀ n : Fin 32, t.taps[n].rcpReq = none ∧ t.taps[n].rcpCeil = 0 ∧
          (s.taps[n].rcpCeil = 0 → t.taps[n] = { s.taps[n] with rcpReq := none })) ∧
        t = answer via 0 [] { s with rcp := t.rcp, taps := t.taps }) ∧
    (Accepts 0x0905 via args s → ∃ t, exec (.rcpStop via args) s = .next t ∧ t.rcp.running = none ∧ t.rcp.phase = .idle ∧
      t.rcp.mask = 0 ∧ t.rcp.slots = s.rcp.slots ∧
      (∀ n : Fin 32, t.taps[n].rcpReq = none ∧ t.taps[n].rcpCeil = 0 ∧
        (s.taps[n].rcpCeil = 0 → t.taps[n] = { s.taps[n] with rcpReq := none })) ∧
      t = answer via 0 [] { s with rcp := t.rcp, taps := t.taps }) ∧
    (Accepts 0x0906 via args s → ∃ res, exec (.rcpGetStatus via args) s = .next (answer via 0 res s) ∧ res.length = 6 ∧
      res.getD 0 0 = (match s.rcp.running with | some k => word k.val | none => 0xFFFF) ∧
      (∀ k : Fin 8, (res.getD 1 0).getLsbD k.val = s.rcp.slots[k].verified) ∧
      res.getD 5 0 = word s.rcp.lastFault))

/-- The recipe engine's events: a tick calls the entry with its number, the outputs of a tick wait for the next
arbiter period, a counter may be read only as USER_READ allows, and overruns, time-outs, STOP and faults end the
recipe with their code (R376, R378, R380, R381, R382, R388). The performance commands and the dump: settings wait for
the boundary, selecting clears the counter, reading changes nothing, a dump appends one record (R274, R384, R385,
R386, R387). Rows for the end of a time assert that it has passed (log entry 4). The numbers of the CSRs are presumed
(log entry 66), and a0 of an accepted note is the model's choice (log entry 19). -/
def Obligations.RecipesTickAndPerformanceCounts : Prop :=
  (∀ s : State, c1Up s = true →
    (s.rcp.phase = .between → ∃ t, exec .recipeTick s = .next t ∧ t.rcp.phase = .tick ∧
      t.rcp.regs[(10 : Fin 32)] = BitVec.ofNat 32 s.rcp.tick ∧ t.rcp.regs[(2 : Fin 32)] = 0x10020000 ∧
      t.rcp.tick = (s.rcp.tick + 1) % 2 ^ 32 ∧ t.wdg.checkin.getLsbD 3 = true ∧
      t.rcp.inPage.take 4 = bytesOf 4 s.rcp.tick ∧ t.rcp.inPage.length = 64 + 32 * 32 ∧ t.taps = s.taps) ∧
    (s.rcp.phase = .tick → s.rcp.consec < 7 → ∃ t, exec .tickOverrun s = .next t ∧ t.rcp.phase = .between ∧
      t.rcp.overruns = min 0xFFFF (s.rcp.overruns + 1) ∧ t.rcp.consec = s.rcp.consec + 1 ∧
      t.rcp.running = s.rcp.running ∧ t = { s with rcp := t.rcp }) ∧
    (s.rcp.phase = .tick → 7 ≤ s.rcp.consec → ∃ t, exec .tickOverrun s = .next t ∧ t.rcp.running = none ∧
      t.rcp.lastFault = 5 ∧ ∀ n : Fin 32, t.taps[n].rcpReq = none) ∧
    (s.rcp.phase = .init → ∃ t, exec .initTimeout s = .next t ∧ t.rcp.running = none ∧ t.rcp.lastFault = 6 ∧
      t.rcp.mask = 0 ∧ ∀ n : Fin 32, t.taps[n].rcpReq = none ∧ t.taps[n].rcpCeil = 0 ∧
        (s.taps[n].rcpCeil = 0 → t.taps[n] = { s.taps[n] with rcpReq := none })) ∧
    (∀ out : List RcpOut, s.rcp.phase = .init → ∃ t, exec (.yield out ⟨[]⟩) s = .next t ∧
      t.rcp.phase = .between ∧
      t.rcp.running = s.rcp.running ∧ t.rcp.out = s.rcp.out ∧ t.rcp.data = s.rcp.data ∧
      (∀ k : Fin 8, s.rcp.running = some k → t.rcp.persist = memBytes s.rcp.data 0 (slotP s.rcp.slots[k])) ∧
      t = { s with rcp := t.rcp }) ∧
    (∀ out : List RcpOut, s.rcp.phase = .tick → ∃ t, exec (.yield out ⟨[]⟩) s = .next t ∧
      t.rcp.phase = .between ∧
      t.rcp.consec = 0 ∧ t.rcp.out = out ∧ t = { s with rcp := t.rcp }) ∧
    (∀ out : List RcpOut, s.rcp.phase = .tick → s.rcp.csr = [] →
      (s.perf[(1 : Fin 8)].userRead = true → ∀ k : Fin 8, ∃ t a b,
        exec (.yield out ⟨[.csrRead (0xC03 + k.val), .csrRead (0xC83 + k.val)]⟩) s = .next t ∧ t.rcp.phase = .between ∧
          t.rcp.csr = [(0xC03 + k.val, a), (0xC83 + k.val, b)] ∧
          (s.perf[(1 : Fin 8)].en = false → a = s.perf[(1 : Fin 8)].ctr[k].extractLsb' 0 32 ∧
            b = s.perf[(1 : Fin 8)].ctr[k].extractLsb' 32 32) ∧
          t = { s with rcp := t.rcp, perf := t.perf, free := t.free }) ∧
      (s.perf[(1 : Fin 8)].userRead = false → ∃ t, exec (.yield out ⟨[.csrRead 0xC00]⟩) s = .next t ∧ t.rcp.running = none ∧
        t.rcp.lastFault = 1 ∧ ∀ n : Fin 32, t.taps[n].rcpReq = none)) ∧
    (∀ (out : List RcpOut) (a v : BitVec 32), s.rcp.phase = .tick →
      (0x10000000 ≤ a.toNat → a.toNat + 4 ≤ 0x10020000 → a.toNat % 4 = 0 → Memory.wf s.rcp.data = true →
        ∃ t, exec (.yield out ⟨[.store a 2 v]⟩) s = .next t ∧ t.rcp.phase = .between ∧ t.rcp.out = out ∧
          natLE (memBytes t.rcp.data (a.toNat - 0x10000000) 4) = v.toNat ∧
          (∀ k : Nat, (k < a.toNat - 0x10000000 ∨ a.toNat - 0x10000000 + 4 ≤ k) →
            memRead t.rcp.data k = memRead s.rcp.data k) ∧ t = { s with rcp := t.rcp }) ∧
      (a.toNat % 4 ≠ 0 → ∃ t, exec (.yield out ⟨[.store a 2 v]⟩) s = .next t ∧ t.rcp.running = none ∧
        t.rcp.lastFault = 3 ∧ t.rcp.data = s.rcp.data) ∧
      (a.toNat % 4 = 0 → a.toNat < 0x10000000 → ∃ t, exec (.yield out ⟨[.store a 2 v]⟩) s = .next t ∧
        t.rcp.running = none ∧ t.rcp.lastFault = 2 ∧ t.rcp.data = s.rcp.data)) ∧
    (∀ a : List (BitVec 32), (s.rcp.phase = .init ∨ s.rcp.phase = .tick) → s.rcp.noteAt = none → s.bbx.windows = [] →
      ∃ t, exec (.note a) s = .next t ∧ t.rcp.regs[(10 : Fin 32)] = 0 ∧ t.rcp.noteAt = some s.sys.uptime ∧
        t.bbx.nextSeq = s.bbx.nextSeq + 1 ∧ t = { s with rcp := t.rcp, bbx := t.bbx }) ∧
    (∀ (a : List (BitVec 32)) (at' : Nat), (s.rcp.phase = .init ∨ s.rcp.phase = .tick) → s.rcp.noteAt = some at' → s.sys.uptime < at' + 1000 →
      exec (.note a) s = .next { s with rcp := { s.rcp with regs := s.rcp.regs.set 10 1 } }) ∧
    ((s.rcp.phase = .init ∨ s.rcp.phase = .tick) → ∃ t, exec .stop s = .next t ∧ t.rcp.running = none ∧
      t.rcp.lastFault = 7 ∧ t.rcp.slots = s.rcp.slots ∧ ∀ n : Fin 32, t.taps[n].rcpReq = none) ∧
    (∀ (code : Nat) (pc : BitVec 32), (s.rcp.phase = .init ∨ s.rcp.phase = .tick) → 1 ≤ code → code ≤ 4 →
      ∃ t, exec (.recipeFault code pc) s = .next t ∧ t.rcp.running = none ∧ t.rcp.lastFault = code ∧
        t.rcp.slots = s.rcp.slots ∧ ∀ n : Fin 32, t.taps[n].rcpReq = none)) ∧
  (∀ (via : Via) (args : List Word) (s : State) (c : Fin 8),
    (Accepts 0x0A01 via args s → arg args 0 = c.val → coreUp s c = true → arg args 1 < 4 → 256 ≤ arg args 2 →
      1 ≤ arg args 3 → arg args 3 ≤ 1000 → ∃ t, exec (.perfSetCtl via args) s = .next t ∧
        t.perf[c] = { s.perf[c] with
          next := some ((argW args 1).getLsbD 0, (argW args 1).getLsbD 1, arg args 2, arg args 3)
          nextUser := if c.val = 1 then some false else none } ∧
        (∀ d : Fin 8, d ≠ c → t.perf[d] = s.perf[d]) ∧ t = answer via 0 [] { s with perf := t.perf }) ∧
    (∀ k : Fin 8, Accepts 0x0A02 via args s → arg args 0 = c.val → coreUp s c = true → arg args 1 = k.val →
      arg args 2 ≤ 0x11 → ∃ t, exec (.perfSelect via args) s = .next t ∧ t.perf[c].sel[k] = arg args 2 ∧
        t.perf[c].ctr[k] = 0 ∧ (∀ j : Fin 8, j ≠ k → t.perf[c].sel[j] = s.perf[c].sel[j] ∧
          (s.perf[c].en = false ∨ s.perf[c].sel[j] = 0 → t.perf[c].ctr[j] = s.perf[c].ctr[j])) ∧
        (∀ d : Fin 8, d ≠ c → t.perf[d] = s.perf[d]) ∧
        t = answer via 0 [] { s with perf := t.perf, free := t.free }) ∧
    (∀ k : Fin 8, Accepts 0x0A03 via args s → arg args 0 = c.val → coreUp s c = true → arg args 1 = k.val →
      arg args 2 = 1 → behind (0x0A03, via, args) s = false → ∃ u,
        exec (.perfRead via args) s = .next (answer via 0 (wordsOf 4 u.perf[c].ctr[k].toNat) u) ∧
        (s.perf[c].en = false ∨ s.perf[c].sel[k] = 0 → u.perf[c].ctr[k] = s.perf[c].ctr[k]) ∧
        (∀ d : Fin 8, d ≠ c → u.perf[d] = s.perf[d]) ∧ u = { s with perf := u.perf, free := u.free }) ∧
    (Accepts 0x0A03 via args s → arg args 0 = c.val → behind (0x0A03, via, args) s = false → coreUp s c = false → arg args 1 = 0 → arg args 2 = 1 →
      exec (.perfRead via args) s = .next (answer via 0x40 [] s)) ∧
    (∀ (counts : List Nat) (cycles retired : Nat) (tags : List TagSeen), s.powered = true → coreUp s c = true →
      ∃ t, exec (.perfDump c counts ⟨cycles, retired⟩ tags) s = .next t ∧
        t.perf[c].cycle = BitVec.ofNat 64 cycles ∧ 
        t.perf[c].instret = s.perf[c].instret + BitVec.ofNat 64 (retired - s.perf[c].aheadRet) ∧
        t.perf[c].dumpSeq = s.perf[c].dumpSeq + 1 ∧
        (∀ (en tag : Bool) (mean period : Nat), s.perf[c].next = some (en, tag, mean, period) → t.perf[c].en = en ∧
          t.perf[c].tag = tag ∧ t.perf[c].mean = mean ∧ t.perf[c].period = period ∧ t.perf[c].next = none) ∧
        (∀ k : Fin 8, s.perf[c].sel[k] = 0x02 → s.perf[c].en = true →
          t.perf[c].ctr[k] = s.perf[c].ctr[k] + BitVec.ofNat 64 (retired - s.perf[c].ahead[k])) ∧
        (∀ k : Fin 8, 0x03 ≤ s.perf[c].sel[k] → s.perf[c].sel[k] ≤ 0x0D → s.perf[c].en = true →
          t.perf[c].ctr[k] = s.perf[c].ctr[k] + BitVec.ofNat 64 (counts.getD k.val 0 - s.perf[c].ahead[k])) ∧
        (∃ (off : Nat) (r : List Byte), t.perf[c].ring.getLast? = some (off, r) ∧ natLE (r.take 2) = r.length ∧
          off = (if 65536 < s.perf[c].offset + r.length then 16 else s.perf[c].offset) ∧
          t.perf[c].offset = off + r.length ∧ (s.perf[c].tag = false → r.length = 80)) ∧
        (s.perf[c].en = false → t.perf[c].ctr = s.perf[c].ctr) ∧
        (∀ d : Fin 8, d ≠ c → t.perf[d] = s.perf[d]) ∧ t = { s with perf := t.perf, free := t.free }))

/-- Staging: the declared size opens an erased bank that is invalid from then on, writes put their bytes there, and
only an image that passes its check makes the bank valid (R275, R366). Signature verdicts and flash outcomes are free.
Activation is noted for its moment, HOLD for a matching layout and BOOT otherwise; a trial that ends well raises the
rollback floor (R275, R368, R369, R370). The byte order of FW_STAGE_WRITE is the model's choice (log entry 25), and so
is the erased byte (log entry 12). -/
def Obligations.FirmwareIsStagedAndActivated : Prop :=
  (∀ (via : Via) (args : List Word) (s : State), s.fw.active ≤ 1 →
    (Accepts 0x0B01 via args s → ∃ res, exec (.fwGetInfo via args) s = .next (answer via 0 res s) ∧ res.length = 7 ∧
      res.getD 0 0 = word s.fw.active ∧ res.getD 6 0 = word (stageCode s.fw.stage)) ∧
    (Accepts 0x0B02 via args s → 1 ≤ arg2 args 0 → arg2 args 0 ≤ 8388608 →
      ∃ t, exec (.fwStageBegin via args) s = .next t ∧ t.fw.stage = .erasing ∧ t.fw.size = arg2 args 0 ∧
        (bankAt t (inactive s)).valid = false ∧ bankAt t s.fw.active = bankAt s s.fw.active ∧
        t.fw.active = s.fw.active ∧ t = answer via 1 [] { s with fw := t.fw }) ∧
    (s.powered = true → s.fw.stage = .erasing → ∃ t, exec .fwEraseComplete s = .next t ∧ t.fw.stage = .opened ∧
      (∀ a, memRead t.fw.mem a = 0xFF) ∧ t.fw.banks = s.fw.banks ∧ t = { s with fw := t.fw }) ∧
    (Accepts 0x0B03 via args s → arg2 args 0 % 2 = 0 → 1 ≤ arg args 2 → arg args 2 ≤ 27 → s.fw.stage = .opened →
      arg2 args 0 + 2 * arg args 2 ≤ s.fw.size → Memory.wf s.fw.mem = true →
      ∃ u, exec (.fwStageWrite via args) s = .next (stored via [] s u) ∧
        (∀ i, i < arg args 2 →
          memRead u.fw.mem (arg2 args 0 + 2 * i) = BitVec.ofNat 8 (arg args (3 + i) / 256) ∧
          memRead u.fw.mem (arg2 args 0 + 2 * i + 1) = BitVec.ofNat 8 (arg args (3 + i))) ∧
        (∀ a, (a < arg2 args 0 ∨ arg2 args 0 + 2 * arg args 2 ≤ a) → memRead u.fw.mem a = memRead s.fw.mem a) ∧
        u = { s with fw := { s.fw with mem := u.fw.mem } }) ∧
    (Accepts 0x0B04 via args s → s.fw.stage = .opened →
      exec (.fwStageVerify via args) s = .next (answer via 1 [] { s with fw := { s.fw with stage := .verifying } })) ∧
    (s.powered = true → s.fw.stage = .verifying → ∃ t, exec .fwVerifyComplete s = .next t ∧
      (imageOk s = true → t.fw.stage = .verified ∧ (bankAt t (inactive s)).valid = true ∧
        (bankAt t (inactive s)).rollback = natLE (memBytes s.fw.mem 14 2) ∧
          s.fw.floor ≤ (bankAt t (inactive s)).rollback) ∧
      (imageOk s = false → t.fw.stage = .failed ∧ t.fw.banks = s.fw.banks) ∧
      bankAt t s.fw.active = bankAt s s.fw.active ∧ t = { s with fw := t.fw })) ∧
  (∀ (via : Via) (args : List Word) (s : State),
    (Accepts 0x0B05 via args s → s.fw.stage = .verified →
      ((bankAt s (inactive s)).layout = s.fw.running ∨ s.sys.st ≠ .run) →
      exec (.fwActivate via args) s = .next (answer via 1 [] { s with sys := { s.sys with
        chg := s.sys.chg ++ [if s.sys.st = .recovery ∨ (bankAt s (inactive s)).layout ≠ s.fw.running then .bootFw
          else .holdFw] } })) ∧
    (Accepts 0x0B05 via args s → s.fw.stage ≠ .verified →
      exec (.fwActivate via args) s = .next (answer via 0x30 [] s)) ∧
    (s.sys.trial = true → (s.sys.st = .standby ∨ s.sys.st = .run) → exec .trialEnd s = .next { s with
      fw := { s.fw with floor := max s.fw.floor (bankAt s s.fw.active).rollback }
      sys := { s.sys with trial := false } }))

/-! ### Mailboxes, backplane, buses, registers -/

/-- A host mailbox goes EMPTY, PENDING, TAKEN, READY, EMPTY: the doorbell, the take with C0's checks in a new sampling
period, the posted result, which lets the next command of the same core run, the release; a full mailbox rejects the
whole access (R217, R240 to R247, R251, R254). An internal message joins the inbound box of a core; the ninth unread
one overwrites the oldest and is reported, and one to a powered-down island faults its sender (R23, R249, R250). That
COMMAND_TAKE begins a sampling period (log entry 48), and the numbering and the tag of internal messages (log entry
30), are the model's choices. -/
def Obligations.MailboxesGoThroughTheirStates : Prop :=
  (∀ (n : Fin 4) (s : State), s.powered = true →
    (∀ (op : Word) (args : List Word), s.mbx[n].state = .empty → ∃ t, exec (.doorbell n op args) s = .next t ∧ t.mbx[n].state = .pending ∧
      t.mbx[n].opcode = op ∧ t.mbx[n].accept = 0 ∧ t.bells = s.bells ++ [n] ∧
      (∀ k : Fin 30, t.mbx[n].args[k] = args.getD k.val s.mbx[n].args[k]) ∧
      (∀ m : Fin 4, m ≠ n → t.mbx[m] = s.mbx[m]) ∧ t = { s with mbx := t.mbx, bells := t.bells }) ∧
    (∀ (op : Word) (args : List Word), s.mbx[n].state ≠ .empty → exec (.doorbell n op args) s = .next s) ∧
    (s.sys.st ≠ .hold → c0Up s = true → s.bells.head? = some n → s.mbx[n].state = .pending →
      ∃ t, exec (.commandTake n) s = .next t ∧ t.mbx[n].seq = s.mbx[n].seq + 1 ∧ t.bells = s.bells.drop 1 ∧
        (∀ code : Nat, gate s.mbx[n].opcode.toNat (newPeriod s) = some code → t.mbx[n].state = .ready ∧ t.mbx[n].accept = 3 ∧
          t.mbx[n].code = code % 256 ∧ t.taken = s.taken) ∧
        (gate s.mbx[n].opcode.toNat (newPeriod s) = none → t.mbx[n].state = .taken ∧ t.taken = s.taken ++ [n] ∧
          t.mbx[n].accept = (if (s.taken.any fun k => decide (mbxCore s k = mbxCore s n)) ||
            !ownerUp s.mbx[n].opcode.toNat s.mbx[n].args.toList s then 2 else 1)) ∧
        (∀ m : Fin 4, m ≠ n → t.mbx[m] = s.mbx[m]) ∧
        t = { newPeriod s with mbx := t.mbx, bells := t.bells, taken := t.taken }) ∧
    (s.mbx[n].accept = 2 → exec (.resultPost n) s = .next s) ∧
    (∀ a : Answer, s.sys.st ≠ .hold → c0Up s = true → s.mbx[n].state = .taken → s.mbx[n].accept ≠ 2 →
      s.mbx[n].answer = some a →
      ∃ t, exec (.resultPost n) s = .next t ∧ t.mbx[n].state = .ready ∧ t.mbx[n].code = a.code % 256 ∧
        t.mbx[n].res = a.res.take 30 ∧ n ∉ t.taken ∧
        (∀ m : Fin 4, m ≠ n → t.mbx[m] = { s.mbx[m] with accept := t.mbx[m].accept }) ∧
        (∀ m : Fin 4, m ≠ n → m ∉ s.taken → t.mbx[m] = s.mbx[m]) ∧
        (∀ m : Fin 4, m ≠ n → (s.taken.filter fun k => k ≠ n).head? = some m → mbxCore s m = mbxCore s n →
          s.sys.cores.getLsbD (mbxCore s n).val = true → t.mbx[m].accept = 1) ∧
        t = { s with mbx := t.mbx, taken := t.taken }) ∧
    (s.mbx[n].state = .ready → ∃ t, exec (.mbxRelease n) s = .next t ∧
      t.mbx[n] = { s.mbx[n] with state := .empty, accept := 0, code := 0, res := [] } ∧
      (∀ m : Fin 4, m ≠ n → t.mbx[m] = s.mbx[m]) ∧ t = { s with mbx := t.mbx }) ∧
    (s.mbx[n].state ≠ .ready → exec (.mbxRelease n) s = .next s) ∧
    (∀ k : Fin 30, s.mbx[n].state ≠ .ready → ∃ t, exec (.earlyRead n k) s = .next t ∧
      t.mbx[n] = { s.mbx[n] with early := true } ∧ (∀ m : Fin 4, m ≠ n → t.mbx[m] = s.mbx[m]) ∧
      t = { s with mbx := t.mbx })) ∧
  (∀ (dst : Fin 8) (m : IntMsg) (s : State), s.powered = true → s.sys.cores.getLsbD m.sender.val = true →
    let msg : BoxMsg := ⟨m.sender, s.sys.boxSeq[m.sender] + 1, hostTag s m.host, m.words⟩
    (4 ≤ dst.val → s.sys.clOn.getLsbD (dst.val - 4) = false → ∃ t, exec (.internalMailboxMessage dst m) s = .next t ∧
      t = { s with sys := { s.sys with accessFault := s.sys.accessFault ++ [(m.sender.val, dst.val)] }, perf := t.perf }) ∧
    ((4 ≤ dst.val → s.sys.clOn.getLsbD (dst.val - 4) = true) →
    (s.boxes[dst].msgs.length < 8 → ∃ t, exec (.internalMailboxMessage dst m) s = .next t ∧
      t.boxes[dst] = { s.boxes[dst] with msgs := s.boxes[dst].msgs ++ [msg] } ∧
      (∀ c : Fin 8, c ≠ dst → t.boxes[c] = s.boxes[c]) ∧
      t.sys = { s.sys with boxSeq := s.sys.boxSeq.set m.sender msg.seq } ∧
      t = { s with boxes := t.boxes, sys := t.sys, perf := t.perf }) ∧
    (∀ (old : BoxMsg) (rest : List BoxMsg), s.boxes[dst].msgs = old :: rest → 7 ≤ rest.length →
      ∃ t, exec (.internalMailboxMessage dst m) s = .next t ∧ t.boxes[dst].msgs = rest ++ [msg] ∧
        t.boxes[dst].collision = true ∧ t.boxes[dst].lostSeqs = s.boxes[dst].lostSeqs ++ [old.seq.toNat] ∧
        (∀ c : Fin 8, c ≠ dst → t.boxes[c] = s.boxes[c]) ∧
        (tagged s old.tag = none → t.mbx = s.mbx ∧ t = { s with
          boxes := t.boxes, sys := t.sys, perf := t.perf, bbx := t.bbx, alr := t.alr, bus := t.bus }) ∧
        (∀ n : Fin 4, tagged s old.tag = some n → s.mbx[n].state = .taken → t.mbx[n].state = .ready ∧
          t.mbx[n].code = 0xFF))))

/-- Addresses and faults on the backplane: a duplicate address is noted in BOOT, a foreign fault edge sets FAULT_IN
and does what FAULT_ACT asks (R310, R312). Leading and following: beats are sent and believed, a lower address takes
over, silence makes a module lead or follow (R319, R320). The site cap on the backplane: a leader reads the other
fitted modules and gives itself and those that answer their part through MBX3, and a follower without a beat takes cap
÷ modules (R321). Rows for the end of a time assert that it has passed (log entry 4). That the leader writes its own
beat register and its own share, and when MBX3 takes one, are the model's choices (log entry 29). -/
def Obligations.BackplaneFaultsBeatsAndCap : Prop :=
  (∀ s : State,
    (s.sys.st = .boot → ∃ t, exec (.addrProbe true) s = .next t ∧ t.bp.addrDup = true ∧ t.bp.leader = false ∧
      t.bus.alertOut = false ∧ (s.bp.addrDup = false → (t.shown.flt.getD 0 0).getLsbD 6 = true) ∧
      t = { s with bp := t.bp, bus := t.bus, shown := { s.shown with flt := t.shown.flt } }) ∧
    (exec (.addrProbe false) s = .next s) ∧
    (s.powered = true → exec (.faultEdge true) s = .next s) ∧
    (s.powered = true → s.bp.faultAct = 0 → s.sys.st ≠ .hold → c0Up s = true →
      ∃ t, exec (.faultEdge false) s = .next t ∧
      t.bp.faultIn = true ∧ t.sys = s.sys ∧ t.taps = s.taps ∧
      t = { s with bp := t.bp, alr := t.alr, bus := t.bus }) ∧
    (s.powered = true → s.bp.faultAct = 1 → s.sys.st = .run → s.sys.cores.getLsbD 0 = true → changeDue s = false →
      s.sys.acted = 0 →
      ∃ t, exec (.faultEdge false) s = .next t ∧ t.bp.faultIn = true ∧ t.sys.st = .run ∧ t.sys.rampStandby = true ∧
        ∀ n : Fin 32, t.taps[n] = if s.taps[n].state = .standIn then
          { s.taps[n] with stake := { s.taps[n].stake with slotByp := true } } else s.taps[n]) ∧
    (s.powered = true → s.bp.faultAct = 2 → s.sys.st = .run → s.sys.cores.getLsbD 0 = true → changeDue s = false →
      s.sys.acted = 0 →
      ∃ t, exec (.faultEdge false) s = .next t ∧ t.bp.faultIn = true ∧ t.sys.st = .safe ∧ t.sys.cause = 1) ∧
    (s.powered = true → (s.sys.st = .hold ∨ (s.sys.st = .standby ∨ s.sys.st = .run) ∧ c0Up s = false) →
      ∃ t, exec (.faultEdge false) s = .next t ∧ t.bp.faultIn = true ∧ t.bp.faultWaits = true ∧ t.sys = s.sys) ∧
    (s.powered = true → s.sys.st ≠ .hold → s.sys.st ≠ .standby → s.sys.st ≠ .run →
      ∃ t, exec (.faultEdge false) s = .next t ∧ t.bp.faultIn = true ∧ t.bp.faultWaits = s.bp.faultWaits ∧
        t.sys = s.sys ∧ t.taps = s.taps)) ∧
  (∀ s : State, bpRuns s = true →
    (s.bp.leader = true → ∃ t, exec .beatSend s = .next t ∧ t.bp.beatSeq = s.bp.mySeq + 1 ∧
      t.bp.mySeq = s.bp.mySeq + 1 ∧ t.bp.beatAddr = s.sys.addr ∧
      t.bus.ctlQueue = s.bus.ctlQueue ++ (others s).map (fun a =>
        { target := a, addr := 0x033, words := [word (s.sys.addr.toNat + 256 * t.bp.beatSeq.toNat)] }) ∧
      t = { s with bp := t.bp, bus := t.bus }) ∧
    (∀ (addr : BitVec 3) (seq : BitVec 8), s.bp.leader = true → addr < s.sys.addr → ∃ t, exec (.beat addr seq) s = .next t ∧
      t.bp = { s.bp with leader := false, leaderAddr := addr, beatOk := true, beatAddr := addr, beatSeq := seq } ∧
      t = { s with bp := t.bp }) ∧
    (∀ (addr : BitVec 3) (seq : BitVec 8), s.bp.leader = false → ∃ t, exec (.beat addr seq) s = .next t ∧ t.bp.beatOk = true ∧
      t.bp.leader = false ∧ (s.bp.beatOk = false ∨ addr ≤ s.bp.leaderAddr → t.bp.leaderAddr = addr) ∧
      (s.bp.beatOk = true → s.bp.leaderAddr < addr → t.bp.leaderAddr = s.bp.leaderAddr) ∧ t = { s with bp := t.bp }) ∧
    (s.bp.addrDup = false → ∃ t, exec (.beatTimeout false) s = .next t ∧ t.bp.leader = true ∧
      t.bp.leaderAddr = s.sys.addr ∧ t = { s with bp := t.bp }) ∧
    (∃ t, exec (.beatTimeout true) s = .next t ∧ t.bp.leader = false ∧ t.bp.beatOk = false ∧ t = { s with bp := t.bp })) ∧
  (∀ s : State, bpRuns s = true →
    (s.bp.leader = true → 0 < s.bp.cap → (s.mbx[(3 : Fin 4)].state = .empty ∨ s.mbx[(3 : Fin 4)].state = .ready) →
      6000 ≤ s.bp.leadMs →
      let cap := max 1000 (min 123000 (100 * s.bp.cap / (s.bp.nmod.toNat + 1)))
      ∃ t, exec (.capDivision []) s = .next t ∧ t.mbx[(3 : Fin 4)].state = .pending ∧
        t.mbx[(3 : Fin 4)].opcode = 0x0206 ∧ t.mbx[(3 : Fin 4)].args[0] = 0xFFFF ∧
        t.mbx[(3 : Fin 4)].args[14].toNat + 65536 * t.mbx[(3 : Fin 4)].args[15].toNat = cap ∧
        t.bells = s.bells ++ [3] ∧ t.bus.ctlQueue = s.bus.ctlQueue ++ (others s).flatMap askPeer ∧
        t = { s with mbx := t.mbx, bells := t.bells, bus := t.bus }) ∧
    (∀ p : PeerCap, s.bp.leader = true → 0 < s.bp.cap → p.addr ∈ others s →
      ∃ (t : State) (q : List CtlXfer), exec (.capDivision [p]) s = .next t ∧
        t.bus.ctlQueue = s.bus.ctlQueue ++ (others s).flatMap askPeer ++ q ∧ (p.full = true → q = []) ∧
        (p.full = false → ∃ x : CtlXfer, q = [x] ∧ x.target = p.addr ∧ x.addr = 0x1C3 ∧ x.words.take 2 = [0x0206, 0xFFFF] ∧
          1000 ≤ arg2 x.words 15 ∧ arg2 x.words 15 ≤ 123000)) ∧
    (s.bp.leader = false → s.bp.beatOk = false → 0 < s.bp.cap →
      exec .fallback s = .next { s with
        hub := { s.hub with siteCap := max 1000 (min 123000 (100 * s.bp.cap / (s.bp.nmod.toNat + 1))) }
        bp := { s.bp with fallback := true } }) ∧
    ((s.bp.leader = true ∨ s.bp.beatOk = true ∨ s.bp.cap = 0) → exec .fallback s = .next s))

/-- An SPI write is applied whole or not at all: a frame that passes writes every word at its address, and one with a
wrong check byte, too many words, or the doorbell of a full mailbox writes nothing and is counted with its code (R213,
R216, R217, R221, R222, R223). A read of the four words of a counter in one SPI frame shows one value of it, and the
latch of one bus stands until that bus reads word 0 again (R184, R214, R221). -/
def Obligations.SpiWritesWholeAndReadsConsistently : Prop :=
  (∀ (w : Word) (s : State), s.powered = true →
    (s.bus.spiCrc = false → ∃ t, exec (.spiWriteFrame 0x0032 [w] none true) s = .next t ∧ t.bp.cap = w.toNat ∧
      t.bus.spiLast = 0 ∧ t.bus.spiErr = s.bus.spiErr ∧ t.bus.outSpiStatus = spiStatus s ∧
      t = { s with bp := { s.bp with cap := t.bp.cap }, bus := t.bus }) ∧
    (∀ (h : Word) (ws : List Word) (c : Option Byte), hdrOk h = true → h.getLsbD 15 = false → ws ≠ [] →
      ws.length ≤ 64 → c = (if s.bus.spiCrc then some (crc8 ((h :: ws).flatMap bytesHL)) else none) →
      hitsFull (addressed (hdrFix h) (hdrAddr h) ws) s = false →
      ∃ t, exec (.spiWriteFrame h ws c true) s = .next t ∧
        let u := written (hdrFix h) (hdrAddr h) ws s
        t = { u with bus := { u.bus with spiLast := 0, outSpiStatus := spiStatus s } }) ∧
    (∀ (h : Word) (ws : List Word) (c : Byte), s.bus.spiCrc = true → hdrOk h = true → h.getLsbD 15 = false → ws ≠ [] →
      ws.length ≤ 64 → c ≠ crc8 ((h :: ws).flatMap bytesHL) →
      ∃ t, exec (.spiWriteFrame h ws (some c) true) s = .next t ∧ t.bus.spiLast = 1 ∧
        t.bus.spiErr = min 0xFFFF (s.bus.spiErr + 1) ∧ t = { s with bus := t.bus }) ∧
    (∀ (h : Word) (ws : List Word), s.bus.spiCrc = false → hdrOk h = true → h.getLsbD 15 = false → 64 < ws.length →
      ∃ t, exec (.spiWriteFrame h ws none true) s = .next t ∧ t.bus.spiLast = 4 ∧ t = { s with bus := t.bus }) ∧
    (∀ (h : Word) (ws : List Word), s.bus.spiCrc = false → hdrOk h = true → h.getLsbD 15 = false → ws ≠ [] →
      ws.length ≤ 64 → hitsFull (addressed (hdrFix h) (hdrAddr h) ws) s = true →
      ∃ t, exec (.spiWriteFrame h ws none true) s = .next t ∧ t.bus.spiLast = 2 ∧ t = { s with bus := t.bus }) ∧
    (∀ (h : Word) (ws : List Word) (c : Option Byte), ∃ t, exec (.spiWriteFrame h ws c false) s = .next t ∧
      t.bus.spiLast = 3 ∧ t = { s with bus := t.bus })) ∧
  (∀ (i : Fin 235) (s : State), s.powered = true → s.mtr.restored = true → latchByp s = false →
    latchWf 0 s.bus.latchSpi = true →
    (∃ t, exec (.spiReadFrame (word (0x8400 + 4 * i.val)) 4) s = .next t ∧
      natOf t.bus.outSpi = (mtrCtr s i.val).val.toNat ∧ t.bus.spiLast = 0 ∧ t.bus.latchTw = s.bus.latchTw ∧
      t.ctrs = s.ctrs ∧ t = { s with bus := t.bus }) ∧
    ∃ t, exec (.snapshotRead .spi (0x400 + 4 * i.val)) s = .next t ∧
      t = { s with bus := { s.bus with latchSpi := t.bus.latchSpi } } ∧
      ∀ (k : Fin 4) (u : State), k.val ≠ 0 → u.bus.latchSpi = t.bus.latchSpi → latchByp u = false →
        (regRead .spi (0x400 + 4 * i.val + k.val) u).1 = wordOf (mtrCtr s i.val).val.toNat k.val)

/-- The two-wire bus: a write sets its words at their addresses and leaves the pointer behind them, a read returns
words from the pointer, and a bus error or a time-out writes nothing and is counted (R216, R226, R229, R233). The
alert response: an eligible module that wins answers with its address and lets go of ALERT#, an unanswered read raises
L to at most 3, an answered one clears it, L is 0 while the line is high, and alerts still held are called again; a
module whose address is doubled observes the reads and never answers (R231, R232, R310). The module as bus controller:
recovery is counted, and the front transfer is sent, a write with its PEC byte where the module's setting has it, a
read answered, or abandoned after eight losses in a row; no transfer starts in HOLD (R228, R234, R235, R236, R237).
That words of a wrong check byte are dropped in a controller read (log entry 69), and the code of a recovered bus (log
entry 28), are the model's choices. -/
def Obligations.TwoWireBusAndItsAlerts : Prop :=
  (∀ s : State, s.powered = true → s.bp.addrDup = false →
    (∀ w : Word, s.bus.twPec = false → ∃ t, exec (.writeTransfer 0x0032 [w] none ⟨true, false⟩) s = .next t ∧
      t.bp.cap = w.toNat ∧ t.bus.pointer = 0x33 ∧ t.bus.pointerFix = false ∧ t.bus.twLast = 0 ∧
      t = { s with bp := { s.bp with cap := t.bp.cap }, bus := t.bus }) ∧
    (∀ (p : Word) (ws : List Word) (pec : Option Byte) (late : Bool), ptrOk p = true → ws ≠ [] → ws.length ≤ 64 →
      pec = (if s.bus.twPec then some (crc8 (twByte s false :: (p :: ws).flatMap bytesHL)) else none) →
      hitsFull (addressed (hdrFix p) (hdrAddr p) ws) s = false →
      ∃ t, exec (.writeTransfer p ws pec ⟨true, late⟩) s = .next t ∧
        let u := written (hdrFix p) (hdrAddr p) ws { s with bus := { s.bus with twIgnore := false } }
        t = { u with bus := { u.bus with
          twLast := 0, outNack := false, pointerFix := hdrFix p
          pointer := if hdrFix p then hdrAddr p else (hdrAddr p + ws.length) % 4096 } }) ∧
    (∀ (p : Word) (late : Bool), ptrOk p = true → ∃ t, exec (.writeTransfer p [] none ⟨true, late⟩) s = .next t ∧
      t.bus.pointer = hdrAddr p ∧ t.bus.pointerFix = hdrFix p ∧ t.bus.twLast = 0 ∧ t = { s with bus := t.bus }) ∧
    (∀ (p : Option Word) (count : Nat), (∀ q, p = some q → ptrOk q = true) →
      let fix := (p.map hdrFix).getD s.bus.pointerFix
      let a := (p.map hdrAddr).getD s.bus.pointer
      let r := readAccess .twoWire fix count a { s with bus := { s.bus with twIgnore := false } }
      ∃ t, exec (.readTransfer p count) s = .next t ∧ t.bus.outTw = r.1 ∧ t.bus.twLast = 0 ∧ t.bus.pointerFix = fix ∧
        t.bus.pointer = (if fix then a else (a + count) % 4096) ∧ t.bus.latchTw = r.2.bus.latchTw ∧
        t = { r.2 with bus := t.bus }) ∧
    (∀ w : Word, ∃ t, exec (.writeTransfer 0x0032 [w] none ⟨false, false⟩) s = .next t ∧
      t.bus.twLast = 3 ∧ t = { s with bus := t.bus }) ∧
    (∀ w : Word, s.bus.twPec = true → ∃ t, exec (.writeTransfer 0x0032 [w] none ⟨true, false⟩) s = .next t ∧
      t.bus.twLast = 3 ∧ t.bus.twErr = min 0xFFFF (s.bus.twErr + 1) ∧ t = { s with bus := t.bus }) ∧
    (∃ t, exec (.readTransfer (some 0x0000) 1) s = .next t ∧ t.bus.outTw = [0x5120] ∧ t.bus.pointer = 1 ∧
      t.bus.twLast = 0 ∧ t = { s with bus := t.bus }) ∧
    (s.bus.pointer = 0x32 → s.bus.pointerFix = false → ∃ t, exec (.readTransfer none 1) s = .next t ∧
      t.bus.outTw = [word s.bp.cap] ∧ t.bus.pointer = 0x33 ∧ t = { s with bus := t.bus }) ∧
    (∃ t, exec .busError s = .next t ∧ t.bus.twLast = 5 ∧ t.bus.busErr = true ∧ t.bus.twIgnore = true ∧
      t.bus.twErr = min 0xFFFF (s.bus.twErr + 1) ∧ t = { s with bus := t.bus }) ∧
    (∃ t, exec .smbusTimeout s = .next t ∧ t.bus.twLast = 6 ∧ t.bus.twErr = min 0xFFFF (s.bus.twErr + 1) ∧
      t = { s with bus := t.bus })) ∧
  (∀ s : State, s.powered = true →
    (s.bp.addrDup = true → ∀ other answered won : Bool, ∃ t, exec (.alertResponseRead ⟨other, answered⟩ won) s = .next t ∧
      t.bus.ara = none ∧ t.bus.alertOut = s.bus.alertOut ∧ t.bus.alertOther = other ∧
      (answered = true → t.bus.level = 0) ∧
      (answered = false → eligible s = false →
        t.bus.level = (if s.bus.alertOut || other then min 3 (s.bus.level + 1) else 0)) ∧
      t = { s with bus := t.bus }) ∧
    (s.bp.addrDup = false →
    (∀ (a : Alert) (other answered won : Bool), headAlert s.alr.queue = some a → s.bus.alertOut = true →
      a.cls ≤ s.bus.level → (answered = false ∨ won = true) →
      ∃ t, exec (.alertResponseRead ⟨other, answered⟩ won) s = .next t ∧
        t.bus.ara = some (BitVec.ofNat 8 (2 * (0x58 + s.sys.addr.toNat))) ∧ t.bus.alertOut = false ∧ t.bus.level = 0 ∧
        t.bus.repull = true ∧ t.alr = s.alr ∧ t = { s with bus := t.bus }) ∧
    (∀ (a : Alert) (other won : Bool), headAlert s.alr.queue = some a → s.bus.level < a.cls →
      ∃ t, exec (.alertResponseRead ⟨other, false⟩ won) s = .next t ∧ t.bus.ara = none ∧
        t.bus.level = (if s.bus.alertOut || other then min 3 (s.bus.level + 1) else 0) ∧
        t.bus.alertOut = s.bus.alertOut ∧ t.bus.alertOther = other ∧ t = { s with bus := t.bus }) ∧
    (∀ other : Bool, ∃ t, exec (.alertResponseRead ⟨other, true⟩ false) s = .next t ∧ t.bus.ara = none ∧
      t.bus.level = 0 ∧
      t.bus.alertOut = s.bus.alertOut ∧ t = { s with bus := t.bus }) ∧
    (s.bus.repull = true → ∃ t, exec .alertRepull s = .next t ∧ t.bus.repull = false ∧
      t.bus.alertOut = (s.bus.alertOut || (s.bus.araEn && !s.alr.queue.isEmpty)) ∧ t = { s with bus := t.bus }))) ∧
  (∀ s : State, s.powered = true →
    (∃ t, exec (.busRecovery true) s = .next t ∧ t.bus.ctlRecover = min 0xFF (s.bus.ctlRecover + 1) ∧
      t.bus.twStuck = s.bus.twStuck ∧ t = { s with bus := t.bus }) ∧
    (∃ t, exec (.busRecovery false) s = .next t ∧ t.bus.ctlRecover = min 0xFF (s.bus.ctlRecover + 1) ∧
      t.bus.twStuck = true ∧ t = { s with bus := t.bus, alr := t.alr }) ∧
    (∀ (x : CtlXfer) (rest : List CtlXfer), s.bus.ctlQueue = x :: rest →
      (s.sys.st = .hold → ∀ got : Option CtlAnswer, exec (.controllerTransfer got) s = .next s) ∧
      (s.sys.st ≠ .hold → ∀ got : CtlAnswer, ∃ t, exec (.controllerTransfer (some got)) s = .next t ∧ t.bus.outCtl = some x ∧
        t.bus.ctlQueue = rest ∧ t.bus.ctlLosses = 0 ∧ t.bus.inCtl = checkedWords s.bus.twPec (ctlHead x) (got.words.take x.reads) got.pecs ∧
        (s.bus.twPec = false → t.bus.inCtl = got.words.take x.reads) ∧
        t.bus.outCtlPec.isSome = (s.bus.twPec && decide (x.reads = 0)) ∧ t = { s with bus := t.bus }) ∧
      (s.sys.st ≠ .hold → s.bus.ctlLosses < 7 → ∃ t, exec (.controllerTransfer none) s = .next t ∧
        t.bus.ctlQueue = s.bus.ctlQueue ∧ t.bus.ctlLosses = s.bus.ctlLosses + 1 ∧ t.bus.arbLost = true ∧
        t.bus.twLast = 7 ∧ t = { s with bus := t.bus }) ∧
      (s.sys.st ≠ .hold → 7 ≤ s.bus.ctlLosses → ∃ t, exec (.controllerTransfer none) s = .next t ∧
        t.bus.ctlQueue = rest ∧ t.bus.ctlLosses = 0 ∧ t = { s with bus := t.bus, alr := t.alr })))

/-- A written word acts by the kind of its register: a plain field takes it, a write-one-to-clear bit clears at once
in the register too, a read-only register and an address beyond the map stay (R10, R211, R215). The writes that have
rules of their own: a shared block's register, taken only from a resting tap that is not ganged with a share up to 16
and refused with SHARE_REJ otherwise, with what gangs and the stored configuration make of a share; and the two
latched faults (R34, R314, R410). That a bit cleared by writing 1 leaves the mirror with the write is the model's
choice (log entry 27). -/
def Obligations.RegisterWritesFollowTheirKind : Prop :=
  (∀ (w : Word) (s : State), s.powered = true →
    (exec (.registerWrite 0x032 w) s = .next { s with bp := { s.bp with cap := w.toNat } }) ∧
    (exec (.registerWrite 0x004 w) s =
      .next { s with sys := { s.sys with holdSeen := s.sys.holdSeen && !w.getLsbD 8 } }) ∧
    (∃ t, exec (.registerWrite 0xE00 w) s = .next t ∧ t.wdg = { s.wdg with
        expired := s.wdg.expired && !w.getLsbD 13, foreign := s.wdg.foreign && !w.getLsbD 14 } ∧
      t.shown.aon.getD 0 0 = s.shown.aon.getD 0 0 &&& ~~~(w &&& 0x6000) ∧
      (∀ k : Nat, k ≠ 0 → t.shown.aon.getD k 0 = s.shown.aon.getD k 0) ∧
      t = { s with wdg := t.wdg, shown := { s.shown with aon := t.shown.aon } }) ∧
    (exec (.registerWrite 0x000 w) s = .next s) ∧
    (∀ a : Nat, 0x1000 ≤ a → exec (.registerWrite a w) s = .next s) ∧
    (∀ n : Fin 32, ∃ t, exec (.registerWrite (0x801 + 0x20 * n.val) w) s = .next t ∧
      t.taps[n].removed = (s.taps[n].removed && !w.getLsbD 5) ∧ t.taps[n].eoc = (s.taps[n].eoc && !w.getLsbD 9) ∧
      t.taps[n].kelvinBad = s.taps[n].kelvinBad ∧ t.taps[n].state = s.taps[n].state ∧ TapsBut n s t ∧
      t.shown.taps[n].getD 1 0 = s.shown.taps[n].getD 1 0 &&& ~~~(w &&& 0x1FE0) ∧
      (∀ m : Fin 32, m ≠ n → t.shown.taps[m] = s.shown.taps[m]) ∧
      t = { s with taps := t.taps, shown := { s.shown with taps := t.shown.taps } }) ∧
    (∀ n : Fin 4, s.mbx[n].state ≠ .empty → exec (.registerWrite (0x103 + 0x40 * n.val) w) s = .next s)) ∧
  (∀ s : State, s.powered = true →
    (∀ (n : Fin 32) (w : Word), restful s.taps[n] = true → s.taps[n].cfg.gang = false → w.toNat % 32 ≤ 16 →
      ∃ t, exec (.sysShareWrite n w) s = .next t ∧ TapsBut n s t ∧ t.taps[n].state = s.taps[n].state ∧
        t.taps[n].cfg = { s.taps[n].cfg with
          share := w.toNat % 32, helper := w.getLsbD 5, partnerAddr := t.taps[n].cfg.partnerAddr
          partnerTap := t.taps[n].cfg.partnerTap } ∧
        t.taps[n].cfg.partnerAddr.toNat = w.toNat / 64 % 8 ∧ t.taps[n].cfg.partnerTap.toNat = w.toNat / 512 % 32 ∧
        t = { s with taps := t.taps, rcp := { s.rcp with mask := t.rcp.mask } } ∧
        (w.getLsbD 5 = false → t.rcp = s.rcp)) ∧
    (∀ (n : Fin 32) (w : Word), (restful s.taps[n] = false ∨ s.taps[n].cfg.gang = true ∨ 16 < w.toNat % 32) →
      exec (.sysShareWrite n w) s = .next { s with bp := { s.bp with shareRej := true } }) ∧
    (∀ t : Tap, restful t = true ↔ t.state = .absent ∨ t.state = .suspended ∨ t.state = .faultTimer ∨
      t.state = .faultShort ∨ t.state = .faultOpen ∨ t.state = .faultOv ∨ t.state = .faultTherm ∨
      (t.state = .done ∧ TapState.converts t .done = false)) ∧
    (∀ (via : Via) (args : List Word) (n : Fin 32), Accepts 0x0314 via args s → arg args 0 = n.val → n.val % 2 = 0 →
      arg args 1 ≤ 1 →
      clUp s n = true → (s.taps[n].cfg.share ≠ 0 ∨ s.taps[partner n].cfg.share ≠ 0) →
      exec (.tapSetGangForm via args) s = .next (answer via 0x21 [] s)) ∧
    (∀ (via : Via) (args : List Word), Accepts 0x010F via args s →
      ∃ c : StoredCfg, exec (.sysSaveConfig via args) s = .next (stored via [] s { s with stored := c }) ∧
        ∀ n : Fin 32, c.taps[n].share = s.taps[n].cfg.share ∧ c.taps[n].helper = s.taps[n].cfg.helper ∧
          c.taps[n].partnerAddr = s.taps[n].cfg.partnerAddr ∧ c.taps[n].partnerTap = s.taps[n].cfg.partnerTap) ∧
    (s.sys.shValid = true → s.sys.shOkAt + 1000 ≤ s.sys.uptime →
      ∃ t, exec .shFaultClear s = .next t ∧ t.sys = { s.sys with shFault := false } ∧
        (s.sys.shFault = true → (t.shown.flt.getD 0 0).getLsbD 2 = false) ∧ (s.sys.shFault = false → t = s) ∧
        t = { s with sys := t.sys, shown := { s.shown with flt := t.shown.flt } }) ∧
    ((s.sys.shValid = false ∨ s.sys.uptime < s.sys.shOkAt + 1000) → exec .shFaultClear s = .next s) ∧
    (s.sys.st = .safe → ∃ t, exec .hubOv3Clear s = .next t ∧ t.hub = { s.hub with ov3 := false, ovTimes := [] } ∧
      (s.hub.ov3 = true → (t.shown.flt.getD 0 0).getLsbD 0 = false) ∧ (s.hub.ov3 = false → t.shown = s.shown) ∧
      t = { s with hub := t.hub, shown := { s.shown with flt := t.shown.flt } }) ∧
    (s.sys.st ≠ .safe → exec .hubOv3Clear s = .next s))

/-- An alert raised with the queue full: the oldest of the highest class present makes room if that class is not below
the new one's, else the new alert is dropped; either way it is counted, and the records are written as usual (R439).
Acknowledging alerts: by sequence the alert goes and every other stays, an unknown number only sets ACK_MISS, by class
every alert of a class asked for goes; ALERT# is released once none is left (R231, R436, R438). -/
def Obligations.AlertsQueueAndAreAcknowledged : Prop :=
  ((∀ (type : Nat) (pl : List Word) (cls kind reason inst : Nat) (param : Int) (k : Fin 64) (h : Alert) (s : State),
    planeDown s = false → s.alr.queue.length = 64 → s.alr.queue[k.val]? = some h →
    (∀ b ∈ s.alr.queue, b.cls ≤ h.cls) → (∀ b ∈ s.alr.queue.take k.val, b.cls < h.cls) →
    let t := alertRec (record type pl) cls kind reason inst param s
    t.alr.overflow = true ∧ t.alr.lost = min 0xFFFF (s.alr.lost + 1) ∧ t.alr.nextSeq = s.alr.nextSeq + 1 ∧
    t.bbx.nextSeq = s.bbx.nextSeq + 1 ∧ (h.cls < cls → t.alr.queue = s.alr.queue) ∧
    (cls ≤ h.cls → ∃ a, t.alr.queue = s.alr.queue.eraseIdx k.val ++ [a] ∧
      a.cls = cls ∧ a.kind = kind ∧ a.reason = reason ∧ a.inst = inst ∧ a.seq = s.alr.nextSeq ∧
      a.bbxSeq = s.bbx.nextSeq)) ∧
  (∀ (x : Fin 4) (s : State), s.powered = true → s.ports[x].state = .precharge → planeDown s = false →
    s.alr.queue.length = 64 → s.bbx.windows = [] → ∃ t, exec (.prechargeTrip x) s = .next t ∧
      t.alr.lost = min 0xFFFF (s.alr.lost + 1) ∧ t.alr.overflow = true ∧ t.alr.queue.length = 64 ∧
      t.bbx.nextSeq = s.bbx.nextSeq + 1 ∧ (t.bbx.queue.getLast?.map (·.type)) = some 0x0D ∧
      (∀ a ∈ t.alr.queue, a.seq = s.alr.nextSeq → a ∉ s.alr.queue → a.bbxSeq = s.bbx.nextSeq))) ∧
  (∀ s : State, s.powered = true →
    (∀ seq : Nat, seq < 2 ^ 32 → (∃ a ∈ s.alr.queue, a.seq = seq) → ∃ t, exec (.alrAck seq) s = .next t ∧
      t.alr.queue = s.alr.queue.filter (fun a => a.seq ≠ seq) ∧ t.alr.ackMiss = s.alr.ackMiss ∧
      (t.alr.queue = [] → t.bus.alertOut = false) ∧ (t.alr.queue ≠ [] → t.bus = s.bus) ∧
      t = { s with alr := t.alr, bus := t.bus }) ∧
    (∀ seq : Nat, seq < 2 ^ 32 → (∀ a ∈ s.alr.queue, a.seq ≠ seq) → ∃ t, exec (.alrAck seq) s = .next t ∧
      t.alr = { s.alr with ackSeq := seq, ackMiss := true } ∧ t = { s with alr := t.alr }) ∧
    (∀ mask : BitVec 4, ∃ t, exec (.alrAckClass mask) s = .next t ∧
      (∀ a, a ∈ t.alr.queue ↔ a ∈ s.alr.queue ∧ (a.cls < 4 → mask.getLsbD a.cls = false)) ∧
      (t.alr.queue = [] → t.bus.alertOut = false) ∧ t = { s with alr := t.alr, bus := t.bus }))

/-! ### Meters, power, HOLD, monitor -/

/-- The alarm timers: arming loads at least 10 ms, disarming stops, expiry is shown and alerts, and its action asks
for STANDBY in RUN (R192, R193, R194). A lease snapshot, once the module clock has reached its quarter of an hour,
holds every counter as it stands and the next sequence number, and joins the queue of the black box; while C3 does not
run it waits, and the fifth to wait is missed (R186, R187, R188). `MTR_GET_STATEMENT` over live counters: a statement
of the selected taps stands in the buffer with its 64 signature bytes, takes the next sequence number, and its record
is written (R190, R191). Whether the write of the sequence number to flash fails is a free value. Rows for the end of
a time assert that it has passed (log entry 4). -/
def Obligations.MetersTimeSnapshotAndSign : Prop :=
  (∀ (k : Fin 4) (s : State), s.powered = true →
    (∃ t, exec (.alarmArm k) s = .next t ∧ t.mtr.alarms[k] = { s.mtr.alarms[k] with
        remain := max 10 s.mtr.alarms[k].load, expired := false, running := true } ∧
      (∀ j : Fin 4, j ≠ k → t.mtr.alarms[j] = s.mtr.alarms[j]) ∧
      t = { s with mtr := { s.mtr with alarms := t.mtr.alarms } }) ∧
    (∃ t, exec (.alarmDisarm k) s = .next t ∧ t.mtr.alarms[k] = { s.mtr.alarms[k] with running := false } ∧
      (∀ j : Fin 4, j ≠ k → t.mtr.alarms[j] = s.mtr.alarms[j]) ∧
      t = { s with mtr := { s.mtr with alarms := t.mtr.alarms } }) ∧
    (s.mtr.alarms[k].running = true → s.mtr.alarms[k].action ≠ 1 → ∃ t, exec (.alarmExpiry k) s = .next t ∧
      t.mtr.alarms[k].expired = true ∧ t.mtr.alarms[k].running = false ∧ t.mtr.alarms[k].remain = 0 ∧
      t.sys = s.sys ∧ (∀ j : Fin 4, j ≠ k → t.mtr.alarms[j] = s.mtr.alarms[j]) ∧
      t = { s with mtr := t.mtr, alr := t.alr, bus := t.bus }) ∧
    (s.mtr.alarms[k].running = true → s.mtr.alarms[k].action = 1 → s.sys.st = .run → s.sys.cores.getLsbD 0 = true →
      changeDue s = false → s.sys.acted = 0 → ∃ t, exec (.alarmExpiry k) s = .next t ∧ t.mtr.alarms[k].expired = true ∧
        t.sys.rampStandby = true ∧ t.sys.st = .run) ∧
    (s.mtr.alarms[k].running = false → exec (.alarmExpiry k) s = .next s)) ∧
  (∀ s : State, s.powered = true →
    ((s.mtr.snapAt = none ∨ ∃ k : Nat, s.mtr.snapAt = some k ∧ s.stamp < k) → exec .leaseSnapshot s = .next s) ∧
    ∀ k : Nat, s.mtr.snapAt = some k → k ≤ s.stamp →
    (∃ t k', exec .leaseSnapshot s = .next t ∧ t.mtr.snapAt = some k' ∧ s.stamp < k' ∧ (k' - k) % 900000 = 0) ∧
    (c3Up s = true → ∃ t r, exec .leaseSnapshot s = .next t ∧ t.bbx.queue = s.bbx.queue ++ [.snap r] ∧ r.ctrs = s.ctrs ∧
      r.seq = s.mtr.snapNext ∧ r.time = s.stamp ∧ r.blocks.length = 32 ∧ t.mtr.snapNext = s.mtr.snapNext + 1 ∧
      r.bbxSeq = s.bbx.nextSeq ∧ t.bbx.nextSeq = s.bbx.nextSeq + 1 ∧ t.bbx.snaps = s.bbx.snaps ∧
      t = { s with mtr := t.mtr, bbx := t.bbx }) ∧
    (c3Up s = false → s.mtr.pending.length < 4 → ∃ t r, exec .leaseSnapshot s = .next t ∧
      t.mtr.pending = s.mtr.pending ++ [r] ∧ r.ctrs = s.ctrs ∧ r.seq = s.mtr.snapNext ∧
      t.mtr.snapNext = s.mtr.snapNext + 1 ∧ t = { s with mtr := t.mtr }) ∧
    (c3Up s = false → 4 ≤ s.mtr.pending.length → ∃ t, exec .leaseSnapshot s = .next t ∧ t.mtr.snapMissed = true ∧
      t.mtr.pending = s.mtr.pending ∧ t.mtr.snapNext = s.mtr.snapNext + 1 ∧ t = { s with mtr := t.mtr, bbx := t.bbx })) ∧
  (∀ (via : Via) (args : List Word) (s : State), Accepts 0x0503 via args s → arg args 0 = 0 → arg args 3 = 1 →
    arg2 args 5 % 2 ^ 32 ≠ 0 →
    ∃ u, exec (.mtrGetStatement via args) s =
        .next (stored via (wordsOf 2 s.mtr.stmtNext ++ [word u.mtr.stmt.length]) s u) ∧
      u.mtr.stmtSeq = s.mtr.stmtNext ∧ u.mtr.stmtNext = s.mtr.stmtNext + 1 ∧ u.mtr.gapSince = false ∧
      u.mtr.stmt.length = 104 + 66 * ((indices 32).filter fun n => (arg2 args 5).testBit n.val).length ∧
      u.mtr.stmt.take 2 = [1, 0] ∧ (u.bbx.queue.getLast?.map (·.type)) = some 0x0A ∧
      u.bbx.nextSeq = s.bbx.nextSeq + 1 ∧ u = { s with mtr := u.mtr, bbx := u.bbx })

/-- Housekeeping paths: the highest-ranked path is used, a qualified path starts the module from OFF unless the ship
latch holds it on taps, which leads to SHIP with its STATE record, and AUX or a source ends SHIP (R26, R340, R350,
R351, R353, R361). Housekeeping loss bypasses stand-ins, opens the tie and the input switches, ends an open pour and
begins the flush: what waits with the STATE record of the change to OFF (log entry 70), then COUNTERS and last the
POWER_LOSS record, is written record by record (log entry 32); every stake ramps to zero over 20 ms and its switch
opens, and at the end the module is OFF with its non-volatile parts kept, but for a record that the end tears, which
is a free value (log entry 3) (R204, R340, R345, R352). When the STATE records of the changes to and from OFF are
written (log entry 70), and what a flush writes in which order (log entry 32), are the model's choices. -/
def Obligations.HousekeepingStartsAndEndsTheModule : Prop :=
  (∀ (strap : BitVec 3) (low : Bool) (s : State),
    (∀ p : HkPath, s.sys.st = .off → pathRated p = true → pathUp p = true → (tapPath p = false ∨ s.sys.shipLatch = false) →
      ∃ t, exec (.hkPathQualify p strap low) s = .next t ∧
        t.sys.st = .boot ∧ t.sys.cause = 0 ∧ t.sys.last = 0 ∧ t.sys.addr = strap ∧ t.sys.shipLatch = false ∧
        t.sys.timeValid = false ∧ t.wdg.challenge ≠ 0 ∧ t.bbx.ring = s.bbx.ring ∧
        ∀ n : Fin 32, t.taps[n].desc = s.taps[n].desc) ∧
    (∀ p : HkPath, s.sys.st = .off → pathRated p = true → pathUp p = true → tapPath p = true → s.sys.shipLatch = true →
      ∃ t, exec (.hkPathQualify p strap low) s = .next t ∧ t.sys.st = .ship ∧ t.sys.cause = s.sys.cause ∧
        t.sys.shipLatch = true ∧ t.bbx.queue = [] ∧ t.taps = s.taps ∧ t.ports = s.ports ∧ t.stored = s.stored ∧
        (s.bbx.queue = [] → s.bbx.okA = true → s.bbx.okB = true →
          ∃ r : BbxRec, t.bbx.ring.getLast? = some r ∧ r.type = 0x03 ∧ r.seq = s.bbx.nextSeq ∧ r.okA = true ∧
            t.bbx.nextSeq = s.bbx.nextSeq + 1)) ∧
    (∀ v : Int, tapPath (.aux v) = false ∧ (∀ x : Fin 4, tapPath (.source x v) = false) ∧
      (∀ g : Fin 8, tapPath (.tap g v) = true) ∧ (pathUp (.aux v) = true ↔ 18000 ≤ v) ∧
      (∀ x : Fin 4, pathUp (.source x v) = true ↔ 150000 ≤ v) ∧ ∀ g : Fin 8, pathUp (.tap g v) = true ↔ 24000 ≤ v) ∧
    (∀ p : HkPath, pathRated p = true → pathUp p = false → exec (.hkPathQualify p strap low) s = .next s) ∧
    (∀ v : Int, 18000 ≤ v → v ≤ 125000 → (s.sys.st = .off ∨ s.sys.st = .ship) →
      ∃ t, exec (.hkPathQualify (.aux v) strap low) s = .next t ∧
      t.sys.st = .boot ∧ t.sys.hkSrc = 1 ∧ t.sys.shipLatch = false ∧ t.sys.addr = strap) ∧
    (∀ v : Int, 18000 ≤ v → v ≤ 125000 → s.sys.st = .standby → s.sys.hkLost = false → s.sys.hkSrc = 3 →
      ∃ t, exec (.hkPathQualify (.aux v) strap low) s = .next t ∧ t.sys.auxV = v ∧
      t.sys.hkSrc = 1 ∧ t.sys.hkChanged = true ∧ t.sys.auxOk = true ∧ t.sys.st = .standby ∧
      t = { s with sys := t.sys, bbx := t.bbx }) ∧
    (∀ v : Int, -125000 ≤ v → v < 18000 → s.powered = true → s.sys.hkLost = false → s.sys.hkSrc = 1 →
      s.sys.srcOk = 0b0001 → ∃ t, exec (.hkPathLost (.aux v)) s = .next t ∧
      t.sys.auxOk = false ∧ t.sys.hkSrc = 2 ∧ t.sys.hkChanged = true ∧ t.sys.st = s.sys.st ∧
      t = { s with sys := t.sys, bbx := t.bbx })) ∧
  (∀ s : State, s.powered = true →
    (s.sys.hkLost = false → ∃ t, exec .housekeepingLoss s = .next t ∧ t.sys.hkLost = true ∧
      (∀ x : Fin 4, t.ports[x].state = .disabled) ∧ t.pour.state = .idle ∧
      (s.sys.rampStandby = false → s.sys.rampHold = false → t.sys.rampMs = 0) ∧
      t.tie.en = false ∧ t.sys.strEn = s.sys.strEn ∧ t.bbx.lossDone = false ∧ t.mtr.pending = [] ∧
      (t.bbx.queue.map (·.type)).take s.bbx.queue.length = s.bbx.queue.map (·.type) ∧
      (t.bbx.queue.map (·.type)).drop (t.bbx.queue.length - 2) = [0x05, 0x02] ∧
      0x03 ∈ (t.bbx.queue.map (·.type)).drop s.bbx.queue.length ∧
      t.ctrs = s.ctrs ∧ ∀ n : Fin 32, (s.taps[n].state = .standIn → t.taps[n].stake.slotByp = true) ∧
        t.taps[n].desc = s.taps[n].desc) ∧
    (s.sys.hkLost = true → s.sys.rampMs = 19 → s.pending = [] → ∃ t, step s = .next t ∧
      ∀ n : Fin 32, t.taps[n].stake.conv = false ∧ t.taps[n].stake.sw = false) ∧
    (s.sys.hkLost = true → ∃ t, exec .holdUpEnd s = .next t ∧ t.sys.st = .off ∧ t.powered = false ∧
      t.sys.shipLatch = s.sys.shipLatch ∧ t.bbx.queue = [] ∧
      (s.bbx.queue = [] ∨ (∀ i ∈ s.bbx.queue, (heldOf i).okA = false ∧ (heldOf i).okB = false) ∧
          Config.flashFails s.free = false → t.bbx.ring = s.bbx.ring ∧ t.bbx.snaps = s.bbx.snaps) ∧
      t.stored = s.stored ∧ t.rcp.slots = s.rcp.slots ∧ t.fw.banks = s.fw.banks ∧ t.sys.strEn = false ∧
      ∀ n : Fin 32, t.taps[n].desc = s.taps[n].desc ∧ t.taps[n].state = .absent))

/-- BOOT ends in STANDBY with the stored settings and with stakes short of four healthy rods withdrawn, in SAFE on a
self-test fault, and in RECOVERY with no valid bank or on request; in STANDBY a standalone module at address 0 leads
at once (log entry 29) (R26, R36, R88, R256, R319, R354, R355). The order of the checks is deduced (log entry 31). -/
def Obligations.BootEndsByItsChecks : Prop :=
  ∀ s : State, s.sys.st = .boot → s.fw.active ≤ 1 →
    (s.sys.recReq = false → s.sys.estop = false → s.sys.shFault = false → ∀ b0 b1 : Bool,
      (if s.fw.active = 0 then b0 else b1) = true → bankGood s s.fw.active = true →
      ∃ t, exec (.bootComplete true b0 b1) s = .next t ∧ t.sys.st = .standby ∧ t.sys.cause = s.sys.cause ∧
        t.sys.cores = 0xFF ∧ t.mtr.restored = true ∧ t.fw.active = s.fw.active ∧ t.wdg.grace = true ∧
        t.wdg.n = s.stored.n ∧ t.arb.lossCap = s.stored.lossCap ∧
        t.hub.mode = s.stored.mode ∧ t.hub.modeIn = s.stored.mode ∧ t.sys.slotAddr = s.sys.addr ∧
        (s.sys.addr = 0 → s.bp.standalone = true → s.bp.addrDup = false → t.bp.leader = true ∧ t.bp.leaderAddr = 0) ∧
        (∀ n : Fin 32, t.taps[n].cfg = s.stored.taps[n] ∧
          ((s.stored.taps[n].gang = false ∧ s.taps[n].stake.healthy < 4) → t.taps[n].stake.withdrawn = true)) ∧
        ∀ x : Fin 4, t.ports[x].limIn = s.stored.ports[x].iLim ∧ t.ports[x].vMin = s.stored.ports[x].vMin ∧
          t.ports[x].iLim = s.stored.ports[x].iLim ∧
          (s.ports[x].state = .disabled → s.links[x].asSource = false →
            t.ports[x].state = if s.stored.ports[x].enabled = true then .idle else .disabled)) ∧
    (∀ b0 b1 : Bool, (b0 = true → bankGood s 0 = false) → (b1 = true → bankGood s 1 = false) →
      ∃ t, exec (.bootComplete true b0 b1) s = .next t ∧ t.sys.st = .recovery ∧ t.sys.cause = 8 ∧
      t.sys.cores = 1) ∧
    (∀ b0 b1 : Bool, ∃ t, exec (.bootComplete false b0 b1) s = .next t ∧ t.sys.st = .safe ∧
      t.sys.cause = 7 ∧ t.sys.selfTest = true ∧ AllStopped t) ∧
    (s.sys.recReq = true → (bankGood s 0 = true ∨ bankGood s 1 = true) → ∃ t, exec (.bootComplete true true true) s = .next t ∧ t.sys.st = .recovery ∧
      t.sys.cause = s.sys.cause ∧ t.sys.recReq = false) ∧
    (exec .recoveryKeyWaitEnd s = .next { s with sys := { s.sys with
      recReq := true, keyLow := true, keyStale := true } })

/-- KEY# and ESTOP#: the wake in SHIP, the short press, the long press with its reset, and the emergency stop (R361,
R362, R363, R364). Rows for the end of a time assert that it has passed (log entry 4). That ESTOP_RELEASE begins a
sampling period is the model's choice (log entry 48). -/
def Obligations.KeyAndEstopAct : Prop :=
  ∀ s : State,
    (s.sys.st = .ship → exec .shipKeyWake s = .next { s with sys := { s.sys with shipWake := true, keyLow := true } } ∧
      exec .shipKeyWakeTimeout s = .next { s with sys := { s.sys with shipWake := false, keyLow := false } }) ∧
    (s.powered = true → s.sys.keyStale = false → ∃ t, exec .keyShortPress s = .next t ∧
      t.sys = { s.sys with keyShort := true, keyLow := false, keyHigh := 0 } ∧
      t = { s with sys := t.sys, alr := t.alr, bus := t.bus }) ∧
    (s.powered = true → s.sys.keyStale = true →
      exec .keyShortPress s = .next { s with sys := { s.sys with keyLow := false, keyHigh := 0 } } ∧
      exec .longPress s = .next s) ∧
    (s.powered = true → s.sys.hkLost = false → s.sys.keyStale = false → ∃ t, exec .longPress s = .next t ∧ t.sys.strEn = false ∧
      t.sys.longPress = true ∧ t.sys.acted = 2 ∧ t.tie.en = false ∧ AllStopped t ∧ t.sys.st = s.sys.st ∧
      ∀ n : Fin 32, s.taps[n].state = .standIn → t.taps[n].stake.slotByp = true) ∧
    (s.powered = true → s.sys.longPress = true → s.sys.hkLost = false → ∀ strap : BitVec 3, ∃ t,
      exec (.longPressReset strap) s = .next t ∧ t.sys.st = .boot ∧ t.sys.cause = 6 ∧ t.sys.last = 3 ∧
        t.sys.addr = strap ∧ t.wdg.locked = s.wdg.locked) ∧
    ((s.sys.st = .standby ∨ s.sys.st = .run ∨ s.sys.st = .hold) → (s.sys.acted = 0 ∨ 3 < s.sys.acted) →
      ∃ t, exec .estop s = .next t ∧ t.sys.acted = 3 ∧ t.sys.st = .safe ∧
      t.sys.cause = 5 ∧ t.sys.estop = true ∧ t.tie.en = false ∧ AllStopped t) ∧
    (s.sys.st = .recovery → ∃ t, exec .estop s = .next t ∧ t.sys.st = .recovery ∧ t.sys.estop = true ∧
      t.tie.en = false ∧
      AllStopped t) ∧
    (s.powered = true → ∃ t, exec .estopRelease s = .next t ∧ t.sys = { s.sys with estop := false, acted := 0 } ∧
      (∀ n : Fin 32, t.taps[n] = { s.taps[n] with acted := 0 }) ∧
      t = { s with sys := t.sys, taps := t.taps, links := t.links, shown := { s.shown with flt := t.shown.flt } } ∧
      (s.sys.estop = true → (t.shown.flt.getD 0 0).getLsbD 3 = false))

/-- HOLD: entry keeps the state before and holds every core in reset, the limit ramps down, the ready plane returns
with its firmware timers from zero and the running times saved, and a standalone module at address 0 leads at once
(log entry 29) (R26, R29, R30, R31, R95, R159, R204, R319). Rows for the end of a time assert that it has passed (log
entry 4). The cause shown after HOLD is the model's choice (log entry 34). -/
def Obligations.HoldKeepsTheStateBefore : Prop :=
  ∀ s : State,
    (s.sys.chg = [.holdCmd] → s.sys.acted = 0 → (s.sys.st = .standby ∨ s.sys.st = .run) → s.pour.state = .idle →
      s.pour.rise = false → ∃ t, exec .holdEntry s = .next t ∧ t.sys.st = .hold ∧ t.sys.cause = 1 ∧
      t.sys.before = s.sys.st ∧
        t.sys.beforeCause = s.sys.cause ∧ t.sys.holdSeen = true ∧ t.sys.cores = 0 ∧ t.sys.chg = [] ∧
        t.pour.holdPull = true ∧ t.pour.tick = false ∧ t.arb.frozen = true ∧ t.wdg.grace = true ∧ t.taps = s.taps ∧
        (∀ x : Fin 4, t.ports[x] = s.ports[x].freeze ∧ t.ports[x].allow = s.ports[x].allow) ∧ t.ctrs = s.ctrs) ∧
    (s.sys.st = .hold → s.sys.holdLimit = false → ∃ t, exec .holdLimit s = .next t ∧ t.sys.holdLimit = true ∧
      t.sys.rampHold = true ∧ t.sys.st = .hold ∧
      (∀ n : Fin 32, s.taps[n].state = .standIn → t.taps[n].stake.slotByp = true) ∧
        t = { s with sys := t.sys, taps := t.taps }) ∧
    (s.sys.st = .hold → s.sys.rampHold = true → ∃ t, exec .holdRampComplete s = .next t ∧ t.sys.rampHold = false ∧
      t.sys.st = .hold ∧ ∀ n : Fin 32, t.taps[n].stake.conv = false ∧ t.taps[n].stake.sw = false) ∧
    (s.sys.st = .hold → s.sys.holdLimit = false → s.bp.faultWaits = false →
      (s.sys.before = .standby → s.sys.estop = false ∧ s.sys.shFault = false) →
      (∀ k : Fin 4, s.mtr.alarms[k].standbyWaits = false) →
      ∃ t, exec .controlPlaneReady s = .next t ∧ t.sys.st = s.sys.before ∧ t.sys.cause = s.sys.beforeCause ∧
        t.sys.cores = 0xFF ∧ t.arb.frozen = false ∧ t.alr.deferred = [] ∧ t.mtr.pending = [] ∧ t.wdg.grace = true ∧
        (∀ c : Fin 8, t.sys.fwFrom[c] = some s.sys.uptime) ∧
        (s.sys.before = .standby ∨ s.sys.before = .run → s.sys.addr = 0 → s.bp.standalone = true →
          s.bp.addrDup = false → t.bp.leader = true ∧ t.bp.leaderAddr = 0) ∧
        ∀ (n : Fin 32) (p : Fin 16), t.taps[n].stake.rods[p].savedTime = t.taps[n].stake.rods[p].runTime) ∧
    (s.sys.st = .hold → s.sys.holdLimit = true → s.sys.rampHold = false → s.bp.faultWaits = false →
      s.sys.estop = false → s.sys.shFault = false → (∀ k : Fin 4, s.mtr.alarms[k].standbyWaits = false) →
      ∃ t, exec .controlPlaneReady s = .next t ∧ t.sys.st = .standby ∧ t.sys.cause = 9 ∧ t.sys.cores = 0xFF)

/-- The line engine in VIEW: it shows registers, records and states, and changes nothing else but the monitor's own
latches and the EARLY flag that a read of a result word sets; a key ends a listing, of `ST` after a line that is a
free value (log entry 3); a line of more than 128 characters is answered `ER LINE`, and a CR alone on an idle line
brings the prompt (R390, R391, R392, R395). Numbers of ER replies are the model's (log entry 28). -/
def Obligations.MonitorViewOnlyShows : Prop :=
  ∀ (line : List Byte) (stop : Option Nat) (s : State), s.powered = true →
    (128 < (typed line).length → ∀ a k : Nat, (∃ t, exec (.rd a ⟨k, line, stop⟩) s = .next t ∧ t.mon.outErr = some 7 ∧
        t.mon.out = [] ∧ t = { s with mon := t.mon }) ∧
      ∃ t, exec (.bbRecord a ⟨none, line, stop⟩) s = .next t ∧ t.mon.outErr = some 7 ∧ t = { s with mon := t.mon }) ∧
    (∀ a k : Nat, ∃ t, exec (.rd a ⟨k, [0x0D], stop⟩) s = .next t ∧ t.mon.out = [] ∧ t.mon.outErr = none ∧
      monText t.mon = 0x0D :: prompt s.mon ∧ t = { s with mon := t.mon }) ∧
    ((typed line).length ≤ 128 →
    (Says line 0x000 1 → ∃ t, exec (.rd 0x000 ⟨1, line, stop⟩) s = .next t ∧ t.mon.echo = typed line ++ [0x0D] ∧ t.mon.out = [0x5120] ∧
      t.mon.outErr = none ∧ t = { s with mon := t.mon }) ∧
    (Says line 0x032 1 → ∃ t, exec (.rd 0x032 ⟨1, line, stop⟩) s = .next t ∧ t.mon.out = [word s.bp.cap] ∧ t = { s with mon := t.mon }) ∧
    (∀ addr count : Nat, Says line addr count → 1 ≤ count → count ≤ 64 → addr < 4096 →
      let r := readAccess .monitor false count addr s
      ∃ t, exec (.rd addr ⟨count, line, stop⟩) s = .next t ∧ t.mon.out = r.1 ∧ t.mon.out.length = count ∧
        t.mon.outErr = none ∧ t.mon.stop = stop ∧ t.mon.echo = typed line ++ [0x0D] ∧
        (∀ j : Nat, j < count → resAddr ((addr + j) % 4096) = none → rsGroup ((addr + j) % 4096) = none →
          t.mon.out.getD j 0 = hostReg s ((addr + j) % 4096)) ∧
        t.bus.latchMon = r.2.bus.latchMon ∧ (∀ n : Fin 4, t.mbx[n] = { s.mbx[n] with early := t.mbx[n].early }) ∧
        ((∀ j : Nat, j < count → resAddr ((addr + j) % 4096) = none) → t.mbx = s.mbx) ∧
        t = { s with mon := t.mon, mbx := t.mbx, bus := { s.bus with latchMon := t.bus.latchMon } }) ∧
    (∀ addr count : Nat, Says line addr count → (count = 0 ∨ 64 < count ∨ 4096 ≤ addr) →
      ∃ t, exec (.rd addr ⟨count, line, stop⟩) s = .next t ∧
      t.mon.outErr = some 1 ∧ t.mon.out = [] ∧ t = { s with mon := t.mon }) ∧
    (∃ t, exec .bb s = .next t ∧ t.mon.out = wordsOf 2 (oldest s.bbx) ++ wordsOf 2 (newest s.bbx)
      ++ [word (bit s.bbx.okA 0 + bit s.bbx.okB 1)] ∧ t = { s with mon := t.mon }) ∧
    (∀ (seq : Nat) (h : Held), Says line seq 64 → heldRec s.bbx seq = some h →
      ∃ t, exec (.bbRecord seq ⟨none, line, stop⟩) s = .next t ∧
      t.mon.out = (if 2 < (lineWords (typed line)).length then h.words.take 64 else h.words) ∧
      t.mon.outErr = none ∧ t = { s with mon := t.mon }) ∧
    (∀ (seq : Nat) (c : Option Nat), Says line seq (c.getD 64) → heldRec s.bbx seq = none →
      ∃ t, exec (.bbRecord seq ⟨c, line, stop⟩) s = .next t ∧
      t.mon.outErr = some 6 ∧
      t = { s with mon := t.mon }) ∧
    (idleCr line = false → ∃ t, exec (.bbNew ⟨false, line, stop⟩) s = .next t ∧ t.mon.listing = true ∧ t = { s with mon := t.mon }) ∧
    (idleCr line = false → exec (.bbNew ⟨true, line, stop⟩) s = .next { s with mon := {
      s.mon with listing := false, echo := typed line ++ [0x0D], stop := none } }) ∧
    (∃ t, exec .st s = .next t ∧ t.mon.out.length = 41 ∧ t.mon.out.getD 0 0 = word (modCode s.sys.st) ∧
      (∀ n : Fin 32, t.mon.out.getD (1 + n.val) 0 = word (tapCode s.taps[n].state)) ∧
      (∀ x : Fin 4, t.mon.out.getD (33 + x.val) 0 = word (portCode s.ports[x].state)) ∧
      (∀ x : Fin 4, t.mon.out.getD (37 + x.val) 0 = word (linkCode s.links[x].state)) ∧
      t.mon.stop = some (Config.freeValue s.free) ∧ t = { s with mon := t.mon, free := s.free + 1 }))

/-- `AUTH`, whose line with an answer may be longer (log entry 67): a nonce first, then an answer; SERVICE only for an
answer that verifies, the third failure blocks (R393, R394). Whether an answer verifies and the nonce are free values.
The functions of SERVICE: refused in VIEW; the performance ring, the latch test, and one command passed to C0, which
does what its own row does from the monitor's channel and shows its return code and result words; an opcode not listed
is answered `ER 0x0020`, and a `CMD` in BOOT, in HOLD or while one is in flight `ER BUSY`. The numbers of the reasons
are the model's (log entry 28) (R386, R395, R396, R397). The numbers of the ER replies are the model's (log entry 28).
-/
def Obligations.ServiceNeedsAVerifiedAnswer : Prop :=
  (∀ (line : List Byte) (s : State), s.powered = true → idleCr line = false → (typed line).length ≤ 128 →
    (s.mon.blocked = false → ∃ t, exec (.auth ⟨none, line, none⟩) s = .next t ∧ t.mon.nonce = some (s.free, s.sys.uptime) ∧
      t.free = s.free + 1 ∧ t.mon.service = s.mon.service ∧ t.mon.out.length = 8 ∧
      t = { s with mon := t.mon, free := t.free }) ∧
    (s.mon.blocked = true → ∀ a : Option (List Byte), ∃ t, exec (.auth ⟨a, line, none⟩) s = .next t ∧ t.mon.outErr = some 2 ∧
      t.mon.service = s.mon.service ∧ t = { s with mon := t.mon }) ∧
    (∀ (sig : List Byte) (k t0 : Nat), s.mon.blocked = false → s.mon.nonce = some (k, t0) → sig.length = 64 → s.sys.uptime ≤ t0 + 60000 →
      ∃ t, exec (.auth ⟨some sig, line, none⟩) s = .next t ∧ t.mon.nonce = none ∧
        (authKey s (Config.nonce k) sig = 0 → t.mon.service = s.mon.service ∧ t.mon.outErr = some 2) ∧
        (authKey s (Config.nonce k) sig ≠ 0 → t.mon.service = true ∧
          t.mon.out = [word (authKey s (Config.nonce k) sig)])) ∧
    (∀ sig : List Byte, s.mon.blocked = false → s.mon.nonce = none →
      ∃ t, exec (.auth ⟨some sig, line, none⟩) s = .next t ∧ t.mon.service = s.mon.service ∧
        t.mon.blocked = decide (2 ≤ (recent s.sys.uptime 600000 s.mon.fails).length)) ∧
    (exec .authBlockEnd s = .next { s with mon := { s.mon with blocked := false } }) ∧
    (∃ t, exec .bye s = .next t ∧ t.mon.service = false ∧ t.mon.testLatch = false ∧
      t = { s with mon := t.mon }) ∧
    (exec .serviceInactivity s = .next { s with mon := { s.mon with service := false, testLatch := false } }) ∧
    (exec .lineBreak s = .next { s with mon := { s.mon with service := false, testLatch := false } })) ∧
  (∀ (line : List Byte) (s : State), s.powered = true → (typed line).length ≤ 128 → idleCr line = false →
    (s.mon.service = false → ∀ (c : Fin 8) (n : Nat) (op : Word) (args : List Word),
      (∃ t, exec (.pr c ⟨n, line, none⟩) s = .next t ∧ t.mon.outErr = some 5 ∧ t = { s with mon := t.mon }) ∧
      (∃ t, exec .testLatchOn s = .next t ∧ t.mon.testLatch = s.mon.testLatch ∧ t.mon.outErr = some 5) ∧
      (∃ t, exec (.cmd op ⟨args, line, none⟩) s = .next t ∧ t.mon.outErr = some 5 ∧ t = { s with mon := t.mon })) ∧
    (s.mon.service = true →
      (∀ c : Fin 8, Says line c.val 64 → ∃ t, exec (.pr c ⟨64, line, none⟩) s = .next t ∧ t.mon.outErr = none ∧
        t.mon.out = ((s.perf[c].ring.drop (s.perf[c].ring.length - 64)).flatMap fun e => e.2.map fun b => word b.toNat) ∧
        t = { s with mon := t.mon }) ∧
      ((s.sys.st = .standby ∨ s.sys.st = .safe ∨ s.sys.st = .recovery) → ∃ t, exec .testLatchOn s = .next t ∧
        t.mon.testLatch = true ∧ t.mon.outErr = none ∧ t = { s with mon := t.mon }) ∧
      (s.sys.st = .run → ∃ t, exec .testLatchOn s = .next t ∧ t.mon.testLatch = s.mon.testLatch ∧
        t.mon.outErr = some 3) ∧
      (∃ t, exec .testLatchOff s = .next t ∧ t.mon.testLatch = false ∧ t = { s with mon := t.mon }) ∧
      (∀ (op : Word) (args : List Word), numAt line 1 op.toNat = some op.toNat →
        numsFrom line 2 (args.map (·.toNat)) = some (args.map (·.toNat)) →
        (passed op.toNat args = none → ∃ t, exec (.cmd op ⟨args, line, none⟩) s = .next t ∧ t.mon.outErr = some 0x20 ∧
          t.mon.out = [] ∧ t = { s with mon := t.mon }) ∧
        (∀ i : Instr, passed op.toNat args = some i →
          ((s.sys.st = .boot ∨ s.sys.st = .hold ∨ s.mon.inFlight = true) →
            ∃ t, exec (.cmd op ⟨args, line, none⟩) s = .next t ∧ t.mon.outErr = some 4 ∧ t.mon.out = [] ∧
              t = { s with mon := t.mon }) ∧
          (s.sys.st ≠ .boot → s.sys.st ≠ .hold → s.mon.inFlight = false → s.held = [] →
            let s' := { s with monAnswer := none, mon := { s.mon with cmdTaken := false } }
            ∃ u, exec i s' = .next u ∧ ∃ t, exec (.cmd op ⟨args, line, none⟩) s = .next t ∧ t.mon.outErr = none ∧
              (∀ r : Answer, u.monAnswer = some r → t.mon.out = word r.code :: r.res ∧ t.mon.inFlight = false) ∧
              (u.monAnswer = none → t.mon.out = [] ∧ t.mon.inFlight = true ∧ t.mon.cmdWait = some (op.toNat, args)) ∧
              t = { u with mon := t.mon, monAnswer := none }))) ∧
      (∀ args : List Word, numAt line 1 0x0107 = some 0x0107 →
        numsFrom line 2 (args.map (·.toNat)) = some (args.map (·.toNat)) →
        s.sys.st = .standby → s.sys.acted = 0 → s.sys.cores.getLsbD 0 = true → s.mon.inFlight = false →
        ∃ t, exec (.cmd 0x0107 ⟨args, line, none⟩) s = .next t ∧ t.mon.outErr = none ∧
          (changeDue s = false → t.mon.out = [1] ∧ t.sys = { s.sys with chg := s.sys.chg ++ [.reset] }) ∧
          (changeDue s = true → t.mon.out = [0x30] ∧ t.sys = s.sys)) ∧
      (∀ args : List Word, numAt line 1 0x0102 = some 0x0102 →
        numsFrom line 2 (args.map (·.toNat)) = some (args.map (·.toNat)) →
        ∃ t, exec (.cmd 0x0102 ⟨args, line, none⟩) s = .next t ∧ t.mon.outErr = some 0x20 ∧ t.sys = s.sys)))

/-! ### Ports, hub, arbiter -/

/-- A port qualifies inside its window for 100 ms, precharges, soft-starts and comes ONLINE; outside the window it
falls back, and during a hand-over it waits (R36, R38, R54). Protection trips a port in PRECHARGE, SOFTSTART and
ONLINE: precharge time, over-voltage, over-current and reverse current, each with its cause; the loss of the last
ONLINE port in RUN begins a hand-over with every stand-in bypassed (R36, R41, R42, R51, R52). Rows for the end of a
time assert that it has passed (log entry 4). That the third trip within 60 s is judged at the end of BACKOFF is the
model's choice (log entry 51). -/
def Obligations.PortsComeOnlineAndTrip : Prop :=
  (∀ (x : Fin 4) (v : Int) (s : State), s.powered = true → portRated v = true →
    (s.ports[x].state = .idle → inWindow s x v = true → mayQualify s x = true →
      ∃ t, exec (.portInWindow x v) s = .next t ∧ t.ports[x] = { s.ports[x] with
          vin := v, state := if s.hub.handover then .idle else .qualify, handoverWait := s.hub.handover } ∧
        PortsBut x s t ∧ t = { s with ports := t.ports }) ∧
    (s.ports[x].state = .qualify → inWindow s x v = false →
      ∃ t, exec (.portOutOfWindow x v) s = .next t ∧ t.ports[x] = { s.ports[x] with vin := v, state := .idle } ∧
        PortsBut x s t ∧ t = { s with ports := t.ports }) ∧
    (s.ports[x].state = .qualify → inWindow s x s.ports[x].vin = true → ∃ t, exec (.qualifyEnd x) s = .next t ∧
      t.ports[x] = { s.ports[x] with state := .precharge } ∧ PortsBut x s t ∧ t = { s with ports := t.ports }) ∧
    (s.ports[x].state = .qualify → inWindow s x s.ports[x].vin = false → exec (.qualifyEnd x) s = .next s) ∧
    (s.ports[x].state = .precharge → s.ports[x].vin - 20000 ≤ v → v ≤ s.ports[x].vin + 20000 →
      ∃ t, exec (.prechargeComplete x v) s = .next t ∧
        t.ports[x] = { s.ports[x] with state := .softstart, softMs := 0 } ∧ PortsBut x s t ∧
        t = { s with ports := t.ports }) ∧
    (s.ports[x].state = .softstart → ∃ t, exec (.softstartEnd x) s = .next t ∧
      t.ports[x] = (if s.sys.st = .hold then { s.ports[x] with
          state := .online, softMs := 0, allow := 0, allowFrom := 0, allowTo := 0, allowMs := 5 }
        else { s.ports[x] with state := .online, softMs := 0 }) ∧
      PortsBut x s t ∧ t = { s with ports := t.ports }) ∧
    ((s.ports[x].state = .softstart ∨ s.ports[x].state = .online) →
      (v < (window s x).1 - 10000 ∨ (window s x).2 + 10000 < v) →
      ∃ t, exec (.portLoss x v) s = .next t ∧
        t.ports[x] = { s.ports[x] with vin := v, state := .idle, lastTrip := 5, allow := 0, allowFrom := 0, allowTo := 0
                                       allowMs := 5, stopping := false, softMs := 0 } ∧
        PortsBut x s t ∧ t = { s with ports := t.ports, hub := t.hub, taps := t.taps }) ∧
    (s.ports[x].state = .backoff → ∃ t, exec (.backoffEnd x) s = .next t ∧
      t.ports[x] = { s.ports[x] with
        state := if 3 ≤ (recent s.sys.uptime 60000 s.ports[x].trips).length then .locked else .idle } ∧
      PortsBut x s t ∧ t = { s with ports := t.ports })) ∧
  (∀ (x : Fin 4) (s : State), s.powered = true →
    (s.ports[x].state = .precharge → ∃ t, exec (.prechargeTrip x) s = .next t ∧ Tripped x 4 s t) ∧
    (∀ v, portRated v = true → s.ports[x].state = .online → (s.ports[x].ovLevel : Int) < v →
      ∃ t, exec (.sourceOv x v) s = .next t ∧ Tripped x 1 s t ∧ t.ports[x].vin = v) ∧
    (∀ v, portRated v = true → v ≤ (s.ports[x].ovLevel : Int) → ∃ t, exec (.sourceOv x v) s = .next t ∧
      t.ports[x] = { s.ports[x] with vin := v } ∧ PortsBut x s t ∧ t = { s with ports := t.ports }) ∧
    (∀ i : Int, (s.ports[x].state = .precharge ∨ s.ports[x].state = .softstart ∨ s.ports[x].state = .online) →
      (22000 < i ∨ ((5 * s.ports[x].limIn : Nat) : Int) < 4 * i ∧ ((s.ports[x].limIn + 500 : Nat) : Int) < i) →
      ∃ t, exec (.sourceOc x i) s = .next t ∧ Tripped x 2 s t ∧ t.ports[x].iin = i) ∧
    (∀ i : Int, i ≤ 22000 → (4 * i ≤ ((5 * s.ports[x].limIn : Nat) : Int) ∨ i ≤ ((s.ports[x].limIn + 500 : Nat) : Int)) →
      ∃ t, exec (.sourceOc x i) s = .next t ∧ t.ports[x] = { s.ports[x] with iin := i } ∧ PortsBut x s t ∧
        t = { s with ports := t.ports }) ∧
    (∀ i : Int, s.ports[x].state = .online → i < -200 →
      ∃ t, exec (.reverseCurrent x i) s = .next t ∧ Tripped x 3 s t ∧ t.ports[x].iin = i ∧
        ((∀ y : Fin 4, y ≠ x → s.ports[y].state ≠ .online) → s.sys.st = .run → s.hub.handover = false →
          t.hub = { s.hub with handover := true } ∧ ∀ n : Fin 32, t.taps[n] =
            if s.taps[n].state = .standIn then
              { s.taps[n] with stake := { s.taps[n].stake with slotByp := true } }
            else s.taps[n]) ∧
        ((∃ y : Fin 4, y ≠ x ∧ s.ports[y].state = .online) → t.hub = s.hub ∧ t.taps = s.taps)))

/-- The hub: an over-voltage stops every switching port without a trip and the third within 60 s is a latched fault
that sends RUN to SAFE; below 390 V the stakes' limits droop, below 360 V they are 0 A until it is above 380 V; a
hand-over ends with the waiting ports qualifying, each if it still may (R26, R27, R33, R34, R36, R42, R48, R51, R54).
Rows for the end of a time assert that it has passed (log entry 4). -/
def Obligations.HubLimitsActOnEveryStake : Prop :=
  ∀ s : State, s.powered = true →
    ((recent s.sys.uptime 60000 s.hub.ovTimes).length < 2 → ∃ t, exec .hubOv s = .next t ∧ t.hub.ov = true ∧
      t.hub.ovTimes = recent s.sys.uptime 60000 s.hub.ovTimes ++ [s.sys.uptime] ∧ t.hub.ov3 = s.hub.ov3 ∧
      t.sys = s.sys ∧ t.ctrs = s.ctrs ∧ ∀ x : Fin 4, t.ports[x] =
        (match s.ports[x].state with
        | .precharge | .softstart | .online =>
          { s.ports[x] with state := .backoff, lastTrip := 6, allow := 0, allowFrom := 0, allowTo := 0
                            allowMs := 5, softMs := 0 }
        | _ => if s.ports[x].stopping then
            { s.ports[x] with allow := 0, allowFrom := 0, allowTo := 0, allowMs := 5, stopping := false }
          else s.ports[x])) ∧
    (2 ≤ (recent s.sys.uptime 60000 s.hub.ovTimes).length → s.sys.st = .run → (s.sys.acted = 0 ∨ 5 < s.sys.acted) →
      ∃ t, exec .hubOv s = .next t ∧ t.sys.acted = 5 ∧
      t.hub.ov3 = true ∧ t.sys.st = .safe ∧ t.sys.cause = 7 ∧ ∀ x : Fin 4, t.ports[x].state = .disabled) ∧
    (∀ v, v < 390000 → ∃ t, exec (.hubDroop v) s = .next t ∧ t.hub.v = v ∧ t.hub.droop = true ∧
      t.hub.uv = (s.hub.uv || decide (v < 360000)) ∧ t = { s with hub := t.hub, taps := t.taps } ∧
      (∀ n : Fin 32, t.taps[n].state = s.taps[n].state) ∧
      (s.hub.uv = false → 360000 ≤ v → s.hub.ramp0 = 0 → moduleFactor s.sys = 20 →
        (∀ n : Fin 32, s.taps[n].stake.bypRamp = false →
          iLim t n = (baseLimit s n).1 * (v - 360000) / 30000))) ∧
    (∀ v, v < 360000 → ∃ t, exec (.hubUndervoltage v) s = .next t ∧ t.hub.v = v ∧ t.hub.uv = true ∧
      (∀ n : Fin 32, iLim t n = 0) ∧ t = { s with hub := t.hub, taps := t.taps }) ∧
    (∀ v, ∃ t, exec (.hubRecovery v) s = .next t ∧ t.hub.v = v ∧
      t.hub.uv = (s.hub.uv && decide (v ≤ 380000)) ∧ t.hub.droop = (s.hub.droop && decide (v < 390000)) ∧
      t = { s with hub := t.hub, taps := t.taps }) ∧
    (s.hub.handover = true → ∃ t, exec .handOverEnd s = .next t ∧ t.hub.handover = false ∧ t.hub.ramp0 = 20 ∧
      (∀ n : Fin 32, iLim t n = 0) ∧
      (∀ x : Fin 4, t.ports[x] = { s.ports[x] with
        handoverWait := false
        state := if s.ports[x].handoverWait = true ∧ s.ports[x].state = .idle ∧ mayQualify s x = true ∧
            inWindow s x s.ports[x].vin = true then .qualify
          else s.ports[x].state }) ∧
      t = { s with ports := t.ports, hub := t.hub, taps := t.taps, alr := t.alr, bus := t.bus })

/-- An arbiter period with C3 running takes the sample and grants every tap at most its command limit and its stake's
limit, and all taps together at most the budget; doses do not change yet; the output page of the recipe is taken, and
the registers updated once per period are; with doses frozen nothing is computed (R15, R57, R164, R165, R166, R177,
R179, R376, R383). The loss and efficiency tables are free values. Doses apply in two steps, lower ones first; frozen
doses stay, and while the hand-over ramp runs it alone moves the limits; the end of a cut episode writes its record
and alert, after those of its start where C3 has not given them yet (R51, R168, R173, R177). That droop scaling ends
with the first step is deduced (log entry 52). What the loss tables hold is a free value and when a mirror refreshes,
also with C3 stopped, is the model's choice (log entries 3, 27 and 35). -/
def Obligations.GrantsKeepWithinTheBudget : Prop :=
  (∀ (m : Sample) (s : State), s.powered = true → rated m = true →
    (c3Up s = true → s.arb.frozen = false → s.sys.st ≠ .recovery → ∃ t, exec (.arbPeriod m) s = .next t ∧
      t.arb.grant ≤ t.arb.budget ∧ t.arb.periods = (s.arb.periods + 1) % 65536 ∧ t.arb.fresh = true ∧
      t.arb.higherDue = false ∧ t.hub.v = m.hubV ∧ t.sys.inlet = m.inlet ∧
      t.arb.inletBad = decide (m.inlet < -450 ∨ 900 < m.inlet) ∧ t.shown = (refreshShown t).shown ∧ t.rcp.out = [] ∧
      t.rcp.seen = (recipeSees t).rcp.seen ∧
      t.rcp.phase = (if s.rcp.phase = .starting then .alone
        else if s.rcp.phase = .alone ∧ s.rcp.running.isSome = true then .init else s.rcp.phase) ∧ t.hub.modeIn = s.hub.mode ∧
      (∀ (n : Fin 32), t.taps[n].nextDose = t.taps[n].grant ∧ t.taps[n].dose = s.taps[n].dose ∧
        t.taps[n].grant ≤ stakeLimit t n ∧ (∀ c, s.taps[n].cfg.cmdLim = some c → t.taps[n].grant ≤ c) ∧
        (asks t n = false → t.taps[n].grant = 0) ∧ t.taps[n].state = s.taps[n].state ∧
        (∀ a, m.taps[n.val]? = some a → t.taps[n].vKel = a.vKel ∧ t.taps[n].iStk = a.iStk)) ∧
      (∀ x : Fin 4, t.ports[x].limIn = s.ports[x].iLim ∧
        ∀ v i : Int, m.ports[x.val]? = some (v, i) → t.ports[x].vin = v ∧ t.ports[x].iin = i)) ∧
    ((c3Up s = false ∨ s.arb.frozen = true) → ∃ t, exec (.arbPeriod m) s = .next t ∧
      t.arb.periods = s.arb.periods ∧ t.arb.budget = s.arb.budget ∧ t.shown = (refreshShown t).shown ∧
      ∀ n : Fin 32, t.taps[n].dose = s.taps[n].dose ∧ t.taps[n].grant = s.taps[n].grant ∧
        t.taps[n].entSup = s.taps[n].entSup ∧ t.taps[n].entCon = s.taps[n].entCon)) ∧
  (∀ s : State, s.powered = true →
    (s.arb.frozen = false → s.arb.fresh = true → s.hub.handover = false → s.arb.higherDue = false →
      ∃ t, exec .doseApply s = .next t ∧
      t.arb.higherDue = true ∧ t.hub = { s.hub with ramp0 := 0, droop := false } ∧
      (∀ n : Fin 32, t.taps[n].dose = min s.taps[n].dose s.taps[n].nextDose ∧ t.taps[n].state = s.taps[n].state) ∧
      t = { s with taps := t.taps, arb := t.arb, hub := t.hub, sys := t.sys }) ∧
    (s.arb.frozen = false → s.arb.fresh = true → s.hub.handover = false → s.arb.higherDue = true →
      ∃ t, exec .doseApply s = .next t ∧
      t.arb.higherDue = false ∧
      (∀ n : Fin 32, t.taps[n].dose = max s.taps[n].dose s.taps[n].nextDose ∧ t.taps[n].state = s.taps[n].state) ∧
      t = { s with taps := t.taps, arb := t.arb, sys := t.sys }) ∧
    ((s.arb.frozen = true ∨ s.hub.handover = true) → exec .doseApply s = .next s) ∧
    (∀ n : Fin 32, c3Up s = true → s.taps[n].cutSup.running = true → ∃ t, exec (.cutEpisodeEnd n false) s = .next t ∧
      t.taps[n] = { s.taps[n] with cutSup := .reset } ∧ TapsBut n s t ∧
      t.bbx.nextSeq = s.bbx.nextSeq + (if s.taps[n].cutSup.told then 1 else 2) ∧
      (t.bbx.queue.getLast?.map (·.type)) = some 0x09 ∧
      t.alr.nextSeq = s.alr.nextSeq + (if s.taps[n].cutSup.told then 1 else 2) ∧
      t = { s with taps := t.taps, bbx := t.bbx, alr := t.alr, bus := t.bus }) ∧
    (∀ n : Fin 32, s.taps[n].cutCon.running = false → exec (.cutEpisodeEnd n true) s = .next s))

/-! ### Rods, stakes, taps -/

/-- A rod that trips, suspects or overheats rests until its rest ends, the third trip fuses it out; a fused rod is
failed, and a stake whose fuse was not confirmed is withdrawn (R60, R62, R75, R86, R87, R90). Rods join with the least
running time and leave with the most, and a rod that joins starts at its own phase; a swap lets the rested rod join
and sheds the worn one in the next millisecond; running times are saved; trims move within their clamp and only on
active rods; braking takes the duty from every rod of the pair (R73, R74, R77, R78, R79, R80, R84). Rows for the end
of a time assert that it has passed (log entry 4). -/
def Obligations.RodsRestFuseJoinAndLeave : Prop :=
  (∀ (n : Fin 32) (p : Fin 16) (s : State), s.powered = true →
    let r := rodAt s (n, p)
    (s.taps[n].stake.conv = true → r.healthy = true → r.active = true →
      (recent s.sys.uptime 10000 r.trips).length < 2 → ∀ ok, ∃ t, exec (.rodCurrentTrip n p ok) s = .next t ∧
        rodAt t (n, p) = { r with
          active := false, duty := 0, rest := .trip
          trips := recent s.sys.uptime 10000 r.trips ++ [s.sys.uptime] } ∧
        StakesOnly n s t) ∧
    (s.taps[n].stake.conv = true → r.healthy = true → r.active = true →
      2 ≤ (recent s.sys.uptime 10000 r.trips).length → ∀ ok, ∃ t, exec (.rodCurrentTrip n p ok) s = .next t ∧
        (rodAt t (n, p)).healthy = false ∧ (rodAt t (n, p)).active = false ∧
        (rodAt t (n, p)).cause = (if ok then 2 else 6) ∧ t.bbx.nextSeq ≥ s.bbx.nextSeq ∧
        (ok = false → s.taps[headTap s n].stake.withdrawn = false → t.taps[headTap s n].stake.withdrawn = true ∧
          t.taps[headTap s n].stake.conv = false ∧ t.taps[headTap s n].stake.sw = false) ∧
        t.ports = s.ports ∧ t.sys = s.sys ∧ t.ctrs = s.ctrs ∧
        ∀ m : Fin 32, m ∉ mates s n → t.taps[m].state = s.taps[m].state ∧ t.taps[m].stake.conv = s.taps[m].stake.conv) ∧
    (s.taps[n].stake.conv = true → r.healthy = true → r.rest ≠ .primTrip →
      (recent s.sys.uptime 10000 r.primTrips).length < 2 → ∀ ok,
      ∃ t, exec (.transformerPrimaryOvercurrent n p ok) s = .next t ∧
        rodAt t (n, p) = { r with active := false, duty := 0, rest := .primTrip
                                  primTrips := recent s.sys.uptime 10000 r.primTrips ++ [s.sys.uptime] } ∧
        StakesOnly n s t) ∧
    (s.taps[n].stake.conv = true → r.healthy = true → r.active = true → (r.trim = 655 ∨ r.trim = -655) →
      (recent s.sys.uptime 86400000 r.suspects).length < 2 → ∀ ok, ∃ t, exec (.suspect n p ok) s = .next t ∧
        rodAt t (n, p) = { r with active := false, duty := 0, susp := true
                                  suspects := recent s.sys.uptime 86400000 r.suspects ++ [s.sys.uptime] } ∧
        StakesOnly n s t) ∧
    (∀ c : Int, r.healthy = true → 1150 < c → ∃ t, exec (.rodOverTemperature n p c) s = .next t ∧
      rodAt t (n, p) = { r with active := false, duty := 0, overTemp := true, temp := c } ∧ StakesOnly n s t) ∧
    (∀ c : Int, r.overTemp = true → c < 950 → ∃ t, exec (.rodCooled n p c) s = .next t ∧
      (rodAt t (n, p)).overTemp = false ∧ (rodAt t (n, p)).temp = c ∧ StakesOnly n s t) ∧
    (r.rest ≠ .none → ∃ t, exec (.rodRestEnd n p) s = .next t ∧ (rodAt t (n, p)).rest = .none ∧
      ((∀ x ∈ r.suspects, s.sys.uptime < x + 60000) → r.suspects ≠ [] → (rodAt t (n, p)).susp = r.susp) ∧
      (rodAt t (n, p)).trips = r.trips ∧ StakesOnly n s t) ∧
    (r.rest = .none → r.susp = true → ∃ t, exec (.rodRestEnd n p) s = .next t ∧ (rodAt t (n, p)).susp = false ∧
      StakesOnly n s t) ∧
    (∀ via args, Accepts 0x0C01 via args s → arg args 0 = 16 * n.val + p.val → arg args 1 = 0xF05E → clUp s n = true →
      r.healthy = true → (∀ m ∈ mates s n, s.taps[m].stake.conv = false) →
      ∃ t ok, exec (.serviceFuseRod via args) s = .next t ∧ answerOf via t = some ⟨0, [if ok = true then 1 else 0]⟩ ∧
        (rodAt t (n, p)).healthy = false ∧ (rodAt t (n, p)).cause = (if ok = true then 5 else 6))) ∧
  (∀ (n : Fin 32) (s : State), s.powered = true → gangedOdd s n = false →
    (converting s n = true → spareRods s n ≠ [] →
      (activeRods s n).length * (s.taps[headTap s n].cfg.addPct * 550) < demandOf s n * 100 →
      ∃ t q, exec (.addRod n) s = .next t ∧ q ∈ spareRods s n ∧
        t = rephase n s (modRod q (fun r => { r with active := true }) s) ∧ (rodAt t q).active = true ∧
        (rodAt t q).phase = phaseOf s.sys.slotAddr.toNat (headTap s n).val ((activeRods t n).idxOf q)
          (activeRods t n).length ∧ StakesOnly n s t ∧
        ∀ r ∈ spareRods s n, (rodAt s q).runTime ≤ (rodAt s r).runTime) ∧
    (converting s n = true → isBraking s n = false → 2 < (activeRods s n).length →
      demandOf s n * 100 < (((activeRods s n).length - 1 : Nat) : Int) * (s.taps[headTap s n].cfg.shedPct * 550) →
      ∃ t q, exec (.shedRod n) s = .next t ∧ q ∈ activeRods s n ∧
        t = rephase n s (modRod q (fun r => { r with active := false, duty := 0 }) s) ∧ (rodAt t q).active = false ∧
        StakesOnly n s t ∧ ∀ r ∈ activeRods s n, (rodAt s r).runTime ≤ (rodAt s q).runTime) ∧
    (converting s n = true → addDue s n = false → shedDue s n = false → isBraking s n = false →
      ∀ a b, leastWorn s (spareRods s n) = some a → mostWorn s (activeRods s n) = some b →
        ∃ t, exec (.wearSwap n) s = .next t ∧ t.taps[n].stake.wearDue = false ∧ StakesOnly n s t ∧
          ((rodAt s a).runTime + 3600 ≤ (rodAt s b).runTime → (rodAt t a).active = true ∧ (rodAt t b).active = true ∧
            ∃ q, t.taps[n].stake.swapOut = some q ∧ (stakeOf s n q.2, q.1) = b) ∧
          ((rodAt s b).runTime < (rodAt s a).runTime + 3600 → ∀ r, rodAt t r = rodAt s r)) ∧
    (converting s n = true → (addDue s n = true ∨ shedDue s n = true ∨ isBraking s n = true) →
      ∃ t, exec (.wearSwap n) s = .next t ∧ t.taps[n].stake = { s.taps[n].stake with wearDue := true } ∧
        TapsBut n s t ∧ t = { s with taps := t.taps }) ∧
    (planeDown s = false → ∃ t, exec .runningTimeSave s = .next t ∧ t = { s with taps := t.taps } ∧
      ∀ (m : Fin 32) (p : Fin 16), t.taps[m].stake.rods[p] =
        { s.taps[m].stake.rods[p] with savedTime := s.taps[m].stake.rods[p].runTime }) ∧
    (∀ iAvg temps, s.taps[n].stake.conv = true → ∃ t, exec (.balancingStep n iAvg temps) s = .next t ∧
      TapsBut n s t ∧ t = { s with taps := t.taps } ∧ ∀ p : Fin 16,
        (s.taps[n].stake.rods[p].active = true →
          -655 ≤ t.taps[n].stake.rods[p].trim ∧ t.taps[n].stake.rods[p].trim ≤ 655) ∧
        (s.taps[n].stake.rods[p].active = false →
          t.taps[n].stake.rods[p].trim = s.taps[n].stake.rods[p].trim)) ∧
    (∀ ist v : Int, converting s n = true → tapRated v = true →
      (s.taps[n].stake.buckOff = false → (ist + 1000 ≤ s.taps[n].stake.ist ∨
          s.taps[n].limit = 1 ∧ (s.taps[n].stake.vref / 1000 : Int) + 500 ≤ v) →
        ∃ t, exec (.brake n ⟨false, ist, v⟩) s = .next t ∧ t.taps[n].vKel = v ∧ t.taps[n].stake.ist = ist ∧
        TapsButMates n s t ∧ t = { s with taps := t.taps } ∧ ∀ m ∈ mates s n, t.taps[m].state = s.taps[m].state ∧
          t.taps[m].stake.braking = true ∧ t.taps[m].stake.brake = true ∧ t.taps[m].stake.buckOff = true ∧
          ∀ p : Fin 16, t.taps[m].stake.rods[p] = { s.taps[m].stake.rods[p] with duty := 0 }) ∧
      (s.taps[n].stake.ist < ist + 1000 → v < (s.taps[n].stake.vref / 1000 : Int) + 500 →
        exec (.brake n ⟨false, ist, v⟩) s = .next s) ∧
      ∃ t, exec (.brake n ⟨true, ist, v⟩) s = .next t ∧ StakesOnly n s t ∧
        ∀ m ∈ mates s n, t.taps[m].stake = { s.taps[m].stake with braking := false }))

/-- SYNC_IN: a valid input is followed by a glide and, once that has arrived and the phase is aligned, a lock, a lost
one by a glide back to the own frequency; SYNC_OUT follows a locked SYNC_IN and is the module's own reference
otherwise (R91, R92, R93, R94). A cluster whose eight stakes idle powers down, wakes when asked, and runs the commands
that waited for it, each after the second check (R20, R22, R250, R254). The shunt bitstream: lost, its last string
current stands; valid again, the measured one is used; 10 ms of loss latch the fault that sends RUN to SAFE; the
contactor's disagreement and a string above its rated voltage, 1500 V or at high altitude 1200 V, are shown (R26,
R409, R410, R411, R422, R431). Rows for the end of a time assert that it has passed (log entry 4). The frequency
judged at the loss is the model's choice (log entry 40), and that a string voltage beyond its absolute maximum stops
the run is its reading (log entry 10). -/
def Obligations.CarrierClustersAndShuntAct : Prop :=
  (∀ s : State, s.powered = true →
    (∀ (f : Nat) (ph : Int), 45000 ≤ f → f ≤ 55000 → s.sys.syncDis = false → s.sys.syncSrc ≠ 2 →
      exec (.syncInValid ⟨f, ph⟩) s =
      .next { s with sys := { s.sys with syncValid := true, inFsw := f, phErr := ph, syncSrc := 1 } }) ∧
    (∀ (f : Nat) (ph : Int), (f < 45000 ∨ 55000 < f) → exec (.syncInValid ⟨f, ph⟩) s = .next s) ∧
    (s.sys.syncValid = true → s.sys.syncSrc = 1 → s.sys.fsw = s.sys.inFsw → -20 < s.sys.phErr → s.sys.phErr < 20 →
      exec .syncLock s = .next { s with sys := { s.sys with syncSrc := 2 } }) ∧
    ((s.sys.fsw ≠ s.sys.inFsw ∨ s.sys.phErr ≤ -20 ∨ 20 ≤ s.sys.phErr) → exec .syncLock s = .next s) ∧
    syncOut s = (if s.sys.syncSrc = 2 then .syncIn else .own) ∧
    (s.sys.syncValid = true → (s.sys.syncSrc = 1 ∨ s.sys.syncSrc = 2) → ∃ t, exec .syncInLoss s = .next t ∧
      t.sys = { s.sys with syncValid := false, syncLoss := true
                           syncSrc := if s.sys.fsw = s.sys.ownFsw then 0 else 3 } ∧
      (planeDown s = false → t.alr.nextSeq = s.alr.nextSeq + 1) ∧
      t = { s with sys := t.sys, alr := t.alr, bus := t.bus }) ∧
    (s.sys.syncSrc = 3 → s.sys.fsw = s.sys.ownFsw →
      exec .syncGlideEnd s = .next { s with sys := { s.sys with syncSrc := 0 } }) ∧
    (s.sys.fsw ≠ s.sys.ownFsw → exec .syncGlideEnd s = .next s)) ∧
  (∀ (m : Fin 4) (s : State), s.powered = true →
    ((s.sys.st = .standby ∨ s.sys.st = .run ∨ s.sys.st = .safe) → s.sys.cores.getLsbD (4 + m.val) = true →
      s.sys.clOn.getLsbD m.val = true → (∀ j : Fin 8, idleStake s.taps[tapAt m j] = true) →
      ∃ t, exec (.clusterPowerDown m) s = .next t ∧ t.sys.clOn.getLsbD m.val = false ∧
        (∀ k : Fin 4, k ≠ m → t.sys.clOn.getLsbD k.val = s.sys.clOn.getLsbD k.val) ∧ t.taps = s.taps ∧
        t = { s with sys := { s.sys with clOn := t.sys.clOn }, perf := t.perf, boxes := t.boxes }) ∧
    (∀ j : Fin 8, idleStake s.taps[tapAt m j] = false → exec (.clusterPowerDown m) s = .next s) ∧
    (s.sys.st ≠ .recovery → s.sys.clOn.getLsbD m.val = false → ∃ t, exec (.clusterWake m) s = .next t ∧
      t.sys.clWaking.getLsbD m.val = true ∧ t = { s with sys := { s.sys with clWaking := t.sys.clWaking } }) ∧
    (∀ (via : Via) (args : List Word) (n : Fin 32), Accepts 0x0304 via args s → arg args 0 = n.val → clusterOf n = m →
      s.sys.clOn.getLsbD m.val = false → ∃ t, exec (.tapSetLimits via args) s = .next t ∧
        t.held = s.held ++ [(0x0304, via, args)] ∧ t.sys.clWaking.getLsbD m.val = true ∧ t.taps = s.taps ∧
        answerOf via t = answerOf via s) ∧
    (∀ (via : Via) (args : List Word) (n : Fin 32), s.sys.st ≠ .recovery → s.sys.clWaking.getLsbD m.val = true →
      s.held = [(0x0304, via, args)] → arg args 0 = n.val → clusterOf n = m → s.sys.cores.getLsbD (4 + m.val) = true →
      (∀ k, recheck 0x0304 s = some k → gangedOdd s n = false → arg args 1 ≤ 16000 → ∃ t,
        exec (.clusterWakeDone m) s = .next t ∧ t.held = [] ∧ t.sys.clOn.getLsbD m.val = true ∧ t.taps = s.taps ∧
        answerOf via t = some ⟨k, []⟩) ∧
      (recheck 0x0304 s = none → gangedOdd s n = false → arg args 1 ≤ 16000 → ∃ t, exec (.clusterWakeDone m) s = .next t ∧ t.held = [] ∧
        t.sys.clOn.getLsbD m.val = true ∧ t.sys.clWaking.getLsbD m.val = false ∧
        t.taps[n].cfg.cmdLim = some (arg args 1) ∧ TapsBut n s t ∧ answerOf via t = some ⟨0, []⟩))) ∧
  (∀ s : State, s.powered = true →
    (s.sys.shValid = true → ∃ t, exec .shuntBitstreamInvalid s = .next t ∧
      t.sys = { s.sys with shValid := false, shLost := true, shRange := false, shLostAt := some s.sys.uptime } ∧
      (planeDown s = false → t.alr.nextSeq = s.alr.nextSeq + 1) ∧
      t = { s with sys := t.sys, alr := t.alr, bus := t.bus }) ∧
    (∀ i : Int, s.sys.shValid = false → ∃ t, exec (.shuntBitstreamValid i) s = .next t ∧ t.sys.shValid = true ∧
      t.sys.iStr = i ∧ t.sys.shRange = decide (i < -32000 ∨ 32000 < i) ∧ t.sys.shFault = s.sys.shFault ∧
      t = { s with sys := t.sys, bbx := t.bbx }) ∧
    (s.sys.shValid = false → s.sys.st = .run → ∃ t, exec .shFault s = .next t ∧ t.sys.shFault = true ∧
      (s.sys.acted = 0 ∨ 5 < s.sys.acted → t.sys.st = .safe ∧ t.sys.cause = 7)) ∧
    (s.sys.shValid = false → (s.sys.st = .boot ∨ s.sys.st = .recovery ∨ s.sys.st = .safe) →
      ∃ t, exec .shFault s = .next t ∧
        t = { s with sys := { s.sys with shFault := true, shLostAt := none }, shown := { s.shown with flt := t.shown.flt } } ∧
        (s.sys.shFault = false → t.shown.flt = fltWords t)) ∧
    (∀ fb : Bool, ∃ t, exec (.fbMismatch fb) s = .next t ∧ t.sys.strFb = fb ∧
      fbMismatch t.sys = decide (fb ≠ s.sys.strEn) ∧ t = { s with sys := { s.sys with strFb := fb, fbMs := t.sys.fbMs } }) ∧
    (∀ v : Int, Sys2Proof.Config.stringMax < v → v ≤ 1600000 → ∃ t, exec (.stringOver1500v v) s = .next t ∧ t.sys.vStr = v ∧
      (planeDown s = false → t.alr.nextSeq = s.alr.nextSeq + 1) ∧
      t = { s with sys := { s.sys with vStr := v }, bbx := t.bbx, alr := t.alr, bus := t.bus }) ∧
    (∀ v : Int, 1600000 < v → exec (.stringOver1500v v) s = .fault .beyondAbsoluteMaximum))

/-- A start request begins with the pre-start test, is refused while the power pair is reversed, and suspends a pair
whose voltages disagree and a stake without a rating; a passed test closes the switch or begins pre-bias; pre-bias
closes it; the reference arrives (R61, R64, R82, R99, R101). A start that fails stops the stake and counts; the third
in a row leads to FAULT-SHORT, the others to the off time, after which the test runs again, unless a hand-off to the
bypass runs, which goes on; the short check acts only while it is open (R102, R103, R104, R105, R112, R132). Rows for
the end of a time assert that it has passed (log entry 4). The cause codes of a refused start are the model's choice
where R129 names none (log entry 37). -/
def Obligations.StakesStartByTheirSequence : Prop :=
  (∀ (n : Fin 32) (s : State), Acts n s →
    (startDue s n = true → reversed s n = false → (s.taps[n].cfg.gang = true → gangOk s n (partner n) = true) →
      (rating s n).1 ≠ 0 → ∃ t, exec (.stakeStart n) s = .next t ∧ t.taps[n].stake.start = .pretest ∧
        t.taps[n].stake.softStart = true ∧ t.taps[n].stake.attempts = 0 ∧ t.taps[n].stake.conv = false ∧
        t.taps[n].stake.sw = s.taps[n].stake.sw ∧ t.taps[n].state = s.taps[n].state ∧
        (∀ m ∈ mates s n, t.taps[m].stake.testing = true) ∧ TapFrame n s t) ∧
    (startDue s n = true → reversed s n = true → ∃ t, exec (.stakeStart n) s = .next t ∧
      t.taps[n].stake.start = .off ∧ t.taps[n].stake.conv = false ∧ t.taps[n].state = s.taps[n].state ∧
      TapsBut n s t ∧ t = { s with taps := t.taps }) ∧
    (startDue s n = true → reversed s n = false → s.taps[n].cfg.gang = true → gangOk s n (partner n) = false →
      ∃ t, exec (.stakeStart n) s = .next t ∧ t.taps[n].state = .suspended ∧ t.taps[n].cause = 5 ∧ Stopped n s t ∧
        TapFrame n s t) ∧
    (startDue s n = true → reversed s n = false → s.taps[n].cfg.gang = false → (rating s n).1 = 0 →
      ∃ t, exec (.stakeStart n) s = .next t ∧ t.taps[n].state = .suspended ∧ t.taps[n].cause = 6 ∧ Stopped n s t ∧
        TapFrame n s t) ∧
    (∀ (v0 : Int) (l : List PreRod) (ok : Bool), TestPasses n v0 l s → mayStart s = true → s.taps[n].stake.fromBypass = false →
      s.taps[n].vPair < 1000 →
      ∃ t, exec (.preStartResult n ⟨v0, l⟩ ok) s = .next t ∧ t.taps[n].stake.start = .running ∧
        (∀ m ∈ mates s n, t.taps[m].stake.conv = true ∧ t.taps[m].stake.sw = true) ∧
        t.taps[n].stake.vref = min 96000 (kelvin s.taps[n]).toNat * 1000 ∧
        min 2 ((pairRods s n).filter fun r => (rodAt s r).avail).length ≤ (activeRods t n).length ∧
        StakesOnly n s t) ∧
    (∀ (v0 : Int) (l : List PreRod) (ok : Bool), TestPasses n v0 l s → mayStart s = true → s.taps[n].stake.fromBypass = false →
      1000 ≤ s.taps[n].vPair →
      ∃ t, exec (.preStartResult n ⟨v0, l⟩ ok) s = .next t ∧ t.taps[n].stake.start = .prebias ∧
        (∀ m ∈ mates s n, t.taps[m].stake.conv = true ∧ t.taps[m].stake.sw = s.taps[m].stake.sw) ∧
        StakesOnly n s t) ∧
    (∀ (v0 : Int) (l : List PreRod) (ok : Bool), TestPasses n v0 l s → mayStart s = true → s.taps[n].stake.fromBypass = true →
      s.taps[n].state = .standIn →
      ∃ t, exec (.preStartResult n ⟨v0, l⟩ ok) s = .next t ∧ t.taps[n].stake.vref = 0 ∧ t.taps[n].stake.sw = true ∧
        t.taps[n].stake.slotByp = false ∧ StakesOnly n s t) ∧
    (∀ (v0 : Int) (l : List PreRod) (ok : Bool), TestPasses n v0 l s → mayStart s = false →
      ∃ t, exec (.preStartResult n ⟨v0, l⟩ ok) s = .next t ∧ t.taps[n].stake.start = .off ∧
        (∀ m ∈ mates s n, t.taps[m].stake.conv = s.taps[m].stake.conv ∧ t.taps[m].stake.sw = s.taps[m].stake.sw) ∧
        StakesOnly n s t) ∧
    (∀ m ∈ mates s n, ∀ (v0 : Int) (l : List PreRod) (p : Fin 16), tapRated v0 = true →
      s.taps[m].stake.testing = true → preFails v0 (l.getD p.val {}) = true → s.taps[m].stake.rods[p].healthy = true →
      ∃ t, exec (.preStartResult m ⟨v0, l⟩ true) s = .next t ∧ t.taps[m].stake.rods[p].healthy = false ∧
        t.taps[m].stake.rods[p].cause = 1 ∧ t.taps[m].stake.pretestFail = true ∧
        ∀ q : Fin 16, preFails v0 (l.getD q.val {}) = false →
          t.taps[m].stake.rods[q].healthy = s.taps[m].stake.rods[q].healthy) ∧
    (∀ v : Int, tapRated v = true → s.taps[n].stake.start = .prebias → s.taps[n].vPair - 500 ≤ v →
      v ≤ s.taps[n].vPair → reversed s n = false → mayStart s = true →
      ∃ t, exec (.preBiasComplete n v) s = .next t ∧ t.taps[n].stake.start = .running ∧
        (∀ m ∈ mates s n, t.taps[m].stake.conv = true ∧ t.taps[m].stake.sw = true) ∧
        t.taps[n].stake.vref = min 96000 (kelvin s.taps[n]).toNat * 1000 ∧ StakesOnly n s t) ∧
    (s.taps[n].stake.conv = true → s.taps[n].stake.sw = true → s.taps[n].stake.softStart = true →
      s.taps[n].stake.fromBypass = false → refPaused s s.taps[n] = false →
      nearTarget s.taps[n].cfg.softRate s.taps[n].stake = true → ∃ t, exec (.softStartComplete n) s = .next t ∧
        t.taps[n].stake.vref = s.taps[n].stake.vTarget * 1000 ∧ t.taps[n].stake.softStart = false ∧
        t.taps[n].stake.attempts = 0 ∧ TapsBut n s t ∧ StakesOnly n s t) ∧
    (s.taps[n].stake.conv = true → s.taps[n].stake.sw = true → s.taps[n].stake.slewing = true →
      s.taps[n].stake.softStart = false → s.taps[n].stake.fromBypass = false →
      nearTarget s.taps[n].cfg.slewRate s.taps[n].stake = true → ∃ t, exec (.slewComplete n) s = .next t ∧
      t.taps[n].stake.vref = s.taps[n].stake.vTarget * 1000 ∧ t.taps[n].stake.slewing = false ∧ TapsBut n s t ∧
      StakesOnly n s t) ∧
    (nearTarget s.taps[n].cfg.softRate s.taps[n].stake = false → exec (.softStartComplete n) s = .next s) ∧
    (nearTarget s.taps[n].cfg.slewRate s.taps[n].stake = false → exec (.slewComplete n) s = .next s)) ∧
  (∀ (n : Fin 32) (s : State), Acts n s →
    (s.taps[n].stake.start = .prebias → s.taps[n].stake.attempts < 2 → s.taps[n].stake.handOff = .none →
      ∃ t, exec (.prebiasFail n) s = .next t ∧ t.taps[n].stake.start = .hiccup ∧
        t.taps[n].stake.attempts = s.taps[n].stake.attempts + 1 ∧ t.taps[n].stake.prebiasFail = true ∧
        t.taps[n].stake.shortSeen = true ∧ t.taps[n].state = s.taps[n].state ∧
        (s.taps[n].state = .standIn → t.taps[n].stake.slotByp = true) ∧ Stopped n s t ∧ TapsButMates n s t ∧
        t = { s with taps := t.taps }) ∧
    (s.taps[n].stake.start = .prebias → s.taps[n].stake.attempts < 2 → s.taps[n].stake.handOff ≠ .none →
      s.taps[n].stake.slotFb = false →
      ∃ t, exec (.prebiasFail n) s = .next t ∧ t.taps[n].stake.start = .off ∧
        t.taps[n].stake.handOff = s.taps[n].stake.handOff ∧ t.taps[n].stake.attempts = s.taps[n].stake.attempts + 1 ∧
        t.taps[n].state = s.taps[n].state ∧ Stopped n s t ∧ TapsButMates n s t ∧ t = { s with taps := t.taps }) ∧
    (s.taps[n].stake.start = .prebias → 2 ≤ s.taps[n].stake.attempts →
      ∃ t, exec (.prebiasFail n) s = .next t ∧ t.taps[n].state = .faultShort ∧ t.taps[n].stake.start = .off ∧
        (t.bbx.queue.getLast?.map (·.type)) = some 0x08 ∧ Stopped n s t ∧ TapFrame n s t) ∧
    (∀ v : Int, tapRated v = true → checkOpen s s.taps[n] = true → 4 * v ≤ (s.taps[n].stake.vTarget : Int) →
      s.taps[n].stake.attempts < 2 → s.taps[n].stake.handOff = .none →
      ∃ t, exec (.shortCheckFail n v) s = .next t ∧ t.taps[n].stake.start = .hiccup ∧
        t.taps[n].stake.attempts = s.taps[n].stake.attempts + 1 ∧ t.taps[n].stake.shortSeen = true ∧
        t.taps[n].vKel = v ∧ t.taps[n].state = s.taps[n].state ∧ Stopped n s t ∧ TapsButMates n s t ∧
        t = { s with taps := t.taps }) ∧
    (∀ v : Int, tapRated v = true → checkOpen s s.taps[n] = true → 4 * v ≤ (s.taps[n].stake.vTarget : Int) →
      s.taps[n].stake.attempts < 2 → s.taps[n].stake.handOff ≠ .none → s.taps[n].stake.slotFb = false →
      ∃ t, exec (.shortCheckFail n v) s = .next t ∧ t.taps[n].stake.start = .off ∧
        t.taps[n].stake.handOff = s.taps[n].stake.handOff ∧ t.taps[n].stake.attempts = s.taps[n].stake.attempts + 1 ∧
        t.taps[n].stake.slotByp = (s.taps[n].stake.slotByp || decide (s.taps[n].state = .standIn)) ∧
        t.taps[n].state = s.taps[n].state ∧ Stopped n s t ∧ TapsButMates n s t ∧ t = { s with taps := t.taps }) ∧
    (∀ v : Int, tapRated v = true → (checkOpen s s.taps[n] = false ∨ (s.taps[n].stake.vTarget : Int) < 4 * v) →
      exec (.shortCheckFail n v) s = .next s) ∧
    (s.taps[n].stake.start = .hiccup → mayStart s = true → -1000 ≤ s.taps[n].vPair → s.taps[n].cfg.gang = false →
      (rating s n).1 ≠ 0 → ∃ t, exec (.hiccupEnd n) s = .next t ∧ t.taps[n].stake.start = .pretest ∧
        t.taps[n].stake.attempts = s.taps[n].stake.attempts ∧ t.taps[n].state = s.taps[n].state ∧ TapFrame n s t))

/-- Stand-in hands over to its slot bypass: an excess or a voltage out of its window asserts SLOT_BYP, SLOT_FB starts
the ramp of a hand-off, its end stops the stake; without SLOT_FB it is flagged, or leads to FAULT-OPEN when the tap
was stopped or its block removed, noted while the tap's core restarts; a hand-off that ends an auto-return counts it,
and the third within 10 min turns auto-return off (R18, R53, R107, R111, R112, R113, R132, R134, R139). Stand-in from
the bypass: SLOT_FB that clears lets the reference ramp, one that stays stops the stake again; with auto-return on, a
bypassed stand-in starts again (R109, R113). TRACK that fails gives the tracking taps their fixed voltages, and one
that is valid again is followed (R115, R117). Rows for the end of a time assert that it has passed (log entry 4). That
TRACK_FAULT is judged on the TRACK voltage last sampled is the model's choice (log entry 68). -/
def Obligations.StandInHandsOverAndReturns : Prop :=
  (∀ (n : Fin 32) (s : State), Acts n s →
    (∀ v : Int, tapRated v = true → s.taps[n].state = .keep → s.taps[n].stake.conv = true →
      ((iLim s n : Nat) : Int) ≤ s.taps[n].stake.ist → v + 500 < ((s.taps[n].stake.vref / 1000 : Nat) : Int) →
        ∃ t, exec (.keepLow n v) s = .next t ∧
        t.taps[n] = { s.taps[n] with vKel := v, keepLow := true } ∧ TapsBut n s t ∧ t = { s with taps := t.taps }) ∧
    (∀ v : Int, tapRated v = true → s.taps[n].stake.ist < ((iLim s n : Nat) : Int) →
      exec (.keepLow n v) s = .next s) ∧
    (∀ i : Int, standsIn s.taps[n] = true → s.taps[n].stake.autoReturned = false → (siLimit s n : Int) < (if s.sys.shValid then i else s.sys.iStr) →
      ∃ t, exec (.standInExcess n i) s = .next t ∧ t.taps[n] = { s.taps[n] with stake := { s.taps[n].stake.fresh with
          slotByp := true, handOff := .excess, fromBypass := false, bypRamp := s.taps[n].stake.slotFb, bypMs := 0 } } ∧ TapsBut n s t ∧
        t = { s with taps := t.taps }) ∧
    (∀ i : Int, standsIn s.taps[n] = true → s.taps[n].stake.autoReturned = true →
      (siLimit s n : Int) < (if s.sys.shValid then i else s.sys.iStr) →
      ∃ t, exec (.standInExcess n i) s = .next t ∧ t.taps[n].stake.handOff = .excess ∧ t.taps[n].stake.slotByp = true ∧
        t.taps[n].stake.autoReturned = false ∧
        t.taps[n].stake.returns = recent s.taps[n].stake.returnAt 600000 s.taps[n].stake.returns ++ [s.taps[n].stake.returnAt] ∧
        t.taps[n].cfg.autoReturn = (s.taps[n].cfg.autoReturn &&
          decide ((recent s.taps[n].stake.returnAt 600000 s.taps[n].stake.returns).length < 2)) ∧ TapsBut n s t ∧
        t = { s with taps := t.taps, alr := t.alr, bus := t.bus }) ∧
    (∀ i : Int, (if s.sys.shValid then i else s.sys.iStr) ≤ (siLimit s n : Int) → exec (.standInExcess n i) s = .next s) ∧
    (∀ v : Int, tapRated v = true → standsIn s.taps[n] = true → s.taps[n].stake.autoReturned = false →
      (s.taps[n].stake.refReached = true ∧ v < ((siWindow s.taps[n]).1 : Int) ∨
        ((s.taps[n].stake.vref / 1000 + 2000 : Nat) : Int) ≤ v) →
      ∃ t, exec (.standInImmediateBypass n v) s = .next t ∧ t.taps[n].stake.slotByp = true ∧
        t.taps[n].stake.handOff = .excess ∧ t.taps[n].vKel = v ∧ t.taps[n].state = .standIn ∧ TapsBut n s t ∧
        t = { s with taps := t.taps }) ∧
    (s.taps[n].state = .standIn → s.taps[n].stake.slotByp = true → s.taps[n].stake.conv = true →
      s.taps[n].stake.handOff = .none → ∃ t, exec (.slotFbPresent n) s = .next t ∧
        t.taps[n] = { s.taps[n] with stake := { s.taps[n].stake with slotFb := true, openDue := false } } ∧ TapsBut n s t ∧
        t = { s with taps := t.taps }) ∧
    (s.taps[n].state = .standIn → s.taps[n].stake.slotByp = true → s.taps[n].stake.conv = true →
      s.taps[n].stake.handOff ≠ .none → ∃ t, exec (.slotFbPresent n) s = .next t ∧
      t.taps[n] = { s.taps[n] with stake := { s.taps[n].stake with
          slotFb := true, openDue := false, bypRamp := true, bypMs := 0 } } ∧ TapsBut n s t ∧ t = { s with taps := t.taps }) ∧
    (s.taps[n].state = .faultOpen → fwUp s n = true → (s.taps[n].acted = 0 ∨ 9 < s.taps[n].acted) → ∃ t, exec (.slotFbPresent n) s = .next t ∧
      t.taps[n].state = .absent ∧ t.taps[n].stake.slotFb = true ∧ TapFrame n s t ∧ t.bbx = s.bbx) ∧
    (s.taps[n].stake.bypRamp = true → s.taps[n].stake.handOff = .excess → s.taps[n].state = .standIn →
      ∃ t, exec (.bypassRampEnd n) s = .next t ∧ t.taps[n].state = .standIn ∧ t.taps[n].stake.bypassed = true ∧
        t.taps[n].stake.slotByp = s.taps[n].stake.slotByp ∧ Stopped n s t ∧ TapsButMates n s t ∧
        t = { s with taps := t.taps }) ∧
    (s.taps[n].stake.bypRamp = true → s.taps[n].stake.handOff = .stop → fwUp s n = false →
      ∃ t, exec (.bypassRampEnd n) s = .next t ∧ t.taps[n].state = s.taps[n].state ∧
        t.taps[n].stake.bypassed = true ∧ t.taps[n].stake.handOff = .stop ∧ Stopped n s t ∧ TapsButMates n s t ∧
        t = { s with taps := t.taps }) ∧
    (s.taps[n].stake.bypRamp = true → s.taps[n].stake.handOff = .stop → fwUp s n = true →
      ∃ t, exec (.bypassRampEnd n) s = .next t ∧ t.taps[n].state = .absent ∧ Stopped n s t ∧ TapFrame n s t ∧ t.bbx = s.bbx) ∧
    (s.taps[n].stake.slotByp = true → s.taps[n].stake.slotFb = false → s.taps[n].stake.handOff ≠ .none →
      ∃ t, exec (.bypFail n) s = .next t ∧ t.taps[n] = { s.taps[n] with stake := { s.taps[n].stake with
          bypFail := true } } ∧ TapsBut n s t ∧ (planeDown s = false → t.alr.nextSeq = s.alr.nextSeq + 1) ∧
        t = { s with taps := t.taps, alr := t.alr, bus := t.bus }) ∧
    (s.taps[n].stake.slotByp = true → s.taps[n].stake.slotFb = false →
      (s.taps[n].stake.handOff = .stop ∧ fwUp s n = true ∧ dwelt s n 150 = true ∨ s.taps[n].stake.handOff = .removal) →
      ∃ t, exec (.bypassFaultOpen n) s = .next t ∧ t.taps[n].state = .faultOpen ∧ t.taps[n].stake.slotByp = true ∧
        Stopped n s t ∧ TapFrame n s t) ∧
    (s.taps[n].stake.slotByp = true → s.taps[n].stake.slotFb = false → s.taps[n].stake.handOff = .stop → fwUp s n = false →
      ∃ t, exec (.bypassFaultOpen n) s = .next t ∧
        t.taps[n] = { s.taps[n] with stake := { s.taps[n].stake with openDue := true } } ∧ TapsBut n s t ∧
        t = { s with taps := t.taps })) ∧
  (∀ (n : Fin 32) (s : State), Acts n s →
    (∃ t, exec (.slotFbClear n) s = .next t ∧ t.taps[n] = { s.taps[n] with stake := { s.taps[n].stake with
        slotFb := false, bypassed := false
        fromBypass := s.taps[n].stake.fromBypass && !s.taps[n].stake.conv } } ∧ TapsBut n s t ∧
      t = { s with taps := t.taps }) ∧
    (s.taps[n].stake.conv = true → s.taps[n].stake.fromBypass = true → s.taps[n].stake.slotFb = true →
      ∃ t, exec (.slotFbClearTimeout n) s = .next t ∧ t.taps[n].stake.slotByp = true ∧
        t.taps[n].stake.bypFail = true ∧ t.taps[n].stake.bypassed = true ∧ t.taps[n].state = s.taps[n].state ∧
        Stopped n s t ∧ TapsButMates n s t ∧ t = { s with taps := t.taps }) ∧
    (fwUp s n = true → dwelt s n 5000 = true → s.taps[n].cfg.autoReturn = true → s.taps[n].state = .standIn →
      s.taps[n].stake.bypassed = true →
      s.taps[n].stake.slotFb = true → (siVolt s.taps[n]).isSome = true → (rating s n).1 ≠ 0 → 0 ≤ s.sys.iStr →
      s.sys.iStr * 10 ≤ (siLimit s n * 9 : Nat) → s.sys.st = .run → s.sys.hkLost = false → s.sys.longPress = false →
      s.taps[n].cfg.gang = false → -1000 ≤ s.taps[n].vPair →
      ∃ t, exec (.autoReturn n) s = .next t ∧ t.taps[n].state = .standIn ∧ t.taps[n].stake.start = .pretest ∧
        t.taps[n].stake.fromBypass = true ∧ t.taps[n].stake.autoReturned = true ∧ t.taps[n].stake.bypassed = false ∧
        t.taps[n].stake.returnAt = s.sys.uptime ∧
        TapFrame n s t) ∧
    (s.sys.st = .hold → s.sys.cores = 0 → exec (.autoReturn n) s = .next s) ∧
    ((s.sys.trackMv < -100 ∨ 5100 < s.sys.trackMv) → s.sys.trackTold = false → ∃ t, exec .trackFault s = .next t ∧
      t.sys = { s.sys with trackValid := false, trackFault := true, trackHeld := true, trackTold := true } ∧
      (planeDown s = false → t.alr.nextSeq = s.alr.nextSeq + 1) ∧
      (s.taps[n].state = .keep → t.taps[n].stake.vTarget = keepVolt s.taps[n]) ∧
      (s.taps[n].state = .standIn → t.taps[n].stake.vTarget = (siVolt s.taps[n]).getD 0) ∧
      (s.taps[n].state ≠ .keep → s.taps[n].state ≠ .standIn → t.taps[n] = s.taps[n]) ∧
      t = { s with taps := t.taps, sys := t.sys, alr := t.alr, bus := t.bus }) ∧
    (∀ v : Int, -100 ≤ v → v ≤ 5100 → ∃ t, exec (.trackResume v) s = .next t ∧
      t.sys = { s.sys with trackMv := v, trackValid := true, trackSeen := true, trackHeld := false, trackTold := false } ∧
      (s.taps[n].state = .standIn → s.taps[n].cfg.track = .coincident → t.taps[n].stake.vTarget =
        min (siWindow s.taps[n]).2 (max (siWindow s.taps[n]).1 (20 * v.toNat))) ∧
      (s.taps[n].state ≠ .keep → s.taps[n].state ≠ .standIn → t.taps[n] = s.taps[n]) ∧
      t = { s with taps := t.taps, sys := t.sys }))

/-- Presence leads to DETECT as a new block, a removal does what its removal action says, an insertion ends STAND-IN
(R129, R132, R138, R139, R140). The sensing events: a bad Kelvin pair, split NTCs, a reversed power pair, a charge by
the system (R17, R61, R137, R142, R153). Rows for the end of a time assert that it has passed (log entry 4). The
sample a sensing event compares with is the model's choice (log entry 40). That a removal in HOLD entered from RUN
counts as one in RUN, and what a block inserted in HOLD does, are the model's choices (log entry 39). -/
def Obligations.BlocksComeAndGoAndSensesShow : Prop :=
  (∀ (n : Fin 32) (s : State),
    (∀ v : Int, tapRated v = true → FwActs 2000 n s →
      (s.taps[n].state = .absent ∨ s.taps[n].state = .faultOpen) → cells s.taps[n] * 1000 ≤ v →
      ∃ t, exec (.presence n v) s = .next t ∧ Goes n .detect s t ∧ t.taps[n].newBlock = true ∧ kelvin t.taps[n] = v ∧
        t.taps[n].inserted = true ∧ t.taps[n].pre.armed = false ∧ t.taps[n].chg.armed = false ∧
        t.taps[n].stake.slotByp = false) ∧
    (∀ v : Int, tapRated v = true → v < cells s.taps[n] * 1000 → exec (.presence n v) s = .next s) ∧
    (∀ fb a b v ib, Removes n fb a b v ib s → inRun s = false →
      ∃ t, exec (.removal n ⟨fb, a, b, v, ib⟩) s = .next t ∧ Goes n .absent s t ∧ Stopped n s t ∧
        t.taps[n].removed = true ∧
        t.taps[n].pre.armed = false ∧ t.taps[n].chg.armed = false ∧
        (removalOf s.taps[n] = .bypass → t.taps[n].stake.slotByp = true)) ∧
    (∀ fb a b v ib, Removes n fb a b v ib s → inRun s = true → removalOf s.taps[n] = .openTap →
      ∃ t, exec (.removal n ⟨fb, a, b, v, ib⟩) s = .next t ∧ Faults n .faultOpen s t ∧ t.taps[n].removed = true) ∧
    (∀ fb a b v ib, Removes n fb a b v ib s → inRun s = true → removalOf s.taps[n] = .standIn →
      s.taps[n].stake.withdrawn = false → ∃ t, exec (.removal n ⟨fb, a, b, v, ib⟩) s = .next t ∧ Goes n .standIn s t ∧
        t.taps[n].stake.conv = s.taps[n].stake.conv ∧ t.taps[n].stake.sw = s.taps[n].stake.sw) ∧
    (∀ fb a b v ib, Removes n fb a b v ib s → inRun s = true → removalOf s.taps[n] = .bypass →
      s.taps[n].stake.conv = true → s.taps[n].stake.sw = true →
      ∃ t, exec (.removal n ⟨fb, a, b, v, ib⟩) s = .next t ∧ Goes n s.taps[n].state s t ∧
        t.taps[n].stake.slotByp = true ∧ t.taps[n].stake.handOff = .removal ∧ t.taps[n].stake.conv = true) ∧
    (∀ fb a b v ib, Removes n fb a b v ib s → inRun s = true → removalOf s.taps[n] = .bypass →
      s.taps[n].stake.conv = true → s.taps[n].stake.sw = false → s.taps[n].stake.slotFb = false →
      ∃ t, exec (.removal n ⟨fb, a, b, v, ib⟩) s = .next t ∧ Goes n s.taps[n].state s t ∧ Stopped n s t ∧
        t.taps[n].stake.slotByp = true ∧ t.taps[n].stake.handOff = .removal) ∧
    (∀ fb a b v ib, tapRated v = true → removalSeen s.taps[n] fb a b v (seenBlk s n ib) = false →
      exec (.removal n ⟨fb, a, b, v, ib⟩) s = .next s) ∧
    (∀ fb a b v ib, Removes n fb a b v ib s → inRun s = true → removalOf s.taps[n] = .bypass →
      s.taps[n].stake.conv = false → ∃ t, exec (.removal n ⟨fb, a, b, v, ib⟩) s = .next t ∧ Goes n .absent s t ∧
        t.taps[n].stake.slotByp = true) ∧
    (∀ a b ib, HwActs 9 n s → s.taps[n].state = .standIn → insertionSeen s.taps[n] a b (seenBlk s n ib) = true → fwUp s n = true →
      ∃ t, exec (.blockInserted ⟨n, a, b, ib⟩) s = .next t ∧
      Goes n .detect s t ∧ t.taps[n].newBlock = true ∧ t.taps[n].stake.slotByp = false) ∧
    (∀ a b ib, insertionSeen s.taps[n] a b (seenBlk s n ib) = false → exec (.blockInserted ⟨n, a, b, ib⟩) s = .next s) ∧
    (∀ a b ib, HwActs 9 n s → s.taps[n].state = .standIn → insertionSeen s.taps[n] a b (seenBlk s n ib) = true → fwUp s n = false →
      ∃ t, exec (.blockInserted ⟨n, a, b, ib⟩) s = .next t ∧
      t.taps[n] = { s.taps[n] with inserted := true, insHeld := true
                                   stake := { s.taps[n].stake with slotByp := false, iTarget := 0 } } ∧
      TapsBut n s t ∧ t = { s with taps := t.taps })) ∧
  (∀ (n : Fin 32) (s : State), Acts n s →
    (∀ bad v vPair, tapRated v = true → tapRated vPair = true → kelvinOff s.taps[n] v vPair ≠ bad →
      exec (.kelvinBad n ⟨bad, v, vPair⟩) s = .next s) ∧
    (∀ v vPair, tapRated v = true → tapRated vPair = true → kelvinOff s.taps[n] v vPair = true →
      s.taps[n].kelvinBad = false → ∃ t, exec (.kelvinBad n ⟨true, v, vPair⟩) s = .next t ∧
      t.taps[n] = { s.taps[n] with kelvinBad := true, vKel := v, vPair := vPair } ∧ TapsBut n s t ∧
      (planeDown s = false → t.alr.nextSeq = s.alr.nextSeq + 1) ∧
      t = { s with taps := t.taps, alr := t.alr, bus := t.bus, sys := (wakeFor n s).sys }) ∧
    (∀ v vPair, tapRated v = true → tapRated vPair = true → kelvinOff s.taps[n] v vPair = false →
      ∃ t, exec (.kelvinBad n ⟨false, v, vPair⟩) s = .next t ∧
      t.taps[n] = { s.taps[n] with kelvinBad := false, vKel := v, vPair := vPair } ∧ TapsBut n s t ∧
      t = { s with taps := t.taps, sys := if s.taps[n].kelvinBad then (wakeFor n s).sys else s.sys }) ∧
    (∀ a b : Int, fwUp s n = true → dwelt s n 10000 = true → s.taps[n].desc = none → -400 ≤ a → a ≤ 1250 → -400 ≤ b →
      b ≤ 1250 → b + 150 < a →
      ∃ t, exec (.ntcSplit n a b) s = .next t ∧ t.taps[n].ntcSplit = true ∧ t.taps[n].state = s.taps[n].state ∧
        TapsBut n s t ∧ t = { s with
          taps := t.taps, alr := t.alr, bus := t.bus, sys := if s.taps[n].ntcSplit then s.sys else (wakeFor n s).sys }) ∧
    (∀ v : Int, tapRated v = true → v < -1000 → ∃ t, exec (.reverse n v) s = .next t ∧ t.taps[n].reverse = true ∧
      t.taps[n].vPair = v ∧ t.taps[n].state = s.taps[n].state ∧ t.taps[n].stake.conv = false ∧
      ((s.taps[n].stake.conv = true ∨ s.taps[n].stake.start = .pretest ∨ s.taps[n].stake.start = .prebias) →
        Stopped n s t ∧ t.taps[n].stake.start = .off) ∧ TapsButMates n s t ∧
      t = { s with taps := t.taps, sys := if s.taps[n].reverse then s.sys else (wakeFor n s).sys }) ∧
    (∀ v : Int, tapRated v = true → (s.taps[n].state = .cv ∨ s.taps[n].state = .done ∨ s.taps[n].state = .topoff) →
      s.taps[n].stake.sw = true → s.sys.iStr < 0 → ∃ t, exec (.chargeFromSystem n v) s = .next t ∧
        t.taps[n].overcharge = decide ((effCv s.taps[n] : Int) + 50 * cells s.taps[n] < v) ∧
        kelvin t.taps[n] = v ∧ t.taps[n].stake = s.taps[n].stake ∧ t.taps[n].state = s.taps[n].state ∧
        (needAmps s s.taps[n] < 0 → planeDown s = false → t.alr.nextSeq = s.alr.nextSeq + 1) ∧
        (0 ≤ needAmps s s.taps[n] → t.alr = s.alr) ∧ TapsBut n s t ∧
        t = { s with taps := t.taps, alr := t.alr, bus := t.bus }))

/-- DETECT ends by the first rule of R143 that applies (R141, R143). Cupping: its pulses set the current and take the
resistances; its end judges their medians (R144, R145). Rows for the end of a time assert that it has passed (log
entry 4). -/
def Obligations.DetectAndCuppingJudgeTheBlock : Prop :=
  (∀ (n : Fin 32) (v vPair : Int) (s : State), FwActs 2000 n s → tapRated v = true → tapRated vPair = true →
    s.taps[n].state = .detect →
    let u : Tap := { s.taps[n] with vKel := v, vPair := vPair, reverse := decide (vPair < -1000) }
    ∃ t, exec (.detectSettled n v vPair) s = .next t ∧
      (vPair < -1000 → Suspends n 11 s t) ∧
      (-1000 ≤ vPair → shortedAt u (kelvin u) vPair = true → Faults n .faultShort s t) ∧
      (-1000 ≤ vPair → shortedAt u (kelvin u) vPair = false →
        (∀ d, s.taps[n].desc = some d → ((d.cells * d.ovC : Nat) : Int) ≤ kelvin u → Faults n .faultOv s t) ∧
        (s.taps[n].desc = none → Suspends n 8 s t) ∧
        (∀ d, s.taps[n].desc = some d → kelvin u < ((d.cells * d.ovC : Nat) : Int) →
          (s.sys.st ≠ .run → Suspends n 10 s t) ∧
          (s.sys.st = .run → s.taps[n].hostStop = true → Suspends n 1 s t) ∧
          (s.sys.st = .run → s.taps[n].hostStop = false → isHelper s.taps[n] = false →
            (history s n = none → Goes n .cupping s t ∧ t.taps[n].cupT = 0 ∧ t.taps[n].stake.iTarget = 0) ∧
            (history s n ≠ none →
              Goes n (if kelvin u < ((d.cells * d.preC : Nat) : Int) then .precharge else .cc) s t ∧
              t.taps[n].cause = 0))))) ∧
  (∀ (n : Fin 32) (s : State), FwActs 0 n s → s.taps[n].state = .cupping → ∀ d, s.taps[n].desc = some d →
    (∀ dv di : Int, s.taps[n].cupT < 22 → s.taps[n].cupT % 2 = 0 → 0 < di →
      ((min 500 (d.nameplate / 2) : Nat) : Int) ≤ 2 * di →
      ∃ t, exec (.cuppingPulse n dv di) s = .next t ∧ t.taps[n].cupT = s.taps[n].cupT + 1 ∧
        t.taps[n].cupOhm = s.taps[n].cupOhm ++ [(dv * 10000 / di).toNat] ∧ t.taps[n].cupInt = s.taps[n].cupInt ∧
        t.taps[n].stake.iTarget = ((min 500 (d.nameplate / 2) : Nat) : Int) ∧ TapsBut n s t ∧
        t = { s with taps := t.taps }) ∧
    (∀ dv di : Int, s.taps[n].cupT < 22 → s.taps[n].cupT % 2 = 1 → ((2 * di < (min 500 (d.nameplate / 2) : Nat)) ∨
      di ≤ 0) →
      ∃ t, exec (.cuppingPulse n dv di) s = .next t ∧ t.taps[n].cupT = s.taps[n].cupT + 1 ∧
        t.taps[n].cupOhm = s.taps[n].cupOhm ∧ t.taps[n].cupInt = s.taps[n].cupInt ∧
        t.taps[n].stake.iTarget = 0 ∧ TapsBut n s t ∧ t = { s with taps := t.taps }) ∧
    (∀ ocv : Nat, tapRated ocv = true → s.taps[n].cupT < 22 → exec (.cuppingEnd n ocv) s = .next s) ∧
    (∀ ocv : Nat, tapRated ocv = true → 22 ≤ s.taps[n].cupT → (s.taps[n].cupOhm.length < 6 ∨ s.taps[n].cupInt.length < 6) →
      ∃ t, exec (.cuppingEnd n ocv) s = .next t ∧
      Goes n .cupping s t ∧ t.taps[n].cupT = 0 ∧ t.taps[n].cupOhm = [] ∧ t.taps[n].cupInt = [] ∧ t.bbx = s.bbx) ∧
    (∀ ocv : Nat, tapRated ocv = true → 22 ≤ s.taps[n].cupT → 6 ≤ s.taps[n].cupOhm.length → 6 ≤ s.taps[n].cupInt.length →
      (d.rMaxV < median s.taps[n].cupInt ∨ median s.taps[n].cupInt < d.cells * 5 ∨
        median s.taps[n].cupOhm < d.cells * 5) →
      ∃ t, exec (.cuppingEnd n ocv) s = .next t ∧ Suspends n 7 s t) ∧
    (∀ ocv : Nat, tapRated ocv = true → 22 ≤ s.taps[n].cupT → 6 ≤ s.taps[n].cupOhm.length → 6 ≤ s.taps[n].cupInt.length →
      median s.taps[n].cupInt ≤ d.rMaxV →
      d.cells * 5 ≤ median s.taps[n].cupInt → d.cells * 5 ≤ median s.taps[n].cupOhm → isHelper s.taps[n] = false →
      ∃ t h, exec (.cuppingEnd n ocv) s = .next t ∧ t.bbx.queue = s.bbx.queue ++ [.hist h] ∧
        Goes n (if kelvin s.taps[n] < ((d.cells * d.preC : Nat) : Int) then .precharge else .cc) s t ∧
        t.taps[n].cupDone = true ∧ h.tap = n.val ∧ h.serial = d.serial ∧ h.void = false ∧ h.cap = none ∧
        h.cup = some (median s.taps[n].cupInt, median s.taps[n].cupOhm, ocv)))

/-- The charge moves from PRECHARGE to CC, between CC and CV, to DONE, to TOPOFF and back by its events, each while
the limit that it asks for governs; a recipe's request alone moves no state (R132, R133, R146, R147, R150, R156, R159,
R378). Keep takes over when the block discharges below the keep voltage, and gives back the state left, with its armed
timers as they were; a suspension keeps the state it had left (R106, R131, R132, R151, R156, R176). Rows for the end
of a time assert that it has passed (log entry 4). -/
def Obligations.ChargeAndKeepFollowTheirStates : Prop :=
  (∀ (n : Fin 32) (s : State), isHelper s.taps[n] = false → ∀ d, s.taps[n].desc = some d →
    (∀ v : Int, tapRated v = true → FwActs 10000 n s → s.taps[n].state = .precharge →
      ((d.cells * (d.preC + 50) : Nat) : Int) ≤ v →
      ∃ t, exec (.prechargeToCc n v) s = .next t ∧ Goes n .cc s t ∧ t.taps[n].chg.armed = true ∧
        kelvin t.taps[n] = v) ∧
    (∀ v : Int, tapRated v = true → v < ((d.cells * (d.preC + 50) : Nat) : Int) →
      exec (.prechargeToCc n v) s = .next s) ∧
    (FwActs 1000 n s → s.taps[n].state = .cc → s.taps[n].limit = 1 → ∃ t, exec (.ccToCv n) s = .next t ∧
      Goes n .cv s t ∧ t.taps[n].chg.armed = true) ∧
    ((s.taps[n].limit ≠ 1 ∨ s.taps[n].acted ≠ 0 ∧ s.taps[n].acted ≤ 7) → exec (.ccToCv n) s = .next s) ∧
    (FwActs 10000 n s → s.taps[n].state = .cv →
      (s.taps[n].limit = 2 ∨ s.taps[n].limit = 3) → ∃ t, exec (.cvToCc n) s = .next t ∧
        Goes n .cc s t ∧ t.taps[n].chg.armed = true) ∧
    (s.taps[n].limit = 5 → exec (.cvToCc n) s = .next s) ∧
    (∀ i : Int, FwActs 60000 n s → (s.taps[n].state = .cv ∨ s.taps[n].state = .topoff) → s.taps[n].limit = 1 →
      i * (d.eocN.getD 10) < (d.iFast : Int) →
      ∃ t, exec (.endOfCharge n i) s = .next t ∧ Goes n .done s t ∧ t.taps[n].eoc = true ∧
        t.taps[n].pre.armed = false ∧ t.taps[n].chg.armed = false ∧ t.taps[n].outQ = 0 ∧
        (d.doneFloat = false → Stopped n s t)) ∧
    (∀ i : Int, ((d.iFast : Int) ≤ i * (d.eocN.getD 10) ∨ s.taps[n].limit ≠ 1) → exec (.endOfCharge n i) s = .next s) ∧
    (FwActs 0 n s → s.taps[n].state = .done → s.sys.st = .run → topOffDue s n = true →
      ∃ t, exec (.topOffDepth n) s = .next t ∧
      Goes n .topoff s t ∧ t.taps[n].top = { armed := true, size := d.topTimer.getD 60 * 60000 }) ∧
    (FwActs 0 n s → (s.taps[n].state = .done ∨ s.taps[n].state = .topoff) → s.sys.st = .run → rechargeDue s n = true →
      ∃ t, exec (.rechargeDepth n) s = .next t ∧
        Goes n (if kelvin s.taps[n] < ((d.cells * d.preC : Nat) : Int) then .precharge else .cc) s t) ∧
    (FwActs 0 n s → s.taps[n].state = .topoff → ∃ t, exec (.topOffTimerExpiry n) s = .next t ∧ Goes n .done s t ∧
      t.taps[n].eoc = false)) ∧
  (∀ (n : Fin 32) (s : State), isHelper s.taps[n] = false →
    (∀ v ib : Int, tapRated v = true → FwActs 1000 n s → keepFrom s.taps[n] = true → s.taps[n].cfg.keepEn = true →
      s.sys.st = .run → v < (keepVolt s.taps[n] : Int) → seenBlk s n ib < -50 →
      ∃ t, exec (.keepCondition n ⟨v, ib⟩) s = .next t ∧ Goes n .keep s t ∧
        t.taps[n].left = s.taps[n].state ∧ t.taps[n].left2 = s.taps[n].left ∧ t.taps[n].leftCause = s.taps[n].cause ∧
        t.taps[n].pre = s.taps[n].pre ∧
        t.taps[n].chg = s.taps[n].chg) ∧
    (∀ v ib : Int, tapRated v = true → ((keepVolt s.taps[n] : Int) ≤ v ∨ -50 ≤ seenBlk s n ib) →
      exec (.keepCondition n ⟨v, ib⟩) s = .next s) ∧
    (FwActs 10000 n s → s.taps[n].state = .keep → s.sys.iStr ≤ 0 →
      (s.taps[n].left = .precharge ∨ s.taps[n].left = .cc ∨ s.taps[n].left = .cv) →
      ∃ t, exec (.keepRelease n true) s = .next t ∧ Goes n s.taps[n].left s t ∧
        (s.taps[n].pre.armed = true → t.taps[n].pre = s.taps[n].pre) ∧
        (s.taps[n].chg.armed = true → t.taps[n].chg = s.taps[n].chg) ∧
        (s.taps[n].desc.isSome = true → s.taps[n].left = .precharge → t.taps[n].pre.armed = true) ∧
        (s.taps[n].desc.isSome = true → s.taps[n].left ≠ .precharge → t.taps[n].chg.armed = true) ∧
        t.taps[n].outQ = s.taps[n].outQ ∧ t.alr = s.alr) ∧
    (FwActs 10000 n s → s.taps[n].state = .keep → s.sys.iStr ≤ 0 → s.taps[n].left = .suspended →
      ∃ t, exec (.keepRelease n true) s = .next t ∧ Goes n .suspended s t ∧ t.taps[n].cause = s.taps[n].leftCause ∧
        t.taps[n].left = s.taps[n].left2) ∧
    (FwActs 1000 n s → s.taps[n].state = .keep → s.taps[n].left = .cc → 100 ≤ s.taps[n].dose - carry s s.taps[n] →
      ∃ t, exec (.keepRelease n false) s = .next t ∧ Goes n .cc s t) ∧
    (s.taps[n].state = .keep → s.taps[n].dose - carry s s.taps[n] < 100 →
      exec (.keepRelease n false) s = .next s))

/-- Temperature, sensors and doses suspend a charging tap and let it go again; outside RUN it takes cause module state
(R132, R135, R152, R154, R155, R176). The faults of a tap: safety timer, thermal, over-voltage, short; the stake
output's over-voltage stops the stake whatever the tap's state and at either half of a pair (R62, R65, R129, R132,
R133, R141, R154, R158). Rows for the end of a time assert that it has passed (log entry 4). Without a descriptor the
over-voltage level is the model's choice (log entry 15). That SHORT of a converting stake compares with the last
reading of the voltage in use is the model's choice (log entry 40). -/
def Obligations.SuspensionsAndFaultsLatch : Prop :=
  (∀ (n : Fin 32) (s : State),
    (∀ c : Int, HwActs 7 n s → working s.taps[n].state = true → c < (tapTemps s.taps[n]).1 →
      ∃ t, exec (.temperatureSuspension n c) s = .next t ∧ Suspends n 2 s t) ∧
    (∀ c : Int, HwActs 7 n s → working s.taps[n].state = true → (tapTemps s.taps[n]).1 ≤ c →
      (tapTemps s.taps[n]).2.2.2.1 < c →
      ∃ t, exec (.temperatureSuspension n c) s = .next t ∧ Suspends n 3 s t) ∧
    (∀ c : Int, FwActs 10000 n s → s.taps[n].state = .suspended → s.taps[n].cause = 2 →
      (tapTemps s.taps[n]).1 + 20 ≤ c →
      (s.sys.st ≠ .run → ∃ t, exec (.suspensionReturn n c) s = .next t ∧ Goes n .suspended s t ∧
        t.taps[n].cause = 10) ∧
      (s.sys.st = .run → isHelper s.taps[n] = false → s.taps[n].left = .cc →
        ∃ t, exec (.suspensionReturn n c) s = .next t ∧ Goes n .cc s t ∧ t.taps[n].cause = 0 ∧
          (s.taps[n].chg.armed = true → t.taps[n].chg = s.taps[n].chg))) ∧
    (∀ c : Int, FwActs 0 n s → ∃ t, exec (.temperatureBandChange n c) s = .next t ∧
      t.taps[n].band = nextBand s.taps[n] c ∧ Goes n s.taps[n].state s t ∧ TapsBut n s t) ∧
    (∀ d, FwActs 0 n s → s.taps[n].desc = some d → d.noNtcSuspend = true → working s.taps[n].state = true →
      validNtc s.taps[n] = false → ∃ t, exec (.sensorSuspend n) s = .next t ∧ Suspends n 9 s t ∧
        t.taps[n].band = 6) ∧
    (FwActs 60000 n s → working s.taps[n].state = true → s.taps[n].dose ≤ carry s s.taps[n] →
      ∃ t, exec (.noDose n) s = .next t ∧
      Suspends n 4 s t) ∧
    (carry s s.taps[n] < s.taps[n].dose → exec (.noDose n) s = .next s) ∧
    (FwActs 1000 n s → s.taps[n].state = .suspended → s.taps[n].cause = 4 → 100 + carry s s.taps[n] ≤ s.taps[n].dose →
      s.sys.st = .run → isHelper s.taps[n] = false → s.taps[n].left = .cc →
      ∃ t, exec (.noDoseReturn n) s = .next t ∧ Goes n .cc s t ∧
        (s.taps[n].chg.armed = true → t.taps[n].chg = s.taps[n].chg))) ∧
  (∀ (n : Fin 32) (s : State),
    (HwActs 6 n s → s.taps[n].state = .precharge → s.taps[n].pre.armed = true →
      ∃ t, exec (.safetyTimerExpiry n true) s = .next t ∧
      Faults n .faultTimer s t ∧ t.taps[n].cause = 1 ∧ t.taps[n].timerExp = true ∧ t.taps[n].pre.expired = true) ∧
    (HwActs 6 n s → (s.taps[n].state = .cc ∨ s.taps[n].state = .cv) → s.taps[n].chg.armed = true →
      ∃ t, exec (.safetyTimerExpiry n false) s = .next t ∧ Faults n .faultTimer s t ∧ t.taps[n].cause = 2 ∧
        t.taps[n].timerExp = true ∧ t.taps[n].chg.expired = true) ∧
    (∀ c : Int, s.taps[n].acted ≠ 0 → s.taps[n].acted ≤ 2 → exec (.faultTherm n c) s = .next s) ∧
    (∀ c : Int, HwActs 2 n s → TapState.holds s.taps[n].state = true → s.taps[n].state ≠ .faultTherm →
      (tapTemps s.taps[n]).2.2.2.2 ≤ c → ∃ t, exec (.faultTherm n c) s = .next t ∧ Faults n .faultTherm s t ∧
        t.taps[n].band = 5) ∧
    (∀ (v : Int) (d : Descriptor), tapRated v = true → HwActs 3 n s → TapState.holds s.taps[n].state = true →
      s.taps[n].state ≠ .faultOv → s.taps[n].desc = some d → ((d.cells * d.ovC : Nat) : Int) ≤ v →
      ∃ t, exec (.faultOv n v) s = .next t ∧ Faults n .faultOv s t ∧ kelvin t.taps[n] = v) ∧
    (∀ v : Int, tapRated v = true → HwActs 3 n s → 98000 ≤ v → TapState.holds s.taps[n].state = true →
      s.taps[n].state ≠ .faultOv →
      ∃ t, exec (.stakeOutputOverVoltage n v) s = .next t ∧ Faults n .faultOv s t ∧ t.taps[n].vPair = v) ∧
    (∀ v : Int, tapRated v = true → HwActs 3 n s → 98000 ≤ v → s.taps[n].cfg.gang = true →
      s.taps[partner n].cfg.gang = true → TapState.holds s.taps[n].state = true → s.taps[n].state ≠ .faultOv →
      ∃ t, exec (.stakeOutputOverVoltage (partner n) v) s = .next t ∧ Faults n .faultOv s t ∧
        t.taps[partner n].vPair = v) ∧
    (∀ v : Int, tapRated v = true → HwActs 3 n s → 98000 ≤ v → s.taps[n].state = .standIn →
      s.taps[n].stake.slotFb = false →
      ∃ t, exec (.stakeOutputOverVoltage n v) s = .next t ∧ Goes n .standIn s t ∧ Stopped n s t ∧
        t.taps[n].stake.slotByp = true) ∧
    (∀ v : Int, tapRated v = true → HwActs 4 n s → TapState.holds s.taps[n].state = true →
      TapState.isFault s.taps[n].state = false → s.taps[n].stake.conv = true → validNtc s.taps[n] = true →
      v + cells s.taps[n] * 300 ≤ kelvin s.taps[n] → 0 ≤ iBlk s n →
      ∃ t, exec (.short n v false) s = .next t ∧ Faults n .faultShort s t) ∧
    (∀ v : Int, tapRated v = true → HwActs 4 n s → TapState.holds s.taps[n].state = true →
      TapState.isFault s.taps[n].state = false → s.taps[n].stake.conv = false → validNtc s.taps[n] = true →
      v < cells s.taps[n] * 500 → s.taps[n].vPair < cells s.taps[n] * 500 →
      ∃ t, exec (.short n v false) s = .next t ∧ Faults n .faultShort s t) ∧
    (∀ v : Int, tapRated v = true → TapState.isFault s.taps[n].state = true → ∀ fb, exec (.short n v fb) s = .next s))

/-! ### The block as a whole -/

/-- One step with a command waiting runs the front command on the state with the queue's rest. With no command waiting
one millisecond of the block's own time passes: the clocks advance, a ramp of `SYS_STANDBY` goes on, the watchdog
counts, the carrier glides 2.5 kHz (R93); without power nothing happens. That an empty queue lets time pass is the
model's choice (log entry 5). -/
def Obligations.StepRunsTheFrontCommand : Prop :=
  (∀ (c : Instr) (rest : List Instr) (s : State),
    step { s with pending := c :: rest } = exec c { s with pending := rest }) ∧
  (∀ s : State, s.pending = [] →
    (s.powered = false → step s = .next s) ∧
    (s.powered = true → (∀ k : Fin 4, s.mtr.alarms[k].running = false) → s.pour.rise = false →
      (∀ x : Fin 4, s.links[x].state ≠ .contract) → ∃ t, step s = .next t ∧
      t.sys.uptime = s.sys.uptime + 1 ∧ t.sys.st = s.sys.st ∧ t.pending = [] ∧
      t.sys.time = (if s.sys.timeValid then s.sys.time + 1 else s.sys.time) ∧
      (s.sys.rampStandby = true → t.sys.rampMs = min 20 (s.sys.rampMs + 1)) ∧
      (wdgRuns s = true → 1000 * t.wdg.count + t.wdg.frac =
        min (1000 * 0xFFFF + t.wdg.frac) (1000 * s.wdg.count + s.wdg.frac + 1024)) ∧
      (∀ x : Fin 4, s.ports[x].state = .softstart → t.ports[x].softMs = min 50 (s.ports[x].softMs + 1)) ∧
      t.sys.fsw = (let goal := if s.sys.syncSrc = 1 ∨ s.sys.syncSrc = 2 then s.sys.inFsw else s.sys.ownFsw
        if s.sys.fsw ≤ goal then min goal (s.sys.fsw + 250) else max goal (s.sys.fsw - 250))))

/-- At taking, every command is checked before its own rules: NOT_READY in BOOT, DENIED_STATE in a module state its
row does not list, DENIED_LOCK under the watchdog's lock, BUSY for a pourable command during a pour; a refused command
changes nothing but the answer, and without power, in HOLD and while C0 restarts nothing is taken; a command for a
change of state is denied in a period that has acted on an event of a higher rank (R27, R30, R200, R211, R244, R251,
R254, R255). -/
def Obligations.EveryCommandIsCheckedAtTaking : Prop :=
  ∀ (c : Instr) (op : Nat) (via : Via) (s : State), hostOp c = some (op, via) →
    (∀ code, s.powered = true → s.sys.st ≠ .hold → c0Up s = true → waits via s = false →
      isTaken via s = false → gate op s = some code →
      exec c s = .next (answer via code [] s)) ∧
    (waits via s = true → exec c s = .next s) ∧
    ((s.powered = false ∨ s.sys.st = .hold ∨ c0Up s = false) → exec c s = .next s) ∧
    (∃ info, cmdInfo op = some info ∧
      (s.sys.st = .boot → gate op s = some 0x11) ∧
      (s.sys.st ≠ .boot → s.sys.st ∉ info.states → gate op s = some 0x30) ∧
      (s.sys.st ∈ info.states → (op = 0x0801 ∨ op = 0x0802 ∨ op = 0x0803) → s.wdg.locked = true →
        gate op s = some 0x31) ∧
      (s.sys.st ∈ info.states → info.pour = true → (s.pour.state = .prepared ∨ s.pour.state = .released) →
        gate op s = some 0x10) ∧
      (s.sys.st ∈ info.states → s.wdg.locked = false → s.rcp.keyX = none → s.pour.state = .idle →
        changeDue s = false → s.sys.acted = 0 → gate op s = none) ∧
      (s.sys.st ∈ info.states → changesState op → s.sys.acted ≠ 0 → gate op s = some 0x30))

/-- Every command completes: whatever the state, it ends in a next state as long as the voltages it carries lie within
the absolute maximum ratings; beyond them the run stops (R420). What the next state holds is said command by command
in the other statements. That the run stops beyond the ratings is the model's reading (log entry 10). -/
def Obligations.EveryCommandCompletes : Prop :=
  ∀ (c : Instr) (s : State),
    (inRatings c = true → ∃ t, exec c s = .next t) ∧
    (inRatings c = false → exec c s = .fault .beyondAbsoluteMaximum)

/-- A voltage beyond its absolute maximum rating stops the run: the spec gives no behaviour there (R420). That such a
voltage stops the run is the model's reading (log entry 10). -/
def Obligations.VoltagesBeyondTheRatingsStop : Prop :=
  ∀ s : State,
    (∀ (x : Fin 4) (v : Int), (v < -1100000 ∨ 1100000 < v) →
      exec (.portInWindow x v) s = .fault .beyondAbsoluteMaximum ∧
      exec (.portOutOfWindow x v) s = .fault .beyondAbsoluteMaximum ∧
      exec (.portLoss x v) s = .fault .beyondAbsoluteMaximum ∧
      exec (.sourceOv x v) s = .fault .beyondAbsoluteMaximum ∧
      exec (.windowConfirm x v) s = .fault .beyondAbsoluteMaximum) ∧
    (∀ (x : Fin 4) (v : Int), (v < -3000 ∨ 3000 < v) →
      exec (.pilotInBand x v) s = .fault .beyondAbsoluteMaximum ∧
      exec (.debounceOut x v) s = .fault .beyondAbsoluteMaximum ∧
      exec (.pilotLoss x v) s = .fault .beyondAbsoluteMaximum ∧
      exec (.swapPilotLow x v) s = .fault .beyondAbsoluteMaximum ∧
      exec (.swapAttach x v) s = .fault .beyondAbsoluteMaximum) ∧
    (∀ v : Int, (v < -15000 ∨ 15000 < v) → exec (.trackResume v) s = .fault .beyondAbsoluteMaximum) ∧
    (∀ (n : Fin 32) (v : Int), (v < -100000 ∨ 100000 < v) →
      exec (.presence n v) s = .fault .beyondAbsoluteMaximum ∧
      exec (.reverse n v) s = .fault .beyondAbsoluteMaximum ∧
      exec (.faultOv n v) s = .fault .beyondAbsoluteMaximum ∧
      exec (.stakeOutputOverVoltage n v) s = .fault .beyondAbsoluteMaximum ∧
      exec (.detectSettled n v 0) s = .fault .beyondAbsoluteMaximum ∧
      exec (.detectSettled n 0 v) s = .fault .beyondAbsoluteMaximum ∧
      ∀ i : Int, exec (.brake n ⟨false, i, v⟩) s = .fault .beyondAbsoluteMaximum ∧
        exec (.removal n ⟨true, 0, 0, v, i⟩) s = .fault .beyondAbsoluteMaximum ∧
        exec (.keepCondition n ⟨v, i⟩) s = .fault .beyondAbsoluteMaximum) ∧
    (∀ m : Sample, (m.vStr < -50000 ∨ 1600000 < m.vStr ∨ m.auxV < -125000 ∨ 125000 < m.auxV ∨ m.track < -15000 ∨
        15000 < m.track) →
      exec (.arbPeriod m) s = .fault .beyondAbsoluteMaximum)

/-- The machine right after reset shows the values the spec gives: BOOT with CAUSE 0, the ports' limits and ranks,
taps ABSENT, the watchdog's window, the loss budget, empty mailboxes and an empty alert queue; a module as it is
delivered is in SHIP with the ship latch set, every profile empty and no descriptor on any tap (R28, R47, R57, R129,
R179, R252, R323, R448). -/
def Obligations.ResetShowsTheSpecsValues : Prop :=
  State.reset.sys.st = .boot ∧ State.reset.sys.cause = 0 ∧ State.reset.pending = [] ∧
  (∀ n : Fin 32, State.reset.taps[n].state = .absent ∧ State.reset.taps[n].dose = 0) ∧
  (∀ x : Fin 4, State.reset.ports[x].state = .disabled ∧ State.reset.ports[x].iLim = 20000 ∧
    State.reset.ports[x].rank = x.val + 1 ∧ State.reset.mbx[x].state = .empty) ∧
  State.reset.alr.queue = [] ∧ State.reset.wdg.openT = 64 ∧ State.reset.wdg.closeT = 256 ∧
  (regRead .spi 0x000 State.reset).1 = 0x5120 ∧ (regRead .spi 0x004 State.reset).1 = 0x0002 ∧
  (regRead .spi 0xCC4 State.reset).1 = 0x0E10 ∧ (regRead .spi 0xC08 State.reset).1 = 0x4E20 ∧
  (regRead .spi 0xC80 State.reset).1 = 0x0010 ∧ (regRead .spi 0x80F State.reset).1 = 0xFF00 ∧
  State.delivered.sys.st = .ship ∧ State.delivered.sys.shipLatch = true ∧
  (∀ n : Fin 32, State.delivered.taps[n].desc = none) ∧
  ∀ k : Fin 8, State.delivered.vsel.profiles[k].entries = []

/-- The machine right after reset meets what every step keeps. -/
def Obligations.ResetMeetsTheInvariant : Prop :=
  Inv State.reset

/-- Every step that answers a next state keeps `Inv` (R26, R201, R326, R439). -/
def Obligations.EveryStepKeepsTheInvariant : Prop :=
  ∀ s t : State, Inv s → step s = .next t → Inv t

/-- The module changes its state only by the transitions R26 lists: whatever step is made, the state stays or moves
along one of them. -/
def Obligations.ModuleStateMovesOnlyAsListed : Prop :=
  ∀ s t : State, Inv s → step s = .next t → t.sys.st = s.sys.st ∨ t.sys.st ∈ listed s.sys.st
end

