-- ==== Sys2Proof/Laws/Memory.lean ====
section
/-! SUPPORT. The stores' laws: a byte written reads back, every other byte reads as before, every write keeps the
canonical form, and the stores are canonical at reset. -/

namespace Sys2Proof.Machine

/-- An address below every entry of a canonical store reads as erased. -/
theorem memRead_below : ∀ (m : Memory) (lo k : Nat), memWfFrom lo m = true → k < lo → memRead m k = 0xFF
  | [], _, _, _, _ => rfl
  | (a, b) :: m, lo, k, h, hk => by
    simp only [memWfFrom, Bool.and_eq_true, decide_eq_true_eq] at h
    have hne : a ≠ k := by omega
    rw [memRead, if_neg hne]
    exact memRead_below m (a + 1) k h.2 (by omega)

/-- A canonical store is canonical above a lower bound. -/
theorem memWfFrom_mono : ∀ (m : Memory) (lo lo' : Nat), lo' ≤ lo → memWfFrom lo m = true → memWfFrom lo' m = true
  | [], _, _, _, _ => rfl
  | (a, b) :: m, lo, lo', hl, h => by
    simp only [memWfFrom, Bool.and_eq_true, decide_eq_true_eq] at h ⊢
    exact ⟨⟨by omega, h.1.2⟩, h.2⟩

/-- A write at or above the bound keeps the canonical form. -/
theorem memWrite_wfFrom : ∀ (m : Memory) (lo k : Nat) (v : Byte), memWfFrom lo m = true → lo ≤ k →
    memWfFrom lo (memWrite m k v) = true
  | [], lo, k, v, _, hk => by
    by_cases hv : v = 0xFF
    · rw [memWrite, if_pos hv]; rfl
    · rw [memWrite, if_neg hv]
      simp only [memWfFrom, Bool.and_eq_true, decide_eq_true_eq]
      exact ⟨⟨hk, hv⟩, trivial⟩
  | (a, b) :: m, lo, k, v, h, hk => by
    have h0 := h
    simp only [memWfFrom, Bool.and_eq_true, decide_eq_true_eq] at h
    obtain ⟨⟨h1, h2⟩, h3⟩ := h
    by_cases hlt : k < a
    · by_cases hv : v = 0xFF
      · rw [memWrite, if_pos hlt, if_pos hv]; exact h0
      · rw [memWrite, if_pos hlt, if_neg hv]
        simp only [memWfFrom, Bool.and_eq_true, decide_eq_true_eq]
        exact ⟨⟨hk, hv⟩, ⟨hlt, h2⟩, h3⟩
    · by_cases he : k = a
      · by_cases hv : v = 0xFF
        · rw [memWrite, if_neg hlt, if_pos he, if_pos hv]
          exact memWfFrom_mono m (a + 1) lo (by omega) h3
        · rw [memWrite, if_neg hlt, if_pos he, if_neg hv]
          simp only [memWfFrom, Bool.and_eq_true, decide_eq_true_eq]
          exact ⟨⟨h1, hv⟩, h3⟩
      · have ih := memWrite_wfFrom m (a + 1) k v h3 (by omega)
        rw [memWrite, if_neg hlt, if_neg he]
        simp only [memWfFrom, Bool.and_eq_true, decide_eq_true_eq]
        exact ⟨⟨h1, h2⟩, ih⟩

/-- Every write of one byte keeps the canonical form. -/
theorem memWrite_wf (m : Memory) (k : Nat) (v : Byte) (h : Memory.wf m = true) : Memory.wf (memWrite m k v) = true :=
  memWrite_wfFrom m 0 k v h (Nat.zero_le k)

/-- Every write of bytes keeps the canonical form. -/
theorem memWriteAll_wf : ∀ (bs : List Byte) (m : Memory) (k : Nat), Memory.wf m = true →
    Memory.wf (memWriteAll m k bs) = true
  | [], _, _, h => h
  | b :: bs, m, k, h => memWriteAll_wf bs (memWrite m k b) (k + 1) (memWrite_wf m k b h)

/-- A store with nothing written is canonical. -/
@[simp] theorem Memory.wf_nil : Memory.wf [] = true := rfl

/-- A byte after a write: the byte written at its address, the byte before at every other. -/
theorem memRead_memWriteFrom : ∀ (m : Memory) (lo k j : Nat) (v : Byte), memWfFrom lo m = true →
    memRead (memWrite m k v) j = if j = k then v else memRead m j
  | [], _, k, j, v, _ => by
    by_cases hv : v = 0xFF
    · rw [memWrite, if_pos hv, hv]
      by_cases hj : j = k
      · rw [if_pos hj]; rfl
      · rw [if_neg hj]
    · rw [memWrite, if_neg hv]
      by_cases hj : j = k
      · rw [if_pos hj, memRead, if_pos hj.symm]
      · rw [if_neg hj]; exact if_neg fun e => hj e.symm
  | (a, b) :: m, lo, k, j, v, h => by
    simp only [memWfFrom, Bool.and_eq_true, decide_eq_true_eq] at h
    obtain ⟨⟨h1, h2⟩, h3⟩ := h
    by_cases hlt : k < a
    · by_cases hv : v = 0xFF
      · rw [memWrite, if_pos hlt, if_pos hv]
        by_cases hj : j = k
        · subst hj
          rw [if_pos rfl, hv, memRead, if_neg (by omega : a ≠ j)]
          exact memRead_below m (a + 1) j h3 (by omega)
        · rw [if_neg hj]
      · rw [memWrite, if_pos hlt, if_neg hv]
        by_cases hj : j = k
        · rw [if_pos hj, memRead, if_pos hj.symm]
        · rw [memRead, if_neg (fun e => hj e.symm), if_neg hj]
    · by_cases he : k = a
      · by_cases hv : v = 0xFF
        · rw [memWrite, if_neg hlt, if_pos he, if_pos hv]
          by_cases hj : j = k
          · rw [if_pos hj, hv]; exact memRead_below m (a + 1) j h3 (by omega)
          · rw [if_neg hj, memRead, if_neg (by omega : a ≠ j)]
        · rw [memWrite, if_neg hlt, if_pos he, if_neg hv]
          by_cases hj : j = k
          · rw [if_pos hj, memRead, if_pos (by omega : a = j)]
          · rw [if_neg hj, memRead, if_neg (by omega : a ≠ j), memRead, if_neg (by omega : a ≠ j)]
      · rw [memWrite, if_neg hlt, if_neg he, memRead, memRead, memRead_memWriteFrom m (a + 1) k j v h3]
        by_cases hj : a = j
        · rw [if_pos hj, if_neg (by omega : j ≠ k), if_pos hj]
        · rw [if_neg hj, if_neg hj]

/-- Read after write. -/
theorem memRead_memWrite (m : Memory) (k j : Nat) (v : Byte) (h : Memory.wf m = true) :
    memRead (memWrite m k v) j = if j = k then v else memRead m j := memRead_memWriteFrom m 0 k j v h

/-- A write of bytes leaves every address below it and every address from its end on as it was. -/
theorem memRead_memWriteAll_other : ∀ (bs : List Byte) (m : Memory) (k j : Nat), Memory.wf m = true →
    j < k ∨ k + bs.length ≤ j → memRead (memWriteAll m k bs) j = memRead m j
  | [], _, _, _, _, _ => rfl
  | b :: bs, m, k, j, h, hj => by
    simp only [List.length_cons] at hj
    rw [memWriteAll, memRead_memWriteAll_other bs _ _ _ (memWrite_wf m k b h) (by omega), memRead_memWrite m k j b h,
      if_neg (by omega)]

/-- The stores are canonical at reset. -/
theorem reset_stores_wf : Memory.wf State.reset.fw.mem = true ∧
    ∀ k : Fin 8, Memory.wf State.reset.rcp.slots[k].code = true ∧ Memory.wf State.reset.rcp.slots[k].data = true ∧
      Memory.wf State.reset.rcp.slots[k].sig = true := by decide

end Sys2Proof.Machine
end

