-- ==== Sys2Proof/Laws/State.lean ====
section
/-! SUPPORT. What each update of `State` leaves and what it changes: one lemma for each field of each update, so that
no proof unfolds an update. -/

namespace Sys2Proof.Machine

/-! ### One index of a register file -/

/-- A vector set at an index, read at an index. -/
theorem getElem_set_fin {α : Type} {k : Nat} (v : Vector α k) (i j : Fin k) (a : α) :
    (v.set i a)[j] = if j = i then a else v[j] := by
  by_cases h : j = i
  · subst h; simp
  · have h' : i.val ≠ j.val := fun e => h (Fin.ext e.symm)
    simp [h, h']

/-- A vector of a function's values, read at an index. -/
@[simp] theorem vec_get {α : Type} {k : Nat} (f : Fin k → α) (i : Fin k) : (vec f)[i] = f i :=
  vec_getElem f i.val i.isLt

/-- `indices k` lists every index. -/
theorem mem_tabulate {α : Type} : ∀ (k : Nat) (f : Fin k → α) (i : Fin k), f i ∈ tabulate k f
  | 0, _, i => i.elim0
  | k + 1, f, i => by
    refine Fin.cases ?_ (fun j => ?_) i
    · simp [tabulate]
    · simpa [tabulate] using Or.inr (mem_tabulate k (fun i => f i.succ) j)

/-- A fold over every index keeps what each of its rounds keeps. -/
theorem foldFin_keeps {σ α : Type} (g : σ → α) {k : Nat} (f : Fin k → σ → σ) (h : ∀ i s, g (f i s) = g s) (s : σ) :
    g (foldFin k f s) = g s := by
  have : ∀ (l : List (Fin k)) (s : σ), g (l.foldl (fun s i => f i s) s) = g s := by
    intro l
    induction l with
    | nil => intro s; rfl
    | cons i l ih => intro s; rw [List.foldl_cons, ih, h]
  exact this _ _

/-! ### The fields an update leaves -/

@[simp] theorem State.modSys_ports (s : State) (f : Sys → Sys) : (s.modSys f).ports = s.ports := rfl
@[simp] theorem State.modSys_hub (s : State) (f : Sys → Sys) : (s.modSys f).hub = s.hub := rfl
@[simp] theorem State.modSys_taps (s : State) (f : Sys → Sys) : (s.modSys f).taps = s.taps := rfl
@[simp] theorem State.modSys_shown (s : State) (f : Sys → Sys) : (s.modSys f).shown = s.shown := rfl
@[simp] theorem State.modSys_arb (s : State) (f : Sys → Sys) : (s.modSys f).arb = s.arb := rfl
@[simp] theorem State.modSys_mtr (s : State) (f : Sys → Sys) : (s.modSys f).mtr = s.mtr := rfl
@[simp] theorem State.modSys_ctrs (s : State) (f : Sys → Sys) : (s.modSys f).ctrs = s.ctrs := rfl
@[simp] theorem State.modSys_alr (s : State) (f : Sys → Sys) : (s.modSys f).alr = s.alr := rfl
@[simp] theorem State.modSys_pour (s : State) (f : Sys → Sys) : (s.modSys f).pour = s.pour := rfl
@[simp] theorem State.modSys_vsel (s : State) (f : Sys → Sys) : (s.modSys f).vsel = s.vsel := rfl
@[simp] theorem State.modSys_bus (s : State) (f : Sys → Sys) : (s.modSys f).bus = s.bus := rfl
@[simp] theorem State.modSys_mbx (s : State) (f : Sys → Sys) : (s.modSys f).mbx = s.mbx := rfl
@[simp] theorem State.modSys_monAnswer (s : State) (f : Sys → Sys) : (s.modSys f).monAnswer = s.monAnswer := rfl
@[simp] theorem State.modSys_ownAnswer (s : State) (f : Sys → Sys) : (s.modSys f).ownAnswer = s.ownAnswer := rfl
@[simp] theorem State.modSys_bp (s : State) (f : Sys → Sys) : (s.modSys f).bp = s.bp := rfl
@[simp] theorem State.modSys_boxes (s : State) (f : Sys → Sys) : (s.modSys f).boxes = s.boxes := rfl
@[simp] theorem State.modSys_links (s : State) (f : Sys → Sys) : (s.modSys f).links = s.links := rfl
@[simp] theorem State.modSys_tie (s : State) (f : Sys → Sys) : (s.modSys f).tie = s.tie := rfl
@[simp] theorem State.modSys_wdg (s : State) (f : Sys → Sys) : (s.modSys f).wdg = s.wdg := rfl
@[simp] theorem State.modSys_bbx (s : State) (f : Sys → Sys) : (s.modSys f).bbx = s.bbx := rfl
@[simp] theorem State.modSys_fw (s : State) (f : Sys → Sys) : (s.modSys f).fw = s.fw := rfl
@[simp] theorem State.modSys_rcp (s : State) (f : Sys → Sys) : (s.modSys f).rcp = s.rcp := rfl
@[simp] theorem State.modSys_perf (s : State) (f : Sys → Sys) : (s.modSys f).perf = s.perf := rfl
@[simp] theorem State.modSys_mon (s : State) (f : Sys → Sys) : (s.modSys f).mon = s.mon := rfl
@[simp] theorem State.modSys_stored (s : State) (f : Sys → Sys) : (s.modSys f).stored = s.stored := rfl
@[simp] theorem State.modSys_bells (s : State) (f : Sys → Sys) : (s.modSys f).bells = s.bells := rfl
@[simp] theorem State.modSys_taken (s : State) (f : Sys → Sys) : (s.modSys f).taken = s.taken := rfl
@[simp] theorem State.modSys_held (s : State) (f : Sys → Sys) : (s.modSys f).held = s.held := rfl
@[simp] theorem State.modSys_free (s : State) (f : Sys → Sys) : (s.modSys f).free = s.free := rfl
@[simp] theorem State.modSys_pending (s : State) (f : Sys → Sys) : (s.modSys f).pending = s.pending := rfl

@[simp] theorem State.modPort_sys (s : State) (x : Fin 4) (f : Port → Port) : (s.modPort x f).sys = s.sys := rfl
@[simp] theorem State.modPort_hub (s : State) (x : Fin 4) (f : Port → Port) : (s.modPort x f).hub = s.hub := rfl
@[simp] theorem State.modPort_taps (s : State) (x : Fin 4) (f : Port → Port) : (s.modPort x f).taps = s.taps := rfl
@[simp] theorem State.modPort_shown (s : State) (x : Fin 4) (f : Port → Port) : (s.modPort x f).shown = s.shown := rfl
@[simp] theorem State.modPort_arb (s : State) (x : Fin 4) (f : Port → Port) : (s.modPort x f).arb = s.arb := rfl
@[simp] theorem State.modPort_mtr (s : State) (x : Fin 4) (f : Port → Port) : (s.modPort x f).mtr = s.mtr := rfl
@[simp] theorem State.modPort_ctrs (s : State) (x : Fin 4) (f : Port → Port) : (s.modPort x f).ctrs = s.ctrs := rfl
@[simp] theorem State.modPort_alr (s : State) (x : Fin 4) (f : Port → Port) : (s.modPort x f).alr = s.alr := rfl
@[simp] theorem State.modPort_pour (s : State) (x : Fin 4) (f : Port → Port) : (s.modPort x f).pour = s.pour := rfl
@[simp] theorem State.modPort_vsel (s : State) (x : Fin 4) (f : Port → Port) : (s.modPort x f).vsel = s.vsel := rfl
@[simp] theorem State.modPort_bus (s : State) (x : Fin 4) (f : Port → Port) : (s.modPort x f).bus = s.bus := rfl
@[simp] theorem State.modPort_mbx (s : State) (x : Fin 4) (f : Port → Port) : (s.modPort x f).mbx = s.mbx := rfl
@[simp] theorem State.modPort_monAnswer (s : State) (x : Fin 4) (f : Port → Port) : (s.modPort x f).monAnswer = s.monAnswer := rfl
@[simp] theorem State.modPort_ownAnswer (s : State) (x : Fin 4) (f : Port → Port) : (s.modPort x f).ownAnswer = s.ownAnswer := rfl
@[simp] theorem State.modPort_bp (s : State) (x : Fin 4) (f : Port → Port) : (s.modPort x f).bp = s.bp := rfl
@[simp] theorem State.modPort_boxes (s : State) (x : Fin 4) (f : Port → Port) : (s.modPort x f).boxes = s.boxes := rfl
@[simp] theorem State.modPort_links (s : State) (x : Fin 4) (f : Port → Port) : (s.modPort x f).links = s.links := rfl
@[simp] theorem State.modPort_tie (s : State) (x : Fin 4) (f : Port → Port) : (s.modPort x f).tie = s.tie := rfl
@[simp] theorem State.modPort_wdg (s : State) (x : Fin 4) (f : Port → Port) : (s.modPort x f).wdg = s.wdg := rfl
@[simp] theorem State.modPort_bbx (s : State) (x : Fin 4) (f : Port → Port) : (s.modPort x f).bbx = s.bbx := rfl
@[simp] theorem State.modPort_fw (s : State) (x : Fin 4) (f : Port → Port) : (s.modPort x f).fw = s.fw := rfl
@[simp] theorem State.modPort_rcp (s : State) (x : Fin 4) (f : Port → Port) : (s.modPort x f).rcp = s.rcp := rfl
@[simp] theorem State.modPort_perf (s : State) (x : Fin 4) (f : Port → Port) : (s.modPort x f).perf = s.perf := rfl
@[simp] theorem State.modPort_mon (s : State) (x : Fin 4) (f : Port → Port) : (s.modPort x f).mon = s.mon := rfl
@[simp] theorem State.modPort_stored (s : State) (x : Fin 4) (f : Port → Port) : (s.modPort x f).stored = s.stored := rfl
@[simp] theorem State.modPort_bells (s : State) (x : Fin 4) (f : Port → Port) : (s.modPort x f).bells = s.bells := rfl
@[simp] theorem State.modPort_taken (s : State) (x : Fin 4) (f : Port → Port) : (s.modPort x f).taken = s.taken := rfl
@[simp] theorem State.modPort_held (s : State) (x : Fin 4) (f : Port → Port) : (s.modPort x f).held = s.held := rfl
@[simp] theorem State.modPort_free (s : State) (x : Fin 4) (f : Port → Port) : (s.modPort x f).free = s.free := rfl
@[simp] theorem State.modPort_pending (s : State) (x : Fin 4) (f : Port → Port) : (s.modPort x f).pending = s.pending := rfl

@[simp] theorem State.modTap_sys (s : State) (n : Fin 32) (f : Tap → Tap) : (s.modTap n f).sys = s.sys := rfl
@[simp] theorem State.modTap_ports (s : State) (n : Fin 32) (f : Tap → Tap) : (s.modTap n f).ports = s.ports := rfl
@[simp] theorem State.modTap_hub (s : State) (n : Fin 32) (f : Tap → Tap) : (s.modTap n f).hub = s.hub := rfl
@[simp] theorem State.modTap_shown (s : State) (n : Fin 32) (f : Tap → Tap) : (s.modTap n f).shown = s.shown := rfl
@[simp] theorem State.modTap_arb (s : State) (n : Fin 32) (f : Tap → Tap) : (s.modTap n f).arb = s.arb := rfl
@[simp] theorem State.modTap_mtr (s : State) (n : Fin 32) (f : Tap → Tap) : (s.modTap n f).mtr = s.mtr := rfl
@[simp] theorem State.modTap_ctrs (s : State) (n : Fin 32) (f : Tap → Tap) : (s.modTap n f).ctrs = s.ctrs := rfl
@[simp] theorem State.modTap_alr (s : State) (n : Fin 32) (f : Tap → Tap) : (s.modTap n f).alr = s.alr := rfl
@[simp] theorem State.modTap_pour (s : State) (n : Fin 32) (f : Tap → Tap) : (s.modTap n f).pour = s.pour := rfl
@[simp] theorem State.modTap_vsel (s : State) (n : Fin 32) (f : Tap → Tap) : (s.modTap n f).vsel = s.vsel := rfl
@[simp] theorem State.modTap_bus (s : State) (n : Fin 32) (f : Tap → Tap) : (s.modTap n f).bus = s.bus := rfl
@[simp] theorem State.modTap_mbx (s : State) (n : Fin 32) (f : Tap → Tap) : (s.modTap n f).mbx = s.mbx := rfl
@[simp] theorem State.modTap_monAnswer (s : State) (n : Fin 32) (f : Tap → Tap) : (s.modTap n f).monAnswer = s.monAnswer := rfl
@[simp] theorem State.modTap_ownAnswer (s : State) (n : Fin 32) (f : Tap → Tap) : (s.modTap n f).ownAnswer = s.ownAnswer := rfl
@[simp] theorem State.modTap_bp (s : State) (n : Fin 32) (f : Tap → Tap) : (s.modTap n f).bp = s.bp := rfl
@[simp] theorem State.modTap_boxes (s : State) (n : Fin 32) (f : Tap → Tap) : (s.modTap n f).boxes = s.boxes := rfl
@[simp] theorem State.modTap_links (s : State) (n : Fin 32) (f : Tap → Tap) : (s.modTap n f).links = s.links := rfl
@[simp] theorem State.modTap_tie (s : State) (n : Fin 32) (f : Tap → Tap) : (s.modTap n f).tie = s.tie := rfl
@[simp] theorem State.modTap_wdg (s : State) (n : Fin 32) (f : Tap → Tap) : (s.modTap n f).wdg = s.wdg := rfl
@[simp] theorem State.modTap_bbx (s : State) (n : Fin 32) (f : Tap → Tap) : (s.modTap n f).bbx = s.bbx := rfl
@[simp] theorem State.modTap_fw (s : State) (n : Fin 32) (f : Tap → Tap) : (s.modTap n f).fw = s.fw := rfl
@[simp] theorem State.modTap_rcp (s : State) (n : Fin 32) (f : Tap → Tap) : (s.modTap n f).rcp = s.rcp := rfl
@[simp] theorem State.modTap_perf (s : State) (n : Fin 32) (f : Tap → Tap) : (s.modTap n f).perf = s.perf := rfl
@[simp] theorem State.modTap_mon (s : State) (n : Fin 32) (f : Tap → Tap) : (s.modTap n f).mon = s.mon := rfl
@[simp] theorem State.modTap_stored (s : State) (n : Fin 32) (f : Tap → Tap) : (s.modTap n f).stored = s.stored := rfl
@[simp] theorem State.modTap_bells (s : State) (n : Fin 32) (f : Tap → Tap) : (s.modTap n f).bells = s.bells := rfl
@[simp] theorem State.modTap_taken (s : State) (n : Fin 32) (f : Tap → Tap) : (s.modTap n f).taken = s.taken := rfl
@[simp] theorem State.modTap_held (s : State) (n : Fin 32) (f : Tap → Tap) : (s.modTap n f).held = s.held := rfl
@[simp] theorem State.modTap_free (s : State) (n : Fin 32) (f : Tap → Tap) : (s.modTap n f).free = s.free := rfl
@[simp] theorem State.modTap_pending (s : State) (n : Fin 32) (f : Tap → Tap) : (s.modTap n f).pending = s.pending := rfl

@[simp] theorem State.modStake_sys (s : State) (n : Fin 32) (f : Stake → Stake) : (s.modStake n f).sys = s.sys := rfl
@[simp] theorem State.modStake_ports (s : State) (n : Fin 32) (f : Stake → Stake) : (s.modStake n f).ports = s.ports := rfl
@[simp] theorem State.modStake_hub (s : State) (n : Fin 32) (f : Stake → Stake) : (s.modStake n f).hub = s.hub := rfl
@[simp] theorem State.modStake_shown (s : State) (n : Fin 32) (f : Stake → Stake) : (s.modStake n f).shown = s.shown := rfl
@[simp] theorem State.modStake_arb (s : State) (n : Fin 32) (f : Stake → Stake) : (s.modStake n f).arb = s.arb := rfl
@[simp] theorem State.modStake_mtr (s : State) (n : Fin 32) (f : Stake → Stake) : (s.modStake n f).mtr = s.mtr := rfl
@[simp] theorem State.modStake_ctrs (s : State) (n : Fin 32) (f : Stake → Stake) : (s.modStake n f).ctrs = s.ctrs := rfl
@[simp] theorem State.modStake_alr (s : State) (n : Fin 32) (f : Stake → Stake) : (s.modStake n f).alr = s.alr := rfl
@[simp] theorem State.modStake_pour (s : State) (n : Fin 32) (f : Stake → Stake) : (s.modStake n f).pour = s.pour := rfl
@[simp] theorem State.modStake_vsel (s : State) (n : Fin 32) (f : Stake → Stake) : (s.modStake n f).vsel = s.vsel := rfl
@[simp] theorem State.modStake_bus (s : State) (n : Fin 32) (f : Stake → Stake) : (s.modStake n f).bus = s.bus := rfl
@[simp] theorem State.modStake_mbx (s : State) (n : Fin 32) (f : Stake → Stake) : (s.modStake n f).mbx = s.mbx := rfl
@[simp] theorem State.modStake_monAnswer (s : State) (n : Fin 32) (f : Stake → Stake) : (s.modStake n f).monAnswer = s.monAnswer := rfl
@[simp] theorem State.modStake_ownAnswer (s : State) (n : Fin 32) (f : Stake → Stake) : (s.modStake n f).ownAnswer = s.ownAnswer := rfl
@[simp] theorem State.modStake_bp (s : State) (n : Fin 32) (f : Stake → Stake) : (s.modStake n f).bp = s.bp := rfl
@[simp] theorem State.modStake_boxes (s : State) (n : Fin 32) (f : Stake → Stake) : (s.modStake n f).boxes = s.boxes := rfl
@[simp] theorem State.modStake_links (s : State) (n : Fin 32) (f : Stake → Stake) : (s.modStake n f).links = s.links := rfl
@[simp] theorem State.modStake_tie (s : State) (n : Fin 32) (f : Stake → Stake) : (s.modStake n f).tie = s.tie := rfl
@[simp] theorem State.modStake_wdg (s : State) (n : Fin 32) (f : Stake → Stake) : (s.modStake n f).wdg = s.wdg := rfl
@[simp] theorem State.modStake_bbx (s : State) (n : Fin 32) (f : Stake → Stake) : (s.modStake n f).bbx = s.bbx := rfl
@[simp] theorem State.modStake_fw (s : State) (n : Fin 32) (f : Stake → Stake) : (s.modStake n f).fw = s.fw := rfl
@[simp] theorem State.modStake_rcp (s : State) (n : Fin 32) (f : Stake → Stake) : (s.modStake n f).rcp = s.rcp := rfl
@[simp] theorem State.modStake_perf (s : State) (n : Fin 32) (f : Stake → Stake) : (s.modStake n f).perf = s.perf := rfl
@[simp] theorem State.modStake_mon (s : State) (n : Fin 32) (f : Stake → Stake) : (s.modStake n f).mon = s.mon := rfl
@[simp] theorem State.modStake_stored (s : State) (n : Fin 32) (f : Stake → Stake) : (s.modStake n f).stored = s.stored := rfl
@[simp] theorem State.modStake_bells (s : State) (n : Fin 32) (f : Stake → Stake) : (s.modStake n f).bells = s.bells := rfl
@[simp] theorem State.modStake_taken (s : State) (n : Fin 32) (f : Stake → Stake) : (s.modStake n f).taken = s.taken := rfl
@[simp] theorem State.modStake_held (s : State) (n : Fin 32) (f : Stake → Stake) : (s.modStake n f).held = s.held := rfl
@[simp] theorem State.modStake_free (s : State) (n : Fin 32) (f : Stake → Stake) : (s.modStake n f).free = s.free := rfl
@[simp] theorem State.modStake_pending (s : State) (n : Fin 32) (f : Stake → Stake) : (s.modStake n f).pending = s.pending := rfl

@[simp] theorem State.modCfg_sys (s : State) (n : Fin 32) (f : TapCfg → TapCfg) : (s.modCfg n f).sys = s.sys := rfl
@[simp] theorem State.modCfg_ports (s : State) (n : Fin 32) (f : TapCfg → TapCfg) : (s.modCfg n f).ports = s.ports := rfl
@[simp] theorem State.modCfg_hub (s : State) (n : Fin 32) (f : TapCfg → TapCfg) : (s.modCfg n f).hub = s.hub := rfl
@[simp] theorem State.modCfg_shown (s : State) (n : Fin 32) (f : TapCfg → TapCfg) : (s.modCfg n f).shown = s.shown := rfl
@[simp] theorem State.modCfg_arb (s : State) (n : Fin 32) (f : TapCfg → TapCfg) : (s.modCfg n f).arb = s.arb := rfl
@[simp] theorem State.modCfg_mtr (s : State) (n : Fin 32) (f : TapCfg → TapCfg) : (s.modCfg n f).mtr = s.mtr := rfl
@[simp] theorem State.modCfg_ctrs (s : State) (n : Fin 32) (f : TapCfg → TapCfg) : (s.modCfg n f).ctrs = s.ctrs := rfl
@[simp] theorem State.modCfg_alr (s : State) (n : Fin 32) (f : TapCfg → TapCfg) : (s.modCfg n f).alr = s.alr := rfl
@[simp] theorem State.modCfg_pour (s : State) (n : Fin 32) (f : TapCfg → TapCfg) : (s.modCfg n f).pour = s.pour := rfl
@[simp] theorem State.modCfg_vsel (s : State) (n : Fin 32) (f : TapCfg → TapCfg) : (s.modCfg n f).vsel = s.vsel := rfl
@[simp] theorem State.modCfg_bus (s : State) (n : Fin 32) (f : TapCfg → TapCfg) : (s.modCfg n f).bus = s.bus := rfl
@[simp] theorem State.modCfg_mbx (s : State) (n : Fin 32) (f : TapCfg → TapCfg) : (s.modCfg n f).mbx = s.mbx := rfl
@[simp] theorem State.modCfg_monAnswer (s : State) (n : Fin 32) (f : TapCfg → TapCfg) : (s.modCfg n f).monAnswer = s.monAnswer := rfl
@[simp] theorem State.modCfg_ownAnswer (s : State) (n : Fin 32) (f : TapCfg → TapCfg) : (s.modCfg n f).ownAnswer = s.ownAnswer := rfl
@[simp] theorem State.modCfg_bp (s : State) (n : Fin 32) (f : TapCfg → TapCfg) : (s.modCfg n f).bp = s.bp := rfl
@[simp] theorem State.modCfg_boxes (s : State) (n : Fin 32) (f : TapCfg → TapCfg) : (s.modCfg n f).boxes = s.boxes := rfl
@[simp] theorem State.modCfg_links (s : State) (n : Fin 32) (f : TapCfg → TapCfg) : (s.modCfg n f).links = s.links := rfl
@[simp] theorem State.modCfg_tie (s : State) (n : Fin 32) (f : TapCfg → TapCfg) : (s.modCfg n f).tie = s.tie := rfl
@[simp] theorem State.modCfg_wdg (s : State) (n : Fin 32) (f : TapCfg → TapCfg) : (s.modCfg n f).wdg = s.wdg := rfl
@[simp] theorem State.modCfg_bbx (s : State) (n : Fin 32) (f : TapCfg → TapCfg) : (s.modCfg n f).bbx = s.bbx := rfl
@[simp] theorem State.modCfg_fw (s : State) (n : Fin 32) (f : TapCfg → TapCfg) : (s.modCfg n f).fw = s.fw := rfl
@[simp] theorem State.modCfg_rcp (s : State) (n : Fin 32) (f : TapCfg → TapCfg) : (s.modCfg n f).rcp = s.rcp := rfl
@[simp] theorem State.modCfg_perf (s : State) (n : Fin 32) (f : TapCfg → TapCfg) : (s.modCfg n f).perf = s.perf := rfl
@[simp] theorem State.modCfg_mon (s : State) (n : Fin 32) (f : TapCfg → TapCfg) : (s.modCfg n f).mon = s.mon := rfl
@[simp] theorem State.modCfg_stored (s : State) (n : Fin 32) (f : TapCfg → TapCfg) : (s.modCfg n f).stored = s.stored := rfl
@[simp] theorem State.modCfg_bells (s : State) (n : Fin 32) (f : TapCfg → TapCfg) : (s.modCfg n f).bells = s.bells := rfl
@[simp] theorem State.modCfg_taken (s : State) (n : Fin 32) (f : TapCfg → TapCfg) : (s.modCfg n f).taken = s.taken := rfl
@[simp] theorem State.modCfg_held (s : State) (n : Fin 32) (f : TapCfg → TapCfg) : (s.modCfg n f).held = s.held := rfl
@[simp] theorem State.modCfg_free (s : State) (n : Fin 32) (f : TapCfg → TapCfg) : (s.modCfg n f).free = s.free := rfl
@[simp] theorem State.modCfg_pending (s : State) (n : Fin 32) (f : TapCfg → TapCfg) : (s.modCfg n f).pending = s.pending := rfl

@[simp] theorem State.modLink_sys (s : State) (x : Fin 4) (f : LinkPort → LinkPort) : (s.modLink x f).sys = s.sys := rfl
@[simp] theorem State.modLink_ports (s : State) (x : Fin 4) (f : LinkPort → LinkPort) : (s.modLink x f).ports = s.ports := rfl
@[simp] theorem State.modLink_hub (s : State) (x : Fin 4) (f : LinkPort → LinkPort) : (s.modLink x f).hub = s.hub := rfl
@[simp] theorem State.modLink_taps (s : State) (x : Fin 4) (f : LinkPort → LinkPort) : (s.modLink x f).taps = s.taps := rfl
@[simp] theorem State.modLink_shown (s : State) (x : Fin 4) (f : LinkPort → LinkPort) : (s.modLink x f).shown = s.shown := rfl
@[simp] theorem State.modLink_arb (s : State) (x : Fin 4) (f : LinkPort → LinkPort) : (s.modLink x f).arb = s.arb := rfl
@[simp] theorem State.modLink_mtr (s : State) (x : Fin 4) (f : LinkPort → LinkPort) : (s.modLink x f).mtr = s.mtr := rfl
@[simp] theorem State.modLink_ctrs (s : State) (x : Fin 4) (f : LinkPort → LinkPort) : (s.modLink x f).ctrs = s.ctrs := rfl
@[simp] theorem State.modLink_alr (s : State) (x : Fin 4) (f : LinkPort → LinkPort) : (s.modLink x f).alr = s.alr := rfl
@[simp] theorem State.modLink_pour (s : State) (x : Fin 4) (f : LinkPort → LinkPort) : (s.modLink x f).pour = s.pour := rfl
@[simp] theorem State.modLink_vsel (s : State) (x : Fin 4) (f : LinkPort → LinkPort) : (s.modLink x f).vsel = s.vsel := rfl
@[simp] theorem State.modLink_bus (s : State) (x : Fin 4) (f : LinkPort → LinkPort) : (s.modLink x f).bus = s.bus := rfl
@[simp] theorem State.modLink_mbx (s : State) (x : Fin 4) (f : LinkPort → LinkPort) : (s.modLink x f).mbx = s.mbx := rfl
@[simp] theorem State.modLink_monAnswer (s : State) (x : Fin 4) (f : LinkPort → LinkPort) : (s.modLink x f).monAnswer = s.monAnswer := rfl
@[simp] theorem State.modLink_ownAnswer (s : State) (x : Fin 4) (f : LinkPort → LinkPort) : (s.modLink x f).ownAnswer = s.ownAnswer := rfl
@[simp] theorem State.modLink_bp (s : State) (x : Fin 4) (f : LinkPort → LinkPort) : (s.modLink x f).bp = s.bp := rfl
@[simp] theorem State.modLink_boxes (s : State) (x : Fin 4) (f : LinkPort → LinkPort) : (s.modLink x f).boxes = s.boxes := rfl
@[simp] theorem State.modLink_tie (s : State) (x : Fin 4) (f : LinkPort → LinkPort) : (s.modLink x f).tie = s.tie := rfl
@[simp] theorem State.modLink_wdg (s : State) (x : Fin 4) (f : LinkPort → LinkPort) : (s.modLink x f).wdg = s.wdg := rfl
@[simp] theorem State.modLink_bbx (s : State) (x : Fin 4) (f : LinkPort → LinkPort) : (s.modLink x f).bbx = s.bbx := rfl
@[simp] theorem State.modLink_fw (s : State) (x : Fin 4) (f : LinkPort → LinkPort) : (s.modLink x f).fw = s.fw := rfl
@[simp] theorem State.modLink_rcp (s : State) (x : Fin 4) (f : LinkPort → LinkPort) : (s.modLink x f).rcp = s.rcp := rfl
@[simp] theorem State.modLink_perf (s : State) (x : Fin 4) (f : LinkPort → LinkPort) : (s.modLink x f).perf = s.perf := rfl
@[simp] theorem State.modLink_mon (s : State) (x : Fin 4) (f : LinkPort → LinkPort) : (s.modLink x f).mon = s.mon := rfl
@[simp] theorem State.modLink_stored (s : State) (x : Fin 4) (f : LinkPort → LinkPort) : (s.modLink x f).stored = s.stored := rfl
@[simp] theorem State.modLink_bells (s : State) (x : Fin 4) (f : LinkPort → LinkPort) : (s.modLink x f).bells = s.bells := rfl
@[simp] theorem State.modLink_taken (s : State) (x : Fin 4) (f : LinkPort → LinkPort) : (s.modLink x f).taken = s.taken := rfl
@[simp] theorem State.modLink_held (s : State) (x : Fin 4) (f : LinkPort → LinkPort) : (s.modLink x f).held = s.held := rfl
@[simp] theorem State.modLink_free (s : State) (x : Fin 4) (f : LinkPort → LinkPort) : (s.modLink x f).free = s.free := rfl
@[simp] theorem State.modLink_pending (s : State) (x : Fin 4) (f : LinkPort → LinkPort) : (s.modLink x f).pending = s.pending := rfl

@[simp] theorem State.modMbx_sys (s : State) (n : Fin 4) (f : Mailbox → Mailbox) : (s.modMbx n f).sys = s.sys := rfl
@[simp] theorem State.modMbx_ports (s : State) (n : Fin 4) (f : Mailbox → Mailbox) : (s.modMbx n f).ports = s.ports := rfl
@[simp] theorem State.modMbx_hub (s : State) (n : Fin 4) (f : Mailbox → Mailbox) : (s.modMbx n f).hub = s.hub := rfl
@[simp] theorem State.modMbx_taps (s : State) (n : Fin 4) (f : Mailbox → Mailbox) : (s.modMbx n f).taps = s.taps := rfl
@[simp] theorem State.modMbx_shown (s : State) (n : Fin 4) (f : Mailbox → Mailbox) : (s.modMbx n f).shown = s.shown := rfl
@[simp] theorem State.modMbx_arb (s : State) (n : Fin 4) (f : Mailbox → Mailbox) : (s.modMbx n f).arb = s.arb := rfl
@[simp] theorem State.modMbx_mtr (s : State) (n : Fin 4) (f : Mailbox → Mailbox) : (s.modMbx n f).mtr = s.mtr := rfl
@[simp] theorem State.modMbx_ctrs (s : State) (n : Fin 4) (f : Mailbox → Mailbox) : (s.modMbx n f).ctrs = s.ctrs := rfl
@[simp] theorem State.modMbx_alr (s : State) (n : Fin 4) (f : Mailbox → Mailbox) : (s.modMbx n f).alr = s.alr := rfl
@[simp] theorem State.modMbx_pour (s : State) (n : Fin 4) (f : Mailbox → Mailbox) : (s.modMbx n f).pour = s.pour := rfl
@[simp] theorem State.modMbx_vsel (s : State) (n : Fin 4) (f : Mailbox → Mailbox) : (s.modMbx n f).vsel = s.vsel := rfl
@[simp] theorem State.modMbx_bus (s : State) (n : Fin 4) (f : Mailbox → Mailbox) : (s.modMbx n f).bus = s.bus := rfl
@[simp] theorem State.modMbx_monAnswer (s : State) (n : Fin 4) (f : Mailbox → Mailbox) : (s.modMbx n f).monAnswer = s.monAnswer := rfl
@[simp] theorem State.modMbx_ownAnswer (s : State) (n : Fin 4) (f : Mailbox → Mailbox) : (s.modMbx n f).ownAnswer = s.ownAnswer := rfl
@[simp] theorem State.modMbx_bp (s : State) (n : Fin 4) (f : Mailbox → Mailbox) : (s.modMbx n f).bp = s.bp := rfl
@[simp] theorem State.modMbx_boxes (s : State) (n : Fin 4) (f : Mailbox → Mailbox) : (s.modMbx n f).boxes = s.boxes := rfl
@[simp] theorem State.modMbx_links (s : State) (n : Fin 4) (f : Mailbox → Mailbox) : (s.modMbx n f).links = s.links := rfl
@[simp] theorem State.modMbx_tie (s : State) (n : Fin 4) (f : Mailbox → Mailbox) : (s.modMbx n f).tie = s.tie := rfl
@[simp] theorem State.modMbx_wdg (s : State) (n : Fin 4) (f : Mailbox → Mailbox) : (s.modMbx n f).wdg = s.wdg := rfl
@[simp] theorem State.modMbx_bbx (s : State) (n : Fin 4) (f : Mailbox → Mailbox) : (s.modMbx n f).bbx = s.bbx := rfl
@[simp] theorem State.modMbx_fw (s : State) (n : Fin 4) (f : Mailbox → Mailbox) : (s.modMbx n f).fw = s.fw := rfl
@[simp] theorem State.modMbx_rcp (s : State) (n : Fin 4) (f : Mailbox → Mailbox) : (s.modMbx n f).rcp = s.rcp := rfl
@[simp] theorem State.modMbx_perf (s : State) (n : Fin 4) (f : Mailbox → Mailbox) : (s.modMbx n f).perf = s.perf := rfl
@[simp] theorem State.modMbx_mon (s : State) (n : Fin 4) (f : Mailbox → Mailbox) : (s.modMbx n f).mon = s.mon := rfl
@[simp] theorem State.modMbx_stored (s : State) (n : Fin 4) (f : Mailbox → Mailbox) : (s.modMbx n f).stored = s.stored := rfl
@[simp] theorem State.modMbx_bells (s : State) (n : Fin 4) (f : Mailbox → Mailbox) : (s.modMbx n f).bells = s.bells := rfl
@[simp] theorem State.modMbx_taken (s : State) (n : Fin 4) (f : Mailbox → Mailbox) : (s.modMbx n f).taken = s.taken := rfl
@[simp] theorem State.modMbx_held (s : State) (n : Fin 4) (f : Mailbox → Mailbox) : (s.modMbx n f).held = s.held := rfl
@[simp] theorem State.modMbx_free (s : State) (n : Fin 4) (f : Mailbox → Mailbox) : (s.modMbx n f).free = s.free := rfl
@[simp] theorem State.modMbx_pending (s : State) (n : Fin 4) (f : Mailbox → Mailbox) : (s.modMbx n f).pending = s.pending := rfl

@[simp] theorem State.mapTaps_sys (s : State) (f : Fin 32 → Tap → Tap) : (s.mapTaps f).sys = s.sys := rfl
@[simp] theorem State.mapTaps_ports (s : State) (f : Fin 32 → Tap → Tap) : (s.mapTaps f).ports = s.ports := rfl
@[simp] theorem State.mapTaps_hub (s : State) (f : Fin 32 → Tap → Tap) : (s.mapTaps f).hub = s.hub := rfl
@[simp] theorem State.mapTaps_shown (s : State) (f : Fin 32 → Tap → Tap) : (s.mapTaps f).shown = s.shown := rfl
@[simp] theorem State.mapTaps_arb (s : State) (f : Fin 32 → Tap → Tap) : (s.mapTaps f).arb = s.arb := rfl
@[simp] theorem State.mapTaps_mtr (s : State) (f : Fin 32 → Tap → Tap) : (s.mapTaps f).mtr = s.mtr := rfl
@[simp] theorem State.mapTaps_ctrs (s : State) (f : Fin 32 → Tap → Tap) : (s.mapTaps f).ctrs = s.ctrs := rfl
@[simp] theorem State.mapTaps_alr (s : State) (f : Fin 32 → Tap → Tap) : (s.mapTaps f).alr = s.alr := rfl
@[simp] theorem State.mapTaps_pour (s : State) (f : Fin 32 → Tap → Tap) : (s.mapTaps f).pour = s.pour := rfl
@[simp] theorem State.mapTaps_vsel (s : State) (f : Fin 32 → Tap → Tap) : (s.mapTaps f).vsel = s.vsel := rfl
@[simp] theorem State.mapTaps_bus (s : State) (f : Fin 32 → Tap → Tap) : (s.mapTaps f).bus = s.bus := rfl
@[simp] theorem State.mapTaps_mbx (s : State) (f : Fin 32 → Tap → Tap) : (s.mapTaps f).mbx = s.mbx := rfl
@[simp] theorem State.mapTaps_monAnswer (s : State) (f : Fin 32 → Tap → Tap) : (s.mapTaps f).monAnswer = s.monAnswer := rfl
@[simp] theorem State.mapTaps_ownAnswer (s : State) (f : Fin 32 → Tap → Tap) : (s.mapTaps f).ownAnswer = s.ownAnswer := rfl
@[simp] theorem State.mapTaps_bp (s : State) (f : Fin 32 → Tap → Tap) : (s.mapTaps f).bp = s.bp := rfl
@[simp] theorem State.mapTaps_boxes (s : State) (f : Fin 32 → Tap → Tap) : (s.mapTaps f).boxes = s.boxes := rfl
@[simp] theorem State.mapTaps_links (s : State) (f : Fin 32 → Tap → Tap) : (s.mapTaps f).links = s.links := rfl
@[simp] theorem State.mapTaps_tie (s : State) (f : Fin 32 → Tap → Tap) : (s.mapTaps f).tie = s.tie := rfl
@[simp] theorem State.mapTaps_wdg (s : State) (f : Fin 32 → Tap → Tap) : (s.mapTaps f).wdg = s.wdg := rfl
@[simp] theorem State.mapTaps_bbx (s : State) (f : Fin 32 → Tap → Tap) : (s.mapTaps f).bbx = s.bbx := rfl
@[simp] theorem State.mapTaps_fw (s : State) (f : Fin 32 → Tap → Tap) : (s.mapTaps f).fw = s.fw := rfl
@[simp] theorem State.mapTaps_rcp (s : State) (f : Fin 32 → Tap → Tap) : (s.mapTaps f).rcp = s.rcp := rfl
@[simp] theorem State.mapTaps_perf (s : State) (f : Fin 32 → Tap → Tap) : (s.mapTaps f).perf = s.perf := rfl
@[simp] theorem State.mapTaps_mon (s : State) (f : Fin 32 → Tap → Tap) : (s.mapTaps f).mon = s.mon := rfl
@[simp] theorem State.mapTaps_stored (s : State) (f : Fin 32 → Tap → Tap) : (s.mapTaps f).stored = s.stored := rfl
@[simp] theorem State.mapTaps_bells (s : State) (f : Fin 32 → Tap → Tap) : (s.mapTaps f).bells = s.bells := rfl
@[simp] theorem State.mapTaps_taken (s : State) (f : Fin 32 → Tap → Tap) : (s.mapTaps f).taken = s.taken := rfl
@[simp] theorem State.mapTaps_held (s : State) (f : Fin 32 → Tap → Tap) : (s.mapTaps f).held = s.held := rfl
@[simp] theorem State.mapTaps_free (s : State) (f : Fin 32 → Tap → Tap) : (s.mapTaps f).free = s.free := rfl
@[simp] theorem State.mapTaps_pending (s : State) (f : Fin 32 → Tap → Tap) : (s.mapTaps f).pending = s.pending := rfl

@[simp] theorem State.mapPorts_sys (s : State) (f : Fin 4 → Port → Port) : (s.mapPorts f).sys = s.sys := rfl
@[simp] theorem State.mapPorts_hub (s : State) (f : Fin 4 → Port → Port) : (s.mapPorts f).hub = s.hub := rfl
@[simp] theorem State.mapPorts_taps (s : State) (f : Fin 4 → Port → Port) : (s.mapPorts f).taps = s.taps := rfl
@[simp] theorem State.mapPorts_shown (s : State) (f : Fin 4 → Port → Port) : (s.mapPorts f).shown = s.shown := rfl
@[simp] theorem State.mapPorts_arb (s : State) (f : Fin 4 → Port → Port) : (s.mapPorts f).arb = s.arb := rfl
@[simp] theorem State.mapPorts_mtr (s : State) (f : Fin 4 → Port → Port) : (s.mapPorts f).mtr = s.mtr := rfl
@[simp] theorem State.mapPorts_ctrs (s : State) (f : Fin 4 → Port → Port) : (s.mapPorts f).ctrs = s.ctrs := rfl
@[simp] theorem State.mapPorts_alr (s : State) (f : Fin 4 → Port → Port) : (s.mapPorts f).alr = s.alr := rfl
@[simp] theorem State.mapPorts_pour (s : State) (f : Fin 4 → Port → Port) : (s.mapPorts f).pour = s.pour := rfl
@[simp] theorem State.mapPorts_vsel (s : State) (f : Fin 4 → Port → Port) : (s.mapPorts f).vsel = s.vsel := rfl
@[simp] theorem State.mapPorts_bus (s : State) (f : Fin 4 → Port → Port) : (s.mapPorts f).bus = s.bus := rfl
@[simp] theorem State.mapPorts_mbx (s : State) (f : Fin 4 → Port → Port) : (s.mapPorts f).mbx = s.mbx := rfl
@[simp] theorem State.mapPorts_monAnswer (s : State) (f : Fin 4 → Port → Port) : (s.mapPorts f).monAnswer = s.monAnswer := rfl
@[simp] theorem State.mapPorts_ownAnswer (s : State) (f : Fin 4 → Port → Port) : (s.mapPorts f).ownAnswer = s.ownAnswer := rfl
@[simp] theorem State.mapPorts_bp (s : State) (f : Fin 4 → Port → Port) : (s.mapPorts f).bp = s.bp := rfl
@[simp] theorem State.mapPorts_boxes (s : State) (f : Fin 4 → Port → Port) : (s.mapPorts f).boxes = s.boxes := rfl
@[simp] theorem State.mapPorts_links (s : State) (f : Fin 4 → Port → Port) : (s.mapPorts f).links = s.links := rfl
@[simp] theorem State.mapPorts_tie (s : State) (f : Fin 4 → Port → Port) : (s.mapPorts f).tie = s.tie := rfl
@[simp] theorem State.mapPorts_wdg (s : State) (f : Fin 4 → Port → Port) : (s.mapPorts f).wdg = s.wdg := rfl
@[simp] theorem State.mapPorts_bbx (s : State) (f : Fin 4 → Port → Port) : (s.mapPorts f).bbx = s.bbx := rfl
@[simp] theorem State.mapPorts_fw (s : State) (f : Fin 4 → Port → Port) : (s.mapPorts f).fw = s.fw := rfl
@[simp] theorem State.mapPorts_rcp (s : State) (f : Fin 4 → Port → Port) : (s.mapPorts f).rcp = s.rcp := rfl
@[simp] theorem State.mapPorts_perf (s : State) (f : Fin 4 → Port → Port) : (s.mapPorts f).perf = s.perf := rfl
@[simp] theorem State.mapPorts_mon (s : State) (f : Fin 4 → Port → Port) : (s.mapPorts f).mon = s.mon := rfl
@[simp] theorem State.mapPorts_stored (s : State) (f : Fin 4 → Port → Port) : (s.mapPorts f).stored = s.stored := rfl
@[simp] theorem State.mapPorts_bells (s : State) (f : Fin 4 → Port → Port) : (s.mapPorts f).bells = s.bells := rfl
@[simp] theorem State.mapPorts_taken (s : State) (f : Fin 4 → Port → Port) : (s.mapPorts f).taken = s.taken := rfl
@[simp] theorem State.mapPorts_held (s : State) (f : Fin 4 → Port → Port) : (s.mapPorts f).held = s.held := rfl
@[simp] theorem State.mapPorts_free (s : State) (f : Fin 4 → Port → Port) : (s.mapPorts f).free = s.free := rfl
@[simp] theorem State.mapPorts_pending (s : State) (f : Fin 4 → Port → Port) : (s.mapPorts f).pending = s.pending := rfl

@[simp] theorem State.modWdg_sys (s : State) (f : Wdg → Wdg) : (s.modWdg f).sys = s.sys := rfl
@[simp] theorem State.modWdg_ports (s : State) (f : Wdg → Wdg) : (s.modWdg f).ports = s.ports := rfl
@[simp] theorem State.modWdg_hub (s : State) (f : Wdg → Wdg) : (s.modWdg f).hub = s.hub := rfl
@[simp] theorem State.modWdg_taps (s : State) (f : Wdg → Wdg) : (s.modWdg f).taps = s.taps := rfl
@[simp] theorem State.modWdg_shown (s : State) (f : Wdg → Wdg) : (s.modWdg f).shown = s.shown := rfl
@[simp] theorem State.modWdg_arb (s : State) (f : Wdg → Wdg) : (s.modWdg f).arb = s.arb := rfl
@[simp] theorem State.modWdg_mtr (s : State) (f : Wdg → Wdg) : (s.modWdg f).mtr = s.mtr := rfl
@[simp] theorem State.modWdg_ctrs (s : State) (f : Wdg → Wdg) : (s.modWdg f).ctrs = s.ctrs := rfl
@[simp] theorem State.modWdg_alr (s : State) (f : Wdg → Wdg) : (s.modWdg f).alr = s.alr := rfl
@[simp] theorem State.modWdg_pour (s : State) (f : Wdg → Wdg) : (s.modWdg f).pour = s.pour := rfl
@[simp] theorem State.modWdg_vsel (s : State) (f : Wdg → Wdg) : (s.modWdg f).vsel = s.vsel := rfl
@[simp] theorem State.modWdg_bus (s : State) (f : Wdg → Wdg) : (s.modWdg f).bus = s.bus := rfl
@[simp] theorem State.modWdg_mbx (s : State) (f : Wdg → Wdg) : (s.modWdg f).mbx = s.mbx := rfl
@[simp] theorem State.modWdg_monAnswer (s : State) (f : Wdg → Wdg) : (s.modWdg f).monAnswer = s.monAnswer := rfl
@[simp] theorem State.modWdg_ownAnswer (s : State) (f : Wdg → Wdg) : (s.modWdg f).ownAnswer = s.ownAnswer := rfl
@[simp] theorem State.modWdg_bp (s : State) (f : Wdg → Wdg) : (s.modWdg f).bp = s.bp := rfl
@[simp] theorem State.modWdg_boxes (s : State) (f : Wdg → Wdg) : (s.modWdg f).boxes = s.boxes := rfl
@[simp] theorem State.modWdg_links (s : State) (f : Wdg → Wdg) : (s.modWdg f).links = s.links := rfl
@[simp] theorem State.modWdg_tie (s : State) (f : Wdg → Wdg) : (s.modWdg f).tie = s.tie := rfl
@[simp] theorem State.modWdg_bbx (s : State) (f : Wdg → Wdg) : (s.modWdg f).bbx = s.bbx := rfl
@[simp] theorem State.modWdg_fw (s : State) (f : Wdg → Wdg) : (s.modWdg f).fw = s.fw := rfl
@[simp] theorem State.modWdg_rcp (s : State) (f : Wdg → Wdg) : (s.modWdg f).rcp = s.rcp := rfl
@[simp] theorem State.modWdg_perf (s : State) (f : Wdg → Wdg) : (s.modWdg f).perf = s.perf := rfl
@[simp] theorem State.modWdg_mon (s : State) (f : Wdg → Wdg) : (s.modWdg f).mon = s.mon := rfl
@[simp] theorem State.modWdg_stored (s : State) (f : Wdg → Wdg) : (s.modWdg f).stored = s.stored := rfl
@[simp] theorem State.modWdg_bells (s : State) (f : Wdg → Wdg) : (s.modWdg f).bells = s.bells := rfl
@[simp] theorem State.modWdg_taken (s : State) (f : Wdg → Wdg) : (s.modWdg f).taken = s.taken := rfl
@[simp] theorem State.modWdg_held (s : State) (f : Wdg → Wdg) : (s.modWdg f).held = s.held := rfl
@[simp] theorem State.modWdg_free (s : State) (f : Wdg → Wdg) : (s.modWdg f).free = s.free := rfl
@[simp] theorem State.modWdg_pending (s : State) (f : Wdg → Wdg) : (s.modWdg f).pending = s.pending := rfl

@[simp] theorem State.modPour_sys (s : State) (f : Pour → Pour) : (s.modPour f).sys = s.sys := rfl
@[simp] theorem State.modPour_ports (s : State) (f : Pour → Pour) : (s.modPour f).ports = s.ports := rfl
@[simp] theorem State.modPour_hub (s : State) (f : Pour → Pour) : (s.modPour f).hub = s.hub := rfl
@[simp] theorem State.modPour_taps (s : State) (f : Pour → Pour) : (s.modPour f).taps = s.taps := rfl
@[simp] theorem State.modPour_shown (s : State) (f : Pour → Pour) : (s.modPour f).shown = s.shown := rfl
@[simp] theorem State.modPour_arb (s : State) (f : Pour → Pour) : (s.modPour f).arb = s.arb := rfl
@[simp] theorem State.modPour_mtr (s : State) (f : Pour → Pour) : (s.modPour f).mtr = s.mtr := rfl
@[simp] theorem State.modPour_ctrs (s : State) (f : Pour → Pour) : (s.modPour f).ctrs = s.ctrs := rfl
@[simp] theorem State.modPour_alr (s : State) (f : Pour → Pour) : (s.modPour f).alr = s.alr := rfl
@[simp] theorem State.modPour_vsel (s : State) (f : Pour → Pour) : (s.modPour f).vsel = s.vsel := rfl
@[simp] theorem State.modPour_bus (s : State) (f : Pour → Pour) : (s.modPour f).bus = s.bus := rfl
@[simp] theorem State.modPour_mbx (s : State) (f : Pour → Pour) : (s.modPour f).mbx = s.mbx := rfl
@[simp] theorem State.modPour_monAnswer (s : State) (f : Pour → Pour) : (s.modPour f).monAnswer = s.monAnswer := rfl
@[simp] theorem State.modPour_ownAnswer (s : State) (f : Pour → Pour) : (s.modPour f).ownAnswer = s.ownAnswer := rfl
@[simp] theorem State.modPour_bp (s : State) (f : Pour → Pour) : (s.modPour f).bp = s.bp := rfl
@[simp] theorem State.modPour_boxes (s : State) (f : Pour → Pour) : (s.modPour f).boxes = s.boxes := rfl
@[simp] theorem State.modPour_links (s : State) (f : Pour → Pour) : (s.modPour f).links = s.links := rfl
@[simp] theorem State.modPour_tie (s : State) (f : Pour → Pour) : (s.modPour f).tie = s.tie := rfl
@[simp] theorem State.modPour_wdg (s : State) (f : Pour → Pour) : (s.modPour f).wdg = s.wdg := rfl
@[simp] theorem State.modPour_bbx (s : State) (f : Pour → Pour) : (s.modPour f).bbx = s.bbx := rfl
@[simp] theorem State.modPour_fw (s : State) (f : Pour → Pour) : (s.modPour f).fw = s.fw := rfl
@[simp] theorem State.modPour_rcp (s : State) (f : Pour → Pour) : (s.modPour f).rcp = s.rcp := rfl
@[simp] theorem State.modPour_perf (s : State) (f : Pour → Pour) : (s.modPour f).perf = s.perf := rfl
@[simp] theorem State.modPour_mon (s : State) (f : Pour → Pour) : (s.modPour f).mon = s.mon := rfl
@[simp] theorem State.modPour_stored (s : State) (f : Pour → Pour) : (s.modPour f).stored = s.stored := rfl
@[simp] theorem State.modPour_bells (s : State) (f : Pour → Pour) : (s.modPour f).bells = s.bells := rfl
@[simp] theorem State.modPour_taken (s : State) (f : Pour → Pour) : (s.modPour f).taken = s.taken := rfl
@[simp] theorem State.modPour_held (s : State) (f : Pour → Pour) : (s.modPour f).held = s.held := rfl
@[simp] theorem State.modPour_free (s : State) (f : Pour → Pour) : (s.modPour f).free = s.free := rfl
@[simp] theorem State.modPour_pending (s : State) (f : Pour → Pour) : (s.modPour f).pending = s.pending := rfl

@[simp] theorem State.modBbx_sys (s : State) (f : Bbx → Bbx) : (s.modBbx f).sys = s.sys := rfl
@[simp] theorem State.modBbx_ports (s : State) (f : Bbx → Bbx) : (s.modBbx f).ports = s.ports := rfl
@[simp] theorem State.modBbx_hub (s : State) (f : Bbx → Bbx) : (s.modBbx f).hub = s.hub := rfl
@[simp] theorem State.modBbx_taps (s : State) (f : Bbx → Bbx) : (s.modBbx f).taps = s.taps := rfl
@[simp] theorem State.modBbx_shown (s : State) (f : Bbx → Bbx) : (s.modBbx f).shown = s.shown := rfl
@[simp] theorem State.modBbx_arb (s : State) (f : Bbx → Bbx) : (s.modBbx f).arb = s.arb := rfl
@[simp] theorem State.modBbx_mtr (s : State) (f : Bbx → Bbx) : (s.modBbx f).mtr = s.mtr := rfl
@[simp] theorem State.modBbx_ctrs (s : State) (f : Bbx → Bbx) : (s.modBbx f).ctrs = s.ctrs := rfl
@[simp] theorem State.modBbx_alr (s : State) (f : Bbx → Bbx) : (s.modBbx f).alr = s.alr := rfl
@[simp] theorem State.modBbx_pour (s : State) (f : Bbx → Bbx) : (s.modBbx f).pour = s.pour := rfl
@[simp] theorem State.modBbx_vsel (s : State) (f : Bbx → Bbx) : (s.modBbx f).vsel = s.vsel := rfl
@[simp] theorem State.modBbx_bus (s : State) (f : Bbx → Bbx) : (s.modBbx f).bus = s.bus := rfl
@[simp] theorem State.modBbx_mbx (s : State) (f : Bbx → Bbx) : (s.modBbx f).mbx = s.mbx := rfl
@[simp] theorem State.modBbx_monAnswer (s : State) (f : Bbx → Bbx) : (s.modBbx f).monAnswer = s.monAnswer := rfl
@[simp] theorem State.modBbx_ownAnswer (s : State) (f : Bbx → Bbx) : (s.modBbx f).ownAnswer = s.ownAnswer := rfl
@[simp] theorem State.modBbx_bp (s : State) (f : Bbx → Bbx) : (s.modBbx f).bp = s.bp := rfl
@[simp] theorem State.modBbx_boxes (s : State) (f : Bbx → Bbx) : (s.modBbx f).boxes = s.boxes := rfl
@[simp] theorem State.modBbx_links (s : State) (f : Bbx → Bbx) : (s.modBbx f).links = s.links := rfl
@[simp] theorem State.modBbx_tie (s : State) (f : Bbx → Bbx) : (s.modBbx f).tie = s.tie := rfl
@[simp] theorem State.modBbx_wdg (s : State) (f : Bbx → Bbx) : (s.modBbx f).wdg = s.wdg := rfl
@[simp] theorem State.modBbx_fw (s : State) (f : Bbx → Bbx) : (s.modBbx f).fw = s.fw := rfl
@[simp] theorem State.modBbx_rcp (s : State) (f : Bbx → Bbx) : (s.modBbx f).rcp = s.rcp := rfl
@[simp] theorem State.modBbx_perf (s : State) (f : Bbx → Bbx) : (s.modBbx f).perf = s.perf := rfl
@[simp] theorem State.modBbx_mon (s : State) (f : Bbx → Bbx) : (s.modBbx f).mon = s.mon := rfl
@[simp] theorem State.modBbx_stored (s : State) (f : Bbx → Bbx) : (s.modBbx f).stored = s.stored := rfl
@[simp] theorem State.modBbx_bells (s : State) (f : Bbx → Bbx) : (s.modBbx f).bells = s.bells := rfl
@[simp] theorem State.modBbx_taken (s : State) (f : Bbx → Bbx) : (s.modBbx f).taken = s.taken := rfl
@[simp] theorem State.modBbx_held (s : State) (f : Bbx → Bbx) : (s.modBbx f).held = s.held := rfl
@[simp] theorem State.modBbx_free (s : State) (f : Bbx → Bbx) : (s.modBbx f).free = s.free := rfl
@[simp] theorem State.modBbx_pending (s : State) (f : Bbx → Bbx) : (s.modBbx f).pending = s.pending := rfl

@[simp] theorem State.modBus_sys (s : State) (f : Bus → Bus) : (s.modBus f).sys = s.sys := rfl
@[simp] theorem State.modBus_ports (s : State) (f : Bus → Bus) : (s.modBus f).ports = s.ports := rfl
@[simp] theorem State.modBus_hub (s : State) (f : Bus → Bus) : (s.modBus f).hub = s.hub := rfl
@[simp] theorem State.modBus_taps (s : State) (f : Bus → Bus) : (s.modBus f).taps = s.taps := rfl
@[simp] theorem State.modBus_shown (s : State) (f : Bus → Bus) : (s.modBus f).shown = s.shown := rfl
@[simp] theorem State.modBus_arb (s : State) (f : Bus → Bus) : (s.modBus f).arb = s.arb := rfl
@[simp] theorem State.modBus_mtr (s : State) (f : Bus → Bus) : (s.modBus f).mtr = s.mtr := rfl
@[simp] theorem State.modBus_ctrs (s : State) (f : Bus → Bus) : (s.modBus f).ctrs = s.ctrs := rfl
@[simp] theorem State.modBus_alr (s : State) (f : Bus → Bus) : (s.modBus f).alr = s.alr := rfl
@[simp] theorem State.modBus_pour (s : State) (f : Bus → Bus) : (s.modBus f).pour = s.pour := rfl
@[simp] theorem State.modBus_vsel (s : State) (f : Bus → Bus) : (s.modBus f).vsel = s.vsel := rfl
@[simp] theorem State.modBus_mbx (s : State) (f : Bus → Bus) : (s.modBus f).mbx = s.mbx := rfl
@[simp] theorem State.modBus_monAnswer (s : State) (f : Bus → Bus) : (s.modBus f).monAnswer = s.monAnswer := rfl
@[simp] theorem State.modBus_ownAnswer (s : State) (f : Bus → Bus) : (s.modBus f).ownAnswer = s.ownAnswer := rfl
@[simp] theorem State.modBus_bp (s : State) (f : Bus → Bus) : (s.modBus f).bp = s.bp := rfl
@[simp] theorem State.modBus_boxes (s : State) (f : Bus → Bus) : (s.modBus f).boxes = s.boxes := rfl
@[simp] theorem State.modBus_links (s : State) (f : Bus → Bus) : (s.modBus f).links = s.links := rfl
@[simp] theorem State.modBus_tie (s : State) (f : Bus → Bus) : (s.modBus f).tie = s.tie := rfl
@[simp] theorem State.modBus_wdg (s : State) (f : Bus → Bus) : (s.modBus f).wdg = s.wdg := rfl
@[simp] theorem State.modBus_bbx (s : State) (f : Bus → Bus) : (s.modBus f).bbx = s.bbx := rfl
@[simp] theorem State.modBus_fw (s : State) (f : Bus → Bus) : (s.modBus f).fw = s.fw := rfl
@[simp] theorem State.modBus_rcp (s : State) (f : Bus → Bus) : (s.modBus f).rcp = s.rcp := rfl
@[simp] theorem State.modBus_perf (s : State) (f : Bus → Bus) : (s.modBus f).perf = s.perf := rfl
@[simp] theorem State.modBus_mon (s : State) (f : Bus → Bus) : (s.modBus f).mon = s.mon := rfl
@[simp] theorem State.modBus_stored (s : State) (f : Bus → Bus) : (s.modBus f).stored = s.stored := rfl
@[simp] theorem State.modBus_bells (s : State) (f : Bus → Bus) : (s.modBus f).bells = s.bells := rfl
@[simp] theorem State.modBus_taken (s : State) (f : Bus → Bus) : (s.modBus f).taken = s.taken := rfl
@[simp] theorem State.modBus_held (s : State) (f : Bus → Bus) : (s.modBus f).held = s.held := rfl
@[simp] theorem State.modBus_free (s : State) (f : Bus → Bus) : (s.modBus f).free = s.free := rfl
@[simp] theorem State.modBus_pending (s : State) (f : Bus → Bus) : (s.modBus f).pending = s.pending := rfl

@[simp] theorem State.modBp_sys (s : State) (f : Bp → Bp) : (s.modBp f).sys = s.sys := rfl
@[simp] theorem State.modBp_ports (s : State) (f : Bp → Bp) : (s.modBp f).ports = s.ports := rfl
@[simp] theorem State.modBp_hub (s : State) (f : Bp → Bp) : (s.modBp f).hub = s.hub := rfl
@[simp] theorem State.modBp_taps (s : State) (f : Bp → Bp) : (s.modBp f).taps = s.taps := rfl
@[simp] theorem State.modBp_shown (s : State) (f : Bp → Bp) : (s.modBp f).shown = s.shown := rfl
@[simp] theorem State.modBp_arb (s : State) (f : Bp → Bp) : (s.modBp f).arb = s.arb := rfl
@[simp] theorem State.modBp_mtr (s : State) (f : Bp → Bp) : (s.modBp f).mtr = s.mtr := rfl
@[simp] theorem State.modBp_ctrs (s : State) (f : Bp → Bp) : (s.modBp f).ctrs = s.ctrs := rfl
@[simp] theorem State.modBp_alr (s : State) (f : Bp → Bp) : (s.modBp f).alr = s.alr := rfl
@[simp] theorem State.modBp_pour (s : State) (f : Bp → Bp) : (s.modBp f).pour = s.pour := rfl
@[simp] theorem State.modBp_vsel (s : State) (f : Bp → Bp) : (s.modBp f).vsel = s.vsel := rfl
@[simp] theorem State.modBp_bus (s : State) (f : Bp → Bp) : (s.modBp f).bus = s.bus := rfl
@[simp] theorem State.modBp_mbx (s : State) (f : Bp → Bp) : (s.modBp f).mbx = s.mbx := rfl
@[simp] theorem State.modBp_monAnswer (s : State) (f : Bp → Bp) : (s.modBp f).monAnswer = s.monAnswer := rfl
@[simp] theorem State.modBp_ownAnswer (s : State) (f : Bp → Bp) : (s.modBp f).ownAnswer = s.ownAnswer := rfl
@[simp] theorem State.modBp_boxes (s : State) (f : Bp → Bp) : (s.modBp f).boxes = s.boxes := rfl
@[simp] theorem State.modBp_links (s : State) (f : Bp → Bp) : (s.modBp f).links = s.links := rfl
@[simp] theorem State.modBp_tie (s : State) (f : Bp → Bp) : (s.modBp f).tie = s.tie := rfl
@[simp] theorem State.modBp_wdg (s : State) (f : Bp → Bp) : (s.modBp f).wdg = s.wdg := rfl
@[simp] theorem State.modBp_bbx (s : State) (f : Bp → Bp) : (s.modBp f).bbx = s.bbx := rfl
@[simp] theorem State.modBp_fw (s : State) (f : Bp → Bp) : (s.modBp f).fw = s.fw := rfl
@[simp] theorem State.modBp_rcp (s : State) (f : Bp → Bp) : (s.modBp f).rcp = s.rcp := rfl
@[simp] theorem State.modBp_perf (s : State) (f : Bp → Bp) : (s.modBp f).perf = s.perf := rfl
@[simp] theorem State.modBp_mon (s : State) (f : Bp → Bp) : (s.modBp f).mon = s.mon := rfl
@[simp] theorem State.modBp_stored (s : State) (f : Bp → Bp) : (s.modBp f).stored = s.stored := rfl
@[simp] theorem State.modBp_bells (s : State) (f : Bp → Bp) : (s.modBp f).bells = s.bells := rfl
@[simp] theorem State.modBp_taken (s : State) (f : Bp → Bp) : (s.modBp f).taken = s.taken := rfl
@[simp] theorem State.modBp_held (s : State) (f : Bp → Bp) : (s.modBp f).held = s.held := rfl
@[simp] theorem State.modBp_free (s : State) (f : Bp → Bp) : (s.modBp f).free = s.free := rfl
@[simp] theorem State.modBp_pending (s : State) (f : Bp → Bp) : (s.modBp f).pending = s.pending := rfl

@[simp] theorem State.modMon_sys (s : State) (f : Mon → Mon) : (s.modMon f).sys = s.sys := rfl
@[simp] theorem State.modMon_ports (s : State) (f : Mon → Mon) : (s.modMon f).ports = s.ports := rfl
@[simp] theorem State.modMon_hub (s : State) (f : Mon → Mon) : (s.modMon f).hub = s.hub := rfl
@[simp] theorem State.modMon_taps (s : State) (f : Mon → Mon) : (s.modMon f).taps = s.taps := rfl
@[simp] theorem State.modMon_shown (s : State) (f : Mon → Mon) : (s.modMon f).shown = s.shown := rfl
@[simp] theorem State.modMon_arb (s : State) (f : Mon → Mon) : (s.modMon f).arb = s.arb := rfl
@[simp] theorem State.modMon_mtr (s : State) (f : Mon → Mon) : (s.modMon f).mtr = s.mtr := rfl
@[simp] theorem State.modMon_ctrs (s : State) (f : Mon → Mon) : (s.modMon f).ctrs = s.ctrs := rfl
@[simp] theorem State.modMon_alr (s : State) (f : Mon → Mon) : (s.modMon f).alr = s.alr := rfl
@[simp] theorem State.modMon_pour (s : State) (f : Mon → Mon) : (s.modMon f).pour = s.pour := rfl
@[simp] theorem State.modMon_vsel (s : State) (f : Mon → Mon) : (s.modMon f).vsel = s.vsel := rfl
@[simp] theorem State.modMon_bus (s : State) (f : Mon → Mon) : (s.modMon f).bus = s.bus := rfl
@[simp] theorem State.modMon_mbx (s : State) (f : Mon → Mon) : (s.modMon f).mbx = s.mbx := rfl
@[simp] theorem State.modMon_monAnswer (s : State) (f : Mon → Mon) : (s.modMon f).monAnswer = s.monAnswer := rfl
@[simp] theorem State.modMon_ownAnswer (s : State) (f : Mon → Mon) : (s.modMon f).ownAnswer = s.ownAnswer := rfl
@[simp] theorem State.modMon_bp (s : State) (f : Mon → Mon) : (s.modMon f).bp = s.bp := rfl
@[simp] theorem State.modMon_boxes (s : State) (f : Mon → Mon) : (s.modMon f).boxes = s.boxes := rfl
@[simp] theorem State.modMon_links (s : State) (f : Mon → Mon) : (s.modMon f).links = s.links := rfl
@[simp] theorem State.modMon_tie (s : State) (f : Mon → Mon) : (s.modMon f).tie = s.tie := rfl
@[simp] theorem State.modMon_wdg (s : State) (f : Mon → Mon) : (s.modMon f).wdg = s.wdg := rfl
@[simp] theorem State.modMon_bbx (s : State) (f : Mon → Mon) : (s.modMon f).bbx = s.bbx := rfl
@[simp] theorem State.modMon_fw (s : State) (f : Mon → Mon) : (s.modMon f).fw = s.fw := rfl
@[simp] theorem State.modMon_rcp (s : State) (f : Mon → Mon) : (s.modMon f).rcp = s.rcp := rfl
@[simp] theorem State.modMon_perf (s : State) (f : Mon → Mon) : (s.modMon f).perf = s.perf := rfl
@[simp] theorem State.modMon_stored (s : State) (f : Mon → Mon) : (s.modMon f).stored = s.stored := rfl
@[simp] theorem State.modMon_bells (s : State) (f : Mon → Mon) : (s.modMon f).bells = s.bells := rfl
@[simp] theorem State.modMon_taken (s : State) (f : Mon → Mon) : (s.modMon f).taken = s.taken := rfl
@[simp] theorem State.modMon_held (s : State) (f : Mon → Mon) : (s.modMon f).held = s.held := rfl
@[simp] theorem State.modMon_free (s : State) (f : Mon → Mon) : (s.modMon f).free = s.free := rfl
@[simp] theorem State.modMon_pending (s : State) (f : Mon → Mon) : (s.modMon f).pending = s.pending := rfl

/-! ### The field an update changes -/

@[simp] theorem State.modSys_sys (s : State) (f : Sys → Sys) : (s.modSys f).sys = f s.sys := rfl
@[simp] theorem State.modWdg_wdg (s : State) (f : Wdg → Wdg) : (s.modWdg f).wdg = f s.wdg := rfl
@[simp] theorem State.modPour_pour (s : State) (f : Pour → Pour) : (s.modPour f).pour = f s.pour := rfl
@[simp] theorem State.modBbx_bbx (s : State) (f : Bbx → Bbx) : (s.modBbx f).bbx = f s.bbx := rfl
@[simp] theorem State.modBus_bus (s : State) (f : Bus → Bus) : (s.modBus f).bus = f s.bus := rfl
@[simp] theorem State.modBp_bp (s : State) (f : Bp → Bp) : (s.modBp f).bp = f s.bp := rfl
@[simp] theorem State.modMon_mon (s : State) (f : Mon → Mon) : (s.modMon f).mon = f s.mon := rfl

theorem State.modTap_taps (s : State) (n m : Fin 32) (f : Tap → Tap) :
    (s.modTap n f).taps[m] = if m = n then f s.taps[n] else s.taps[m] := getElem_set_fin _ _ _ _
theorem State.modStake_taps (s : State) (n m : Fin 32) (f : Stake → Stake) :
    (s.modStake n f).taps[m] = if m = n then { s.taps[n] with stake := f s.taps[n].stake } else s.taps[m] :=
  getElem_set_fin _ _ _ _
theorem State.modCfg_taps (s : State) (n m : Fin 32) (f : TapCfg → TapCfg) :
    (s.modCfg n f).taps[m] = if m = n then { s.taps[n] with cfg := f s.taps[n].cfg } else s.taps[m] :=
  getElem_set_fin _ _ _ _
theorem State.modPort_ports (s : State) (x y : Fin 4) (f : Port → Port) :
    (s.modPort x f).ports[y] = if y = x then f s.ports[x] else s.ports[y] := getElem_set_fin _ _ _ _
theorem State.modLink_links (s : State) (x y : Fin 4) (f : LinkPort → LinkPort) :
    (s.modLink x f).links[y] = if y = x then f s.links[x] else s.links[y] := getElem_set_fin _ _ _ _
theorem State.modMbx_mbx (s : State) (n m : Fin 4) (f : Mailbox → Mailbox) :
    (s.modMbx n f).mbx[m] = if m = n then f s.mbx[n] else s.mbx[m] := getElem_set_fin _ _ _ _
theorem State.mapTaps_taps (s : State) (f : Fin 32 → Tap → Tap) (n : Fin 32) :
    (s.mapTaps f).taps[n] = f n s.taps[n] := vec_get _ _
theorem State.mapPorts_ports (s : State) (f : Fin 4 → Port → Port) (x : Fin 4) :
    (s.mapPorts f).ports[x] = f x s.ports[x] := vec_get _ _

/-! The same in the form `simp` brings an index to. -/

@[simp] theorem State.modTap_taps_val (s : State) (n m : Fin 32) (f : Tap → Tap) :
    (s.modTap n f).taps[m.val] = if m = n then f s.taps[n.val] else s.taps[m.val] := getElem_set_fin _ _ _ _
@[simp] theorem State.modStake_taps_val (s : State) (n m : Fin 32) (f : Stake → Stake) :
    (s.modStake n f).taps[m.val] = if m = n then { s.taps[n.val] with stake := f s.taps[n.val].stake } else s.taps[m.val] :=
  getElem_set_fin _ _ _ _
@[simp] theorem State.modCfg_taps_val (s : State) (n m : Fin 32) (f : TapCfg → TapCfg) :
    (s.modCfg n f).taps[m.val] = if m = n then { s.taps[n.val] with cfg := f s.taps[n.val].cfg } else s.taps[m.val] :=
  getElem_set_fin _ _ _ _
@[simp] theorem State.modPort_ports_val (s : State) (x y : Fin 4) (f : Port → Port) :
    (s.modPort x f).ports[y.val] = if y = x then f s.ports[x.val] else s.ports[y.val] := getElem_set_fin _ _ _ _
@[simp] theorem State.modLink_links_val (s : State) (x y : Fin 4) (f : LinkPort → LinkPort) :
    (s.modLink x f).links[y.val] = if y = x then f s.links[x.val] else s.links[y.val] := getElem_set_fin _ _ _ _
@[simp] theorem State.modMbx_mbx_val (s : State) (n m : Fin 4) (f : Mailbox → Mailbox) :
    (s.modMbx n f).mbx[m.val] = if m = n then f s.mbx[n.val] else s.mbx[m.val] := getElem_set_fin _ _ _ _
@[simp] theorem State.mapTaps_taps_val (s : State) (f : Fin 32 → Tap → Tap) (n : Fin 32) :
    (s.mapTaps f).taps[n.val] = f n s.taps[n.val] := vec_get _ _
@[simp] theorem State.mapPorts_ports_val (s : State) (f : Fin 4 → Port → Port) (x : Fin 4) :
    (s.mapPorts f).ports[x.val] = f x s.ports[x.val] := vec_get _ _

/-! ### Drawing a free value -/

@[simp] theorem State.draw_free (s : State) : s.draw.2.free = s.free + 1 := rfl
/-- A draw changes the counter alone. -/
theorem State.draw_frame (s : State) : s.draw.2 = { s with free := s.free + 1 } := rfl

/-! ### The module state after an update of another part -/

@[simp] theorem State.modPort_powered (s : State) (x : Fin 4) (f : Port → Port) : (s.modPort x f).powered = s.powered := rfl
@[simp] theorem State.modTap_powered (s : State) (n : Fin 32) (f : Tap → Tap) : (s.modTap n f).powered = s.powered := rfl
@[simp] theorem State.modStake_powered (s : State) (n : Fin 32) (f : Stake → Stake) : (s.modStake n f).powered = s.powered := rfl
@[simp] theorem State.modCfg_powered (s : State) (n : Fin 32) (f : TapCfg → TapCfg) : (s.modCfg n f).powered = s.powered := rfl
@[simp] theorem State.modLink_powered (s : State) (x : Fin 4) (f : LinkPort → LinkPort) : (s.modLink x f).powered = s.powered := rfl
@[simp] theorem State.modMbx_powered (s : State) (n : Fin 4) (f : Mailbox → Mailbox) : (s.modMbx n f).powered = s.powered := rfl
@[simp] theorem State.mapTaps_powered (s : State) (f : Fin 32 → Tap → Tap) : (s.mapTaps f).powered = s.powered := rfl
@[simp] theorem State.mapPorts_powered (s : State) (f : Fin 4 → Port → Port) : (s.mapPorts f).powered = s.powered := rfl
@[simp] theorem State.modWdg_powered (s : State) (f : Wdg → Wdg) : (s.modWdg f).powered = s.powered := rfl
@[simp] theorem State.modPour_powered (s : State) (f : Pour → Pour) : (s.modPour f).powered = s.powered := rfl
@[simp] theorem State.modBbx_powered (s : State) (f : Bbx → Bbx) : (s.modBbx f).powered = s.powered := rfl
@[simp] theorem State.modBus_powered (s : State) (f : Bus → Bus) : (s.modBus f).powered = s.powered := rfl
@[simp] theorem State.modBp_powered (s : State) (f : Bp → Bp) : (s.modBp f).powered = s.powered := rfl
@[simp] theorem State.modMon_powered (s : State) (f : Mon → Mon) : (s.modMon f).powered = s.powered := rfl

end Sys2Proof.Machine
end

