-- ==== Sys2Proof/Laws/Ops.lean ====
section
/-! SUPPORT. What each shared operation leaves unchanged, said once for each operation. -/

namespace Sys2Proof.Machine

/-- A fold over a list keeps what each of its rounds keeps. -/
theorem foldl_keeps {σ ι α : Type} (g : σ → α) (f : σ → ι → σ) (h : ∀ s i, g (f s i) = g s) (l : List ι) (s : σ) :
    g (l.foldl f s) = g s := by
  induction l generalizing s with
  | nil => rfl
  | cons i l ih => rw [List.foldl_cons, ih, h]

/-- `record` changes no other part than `bbx`. -/
@[simp] theorem record_keeps (type : Nat) (payload : List Word) (s : State) :
    (record type payload s).sys = s.sys ∧ (record type payload s).ports = s.ports ∧ (record type payload s).hub =
    s.hub ∧ (record type payload s).taps = s.taps ∧ (record type payload s).shown = s.shown ∧
    (record type payload s).arb = s.arb ∧ (record type payload s).mtr = s.mtr ∧ (record type payload s).ctrs =
    s.ctrs ∧ (record type payload s).alr = s.alr ∧ (record type payload s).pour = s.pour ∧
    (record type payload s).vsel = s.vsel ∧ (record type payload s).bus = s.bus ∧ (record type payload s).mbx =
    s.mbx ∧ (record type payload s).monAnswer = s.monAnswer ∧ (record type payload s).ownAnswer = s.ownAnswer ∧
    (record type payload s).bp = s.bp ∧ (record type payload s).boxes = s.boxes ∧ (record type payload s).links =
    s.links ∧ (record type payload s).tie = s.tie ∧ (record type payload s).wdg = s.wdg ∧ (record type payload s).fw
    = s.fw ∧ (record type payload s).rcp = s.rcp ∧ (record type payload s).perf = s.perf ∧
    (record type payload s).mon = s.mon ∧ (record type payload s).stored = s.stored ∧ (record type payload s).bells
    = s.bells ∧ (record type payload s).taken = s.taken ∧ (record type payload s).held = s.held ∧
    (record type payload s).free = s.free ∧ (record type payload s).pending = s.pending := by
  unfold record; simp

@[simp] theorem record_bbx_ring (type : Nat) (payload : List Word) (s : State) :
    (record type payload s).bbx.ring = s.bbx.ring := by unfold record; simp

@[simp] theorem record_bbx_snaps (type : Nat) (payload : List Word) (s : State) :
    (record type payload s).bbx.snaps = s.bbx.snaps := by unfold record; simp

@[simp] theorem record_bbx_hist (type : Nat) (payload : List Word) (s : State) :
    (record type payload s).bbx.hist = s.bbx.hist := by unfold record; simp

/-- `recordKeyed` changes no other part than `bbx`. -/
@[simp] theorem recordKeyed_keeps (key : Nat × Nat × Nat) (payload : List Word) (s : State) :
    (recordKeyed key payload s).sys = s.sys ∧ (recordKeyed key payload s).ports = s.ports ∧
    (recordKeyed key payload s).hub = s.hub ∧ (recordKeyed key payload s).taps = s.taps ∧
    (recordKeyed key payload s).shown = s.shown ∧ (recordKeyed key payload s).arb = s.arb ∧
    (recordKeyed key payload s).mtr = s.mtr ∧ (recordKeyed key payload s).ctrs = s.ctrs ∧
    (recordKeyed key payload s).alr = s.alr ∧ (recordKeyed key payload s).pour = s.pour ∧
    (recordKeyed key payload s).vsel = s.vsel ∧ (recordKeyed key payload s).bus = s.bus ∧
    (recordKeyed key payload s).mbx = s.mbx ∧ (recordKeyed key payload s).monAnswer = s.monAnswer ∧
    (recordKeyed key payload s).ownAnswer = s.ownAnswer ∧ (recordKeyed key payload s).bp = s.bp ∧
    (recordKeyed key payload s).boxes = s.boxes ∧ (recordKeyed key payload s).links = s.links ∧
    (recordKeyed key payload s).tie = s.tie ∧ (recordKeyed key payload s).wdg = s.wdg ∧
    (recordKeyed key payload s).fw = s.fw ∧ (recordKeyed key payload s).rcp = s.rcp ∧
    (recordKeyed key payload s).perf = s.perf ∧ (recordKeyed key payload s).mon = s.mon ∧
    (recordKeyed key payload s).stored = s.stored ∧ (recordKeyed key payload s).bells = s.bells ∧
    (recordKeyed key payload s).taken = s.taken ∧ (recordKeyed key payload s).held = s.held ∧
    (recordKeyed key payload s).free = s.free ∧ (recordKeyed key payload s).pending = s.pending := by
  unfold recordKeyed; (repeat' split) <;> simp

@[simp] theorem recordKeyed_bbx_ring (key : Nat × Nat × Nat) (payload : List Word) (s : State) :
    (recordKeyed key payload s).bbx.ring = s.bbx.ring := by unfold recordKeyed; (repeat' split) <;> simp

@[simp] theorem recordKeyed_bbx_snaps (key : Nat × Nat × Nat) (payload : List Word) (s : State) :
    (recordKeyed key payload s).bbx.snaps = s.bbx.snaps := by unfold recordKeyed; (repeat' split) <;> simp

@[simp] theorem recordKeyed_bbx_hist (key : Nat × Nat × Nat) (payload : List Word) (s : State) :
    (recordKeyed key payload s).bbx.hist = s.bbx.hist := by unfold recordKeyed; (repeat' split) <;> simp

/-- `event` changes no other part than `bbx`. -/
@[simp] theorem event_keeps (c : EvCode) (params : List Int) (s : State) :
    (event c params s).sys = s.sys ∧ (event c params s).ports = s.ports ∧ (event c params s).hub = s.hub ∧
    (event c params s).taps = s.taps ∧ (event c params s).shown = s.shown ∧ (event c params s).arb = s.arb ∧
    (event c params s).mtr = s.mtr ∧ (event c params s).ctrs = s.ctrs ∧ (event c params s).alr = s.alr ∧
    (event c params s).pour = s.pour ∧ (event c params s).vsel = s.vsel ∧ (event c params s).bus = s.bus ∧
    (event c params s).mbx = s.mbx ∧ (event c params s).monAnswer = s.monAnswer ∧ (event c params s).ownAnswer =
    s.ownAnswer ∧ (event c params s).bp = s.bp ∧ (event c params s).boxes = s.boxes ∧ (event c params s).links =
    s.links ∧ (event c params s).tie = s.tie ∧ (event c params s).wdg = s.wdg ∧ (event c params s).fw = s.fw ∧
    (event c params s).rcp = s.rcp ∧ (event c params s).perf = s.perf ∧ (event c params s).mon = s.mon ∧
    (event c params s).stored = s.stored ∧ (event c params s).bells = s.bells ∧ (event c params s).taken = s.taken ∧
    (event c params s).held = s.held ∧ (event c params s).free = s.free ∧ (event c params s).pending = s.pending := by
  unfold event; simp

@[simp] theorem event_bbx_ring (c : EvCode) (params : List Int) (s : State) :
    (event c params s).bbx.ring = s.bbx.ring := by unfold event; simp

@[simp] theorem event_bbx_snaps (c : EvCode) (params : List Int) (s : State) :
    (event c params s).bbx.snaps = s.bbx.snaps := by unfold event; simp

@[simp] theorem event_bbx_hist (c : EvCode) (params : List Int) (s : State) :
    (event c params s).bbx.hist = s.bbx.hist := by unfold event; simp

/-- `enqueue` changes no other part than `alr`, `bus`. -/
@[simp] theorem enqueue_keeps (a : Alert) (s : State) :
    (enqueue a s).sys = s.sys ∧ (enqueue a s).ports = s.ports ∧ (enqueue a s).hub = s.hub ∧ (enqueue a s).taps =
    s.taps ∧ (enqueue a s).shown = s.shown ∧ (enqueue a s).arb = s.arb ∧ (enqueue a s).mtr = s.mtr ∧
    (enqueue a s).ctrs = s.ctrs ∧ (enqueue a s).pour = s.pour ∧ (enqueue a s).vsel = s.vsel ∧ (enqueue a s).mbx =
    s.mbx ∧ (enqueue a s).monAnswer = s.monAnswer ∧ (enqueue a s).ownAnswer = s.ownAnswer ∧ (enqueue a s).bp = s.bp
    ∧ (enqueue a s).boxes = s.boxes ∧ (enqueue a s).links = s.links ∧ (enqueue a s).tie = s.tie ∧ (enqueue a s).wdg
    = s.wdg ∧ (enqueue a s).bbx = s.bbx ∧ (enqueue a s).fw = s.fw ∧ (enqueue a s).rcp = s.rcp ∧ (enqueue a s).perf =
    s.perf ∧ (enqueue a s).mon = s.mon ∧ (enqueue a s).stored = s.stored ∧ (enqueue a s).bells = s.bells ∧
    (enqueue a s).taken = s.taken ∧ (enqueue a s).held = s.held ∧ (enqueue a s).free = s.free ∧
    (enqueue a s).pending = s.pending := by
  unfold enqueue; simp

/-- `alertAt` changes no other part than `alr`, `bus`. -/
@[simp] theorem alertAt_keeps (bbxSeq : Nat) (cls kind reason inst : Nat) (param : Int) (s : State) :
    (alertAt bbxSeq cls kind reason inst param s).sys = s.sys ∧ (alertAt bbxSeq cls kind reason inst param s).ports
    = s.ports ∧ (alertAt bbxSeq cls kind reason inst param s).hub = s.hub ∧
    (alertAt bbxSeq cls kind reason inst param s).taps = s.taps ∧
    (alertAt bbxSeq cls kind reason inst param s).shown = s.shown ∧
    (alertAt bbxSeq cls kind reason inst param s).arb = s.arb ∧ (alertAt bbxSeq cls kind reason inst param s).mtr =
    s.mtr ∧ (alertAt bbxSeq cls kind reason inst param s).ctrs = s.ctrs ∧
    (alertAt bbxSeq cls kind reason inst param s).pour = s.pour ∧ (alertAt bbxSeq cls kind reason inst param s).vsel
    = s.vsel ∧ (alertAt bbxSeq cls kind reason inst param s).mbx = s.mbx ∧
    (alertAt bbxSeq cls kind reason inst param s).monAnswer = s.monAnswer ∧
    (alertAt bbxSeq cls kind reason inst param s).ownAnswer = s.ownAnswer ∧
    (alertAt bbxSeq cls kind reason inst param s).bp = s.bp ∧ (alertAt bbxSeq cls kind reason inst param s).boxes =
    s.boxes ∧ (alertAt bbxSeq cls kind reason inst param s).links = s.links ∧
    (alertAt bbxSeq cls kind reason inst param s).tie = s.tie ∧ (alertAt bbxSeq cls kind reason inst param s).wdg =
    s.wdg ∧ (alertAt bbxSeq cls kind reason inst param s).bbx = s.bbx ∧
    (alertAt bbxSeq cls kind reason inst param s).fw = s.fw ∧ (alertAt bbxSeq cls kind reason inst param s).rcp =
    s.rcp ∧ (alertAt bbxSeq cls kind reason inst param s).perf = s.perf ∧
    (alertAt bbxSeq cls kind reason inst param s).mon = s.mon ∧ (alertAt bbxSeq cls kind reason inst param s).stored
    = s.stored ∧ (alertAt bbxSeq cls kind reason inst param s).bells = s.bells ∧
    (alertAt bbxSeq cls kind reason inst param s).taken = s.taken ∧
    (alertAt bbxSeq cls kind reason inst param s).held = s.held ∧ (alertAt bbxSeq cls kind reason inst param s).free
    = s.free ∧ (alertAt bbxSeq cls kind reason inst param s).pending = s.pending := by
  unfold alertAt; split <;> simp

/-- `alert` changes no other part than `alr`, `bus`. -/
@[simp] theorem alert_keeps (cls kind reason inst : Nat) (param : Int) (s : State) :
    (alert cls kind reason inst param s).sys = s.sys ∧ (alert cls kind reason inst param s).ports = s.ports ∧
    (alert cls kind reason inst param s).hub = s.hub ∧ (alert cls kind reason inst param s).taps = s.taps ∧
    (alert cls kind reason inst param s).shown = s.shown ∧ (alert cls kind reason inst param s).arb = s.arb ∧
    (alert cls kind reason inst param s).mtr = s.mtr ∧ (alert cls kind reason inst param s).ctrs = s.ctrs ∧
    (alert cls kind reason inst param s).pour = s.pour ∧ (alert cls kind reason inst param s).vsel = s.vsel ∧
    (alert cls kind reason inst param s).mbx = s.mbx ∧ (alert cls kind reason inst param s).monAnswer = s.monAnswer
    ∧ (alert cls kind reason inst param s).ownAnswer = s.ownAnswer ∧ (alert cls kind reason inst param s).bp = s.bp
    ∧ (alert cls kind reason inst param s).boxes = s.boxes ∧ (alert cls kind reason inst param s).links = s.links ∧
    (alert cls kind reason inst param s).tie = s.tie ∧ (alert cls kind reason inst param s).wdg = s.wdg ∧
    (alert cls kind reason inst param s).bbx = s.bbx ∧ (alert cls kind reason inst param s).fw = s.fw ∧
    (alert cls kind reason inst param s).rcp = s.rcp ∧ (alert cls kind reason inst param s).perf = s.perf ∧
    (alert cls kind reason inst param s).mon = s.mon ∧ (alert cls kind reason inst param s).stored = s.stored ∧
    (alert cls kind reason inst param s).bells = s.bells ∧ (alert cls kind reason inst param s).taken = s.taken ∧
    (alert cls kind reason inst param s).held = s.held ∧ (alert cls kind reason inst param s).free = s.free ∧
    (alert cls kind reason inst param s).pending = s.pending := by
  unfold alert; simp

/-- `alertRec` changes no other part than its record does, `alr` and `bus`. -/
@[simp] theorem alertRec_keeps (rec_ : State → State) (cls kind reason inst : Nat) (param : Int) (s : State) :
    (alertRec rec_ cls kind reason inst param s).sys = (rec_ s).sys ∧
    (alertRec rec_ cls kind reason inst param s).ports = (rec_ s).ports ∧
    (alertRec rec_ cls kind reason inst param s).hub = (rec_ s).hub ∧
    (alertRec rec_ cls kind reason inst param s).taps = (rec_ s).taps ∧
    (alertRec rec_ cls kind reason inst param s).shown = (rec_ s).shown ∧
    (alertRec rec_ cls kind reason inst param s).arb = (rec_ s).arb ∧
    (alertRec rec_ cls kind reason inst param s).mtr = (rec_ s).mtr ∧
    (alertRec rec_ cls kind reason inst param s).ctrs = (rec_ s).ctrs ∧
    (alertRec rec_ cls kind reason inst param s).pour = (rec_ s).pour ∧
    (alertRec rec_ cls kind reason inst param s).vsel = (rec_ s).vsel ∧
    (alertRec rec_ cls kind reason inst param s).mbx = (rec_ s).mbx ∧
    (alertRec rec_ cls kind reason inst param s).monAnswer = (rec_ s).monAnswer ∧
    (alertRec rec_ cls kind reason inst param s).ownAnswer = (rec_ s).ownAnswer ∧
    (alertRec rec_ cls kind reason inst param s).bp = (rec_ s).bp ∧
    (alertRec rec_ cls kind reason inst param s).boxes = (rec_ s).boxes ∧
    (alertRec rec_ cls kind reason inst param s).links = (rec_ s).links ∧
    (alertRec rec_ cls kind reason inst param s).tie = (rec_ s).tie ∧
    (alertRec rec_ cls kind reason inst param s).wdg = (rec_ s).wdg ∧
    (alertRec rec_ cls kind reason inst param s).bbx = (rec_ s).bbx ∧
    (alertRec rec_ cls kind reason inst param s).fw = (rec_ s).fw ∧
    (alertRec rec_ cls kind reason inst param s).rcp = (rec_ s).rcp ∧
    (alertRec rec_ cls kind reason inst param s).perf = (rec_ s).perf ∧
    (alertRec rec_ cls kind reason inst param s).mon = (rec_ s).mon ∧
    (alertRec rec_ cls kind reason inst param s).stored = (rec_ s).stored ∧
    (alertRec rec_ cls kind reason inst param s).bells = (rec_ s).bells ∧
    (alertRec rec_ cls kind reason inst param s).taken = (rec_ s).taken ∧
    (alertRec rec_ cls kind reason inst param s).held = (rec_ s).held ∧
    (alertRec rec_ cls kind reason inst param s).free = (rec_ s).free ∧
    (alertRec rec_ cls kind reason inst param s).pending = (rec_ s).pending := by
  unfold alertRec; simp

/-- `fltSince` changes no other part than `shown`. -/
@[simp] theorem fltSince_keeps (a : State) (s : State) :
    (fltSince a s).sys = s.sys ∧ (fltSince a s).ports = s.ports ∧ (fltSince a s).hub = s.hub ∧
    (fltSince a s).taps = s.taps ∧ (fltSince a s).arb = s.arb ∧ (fltSince a s).mtr = s.mtr ∧ (fltSince a s).ctrs
    = s.ctrs ∧ (fltSince a s).alr = s.alr ∧ (fltSince a s).pour = s.pour ∧ (fltSince a s).vsel = s.vsel ∧
    (fltSince a s).bus = s.bus ∧ (fltSince a s).mbx = s.mbx ∧ (fltSince a s).monAnswer = s.monAnswer ∧
    (fltSince a s).ownAnswer = s.ownAnswer ∧ (fltSince a s).bp = s.bp ∧ (fltSince a s).boxes = s.boxes ∧
    (fltSince a s).links = s.links ∧ (fltSince a s).tie = s.tie ∧ (fltSince a s).wdg = s.wdg ∧
    (fltSince a s).bbx = s.bbx ∧ (fltSince a s).fw = s.fw ∧ (fltSince a s).rcp = s.rcp ∧ (fltSince a s).perf =
    s.perf ∧ (fltSince a s).mon = s.mon ∧ (fltSince a s).stored = s.stored ∧ (fltSince a s).bells = s.bells ∧
    (fltSince a s).taken = s.taken ∧ (fltSince a s).held = s.held ∧ (fltSince a s).free = s.free ∧
    (fltSince a s).pending = s.pending := by
  unfold fltSince; split <;> simp

/-- `withFlt` changes no other part than its event does, and `shown`. -/
@[simp] theorem withFlt_keeps (f : State → State) (s : State) :
    (withFlt f s).sys = (f s).sys ∧ (withFlt f s).ports = (f s).ports ∧ (withFlt f s).hub = (f s).hub ∧
    (withFlt f s).taps = (f s).taps ∧ (withFlt f s).arb = (f s).arb ∧ (withFlt f s).mtr = (f s).mtr ∧
    (withFlt f s).ctrs = (f s).ctrs ∧ (withFlt f s).alr = (f s).alr ∧ (withFlt f s).pour = (f s).pour ∧
    (withFlt f s).vsel = (f s).vsel ∧ (withFlt f s).bus = (f s).bus ∧ (withFlt f s).mbx = (f s).mbx ∧
    (withFlt f s).monAnswer = (f s).monAnswer ∧ (withFlt f s).ownAnswer = (f s).ownAnswer ∧ (withFlt f s).bp =
    (f s).bp ∧ (withFlt f s).boxes = (f s).boxes ∧ (withFlt f s).links = (f s).links ∧ (withFlt f s).tie =
    (f s).tie ∧ (withFlt f s).wdg = (f s).wdg ∧ (withFlt f s).bbx = (f s).bbx ∧ (withFlt f s).fw = (f s).fw ∧
    (withFlt f s).rcp = (f s).rcp ∧ (withFlt f s).perf = (f s).perf ∧ (withFlt f s).mon = (f s).mon ∧
    (withFlt f s).stored = (f s).stored ∧ (withFlt f s).bells = (f s).bells ∧ (withFlt f s).taken = (f s).taken
    ∧ (withFlt f s).held = (f s).held ∧ (withFlt f s).free = (f s).free ∧ (withFlt f s).pending = (f s).pending := by
  unfold withFlt; simp

/-- `settleAlert` changes no other part than `bus`. -/
@[simp] theorem settleAlert_keeps (s : State) :
    (settleAlert s).sys = s.sys ∧ (settleAlert s).ports = s.ports ∧ (settleAlert s).hub = s.hub ∧
    (settleAlert s).taps = s.taps ∧ (settleAlert s).shown = s.shown ∧ (settleAlert s).arb = s.arb ∧
    (settleAlert s).mtr = s.mtr ∧ (settleAlert s).ctrs = s.ctrs ∧ (settleAlert s).alr = s.alr ∧ (settleAlert s).pour
    = s.pour ∧ (settleAlert s).vsel = s.vsel ∧ (settleAlert s).mbx = s.mbx ∧ (settleAlert s).monAnswer = s.monAnswer
    ∧ (settleAlert s).ownAnswer = s.ownAnswer ∧ (settleAlert s).bp = s.bp ∧ (settleAlert s).boxes = s.boxes ∧
    (settleAlert s).links = s.links ∧ (settleAlert s).tie = s.tie ∧ (settleAlert s).wdg = s.wdg ∧
    (settleAlert s).bbx = s.bbx ∧ (settleAlert s).fw = s.fw ∧ (settleAlert s).rcp = s.rcp ∧ (settleAlert s).perf =
    s.perf ∧ (settleAlert s).mon = s.mon ∧ (settleAlert s).stored = s.stored ∧ (settleAlert s).bells = s.bells ∧
    (settleAlert s).taken = s.taken ∧ (settleAlert s).held = s.held ∧ (settleAlert s).free = s.free ∧
    (settleAlert s).pending = s.pending := by
  unfold settleAlert; split <;> simp

/-- `onMates` changes no other part than `taps`. -/
@[simp] theorem onMates_keeps (n : Fin 32) (f : Stake → Stake) (s : State) :
    (onMates n f s).sys = s.sys ∧ (onMates n f s).ports = s.ports ∧ (onMates n f s).hub = s.hub ∧
    (onMates n f s).shown = s.shown ∧ (onMates n f s).arb = s.arb ∧ (onMates n f s).mtr = s.mtr ∧
    (onMates n f s).ctrs = s.ctrs ∧ (onMates n f s).alr = s.alr ∧ (onMates n f s).pour = s.pour ∧
    (onMates n f s).vsel = s.vsel ∧ (onMates n f s).bus = s.bus ∧ (onMates n f s).mbx = s.mbx ∧
    (onMates n f s).monAnswer = s.monAnswer ∧ (onMates n f s).ownAnswer = s.ownAnswer ∧ (onMates n f s).bp = s.bp ∧
    (onMates n f s).boxes = s.boxes ∧ (onMates n f s).links = s.links ∧ (onMates n f s).tie = s.tie ∧
    (onMates n f s).wdg = s.wdg ∧ (onMates n f s).bbx = s.bbx ∧ (onMates n f s).fw = s.fw ∧ (onMates n f s).rcp =
    s.rcp ∧ (onMates n f s).perf = s.perf ∧ (onMates n f s).mon = s.mon ∧ (onMates n f s).stored = s.stored ∧
    (onMates n f s).bells = s.bells ∧ (onMates n f s).taken = s.taken ∧ (onMates n f s).held = s.held ∧
    (onMates n f s).free = s.free ∧ (onMates n f s).pending = s.pending := by
  unfold onMates; exact ⟨
    foldl_keeps (fun t : State => t.sys) (fun s m => s.modStake m f) (fun _ _ => rfl) _ _,
    foldl_keeps (fun t : State => t.ports) (fun s m => s.modStake m f) (fun _ _ => rfl) _ _,
    foldl_keeps (fun t : State => t.hub) (fun s m => s.modStake m f) (fun _ _ => rfl) _ _,
    foldl_keeps (fun t : State => t.shown) (fun s m => s.modStake m f) (fun _ _ => rfl) _ _,
    foldl_keeps (fun t : State => t.arb) (fun s m => s.modStake m f) (fun _ _ => rfl) _ _,
    foldl_keeps (fun t : State => t.mtr) (fun s m => s.modStake m f) (fun _ _ => rfl) _ _,
    foldl_keeps (fun t : State => t.ctrs) (fun s m => s.modStake m f) (fun _ _ => rfl) _ _,
    foldl_keeps (fun t : State => t.alr) (fun s m => s.modStake m f) (fun _ _ => rfl) _ _,
    foldl_keeps (fun t : State => t.pour) (fun s m => s.modStake m f) (fun _ _ => rfl) _ _,
    foldl_keeps (fun t : State => t.vsel) (fun s m => s.modStake m f) (fun _ _ => rfl) _ _,
    foldl_keeps (fun t : State => t.bus) (fun s m => s.modStake m f) (fun _ _ => rfl) _ _,
    foldl_keeps (fun t : State => t.mbx) (fun s m => s.modStake m f) (fun _ _ => rfl) _ _,
    foldl_keeps (fun t : State => t.monAnswer) (fun s m => s.modStake m f) (fun _ _ => rfl) _ _,
    foldl_keeps (fun t : State => t.ownAnswer) (fun s m => s.modStake m f) (fun _ _ => rfl) _ _,
    foldl_keeps (fun t : State => t.bp) (fun s m => s.modStake m f) (fun _ _ => rfl) _ _,
    foldl_keeps (fun t : State => t.boxes) (fun s m => s.modStake m f) (fun _ _ => rfl) _ _,
    foldl_keeps (fun t : State => t.links) (fun s m => s.modStake m f) (fun _ _ => rfl) _ _,
    foldl_keeps (fun t : State => t.tie) (fun s m => s.modStake m f) (fun _ _ => rfl) _ _,
    foldl_keeps (fun t : State => t.wdg) (fun s m => s.modStake m f) (fun _ _ => rfl) _ _,
    foldl_keeps (fun t : State => t.bbx) (fun s m => s.modStake m f) (fun _ _ => rfl) _ _,
    foldl_keeps (fun t : State => t.fw) (fun s m => s.modStake m f) (fun _ _ => rfl) _ _,
    foldl_keeps (fun t : State => t.rcp) (fun s m => s.modStake m f) (fun _ _ => rfl) _ _,
    foldl_keeps (fun t : State => t.perf) (fun s m => s.modStake m f) (fun _ _ => rfl) _ _,
    foldl_keeps (fun t : State => t.mon) (fun s m => s.modStake m f) (fun _ _ => rfl) _ _,
    foldl_keeps (fun t : State => t.stored) (fun s m => s.modStake m f) (fun _ _ => rfl) _ _,
    foldl_keeps (fun t : State => t.bells) (fun s m => s.modStake m f) (fun _ _ => rfl) _ _,
    foldl_keeps (fun t : State => t.taken) (fun s m => s.modStake m f) (fun _ _ => rfl) _ _,
    foldl_keeps (fun t : State => t.held) (fun s m => s.modStake m f) (fun _ _ => rfl) _ _,
    foldl_keeps (fun t : State => t.free) (fun s m => s.modStake m f) (fun _ _ => rfl) _ _,
    foldl_keeps (fun t : State => t.pending) (fun s m => s.modStake m f) (fun _ _ => rfl) _ _⟩

@[simp] theorem onMates_taps_cfg (n : Fin 32) (f : Stake → Stake) (s : State) (m : Fin 32) :
    (onMates n f s).taps[m.val].cfg = s.taps[m.val].cfg := by
  unfold onMates
  exact foldl_keeps (fun t : State => t.taps[m].cfg) (fun s m => s.modStake m f) (fun t i => by simp; split <;> simp_all) _ _

@[simp] theorem onMates_taps_desc (n : Fin 32) (f : Stake → Stake) (s : State) (m : Fin 32) :
    (onMates n f s).taps[m.val].desc = s.taps[m.val].desc := by
  unfold onMates
  exact foldl_keeps (fun t : State => t.taps[m].desc) (fun s m => s.modStake m f) (fun t i => by simp; split <;> simp_all) _ _

/-- `stopStake` changes no other part than `taps`. -/
@[simp] theorem stopStake_keeps (n : Fin 32) (s : State) :
    (stopStake n s).sys = s.sys ∧ (stopStake n s).ports = s.ports ∧ (stopStake n s).hub = s.hub ∧
    (stopStake n s).shown = s.shown ∧ (stopStake n s).arb = s.arb ∧ (stopStake n s).mtr = s.mtr ∧
    (stopStake n s).ctrs = s.ctrs ∧ (stopStake n s).alr = s.alr ∧ (stopStake n s).pour = s.pour ∧
    (stopStake n s).vsel = s.vsel ∧ (stopStake n s).bus = s.bus ∧ (stopStake n s).mbx = s.mbx ∧
    (stopStake n s).monAnswer = s.monAnswer ∧ (stopStake n s).ownAnswer = s.ownAnswer ∧ (stopStake n s).bp = s.bp ∧
    (stopStake n s).boxes = s.boxes ∧ (stopStake n s).links = s.links ∧ (stopStake n s).tie = s.tie ∧
    (stopStake n s).wdg = s.wdg ∧ (stopStake n s).bbx = s.bbx ∧ (stopStake n s).fw = s.fw ∧ (stopStake n s).rcp =
    s.rcp ∧ (stopStake n s).perf = s.perf ∧ (stopStake n s).mon = s.mon ∧ (stopStake n s).stored = s.stored ∧
    (stopStake n s).bells = s.bells ∧ (stopStake n s).taken = s.taken ∧ (stopStake n s).held = s.held ∧
    (stopStake n s).free = s.free ∧ (stopStake n s).pending = s.pending := by
  unfold stopStake; dsimp only; (repeat' split) <;> simp

/-- `retarget` changes no other part than `taps`. -/
@[simp] theorem retarget_keeps (n : Fin 32) (s : State) :
    (retarget n s).sys = s.sys ∧ (retarget n s).ports = s.ports ∧ (retarget n s).hub = s.hub ∧ (retarget n s).shown
    = s.shown ∧ (retarget n s).arb = s.arb ∧ (retarget n s).mtr = s.mtr ∧ (retarget n s).ctrs = s.ctrs ∧
    (retarget n s).alr = s.alr ∧ (retarget n s).pour = s.pour ∧ (retarget n s).vsel = s.vsel ∧ (retarget n s).bus =
    s.bus ∧ (retarget n s).mbx = s.mbx ∧ (retarget n s).monAnswer = s.monAnswer ∧ (retarget n s).ownAnswer =
    s.ownAnswer ∧ (retarget n s).bp = s.bp ∧ (retarget n s).boxes = s.boxes ∧ (retarget n s).links = s.links ∧
    (retarget n s).tie = s.tie ∧ (retarget n s).wdg = s.wdg ∧ (retarget n s).bbx = s.bbx ∧ (retarget n s).fw = s.fw
    ∧ (retarget n s).rcp = s.rcp ∧ (retarget n s).perf = s.perf ∧ (retarget n s).mon = s.mon ∧ (retarget n s).stored
    = s.stored ∧ (retarget n s).bells = s.bells ∧ (retarget n s).taken = s.taken ∧ (retarget n s).held = s.held ∧
    (retarget n s).free = s.free ∧ (retarget n s).pending = s.pending := by
  unfold retarget; simp

@[simp] theorem retarget_taps_cfg (n : Fin 32) (s : State) (m : Fin 32) :
    (retarget n s).taps[m.val].cfg = s.taps[m.val].cfg := by unfold retarget; simp; split <;> simp_all

@[simp] theorem retarget_taps_desc (n : Fin 32) (s : State) (m : Fin 32) :
    (retarget n s).taps[m.val].desc = s.taps[m.val].desc := by unfold retarget; simp; split <;> simp_all

/-- `suspend` changes no other part than `taps`, `alr`, `bus`. -/
@[simp] theorem suspend_keeps (n : Fin 32) (cause : Nat) (s : State) :
    (suspend n cause s).sys = s.sys ∧ (suspend n cause s).ports = s.ports ∧ (suspend n cause s).hub = s.hub ∧
    (suspend n cause s).shown = s.shown ∧ (suspend n cause s).arb = s.arb ∧ (suspend n cause s).mtr = s.mtr ∧
    (suspend n cause s).ctrs = s.ctrs ∧ (suspend n cause s).pour = s.pour ∧ (suspend n cause s).vsel = s.vsel ∧
    (suspend n cause s).mbx = s.mbx ∧ (suspend n cause s).monAnswer = s.monAnswer ∧ (suspend n cause s).ownAnswer =
    s.ownAnswer ∧ (suspend n cause s).bp = s.bp ∧ (suspend n cause s).boxes = s.boxes ∧ (suspend n cause s).links =
    s.links ∧ (suspend n cause s).tie = s.tie ∧ (suspend n cause s).wdg = s.wdg ∧ (suspend n cause s).bbx = s.bbx ∧
    (suspend n cause s).fw = s.fw ∧ (suspend n cause s).rcp = s.rcp ∧ (suspend n cause s).perf = s.perf ∧
    (suspend n cause s).mon = s.mon ∧ (suspend n cause s).stored = s.stored ∧ (suspend n cause s).bells = s.bells ∧
    (suspend n cause s).taken = s.taken ∧ (suspend n cause s).held = s.held ∧ (suspend n cause s).free = s.free ∧
    (suspend n cause s).pending = s.pending := by
  unfold suspend; split <;> simp

/-- `tapFault` changes no other part than `taps`, `alr`, `bus`, `bbx`. -/
@[simp] theorem tapFault_keeps (n : Fin 32) (st : TapState) (cause : Nat) (s : State) :
    (tapFault n st cause s).sys = s.sys ∧ (tapFault n st cause s).ports = s.ports ∧ (tapFault n st cause s).hub =
    s.hub ∧ (tapFault n st cause s).shown = s.shown ∧ (tapFault n st cause s).arb = s.arb ∧
    (tapFault n st cause s).mtr = s.mtr ∧ (tapFault n st cause s).ctrs = s.ctrs ∧ (tapFault n st cause s).pour =
    s.pour ∧ (tapFault n st cause s).vsel = s.vsel ∧ (tapFault n st cause s).mbx = s.mbx ∧
    (tapFault n st cause s).monAnswer = s.monAnswer ∧ (tapFault n st cause s).ownAnswer = s.ownAnswer ∧
    (tapFault n st cause s).bp = s.bp ∧ (tapFault n st cause s).boxes = s.boxes ∧ (tapFault n st cause s).links =
    s.links ∧ (tapFault n st cause s).tie = s.tie ∧ (tapFault n st cause s).wdg = s.wdg ∧ (tapFault n st cause s).fw
    = s.fw ∧ (tapFault n st cause s).rcp = s.rcp ∧ (tapFault n st cause s).perf = s.perf ∧
    (tapFault n st cause s).mon = s.mon ∧ (tapFault n st cause s).stored = s.stored ∧ (tapFault n st cause s).bells
    = s.bells ∧ (tapFault n st cause s).taken = s.taken ∧ (tapFault n st cause s).held = s.held ∧
    (tapFault n st cause s).free = s.free ∧ (tapFault n st cause s).pending = s.pending := by
  unfold tapFault; split <;> simp

@[simp] theorem tapFault_bbx_ring (n : Fin 32) (st : TapState) (cause : Nat) (s : State) :
    (tapFault n st cause s).bbx.ring = s.bbx.ring := by unfold tapFault; split <;> simp

@[simp] theorem tapFault_bbx_snaps (n : Fin 32) (st : TapState) (cause : Nat) (s : State) :
    (tapFault n st cause s).bbx.snaps = s.bbx.snaps := by unfold tapFault; split <;> simp

@[simp] theorem tapFault_bbx_hist (n : Fin 32) (st : TapState) (cause : Nat) (s : State) :
    (tapFault n st cause s).bbx.hist = s.bbx.hist := by unfold tapFault; split <;> simp

/-- `wakeFor` changes no other part than `sys`. -/
@[simp] theorem wakeFor_keeps (n : Fin 32) (s : State) :
    (wakeFor n s).ports = s.ports ∧ (wakeFor n s).hub = s.hub ∧ (wakeFor n s).taps = s.taps ∧ (wakeFor n s).shown =
    s.shown ∧ (wakeFor n s).arb = s.arb ∧ (wakeFor n s).mtr = s.mtr ∧ (wakeFor n s).ctrs = s.ctrs ∧
    (wakeFor n s).alr = s.alr ∧ (wakeFor n s).pour = s.pour ∧ (wakeFor n s).vsel = s.vsel ∧ (wakeFor n s).bus =
    s.bus ∧ (wakeFor n s).mbx = s.mbx ∧ (wakeFor n s).monAnswer = s.monAnswer ∧ (wakeFor n s).ownAnswer =
    s.ownAnswer ∧ (wakeFor n s).bp = s.bp ∧ (wakeFor n s).boxes = s.boxes ∧ (wakeFor n s).links = s.links ∧
    (wakeFor n s).tie = s.tie ∧ (wakeFor n s).wdg = s.wdg ∧ (wakeFor n s).bbx = s.bbx ∧ (wakeFor n s).fw = s.fw ∧
    (wakeFor n s).rcp = s.rcp ∧ (wakeFor n s).perf = s.perf ∧ (wakeFor n s).mon = s.mon ∧ (wakeFor n s).stored =
    s.stored ∧ (wakeFor n s).bells = s.bells ∧ (wakeFor n s).taken = s.taken ∧ (wakeFor n s).held = s.held ∧
    (wakeFor n s).free = s.free ∧ (wakeFor n s).pending = s.pending := by
  unfold wakeFor; split <;> simp

@[simp] theorem wakeFor_sys_st (n : Fin 32) (s : State) :
    (wakeFor n s).sys.st = s.sys.st := by unfold wakeFor; split <;> simp

@[simp] theorem wakeFor_sys_cores (n : Fin 32) (s : State) :
    (wakeFor n s).sys.cores = s.sys.cores := by unfold wakeFor; split <;> simp

@[simp] theorem wakeFor_sys_uptime (n : Fin 32) (s : State) :
    (wakeFor n s).sys.uptime = s.sys.uptime := by unfold wakeFor; split <;> simp

/-- `toDetect` changes no other part than `sys`, `taps`. -/
@[simp] theorem toDetect_keeps (n : Fin 32) (isNew : Bool) (s : State) :
    (toDetect n isNew s).ports = s.ports ∧ (toDetect n isNew s).hub = s.hub ∧ (toDetect n isNew s).shown = s.shown ∧
    (toDetect n isNew s).arb = s.arb ∧ (toDetect n isNew s).mtr = s.mtr ∧ (toDetect n isNew s).ctrs = s.ctrs ∧
    (toDetect n isNew s).alr = s.alr ∧ (toDetect n isNew s).pour = s.pour ∧ (toDetect n isNew s).vsel = s.vsel ∧
    (toDetect n isNew s).bus = s.bus ∧ (toDetect n isNew s).mbx = s.mbx ∧ (toDetect n isNew s).monAnswer =
    s.monAnswer ∧ (toDetect n isNew s).ownAnswer = s.ownAnswer ∧ (toDetect n isNew s).bp = s.bp ∧
    (toDetect n isNew s).boxes = s.boxes ∧ (toDetect n isNew s).links = s.links ∧ (toDetect n isNew s).tie = s.tie ∧
    (toDetect n isNew s).wdg = s.wdg ∧ (toDetect n isNew s).bbx = s.bbx ∧ (toDetect n isNew s).fw = s.fw ∧
    (toDetect n isNew s).rcp = s.rcp ∧ (toDetect n isNew s).perf = s.perf ∧ (toDetect n isNew s).mon = s.mon ∧
    (toDetect n isNew s).stored = s.stored ∧ (toDetect n isNew s).bells = s.bells ∧ (toDetect n isNew s).taken =
    s.taken ∧ (toDetect n isNew s).held = s.held ∧ (toDetect n isNew s).free = s.free ∧ (toDetect n isNew s).pending
    = s.pending := by
  unfold toDetect; dsimp only; (repeat' split) <;> simp

/-- `armFor` changes no other part than `taps`. -/
@[simp] theorem armFor_keeps (n : Fin 32) (st : TapState) (s : State) :
    (armFor n st s).sys = s.sys ∧ (armFor n st s).ports = s.ports ∧ (armFor n st s).hub = s.hub ∧
    (armFor n st s).shown = s.shown ∧ (armFor n st s).arb = s.arb ∧ (armFor n st s).mtr = s.mtr ∧
    (armFor n st s).ctrs = s.ctrs ∧ (armFor n st s).alr = s.alr ∧ (armFor n st s).pour = s.pour ∧
    (armFor n st s).vsel = s.vsel ∧ (armFor n st s).bus = s.bus ∧ (armFor n st s).mbx = s.mbx ∧
    (armFor n st s).monAnswer = s.monAnswer ∧ (armFor n st s).ownAnswer = s.ownAnswer ∧ (armFor n st s).bp = s.bp ∧
    (armFor n st s).boxes = s.boxes ∧ (armFor n st s).links = s.links ∧ (armFor n st s).tie = s.tie ∧
    (armFor n st s).wdg = s.wdg ∧ (armFor n st s).bbx = s.bbx ∧ (armFor n st s).fw = s.fw ∧ (armFor n st s).rcp =
    s.rcp ∧ (armFor n st s).perf = s.perf ∧ (armFor n st s).mon = s.mon ∧ (armFor n st s).stored = s.stored ∧
    (armFor n st s).bells = s.bells ∧ (armFor n st s).taken = s.taken ∧ (armFor n st s).held = s.held ∧
    (armFor n st s).free = s.free ∧ (armFor n st s).pending = s.pending := by
  unfold armFor; split <;> simp

/-- `enterCharge` changes no other part than `taps`, `alr`, `bus`. -/
@[simp] theorem enterCharge_keeps (n : Fin 32) (st : TapState) (s : State) :
    (enterCharge n st s).sys = s.sys ∧ (enterCharge n st s).ports = s.ports ∧ (enterCharge n st s).hub = s.hub ∧
    (enterCharge n st s).shown = s.shown ∧ (enterCharge n st s).arb = s.arb ∧ (enterCharge n st s).mtr = s.mtr ∧
    (enterCharge n st s).ctrs = s.ctrs ∧ (enterCharge n st s).pour = s.pour ∧ (enterCharge n st s).vsel = s.vsel ∧
    (enterCharge n st s).mbx = s.mbx ∧ (enterCharge n st s).monAnswer = s.monAnswer ∧ (enterCharge n st s).ownAnswer
    = s.ownAnswer ∧ (enterCharge n st s).bp = s.bp ∧ (enterCharge n st s).boxes = s.boxes ∧
    (enterCharge n st s).links = s.links ∧ (enterCharge n st s).tie = s.tie ∧ (enterCharge n st s).wdg = s.wdg ∧
    (enterCharge n st s).bbx = s.bbx ∧ (enterCharge n st s).fw = s.fw ∧ (enterCharge n st s).rcp = s.rcp ∧
    (enterCharge n st s).perf = s.perf ∧ (enterCharge n st s).mon = s.mon ∧ (enterCharge n st s).stored = s.stored ∧
    (enterCharge n st s).bells = s.bells ∧ (enterCharge n st s).taken = s.taken ∧ (enterCharge n st s).held = s.held
    ∧ (enterCharge n st s).free = s.free ∧ (enterCharge n st s).pending = s.pending := by
  unfold enterCharge; dsimp only; (repeat' split) <;> simp

/-- `goByKelvin` changes no other part than `taps`, `alr`, `bus`. -/
@[simp] theorem goByKelvin_keeps (n : Fin 32) (s : State) :
    (goByKelvin n s).sys = s.sys ∧ (goByKelvin n s).ports = s.ports ∧ (goByKelvin n s).hub = s.hub ∧
    (goByKelvin n s).shown = s.shown ∧ (goByKelvin n s).arb = s.arb ∧ (goByKelvin n s).mtr = s.mtr ∧
    (goByKelvin n s).ctrs = s.ctrs ∧ (goByKelvin n s).pour = s.pour ∧ (goByKelvin n s).vsel = s.vsel ∧
    (goByKelvin n s).mbx = s.mbx ∧ (goByKelvin n s).monAnswer = s.monAnswer ∧ (goByKelvin n s).ownAnswer =
    s.ownAnswer ∧ (goByKelvin n s).bp = s.bp ∧ (goByKelvin n s).boxes = s.boxes ∧ (goByKelvin n s).links = s.links ∧
    (goByKelvin n s).tie = s.tie ∧ (goByKelvin n s).wdg = s.wdg ∧ (goByKelvin n s).bbx = s.bbx ∧ (goByKelvin n s).fw
    = s.fw ∧ (goByKelvin n s).rcp = s.rcp ∧ (goByKelvin n s).perf = s.perf ∧ (goByKelvin n s).mon = s.mon ∧
    (goByKelvin n s).stored = s.stored ∧ (goByKelvin n s).bells = s.bells ∧ (goByKelvin n s).taken = s.taken ∧
    (goByKelvin n s).held = s.held ∧ (goByKelvin n s).free = s.free ∧ (goByKelvin n s).pending = s.pending := by
  unfold goByKelvin; simp

/-- `toKeep` changes no other part than `taps`, `alr`, `bus`. -/
@[simp] theorem toKeep_keeps (n : Fin 32) (s : State) :
    (toKeep n s).sys = s.sys ∧ (toKeep n s).ports = s.ports ∧ (toKeep n s).hub = s.hub ∧ (toKeep n s).shown =
    s.shown ∧ (toKeep n s).arb = s.arb ∧ (toKeep n s).mtr = s.mtr ∧ (toKeep n s).ctrs = s.ctrs ∧ (toKeep n s).pour =
    s.pour ∧ (toKeep n s).vsel = s.vsel ∧ (toKeep n s).mbx = s.mbx ∧ (toKeep n s).monAnswer = s.monAnswer ∧
    (toKeep n s).ownAnswer = s.ownAnswer ∧ (toKeep n s).bp = s.bp ∧ (toKeep n s).boxes = s.boxes ∧
    (toKeep n s).links = s.links ∧ (toKeep n s).tie = s.tie ∧ (toKeep n s).wdg = s.wdg ∧ (toKeep n s).bbx = s.bbx ∧
    (toKeep n s).fw = s.fw ∧ (toKeep n s).rcp = s.rcp ∧ (toKeep n s).perf = s.perf ∧ (toKeep n s).mon = s.mon ∧
    (toKeep n s).stored = s.stored ∧ (toKeep n s).bells = s.bells ∧ (toKeep n s).taken = s.taken ∧ (toKeep n s).held
    = s.held ∧ (toKeep n s).free = s.free ∧ (toKeep n s).pending = s.pending := by
  unfold toKeep; split <;> simp

/-- `returnTo` changes no other part than `taps`. -/
@[simp] theorem returnTo_keeps (n : Fin 32) (st : TapState) (cause : Nat) (s : State) :
    (returnTo n st cause s).sys = s.sys ∧ (returnTo n st cause s).ports = s.ports ∧ (returnTo n st cause s).hub =
    s.hub ∧ (returnTo n st cause s).shown = s.shown ∧ (returnTo n st cause s).arb = s.arb ∧
    (returnTo n st cause s).mtr = s.mtr ∧ (returnTo n st cause s).ctrs = s.ctrs ∧ (returnTo n st cause s).alr =
    s.alr ∧ (returnTo n st cause s).pour = s.pour ∧ (returnTo n st cause s).vsel = s.vsel ∧
    (returnTo n st cause s).bus = s.bus ∧ (returnTo n st cause s).mbx = s.mbx ∧ (returnTo n st cause s).monAnswer =
    s.monAnswer ∧ (returnTo n st cause s).ownAnswer = s.ownAnswer ∧ (returnTo n st cause s).bp = s.bp ∧
    (returnTo n st cause s).boxes = s.boxes ∧ (returnTo n st cause s).links = s.links ∧ (returnTo n st cause s).tie
    = s.tie ∧ (returnTo n st cause s).wdg = s.wdg ∧ (returnTo n st cause s).bbx = s.bbx ∧ (returnTo n st cause s).fw
    = s.fw ∧ (returnTo n st cause s).rcp = s.rcp ∧ (returnTo n st cause s).perf = s.perf ∧
    (returnTo n st cause s).mon = s.mon ∧ (returnTo n st cause s).stored = s.stored ∧ (returnTo n st cause s).bells
    = s.bells ∧ (returnTo n st cause s).taken = s.taken ∧ (returnTo n st cause s).held = s.held ∧
    (returnTo n st cause s).free = s.free ∧ (returnTo n st cause s).pending = s.pending := by
  unfold returnTo; dsimp only; (repeat' split) <;> simp

/-- `toStandIn` changes no other part than `taps`, `alr`, `bus`. -/
@[simp] theorem toStandIn_keeps (n : Fin 32) (s : State) :
    (toStandIn n s).sys = s.sys ∧ (toStandIn n s).ports = s.ports ∧ (toStandIn n s).hub = s.hub ∧
    (toStandIn n s).shown = s.shown ∧ (toStandIn n s).arb = s.arb ∧ (toStandIn n s).mtr = s.mtr ∧
    (toStandIn n s).ctrs = s.ctrs ∧ (toStandIn n s).pour = s.pour ∧ (toStandIn n s).vsel = s.vsel ∧
    (toStandIn n s).mbx = s.mbx ∧ (toStandIn n s).monAnswer = s.monAnswer ∧ (toStandIn n s).ownAnswer = s.ownAnswer
    ∧ (toStandIn n s).bp = s.bp ∧ (toStandIn n s).boxes = s.boxes ∧ (toStandIn n s).links = s.links ∧
    (toStandIn n s).tie = s.tie ∧ (toStandIn n s).wdg = s.wdg ∧ (toStandIn n s).bbx = s.bbx ∧ (toStandIn n s).fw =
    s.fw ∧ (toStandIn n s).rcp = s.rcp ∧ (toStandIn n s).perf = s.perf ∧ (toStandIn n s).mon = s.mon ∧
    (toStandIn n s).stored = s.stored ∧ (toStandIn n s).bells = s.bells ∧ (toStandIn n s).taken = s.taken ∧
    (toStandIn n s).held = s.held ∧ (toStandIn n s).free = s.free ∧ (toStandIn n s).pending = s.pending := by
  unfold toStandIn; simp

@[simp] theorem toStandIn_taps_cfg (n : Fin 32) (s : State) (m : Fin 32) :
    (toStandIn n s).taps[m.val].cfg = s.taps[m.val].cfg := by unfold toStandIn; simp; split <;> simp_all

@[simp] theorem toStandIn_taps_desc (n : Fin 32) (s : State) (m : Fin 32) :
    (toStandIn n s).taps[m.val].desc = s.taps[m.val].desc := by unfold toStandIn; simp; split <;> simp_all

/-- `toAbsent` changes no other part than `taps`. -/
@[simp] theorem toAbsent_keeps (n : Fin 32) (s : State) :
    (toAbsent n s).sys = s.sys ∧ (toAbsent n s).ports = s.ports ∧ (toAbsent n s).hub = s.hub ∧ (toAbsent n s).shown
    = s.shown ∧ (toAbsent n s).arb = s.arb ∧ (toAbsent n s).mtr = s.mtr ∧ (toAbsent n s).ctrs = s.ctrs ∧
    (toAbsent n s).alr = s.alr ∧ (toAbsent n s).pour = s.pour ∧ (toAbsent n s).vsel = s.vsel ∧ (toAbsent n s).bus =
    s.bus ∧ (toAbsent n s).mbx = s.mbx ∧ (toAbsent n s).monAnswer = s.monAnswer ∧ (toAbsent n s).ownAnswer =
    s.ownAnswer ∧ (toAbsent n s).bp = s.bp ∧ (toAbsent n s).boxes = s.boxes ∧ (toAbsent n s).links = s.links ∧
    (toAbsent n s).tie = s.tie ∧ (toAbsent n s).wdg = s.wdg ∧ (toAbsent n s).bbx = s.bbx ∧ (toAbsent n s).fw = s.fw
    ∧ (toAbsent n s).rcp = s.rcp ∧ (toAbsent n s).perf = s.perf ∧ (toAbsent n s).mon = s.mon ∧ (toAbsent n s).stored
    = s.stored ∧ (toAbsent n s).bells = s.bells ∧ (toAbsent n s).taken = s.taken ∧ (toAbsent n s).held = s.held ∧
    (toAbsent n s).free = s.free ∧ (toAbsent n s).pending = s.pending := by
  unfold toAbsent; simp

/-- `leaveRunTap` changes no other part than `taps`, `alr`, `bus`. -/
@[simp] theorem leaveRunTap_keeps (n : Fin 32) (s : State) :
    (leaveRunTap n s).sys = s.sys ∧ (leaveRunTap n s).ports = s.ports ∧ (leaveRunTap n s).hub = s.hub ∧
    (leaveRunTap n s).shown = s.shown ∧ (leaveRunTap n s).arb = s.arb ∧ (leaveRunTap n s).mtr = s.mtr ∧
    (leaveRunTap n s).ctrs = s.ctrs ∧ (leaveRunTap n s).pour = s.pour ∧ (leaveRunTap n s).vsel = s.vsel ∧
    (leaveRunTap n s).mbx = s.mbx ∧ (leaveRunTap n s).monAnswer = s.monAnswer ∧ (leaveRunTap n s).ownAnswer =
    s.ownAnswer ∧ (leaveRunTap n s).bp = s.bp ∧ (leaveRunTap n s).boxes = s.boxes ∧ (leaveRunTap n s).links =
    s.links ∧ (leaveRunTap n s).tie = s.tie ∧ (leaveRunTap n s).wdg = s.wdg ∧ (leaveRunTap n s).bbx = s.bbx ∧
    (leaveRunTap n s).fw = s.fw ∧ (leaveRunTap n s).rcp = s.rcp ∧ (leaveRunTap n s).perf = s.perf ∧
    (leaveRunTap n s).mon = s.mon ∧ (leaveRunTap n s).stored = s.stored ∧ (leaveRunTap n s).bells = s.bells ∧
    (leaveRunTap n s).taken = s.taken ∧ (leaveRunTap n s).held = s.held ∧ (leaveRunTap n s).free = s.free ∧
    (leaveRunTap n s).pending = s.pending := by
  unfold leaveRunTap; dsimp only; (repeat' split) <;> simp

/-- `leaveRun` changes no other part than `taps`, `alr`, `bus`. -/
@[simp] theorem leaveRun_keeps (s : State) :
    (leaveRun s).sys = s.sys ∧ (leaveRun s).ports = s.ports ∧ (leaveRun s).hub = s.hub ∧ (leaveRun s).shown =
    s.shown ∧ (leaveRun s).arb = s.arb ∧ (leaveRun s).mtr = s.mtr ∧ (leaveRun s).ctrs = s.ctrs ∧ (leaveRun s).pour =
    s.pour ∧ (leaveRun s).vsel = s.vsel ∧ (leaveRun s).mbx = s.mbx ∧ (leaveRun s).monAnswer = s.monAnswer ∧
    (leaveRun s).ownAnswer = s.ownAnswer ∧ (leaveRun s).bp = s.bp ∧ (leaveRun s).boxes = s.boxes ∧
    (leaveRun s).links = s.links ∧ (leaveRun s).tie = s.tie ∧ (leaveRun s).wdg = s.wdg ∧ (leaveRun s).bbx = s.bbx ∧
    (leaveRun s).fw = s.fw ∧ (leaveRun s).rcp = s.rcp ∧ (leaveRun s).perf = s.perf ∧ (leaveRun s).mon = s.mon ∧
    (leaveRun s).stored = s.stored ∧ (leaveRun s).bells = s.bells ∧ (leaveRun s).taken = s.taken ∧ (leaveRun s).held
    = s.held ∧ (leaveRun s).free = s.free ∧ (leaveRun s).pending = s.pending := by
  unfold leaveRun
  split
  · exact ⟨
    foldFin_keeps (fun t : State => t.sys) _ (fun _ _ => by simp) _,
    foldFin_keeps (fun t : State => t.ports) _ (fun _ _ => by simp) _,
    foldFin_keeps (fun t : State => t.hub) _ (fun _ _ => by simp) _,
    foldFin_keeps (fun t : State => t.shown) _ (fun _ _ => by simp) _,
    foldFin_keeps (fun t : State => t.arb) _ (fun _ _ => by simp) _,
    foldFin_keeps (fun t : State => t.mtr) _ (fun _ _ => by simp) _,
    foldFin_keeps (fun t : State => t.ctrs) _ (fun _ _ => by simp) _,
    foldFin_keeps (fun t : State => t.pour) _ (fun _ _ => by simp) _,
    foldFin_keeps (fun t : State => t.vsel) _ (fun _ _ => by simp) _,
    foldFin_keeps (fun t : State => t.mbx) _ (fun _ _ => by simp) _,
    foldFin_keeps (fun t : State => t.monAnswer) _ (fun _ _ => by simp) _,
    foldFin_keeps (fun t : State => t.ownAnswer) _ (fun _ _ => by simp) _,
    foldFin_keeps (fun t : State => t.bp) _ (fun _ _ => by simp) _,
    foldFin_keeps (fun t : State => t.boxes) _ (fun _ _ => by simp) _,
    foldFin_keeps (fun t : State => t.links) _ (fun _ _ => by simp) _,
    foldFin_keeps (fun t : State => t.tie) _ (fun _ _ => by simp) _,
    foldFin_keeps (fun t : State => t.wdg) _ (fun _ _ => by simp) _,
    foldFin_keeps (fun t : State => t.bbx) _ (fun _ _ => by simp) _,
    foldFin_keeps (fun t : State => t.fw) _ (fun _ _ => by simp) _,
    foldFin_keeps (fun t : State => t.rcp) _ (fun _ _ => by simp) _,
    foldFin_keeps (fun t : State => t.perf) _ (fun _ _ => by simp) _,
    foldFin_keeps (fun t : State => t.mon) _ (fun _ _ => by simp) _,
    foldFin_keeps (fun t : State => t.stored) _ (fun _ _ => by simp) _,
    foldFin_keeps (fun t : State => t.bells) _ (fun _ _ => by simp) _,
    foldFin_keeps (fun t : State => t.taken) _ (fun _ _ => by simp) _,
    foldFin_keeps (fun t : State => t.held) _ (fun _ _ => by simp) _,
    foldFin_keeps (fun t : State => t.free) _ (fun _ _ => by simp) _,
    foldFin_keeps (fun t : State => t.pending) _ (fun _ _ => by simp) _⟩
  · simp

/-- `disablePorts` changes no other part than `ports`. -/
@[simp] theorem disablePorts_keeps (s : State) :
    (disablePorts s).sys = s.sys ∧ (disablePorts s).hub = s.hub ∧ (disablePorts s).taps = s.taps ∧
    (disablePorts s).shown = s.shown ∧ (disablePorts s).arb = s.arb ∧ (disablePorts s).mtr = s.mtr ∧
    (disablePorts s).ctrs = s.ctrs ∧ (disablePorts s).alr = s.alr ∧ (disablePorts s).pour = s.pour ∧
    (disablePorts s).vsel = s.vsel ∧ (disablePorts s).bus = s.bus ∧ (disablePorts s).mbx = s.mbx ∧
    (disablePorts s).monAnswer = s.monAnswer ∧ (disablePorts s).ownAnswer = s.ownAnswer ∧ (disablePorts s).bp = s.bp
    ∧ (disablePorts s).boxes = s.boxes ∧ (disablePorts s).links = s.links ∧ (disablePorts s).tie = s.tie ∧
    (disablePorts s).wdg = s.wdg ∧ (disablePorts s).bbx = s.bbx ∧ (disablePorts s).fw = s.fw ∧ (disablePorts s).rcp
    = s.rcp ∧ (disablePorts s).perf = s.perf ∧ (disablePorts s).mon = s.mon ∧ (disablePorts s).stored = s.stored ∧
    (disablePorts s).bells = s.bells ∧ (disablePorts s).taken = s.taken ∧ (disablePorts s).held = s.held ∧
    (disablePorts s).free = s.free ∧ (disablePorts s).pending = s.pending := by
  unfold disablePorts; simp

/-- `bypStandIns` changes no other part than `taps`. -/
@[simp] theorem bypStandIns_keeps (s : State) :
    (bypStandIns s).sys = s.sys ∧ (bypStandIns s).ports = s.ports ∧ (bypStandIns s).hub = s.hub ∧
    (bypStandIns s).shown = s.shown ∧ (bypStandIns s).arb = s.arb ∧ (bypStandIns s).mtr = s.mtr ∧
    (bypStandIns s).ctrs = s.ctrs ∧ (bypStandIns s).alr = s.alr ∧ (bypStandIns s).pour = s.pour ∧
    (bypStandIns s).vsel = s.vsel ∧ (bypStandIns s).bus = s.bus ∧ (bypStandIns s).mbx = s.mbx ∧
    (bypStandIns s).monAnswer = s.monAnswer ∧ (bypStandIns s).ownAnswer = s.ownAnswer ∧ (bypStandIns s).bp = s.bp ∧
    (bypStandIns s).boxes = s.boxes ∧ (bypStandIns s).links = s.links ∧ (bypStandIns s).tie = s.tie ∧
    (bypStandIns s).wdg = s.wdg ∧ (bypStandIns s).bbx = s.bbx ∧ (bypStandIns s).fw = s.fw ∧ (bypStandIns s).rcp =
    s.rcp ∧ (bypStandIns s).perf = s.perf ∧ (bypStandIns s).mon = s.mon ∧ (bypStandIns s).stored = s.stored ∧
    (bypStandIns s).bells = s.bells ∧ (bypStandIns s).taken = s.taken ∧ (bypStandIns s).held = s.held ∧
    (bypStandIns s).free = s.free ∧ (bypStandIns s).pending = s.pending := by
  unfold bypStandIns; simp

@[simp] theorem bypStandIns_taps_cfg  (s : State) (m : Fin 32) :
    (bypStandIns s).taps[m.val].cfg = s.taps[m.val].cfg := by unfold bypStandIns; simp; split <;> simp_all

@[simp] theorem bypStandIns_taps_desc  (s : State) (m : Fin 32) :
    (bypStandIns s).taps[m.val].desc = s.taps[m.val].desc := by unfold bypStandIns; simp; split <;> simp_all

/-- `handOver` changes no other part than `hub`, `taps`. -/
@[simp] theorem handOver_keeps (was : Bool) (s : State) :
    (handOver was s).sys = s.sys ∧ (handOver was s).ports = s.ports ∧ (handOver was s).shown = s.shown ∧
    (handOver was s).arb = s.arb ∧ (handOver was s).mtr = s.mtr ∧ (handOver was s).ctrs = s.ctrs ∧
    (handOver was s).alr = s.alr ∧ (handOver was s).pour = s.pour ∧ (handOver was s).vsel = s.vsel ∧
    (handOver was s).bus = s.bus ∧ (handOver was s).mbx = s.mbx ∧ (handOver was s).monAnswer = s.monAnswer ∧
    (handOver was s).ownAnswer = s.ownAnswer ∧ (handOver was s).bp = s.bp ∧ (handOver was s).boxes = s.boxes ∧
    (handOver was s).links = s.links ∧ (handOver was s).tie = s.tie ∧ (handOver was s).wdg = s.wdg ∧
    (handOver was s).bbx = s.bbx ∧ (handOver was s).fw = s.fw ∧ (handOver was s).rcp = s.rcp ∧ (handOver was s).perf
    = s.perf ∧ (handOver was s).mon = s.mon ∧ (handOver was s).stored = s.stored ∧ (handOver was s).bells = s.bells
    ∧ (handOver was s).taken = s.taken ∧ (handOver was s).held = s.held ∧ (handOver was s).free = s.free ∧
    (handOver was s).pending = s.pending := by
  unfold handOver; (repeat' split) <;> simp

/-- `changePort` changes no other part than `hub`, `ports`, `taps`. -/
@[simp] theorem changePort_keeps (x : Fin 4) (f : Port → Port) (s : State) :
    (changePort x f s).sys = s.sys ∧ (changePort x f s).shown = s.shown ∧ (changePort x f s).arb = s.arb ∧
    (changePort x f s).mtr = s.mtr ∧ (changePort x f s).ctrs = s.ctrs ∧ (changePort x f s).alr = s.alr ∧
    (changePort x f s).pour = s.pour ∧ (changePort x f s).vsel = s.vsel ∧ (changePort x f s).bus = s.bus ∧
    (changePort x f s).mbx = s.mbx ∧ (changePort x f s).monAnswer = s.monAnswer ∧ (changePort x f s).ownAnswer =
    s.ownAnswer ∧ (changePort x f s).bp = s.bp ∧ (changePort x f s).boxes = s.boxes ∧ (changePort x f s).links =
    s.links ∧ (changePort x f s).tie = s.tie ∧ (changePort x f s).wdg = s.wdg ∧ (changePort x f s).bbx = s.bbx ∧
    (changePort x f s).fw = s.fw ∧ (changePort x f s).rcp = s.rcp ∧ (changePort x f s).perf = s.perf ∧
    (changePort x f s).mon = s.mon ∧ (changePort x f s).stored = s.stored ∧ (changePort x f s).bells = s.bells ∧
    (changePort x f s).taken = s.taken ∧ (changePort x f s).held = s.held ∧ (changePort x f s).free = s.free ∧
    (changePort x f s).pending = s.pending := by
  unfold changePort; simp

/-- `send` changes no other part than `links`. -/
@[simp] theorem send_keeps (x : Fin 4) (m : TxMsg) (s : State) :
    (send x m s).sys = s.sys ∧ (send x m s).ports = s.ports ∧ (send x m s).hub = s.hub ∧ (send x m s).taps = s.taps
    ∧ (send x m s).shown = s.shown ∧ (send x m s).arb = s.arb ∧ (send x m s).mtr = s.mtr ∧ (send x m s).ctrs =
    s.ctrs ∧ (send x m s).alr = s.alr ∧ (send x m s).pour = s.pour ∧ (send x m s).vsel = s.vsel ∧ (send x m s).bus =
    s.bus ∧ (send x m s).mbx = s.mbx ∧ (send x m s).monAnswer = s.monAnswer ∧ (send x m s).ownAnswer = s.ownAnswer ∧
    (send x m s).bp = s.bp ∧ (send x m s).boxes = s.boxes ∧ (send x m s).tie = s.tie ∧ (send x m s).wdg = s.wdg ∧
    (send x m s).bbx = s.bbx ∧ (send x m s).fw = s.fw ∧ (send x m s).rcp = s.rcp ∧ (send x m s).perf = s.perf ∧
    (send x m s).mon = s.mon ∧ (send x m s).stored = s.stored ∧ (send x m s).bells = s.bells ∧ (send x m s).taken =
    s.taken ∧ (send x m s).held = s.held ∧ (send x m s).free = s.free ∧ (send x m s).pending = s.pending := by
  unfold send; simp

/-- `linkRecord` changes no other part than `bbx`. -/
@[simp] theorem linkRecord_keeps (x : Fin 4) (ev cause : Nat) (s : State) :
    (linkRecord x ev cause s).sys = s.sys ∧ (linkRecord x ev cause s).ports = s.ports ∧
    (linkRecord x ev cause s).hub = s.hub ∧ (linkRecord x ev cause s).taps = s.taps ∧
    (linkRecord x ev cause s).shown = s.shown ∧ (linkRecord x ev cause s).arb = s.arb ∧
    (linkRecord x ev cause s).mtr = s.mtr ∧ (linkRecord x ev cause s).ctrs = s.ctrs ∧ (linkRecord x ev cause s).alr
    = s.alr ∧ (linkRecord x ev cause s).pour = s.pour ∧ (linkRecord x ev cause s).vsel = s.vsel ∧
    (linkRecord x ev cause s).bus = s.bus ∧ (linkRecord x ev cause s).mbx = s.mbx ∧
    (linkRecord x ev cause s).monAnswer = s.monAnswer ∧ (linkRecord x ev cause s).ownAnswer = s.ownAnswer ∧
    (linkRecord x ev cause s).bp = s.bp ∧ (linkRecord x ev cause s).boxes = s.boxes ∧
    (linkRecord x ev cause s).links = s.links ∧ (linkRecord x ev cause s).tie = s.tie ∧
    (linkRecord x ev cause s).wdg = s.wdg ∧ (linkRecord x ev cause s).fw = s.fw ∧ (linkRecord x ev cause s).rcp =
    s.rcp ∧ (linkRecord x ev cause s).perf = s.perf ∧ (linkRecord x ev cause s).mon = s.mon ∧
    (linkRecord x ev cause s).stored = s.stored ∧ (linkRecord x ev cause s).bells = s.bells ∧
    (linkRecord x ev cause s).taken = s.taken ∧ (linkRecord x ev cause s).held = s.held ∧
    (linkRecord x ev cause s).free = s.free ∧ (linkRecord x ev cause s).pending = s.pending := by
  unfold linkRecord; simp

@[simp] theorem linkRecord_bbx_ring (x : Fin 4) (ev cause : Nat) (s : State) :
    (linkRecord x ev cause s).bbx.ring = s.bbx.ring := by unfold linkRecord; simp

@[simp] theorem linkRecord_bbx_snaps (x : Fin 4) (ev cause : Nat) (s : State) :
    (linkRecord x ev cause s).bbx.snaps = s.bbx.snaps := by unfold linkRecord; simp

@[simp] theorem linkRecord_bbx_hist (x : Fin 4) (ev cause : Nat) (s : State) :
    (linkRecord x ev cause s).bbx.hist = s.bbx.hist := by unfold linkRecord; simp

/-- `voidLink` changes no other part than `links`, `bbx`, `tie`, `hub`, `ports`, `taps`, `alr`, `bus`. -/
@[simp] theorem voidLink_keeps (x : Fin 4) (cause : Nat) (tell : Bool) (s : State) :
    (voidLink x cause tell s).sys = s.sys ∧ (voidLink x cause tell s).shown = s.shown ∧
    (voidLink x cause tell s).arb = s.arb ∧ (voidLink x cause tell s).mtr = s.mtr ∧ (voidLink x cause tell s).ctrs =
    s.ctrs ∧ (voidLink x cause tell s).pour = s.pour ∧ (voidLink x cause tell s).vsel = s.vsel ∧
    (voidLink x cause tell s).mbx = s.mbx ∧ (voidLink x cause tell s).monAnswer = s.monAnswer ∧
    (voidLink x cause tell s).ownAnswer = s.ownAnswer ∧ (voidLink x cause tell s).bp = s.bp ∧
    (voidLink x cause tell s).boxes = s.boxes ∧ (voidLink x cause tell s).wdg = s.wdg ∧ (voidLink x cause tell s).fw
    = s.fw ∧ (voidLink x cause tell s).rcp = s.rcp ∧ (voidLink x cause tell s).perf = s.perf ∧
    (voidLink x cause tell s).mon = s.mon ∧ (voidLink x cause tell s).stored = s.stored ∧
    (voidLink x cause tell s).bells = s.bells ∧ (voidLink x cause tell s).taken = s.taken ∧
    (voidLink x cause tell s).held = s.held ∧ (voidLink x cause tell s).free = s.free ∧
    (voidLink x cause tell s).pending = s.pending := by
  unfold voidLink; dsimp only; (repeat' split) <;> simp

/-- `dropTie` changes no other part than `links`, `bbx`, `tie`, `hub`, `ports`, `taps`, `alr`, `bus`. -/
@[simp] theorem dropTie_keeps (s : State) :
    (dropTie s).sys = s.sys ∧ (dropTie s).shown = s.shown ∧ (dropTie s).arb = s.arb ∧ (dropTie s).mtr = s.mtr ∧
    (dropTie s).ctrs = s.ctrs ∧ (dropTie s).pour = s.pour ∧ (dropTie s).vsel = s.vsel ∧ (dropTie s).mbx = s.mbx ∧
    (dropTie s).monAnswer = s.monAnswer ∧ (dropTie s).ownAnswer = s.ownAnswer ∧ (dropTie s).bp = s.bp ∧
    (dropTie s).boxes = s.boxes ∧ (dropTie s).wdg = s.wdg ∧ (dropTie s).fw = s.fw ∧ (dropTie s).rcp = s.rcp ∧
    (dropTie s).perf = s.perf ∧ (dropTie s).mon = s.mon ∧ (dropTie s).stored = s.stored ∧ (dropTie s).bells =
    s.bells ∧ (dropTie s).taken = s.taken ∧ (dropTie s).held = s.held ∧ (dropTie s).free = s.free ∧
    (dropTie s).pending = s.pending := by
  unfold dropTie; dsimp only; (repeat' split) <;> simp

/-- `answer` changes no other part than `mbx`, `monAnswer`, `ownAnswer`. -/
@[simp] theorem answer_keeps (via : Via) (code : Nat) (res : List Word) (s : State) :
    (answer via code res s).sys = s.sys ∧ (answer via code res s).ports = s.ports ∧ (answer via code res s).hub =
    s.hub ∧ (answer via code res s).taps = s.taps ∧ (answer via code res s).shown = s.shown ∧
    (answer via code res s).arb = s.arb ∧ (answer via code res s).mtr = s.mtr ∧ (answer via code res s).ctrs =
    s.ctrs ∧ (answer via code res s).alr = s.alr ∧ (answer via code res s).pour = s.pour ∧
    (answer via code res s).vsel = s.vsel ∧ (answer via code res s).bus = s.bus ∧ (answer via code res s).bp = s.bp
    ∧ (answer via code res s).boxes = s.boxes ∧ (answer via code res s).links = s.links ∧
    (answer via code res s).tie = s.tie ∧ (answer via code res s).wdg = s.wdg ∧ (answer via code res s).bbx = s.bbx
    ∧ (answer via code res s).fw = s.fw ∧ (answer via code res s).rcp = s.rcp ∧ (answer via code res s).perf =
    s.perf ∧ (answer via code res s).mon = s.mon ∧ (answer via code res s).stored = s.stored ∧
    (answer via code res s).bells = s.bells ∧ (answer via code res s).taken = s.taken ∧ (answer via code res s).held
    = s.held ∧ (answer via code res s).free = s.free ∧ (answer via code res s).pending = s.pending := by
  unfold answer; split <;> simp

/-- `answerOpt` changes no other part than `mbx`, `monAnswer`, `ownAnswer`. -/
@[simp] theorem answerOpt_keeps (via : Option Via) (code : Nat) (res : List Word) (s : State) :
    (answerOpt via code res s).sys = s.sys ∧ (answerOpt via code res s).ports = s.ports ∧
    (answerOpt via code res s).hub = s.hub ∧ (answerOpt via code res s).taps = s.taps ∧
    (answerOpt via code res s).shown = s.shown ∧ (answerOpt via code res s).arb = s.arb ∧
    (answerOpt via code res s).mtr = s.mtr ∧ (answerOpt via code res s).ctrs = s.ctrs ∧
    (answerOpt via code res s).alr = s.alr ∧ (answerOpt via code res s).pour = s.pour ∧
    (answerOpt via code res s).vsel = s.vsel ∧ (answerOpt via code res s).bus = s.bus ∧
    (answerOpt via code res s).bp = s.bp ∧ (answerOpt via code res s).boxes = s.boxes ∧
    (answerOpt via code res s).links = s.links ∧ (answerOpt via code res s).tie = s.tie ∧
    (answerOpt via code res s).wdg = s.wdg ∧ (answerOpt via code res s).bbx = s.bbx ∧ (answerOpt via code res s).fw
    = s.fw ∧ (answerOpt via code res s).rcp = s.rcp ∧ (answerOpt via code res s).perf = s.perf ∧
    (answerOpt via code res s).mon = s.mon ∧ (answerOpt via code res s).stored = s.stored ∧
    (answerOpt via code res s).bells = s.bells ∧ (answerOpt via code res s).taken = s.taken ∧
    (answerOpt via code res s).held = s.held ∧ (answerOpt via code res s).free = s.free ∧
    (answerOpt via code res s).pending = s.pending := by
  unfold answerOpt; split <;> simp

/-- `pourEnd` changes no other part than `mbx`, `monAnswer`, `ownAnswer`, `bbx`, `vsel`, `pour`. -/
@[simp] theorem pourEnd_keeps (result : Nat) (veto : Bool) (s : State) :
    (pourEnd result veto s).sys = s.sys ∧ (pourEnd result veto s).ports = s.ports ∧ (pourEnd result veto s).hub =
    s.hub ∧ (pourEnd result veto s).taps = s.taps ∧ (pourEnd result veto s).shown = s.shown ∧
    (pourEnd result veto s).arb = s.arb ∧ (pourEnd result veto s).mtr = s.mtr ∧ (pourEnd result veto s).ctrs =
    s.ctrs ∧ (pourEnd result veto s).alr = s.alr ∧ (pourEnd result veto s).bus = s.bus ∧ (pourEnd result veto s).bp
    = s.bp ∧ (pourEnd result veto s).boxes = s.boxes ∧ (pourEnd result veto s).links = s.links ∧
    (pourEnd result veto s).tie = s.tie ∧ (pourEnd result veto s).wdg = s.wdg ∧ (pourEnd result veto s).fw = s.fw ∧
    (pourEnd result veto s).rcp = s.rcp ∧ (pourEnd result veto s).perf = s.perf ∧ (pourEnd result veto s).mon =
    s.mon ∧ (pourEnd result veto s).stored = s.stored ∧ (pourEnd result veto s).bells = s.bells ∧
    (pourEnd result veto s).taken = s.taken ∧ (pourEnd result veto s).held = s.held ∧ (pourEnd result veto s).free =
    s.free ∧ (pourEnd result veto s).pending = s.pending := by
  unfold pourEnd; dsimp only; (repeat' split) <;> simp

/-- `pourAbort` changes no other part than `mbx`, `monAnswer`, `ownAnswer`, `bbx`, `vsel`, `pour`. -/
@[simp] theorem pourAbort_keeps (s : State) :
    (pourAbort s).sys = s.sys ∧ (pourAbort s).ports = s.ports ∧ (pourAbort s).hub = s.hub ∧ (pourAbort s).taps =
    s.taps ∧ (pourAbort s).shown = s.shown ∧ (pourAbort s).arb = s.arb ∧ (pourAbort s).mtr = s.mtr ∧
    (pourAbort s).ctrs = s.ctrs ∧ (pourAbort s).alr = s.alr ∧ (pourAbort s).bus = s.bus ∧ (pourAbort s).bp = s.bp ∧
    (pourAbort s).boxes = s.boxes ∧ (pourAbort s).links = s.links ∧ (pourAbort s).tie = s.tie ∧ (pourAbort s).wdg =
    s.wdg ∧ (pourAbort s).fw = s.fw ∧ (pourAbort s).rcp = s.rcp ∧ (pourAbort s).perf = s.perf ∧ (pourAbort s).mon =
    s.mon ∧ (pourAbort s).stored = s.stored ∧ (pourAbort s).bells = s.bells ∧ (pourAbort s).taken = s.taken ∧
    (pourAbort s).held = s.held ∧ (pourAbort s).free = s.free ∧ (pourAbort s).pending = s.pending := by
  unfold pourAbort; simp

/-- `rcpRelease` changes no other part than `taps`. -/
@[simp] theorem rcpRelease_keeps (n : Fin 32) (s : State) :
    (rcpRelease n s).sys = s.sys ∧ (rcpRelease n s).ports = s.ports ∧ (rcpRelease n s).hub = s.hub ∧
    (rcpRelease n s).shown = s.shown ∧ (rcpRelease n s).arb = s.arb ∧ (rcpRelease n s).mtr = s.mtr ∧
    (rcpRelease n s).ctrs = s.ctrs ∧ (rcpRelease n s).alr = s.alr ∧ (rcpRelease n s).pour = s.pour ∧
    (rcpRelease n s).vsel = s.vsel ∧ (rcpRelease n s).bus = s.bus ∧ (rcpRelease n s).mbx = s.mbx ∧
    (rcpRelease n s).monAnswer = s.monAnswer ∧ (rcpRelease n s).ownAnswer = s.ownAnswer ∧ (rcpRelease n s).bp = s.bp
    ∧ (rcpRelease n s).boxes = s.boxes ∧ (rcpRelease n s).links = s.links ∧ (rcpRelease n s).tie = s.tie ∧
    (rcpRelease n s).wdg = s.wdg ∧ (rcpRelease n s).bbx = s.bbx ∧ (rcpRelease n s).fw = s.fw ∧ (rcpRelease n s).rcp
    = s.rcp ∧ (rcpRelease n s).perf = s.perf ∧ (rcpRelease n s).mon = s.mon ∧ (rcpRelease n s).stored = s.stored ∧
    (rcpRelease n s).bells = s.bells ∧ (rcpRelease n s).taken = s.taken ∧ (rcpRelease n s).held = s.held ∧
    (rcpRelease n s).free = s.free ∧ (rcpRelease n s).pending = s.pending := by
  unfold rcpRelease; dsimp only; split <;> simp

/-- `rcpWithdraw` changes no other part than `taps`. -/
@[simp] theorem rcpWithdraw_keeps (s : State) :
    (rcpWithdraw s).sys = s.sys ∧ (rcpWithdraw s).ports = s.ports ∧ (rcpWithdraw s).hub = s.hub ∧
    (rcpWithdraw s).shown = s.shown ∧ (rcpWithdraw s).arb = s.arb ∧ (rcpWithdraw s).mtr = s.mtr ∧
    (rcpWithdraw s).ctrs = s.ctrs ∧ (rcpWithdraw s).alr = s.alr ∧ (rcpWithdraw s).pour = s.pour ∧
    (rcpWithdraw s).vsel = s.vsel ∧ (rcpWithdraw s).bus = s.bus ∧ (rcpWithdraw s).mbx = s.mbx ∧
    (rcpWithdraw s).monAnswer = s.monAnswer ∧ (rcpWithdraw s).ownAnswer = s.ownAnswer ∧ (rcpWithdraw s).bp = s.bp ∧
    (rcpWithdraw s).boxes = s.boxes ∧ (rcpWithdraw s).links = s.links ∧ (rcpWithdraw s).tie = s.tie ∧
    (rcpWithdraw s).wdg = s.wdg ∧ (rcpWithdraw s).bbx = s.bbx ∧ (rcpWithdraw s).fw = s.fw ∧ (rcpWithdraw s).rcp =
    s.rcp ∧ (rcpWithdraw s).perf = s.perf ∧ (rcpWithdraw s).mon = s.mon ∧ (rcpWithdraw s).stored = s.stored ∧
    (rcpWithdraw s).bells = s.bells ∧ (rcpWithdraw s).taken = s.taken ∧ (rcpWithdraw s).held = s.held ∧
    (rcpWithdraw s).free = s.free ∧ (rcpWithdraw s).pending = s.pending := by
  unfold rcpWithdraw
  exact ⟨
    foldFin_keeps (fun t : State => t.sys) _ (fun _ _ => by simp) _,
    foldFin_keeps (fun t : State => t.ports) _ (fun _ _ => by simp) _,
    foldFin_keeps (fun t : State => t.hub) _ (fun _ _ => by simp) _,
    foldFin_keeps (fun t : State => t.shown) _ (fun _ _ => by simp) _,
    foldFin_keeps (fun t : State => t.arb) _ (fun _ _ => by simp) _,
    foldFin_keeps (fun t : State => t.mtr) _ (fun _ _ => by simp) _,
    foldFin_keeps (fun t : State => t.ctrs) _ (fun _ _ => by simp) _,
    foldFin_keeps (fun t : State => t.alr) _ (fun _ _ => by simp) _,
    foldFin_keeps (fun t : State => t.pour) _ (fun _ _ => by simp) _,
    foldFin_keeps (fun t : State => t.vsel) _ (fun _ _ => by simp) _,
    foldFin_keeps (fun t : State => t.bus) _ (fun _ _ => by simp) _,
    foldFin_keeps (fun t : State => t.mbx) _ (fun _ _ => by simp) _,
    foldFin_keeps (fun t : State => t.monAnswer) _ (fun _ _ => by simp) _,
    foldFin_keeps (fun t : State => t.ownAnswer) _ (fun _ _ => by simp) _,
    foldFin_keeps (fun t : State => t.bp) _ (fun _ _ => by simp) _,
    foldFin_keeps (fun t : State => t.boxes) _ (fun _ _ => by simp) _,
    foldFin_keeps (fun t : State => t.links) _ (fun _ _ => by simp) _,
    foldFin_keeps (fun t : State => t.tie) _ (fun _ _ => by simp) _,
    foldFin_keeps (fun t : State => t.wdg) _ (fun _ _ => by simp) _,
    foldFin_keeps (fun t : State => t.bbx) _ (fun _ _ => by simp) _,
    foldFin_keeps (fun t : State => t.fw) _ (fun _ _ => by simp) _,
    foldFin_keeps (fun t : State => t.rcp) _ (fun _ _ => by simp) _,
    foldFin_keeps (fun t : State => t.perf) _ (fun _ _ => by simp) _,
    foldFin_keeps (fun t : State => t.mon) _ (fun _ _ => by simp) _,
    foldFin_keeps (fun t : State => t.stored) _ (fun _ _ => by simp) _,
    foldFin_keeps (fun t : State => t.bells) _ (fun _ _ => by simp) _,
    foldFin_keeps (fun t : State => t.taken) _ (fun _ _ => by simp) _,
    foldFin_keeps (fun t : State => t.held) _ (fun _ _ => by simp) _,
    foldFin_keeps (fun t : State => t.free) _ (fun _ _ => by simp) _,
    foldFin_keeps (fun t : State => t.pending) _ (fun _ _ => by simp) _⟩

/-- `rcpHalt` changes no other part than `taps`, `rcp`. -/
@[simp] theorem rcpHalt_keeps (s : State) :
    (rcpHalt s).sys = s.sys ∧ (rcpHalt s).ports = s.ports ∧ (rcpHalt s).hub = s.hub ∧ (rcpHalt s).shown = s.shown ∧
    (rcpHalt s).arb = s.arb ∧ (rcpHalt s).mtr = s.mtr ∧ (rcpHalt s).ctrs = s.ctrs ∧ (rcpHalt s).alr = s.alr ∧
    (rcpHalt s).pour = s.pour ∧ (rcpHalt s).vsel = s.vsel ∧ (rcpHalt s).bus = s.bus ∧ (rcpHalt s).mbx = s.mbx ∧
    (rcpHalt s).monAnswer = s.monAnswer ∧ (rcpHalt s).ownAnswer = s.ownAnswer ∧ (rcpHalt s).bp = s.bp ∧
    (rcpHalt s).boxes = s.boxes ∧ (rcpHalt s).links = s.links ∧ (rcpHalt s).tie = s.tie ∧ (rcpHalt s).wdg = s.wdg ∧
    (rcpHalt s).bbx = s.bbx ∧ (rcpHalt s).fw = s.fw ∧ (rcpHalt s).perf = s.perf ∧ (rcpHalt s).mon = s.mon ∧
    (rcpHalt s).stored = s.stored ∧ (rcpHalt s).bells = s.bells ∧ (rcpHalt s).taken = s.taken ∧ (rcpHalt s).held =
    s.held ∧ (rcpHalt s).free = s.free ∧ (rcpHalt s).pending = s.pending := by
  unfold rcpHalt; simp

/-- `ungovern` changes no other part than `taps`, `rcp`. -/
@[simp] theorem ungovern_keeps (n : Fin 32) (s : State) :
    (ungovern n s).sys = s.sys ∧ (ungovern n s).ports = s.ports ∧ (ungovern n s).hub = s.hub ∧ (ungovern n s).shown
    = s.shown ∧ (ungovern n s).arb = s.arb ∧ (ungovern n s).mtr = s.mtr ∧ (ungovern n s).ctrs = s.ctrs ∧
    (ungovern n s).alr = s.alr ∧ (ungovern n s).pour = s.pour ∧ (ungovern n s).vsel = s.vsel ∧ (ungovern n s).bus =
    s.bus ∧ (ungovern n s).mbx = s.mbx ∧ (ungovern n s).monAnswer = s.monAnswer ∧ (ungovern n s).ownAnswer =
    s.ownAnswer ∧ (ungovern n s).bp = s.bp ∧ (ungovern n s).boxes = s.boxes ∧ (ungovern n s).links = s.links ∧
    (ungovern n s).tie = s.tie ∧ (ungovern n s).wdg = s.wdg ∧ (ungovern n s).bbx = s.bbx ∧ (ungovern n s).fw = s.fw
    ∧ (ungovern n s).perf = s.perf ∧ (ungovern n s).mon = s.mon ∧ (ungovern n s).stored = s.stored ∧
    (ungovern n s).bells = s.bells ∧ (ungovern n s).taken = s.taken ∧ (ungovern n s).held = s.held ∧
    (ungovern n s).free = s.free ∧ (ungovern n s).pending = s.pending := by
  unfold ungovern; (repeat' split) <;> simp

/-- `newChallenge` changes no other part than `free`, `wdg`. -/
@[simp] theorem newChallenge_keeps (s : State) :
    (newChallenge s).sys = s.sys ∧ (newChallenge s).ports = s.ports ∧ (newChallenge s).hub = s.hub ∧
    (newChallenge s).taps = s.taps ∧ (newChallenge s).shown = s.shown ∧ (newChallenge s).arb = s.arb ∧
    (newChallenge s).mtr = s.mtr ∧ (newChallenge s).ctrs = s.ctrs ∧ (newChallenge s).alr = s.alr ∧
    (newChallenge s).pour = s.pour ∧ (newChallenge s).vsel = s.vsel ∧ (newChallenge s).bus = s.bus ∧
    (newChallenge s).mbx = s.mbx ∧ (newChallenge s).monAnswer = s.monAnswer ∧ (newChallenge s).ownAnswer =
    s.ownAnswer ∧ (newChallenge s).bp = s.bp ∧ (newChallenge s).boxes = s.boxes ∧ (newChallenge s).links = s.links ∧
    (newChallenge s).tie = s.tie ∧ (newChallenge s).bbx = s.bbx ∧ (newChallenge s).fw = s.fw ∧ (newChallenge s).rcp
    = s.rcp ∧ (newChallenge s).perf = s.perf ∧ (newChallenge s).mon = s.mon ∧ (newChallenge s).stored = s.stored ∧
    (newChallenge s).bells = s.bells ∧ (newChallenge s).taken = s.taken ∧ (newChallenge s).held = s.held ∧
    (newChallenge s).pending = s.pending := by
  unfold newChallenge State.draw; simp

/-- `grace` changes no other part than `wdg`. -/
@[simp] theorem grace_keeps (s : State) :
    (grace s).sys = s.sys ∧ (grace s).ports = s.ports ∧ (grace s).hub = s.hub ∧ (grace s).taps = s.taps ∧
    (grace s).shown = s.shown ∧ (grace s).arb = s.arb ∧ (grace s).mtr = s.mtr ∧ (grace s).ctrs = s.ctrs ∧
    (grace s).alr = s.alr ∧ (grace s).pour = s.pour ∧ (grace s).vsel = s.vsel ∧ (grace s).bus = s.bus ∧
    (grace s).mbx = s.mbx ∧ (grace s).monAnswer = s.monAnswer ∧ (grace s).ownAnswer = s.ownAnswer ∧ (grace s).bp =
    s.bp ∧ (grace s).boxes = s.boxes ∧ (grace s).links = s.links ∧ (grace s).tie = s.tie ∧ (grace s).bbx = s.bbx ∧
    (grace s).fw = s.fw ∧ (grace s).rcp = s.rcp ∧ (grace s).perf = s.perf ∧ (grace s).mon = s.mon ∧ (grace s).stored
    = s.stored ∧ (grace s).bells = s.bells ∧ (grace s).taken = s.taken ∧ (grace s).held = s.held ∧ (grace s).free =
    s.free ∧ (grace s).pending = s.pending := by
  unfold grace; simp

@[simp] theorem grace_wdg_locked  (s : State) :
    (grace s).wdg.locked = s.wdg.locked := by unfold grace; simp

@[simp] theorem grace_wdg_challenge  (s : State) :
    (grace s).wdg.challenge = s.wdg.challenge := by unfold grace; simp

/-- `wdgEnable` changes no other part than `wdg`. -/
@[simp] theorem wdgEnable_keeps (s : State) :
    (wdgEnable s).sys = s.sys ∧ (wdgEnable s).ports = s.ports ∧ (wdgEnable s).hub = s.hub ∧ (wdgEnable s).taps =
    s.taps ∧ (wdgEnable s).shown = s.shown ∧ (wdgEnable s).arb = s.arb ∧ (wdgEnable s).mtr = s.mtr ∧
    (wdgEnable s).ctrs = s.ctrs ∧ (wdgEnable s).alr = s.alr ∧ (wdgEnable s).pour = s.pour ∧ (wdgEnable s).vsel =
    s.vsel ∧ (wdgEnable s).bus = s.bus ∧ (wdgEnable s).mbx = s.mbx ∧ (wdgEnable s).monAnswer = s.monAnswer ∧
    (wdgEnable s).ownAnswer = s.ownAnswer ∧ (wdgEnable s).bp = s.bp ∧ (wdgEnable s).boxes = s.boxes ∧
    (wdgEnable s).links = s.links ∧ (wdgEnable s).tie = s.tie ∧ (wdgEnable s).bbx = s.bbx ∧ (wdgEnable s).fw = s.fw
    ∧ (wdgEnable s).rcp = s.rcp ∧ (wdgEnable s).perf = s.perf ∧ (wdgEnable s).mon = s.mon ∧ (wdgEnable s).stored =
    s.stored ∧ (wdgEnable s).bells = s.bells ∧ (wdgEnable s).taken = s.taken ∧ (wdgEnable s).held = s.held ∧
    (wdgEnable s).free = s.free ∧ (wdgEnable s).pending = s.pending := by
  unfold wdgEnable; split <;> simp

@[simp] theorem wdgEnable_wdg_locked  (s : State) :
    (wdgEnable s).wdg.locked = s.wdg.locked := by unfold wdgEnable; split <;> simp

@[simp] theorem wdgEnable_wdg_challenge  (s : State) :
    (wdgEnable s).wdg.challenge = s.wdg.challenge := by unfold wdgEnable; split <;> simp

/-- `setState` changes no other part than `sys`, `bbx`. -/
@[simp] theorem setState_keeps (st : ModState) (cause : Nat) (s : State) :
    (setState st cause s).ports = s.ports ∧ (setState st cause s).hub = s.hub ∧ (setState st cause s).taps = s.taps
    ∧ (setState st cause s).shown = s.shown ∧ (setState st cause s).arb = s.arb ∧ (setState st cause s).mtr = s.mtr
    ∧ (setState st cause s).ctrs = s.ctrs ∧ (setState st cause s).alr = s.alr ∧ (setState st cause s).pour = s.pour
    ∧ (setState st cause s).vsel = s.vsel ∧ (setState st cause s).bus = s.bus ∧ (setState st cause s).mbx = s.mbx ∧
    (setState st cause s).monAnswer = s.monAnswer ∧ (setState st cause s).ownAnswer = s.ownAnswer ∧
    (setState st cause s).bp = s.bp ∧ (setState st cause s).boxes = s.boxes ∧ (setState st cause s).links = s.links
    ∧ (setState st cause s).tie = s.tie ∧ (setState st cause s).wdg = s.wdg ∧ (setState st cause s).fw = s.fw ∧
    (setState st cause s).rcp = s.rcp ∧ (setState st cause s).perf = s.perf ∧ (setState st cause s).mon = s.mon ∧
    (setState st cause s).stored = s.stored ∧ (setState st cause s).bells = s.bells ∧ (setState st cause s).taken =
    s.taken ∧ (setState st cause s).held = s.held ∧ (setState st cause s).free = s.free ∧
    (setState st cause s).pending = s.pending := by
  unfold setState; simp

@[simp] theorem setState_bbx_ring (st : ModState) (cause : Nat) (s : State) :
    (setState st cause s).bbx.ring = s.bbx.ring := by unfold setState; simp

@[simp] theorem setState_bbx_snaps (st : ModState) (cause : Nat) (s : State) :
    (setState st cause s).bbx.snaps = s.bbx.snaps := by unfold setState; simp

@[simp] theorem setState_bbx_hist (st : ModState) (cause : Nat) (s : State) :
    (setState st cause s).bbx.hist = s.bbx.hist := by unfold setState; simp

@[simp] theorem setState_sys_cores (st : ModState) (cause : Nat) (s : State) :
    (setState st cause s).sys.cores = s.sys.cores := by unfold setState; simp

@[simp] theorem setState_sys_uptime (st : ModState) (cause : Nat) (s : State) :
    (setState st cause s).sys.uptime = s.sys.uptime := by unfold setState; simp

/-- `portsToIdle` changes no other part than `ports`. -/
@[simp] theorem portsToIdle_keeps (s : State) :
    (portsToIdle s).sys = s.sys ∧ (portsToIdle s).hub = s.hub ∧ (portsToIdle s).taps = s.taps ∧
    (portsToIdle s).shown = s.shown ∧ (portsToIdle s).arb = s.arb ∧ (portsToIdle s).mtr = s.mtr ∧
    (portsToIdle s).ctrs = s.ctrs ∧ (portsToIdle s).alr = s.alr ∧ (portsToIdle s).pour = s.pour ∧
    (portsToIdle s).vsel = s.vsel ∧ (portsToIdle s).bus = s.bus ∧ (portsToIdle s).mbx = s.mbx ∧
    (portsToIdle s).monAnswer = s.monAnswer ∧ (portsToIdle s).ownAnswer = s.ownAnswer ∧ (portsToIdle s).bp = s.bp ∧
    (portsToIdle s).boxes = s.boxes ∧ (portsToIdle s).links = s.links ∧ (portsToIdle s).tie = s.tie ∧
    (portsToIdle s).wdg = s.wdg ∧ (portsToIdle s).bbx = s.bbx ∧ (portsToIdle s).fw = s.fw ∧ (portsToIdle s).rcp =
    s.rcp ∧ (portsToIdle s).perf = s.perf ∧ (portsToIdle s).mon = s.mon ∧ (portsToIdle s).stored = s.stored ∧
    (portsToIdle s).bells = s.bells ∧ (portsToIdle s).taken = s.taken ∧ (portsToIdle s).held = s.held ∧
    (portsToIdle s).free = s.free ∧ (portsToIdle s).pending = s.pending := by
  unfold portsToIdle; simp

/-- `enterSafe` changes no other part than `mtr`, `taps`, `alr`, `bus`, `links`, `bbx`, `tie`, `hub`, `ports`, `mbx`, `monAnswer`, `ownAnswer`, `vsel`, `pour`, `rcp`, `sys`, `bp`. -/
@[simp] theorem enterSafe_keeps (cause : Nat) (s : State) :
    (enterSafe cause s).shown = s.shown ∧ (enterSafe cause s).arb = s.arb ∧ (enterSafe cause s).ctrs = s.ctrs ∧
    (enterSafe cause s).boxes = s.boxes ∧ (enterSafe cause s).wdg = s.wdg ∧ (enterSafe cause s).fw = s.fw ∧
    (enterSafe cause s).perf = s.perf ∧ (enterSafe cause s).mon = s.mon ∧ (enterSafe cause s).stored = s.stored ∧
    (enterSafe cause s).bells = s.bells ∧ (enterSafe cause s).taken = s.taken ∧ (enterSafe cause s).held = s.held ∧
    (enterSafe cause s).free = s.free ∧ (enterSafe cause s).pending = s.pending := by
  unfold enterSafe; simp

/-- `fallBack` changes no other part than `hub`, `bp`. -/
@[simp] theorem fallBack_keeps (s : State) :
    (fallBack s).sys = s.sys ∧ (fallBack s).ports = s.ports ∧ (fallBack s).taps = s.taps ∧ (fallBack s).shown =
    s.shown ∧ (fallBack s).arb = s.arb ∧ (fallBack s).mtr = s.mtr ∧ (fallBack s).ctrs = s.ctrs ∧ (fallBack s).alr =
    s.alr ∧ (fallBack s).pour = s.pour ∧ (fallBack s).vsel = s.vsel ∧ (fallBack s).bus = s.bus ∧ (fallBack s).mbx =
    s.mbx ∧ (fallBack s).monAnswer = s.monAnswer ∧ (fallBack s).ownAnswer = s.ownAnswer ∧ (fallBack s).boxes =
    s.boxes ∧ (fallBack s).links = s.links ∧ (fallBack s).tie = s.tie ∧ (fallBack s).wdg = s.wdg ∧ (fallBack s).bbx
    = s.bbx ∧ (fallBack s).fw = s.fw ∧ (fallBack s).rcp = s.rcp ∧ (fallBack s).perf = s.perf ∧ (fallBack s).mon =
    s.mon ∧ (fallBack s).stored = s.stored ∧ (fallBack s).bells = s.bells ∧ (fallBack s).taken = s.taken ∧
    (fallBack s).held = s.held ∧ (fallBack s).free = s.free ∧ (fallBack s).pending = s.pending := by
  unfold fallBack; split <;> simp

/-- `standbyAlerts` changes no other part than `alr`, `bus`, `bp`, `sys`. -/
@[simp] theorem standbyAlerts_keeps (s : State) :
    (standbyAlerts s).ports = s.ports ∧ (standbyAlerts s).hub = s.hub ∧ (standbyAlerts s).taps = s.taps ∧
    (standbyAlerts s).shown = s.shown ∧ (standbyAlerts s).arb = s.arb ∧ (standbyAlerts s).mtr = s.mtr ∧
    (standbyAlerts s).ctrs = s.ctrs ∧ (standbyAlerts s).pour = s.pour ∧ (standbyAlerts s).vsel = s.vsel ∧
    (standbyAlerts s).mbx = s.mbx ∧ (standbyAlerts s).monAnswer = s.monAnswer ∧ (standbyAlerts s).ownAnswer =
    s.ownAnswer ∧ (standbyAlerts s).boxes = s.boxes ∧ (standbyAlerts s).links = s.links ∧ (standbyAlerts s).tie =
    s.tie ∧ (standbyAlerts s).wdg = s.wdg ∧ (standbyAlerts s).bbx = s.bbx ∧ (standbyAlerts s).fw = s.fw ∧
    (standbyAlerts s).rcp = s.rcp ∧ (standbyAlerts s).perf = s.perf ∧ (standbyAlerts s).mon = s.mon ∧
    (standbyAlerts s).stored = s.stored ∧ (standbyAlerts s).bells = s.bells ∧ (standbyAlerts s).taken = s.taken ∧
    (standbyAlerts s).held = s.held ∧ (standbyAlerts s).free = s.free ∧ (standbyAlerts s).pending = s.pending := by
  unfold standbyAlerts; dsimp only; (repeat' split) <;> simp

/-- `startSnaps` changes no other part than `mtr`. -/
@[simp] theorem startSnaps_keeps (s : State) :
    (startSnaps s).sys = s.sys ∧ (startSnaps s).ports = s.ports ∧ (startSnaps s).hub = s.hub ∧ (startSnaps s).taps =
    s.taps ∧ (startSnaps s).shown = s.shown ∧ (startSnaps s).arb = s.arb ∧ (startSnaps s).ctrs = s.ctrs ∧
    (startSnaps s).alr = s.alr ∧ (startSnaps s).pour = s.pour ∧ (startSnaps s).vsel = s.vsel ∧ (startSnaps s).bus =
    s.bus ∧ (startSnaps s).mbx = s.mbx ∧ (startSnaps s).monAnswer = s.monAnswer ∧ (startSnaps s).ownAnswer =
    s.ownAnswer ∧ (startSnaps s).bp = s.bp ∧ (startSnaps s).boxes = s.boxes ∧ (startSnaps s).links = s.links ∧
    (startSnaps s).tie = s.tie ∧ (startSnaps s).wdg = s.wdg ∧ (startSnaps s).bbx = s.bbx ∧ (startSnaps s).fw = s.fw
    ∧ (startSnaps s).rcp = s.rcp ∧ (startSnaps s).perf = s.perf ∧ (startSnaps s).mon = s.mon ∧ (startSnaps s).stored
    = s.stored ∧ (startSnaps s).bells = s.bells ∧ (startSnaps s).taken = s.taken ∧ (startSnaps s).held = s.held ∧
    (startSnaps s).free = s.free ∧ (startSnaps s).pending = s.pending := by
  unfold startSnaps; split <;> simp

/-- `enterStandby` changes no other part than `mtr`, `taps`, `alr`, `bus`, `links`, `bbx`, `tie`, `hub`, `ports`, `mbx`, `monAnswer`, `ownAnswer`, `vsel`, `pour`, `rcp`, `sys`, `bp`. -/
@[simp] theorem enterStandby_keeps (cause : Nat) (s : State) :
    (enterStandby cause s).shown = s.shown ∧ (enterStandby cause s).arb = s.arb ∧ (enterStandby cause s).ctrs =
    s.ctrs ∧ (enterStandby cause s).boxes = s.boxes ∧ (enterStandby cause s).wdg = s.wdg ∧ (enterStandby cause s).fw
    = s.fw ∧ (enterStandby cause s).perf = s.perf ∧ (enterStandby cause s).mon = s.mon ∧
    (enterStandby cause s).stored = s.stored ∧ (enterStandby cause s).bells = s.bells ∧ (enterStandby cause s).taken
    = s.taken ∧ (enterStandby cause s).held = s.held ∧ (enterStandby cause s).free = s.free ∧
    (enterStandby cause s).pending = s.pending := by
  unfold enterStandby; dsimp only; (repeat' split) <;> simp

/-- `markWithdrawn` changes no other part than `taps`. -/
@[simp] theorem markWithdrawn_keeps (s : State) :
    (markWithdrawn s).sys = s.sys ∧ (markWithdrawn s).ports = s.ports ∧ (markWithdrawn s).hub = s.hub ∧
    (markWithdrawn s).shown = s.shown ∧ (markWithdrawn s).arb = s.arb ∧ (markWithdrawn s).mtr = s.mtr ∧
    (markWithdrawn s).ctrs = s.ctrs ∧ (markWithdrawn s).alr = s.alr ∧ (markWithdrawn s).pour = s.pour ∧
    (markWithdrawn s).vsel = s.vsel ∧ (markWithdrawn s).bus = s.bus ∧ (markWithdrawn s).mbx = s.mbx ∧
    (markWithdrawn s).monAnswer = s.monAnswer ∧ (markWithdrawn s).ownAnswer = s.ownAnswer ∧ (markWithdrawn s).bp =
    s.bp ∧ (markWithdrawn s).boxes = s.boxes ∧ (markWithdrawn s).links = s.links ∧ (markWithdrawn s).tie = s.tie ∧
    (markWithdrawn s).wdg = s.wdg ∧ (markWithdrawn s).bbx = s.bbx ∧ (markWithdrawn s).fw = s.fw ∧
    (markWithdrawn s).rcp = s.rcp ∧ (markWithdrawn s).perf = s.perf ∧ (markWithdrawn s).mon = s.mon ∧
    (markWithdrawn s).stored = s.stored ∧ (markWithdrawn s).bells = s.bells ∧ (markWithdrawn s).taken = s.taken ∧
    (markWithdrawn s).held = s.held ∧ (markWithdrawn s).free = s.free ∧ (markWithdrawn s).pending = s.pending := by
  unfold markWithdrawn; simp

/-- `saveTimes` changes no other part than `taps`. -/
@[simp] theorem saveTimes_keeps (s : State) :
    (saveTimes s).sys = s.sys ∧ (saveTimes s).ports = s.ports ∧ (saveTimes s).hub = s.hub ∧ (saveTimes s).shown =
    s.shown ∧ (saveTimes s).arb = s.arb ∧ (saveTimes s).mtr = s.mtr ∧ (saveTimes s).ctrs = s.ctrs ∧
    (saveTimes s).alr = s.alr ∧ (saveTimes s).pour = s.pour ∧ (saveTimes s).vsel = s.vsel ∧ (saveTimes s).bus =
    s.bus ∧ (saveTimes s).mbx = s.mbx ∧ (saveTimes s).monAnswer = s.monAnswer ∧ (saveTimes s).ownAnswer =
    s.ownAnswer ∧ (saveTimes s).bp = s.bp ∧ (saveTimes s).boxes = s.boxes ∧ (saveTimes s).links = s.links ∧
    (saveTimes s).tie = s.tie ∧ (saveTimes s).wdg = s.wdg ∧ (saveTimes s).bbx = s.bbx ∧ (saveTimes s).fw = s.fw ∧
    (saveTimes s).rcp = s.rcp ∧ (saveTimes s).perf = s.perf ∧ (saveTimes s).mon = s.mon ∧ (saveTimes s).stored =
    s.stored ∧ (saveTimes s).bells = s.bells ∧ (saveTimes s).taken = s.taken ∧ (saveTimes s).held = s.held ∧
    (saveTimes s).free = s.free ∧ (saveTimes s).pending = s.pending := by
  unfold saveTimes; simp

/-- `newPeriod` changes no other part than `sys`, `taps`, `links`. -/
@[simp] theorem newPeriod_keeps (s : State) :
    (newPeriod s).ports = s.ports ∧ (newPeriod s).hub = s.hub ∧ (newPeriod s).shown = s.shown ∧ (newPeriod s).arb =
    s.arb ∧ (newPeriod s).mtr = s.mtr ∧ (newPeriod s).ctrs = s.ctrs ∧ (newPeriod s).alr = s.alr ∧ (newPeriod s).pour
    = s.pour ∧ (newPeriod s).vsel = s.vsel ∧ (newPeriod s).bus = s.bus ∧ (newPeriod s).mbx = s.mbx ∧
    (newPeriod s).monAnswer = s.monAnswer ∧ (newPeriod s).ownAnswer = s.ownAnswer ∧ (newPeriod s).bp = s.bp ∧
    (newPeriod s).boxes = s.boxes ∧ (newPeriod s).tie = s.tie ∧ (newPeriod s).wdg = s.wdg ∧ (newPeriod s).bbx =
    s.bbx ∧ (newPeriod s).fw = s.fw ∧ (newPeriod s).rcp = s.rcp ∧ (newPeriod s).perf = s.perf ∧ (newPeriod s).mon =
    s.mon ∧ (newPeriod s).stored = s.stored ∧ (newPeriod s).bells = s.bells ∧ (newPeriod s).taken = s.taken ∧
    (newPeriod s).held = s.held ∧ (newPeriod s).free = s.free ∧ (newPeriod s).pending = s.pending := by
  unfold newPeriod; simp

/-- `vselOccasion` changes no other part than `vsel`. -/
@[simp] theorem vselOccasion_keeps (always : Bool) (s : State) :
    (vselOccasion always s).sys = s.sys ∧ (vselOccasion always s).ports = s.ports ∧ (vselOccasion always s).hub =
    s.hub ∧ (vselOccasion always s).taps = s.taps ∧ (vselOccasion always s).shown = s.shown ∧
    (vselOccasion always s).arb = s.arb ∧ (vselOccasion always s).mtr = s.mtr ∧ (vselOccasion always s).ctrs =
    s.ctrs ∧ (vselOccasion always s).alr = s.alr ∧ (vselOccasion always s).pour = s.pour ∧
    (vselOccasion always s).bus = s.bus ∧ (vselOccasion always s).mbx = s.mbx ∧ (vselOccasion always s).monAnswer =
    s.monAnswer ∧ (vselOccasion always s).ownAnswer = s.ownAnswer ∧ (vselOccasion always s).bp = s.bp ∧
    (vselOccasion always s).boxes = s.boxes ∧ (vselOccasion always s).links = s.links ∧ (vselOccasion always s).tie
    = s.tie ∧ (vselOccasion always s).wdg = s.wdg ∧ (vselOccasion always s).bbx = s.bbx ∧ (vselOccasion always s).fw
    = s.fw ∧ (vselOccasion always s).rcp = s.rcp ∧ (vselOccasion always s).perf = s.perf ∧
    (vselOccasion always s).mon = s.mon ∧ (vselOccasion always s).stored = s.stored ∧ (vselOccasion always s).bells
    = s.bells ∧ (vselOccasion always s).taken = s.taken ∧ (vselOccasion always s).held = s.held ∧
    (vselOccasion always s).free = s.free ∧ (vselOccasion always s).pending = s.pending := by
  unfold vselOccasion; dsimp only; (repeat' split) <;> simp

/-- `enterRun` changes no other part than `mon`, `sys`, `bbx`, `wdg`, `taps`. -/
@[simp] theorem enterRun_keeps (cause : Nat) (s : State) :
    (enterRun cause s).ports = s.ports ∧ (enterRun cause s).hub = s.hub ∧ (enterRun cause s).shown = s.shown ∧
    (enterRun cause s).arb = s.arb ∧ (enterRun cause s).mtr = s.mtr ∧ (enterRun cause s).ctrs = s.ctrs ∧
    (enterRun cause s).alr = s.alr ∧ (enterRun cause s).pour = s.pour ∧ (enterRun cause s).vsel = s.vsel ∧
    (enterRun cause s).bus = s.bus ∧ (enterRun cause s).mbx = s.mbx ∧ (enterRun cause s).monAnswer = s.monAnswer ∧
    (enterRun cause s).ownAnswer = s.ownAnswer ∧ (enterRun cause s).bp = s.bp ∧ (enterRun cause s).boxes = s.boxes ∧
    (enterRun cause s).links = s.links ∧ (enterRun cause s).tie = s.tie ∧ (enterRun cause s).fw = s.fw ∧
    (enterRun cause s).rcp = s.rcp ∧ (enterRun cause s).perf = s.perf ∧ (enterRun cause s).stored = s.stored ∧
    (enterRun cause s).bells = s.bells ∧ (enterRun cause s).taken = s.taken ∧ (enterRun cause s).held = s.held ∧
    (enterRun cause s).free = s.free ∧ (enterRun cause s).pending = s.pending := by
  unfold enterRun; exact ⟨
    (foldFin_keeps (fun t : State => t.ports) _ (fun i t => by split <;> simp) _).trans (by simp),
    (foldFin_keeps (fun t : State => t.hub) _ (fun i t => by split <;> simp) _).trans (by simp),
    (foldFin_keeps (fun t : State => t.shown) _ (fun i t => by split <;> simp) _).trans (by simp),
    (foldFin_keeps (fun t : State => t.arb) _ (fun i t => by split <;> simp) _).trans (by simp),
    (foldFin_keeps (fun t : State => t.mtr) _ (fun i t => by split <;> simp) _).trans (by simp),
    (foldFin_keeps (fun t : State => t.ctrs) _ (fun i t => by split <;> simp) _).trans (by simp),
    (foldFin_keeps (fun t : State => t.alr) _ (fun i t => by split <;> simp) _).trans (by simp),
    (foldFin_keeps (fun t : State => t.pour) _ (fun i t => by split <;> simp) _).trans (by simp),
    (foldFin_keeps (fun t : State => t.vsel) _ (fun i t => by split <;> simp) _).trans (by simp),
    (foldFin_keeps (fun t : State => t.bus) _ (fun i t => by split <;> simp) _).trans (by simp),
    (foldFin_keeps (fun t : State => t.mbx) _ (fun i t => by split <;> simp) _).trans (by simp),
    (foldFin_keeps (fun t : State => t.monAnswer) _ (fun i t => by split <;> simp) _).trans (by simp),
    (foldFin_keeps (fun t : State => t.ownAnswer) _ (fun i t => by split <;> simp) _).trans (by simp),
    (foldFin_keeps (fun t : State => t.bp) _ (fun i t => by split <;> simp) _).trans (by simp),
    (foldFin_keeps (fun t : State => t.boxes) _ (fun i t => by split <;> simp) _).trans (by simp),
    (foldFin_keeps (fun t : State => t.links) _ (fun i t => by split <;> simp) _).trans (by simp),
    (foldFin_keeps (fun t : State => t.tie) _ (fun i t => by split <;> simp) _).trans (by simp),
    (foldFin_keeps (fun t : State => t.fw) _ (fun i t => by split <;> simp) _).trans (by simp),
    (foldFin_keeps (fun t : State => t.rcp) _ (fun i t => by split <;> simp) _).trans (by simp),
    (foldFin_keeps (fun t : State => t.perf) _ (fun i t => by split <;> simp) _).trans (by simp),
    (foldFin_keeps (fun t : State => t.stored) _ (fun i t => by split <;> simp) _).trans (by simp),
    (foldFin_keeps (fun t : State => t.bells) _ (fun i t => by split <;> simp) _).trans (by simp),
    (foldFin_keeps (fun t : State => t.taken) _ (fun i t => by split <;> simp) _).trans (by simp),
    (foldFin_keeps (fun t : State => t.held) _ (fun i t => by split <;> simp) _).trans (by simp),
    (foldFin_keeps (fun t : State => t.free) _ (fun i t => by split <;> simp) _).trans (by simp),
    (foldFin_keeps (fun t : State => t.pending) _ (fun i t => by split <;> simp) _).trans (by simp)⟩

/-- `loseCores` changes no other part than `sys`, `arb`, `held`, `boxes`, `perf`, `vsel`, `rcp`, `bus`, `bbx`, `mbx`, `monAnswer`, `ownAnswer`, `mon`, `wdg`. -/
@[simp] theorem loseCores_keeps (s : State) :
    (loseCores s).ports = s.ports ∧ (loseCores s).hub = s.hub ∧ (loseCores s).taps = s.taps ∧
    (loseCores s).shown = s.shown ∧ (loseCores s).mtr = s.mtr ∧ (loseCores s).ctrs = s.ctrs ∧ (loseCores s).alr
    = s.alr ∧ (loseCores s).pour = s.pour ∧ (loseCores s).bp = s.bp ∧ (loseCores s).links = s.links ∧
    (loseCores s).tie = s.tie ∧ (loseCores s).fw = s.fw ∧ (loseCores s).stored = s.stored ∧ (loseCores s).bells
    = s.bells ∧ (loseCores s).taken = s.taken ∧ (loseCores s).free = s.free ∧ (loseCores s).pending = s.pending := by
  unfold loseCores; simp

/-- `enterHold` changes no other part than `rcp`, `ports`, `bp`, `sys`, `arb`, `held`, `boxes`, `perf`, `vsel`, `bus`, `mbx`, `monAnswer`, `ownAnswer`, `mon`, `wdg`, `alr`, `bbx`, `pour`. -/
@[simp] theorem enterHold_keeps (cause : Nat) (s : State) :
    (enterHold cause s).hub = s.hub ∧ (enterHold cause s).taps = s.taps ∧ (enterHold cause s).shown = s.shown ∧
    (enterHold cause s).mtr = s.mtr ∧ (enterHold cause s).ctrs = s.ctrs ∧ (enterHold cause s).links = s.links ∧
    (enterHold cause s).tie = s.tie ∧ (enterHold cause s).fw = s.fw ∧ (enterHold cause s).stored = s.stored ∧
    (enterHold cause s).bells = s.bells ∧ (enterHold cause s).taken = s.taken ∧ (enterHold cause s).free =
    s.free ∧ (enterHold cause s).pending = s.pending := by
  unfold enterHold; simp

end Sys2Proof.Machine
end

