-- ==== Sys2Proof/Safety.lean ====
section
/-! DEFINITION. What a safe step is. -/

namespace Sys2Proof

/-- A step that answers a next state. -/
def Safe (s : Machine.State) : Prop := ∃ t, Machine.step s = .next t

end Sys2Proof
end

