-- ==== Sys2Proof/Tests/Slice0.lean ====
section
/-! SUPPORT. The author's own tests: the worked examples of spec/, the checks of `Instr.wf`, and for every statement
concrete states and operands that meet its hypotheses, one for each of its clauses. -/

set_option maxRecDepth 100000

open Sys2Proof Sys2Proof.Machine Sys2Proof.Claims

namespace Sys2Proof.Tests

/-- The module after boot: STANDBY, every core and every cluster island runs. -/
def up : State := { State.reset with sys.st := .standby, sys.cores := 0xFF, sys.clOn := 0xF }

/-- A state with changes applied to it, the first first. -/
def setup (s : State) (l : List (State → State)) : State := l.foldl (fun s f => f s) s

/-- A change of every tap. -/
def onTaps (f : Tap → Tap) (s : State) : State := { s with taps := vec fun i => f s.taps[i] }

/-- A change of every link. -/
def onLinks (f : LinkPort → LinkPort) (s : State) : State := { s with links := vec fun i => f s.links[i] }

/-- A change of every port. -/
def onPorts (f : Port → Port) (s : State) : State := { s with ports := vec fun i => f s.ports[i] }

/-- The command goes on to a state of which `f` holds. -/
def after (c : Instr) (s : State) (f : State → Bool) : Bool := match exec c s with
  | .next t => f t
  | _ => false

/-! ### Worked examples of spec/ -/

/-- spec/14: the challenge 0x1234 asks for the token 0x3A13. -/
theorem test_token_of_the_manual : token 0x1234 = 0x3A13 := by decide

/-- spec/09: the check byte of a write of 0x0001 to 0x020 is 0x44. -/
theorem test_spi_check_of_the_manual : crc8 [0x00, 0x20, 0x00, 0x01] = 0x44 := by decide

/-- spec/03: 14 healthy rods are rated 74.66 A and 3500 W, 10 are rated 53.33 A and 2500 W. -/
theorem test_ratings_of_the_manual : rate 14 = (7466, 3500) ∧ rate 10 = (5333, 2500) := by decide

/-- spec/04: a healthy stake at 50.000 V is limited to 75.0 A. -/
theorem test_power_limit_of_the_manual : ampsAt (rate 16) 50000 = 7500 := by decide

/-- The three ports of cabinet K2 (spec/02). -/
def k2 (mode : SelMode) : State := setup up [fun s => { s with
  hub.modeIn := mode
  hub.siteCap := 75000
  ports := #v[
    { state := .online, vin := 800000, limIn := 6000, rank := 1, weight := 2, cap := 30000 },
    { state := .online, vin := 620000, limIn := 5000, rank := 2, weight := 1 },
    { state := .online, vin := 750000, limIn := 4000, rank := 3, weight := 1, cap := 20000 },
    { rank := 4 }] }]

/-- spec/02: 80 kW by PRIORITY is 41.0, 31.0 and 8.0 kW. -/
theorem test_priority_split_of_the_manual :
    (let l := split (k2 .priority) 80000; [got l 0, got l 1, got l 2]) = [41000, 31000, 8000] := by decide

/-- spec/02: 100 kW by BLEND is 41.0, 29.5 and 29.5 kW. -/
theorem test_blend_split_of_the_manual :
    (let l := split (k2 .blend) 100000; [got l 0, got l 1, got l 2]) = [41000, 29500, 29500] := by decide

/-- spec/02: 80 kW by CAP at a site cap of 75 kW is 27.78, 28.70 and 18.52 kW. -/
theorem test_cap_split_of_the_manual :
    (let l := split (k2 .cap) 80000; [got l 0, got l 1, got l 2]) = [27777, 28703, 18518] := by decide

/-- The descriptor of block 9 of cabinet M6 (spec/11). -/
def m6 : List Word := [0x0009, 0x0540, 0x0708, 0x0DAC, 0x9E07, 0x4B2C, 0x0001, 0x0000, 0xFFFF, 0xFFFF, 0xFFFF, 0xFFFF,
  0xFFFF, 0xFFFF, 0xFFFF, 0x0A0F, 0xFFFF, 0xFFFF, 0xFFFF, 0x8000, 0x8000, 0x8000, 0x8000, 0x8000, 0xFFFF, 0xFFFF,
  0x0000]

/-- spec/11: the words give 16 LFP cells, DONE mode FLOAT, two NTCs, 180.0 Ah, 35.00 A and the serial. -/
theorem test_descriptor_of_the_manual : descOf m6 =
    { chem := 0, cells := 16, doneFloat := true, ntcs := 2, nameplate := 1800, iFast := 3500,
      serial := 0x000000014B2C9E07, kFactor := some 15, eocN := some 10 } := by decide

/-- spec/11: a tap in ABSENT takes those words. -/
theorem test_descriptor_is_accepted :
    first [wordsDescriptor m6, need (descOk up 9 (descOf m6)), notOdd up m6, allow (restful up.taps[9])] = none := by
  decide

/-- Alerts 0x141 (class 3) and 0x142 (class 0) of cabinet K2 (spec/20). -/
def alertK2 (seq cls : Nat) : Alert :=
  { seq := seq, cls := cls, kind := 1, reason := 0, inst := 5, param := 0, time := 0, timeValid := false,
    deferred := false, bbxSeq := 0 }

/-- spec/20: the acknowledgement of 0x141 leaves 0x142, which is the head. -/
theorem test_alert_acknowledged_as_in_the_manual :
    after (.alrAck 0x141) (setup up [fun s => { s with alr.queue := [alertK2 0x141 3, alertK2 0x142 0] }])
      (fun t => t.alr.queue.map (·.seq) = [0x142]) = true := by decide

/-- spec/20: a class-0 alert is the head before an older class-3 alert. -/
theorem test_head_is_the_most_urgent :
    (headAlert [alertK2 0x141 3, alertK2 0x142 0]).map (·.seq) = some 0x142 := by decide

/-- R254: a command in BOOT is answered with 0x11. -/
theorem test_boot_answers_0x11 :
    after (.sysRun .monitor []) State.reset (fun t => t.monAnswer.map (·.code) = some 0x11) = true := by decide

/-- R26: `SYS_RUN` moves STANDBY to RUN, and not from RUN. -/
theorem test_run_from_standby_alone :
    (after (.sysRun .monitor []) up (fun t => t.sys.st = .run) &&
      after (.sysRun .monitor []) (setup up [fun s => { s with sys.st := .run }])
        (fun t => t.monAnswer.map (·.code) = some 0x30)) = true := by decide

/-- A step runs the command at the front with the queue's rest. -/
theorem test_step_takes_the_front_command :
    step { up with pending := [.sysRun .monitor [], .sysSafe .monitor []] } =
      exec (.sysRun .monitor []) { up with pending := [.sysSafe .monitor []] } := rfl

/-! ### The checks of `Instr.wf` refuse -/

/-- At most 30 argument words. -/
theorem test_wf_words : (Instr.sysRun .monitor (List.replicate 31 0)).wf = false := by decide
/-- The operation field of `SYS_SET_PROFILE`. -/
theorem test_wf_profile_operation : (Instr.sysSetProfileBegin .monitor [0x0101]).wf = false ∧
    (Instr.sysSetProfileAdd .monitor [0x0001]).wf = false ∧ (Instr.sysSetProfileStore .monitor [0x0101]).wf = false ∧
    (Instr.sysSetProfileClear .monitor [0x0101]).wf = false := by decide
/-- The action word of the commands with two actions. -/
theorem test_wf_action : (Instr.tapSetGangForm .monitor [0, 0]).wf = false ∧
    (Instr.tapSetGangDissolve .monitor [0, 1]).wf = false ∧ (Instr.lnkSetContractApply .monitor [0, 1]).wf = false ∧
    (Instr.lnkSetContractVoid .monitor [0, 0]).wf = false ∧ (Instr.lnkSetTieClose .monitor [0, 0]).wf = false ∧
    (Instr.lnkSetTieOpen .monitor [0, 1]).wf = false := by decide
/-- An internal message has eight words. -/
theorem test_wf_message : (Instr.internalMailboxMessage 0 ⟨0, none, []⟩).wf = false := by decide
/-- A register address has twelve bits. -/
theorem test_wf_address : (Instr.snapshotRead .spi 4096).wf = false ∧ (Instr.registerWrite 4096 0).wf = false ∧
    (Instr.rd 4096 { val := 1 }).wf = false := by decide
/-- An alert's sequence number has 32 bits. -/
theorem test_wf_ack : (Instr.alrAck (2 ^ 32)).wf = false := by decide
/-- One program counter for each core. -/
theorem test_wf_pcs : (Instr.wdgService 0 0 []).wf = false ∧ (Instr.wdgLate []).wf = false := by decide
/-- A sample has four ports and 32 taps. -/
theorem test_wf_sample (m : Sample) (h : m.ports = []) : (Instr.arbPeriod m).wf = false := by
  simp [Instr.wf, h]
/-- A recipe's output has 32 entries, a note four bytes, a fault code 1 to 4. -/
theorem test_wf_recipe : (Instr.yield [] ⟨[]⟩).wf = false ∧ (Instr.note []).wf = false ∧
    (Instr.recipeFault 5 0).wf = false ∧ (Instr.recipeFault 0 0).wf = false := by decide
/-- Eight performance counters. -/
theorem test_wf_perf : (Instr.perfDump 0 [] ⟨0, 0⟩ []).wf = false := by decide
/-- Sixteen rods. -/
theorem test_wf_balancing : (Instr.balancingStep 0 [] []).wf = false := by decide
/-- A link message has at most seven objects. -/
theorem test_wf_link : (Instr.messageReceived 0 ⟨0, List.replicate 8 0, 0⟩ true).wf = false ∧
    (Instr.offer 0 (List.replicate 8 0)).wf = false := by decide
/-- At most seven peers share a cap. -/
theorem test_wf_peers : (Instr.capDivision (List.replicate 8 ⟨0, 0, 0, 0, false⟩)).wf = false := by decide
/-- A record count is at least one, a signature has 64 bytes. -/
theorem test_wf_monitor : (Instr.bbRecord 0 { val := some 0 }).wf = false ∧ (Instr.auth { val := some [] }).wf = false ∧
    (Instr.pr 0 { val := 0 }).wf = false := by decide

/-! ### Operands and states that meet the statements' hypotheses -/

/-- `Obligations.StateCommandsMoveTheModule`. -/
theorem test_meets_StateCommandsMoveTheModule :
    (∃ via : Via, ∃ args : List Word, ∃ s : State, (Accepts 0x0102 via args s)) ∧
    (∃ via : Via, ∃ args : List Word, ∃ s : State, (Accepts 0x0103 via args s)) ∧
    (∃ via : Via, ∃ args : List Word, ∃ s : State, (Accepts 0x0104 via args s)) ∧
    (∃ via : Via, ∃ args : List Word, ∃ s : State, (Accepts 0x0105 via args s) ∧ (s.sys.estop = false) ∧ (latchedFault
      s = false)) ∧
    (∃ via : Via, ∃ args : List Word, ∃ s : State, (Accepts 0x0105 via args s) ∧ (s.sys.estop = true ∨ latchedFault s
      = true)) ∧
    (∃ s : State, (s.sys.st = .run) ∧ (s.sys.rampStandby = true) ∧ (s.sys.estop = false) ∧ (s.sys.shFault = false)) :=
  ⟨⟨Via.monitor, [0x0], up, (by unfold Accepts; decide)⟩,
    ⟨Via.own, [0x1F], (setup .reset [fun s => { s with sys.st := .run }]), (by unfold Accepts; decide)⟩,
    ⟨Via.monitor, [0xD], up, (by unfold Accepts; decide)⟩,
    ⟨Via.host 0, [0xE10], (setup .reset [fun s => { s with sys.st := .safe }, fun s =>
      { s with sys.estop := false }]), (by unfold Accepts; decide)⟩,
    ⟨Via.host 3, [0x1, 0x4], (setup .reset [fun s => { s with sys.st := .safe }, fun s =>
      { s with sys.estop := true }]), (by unfold Accepts; decide)⟩,
    ⟨(setup .reset [fun s => { s with sys.st := .run }, fun s => { s with sys.rampStandby := true }, fun s =>
      { s with sys.estop := false }, fun s => { s with sys.shFault := false }]), by decide⟩⟩

/-- `Obligations.ChangesWaitAndComeAtTheirMoment`. -/
theorem test_meets_ChangesWaitAndComeAtTheirMoment :
    (∃ via : Via, ∃ args : List Word, ∃ s : State, (Accepts 0x0106 via args s)) ∧
    (∃ via : Via, ∃ args : List Word, ∃ s : State, (Accepts 0x0107 via args s)) ∧
    (∃ via : Via, ∃ args : List Word, ∃ s : State, (Accepts 0x0108 via args s)) ∧
    (∃ via : Via, ∃ args : List Word, ∃ s : State, (Accepts 0x0109 via args s) ∧ (s.sys.auxV < 16000) ∧ (∀ x : Fin 4,
      s.ports[x].vin < 60000)) ∧
    (∃ via : Via, ∃ args : List Word, ∃ s : State, (Accepts 0x0109 via args s) ∧ (16000 ≤ s.sys.auxV ∨ ∃ x : Fin 4,
      60000 ≤ s.ports[x].vin)) ∧
    (∃ s : State, (s.powered = true) ∧ (s.sys.chg = [.recovery]) ∧ (s.sys.acted = 0) ∧ (s.sys.st = .standby ∨ s.sys.st
      = .safe)) ∧
    (∃ s : State, (s.powered = true) ∧ (s.sys.chg = [.reset]) ∧ (s.sys.acted = 0) ∧ (s.sys.st = .standby ∨ s.sys.st =
      .safe ∨ s.sys.st = .recovery)) ∧
    (∃ s : State, (s.powered = true) ∧ ∃ d : Deferred, (d = .recovery ∨ d = .reset ∨ d = .bootFw) ∧ (s.sys.chg = [d])
      ∧ (s.sys.st = .run ∨ s.sys.acted ≠ 0)) ∧
    (∃ s : State, (s.powered = true) ∧ (.ship ∈ s.sys.chg) ∧ (s.sys.st = .standby)) ∧
    (∃ s : State, (s.powered = true) ∧ (.ship ∈ s.sys.chg) ∧ (s.sys.st = .run)) :=
  ⟨⟨Via.host 1, [0x1A], up, (by unfold Accepts; decide)⟩,
    ⟨Via.own, [0x7, 0x3], up, (by unfold Accepts; decide)⟩,
    ⟨Via.monitor, [], up, (by unfold Accepts; decide)⟩,
    ⟨Via.own, [0x14], (setup up [fun s => { s with sys.auxV := (16000 - 1) }, onPorts fun x =>
      { x with vin := (60000 - 1) }]), (by unfold Accepts; decide)⟩,
    ⟨Via.own, [0x1], (setup up [fun s => { s with sys.auxV := 16000 }, onPorts fun x => { x with vin := 60000 }]),
      (by unfold Accepts; decide)⟩,
    ⟨(setup up [fun s => { s with sys.chg := [.recovery] }, fun s => { s with sys.acted := 0 }]), by decide⟩,
    ⟨(setup up [fun s => { s with sys.chg := [.reset] }]), by decide⟩,
    ⟨(setup .reset [fun s => { s with sys.chg := [.recovery] }, fun s => { s with sys.st := .run }]), by decide,
      Deferred.recovery, by decide⟩,
    ⟨(setup .reset [fun s => { s with sys.chg := [.ship] }, fun s => { s with sys.st := .standby }]), by decide⟩,
    ⟨(setup .reset [fun s => { s with sys.chg := [.ship] }, fun s => { s with sys.st := .run }]), by decide⟩⟩

/-- `Obligations.ModuleSettingsTakeTheirWords`. -/
theorem test_meets_ModuleSettingsTakeTheirWords :
    (∃ via : Via, ∃ args : List Word, ∃ s : State, (Accepts 0x0101 via args s)) ∧
    (∃ via : Via, ∃ args : List Word, ∃ s : State, (Accepts 0x010A via args s) ∧ (arg args 0 ≤ 1) ∧ (s.sys.longPress =
      false)) ∧
    (∃ via : Via, ∃ args : List Word, ∃ s : State, (Accepts 0x010B via args s) ∧ (450 ≤ arg args 0) ∧ (arg args 0 ≤
      550) ∧ (arg args 1 ≤ 1)) ∧
    (∃ via : Via, ∃ args : List Word, ∃ s : State, (Accepts 0x010C via args s)) ∧
    (∃ via : Via, ∃ args : List Word, ∃ s : State, (Accepts 0x010E via args s) ∧ (arg args 0 ≤ 1)) ∧
    (∃ via : Via, ∃ args : List Word, ∃ s : State, (Accepts 0x010F via args s)) :=
  ⟨⟨Via.host 2, [0x1F9], up, (by unfold Accepts; decide)⟩,
    ⟨Via.monitor, [], (setup up [fun s => { s with sys.longPress := false }]), (by unfold Accepts; decide)⟩,
    ⟨Via.own, [0x1F4, 0x1], up, (by unfold Accepts; decide)⟩,
    ⟨Via.own, [0x7, 0x3], up, (by unfold Accepts; decide)⟩,
    ⟨Via.own, [], up, (by unfold Accepts; decide)⟩,
    ⟨Via.host 1, [0x1E], up, (by unfold Accepts; decide)⟩⟩

/-- `Obligations.PortCommandsChangeOnePortOrRefuse`. -/
theorem test_meets_PortCommandsChangeOnePortOrRefuse :
    (∃ via : Via, ∃ args : List Word, ∃ s : State, ∃ x : Fin 4, (arg args 0 = x.val) ∧ (Accepts 0x0201 via args s)) ∧
    (∃ via : Via, ∃ args : List Word, ∃ s : State, ∃ x : Fin 4, (arg args 0 = x.val) ∧ (Accepts 0x0202 via args s)) ∧
    (∃ via : Via, ∃ args : List Word, ∃ s : State, ∃ x : Fin 4, (arg args 0 = x.val) ∧ (Accepts 0x0203 via args s) ∧
      (250000 ≤ arg2 args 1) ∧ (arg2 args 3 ≤ 1000000) ∧ (arg2 args 1 + 50000 ≤ arg2 args 3) ∧ (arg2 args 1 % 1000 =
      0) ∧ (arg2 args 3 % 1000 = 0) ∧ (arg2 args 3 + 20000 ≤ s.ports[x].ovLevel)) ∧
    (∃ via : Via, ∃ args : List Word, ∃ s : State, ∃ x : Fin 4, (arg args 0 = x.val) ∧ (Accepts 0x0204 via args s) ∧
      (50 ≤ arg args 1) ∧ (arg args 1 ≤ 20000) ∧ (arg args 1 % 10 = 0)) ∧
    (∃ via : Via, ∃ args : List Word, ∃ s : State, ∃ x : Fin 4, (arg args 0 = x.val) ∧ (Accepts 0x0205 via args s) ∧
      (s.ports[x].vMax + 20000 ≤ arg2 args 1) ∧ (arg2 args 1 ≤ 1050000) ∧ (arg2 args 1 % 1000 = 0)) ∧
    (∃ via : Via, ∃ args : List Word, ∃ s : State, ∃ x : Fin 4, (arg args 0 = x.val) ∧ (Accepts 0x0207 via args s) ∧
      (s.ports[x].state = .locked)) ∧
    (∃ via : Via, ∃ args : List Word, ∃ s : State, ∃ x : Fin 4, (arg args 0 = x.val) ∧ (Accepts 0x0207 via args s) ∧
      (s.ports[x].state ≠ .locked)) ∧
    (∃ via : Via, ∃ args : List Word, ∃ s : State, (Accepts 0x0204 via args s) ∧ (arg args 0 ≤ 3) ∧ (arg args 1 < 50 ∨
      20000 < arg args 1)) ∧
    (∃ via : Via, ∃ args : List Word, ∃ s : State, (Accepts 0x0204 via args s) ∧ (arg args 0 ≤ 3) ∧ (50 ≤ arg args 1)
      ∧ (arg args 1 ≤ 20000) ∧ (arg args 1 % 10 ≠ 0)) ∧
    (∃ via : Via, ∃ args : List Word, ∃ s : State, (Accepts 0x0203 via args s) ∧ (arg args 0 ≤ 3) ∧ (arg2 args 1 %
      1000 = 0) ∧ (arg2 args 3 % 1000 = 0) ∧ (arg2 args 1 < 250000 ∨ 1000000 < arg2 args 3 ∨ arg2 args 3 < arg2 args 1
      + 50000)) ∧
    (∃ via : Via, ∃ args : List Word, ∃ s : State, (Accepts 0x0204 via args s) ∧ (3 < arg args 0)) :=
  ⟨⟨Via.monitor, [], up, 0, (by unfold Accepts; decide)⟩,
    ⟨Via.own, [0x3], up, 3, (by unfold Accepts; decide)⟩,
    ⟨Via.own, [0x0, 0xD090, 0x3, 0x4240, 0xF], up, 0, (by unfold Accepts; decide)⟩,
    ⟨Via.own, [0x1, 0x1F4], up, 1, (by unfold Accepts; decide)⟩,
    ⟨Via.own, [0x2, 0x590, 0x10], up, 2, (by unfold Accepts; decide)⟩,
    ⟨Via.monitor, [], (setup up [onPorts fun x => { x with state := .locked }]), 0, (by unfold Accepts; decide)⟩,
    ⟨Via.own, [0x0], up, 0, (by unfold Accepts; decide)⟩,
    ⟨Via.own, [0x2], up, (by unfold Accepts; decide)⟩,
    ⟨Via.own, [0x0, 0x1F9], up, (by unfold Accepts; decide)⟩,
    ⟨Via.own, [], up, (by unfold Accepts; decide)⟩,
    ⟨Via.own, [0x10, 0xFFFF], up, (by unfold Accepts; decide)⟩⟩

/-- `Obligations.HubModeAndTrimAreStored`. -/
theorem test_meets_HubModeAndTrimAreStored :
    (∃ via : Via, ∃ args : List Word, ∃ s : State, (Accepts 0x0206 via args s) ∧ (arg args 0 ≤ 3 ∨ arg args 0 =
      0xFFFF) ∧ (∀ x : Fin 4, rankOf args x.val ≤ 4 ∧ arg args (2 + x.val) ≤ 255 ∧ (arg2 args (6 + 2 * x.val) ≤ 41000
      ∨ arg2 args (6 + 2 * x.val) = 0xFFFFFFFF)) ∧ (1000 ≤ arg2 args 14 ∧ arg2 args 14 ≤ 123000 ∨ arg2 args 14 =
      0xFFFFFFFF)) ∧
    (∃ (via : Via) (args : List Word) (s : State) (x : Fin 4) (r1 r2 : SnapRec), (Accepts 0x0208 via args s) ∧ (arg
      args 0 = x.val) ∧ (snapOf s (arg2 args 1) = some r1) ∧ (snapOf s (arg2 args 3) = some r2) ∧ (arg2 args 1 < arg2
      args 3) ∧ (r1.time + 900000 ≤ r2.time) ∧ (5000 * ((r2.time : Int) - r1.time) ≤ ((r2.ctrs.ports[x].eIn.val -
      r1.ctrs.ports[x].eIn.val).toInt) * 3600) ∧ ((arg4 args 5 - ((r2.ctrs.ports[x].eIn.val -
      r1.ctrs.ports[x].eIn.val).toInt) : Int) * 100 < -3 * ((r2.ctrs.ports[x].eIn.val -
      r1.ctrs.ports[x].eIn.val).toInt) ∨ 3 * ((r2.ctrs.ports[x].eIn.val - r1.ctrs.ports[x].eIn.val).toInt) < (arg4
      args 5 - ((r2.ctrs.ports[x].eIn.val - r1.ctrs.ports[x].eIn.val).toInt) : Int) * 100)) ∧
    (∃ (via : Via) (args : List Word) (s : State) (x : Fin 4) (r1 r2 : SnapRec), (Accepts 0x0208 via args s) ∧ (arg
      args 0 = x.val) ∧ (snapOf s (arg2 args 1) = some r1) ∧ (snapOf s (arg2 args 3) = some r2) ∧ (arg2 args 1 < arg2
      args 3) ∧ (r1.time + 900000 ≤ r2.time) ∧ (5000 * ((r2.time : Int) - r1.time) ≤ ((r2.ctrs.ports[x].eIn.val -
      r1.ctrs.ports[x].eIn.val).toInt) * 3600) ∧ (-3 * ((r2.ctrs.ports[x].eIn.val - r1.ctrs.ports[x].eIn.val).toInt) ≤
      (arg4 args 5 - ((r2.ctrs.ports[x].eIn.val - r1.ctrs.ports[x].eIn.val).toInt) : Int) * 100) ∧ ((arg4 args 5 -
      ((r2.ctrs.ports[x].eIn.val - r1.ctrs.ports[x].eIn.val).toInt) : Int) * 100 ≤ 3 * ((r2.ctrs.ports[x].eIn.val -
      r1.ctrs.ports[x].eIn.val).toInt))) :=
  ⟨⟨Via.own, [0xFFFF, 0x0, 0x0, 0x0, 0x0, 0x0, 0xFFFF, 0xFFFF, 0xFFFF, 0xFFFF, 0xFFFF, 0xFFFF, 0xFFFF, 0xFFFF,
      0xFFFF, 0xFFFF], up, (by unfold Accepts; decide)⟩,
    ⟨.monitor, [0, 0, 0, 1, 0, 0, 0, 0, 0], (setup up [fun s =>
      { s with sys.st := .run, bbx.snaps := [{ seq := 0 }, { seq := 1, time := 900000, ctrs := { s.ctrs with ports := vec fun i => { s.ctrs.ports[i] with eIn := { val := 1300000 } } } }] }]),
      0, _, _, (by unfold Accepts; decide), by decide, rfl, rfl, by decide⟩,
    ⟨.monitor, [0, 0, 0, 1, 0, 0xD620, 0x13, 0, 0], (setup up [fun s =>
      { s with sys.st := .run, bbx.snaps := [{ seq := 0 }, { seq := 1, time := 900000, ctrs := { s.ctrs with ports := vec fun i => { s.ctrs.ports[i] with eIn := { val := 1300000 } } } }] }]),
      0, _, _, (by unfold Accepts; decide), by decide, rfl, rfl, by decide⟩⟩

/-- `Obligations.TapSettingsTakeTheirWords`. -/
theorem test_meets_TapSettingsTakeTheirWords :
    (∃ via : Via, ∃ args : List Word, ∃ s : State, ∃ n : Fin 32, (AcceptsTap 0x0304 via args s n) ∧ (arg args 1 ≤
      16000)) ∧
    (∃ via : Via, ∃ args : List Word, ∃ s : State, ∃ n : Fin 32, (AcceptsTap 0x0304 via args s n) ∧ (arg args 1 =
      0xFFFF)) ∧
    (∃ via : Via, ∃ args : List Word, ∃ s : State, ∃ n : Fin 32, (AcceptsTap 0x030B via args s n) ∧ (1 ≤ arg args 1) ∧
      (arg args 1 ≤ 500) ∧ (1 ≤ arg args 2) ∧ (arg args 2 ≤ 500)) ∧
    (∃ via : Via, ∃ args : List Word, ∃ s : State, ∃ n : Fin 32, (AcceptsTap 0x0312 via args s n) ∧ (24000 ≤ arg2 args
      1) ∧ (arg2 args 1 ≤ 90000) ∧ (3 ≤ arg args 3) ∧ (arg args 3 ≤ 15)) ∧
    (∃ via : Via, ∃ args : List Word, ∃ s : State, ∃ n : Fin 32, (AcceptsTap 0x0313 via args s n) ∧ (60 ≤ arg args 1)
      ∧ (arg args 1 ≤ 90) ∧ (30 ≤ arg args 2) ∧ (arg args 2 + 10 ≤ arg args 1) ∧ (arg args 2 ≤ 75)) ∧
    (∃ via : Via, ∃ args : List Word, ∃ s : State, ∃ n : Fin 32, (AcceptsTap 0x0316 via args s n) ∧ (10 ≤ arg args 1)
      ∧ (arg args 1 ≤ arg args 2) ∧ (arg args 2 ≤ 2000) ∧ (5 ≤ arg args 3) ∧ (arg args 3 ≤ arg args 4) ∧ (arg args 4 ≤
      1000)) ∧
    (∃ via : Via, ∃ args : List Word, ∃ s : State, ∃ n : Fin 32, (AcceptsTap 0x0311 via args s n)) ∧
    (∃ via : Via, ∃ args : List Word, ∃ s : State, ∃ n : Fin 32, ∃ d, (Accepts 0x0401 via args s) ∧ (arg args 0 =
      n.val) ∧ (s.taps[n].desc = some d) ∧ (arg args 1 ≤ d.iFast) ∧ (1 ≤ arg args 1) ∧ (1 ≤ arg args 2) ∧ (arg args 2
      ≤ 255)) ∧
    (∃ via : Via, ∃ args : List Word, ∃ s : State, ∃ n : Fin 32, ∃ b : Fin 4, (AcceptsTap 0x0310 via args s n) ∧ (arg
      args 1 = b.val) ∧ (8 ≤ arg args 4 ∨ 8 ≤ arg args 7 ∨ 8 ≤ arg args 9)) ∧
    (∃ via : Via, ∃ args : List Word, ∃ s : State, ∃ n : Fin 32, ∃ b : Fin 4, (AcceptsTap 0x0310 via args s n) ∧ (arg
      args 1 = b.val) ∧ (arg args 4 < 8) ∧ (arg args 7 < 8) ∧ (arg args 9 < 8)) :=
  ⟨⟨Via.own, [0x2], up, 2, (by unfold AcceptsTap Accepts; decide)⟩,
    ⟨Via.own, [0x8, 0xFFFF], up, 8, (by unfold AcceptsTap Accepts; decide)⟩,
    ⟨Via.own, [0x10, 0x64, 0x7], up, 16, (by unfold AcceptsTap Accepts; decide)⟩,
    ⟨Via.monitor, [0xE, 0xBB80, 0x0, 0x5], up, 14, (by unfold AcceptsTap Accepts; decide)⟩,
    ⟨Via.monitor, [0x15, 0x3C, 0x32], up, 21, (by unfold AcceptsTap Accepts; decide)⟩,
    ⟨Via.own, [0x2, 0xA, 0x64, 0x5, 0x32], up, 2, (by unfold AcceptsTap Accepts; decide)⟩,
    ⟨Via.own, [0x1], up, 1, (by unfold AcceptsTap Accepts; decide)⟩,
    ⟨Via.own, [0x1, 0x2, 0x11], (setup up [onTaps fun x =>
      { x with desc := some { cells := 16, nameplate := 1000, iFast := 2000, serial := 7 } }]), 1,
      { cells := 16, ntcs := 2, nameplate := 1000, iFast := 2000, serial := 0x7 }, (by unfold Accepts; decide)⟩,
    ⟨Via.own, [0xF, 0x0, 0x5DC, 0xAF0, 0x64], up, 15, 0, (by unfold AcceptsTap Accepts; decide)⟩,
    ⟨Via.own, [0x11, 0x2], up, 17, 2, (by unfold AcceptsTap Accepts; decide)⟩⟩

/-- `Obligations.ReferencesAndSupportReachTheTap`. -/
theorem test_meets_ReferencesAndSupportReachTheTap :
    (∃ via : Via, ∃ args : List Word, ∃ s : State, ∃ n : Fin 32, (AcceptsTap 0x030C via args s n) ∧ (18000 ≤ arg2 args
      1) ∧ (arg2 args 1 ≤ 96000) ∧ ((∀ d ∈ s.taps[n].desc, arg2 args 1 < d.cells * d.cvC))) ∧
    (∃ via : Via, ∃ args : List Word, ∃ s : State, ∃ n : Fin 32, (AcceptsTap 0x030D via args s n) ∧ (18000 ≤ arg2 args
      3) ∧ (arg2 args 3 ≤ arg2 args 1) ∧ (arg2 args 1 ≤ arg2 args 5) ∧ (arg2 args 5 ≤ 96000) ∧ (arg args 7 ≤ 1)) ∧
    (∃ via : Via, ∃ args : List Word, ∃ s : State, ∃ n : Fin 32, (AcceptsTap 0x030F via args s n) ∧ (arg args 1 ≤ 2) ∧
      (18000 ≤ arg2 args 2) ∧ (arg2 args 2 ≤ 96000)) ∧
    (∃ via : Via, ∃ args : List Word, ∃ s : State, ∃ n : Fin 32, (AcceptsTap 0x0303 via args s n) ∧ (arg args 1 < 12)
      ∧ (s.taps[n].acted = 0)) :=
  ⟨⟨Via.own, [0x4, 0xFFFF], up, 4, (by unfold AcceptsTap Accepts; decide)⟩,
    ⟨Via.host 3, [0x8, 0xBB80, 0x0, 0x9C40, 0x0, 0xCB20, 0x0, 0x1], up, 8, (by unfold AcceptsTap Accepts; decide)⟩,
    ⟨Via.own, [0x0, 0x0, 0x0, 0x1], up, 0, (by unfold AcceptsTap Accepts; decide)⟩,
    ⟨Via.own, [0x0], (setup up [onTaps fun x => { x with acted := 0 }]), 0, (by unfold AcceptsTap Accepts; decide)⟩⟩

/-- `Obligations.DescriptorIsTakenWhole`. -/
theorem test_meets_DescriptorIsTakenWhole :
    (∃ via : Via, ∃ args : List Word, ∃ s : State, ∃ n : Fin 32, (AcceptsTap 0x0301 via args s n) ∧ (wordsDescriptor
      args = none) ∧ (descOk s n (descOf args) = true) ∧ (restful s.taps[n] = true) ∧ (s.taps[n].acted = 0)) :=
  ⟨Via.own, [0x5, 0x440, 0x3E8, 0x1388, 0x7, 0x0, 0x0, 0x0, 0xFFFF, 0xFFFF, 0xFFFF, 0xFFFF, 0xFFFF, 0xFFFF, 0xFFFF, 0xFFFF, 0xFFFF, 0xFFFF, 0xFFFF, 0x8000, 0x8000, 0x8000, 0x8000, 0x8000, 0xFFFF, 0xFFFF, 0xFFFF], (setup up [onTaps fun x => { x with acted := 0 }]), 5, (by unfold AcceptsTap Accepts; decide)⟩

/-- `Obligations.ReadsChangeNothingButTheAnswer`. -/
theorem test_meets_ReadsChangeNothingButTheAnswer :
    (∃ via : Via, ∃ args : List Word, ∃ s : State, ∃ n : Fin 32, ∃ d : Descriptor, (Accepts 0x0302 via args s) ∧ (arg
      args 0 = n.val) ∧ (behind (0x0302, via, args) s = false) ∧ (gangedOdd s n = false) ∧ (s.taps[n].desc = some d)) ∧
    (∃ via : Via, ∃ args : List Word, ∃ s : State, ∃ n : Fin 32, (Accepts 0x0302 via args s) ∧ (arg args 0 = n.val) ∧
      (behind (0x0302, via, args) s = false) ∧ (gangedOdd s n = false) ∧ (s.taps[n].desc = none)) ∧
    (∃ via : Via, ∃ args : List Word, ∃ s : State, ∃ n : Fin 32, ∃ h, (Accepts 0x030A via args s) ∧ (arg args 0 =
      n.val) ∧ (gangedOdd s n = false) ∧ (arg args 1 = 0) ∧ (lastHist s n = some h)) ∧
    (∃ via : Via, ∃ args : List Word, ∃ s : State, ∃ n : Fin 32, (Accepts 0x0302 via args s) ∧ (arg args 0 = n.val) ∧
      (behind (0x0302, via, args) s = true)) ∧
    (∃ via : Via, ∃ args : List Word, ∃ s : State, ∃ n : Fin 32, (Accepts 0x030A via args s) ∧ (arg args 0 = n.val) ∧
      (gangedOdd s n = false) ∧ (arg args 1 ≤ 63) ∧ (lastHist s n = none)) ∧
    (∃ via : Via, ∃ args : List Word, ∃ s : State, ∃ n : Fin 32, (Accepts 0x0315 via args s) ∧ (arg args 0 = n.val) ∧
      (behind (0x0315, via, args) s = false) ∧ (gangedOdd s n = false) ∧ (clUp s n = true) ∧ (1 ≤ arg args 2) ∧ (arg
      args 2 ≤ 4) ∧ (arg args 1 + arg args 2 ≤ 16)) ∧
    (∃ via : Via, ∃ args : List Word, ∃ s : State, ∃ n : Fin 32, (Accepts 0x0315 via args s) ∧ (arg args 0 = n.val) ∧
      (behind (0x0315, via, args) s = false) ∧ (clUp s n = false)) ∧
    (∃ via : Via, ∃ args : List Word, ∃ s : State, (Accepts 0x0402 via args s) ∧ (500 ≤ arg args 0) ∧ (arg args 0 ≤
      3600) ∧ (arg args 0 % 10 = 0)) ∧
    (∃ via : Via, ∃ args : List Word, ∃ s : State, ∃ n : Fin 32, (Accepts 0x0403 via args s) ∧ (arg args 0 = n.val) ∧
      (arg args 1 = 1)) ∧
    (∃ via : Via, ∃ args : List Word, ∃ s : State, ∃ n : Fin 32, (Accepts 0x0501 via args s) ∧ (arg args 0 = 0) ∧ (arg
      args 1 = n.val) ∧ (s.mtr.restored = true)) ∧
    (∃ via : Via, ∃ args : List Word, ∃ s : State, ∃ x : Fin 4, (Accepts 0x0501 via args s) ∧ (arg args 0 = 1) ∧ (arg
      args 1 = x.val) ∧ (s.mtr.restored = true)) ∧
    (∃ via : Via, ∃ args : List Word, ∃ s : State, (Accepts 0x0502 via args s) ∧ (arg args 0 ≤ 9)) ∧
    (∃ via : Via, ∃ args : List Word, ∃ s : State, (Accepts 0x0504 via args s) ∧ (arg args 0 % 2 = 0) ∧ (arg args 1 =
      2) ∧ (arg args 0 + 2 ≤ s.mtr.stmt.length)) ∧
    (∃ via : Via, ∃ args : List Word, ∃ s : State, (Accepts 0x0504 via args s) ∧ (arg args 0 % 2 = 0) ∧ (arg args 1 =
      2) ∧ (s.mtr.stmt = [])) :=
  ⟨⟨Via.monitor, [0x5], (setup up [onTaps fun x =>
      { x with desc := some { cells := 16, nameplate := 1000, iFast := 2000, serial := 7 } }]), 5,
      { cells := 16, ntcs := 2, nameplate := 1000, iFast := 2000, serial := 0x7 }, (by unfold Accepts; decide)⟩,
    ⟨Via.host 3, [0x0], (setup up [onTaps fun x => { x with desc := none }]), 0, (by unfold Accepts; decide)⟩,
    ⟨Via.own, [], (setup up [fun s =>
      { s with bbx.hist := [{ tap := 0 }, { tap := 1 }, { tap := 7, cap := some 400 }] }]), 0,
      { seq := 0, tap := 0, void := false, serial := 0x0, cap := none, cup := none, cupTime := 0, capTime := 0, carried := false, timeValid := false, inHold := false, time := 0, flushed := false, okA := true, okB := true, spoil := 0 },
      (by unfold Accepts; decide)⟩,
    ⟨Via.own, [0x1], (setup up [fun s => { s with held := [(0x0304, .own, [1, 500])] }]), 1,
      (by unfold Accepts; decide)⟩,
    ⟨Via.monitor, [], up, 0, (by unfold Accepts; decide)⟩,
    ⟨Via.own, [0x6, 0x3, 0x1], up, 6, (by unfold Accepts; decide)⟩,
    ⟨Via.own, [0x1, 0x1F4], (setup up [fun s => { s with sys.clOn := 0 }]), 1, (by unfold Accepts; decide)⟩,
    ⟨Via.own, [0xE10], up, (by unfold Accepts; decide)⟩,
    ⟨Via.own, [0x19, 0x1], (setup .reset [fun s => { s with sys.st := .safe }, fun s =>
      { s with sys.cores := 0x0F }]), 25, (by unfold Accepts; decide)⟩,
    ⟨Via.own, [], (setup .reset [fun s => { s with sys.st := .recovery }, fun s => { s with mtr.restored := true }]),
      0, (by unfold Accepts; decide)⟩,
    ⟨Via.own, [0x1, 0x1], (setup .reset [fun s => { s with sys.st := .recovery }, fun s =>
      { s with mtr.restored := true }]), 1, (by unfold Accepts; decide)⟩,
    ⟨Via.monitor, [0x9], up, (by unfold Accepts; decide)⟩,
    ⟨Via.own, [0x2, 0x2], (setup up [fun s => { s with mtr.stmt := [1, 2, 3, 4] }]), (by unfold Accepts; decide)⟩,
    ⟨Via.own, [0x8, 0x2], (setup up [fun s => { s with mtr.stmt := [] }]), (by unfold Accepts; decide)⟩⟩

/-- `Obligations.TapCommandsMoveTheTap`. -/
theorem test_meets_TapCommandsMoveTheTap :
    (∃ via : Via, ∃ args : List Word, ∃ s : State, ∃ n : Fin 32, (s.taps[n].acted = 0) ∧ (AcceptsTap 0x0305 via args s
      n) ∧ (stoppable s.taps[n].state = true)) ∧
    (∃ via : Via, ∃ args : List Word, ∃ s : State, ∃ n : Fin 32, (s.taps[n].acted = 0) ∧ (AcceptsTap 0x0305 via args s
      n) ∧ (s.taps[n].state = .standIn) ∧ (s.taps[n].stake.slotFb = false ∨ s.taps[n].stake.conv = true ∧
      s.taps[n].stake.sw = true)) ∧
    (∃ via : Via, ∃ args : List Word, ∃ s : State, ∃ n : Fin 32, (s.taps[n].acted = 0) ∧ (AcceptsTap 0x0305 via args s
      n) ∧ (s.taps[n].state = .standIn) ∧ (s.taps[n].stake.slotFb = true) ∧ (s.taps[n].stake.sw = false)) ∧
    (∃ via : Via, ∃ args : List Word, ∃ s : State, ∃ n : Fin 32, (s.taps[n].acted = 0) ∧ (AcceptsTap 0x0306 via args s
      n) ∧ (s.taps[n].state = .suspended) ∧ (s.taps[n].cause = 1)) ∧
    (∃ via : Via, ∃ args : List Word, ∃ s : State, ∃ n : Fin 32, (s.taps[n].acted = 0) ∧ (AcceptsTap 0x0306 via args s
      n) ∧ (s.taps[n].state = .suspended) ∧ (s.taps[n].cause ≠ 1)) ∧
    (∃ via : Via, ∃ args : List Word, ∃ s : State, ∃ n : Fin 32, (s.taps[n].acted = 0) ∧ (AcceptsTap 0x0308 via args s
      n) ∧ (s.taps[n].state = .faultShort) ∧ (cells s.taps[n] * 500 ≤ kelvin s.taps[n]) ∧ (cells s.taps[n] * 500 ≤
      s.taps[n].vPair) ∧ (2000 ≤ s.taps[n].stake.clearMs)) ∧
    (∃ via : Via, ∃ args : List Word, ∃ s : State, ∃ n : Fin 32, (s.taps[n].acted = 0) ∧ ∃ d, (AcceptsTap 0x0308 via
      args s n) ∧ (s.taps[n].state = .faultOv) ∧ (s.taps[n].desc = some d)) ∧
    (∃ via : Via, ∃ args : List Word, ∃ s : State, ∃ n : Fin 32, ∃ d : Descriptor, (s.taps[n].desc = some d) ∧
      (AcceptsTap 0x0307 via args s n) ∧ (s.taps[n].state = .precharge ∨ s.taps[n].state = .cc ∨ s.taps[n].state =
      .cv)) ∧
    (∃ via : Via, ∃ args : List Word, ∃ s : State, ∃ n : Fin 32, ∃ d : Descriptor, (s.taps[n].desc = some d) ∧
      (AcceptsTap 0x0307 via args s n) ∧ (s.taps[n].state = .faultTimer) ∧ (s.sys.st = .run) ∧ (isHelper s.taps[n] =
      false) ∧ (s.taps[n].acted = 0)) ∧
    (∃ via : Via, ∃ args : List Word, ∃ s : State, ∃ n : Fin 32, ∃ d : Descriptor, (s.taps[n].desc = some d) ∧
      (AcceptsTap 0x0309 via args s n) ∧ (s.taps[n].state = .absent) ∧ ((s.bbx.okA || s.bbx.okB) = true)) ∧
    (∃ via : Via, ∃ args : List Word, ∃ s : State, ∃ n : Fin 32, ∃ d : Descriptor, (s.taps[n].desc = some d) ∧
      (AcceptsTap 0x0309 via args s n) ∧ (s.bbx.okA = false) ∧ (s.bbx.okB = false) ∧ (s.taps[n].state = .absent)) ∧
    (∃ (via : Via) (args : List Word) (s : State) (n : Fin 32) (d : Descriptor), (s.taps[n].desc = some d) ∧ ∃ (h :
      HistRec) (rs : List BbxItem), (s.powered = true) ∧ (s.bbx.queue = .hist h :: rs) ∧ (h.okA = false) ∧ (h.okB =
      false) ∧ (s.bbx.okA = true) ∧ (s.bbx.okB = true) ∧ (carriedCopy h s.bbx = none) ∧ (s.bbx.forgets = [(h.seq, n,
      via)]) ∧ (s.taps[n].acted = 0) ∧ (s.bbx.missA = 2) ∧ (s.bbx.missB = 2)) :=
  ⟨⟨Via.monitor, [0x17], (setup up [onTaps fun x => { x with state := .detect }, onTaps fun x =>
      { x with acted := 0 }]), 23, (by unfold AcceptsTap Accepts; decide)⟩,
    ⟨Via.own, [0x0, 0x9], (setup up [onTaps fun x => { x with acted := 0 }, onTaps fun x =>
      { x with state := .standIn }, onTaps fun x => { x with stake.slotFb := false }]), 0,
      (by unfold AcceptsTap Accepts; decide)⟩,
    ⟨Via.host 0, [0x14], (setup up [onTaps fun x => { x with acted := 0 }, onTaps fun x =>
      { x with state := .standIn }, onTaps fun x => { x with stake.slotFb := true }, onTaps fun x =>
      { x with stake.sw := false }]), 20, (by unfold AcceptsTap Accepts; decide)⟩,
    ⟨Via.own, [0x4, 0x1], (setup up [onTaps fun x => { x with acted := 0 }, onTaps fun x =>
      { x with state := .suspended }, onTaps fun x => { x with cause := 1 }]), 4,
      (by unfold AcceptsTap Accepts; decide)⟩,
    ⟨Via.monitor, [0xA], (setup up [onTaps fun x => { x with acted := 0 }, onTaps fun x =>
      { x with state := .suspended }]), 10, (by unfold AcceptsTap Accepts; decide)⟩,
    ⟨Via.monitor, [0x9], (setup up [onTaps fun x => { x with vKel := 50000, vPair := 50000 }, onTaps fun x =>
      { x with acted := 0 }, onTaps fun x => { x with state := .faultShort }, onTaps fun x =>
      { x with stake.clearMs := 2000 }]), 9, (by unfold AcceptsTap Accepts; decide)⟩,
    ⟨Via.own, [0x4, 0x3E80], (setup up [onTaps fun x =>
      { x with desc := some { cells := 16, nameplate := 1000, iFast := 2000, serial := 7 } }, onTaps fun x =>
      { x with acted := 0 }, onTaps fun x => { x with state := .faultOv }]), 4, by decide,
      { cells := 16, ntcs := 2, nameplate := 1000, iFast := 2000, serial := 0x7 },
      (by unfold AcceptsTap Accepts; decide)⟩,
    ⟨Via.own, [0x1], (setup up [onTaps fun x =>
      { x with desc := some { cells := 16, nameplate := 1000, iFast := 2000, serial := 7 } }, onTaps fun x =>
      { x with state := .precharge }]), 1,
      { cells := 16, ntcs := 2, nameplate := 1000, iFast := 2000, serial := 0x7 },
      (by unfold AcceptsTap Accepts; decide)⟩,
    ⟨Via.host 1, [0x7, 0x0], (setup up [onTaps fun x =>
      { x with desc := some { cells := 16, nameplate := 1000, iFast := 2000, serial := 7 } }, onTaps fun x =>
      { x with state := .faultTimer }, fun s => { s with sys.st := .run }, onTaps fun x => { x with acted := 0 }]), 7,
      { cells := 16, ntcs := 2, nameplate := 1000, iFast := 2000, serial := 0x7 },
      (by unfold AcceptsTap Accepts; decide)⟩,
    ⟨Via.own, [0x19], (setup up [onTaps fun x =>
      { x with desc := some { cells := 16, nameplate := 1000, iFast := 2000, serial := 7 } }, onTaps fun x =>
      { x with state := .absent }]), 25, { cells := 16, ntcs := 2, nameplate := 1000, iFast := 2000, serial := 0x7 },
      (by unfold AcceptsTap Accepts; decide)⟩,
    ⟨Via.own, [0x2, 0x31], (setup up [onTaps fun x =>
      { x with desc := some { cells := 16, nameplate := 1000, iFast := 2000, serial := 7 } }, fun s =>
      { s with bbx.okA := false }, fun s => { s with bbx.okB := false }, onTaps fun x =>
      { x with state := .absent }]), 2, { cells := 16, ntcs := 2, nameplate := 1000, iFast := 2000, serial := 0x7 },
      (by unfold AcceptsTap Accepts; decide)⟩,
    ⟨.monitor, [], (setup up [fun s =>
      { s with bbx.okA := true, bbx.okB := true, bbx.queue := [.hist { seq := 9, okA := false, okB := false }], bbx.forgets := [(9, 0, .monitor)], bbx.missA := 2, bbx.missB := 2 },
      onTaps fun x => { x with desc := some { cells := 16, nameplate := 1000, iFast := 2000, serial := 7 } }]), 0,
      { cells := 16, nameplate := 1000, iFast := 2000, serial := 7 }, by decide,
      { seq := 9, okA := false, okB := false }, [], by decide⟩⟩

/-- `Obligations.StandInAndGangCommandsAct`. -/
theorem test_meets_StandInAndGangCommandsAct :
    (∃ via : Via, ∃ args : List Word, ∃ s : State, ∃ n : Fin 32, (AcceptsTap 0x030E via args s n) ∧ (s.taps[n].state =
      .absent ∨ s.taps[n].state = .faultOpen) ∧ (s.taps[n].stake.slotFb = true) ∧ ((siVolt s.taps[n]).isSome = true) ∧
      ((rating s n).1 ≠ 0) ∧ (s.taps[n].cfg.gang = false) ∧ (s.taps[n].acted = 0)) ∧
    (∃ via : Via, ∃ args : List Word, ∃ s : State, ∃ n : Fin 32, (Accepts 0x0314 via args s) ∧ (arg args 0 = n.val) ∧
      (clUp s n = true) ∧ (n.val % 2 = 0) ∧ (s.taps[n].cfg.share = 0) ∧ (s.taps[partner n].cfg.share = 0) ∧
      (s.taps[n].stake.conv = false) ∧ (s.taps[partner n].stake.conv = false) ∧ (s.taps[n].stake.sw = false) ∧
      (s.taps[partner n].stake.sw = false) ∧ (2 ≤ arg args 1)) ∧
    (∃ via : Via, ∃ args : List Word, ∃ s : State, ∃ n : Fin 32, (Accepts 0x0314 via args s) ∧ (arg args 0 = n.val) ∧
      (clUp s n = true) ∧ (n.val % 2 = 0) ∧ (s.taps[n].cfg.share = 0) ∧ (s.taps[partner n].cfg.share = 0) ∧
      (s.taps[n].stake.conv = false) ∧ (s.taps[partner n].stake.conv = false) ∧ (s.taps[n].stake.sw = false) ∧
      (s.taps[partner n].stake.sw = false) ∧ (arg args 1 < 2) ∧ (gangOk s n (partner n) = true) ∧ (s.taps[n].cfg.gang
      = false) ∧ (s.taps[partner n].cfg.gang = false)) :=
  ⟨⟨Via.monitor, [0x1D, 0x1, 0x0], (setup up [fun s => { s with sys.st := .run }, onTaps fun x =>
      { x with cfg.siV := some 48000 }, onTaps fun x => { x with stake.slotFb := true }, onTaps fun x =>
      { x with cfg.gang := false }, onTaps fun x => { x with acted := 0 }]), 29,
      (by unfold AcceptsTap Accepts; decide)⟩,
    ⟨Via.own, [0x4, 0xFFFF], (setup up [onTaps fun x => { x with cfg.share := 0 }, onTaps fun x =>
      { x with cfg.share := 0 }, onTaps fun x => { x with stake.conv := false }, onTaps fun x =>
      { x with stake.conv := false }, onTaps fun x => { x with stake.sw := false }, onTaps fun x =>
      { x with stake.sw := false }]), 4, (by unfold Accepts; decide)⟩,
    ⟨Via.own, [0x4, 0x1], (setup up [onTaps fun x => { x with cfg.share := 0 }, onTaps fun x =>
      { x with cfg.share := 0 }, onTaps fun x => { x with stake.conv := false }, onTaps fun x =>
      { x with stake.conv := false }, onTaps fun x => { x with stake.sw := false }, onTaps fun x =>
      { x with stake.sw := false }, onTaps fun x => { x with cfg.gang := false }, onTaps fun x =>
      { x with cfg.gang := false }]), 4, (by unfold Accepts; decide)⟩⟩

/-- `Obligations.ProfileCommandsEditOneProfile`. -/
theorem test_meets_ProfileCommandsEditOneProfile :
    (∃ via : Via, ∃ args : List Word, ∃ s : State, ∃ k : Fin 8, (Accepts 0x010D via args s) ∧ (arg args 0 % 256 =
      k.val) ∧ (4 ≤ arg args 0 / 256)) ∧
    (∃ via : Via, ∃ args : List Word, ∃ s : State, ∃ k : Fin 8, (Accepts 0x010D via args s) ∧ (arg args 0 % 256 =
      k.val) ∧ (arg args 0 / 256 < 4) ∧ ∃ run : Nat, ∃ str : Nat, (run ≤ 1) ∧ (str ≤ 2) ∧ (arg args 1 = run + 4 *
      str)) ∧
    (∃ (via : Via) (args : List Word) (s : State) (k : Fin 8), (Accepts 0x010D via args s) ∧ (arg args 0 % 256 =
      k.val) ∧ (arg args 0 / 256 < 4) ∧ ∃ p : Profile, (s.vsel.work = some (k.val, p)) ∧ (p.entries.length < 64) ∧
      (entryCheck (arg args 1) (arg args 2) ((tabulate 27 fun j => argW args (3 + j.val)).take (arg args 2)) s =
      none)) :=
  ⟨⟨Via.own, [0x1000, 0x0], up, 0, (by unfold Accepts; decide)⟩,
    ⟨Via.monitor, [0x1], up, 1, (by unfold Accepts; decide), by decide, by decide, 0, 0, by decide⟩,
    ⟨.monitor, [1, 0x0204, 2, 0, 500], (setup up [fun s => { s with vsel.work := some (1, {}) }]), 1,
      (by unfold Accepts; decide), by decide, by decide, {}, by decide⟩⟩

/-- `Obligations.PourCommandsStageThePour`. -/
theorem test_meets_PourCommandsStageThePour :
    (∃ via : Via, ∃ args : List Word, ∃ s : State, (Accepts 0x0601 via args s) ∧ (arg args 0 ≠ 0) ∧ (s.pour.state =
      .idle)) ∧
    (∃ via : Via, ∃ args : List Word, ∃ s : State, (Accepts 0x0601 via args s) ∧ (arg args 0 ≠ 0) ∧ (s.pour.state ≠
      .idle)) ∧
    (∃ (via : Via) (args : List Word) (s : State), (Accepts 0x0602 via args s) ∧ (argW args 0 = s.pour.id) ∧
      (s.pour.state = .opened) ∧ (s.pour.entries.length < 64) ∧ (entryCheck (arg args 1) (arg args 2) ((tabulate 27
      fun j => argW args (3 + j.val)).take (arg args 2)) s = none)) ∧
    (∃ via : Via, ∃ args : List Word, ∃ s : State, (Accepts 0x0603 via args s) ∧ (argW args 0 = s.pour.id) ∧
      (s.pour.state = .opened) ∧ (validate 0 s.pour.entries { s with pour := { s.pour with state := .validating } } =
      none)) ∧
    (∃ (via : Via) (args : List Word) (s : State), ∃ k c : Nat, (Accepts 0x0603 via args s) ∧ (argW args 0 =
      s.pour.id) ∧ (s.pour.state = .opened) ∧ (validate 0 s.pour.entries
      { s with pour := { s.pour with state := .validating } } = some (k, c))) ∧
    (∃ via : Via, ∃ args : List Word, ∃ s : State, (Accepts 0x0604 via args s) ∧ (argW args 0 = s.pour.id) ∧
      (s.pour.state = .opened ∨ s.pour.state = .prepared)) ∧
    (∃ via : Via, ∃ args : List Word, ∃ s : State, (Accepts 0x0604 via args s) ∧ (argW args 0 = s.pour.id) ∧
      (s.pour.state = .released) ∧ (s.pour.tick = false)) ∧
    (∃ via : Via, ∃ args : List Word, ∃ s : State, (Accepts 0x0604 via args s) ∧ (argW args 0 = s.pour.id) ∧
      (s.pour.state = .released) ∧ (s.pour.tick = true)) ∧
    (∃ via : Via, ∃ args : List Word, ∃ s : State, (Accepts 0x0604 via args s) ∧ (s.pour.state = .idle ∨ argW args 0 =
      s.pour.id ∧ s.pour.state = .validating)) ∧
    (∃ via : Via, ∃ args : List Word, ∃ s : State, (Accepts 0x0604 via args s) ∧ (s.pour.state ≠ .idle) ∧ (argW args 0
      ≠ s.pour.id)) :=
  ⟨⟨Via.host 1, [0xB, 0xF05E], (setup up [fun s => { s with pour.state := .idle }]), (by unfold Accepts; decide)⟩,
    ⟨Via.host 0, [0x3], (setup up [fun s => { s with pour.id := 1, pour.state := .opened }]),
      (by unfold Accepts; decide)⟩,
    ⟨.monitor, [1, 0x0204, 2, 0, 500], (setup up [fun s => { s with pour.id := 1, pour.state := .opened }]),
      (by unfold Accepts; decide), by decide⟩,
    ⟨Via.own, [0x0, 0x64], (setup up [fun s => { s with pour.state := .opened }]), (by unfold Accepts; decide)⟩,
    ⟨.monitor, [3], (setup up [fun s =>
      { s with pour.id := 3, pour.state := .opened, pour.entries := [{ op := 0x0204, args := [9, 500], outcome := 2 }] }]),
      0, 0x22, (by unfold Accepts; decide), by decide⟩,
    ⟨Via.own, [], (setup up [fun s => { s with pour.state := .opened }]), (by unfold Accepts; decide)⟩,
    ⟨Via.own, [], (setup up [fun s => { s with pour.state := .released }, fun s => { s with pour.tick := false }]),
      (by unfold Accepts; decide)⟩,
    ⟨Via.own, [], (setup up [fun s => { s with pour.state := .released }, fun s => { s with pour.tick := true }]),
      (by unfold Accepts; decide)⟩,
    ⟨Via.host 1, [0x16, 0x3], (setup up [fun s => { s with pour.state := .idle }]), (by unfold Accepts; decide)⟩,
    ⟨Via.own, [0x2], (setup up [fun s => { s with pour.id := 1, pour.state := .opened }]),
      (by unfold Accepts; decide)⟩⟩

/-- `Obligations.PourLineReleasesTimesAndCommits`. -/
theorem test_meets_PourLineReleasesTimesAndCommits :
    (∃ s : State, (s.pour.state = .validating) ∧ (s.pour.profile = false)) ∧
    (∃ s : State, (s.pour.state = .validating) ∧ (s.pour.profile = true) ∧ (s.pour.tick = true)) ∧
    (∃ s : State, (s.powered = true) ∧ (s.pour.state = .prepared) ∧ (s.pour.id ≠ 0)) ∧
    (∃ s : State, ∃ id : Option Word, (s.powered = true) ∧ (id ≠ some s.pour.id)) ∧
    (∃ s : State, (s.powered = true) ∧ (abortable s.pour = true) ∧ (s.pour.id ≠ 0)) ∧
    (∃ s : State, (s.powered = true) ∧ (s.pour.tick = true)) ∧
    (∃ s : State, (s.powered = true) ∧ (s.pour.tick = false)) ∧
    (∃ s : State, (s.pour.state = .prepared ∨ s.pour.state = .released) ∧ (s.pour.tick = false) ∧ (s.pour.rise =
      false) ∧ (s.pour.profile = false)) ∧
    (∃ s : State, (s.pour.state = .prepared ∨ s.pour.state = .released) ∧ (s.pour.tick = false) ∧ (s.pour.profile =
      true)) ∧
    (∃ s : State, (s.pour.veto = true)) ∧
    (∃ s : State, (s.pour.holdPull = true) ∧ (s.sys.st ≠ .hold)) ∧
    (∃ lowNs : Nat, ∃ s : State, (s.powered = true) ∧ (s.pour.pulling = false) ∧ (s.pour.lowKnown = true) ∧ (1000 ≤
      lowNs) ∧ (lowNs ≤ 50000000) ∧ (s.pour.state = .released) ∧ (s.vsel.staged = none) ∧ (s.pour.rise = true ∨
      s.pour.tick = false)) ∧
    (∃ lowNs : Nat, ∃ s : State, (s.powered = true) ∧ (s.pour.pulling = false) ∧ ∃ stood : Bool, (lowNs < 1000 ∨
      50000000 < lowNs ∨ stood = false ∨ s.pour.lowKnown = false ∨ s.pour.state ≠ .released)) :=
  ⟨⟨(setup .reset [fun s => { s with pour.state := .validating }, fun s => { s with pour.profile := false }]), by
      decide⟩,
    ⟨(setup .reset [fun s => { s with pour.state := .validating }, fun s => { s with pour.profile := true }, fun s =>
      { s with pour.tick := true }]), by decide⟩,
    ⟨(setup .reset [fun s => { s with pour.id := 1, pour.state := .opened }, fun s =>
      { s with pour.state := .prepared }]), by decide⟩,
    ⟨.reset, none, by decide⟩,
    ⟨(setup .reset [fun s => { s with pour.id := 1, pour.state := .opened }]), by decide⟩,
    ⟨(setup .reset [fun s => { s with pour.tick := true }]), by decide⟩,
    ⟨(setup .reset [fun s => { s with pour.tick := false }]), by decide⟩,
    ⟨(setup .reset [fun s => { s with pour.state := .prepared }, fun s => { s with pour.tick := false }, fun s =>
      { s with pour.rise := false }, fun s => { s with pour.profile := false }]), by decide⟩,
    ⟨(setup .reset [fun s => { s with pour.state := .prepared }, fun s => { s with pour.tick := false }, fun s =>
      { s with pour.profile := true }]), by decide⟩,
    ⟨(setup .reset [fun s => { s with pour.veto := true }]), by decide⟩,
    ⟨(setup .reset [fun s => { s with pour.holdPull := true }]), by decide⟩,
    ⟨1799, (setup .reset [fun s => { s with pour.lowKnown := true }, fun s => { s with pour.state := .released }, fun
      s => { s with vsel.staged := none }, fun s => { s with pour.rise := true }]), by decide⟩,
    ⟨3, .reset, by decide, by decide, true, by decide⟩⟩

/-- `Obligations.VselCountsAndStages`. -/
theorem test_meets_VselCountsAndStages :
    (∃ s : State, ∃ v : Fin 8, (s.powered = true) ∧ (s.vsel.pins ≠ v.val) ∧ (s.vsel.enabled = true)) ∧
    (∃ s : State, ∃ v : Fin 8, (s.powered = true) ∧ (s.vsel.pins ≠ v.val) ∧ (s.vsel.enabled = false)) ∧
    (∃ s : State, ∃ k : Fin 8, (s.vsel.applying = some k.val) ∧ (s.vsel.staged ≠ some k.val) ∧ (s.sys.st = .standby ∨
      s.sys.st = .run) ∧ (s.vsel.tries = 0)) ∧
    (∃ s : State, ∃ k : Fin 8, (s.vsel.applying = some k.val) ∧ (s.vsel.staged ≠ some k.val) ∧ (s.sys.st = .standby ∨
      s.sys.st = .run) ∧ (s.vsel.tries ≠ 0)) :=
  ⟨⟨(setup .reset [fun s => { s with vsel.enabled := true }]), 4, by decide⟩,
    ⟨(setup .reset [fun s => { s with vsel.enabled := false }]), 4, by decide⟩,
    ⟨(setup up [fun s => { s with vsel.applying := some 1, vsel.tries := 1 }, fun s => { s with vsel.tries := 0 }]),
      1, by decide⟩,
    ⟨(setup up [fun s => { s with vsel.applying := some 1, vsel.tries := 1 }]), 1, by decide⟩⟩

/-- `Obligations.LinkCommandsAct`. -/
theorem test_meets_LinkCommandsAct :
    (∃ via : Via, ∃ args : List Word, ∃ s : State, ∃ x : Fin 4, (arg args 0 = x.val) ∧ (s.links[x].acted = 0 ∨ 6 ≤
      s.links[x].acted) ∧ (Accepts 0x0701 via args s) ∧ (4 ≤ arg args 1)) ∧
    (∃ via : Via, ∃ args : List Word, ∃ s : State, ∃ x : Fin 4, (arg args 0 = x.val) ∧ (s.links[x].acted = 0 ∨ 6 ≤
      s.links[x].acted) ∧ (Accepts 0x0701 via args s) ∧ (arg args 1 = 2 ∨ arg args 1 = 3) ∧ (x.val ≠ 3)) ∧
    (∃ via : Via, ∃ args : List Word, ∃ s : State, ∃ x : Fin 4, (arg args 0 = x.val) ∧ (s.links[x].acted = 0 ∨ 6 ≤
      s.links[x].acted) ∧ (Accepts 0x0701 via args s) ∧ (arg args 1 = 2 ∨ arg args 1 = 3) ∧ (x.val = 3) ∧
      (s.links[x].inForce = false) ∧ (s.links[x].attached = false) ∧ (s.links[x].state ≠ .swap) ∧ (s.links[x].present
      ≠ (if arg args 1 = 2 then .source else .dual))) ∧
    (∃ via : Via, ∃ args : List Word, ∃ s : State, ∃ x : Fin 4, (arg args 0 = x.val) ∧ (s.links[x].acted = 0 ∨ 6 ≤
      s.links[x].acted) ∧ (Accepts 0x0701 via args s) ∧ (arg args 1 < 4) ∧ (x.val = 3) ∧ (s.links[x].attached = true)
      ∧ (s.links[x].present ≠ (match arg args 1 with | 0 => .off | 1 => .sink | 2 => .source | _ => .dual))) ∧
    (∃ (via : Via) (args : List Word) (s : State) (x : Fin 4), (arg args 0 = x.val) ∧ (s.links[x].acted ≠ 0) ∧
      (s.links[x].acted < 6) ∧ (arg args 1 < 2) ∧ (Accepts 0x0704 via args s)) ∧
    (∃ via : Via, ∃ args : List Word, ∃ s : State, ∃ x : Fin 4, (arg args 0 = x.val) ∧ (2 ≤ arg args 1) ∧ (Accepts
      0x0704 via args s)) ∧
    (∃ via : Via, ∃ args : List Word, ∃ s : State, ∃ x : Fin 4, (arg args 0 = x.val) ∧ (2 ≤ arg args 1) ∧ (x.val = 3)
      ∧ (Accepts 0x0705 via args s)) ∧
    (∃ via : Via, ∃ args : List Word, ∃ s : State, ∃ x : Fin 4, (arg args 0 = x.val) ∧ (s.links[x].acted = 0 ∨ 6 ≤
      s.links[x].acted) ∧ (arg args 1 < 2) ∧ (Accepts 0x0701 via args s) ∧ (arg args 1 = 0) ∧ (s.links[x].present ≠
      .off) ∧ (s.links[x].inForce = false) ∧ (s.links[x].attached = false) ∧ (s.links[x].state ≠ .swap) ∧
      (s.links[x].role = false)) ∧
    (∃ via : Via, ∃ args : List Word, ∃ s : State, ∃ x : Fin 4, (arg args 0 = x.val) ∧ (s.links[x].acted = 0 ∨ 6 ≤
      s.links[x].acted) ∧ (arg args 1 < 2) ∧ (Accepts 0x0701 via args s) ∧ (1 ≤ arg args 1) ∧ (s.links[x].present ≠
      .sink) ∧ (s.links[x].inForce = false) ∧ (s.links[x].attached = false) ∧ (s.links[x].state ≠ .swap)) ∧
    (∃ via : Via, ∃ args : List Word, ∃ s : State, ∃ x : Fin 4, (arg args 0 = x.val) ∧ (s.links[x].acted = 0 ∨ 6 ≤
      s.links[x].acted) ∧ (arg args 1 < 2) ∧ (Accepts 0x0704 via args s) ∧ (1000 ≤ arg args 2) ∧ (arg args 2 + 200 ≤
      arg args 3) ∧ (arg args 3 ≤ 4000) ∧ (arg args 4 ≤ 4000) ∧ (s.links[x].attached = true)) ∧
    (∃ via : Via, ∃ args : List Word, ∃ s : State, ∃ x : Fin 4, (arg args 0 = x.val) ∧ (s.links[x].acted = 0 ∨ 6 ≤
      s.links[x].acted) ∧ (arg args 1 < 2) ∧ (Accepts 0x0704 via args s) ∧ (s.links[x].inForce = true)) ∧
    (∃ via : Via, ∃ args : List Word, ∃ s : State, ∃ x : Fin 4, (arg args 0 = x.val) ∧ (s.links[x].acted = 0 ∨ 6 ≤
      s.links[x].acted) ∧ (arg args 1 < 2) ∧ (Accepts 0x0704 via args s) ∧ (s.links[x].inForce = false)) ∧
    (∃ via : Via, ∃ args : List Word, ∃ s : State, ∃ x : Fin 4, (arg args 0 = x.val) ∧ (s.links[x].acted = 0 ∨ 6 ≤
      s.links[x].acted) ∧ (arg args 1 < 2) ∧ (x.val = 3) ∧ (Accepts 0x0705 via args s) ∧ (s.links[x].role = true) ∧
      (s.links[x].inForce = true) ∧ (s.sys.longPress = false) ∧ (((s.links[x].cwMin * 250 : Nat) : Int) ≤ s.sys.vStr)
      ∧ (s.sys.vStr ≤ ((s.links[x].cwMax * 250 : Nat) : Int))) ∧
    (∃ via : Via, ∃ args : List Word, ∃ s : State, ∃ x : Fin 4, (arg args 0 = x.val) ∧ (Accepts 0x0702 via args s) ∧
      (arg args 1 = 0x0A) ∧ (s.links[x].attached = true) ∧ (linkFree s x = none)) ∧
    (∃ via : Via, ∃ args : List Word, ∃ s : State, ∃ x : Fin 4, (arg args 0 = x.val) ∧ (Accepts 0x0702 via args s) ∧
      (arg args 1 = 0x0A) ∧ (s.links[x].attached = false)) ∧
    (∃ via : Via, ∃ args : List Word, ∃ s : State, ∃ x : Fin 4, (arg args 0 = x.val) ∧ ∃ type : Nat, ∃ n : Nat,
      (Accepts 0x0702 via args s) ∧ (type < 256) ∧ (n < 16) ∧ (arg args 1 = type + 256 * n) ∧ (¬ (((type = 0x01 ∨ type
      = 0x02 ∨ type = 0x03 ∨ type = 0x09 ∨ type = 0x0A) ∧ n = 0) ∨ (type = 0x10 ∧ (n = 2 ∨ n = 4 ∨ n = 6) ∨ type =
      0x11 ∧ n = 2 ∨ type = 0x20 ∧ 1 ≤ n ∧ n ≤ 7)))) ∧
    (∃ via : Via, ∃ args : List Word, ∃ s : State, ∃ x : Fin 4, (arg args 0 = x.val) ∧ ∃ type : Nat, ∃ n : Nat,
      (Accepts 0x0702 via args s) ∧ (type < 256) ∧ (n < 16) ∧ (arg args 1 = type + 256 * n) ∧ (((type = 0x01 ∨ type =
      0x02 ∨ type = 0x03 ∨ type = 0x09 ∨ type = 0x0A) ∧ n = 0) ∨ (type = 0x10 ∧ (n = 2 ∨ n = 4 ∨ n = 6) ∨ type = 0x11
      ∧ n = 2 ∨ type = 0x20 ∧ 1 ≤ n ∧ n ≤ 7)) ∧ (s.links[x].attached = true) ∧ (linkFree s x = none) ∧ (type = 0x01 ∨
      type = 0x02 ∨ type = 0x03) ∧ (s.links[x].reqWaiting = false)) ∧
    (∃ (via : Via) (args : List Word) (s : State) (x : Fin 4), (arg args 0 = x.val) ∧ ∃ type n : Nat, (Accepts 0x0702
      via args s) ∧ (type < 256) ∧ (n < 16) ∧ (arg args 1 = type + 256 * n) ∧ (((type = 0x01 ∨ type = 0x02 ∨ type =
      0x03 ∨ type = 0x09 ∨ type = 0x0A) ∧ n = 0) ∨ (type = 0x10 ∧ (n = 2 ∨ n = 4 ∨ n = 6) ∨ type = 0x11 ∧ n = 2 ∨ type
      = 0x20 ∧ 1 ≤ n ∧ n ≤ 7)) ∧ (s.links[x].attached = true) ∧ (linkFree s x = none) ∧ (asksRelay type ((tabulate 7
      fun k => BitVec.ofNat 32 (arg2 args (2 + 2 * k.val))).take n) = true) ∧ (s.links[x].inForce = false)) ∧
    (∃ (via : Via) (args : List Word) (s : State) (x : Fin 4), (arg args 0 = x.val) ∧ ∃ type n : Nat, (Accepts 0x0702
      via args s) ∧ (type < 256) ∧ (n < 16) ∧ (arg args 1 = type + 256 * n) ∧ (((type = 0x01 ∨ type = 0x02 ∨ type =
      0x03 ∨ type = 0x09 ∨ type = 0x0A) ∧ n = 0) ∨ (type = 0x10 ∧ (n = 2 ∨ n = 4 ∨ n = 6) ∨ type = 0x11 ∧ n = 2 ∨ type
      = 0x20 ∧ 1 ≤ n ∧ n ≤ 7)) ∧ (s.links[x].attached = true) ∧ (linkFree s x = none) ∧ ((type = 0x01 ∨ type = 0x02 ∨
      type = 0x03) → s.links[x].reqWaiting = true) ∧ (asksRelay type ((tabulate 7 fun k => BitVec.ofNat 32 (arg2 args
      (2 + 2 * k.val))).take n) = true → s.links[x].inForce = true)) ∧
    (∃ via : Via, ∃ args : List Word, ∃ s : State, ∃ x : Fin 4, (arg args 0 = x.val) ∧ ∃ m : Msg, ∃ ms : List Msg,
      (Accepts 0x0703 via args s) ∧ (linkFree s x = none) ∧ (s.links[x].rx = m :: ms)) ∧
    (∃ via : Via, ∃ args : List Word, ∃ s : State, ∃ x : Fin 4, (arg args 0 = x.val) ∧ (Accepts 0x0703 via args s) ∧
      (linkFree s x = none) ∧ (s.links[x].rx = [])) ∧
    (∃ via : Via, ∃ args : List Word, ∃ s : State, ∃ x : Fin 4, (arg args 0 = x.val) ∧ (Accepts 0x0706 via args s) ∧
      (s.links[x].attached = true) ∧ (s.links[x].swapOwn = false) ∧ (s.links[x].swapHeld = false) ∧
      (s.links[x].tSwapRetry = false) ∧ (linkFree s x = none)) ∧
    (∃ via : Via, ∃ args : List Word, ∃ s : State, ∃ x : Fin 4, (arg args 0 = x.val) ∧ (Accepts 0x0707 via args s)) :=
  ⟨⟨Via.own, [0x3, 0xF05E], up, 3, (by unfold Accepts; decide)⟩,
    ⟨Via.own, [0x1, 0x3], up, 1, (by unfold Accepts; decide)⟩,
    ⟨Via.own, [0x3, 0x3], (setup up [onLinks fun x => { x with inForce := false }]), 3, (by unfold Accepts; decide)⟩,
    ⟨Via.host 0, [0x3], (setup up [onLinks fun x => { x with state := .attached }]), 3, (by unfold Accepts; decide)⟩,
    ⟨.monitor, [2], (setup up [onLinks fun x => { x with acted := 4 }]), 2, by decide, by decide, by decide, by
      decide, (by unfold Accepts; decide)⟩,
    ⟨Via.own, [0x1, 0x4], up, 1, (by unfold Accepts; decide)⟩,
    ⟨Via.own, [0x3, 0x64], up, 3, (by unfold Accepts; decide)⟩,
    ⟨Via.own, [], (setup up [onLinks fun x => { x with inForce := false }, onLinks fun x =>
      { x with role := false }]), 0, (by unfold Accepts; decide)⟩,
    ⟨Via.host 1, [0x0, 0x1], (setup up [onLinks fun x => { x with present := .dual, enterAsked := 1 }, onLinks fun x
      => { x with inForce := false }]), 0, (by unfold Accepts; decide)⟩,
    ⟨Via.host 2, [0x3, 0x0, 0x3E8, 0xAF0, 0xBB8], (setup up [onLinks fun x => { x with state := .attached }]), 3,
      (by unfold Accepts; decide)⟩,
    ⟨Via.own, [], (setup up [onLinks fun x => { x with acted := 0 }, onLinks fun x => { x with inForce := true }]), 0,
      (by unfold Accepts; decide)⟩,
    ⟨Via.host 0, [], (setup up [onLinks fun x => { x with acted := 0 }, onLinks fun x =>
      { x with inForce := false }]), 0, (by unfold Accepts; decide)⟩,
    ⟨Via.own, [0x3], (setup up [onLinks fun x => { x with role := true }, onLinks fun x => { x with inForce := true },
      fun s => { s with sys.longPress := false }]), 3, (by unfold Accepts; decide)⟩,
    ⟨Via.own, [0x0, 0xA], (setup up [onLinks fun x =>
      { x with state := .contract, inForce := true, ciLim := 100, cwMin := 1000, cwMax := 3000 }]), 0,
      (by unfold Accepts; decide)⟩,
    ⟨Via.own, [0x3, 0xA], up, 3, (by unfold Accepts; decide)⟩,
    ⟨Via.monitor, [], up, 0, by decide, 0, 0, (by unfold Accepts; decide)⟩,
    ⟨Via.own, [0x2, 0x1], (setup up [onLinks fun x => { x with state := .attached }, fun s =>
      { s with alr.queue := List.replicate 64 { seq := 1, cls := 2, kind := 1, reason := 0, inst := 0, param := 0, time := 0, timeValid := false, deferred := false, bbxSeq := 0 } },
      onLinks fun x => { x with reqWaiting := false }]), 2, by decide, 1, 0, (by unfold Accepts; decide)⟩,
    ⟨.monitor, [3, 0x0120, 0, 0x0203], (setup up [onLinks fun x => { x with state := .attached }]), 3, by decide,
      0x20, 1, (by unfold Accepts; decide), by decide⟩,
    ⟨.monitor, [3, 0x000A], (setup up [onLinks fun x => { x with state := .attached }]), 3, by decide, 0x0A, 0,
      (by unfold Accepts; decide), by decide⟩,
    ⟨Via.own, [0x3, 0x0, 0x3E8, 0xAF0, 0xBB8], (setup up [onLinks fun x => { x with rx := [{}] }]), 3, by decide,
      { type := 0, objs := [], role := false, lead := false, ctr := 0x0 }, [], (by unfold Accepts; decide)⟩,
    ⟨Via.own, [0x1], (setup up [onLinks fun x => { x with rx := [] }]), 1, (by unfold Accepts; decide)⟩,
    ⟨Via.host 2, [0x0], (setup up [onLinks fun x =>
      { x with state := .contract, inForce := true, ciLim := 100, cwMin := 1000, cwMax := 3000 }, onLinks fun x =>
      { x with swapOwn := false }, onLinks fun x => { x with swapHeld := false }, onLinks fun x =>
      { x with tSwapRetry := false }]), 0, (by unfold Accepts; decide)⟩,
    ⟨Via.monitor, [0x0], up, 0, (by unfold Accepts; decide)⟩⟩

/-- `Obligations.LinksAttachDetachAndSwapRoles`. -/
theorem test_meets_LinksAttachDetachAndSwapRoles :
    (∃ x : Fin 4, ∃ v : Int, ∃ s : State, (s.powered = true) ∧ (s.links[x].state = .unattached) ∧ (260 ≤ v) ∧ (v ≤
      560)) ∧
    (∃ x : Fin 4, ∃ v : Int, ∃ s : State, (s.powered = true) ∧ (s.links[x].state = .unattached) ∧ (pilotRated v =
      true) ∧ (v < 260 ∨ 560 < v)) ∧
    (∃ x : Fin 4, ∃ v : Int, ∃ s : State, (s.powered = true) ∧ (s.links[x].state = .debounce) ∧ (pilotRated v = true)
      ∧ (v < 260 ∨ 560 < v)) ∧
    (∃ x : Fin 4, ∃ s : State, (s.powered = true) ∧ (s.links[x].state = .debounce) ∧ (s.links[x].acted = 0 ∨ 4 <
      s.links[x].acted)) ∧
    (∃ x : Fin 4, ∃ s : State, (s.powered = true) ∧ (s.links[x].state = .unattached) ∧ (s.links[x].present = .dual) ∧
      (s.links[x].acted = 0 ∨ 4 < s.links[x].acted)) ∧
    (∃ x : Fin 4, ∃ v : Int, ∃ s : State, (s.powered = true) ∧ (s.links[x].attached = true) ∧ (pilotRated v = true) ∧
      (v < 260 ∨ 560 < v)) ∧
    (∃ x : Fin 4, ∃ s : State, (s.powered = true) ∧ (s.links[x].state = .blank) ∧ (s.links[x].acted = 0 ∨ 4 <
      s.links[x].acted)) ∧
    (∃ x : Fin 4, ∃ s : State, (s.powered = true) ∧ (s.links[x].acted = 0 ∨ 4 < s.links[x].acted) ∧
      (s.links[x].tResponder = true) ∧ (s.links[x].attached = true) ∧ (s.links[x].role = false) ∧ (s.sys.st = .boot ∨
      s.sys.st = .recovery)) ∧
    (∃ x : Fin 4, ∃ s : State, (s.powered = true) ∧ (s.links[x].acted = 0 ∨ 4 < s.links[x].acted) ∧ ∃ via : Via,
      (s.links[x].tSwapAnswer = true) ∧ (s.links[x].swapVia = some via)) ∧
    (∃ x : Fin 4, ∃ s : State, (s.powered = true) ∧ (s.links[x].acted = 0 ∨ 4 < s.links[x].acted) ∧
      (s.links[x].tSwapRetry = true) ∧ (s.links[x].swapHeld = true)) ∧
    (∃ x : Fin 4, ∃ s : State, (s.powered = true) ∧ (s.links[x].acted = 0 ∨ 4 < s.links[x].acted) ∧ (s.links[x].state
      = .swap) ∧ (s.links[x].role = true)) ∧
    (∃ x : Fin 4, ∃ v : Int, ∃ s : State, (s.powered = true) ∧ (s.links[x].acted = 0 ∨ 4 < s.links[x].acted) ∧
      (s.links[x].state = .swap) ∧ (s.links[x].role = false) ∧ (-3000 ≤ v) ∧ (v < 260)) ∧
    (∃ x : Fin 4, ∃ v : Int, ∃ s : State, (s.powered = true) ∧ (s.links[x].acted = 0 ∨ 4 < s.links[x].acted) ∧
      (s.links[x].state = .swap) ∧ (260 ≤ v) ∧ (v ≤ 560) ∧ (s.links[x].phaseSource ≠ s.links[x].role)) :=
  ⟨⟨1, 500, (setup .reset [onLinks fun x => { x with state := .unattached }]), by decide⟩,
    ⟨0, 0, (setup .reset [onLinks fun x => { x with state := .unattached }]), by decide⟩,
    ⟨0, 0, (setup .reset [onLinks fun x => { x with state := .debounce }]), by decide⟩,
    ⟨0, (setup .reset [onLinks fun x => { x with state := .debounce }]), by decide⟩,
    ⟨0, (setup .reset [onLinks fun x => { x with state := .unattached }, onLinks fun x =>
      { x with present := .dual }]), by decide⟩,
    ⟨0, 0, (setup .reset [onLinks fun x => { x with state := .transition, cwMin := 1000, cwMax := 3000 }]), by decide⟩,
    ⟨0, (setup .reset [onLinks fun x => { x with state := .blank }]), by decide⟩,
    ⟨2, (setup .reset [onLinks fun x =>
      { x with state := .contract, inForce := true, ciLim := 100, cwMin := 1000, cwMax := 3000 }, onLinks fun x =>
      { x with tResponder := true }, onLinks fun x => { x with role := false }, fun s => { s with sys.st := .boot }]),
      by decide⟩,
    ⟨0, (setup .reset [onLinks fun x => { x with swapOwn := true, swapVia := some .own }, onLinks fun x =>
      { x with tSwapAnswer := true }]), by decide, by decide, Via.own, by decide⟩,
    ⟨0, (setup .reset [onLinks fun x => { x with tSwapRetry := true }, onLinks fun x => { x with swapHeld := true }]),
      by decide⟩,
    ⟨0, (setup .reset [onLinks fun x => { x with state := .swap }, onLinks fun x => { x with role := true }]), by
      decide⟩,
    ⟨0, 0, (setup .reset [onLinks fun x => { x with state := .swap }, onLinks fun x => { x with role := false }]), by
      decide⟩,
    ⟨0, 500, (setup .reset [onLinks fun x => { x with role := true }, onLinks fun x => { x with state := .swap }]), by
      decide⟩⟩

/-- `Obligations.TransmissionAcknowledgesAndRetries`. -/
theorem test_meets_TransmissionAcknowledgesAndRetries :
    (∃ x : Fin 4, ∃ s : State, (s.powered = true) ∧ ∃ c : BitVec 3, ∃ cs : List (BitVec 3), (s.links[x].acksDue = c ::
      cs) ∧ (s.links[x].attached = true) ∧ (s.links[x].backoff = false)) ∧
    (∃ s : State, (s.powered = true) ∧ ∃ type : Nat, ∃ objs : List (BitVec 32), (type < 256) ∧ (objs.length < 8)) ∧
    (∃ x : Fin 4, ∃ s : State, (s.powered = true) ∧ ∃ m : TxMsg, ∃ ms : List TxMsg, (s.links[x].acksDue = []) ∧
      (s.links[x].flight = none) ∧ (s.links[x].txq = m :: ms) ∧ (s.links[x].attached = true) ∧ (s.links[x].backoff =
      false) ∧ (s.links[x].collisions < 2)) ∧
    (∃ x : Fin 4, ∃ s : State, (s.powered = true) ∧ ∃ m : TxMsg, ∃ ms : List TxMsg, (s.links[x].acksDue = []) ∧
      (s.links[x].flight = none) ∧ (s.links[x].txq = m :: ms) ∧ (s.links[x].attached = true) ∧ (s.links[x].backoff =
      false) ∧ (2 ≤ s.links[x].collisions)) ∧
    (∃ x : Fin 4, ∃ s : State, (s.powered = true) ∧ ∃ m : TxMsg, (s.links[x].acksDue = []) ∧ (s.links[x].flight = some
      m) ∧ (s.links[x].resend = true) ∧ (s.links[x].attached = true) ∧ (s.links[x].backoff = false) ∧
      (s.links[x].collisions < 2)) ∧
    (∃ x : Fin 4, ∃ s : State, (s.powered = true) ∧ ∃ m : TxMsg, (s.links[x].acksDue = []) ∧ (s.links[x].flight = some
      m) ∧ (s.links[x].resend = true) ∧ (s.links[x].attached = true) ∧ (s.links[x].backoff = false) ∧ (2 ≤
      s.links[x].collisions)) ∧
    (∃ x : Fin 4, ∃ s : State, (s.powered = true) ∧ (s.links[x].backoff = true) ∧ (s.links[x].acted = 0 ∨ 4 <
      s.links[x].acted)) ∧
    (∃ x : Fin 4, ∃ s : State, (s.powered = true) ∧ (0 < s.links[x].acted) ∧ (s.links[x].acted ≤ 4)) ∧
    (∃ x : Fin 4, ∃ s : State, (s.powered = true) ∧ ∃ m : TxMsg, (s.links[x].flight = some m) ∧ (s.links[x].resend =
      false) ∧ (s.links[x].acted = 0) ∧ (s.links[x].retries < 2)) ∧
    (∃ x : Fin 4, ∃ s : State, (s.powered = true) ∧ ∃ m : TxMsg, (s.links[x].flight = some m) ∧ (s.links[x].resend =
      false) ∧ (s.links[x].acted = 0) ∧ (2 ≤ s.links[x].retries)) ∧
    (∃ x : Fin 4, ∃ s : State, (s.powered = true) ∧ ∃ m : TxMsg, (s.links[x].flight = some m) ∧ (s.links[x].resend =
      false) ∧ (s.links[x].acted = 0) ∧ (m.type ≠ 0x09) ∧ (m.type ≠ 0x20) ∧ (m.cls ≠ .swapAnswer)) ∧
    (∃ x : Fin 4, ∃ s : State, (s.powered = true) ∧ ∃ m : TxMsg, (s.links[x].flight = some m) ∧ (s.links[x].resend =
      false) ∧ (s.links[x].acted = 0) ∧ ∃ c : BitVec 3, (c ≠ s.links[x].txCtr)) :=
  ⟨⟨2, (setup .reset [onLinks fun x => { x with state := .attached }, onLinks fun x => { x with acksDue := [1] },
      onLinks fun x => { x with backoff := false }]), by decide, 0x1, [], by decide⟩,
    ⟨.reset, by decide, 0, [], by decide⟩,
    ⟨0, (setup .reset [onLinks fun x =>
      { x with state := .contract, inForce := true, ciLim := 100, cwMin := 1000, cwMax := 3000 }, onLinks fun x =>
      { x with txq := [{ cls := .host, type := 10, objs := [], via := none }] }, onLinks fun x =>
      { x with acksDue := [] }, onLinks fun x => { x with flight := none }, onLinks fun x =>
      { x with backoff := false }, onLinks fun x => { x with collisions := (2 - 1) }]), by decide,
      { cls := TxClass.host, type := 10, objs := [], via := none }, [], by decide⟩,
    ⟨0, (setup .reset [onLinks fun x => { x with state := .attached }, onLinks fun x =>
      { x with txq := [{ cls := .host, type := 10, objs := [], via := none }] }, onLinks fun x =>
      { x with acksDue := [] }, onLinks fun x => { x with flight := none }, onLinks fun x =>
      { x with backoff := false }, onLinks fun x => { x with collisions := 2 }]), by decide,
      { cls := TxClass.host, type := 10, objs := [], via := none }, [], by decide⟩,
    ⟨0, (setup .reset [onLinks fun x => { x with state := .transition, cwMin := 1000, cwMax := 3000 }, onLinks fun x
      => { x with flight := some { cls := .host, type := 10, objs := [], via := none } }, onLinks fun x =>
      { x with acksDue := [] }, onLinks fun x => { x with resend := true }, onLinks fun x =>
      { x with backoff := false }, onLinks fun x => { x with collisions := (2 - 1) }]), by decide,
      { cls := TxClass.host, type := 10, objs := [], via := none }, by decide⟩,
    ⟨3, (setup .reset [onLinks fun x => { x with state := .attached }, onLinks fun x =>
      { x with flight := some { cls := .host, type := 10, objs := [], via := none } }, onLinks fun x =>
      { x with acksDue := [] }, onLinks fun x => { x with resend := true }, onLinks fun x =>
      { x with backoff := false }, onLinks fun x => { x with collisions := 2 }]), by decide,
      { cls := TxClass.host, type := 10, objs := [], via := none }, by decide⟩,
    ⟨0, (setup .reset [onLinks fun x => { x with backoff := true }]), by decide⟩,
    ⟨2, (setup .reset [onLinks fun x => { x with acted := (0 + 1) }, onLinks fun x => { x with acted := 4 }]), by
      decide⟩,
    ⟨0, (setup .reset [onLinks fun x =>
      { x with flight := some { cls := .host, type := 10, objs := [], via := none } }, onLinks fun x =>
      { x with resend := false }, onLinks fun x => { x with acted := 0 }, onLinks fun x =>
      { x with retries := (2 - 1) }]), by decide, { cls := TxClass.host, type := 10, objs := [], via := none }, by
      decide⟩,
    ⟨1, (setup .reset [onLinks fun x =>
      { x with flight := some { cls := .host, type := 10, objs := [], via := none } }, onLinks fun x =>
      { x with resend := false }, onLinks fun x => { x with acted := 0 }, onLinks fun x => { x with retries := 2 }]),
      by decide, { cls := TxClass.host, type := 10, objs := [], via := none }, by decide⟩,
    ⟨2, (setup .reset [onLinks fun x =>
      { x with flight := some { cls := .host, type := 10, objs := [], via := none } }, onLinks fun x =>
      { x with resend := false }, onLinks fun x => { x with acted := 0 }]), by decide,
      { cls := TxClass.host, type := 10, objs := [], via := none }, by decide⟩,
    ⟨3, (setup .reset [onLinks fun x =>
      { x with flight := some { cls := .host, type := 10, objs := [], via := none } }, onLinks fun x =>
      { x with resend := false }, onLinks fun x => { x with acted := 0 }]), by decide,
      { cls := TxClass.host, type := 10, objs := [], via := none }, by decide, by decide, by decide, 0x1, by decide⟩⟩

/-- `Obligations.ReceivedMessagesAreBufferedAndAct`. -/
theorem test_meets_ReceivedMessagesAreBufferedAndAct :
    (∃ (x : Fin 4) (f : Frame) (ok : Bool) (s : State), (s.powered = true) ∧ (s.links[x].linked = true) ∧
      (s.links[x].acted ≠ 0) ∧ ((msgOf f).type ≠ 0x08 ∨ s.links[x].acted ≤ 5)) ∧
    (∃ x : Fin 4, ∃ f : Frame, ∃ ok : Bool, ∃ s : State, (s.powered = true) ∧ (s.links[x].linked = true) ∧
      (s.links[x].acted = 0 ∨ (msgOf f).type = 0x08 ∧ 5 < s.links[x].acted) ∧ (ok = false ∨ f.crc ≠ frameCrc f.header
      f.objs ∨ field f.header 8 3 ≠ f.objs.length)) ∧
    (∃ x : Fin 4, ∃ f : Frame, ∃ ok : Bool, ∃ s : State, (s.powered = true) ∧ (s.links[x].linked = true) ∧
      (s.links[x].acted = 0 ∨ (msgOf f).type = 0x08 ∧ 5 < s.links[x].acted) ∧ (frameOk f ok = true) ∧ ((msgOf f).role
      ≠ s.links[x].role) ∧ ((msgOf f).type ≠ 0x00) ∧ ((msgOf f).type ≠ 0x05) ∧ ((msgOf f).type ≠ 0x06) ∧ (¬
      (s.links[x].rxValid = true ∧ (msgOf f).ctr = s.links[x].rxCtr ∧ (msgOf f).type = s.links[x].rxType)) ∧
      (s.links[x].rx.length < 8)) ∧
    (∃ x : Fin 4, ∃ f : Frame, ∃ ok : Bool, ∃ s : State, (s.powered = true) ∧ (s.links[x].linked = true) ∧
      (s.links[x].acted = 0 ∨ (msgOf f).type = 0x08 ∧ 5 < s.links[x].acted) ∧ (frameOk f ok = true) ∧ ((msgOf f).role
      ≠ s.links[x].role) ∧ ((msgOf f).type ≠ 0x00) ∧ ((msgOf f).type ≠ 0x05) ∧ ((msgOf f).type ≠ 0x06) ∧ (¬
      (s.links[x].rxValid = true ∧ (msgOf f).ctr = s.links[x].rxCtr ∧ (msgOf f).type = s.links[x].rxType)) ∧ (8 ≤
      s.links[x].rx.length)) ∧
    (∃ x : Fin 4, ∃ s : State, (s.powered = true) ∧ (s.links[x].attached = true) ∧ (s.links[x].inForce = true) ∧ (5 <
      s.links[x].acted)) ∧
    (∃ x : Fin 4, ∃ s : State, (s.powered = true) ∧ (s.links[x].attached = true) ∧ (s.links[x].acted = 0) ∧ ∃ via :
      Via, (s.links[x].swapOwn = true) ∧ (s.links[x].swapVia = some via) ∧ (s.links[x].inForce = false)) ∧
    (∃ x : Fin 4, ∃ s : State, (s.powered = true) ∧ (s.links[x].attached = true) ∧ (s.links[x].acted = 0) ∧
      (s.links[x].swapOwn = false) ∧ (s.links[x].offerPick = none)) ∧
    (∃ x : Fin 4, ∃ s : State, (s.powered = true) ∧ (s.links[x].attached = true) ∧ (s.links[x].acted = 0) ∧
      (s.links[x].role = false) ∧ (s.links[x].state = .transition)) ∧
    (∃ x : Fin 4, ∃ s : State, (s.powered = true) ∧ (s.links[x].attached = true) ∧ (s.links[x].acted = 0) ∧
      (s.links[x].role = true) ∧ (s.links[x].inForce = true)) ∧
    (∃ x : Fin 4, ∃ s : State, (s.powered = true) ∧ (s.links[x].attached = true) ∧ (s.links[x].acted = 0) ∧
      (s.links[x].swapOwn = false) ∧ (s.links[x].state ≠ .transition) ∧ (s.sys.st = .standby ∨ s.sys.st = .run)) ∧
    (∃ x : Fin 4, ∃ s : State, (s.powered = true) ∧ (s.links[x].attached = true) ∧ (s.links[x].acted = 0) ∧
      (s.links[x].inForce = true)) ∧
    (∃ (x : Fin 4) (s : State), (s.powered = true) ∧ (s.links[x].attached = true) ∧ (s.links[x].acted = 0) ∧ ∃ v c :
      BitVec 32, (s.links[x].role = false) ∧ (s.sys.st = .boot ∨ s.sys.st = .recovery) ∧ (s.ports[x].vin < 60000) ∧
      (offerOk v c = true)) ∧
    (∃ x : Fin 4, ∃ s : State, (s.powered = true) ∧ (s.links[x].attached = true) ∧ (s.links[x].acted = 0) ∧ ∃ o :
      BitVec 32, (vdCommand o = 2) ∧ (vdKind o = 1) ∧ (vdMode o = 1) ∧ (s.links[x].enterAsked.getLsbD 0 = true)) :=
  ⟨⟨0, { header := 0, crc := 0 }, true, (setup up [onLinks fun x => { x with state := .attached, acted := 3 }]), by
      decide⟩,
    ⟨0, { header := 0x2920, objs := [], crc := 0x96EFAE31 }, true, (setup .reset [onLinks fun x =>
      { x with state := .contract, inForce := true, ciLim := 100, cwMin := 1000, cwMax := 3000 }, onLinks fun x =>
      { x with acted := 0 }]), by decide⟩,
    ⟨0, { header := 0xF804, objs := [], crc := 0x96D3ADD5 }, true, (setup .reset [onLinks fun x =>
      { x with state := .attached }, onLinks fun x => { x with acted := 0 }, onLinks fun x =>
      { x with rxValid := true }]), by decide⟩,
    ⟨3, { header := 0x1009, objs := [], crc := 0x8DACB9D2 }, true, (setup .reset [onLinks fun x =>
      { x with state := .contract, inForce := true, ciLim := 100, cwMin := 1000, cwMax := 3000 }, onLinks fun x =>
      { x with rx := List.replicate 8 {} }, onLinks fun x => { x with role := true }, onLinks fun x =>
      { x with acted := 0 }, onLinks fun x => { x with rxValid := true }]), by decide⟩,
    ⟨0, (setup .reset [onLinks fun x => { x with state := .attached }, onLinks fun x => { x with inForce := true },
      onLinks fun x => { x with acted := (5 + 1) }]), by decide⟩,
    ⟨2, (setup .reset [onLinks fun x => { x with state := .attached }, onLinks fun x =>
      { x with swapOwn := true, swapVia := some .own }, onLinks fun x => { x with acted := 0 }, onLinks fun x =>
      { x with swapOwn := true }, onLinks fun x => { x with inForce := false }]), by decide, by decide, by decide,
      Via.own, by decide⟩,
    ⟨0, (setup .reset [onLinks fun x => { x with state := .attached }, onLinks fun x => { x with acted := 0 }, onLinks
      fun x => { x with swapOwn := false }, onLinks fun x => { x with offerPick := none }]), by decide⟩,
    ⟨0, (setup .reset [onLinks fun x => { x with acted := 0 }, onLinks fun x => { x with role := false }, onLinks fun
      x => { x with state := .transition }]), by decide⟩,
    ⟨0, (setup .reset [onLinks fun x => { x with state := .attached }, onLinks fun x => { x with acted := 0 }, onLinks
      fun x => { x with role := true }, onLinks fun x => { x with inForce := true }]), by decide⟩,
    ⟨0, (setup .reset [fun s => { s with sys.st := .run }, onLinks fun x => { x with state := .attached }, onLinks fun
      x => { x with acted := 0 }, onLinks fun x => { x with swapOwn := false }]), by decide⟩,
    ⟨0, (setup .reset [onLinks fun x => { x with state := .transition, cwMin := 1000, cwMax := 3000 }, onLinks fun x
      => { x with acted := 0 }, onLinks fun x => { x with inForce := true }]), by decide⟩,
    ⟨0, (setup .reset [onLinks fun x => { x with state := .attached }]), by decide, by decide, by decide, 0x00FA03E8,
      2000, by decide⟩,
    ⟨0, (setup .reset [onLinks fun x =>
      { x with state := .contract, inForce := true, ciLim := 100, cwMin := 1000, cwMax := 3000 }, onLinks fun x =>
      { x with present := .dual, enterAsked := 1 }, onLinks fun x => { x with acted := 0 }]), by decide, by decide, by
      decide, 0x2410000, by decide⟩⟩

/-- `Obligations.ContractsEndWithTheirCause`. -/
theorem test_meets_ContractsEndWithTheirCause :
    (∃ x : Fin 4, ∃ s : State, (s.powered = true) ∧ (0 < s.links[x].acted) ∧ (s.links[x].acted ≤ 4)) ∧
    (∃ x : Fin 4, ∃ s : State, (s.powered = true) ∧ (s.links[x].acted = 0 ∨ 4 < s.links[x].acted) ∧ (s.links[x].state
      = .contract) ∧ (s.links[x].role = false)) ∧
    (∃ x : Fin 4, ∃ s : State, (s.powered = true) ∧ (s.links[x].acted = 0 ∨ 4 < s.links[x].acted) ∧ (s.links[x].state
      = .contract) ∧ (s.links[x].inForce = true)) ∧
    (∃ x : Fin 4, ∃ s : State, (s.powered = true) ∧ (s.links[x].acted = 0 ∨ 4 < s.links[x].acted) ∧ ∃ v : Int,
      (s.links[x].state = .transition) ∧ (s.links[x].role = true) ∧ (((s.links[x].cwMin * 250 : Nat) : Int) ≤ v) ∧ (v
      ≤ ((s.links[x].cwMax * 250 : Nat) : Int)) ∧ (portRated v = true)) ∧
    (∃ x : Fin 4, ∃ s : State, (s.powered = true) ∧ (s.links[x].acted = 0 ∨ 4 < s.links[x].acted) ∧
      (s.links[x].tTransition = true) ∧ (s.links[x].inForce = true)) ∧
    (∃ x : Fin 4, ∃ s : State, (s.powered = true) ∧ (s.links[x].acted = 0 ∨ 4 < s.links[x].acted) ∧ (s.links[x].tReady
      = true) ∧ (s.links[x].inForce = true)) ∧
    (∃ x : Fin 4, ∃ s : State, (s.powered = true) ∧ (s.links[x].acted = 0 ∨ 4 < s.links[x].acted) ∧
      (s.links[x].tNegotiation = true) ∧ (s.links[x].inForce = true)) ∧
    (∃ i : Int, ∃ s : State, (s.powered = true) ∧ (s.tie.en = true) ∧ (s.links[(3 : Fin 4)].inForce = true) ∧ (((25 *
      (s.links[(3 : Fin 4)].ciLim) : Nat) : Int) < 4 * i) ∧ (((5 * (s.links[(3 : Fin 4)].ciLim) + 200 : Nat) : Int) <
      i)) ∧
    (∃ i : Int, ∃ s : State, (s.powered = true) ∧ (s.tie.en = true) ∧ (s.links[(3 : Fin 4)].inForce = true) ∧ (4 * i ≤
      ((25 * (s.links[(3 : Fin 4)].ciLim) : Nat) : Int) ∨ i ≤ ((5 * (s.links[(3 : Fin 4)].ciLim) + 200 : Nat) : Int))) :=
  ⟨⟨1, (setup .reset [onLinks fun x => { x with acted := (0 + 1) }, onLinks fun x => { x with acted := 4 }]), by
      decide⟩,
    ⟨0, (setup .reset [onLinks fun x => { x with state := .contract }, onLinks fun x => { x with role := false }]), by
      decide⟩,
    ⟨2, (setup .reset [onLinks fun x => { x with state := .contract }, onLinks fun x => { x with inForce := true }]),
      by decide⟩,
    ⟨0, (setup .reset [onLinks fun x => { x with state := .transition }, onLinks fun x => { x with role := true }]),
      by decide, by decide, 0, by decide⟩,
    ⟨0, (setup .reset [onLinks fun x => { x with tTransition := true }, onLinks fun x => { x with inForce := true }]),
      by decide⟩,
    ⟨3, (setup .reset [onLinks fun x => { x with tReady := true }, onLinks fun x => { x with inForce := true }]), by
      decide⟩,
    ⟨0, (setup .reset [onLinks fun x => { x with tNegotiation := true }, onLinks fun x =>
      { x with inForce := true }]), by decide⟩,
    ⟨500, (setup .reset [fun s => { s with tie.en := true }, onLinks fun x => { x with inForce := true }]), by decide⟩,
    ⟨0, (setup .reset [fun s => { s with tie.en := true }, onLinks fun x => { x with inForce := true }]), by decide⟩⟩

/-- `Obligations.WatchdogIsDisabledOnlyByItsKey`. -/
theorem test_meets_WatchdogIsDisabledOnlyByItsKey :
    (∃ via : Via, ∃ args : List Word, ∃ s : State, (Accepts 0x0802 via args s) ∧ (argW args 0 = 0x7A3C) ∧ (argW args 1
      = 0xC5E1) ∧ (argW args 2 = 0x1D96)) ∧
    (∃ via : Via, ∃ args : List Word, ∃ s : State, (Accepts 0x0802 via args s) ∧ (¬ (argW args 0 = 0x7A3C ∧ argW args
      1 = 0xC5E1 ∧ argW args 2 = 0x1D96))) ∧
    (∃ s : State, ∃ p : HkPath, (s.sys.st = .off ∨ s.sys.st = .ship) ∧ (pathRated p = true) ∧ (pathUp p = true)) ∧
    (∃ s : State, (s.powered = true) ∧ (s.sys.longPress = true) ∧ (s.sys.hkLost = false)) ∧
    (∃ (via : Via) (args : List Word) (s : State), ∃ (strap : BitVec 3) (low : Bool), ((s.sys.st = .standby ∨ s.sys.st
      = .recovery) ∧ (s.sys.chg = [.reset] ∨ s.sys.chg = [.bootFw]) ∨ s.sys.st = .safe ∧ s.sys.chg = [.reset]) ∧
      (s.sys.acted = 0)) ∧
    (∃ s : State, (wdgRuns s = true) ∧ (s.sys.st = .boot) ∧ (s.wdg.grace = false) ∧ (s.wdg.count < s.wdg.openT)) ∧
    (∃ via : Via, ∃ args : List Word, ∃ s : State, (Accepts 0x0801 via args s) ∧ (1 ≤ arg args 0) ∧ (arg args 0 ≤ 7)) ∧
    (∃ via : Via, ∃ args : List Word, ∃ s : State, ∃ e : Evidence, ∃ es : List Evidence, (Accepts 0x0805 via args s) ∧
      (arg args 0 = 0) ∧ (s.wdg.evidence = e :: es)) ∧
    (∃ via : Via, ∃ args : List Word, ∃ s : State, (Accepts 0x0805 via args s) ∧ (arg args 0 = 0) ∧ (s.wdg.evidence =
      [])) :=
  ⟨⟨Via.own, [0x7A3C, 0xC5E1, 0x1D96], up, (by unfold Accepts; decide)⟩,
    ⟨Via.own, [0x1C2, 0x0], up, (by unfold Accepts; decide)⟩,
    ⟨(setup .reset [fun s => { s with sys.st := .off }]), HkPath.aux 57600, by decide⟩,
    ⟨(setup .reset [fun s => { s with sys.longPress := true }, fun s => { s with sys.hkLost := false }]), by decide⟩,
    ⟨.monitor, [], (setup up [fun s => { s with sys.chg := [.reset] }]), 0, false, by decide⟩,
    ⟨(setup .reset [fun s => { s with sys.st := .boot }, fun s => { s with wdg.grace := false }]), by decide⟩,
    ⟨Via.own, [0x2, 0x2], up, (by unfold Accepts; decide)⟩,
    ⟨Via.monitor, [0x0, 0xD090, 0x3, 0x4240, 0xF], (setup up [fun s =>
      { s with wdg.evidence := [⟨1, 1, 1, 3, 4, 1, 0, 1, 0, 1, 256, [], 0, 0⟩] }]),
      { cause := 1, rung := 1, f := 1, n := 3, modState := 4, challenge := 0x1, token := 0x0, req := 0x1, acc := 0x0, missing := 0x1, count := 256, pcs := [], lastGood := 0, time := 0 },
      [], (by unfold Accepts; decide)⟩,
    ⟨Via.own, [0x0], (setup up [fun s => { s with wdg.evidence := [] }]), (by unfold Accepts; decide)⟩⟩

/-- `Obligations.LockStandsAndRunIsWatched`. -/
theorem test_meets_LockStandsAndRunIsWatched :
    (∃ s t : State, (step s = .next t) ∧ (s.wdg.locked = true)) ∧
    (∃ s t : State, (step s = .next t) ∧ (s.sys.st ≠ .run) ∧ (t.sys.st = .run) ∧ (s.wdg.enabled = false)) ∧
    (∃ via : Via, ∃ args : List Word, ∃ s : State, (Accepts 0x0803 via args s)) ∧
    (∃ via : Via, ∃ args : List Word, ∃ s : State, (Accepts 0x0804 via args s)) ∧
    (∃ via : Via, ∃ args : List Word, ∃ s : State, (Accepts 0x0102 via args s) ∧ (s.wdg.enabled = false)) ∧
    (∃ via : Via, ∃ s : State, (s.powered = true) ∧ (s.sys.cores.getLsbD 0 = true) ∧ (waits via s = false) ∧ (isTaken
      via s = false) ∧ (s.wdg.locked = true) ∧ (s.sys.st = .standby)) :=
  ⟨⟨(setup up [fun s => { s with wdg.locked := true, pending := [.sysRun .monitor []] }]), _, rfl, by decide⟩,
    ⟨(setup up [fun s => { s with wdg.enabled := false, pending := [.sysRun .monitor []] }]), _, rfl, by decide⟩,
    ⟨Via.own, [0x6], up, (by unfold Accepts; decide)⟩,
    ⟨Via.monitor, [0xE10], up, (by unfold Accepts; decide)⟩,
    ⟨Via.own, [0x18, 0x3E80], (setup up [fun s => { s with wdg.enabled := false }]), (by unfold Accepts; decide)⟩,
    ⟨Via.monitor, (setup .reset [fun s => { s with wdg.locked := true }, fun s => { s with sys.st := .standby }]), by
      decide⟩⟩

/-- `Obligations.ServiceIsJudgedByWindowMaskAndToken`. -/
theorem test_meets_ServiceIsJudgedByWindowMaskAndToken :
    (∃ tok : Word, ∃ s : State, (wdgRuns s = true) ∧ (s.wdg.grace = false) ∧ (s.wdg.openT ≤ s.wdg.count) ∧
      (s.wdg.count < s.wdg.closeT) ∧ (effReq s &&& ~~~s.wdg.checkin = 0) ∧ (tok = (s.wdg.challenge ^^^
      0xA5C3).rotateLeft 5 + 0x3B1D)) ∧
    (∃ tok : Word, ∃ s : State, ∃ cause : Nat, (wdgRuns s = true) ∧ (s.wdg.grace = false) ∧ (cause = 2 ∧ s.wdg.count <
      s.wdg.openT ∨ cause = 1 ∧ s.wdg.openT ≤ s.wdg.count ∧ s.wdg.closeT ≤ s.wdg.count ∨ cause = 4 ∧ s.wdg.openT ≤
      s.wdg.count ∧ s.wdg.count < s.wdg.closeT ∧ effReq s &&& ~~~s.wdg.checkin ≠ 0 ∨ cause = 3 ∧ s.wdg.openT ≤
      s.wdg.count ∧ s.wdg.count < s.wdg.closeT ∧ effReq s &&& ~~~s.wdg.checkin = 0 ∧ tok ≠ (s.wdg.challenge ^^^
      0xA5C3).rotateLeft 5 + 0x3B1D)) :=
  ⟨⟨0xF371, (setup .reset [fun s => { s with wdg.count := 100, wdg.grace := false, wdg.checkin := 0xFFFF }, fun s =>
      { s with wdg.grace := false }]), by decide⟩,
    ⟨0x1E01, (setup .reset [fun s => { s with wdg.grace := false }]), 2, by decide⟩⟩

/-- `Obligations.LadderClimbsAndWritersAreKnown`. -/
theorem test_meets_LadderClimbsAndWritersAreKnown :
    (∃ s : State, (wdgRuns s = true) ∧ (s.sys.st = .boot)) ∧
    (∃ s : State, (wdgRuns s = true) ∧ (s.sys.st = .run)) ∧
    (∃ s : State, (s.powered = true)) ∧
    (∃ s : State, (s.powered = true) ∧ ∃ pair : Nat × Nat, (16 ≤ pair.1) ∧ (pair.1 ≤ 1024) ∧ (pair.1 + 16 ≤ pair.2) ∧
      (pair.2 ≤ 4096)) ∧
    (∃ s : State, (s.powered = true) ∧ ∃ pair : Nat × Nat, (pair.1 < 16 ∨ 1024 < pair.1 ∨ pair.2 < pair.1 + 16 ∨ 4096
      < pair.2)) ∧
    (∃ s : State, (s.powered = true) ∧ ∃ c : Fin 8, (c ≠ 0)) ∧
    (∃ s : State, (s.powered = true) ∧ ∃ c : Fin 8, (c ≠ 0)) ∧
    (∃ s : State, (s.powered = true) ∧ ∃ c : Fin 8, (s.sys.st ≠ .hold) ∧ (s.sys.cores.getLsbD c.val = false) ∧
      (s.sys.lostCmds = []) ∧ (s.taken = []) ∧ (s.mon.inFlight = false) ∧ (s.mon.cmdWait = none)) :=
  ⟨⟨(setup .reset [fun s => { s with sys.st := .boot }]), by decide⟩,
    ⟨(setup .reset [fun s => { s with sys.st := .run }]), by decide⟩,
    ⟨.reset, by decide⟩,
    ⟨.reset, by decide, (31, 60), by decide⟩,
    ⟨.reset, by decide, (4, 5), by decide⟩,
    ⟨.reset, by decide, 7, by decide⟩,
    ⟨.reset, by decide, 7, by decide⟩,
    ⟨(setup .reset [fun s => { s with sys.lostCmds := [] }, fun s => { s with taken := [] }, fun s =>
      { s with mon.inFlight := false }, fun s => { s with mon.cmdWait := none }]), by decide, 1, by decide⟩⟩

/-- `Obligations.BlackBoxWritesAndShowsItsRecords`. -/
theorem test_meets_BlackBoxWritesAndShowsItsRecords :
    (∃ via : Via, ∃ args : List Word, ∃ s : State, (Accepts 0x0806 via args s)) ∧
    (∃ via : Via, ∃ args : List Word, ∃ s : State, (Accepts 0x0807 via args s) ∧ (heldRecs s.bbx ≠ []) ∧ (oldest s.bbx
      ≤ arg2 args 0) ∧ (arg2 args 0 ≤ newest s.bbx)) ∧
    (∃ (via : Via) (args : List Word) (s : State), ∃ h : Held, (Accepts 0x0808 via args s) ∧ (oldest s.bbx ≤ arg2 args
      0) ∧ (arg2 args 0 ≤ newest s.bbx) ∧ (heldRec s.bbx (arg2 args 0) = some h) ∧ (arg args 3 = 1) ∧ (arg args 2 <
      h.words.length)) ∧
    (∃ s : State, (s.powered = true)) ∧
    (∃ s : State, ∃ h : Held, (s.powered = true) ∧ (s.bbx.winBusy = true) ∧ (heldRec s.bbx s.bbx.loadSeq = some h)) ∧
    (∃ s : State, (s.powered = true) ∧ (s.bbx.winBusy = true) ∧ (heldRec s.bbx s.bbx.loadSeq = none)) ∧
    (∃ s : State, (s.powered = true) ∧ ∃ r : BbxRec, ∃ rs : List BbxItem, (s.bbx.queue = .event r :: rs) ∧ (s.bbx.okA
      = true) ∧ (s.bbx.okB = true) ∧ (r.okA = false) ∧ (r.okB = false) ∧ (s.bbx.forgets = []) ∧ (ringWords s.bbx +
      eventCost r ≤ 163840)) ∧
    (∃ s : State, (s.powered = true) ∧ ∃ r : BbxRec, ∃ rs : List BbxItem, (s.bbx.queue = .event r :: rs) ∧ (s.bbx.okA
      = true) ∧ (s.bbx.okB = true) ∧ (r.okA = false) ∧ (r.okB = false) ∧ (s.bbx.forgets = []) ∧ (s.bbx.missA < 2)) ∧
    (∃ s : State, (s.powered = true) ∧ ∃ r : BbxRec, ∃ rs : List BbxItem, (s.bbx.queue = .event r :: rs) ∧ (s.bbx.okA
      = true) ∧ (s.bbx.okB = true) ∧ (r.okA = false) ∧ (r.okB = false) ∧ (s.bbx.forgets = []) ∧ (s.bbx.missA = 2)) ∧
    (∃ s : State, (s.powered = true) ∧ ∃ rs : List BbxItem, (s.bbx.okA = true) ∧ (s.bbx.okB = true) ∧ (s.bbx.forgets =
      []) ∧ ∃ h : HistRec, (s.bbx.queue = .hist h :: rs) ∧ (h.okA = false) ∧ (h.okB = false) ∧ (carriedCopy h s.bbx =
      none)) ∧
    (∃ s : State, (s.powered = true) ∧ ∃ rs : List BbxItem, (s.bbx.okA = true) ∧ (s.bbx.okB = true) ∧ (s.bbx.forgets =
      []) ∧ ∃ h : HistRec, (s.bbx.queue = .hist h :: rs) ∧ (h.okA = false) ∧ (h.okB = false) ∧ ∃ c : HistRec,
      (carriedCopy h s.bbx = some c)) ∧
    (∃ s : State, (s.powered = true) ∧ ∃ rs : List BbxItem, (s.bbx.okA = true) ∧ (s.bbx.okB = true) ∧ (s.bbx.forgets =
      []) ∧ ∃ r : SnapRec, (s.bbx.queue = .snap r :: rs) ∧ (r.okA = false) ∧ (r.okB = false) ∧ (r.spoil = 0)) ∧
    (∃ s : State, (s.powered = true) ∧ ∃ key : Nat × Nat × Nat, ∃ n : Nat, (s.bbx.windows.find? (fun w => w.key = key)
      = some ⟨key, n⟩)) :=
  ⟨⟨Via.monitor, [0x1A], up, (by unfold Accepts; decide)⟩,
    ⟨Via.monitor, [0x0, 0x0, 0x0, 0x1], (setup up [fun s =>
      { s with bbx.snaps := [{ seq := 0, time := 0 }, { seq := 1, time := 900000, ctrs := { s.ctrs with ports := vec fun i => { s.ctrs.ports[i] with eIn := { s.ctrs.ports[i].eIn with val := 5000 } } } }] }]),
      (by unfold Accepts; decide)⟩,
    ⟨.monitor, [5, 0, 3, 1], (setup up [fun s => { s with bbx.ring := [{ seq := 5 }] }]), _,
      (by unfold Accepts; decide), by decide, by decide, rfl, by decide, by decide⟩,
    ⟨.reset, by decide⟩,
    ⟨(setup .reset [fun s => { s with bbx.hist := [{ tap := 0 }, { tap := 1 }] }, fun s =>
      { s with bbx.winBusy := true }]),
      { seq := 0, type := 7, words := [0x20, 0x7, 0x0, 0x0, 0x0, 0x0, 0x0, 0x0, 0x0, 0x0, 0x0, 0x0, 0x0, 0x0, 0x0, 0x0, 0x0, 0x0, 0x0, 0x0, 0x0, 0x0, 0x0, 0x0, 0x0, 0x0, 0x0, 0x0, 0x0, 0x0, 0x1C6, 0x1D71], okA := true, okB := true },
      by decide⟩,
    ⟨(setup .reset [fun s => { s with bbx.winBusy := true }]), by decide⟩,
    ⟨(setup .reset [fun s => { s with bbx.okA := true }, fun s => { s with bbx.okB := true }, fun s =>
      { s with bbx.forgets := [] }, fun s =>
      { s with bbx.queue := [.event { seq := 6, okA := false, okB := false }], bbx.okA := true, bbx.okB := true }]),
      by decide,
      { seq := 6, type := 0, timeValid := false, inHold := false, carried := false, flushed := false, time := 0, payload := [], okA := false, okB := false, spoil := 0 },
      [], by decide⟩,
    ⟨(setup .reset [fun s => { s with bbx.okA := true }, fun s => { s with bbx.okB := true }, fun s =>
      { s with bbx.forgets := [] }, fun s => { s with bbx.missA := (2 - 1) }, fun s =>
      { s with bbx.queue := [.event { seq := 6, okA := false, okB := false }], bbx.okA := true, bbx.okB := true }]),
      by decide,
      { seq := 6, type := 0, timeValid := false, inHold := false, carried := false, flushed := false, time := 0, payload := [], okA := false, okB := false, spoil := 0 },
      [], by decide⟩,
    ⟨(setup .reset [fun s => { s with bbx.okA := true }, fun s => { s with bbx.okB := true }, fun s =>
      { s with bbx.forgets := [] }, fun s => { s with bbx.missA := 2 }, fun s =>
      { s with bbx.queue := [.event { seq := 6, okA := false, okB := false }], bbx.okA := true, bbx.okB := true, bbx.missA := 2 }]),
      by decide,
      { seq := 6, type := 0, timeValid := false, inHold := false, carried := false, flushed := false, time := 0, payload := [], okA := false, okB := false, spoil := 0 },
      [], by decide⟩,
    ⟨(setup up [fun s =>
      { s with bbx.okA := true, bbx.okB := true, bbx.queue := [.hist { okA := false, okB := false }] }]), by decide,
      [], by decide, by decide, by decide, { okA := false, okB := false }, by decide⟩,
    ⟨(setup up [fun s =>
      { s with bbx.okA := true, bbx.okB := true, bbx.queue := [.hist { tap := 1, okA := false, okB := false }], bbx.hist := [{ tap := 0, spoil := 2047 }] }]),
      by decide, [], by decide, by decide, by decide, { tap := 1, okA := false, okB := false }, by decide, by decide,
      by decide, _, rfl⟩,
    ⟨(setup up [fun s =>
      { s with bbx.okA := true, bbx.okB := true, bbx.queue := [.snap { okA := false, okB := false }] }]), by decide,
      [], by decide, by decide, by decide, { okA := false, okB := false }, rfl, by decide, by decide, by decide⟩,
    ⟨(setup .reset [fun s => { s with bbx.windows := [{ key := (13, 1, 0), n := 17 }] }]), by decide, (13, 1, 0), 17,
      by decide⟩⟩

/-- `Obligations.RecipesAreLoadedVerifiedAndRun`. -/
theorem test_meets_RecipesAreLoadedVerifiedAndRun :
    (∃ via : Via, ∃ args : List Word, ∃ s : State, ∃ k : Fin 8, (Accepts 0x0902 via args s) ∧ (arg args 0 = k.val) ∧
      (arg args 1 ≤ 2) ∧ (arg2 args 2 % 2 = 0) ∧ (1 ≤ arg args 4) ∧ (arg args 4 ≤ 25) ∧ (arg2 args 2 + 2 * arg args 4
      ≤ regionSize (arg args 1)) ∧ (s.rcp.running ≠ some k) ∧ (Memory.wf (region s.rcp.slots[k] (arg args 1)) = true)) ∧
    (∃ via : Via, ∃ args : List Word, ∃ s : State, (Accepts 0x0901 via args s) ∧ (arg args 0 ≤ 1)) ∧
    (∃ (via : Via) (args : List Word) (s : State), ∃ (k : Fin 8) (x y : List Byte), (Accepts 0x0903 via args s) ∧ (arg
      args 0 = k.val) ∧ (s.rcp.running ≠ some k) ∧ (s.rcp.keyX = some x) ∧ (s.rcp.keyY = some y) ∧ (headerOk
      s.rcp.slots[k] = true)) ∧
    (∃ via : Via, ∃ args : List Word, ∃ s : State, ∃ k : Fin 8, (Accepts 0x0903 via args s) ∧ (arg args 0 = k.val) ∧
      (s.rcp.running ≠ some k) ∧ (s.rcp.keyX.isSome = true) ∧ (s.rcp.keyY.isSome = true) ∧ (headerOk s.rcp.slots[k] =
      false)) ∧
    (∃ via : Via, ∃ args : List Word, ∃ s : State, ∃ k : Fin 8, (Accepts 0x0904 via args s) ∧ (arg args 0 = k.val) ∧
      (s.rcp.slots[k].verified = true) ∧ (∀ n : Fin 32, (arg2 args 1).testBit n.val = true → ungovernable s n =
      false)) ∧
    (∃ via : Via, ∃ args : List Word, ∃ s : State, (Accepts 0x0905 via args s)) ∧
    (∃ via : Via, ∃ args : List Word, ∃ s : State, (Accepts 0x0906 via args s)) :=
  ⟨⟨Via.own, [0x2, 0x0, 0x0, 0x0, 0x1, 0xFFFF], up, 2, (by unfold Accepts; decide)⟩,
    ⟨Via.own, [0x0, 0x80], up, (by unfold Accepts; decide)⟩,
    ⟨.monitor, [1], (setup up [fun s =>
      { s with rcp.keyX := some [1], rcp.keyY := some [2], rcp.slots := vec fun i => { s.rcp.slots[i] with code := [(0, 0), (1, 0), (2, 0), (3, 0), (4, 4), (5, 0), (6, 0), (7, 0), (8, 100), (9, 0), (10, 0), (11, 0), (12, 40), (13, 0), (14, 0), (15, 0), (16, 8), (17, 0), (18, 0), (19, 0)] } }]),
      1, [1], [2], (by unfold Accepts; decide), by decide⟩,
    ⟨Via.own, [0x0], (setup up [fun s => { s with rcp.keyX := some [1], rcp.keyY := some [2] }]), 0,
      (by unfold Accepts; decide)⟩,
    ⟨Via.own, [0x0, 0x1F4], (setup up [fun s =>
      { s with rcp.slots := vec fun i0 => (fun x0 => { x0 with verified := true }) s.rcp.slots[i0] }]), 0,
      (by unfold Accepts; decide)⟩,
    ⟨Via.own, [0x20, 0x3], up, (by unfold Accepts; decide)⟩,
    ⟨Via.host 1, [], up, (by unfold Accepts; decide)⟩⟩

/-- `Obligations.RecipesTickAndPerformanceCounts`. -/
theorem test_meets_RecipesTickAndPerformanceCounts :
    (∃ s : State, (c1Up s = true) ∧ (s.rcp.phase = .between)) ∧
    (∃ s : State, (c1Up s = true) ∧ (s.rcp.phase = .tick) ∧ (s.rcp.consec < 7)) ∧
    (∃ s : State, (c1Up s = true) ∧ (s.rcp.phase = .tick) ∧ (7 ≤ s.rcp.consec)) ∧
    (∃ s : State, (c1Up s = true) ∧ (s.rcp.phase = .init)) ∧
    (∃ s : State, (c1Up s = true) ∧ (s.rcp.phase = .init)) ∧
    (∃ s : State, (c1Up s = true) ∧ (s.rcp.phase = .tick) ∧ (s.rcp.csr = []) ∧ (s.perf[(1 : Fin 8)].userRead = true)) ∧
    (∃ s : State, (c1Up s = true) ∧ (s.rcp.phase = .tick) ∧ (s.rcp.csr = []) ∧ (s.perf[(1 : Fin 8)].userRead = false)) ∧
    (∃ s : State, (c1Up s = true) ∧ ∃ a : BitVec 32, (s.rcp.phase = .tick) ∧ (0x10000000 ≤ a.toNat) ∧ (a.toNat + 4 ≤
      0x10020000) ∧ (a.toNat % 4 = 0) ∧ (Memory.wf s.rcp.data = true)) ∧
    (∃ s : State, (c1Up s = true) ∧ ∃ a : BitVec 32, (s.rcp.phase = .tick) ∧ (a.toNat % 4 ≠ 0)) ∧
    (∃ s : State, (c1Up s = true) ∧ ∃ a : BitVec 32, (s.rcp.phase = .tick) ∧ (a.toNat % 4 = 0) ∧ (a.toNat <
      0x10000000)) ∧
    (∃ s : State, (c1Up s = true) ∧ (s.rcp.phase = .init ∨ s.rcp.phase = .tick) ∧ (s.rcp.noteAt = none) ∧
      (s.bbx.windows = [])) ∧
    (∃ s : State, (c1Up s = true) ∧ ∃ at' : Nat, (s.rcp.phase = .init ∨ s.rcp.phase = .tick) ∧ (s.rcp.noteAt = some
      at') ∧ (s.sys.uptime < at' + 1000)) ∧
    (∃ s : State, (c1Up s = true) ∧ (s.rcp.phase = .init ∨ s.rcp.phase = .tick)) ∧
    (∃ s : State, (c1Up s = true) ∧ ∃ code : Nat, (s.rcp.phase = .init ∨ s.rcp.phase = .tick) ∧ (1 ≤ code) ∧ (code ≤
      4)) ∧
    (∃ via : Via, ∃ args : List Word, ∃ s : State, ∃ c : Fin 8, (Accepts 0x0A01 via args s) ∧ (arg args 0 = c.val) ∧
      (coreUp s c = true) ∧ (arg args 1 < 4) ∧ (256 ≤ arg args 2) ∧ (1 ≤ arg args 3) ∧ (arg args 3 ≤ 1000)) ∧
    (∃ via : Via, ∃ args : List Word, ∃ s : State, ∃ c : Fin 8, ∃ k : Fin 8, (Accepts 0x0A02 via args s) ∧ (arg args 0
      = c.val) ∧ (coreUp s c = true) ∧ (arg args 1 = k.val) ∧ (arg args 2 ≤ 0x11)) ∧
    (∃ via : Via, ∃ args : List Word, ∃ s : State, ∃ c : Fin 8, ∃ k : Fin 8, (Accepts 0x0A03 via args s) ∧ (arg args 0
      = c.val) ∧ (coreUp s c = true) ∧ (arg args 1 = k.val) ∧ (arg args 2 = 1) ∧ (behind (0x0A03, via, args) s =
      false)) ∧
    (∃ (via : Via) (args : List Word) (s : State) (c : Fin 8), (Accepts 0x0A03 via args s) ∧ (arg args 0 = c.val) ∧
      (behind (0x0A03, via, args) s = false) ∧ (coreUp s c = false) ∧ (arg args 1 = 0) ∧ (arg args 2 = 1)) ∧
    (∃ s : State, ∃ c : Fin 8, (s.powered = true) ∧ (coreUp s c = true)) :=
  ⟨⟨(setup up [fun s => { s with rcp.running := some 1 }, fun s => { s with rcp.phase := .between }]), by decide⟩,
    ⟨(setup up [fun s => { s with rcp.running := some 1 }, fun s => { s with rcp.phase := .tick }, fun s =>
      { s with rcp.consec := (7 - 1) }]), by decide⟩,
    ⟨(setup up [fun s => { s with rcp.running := some 1 }, fun s => { s with rcp.phase := .tick }, fun s =>
      { s with rcp.consec := 7 }]), by decide⟩,
    ⟨(setup up [fun s => { s with rcp.running := some 1 }, fun s => { s with rcp.phase := .init }]), by decide⟩,
    ⟨(setup up [fun s => { s with rcp.running := some 1 }, fun s => { s with rcp.phase := .init }]), by decide⟩,
    ⟨(setup up [fun s => { s with rcp.running := some 1 }, fun s => { s with rcp.phase := .tick }, fun s =>
      { s with rcp.csr := [] }, fun s =>
      { s with perf := vec fun i0 => (fun x0 => { x0 with userRead := true }) s.perf[i0] }]), by decide⟩,
    ⟨(setup up [fun s => { s with rcp.running := some 1 }, fun s => { s with rcp.phase := .tick }, fun s =>
      { s with rcp.csr := [] }, fun s =>
      { s with perf := vec fun i0 => (fun x0 => { x0 with userRead := false }) s.perf[i0] }]), by decide⟩,
    ⟨(setup up [fun s => { s with rcp.running := some 1 }, fun s => { s with rcp.phase := .tick }]), by decide,
      0x1000003C, by decide⟩,
    ⟨(setup up [fun s => { s with rcp.running := some 1 }, fun s => { s with rcp.phase := .tick }]), by decide,
      0x10102, by decide⟩,
    ⟨(setup up [fun s => { s with rcp.running := some 1 }, fun s => { s with rcp.phase := .tick }]), by decide, 0xDC,
      by decide⟩,
    ⟨(setup up [fun s => { s with rcp.running := some 1 }, fun s => { s with rcp.phase := .init }, fun s =>
      { s with rcp.noteAt := none }, fun s => { s with bbx.windows := [] }]), by decide⟩,
    ⟨(setup .reset [fun s => { s with sys.st := .run }, fun s => { s with sys.cores := 0x0F }, fun s =>
      { s with rcp.running := some 1 }, fun s => { s with rcp.noteAt := some s.sys.uptime }, fun s =>
      { s with rcp.phase := .init }]), by decide, 0, by decide⟩,
    ⟨(setup up [fun s => { s with rcp.running := some 1 }, fun s => { s with rcp.phase := .init }]), by decide⟩,
    ⟨(setup up [fun s => { s with rcp.running := some 1 }, fun s => { s with rcp.phase := .init }]), by decide, 2, by
      decide⟩,
    ⟨Via.host 1, [0x1, 0x3, 0x100, 0x3E8], (setup .reset [fun s => { s with sys.st := .safe }]), 1,
      (by unfold Accepts; decide)⟩,
    ⟨Via.own, [0x0], up, 0, 0, (by unfold Accepts; decide)⟩,
    ⟨Via.own, [0x5, 0x1, 0x1], up, 5, 1, (by unfold Accepts; decide)⟩,
    ⟨.monitor, [4, 0, 1], (setup up [fun s => { s with sys.clOn := 0 }]), 4, (by unfold Accepts; decide), by decide⟩,
    ⟨.reset, 1, by decide⟩⟩

/-- `Obligations.FirmwareIsStagedAndActivated`. -/
theorem test_meets_FirmwareIsStagedAndActivated :
    (∃ via : Via, ∃ args : List Word, ∃ s : State, (s.fw.active ≤ 1) ∧ (Accepts 0x0B01 via args s)) ∧
    (∃ via : Via, ∃ args : List Word, ∃ s : State, (s.fw.active ≤ 1) ∧ (Accepts 0x0B02 via args s) ∧ (1 ≤ arg2 args 0)
      ∧ (arg2 args 0 ≤ 8388608)) ∧
    (∃ s : State, (s.fw.active ≤ 1) ∧ (s.powered = true) ∧ (s.fw.stage = .erasing)) ∧
    (∃ via : Via, ∃ args : List Word, ∃ s : State, (s.fw.active ≤ 1) ∧ (Accepts 0x0B03 via args s) ∧ (arg2 args 0 % 2
      = 0) ∧ (1 ≤ arg args 2) ∧ (arg args 2 ≤ 27) ∧ (s.fw.stage = .opened) ∧ (arg2 args 0 + 2 * arg args 2 ≤
      s.fw.size) ∧ (Memory.wf s.fw.mem = true)) ∧
    (∃ via : Via, ∃ args : List Word, ∃ s : State, (s.fw.active ≤ 1) ∧ (Accepts 0x0B04 via args s) ∧ (s.fw.stage =
      .opened)) ∧
    (∃ s : State, (s.fw.active ≤ 1) ∧ (s.powered = true) ∧ (s.fw.stage = .verifying)) ∧
    (∃ via : Via, ∃ args : List Word, ∃ s : State, (Accepts 0x0B05 via args s) ∧ (s.fw.stage = .verified) ∧ ((bankAt s
      (inactive s)).layout = s.fw.running ∨ s.sys.st ≠ .run)) ∧
    (∃ via : Via, ∃ args : List Word, ∃ s : State, (Accepts 0x0B05 via args s) ∧ (s.fw.stage ≠ .verified)) ∧
    (∃ s : State, (s.sys.trial = true) ∧ (s.sys.st = .standby ∨ s.sys.st = .run)) :=
  ⟨⟨Via.host 0, [0xE10], (setup up [fun s => { s with fw.active := 1 }]), (by unfold Accepts; decide)⟩,
    ⟨Via.host 0, [0xE10], (setup up [fun s => { s with fw.active := 1 }]), (by unfold Accepts; decide)⟩,
    ⟨(setup .reset [fun s => { s with fw.active := 1 }, fun s => { s with fw.stage := .erasing }]), by decide⟩,
    ⟨Via.own, [0x2, 0x0, 0x1, 0x1], (setup .reset [fun s => { s with sys.st := .run }, fun s =>
      { s with fw.size := 4096 }, fun s => { s with fw.active := 1 }, fun s => { s with fw.stage := .opened }]),
      (by unfold Accepts; decide)⟩,
    ⟨Via.own, [], (setup up [fun s => { s with fw.active := 1 }, fun s => { s with fw.stage := .opened }]),
      (by unfold Accepts; decide)⟩,
    ⟨(setup .reset [fun s => { s with fw.active := 1 }, fun s => { s with fw.stage := .verifying }]), by decide⟩,
    ⟨Via.host 1, [0xE10], (setup up [fun s => { s with fw.stage := .verified }]), (by unfold Accepts; decide)⟩,
    ⟨Via.own, [0x3], up, (by unfold Accepts; decide)⟩,
    ⟨(setup up [fun s => { s with sys.trial := true }]), by decide⟩⟩

/-- `Obligations.MailboxesGoThroughTheirStates`. -/
theorem test_meets_MailboxesGoThroughTheirStates :
    (∃ n : Fin 4, ∃ s : State, (s.powered = true) ∧ (s.mbx[n].state = .empty)) ∧
    (∃ n : Fin 4, ∃ s : State, (s.powered = true) ∧ (s.mbx[n].state ≠ .empty)) ∧
    (∃ n : Fin 4, ∃ s : State, (s.powered = true) ∧ (s.sys.st ≠ .hold) ∧ (c0Up s = true) ∧ (s.bells.head? = some n) ∧
      (s.mbx[n].state = .pending)) ∧
    (∃ n : Fin 4, ∃ s : State, (s.powered = true) ∧ (s.mbx[n].accept = 2)) ∧
    (∃ n : Fin 4, ∃ s : State, (s.powered = true) ∧ ∃ a : Answer, (s.sys.st ≠ .hold) ∧ (c0Up s = true) ∧
      (s.mbx[n].state = .taken) ∧ (s.mbx[n].accept ≠ 2) ∧ (s.mbx[n].answer = some a)) ∧
    (∃ n : Fin 4, ∃ s : State, (s.powered = true) ∧ (s.mbx[n].state = .ready)) ∧
    (∃ n : Fin 4, ∃ s : State, (s.powered = true) ∧ (s.mbx[n].state ≠ .ready)) ∧
    (∃ n : Fin 4, ∃ s : State, (s.powered = true) ∧ (s.mbx[n].state ≠ .ready)) ∧
    (∃ dst : Fin 8, ∃ m : IntMsg, ∃ s : State, (s.powered = true) ∧ (s.sys.cores.getLsbD m.sender.val = true) ∧ (4 ≤
      dst.val) ∧ (s.sys.clOn.getLsbD (dst.val - 4) = false)) ∧
    (∃ dst : Fin 8, ∃ m : IntMsg, ∃ s : State, (s.powered = true) ∧ (s.sys.cores.getLsbD m.sender.val = true) ∧ (4 ≤
      dst.val → s.sys.clOn.getLsbD (dst.val - 4) = true) ∧ (s.boxes[dst].msgs.length < 8)) ∧
    (∃ dst : Fin 8, ∃ m : IntMsg, ∃ s : State, (s.powered = true) ∧ (s.sys.cores.getLsbD m.sender.val = true) ∧ (4 ≤
      dst.val → s.sys.clOn.getLsbD (dst.val - 4) = true) ∧ ∃ old : BoxMsg, ∃ rest : List BoxMsg, (s.boxes[dst].msgs =
      old :: rest) ∧ (7 ≤ rest.length)) :=
  ⟨⟨0, (setup .reset [fun s => { s with mbx := vec fun i0 => (fun x0 => { x0 with state := .empty }) s.mbx[i0] }]),
      by decide⟩,
    ⟨2, (setup .reset [fun s =>
      { s with mbx := vec fun i => { s.mbx[i] with state := .pending, opcode := 0x0101 } }]), by decide⟩,
    ⟨1, (setup .reset [fun s => { s with bells := [1, 2] }, fun s =>
      { s with mbx := vec fun i0 => (fun x0 => { x0 with state := .pending }) s.mbx[i0] }]), by decide⟩,
    ⟨1, (setup .reset [fun s => { s with mbx := vec fun i0 => (fun x0 => { x0 with accept := 2 }) s.mbx[i0] }]), by
      decide⟩,
    ⟨0, (setup .reset [fun s => { s with mbx := vec fun i => { s.mbx[i] with answer := some ⟨0, [1]⟩ } }, fun s =>
      { s with mbx := vec fun i0 => (fun x0 => { x0 with state := .taken }) s.mbx[i0] }]), by decide,
      { code := 0, res := [0x1] }, by decide⟩,
    ⟨0, (setup .reset [fun s => { s with mbx := vec fun i0 => (fun x0 => { x0 with state := .ready }) s.mbx[i0] }]),
      by decide⟩,
    ⟨0, .reset, by decide⟩,
    ⟨0, .reset, by decide⟩,
    ⟨5, { sender := 0, host := none, words := [0x932C] }, .reset, by decide⟩,
    ⟨6, { sender := 4, host := none, words := [] }, up, by decide⟩,
    ⟨0, { sender := 5, host := none, words := [] }, (setup up [fun s =>
      { s with boxes := vec fun i => { s.boxes[i] with msgs := List.replicate 8 ⟨0, 1, 0, []⟩ } }]), by decide, by
      decide, by decide, { sender := 0, seq := 0x1, tag := 0x0, words := [] },
      [{ sender := 0, seq := 0x1, tag := 0x0, words := [] }, { sender := 0, seq := 0x1, tag := 0x0, words := [] },
      { sender := 0, seq := 0x1, tag := 0x0, words := [] }, { sender := 0, seq := 0x1, tag := 0x0, words := [] },
      { sender := 0, seq := 0x1, tag := 0x0, words := [] }, { sender := 0, seq := 0x1, tag := 0x0, words := [] },
      { sender := 0, seq := 0x1, tag := 0x0, words := [] }], by decide⟩⟩

/-- `Obligations.BackplaneFaultsBeatsAndCap`. -/
theorem test_meets_BackplaneFaultsBeatsAndCap :
    (∃ s : State, (s.sys.st = .boot)) ∧
    (∃ s : State, (s.powered = true) ∧ (s.bp.faultAct = 0) ∧ (s.sys.st ≠ .hold) ∧ (c0Up s = true)) ∧
    (∃ s : State, (s.powered = true) ∧ (s.bp.faultAct = 1) ∧ (s.sys.st = .run) ∧ (s.sys.cores.getLsbD 0 = true) ∧
      (changeDue s = false) ∧ (s.sys.acted = 0)) ∧
    (∃ s : State, (s.powered = true) ∧ (s.bp.faultAct = 2) ∧ (s.sys.st = .run) ∧ (s.sys.cores.getLsbD 0 = true) ∧
      (changeDue s = false) ∧ (s.sys.acted = 0)) ∧
    (∃ s : State, (s.powered = true) ∧ (s.sys.st = .hold ∨ (s.sys.st = .standby ∨ s.sys.st = .run) ∧ c0Up s = false)) ∧
    (∃ s : State, (s.powered = true) ∧ (s.sys.st ≠ .hold) ∧ (s.sys.st ≠ .standby) ∧ (s.sys.st ≠ .run)) ∧
    (∃ s : State, (bpRuns s = true) ∧ ∃ addr : BitVec 3, (s.bp.leader = true) ∧ (addr < s.sys.addr)) ∧
    (∃ s : State, (bpRuns s = true) ∧ (s.bp.leader = false)) ∧
    (∃ s : State, (bpRuns s = true) ∧ (s.bp.addrDup = false)) ∧
    (∃ s : State, (bpRuns s = true) ∧ (s.bp.leader = true) ∧ (0 < s.bp.cap) ∧ (s.mbx[(3 : Fin 4)].state = .empty ∨
      s.mbx[(3 : Fin 4)].state = .ready) ∧ (6000 ≤ s.bp.leadMs)) ∧
    (∃ s : State, (bpRuns s = true) ∧ ∃ p : PeerCap, (s.bp.leader = true) ∧ (0 < s.bp.cap) ∧ (p.addr ∈ others s)) ∧
    (∃ s : State, (bpRuns s = true) ∧ (s.bp.leader = false) ∧ (s.bp.beatOk = false) ∧ (0 < s.bp.cap)) ∧
    (∃ s : State, (bpRuns s = true) ∧ (s.bp.leader = true ∨ s.bp.beatOk = true ∨ s.bp.cap = 0)) :=
  ⟨⟨(setup .reset [fun s => { s with sys.st := .boot }]), by decide⟩,
    ⟨(setup .reset [fun s => { s with bp.faultAct := 0 }]), by decide⟩,
    ⟨(setup .reset [fun s => { s with bp.faultAct := 1 }, fun s => { s with sys.st := .run }, fun s =>
      { s with sys.acted := 0 }]), by decide⟩,
    ⟨(setup .reset [fun s => { s with bp.faultAct := 2 }, fun s => { s with sys.st := .run }, fun s =>
      { s with sys.acted := 0 }]), by decide⟩,
    ⟨(setup .reset [fun s => { s with sys.st := .hold }]), by decide⟩,
    ⟨.reset, by decide⟩,
    ⟨(setup .reset [fun s => { s with sys.st := .run }, fun s => { s with bp.standalone := true }, fun s =>
      { s with bp.leader := true }]), by decide, 0x0, by decide⟩,
    ⟨(setup up [fun s => { s with bp.standalone := true }, fun s => { s with bp.leader := false }]), by decide⟩,
    ⟨(setup .reset [fun s => { s with sys.st := .safe }, fun s => { s with bp.standalone := true }, fun s =>
      { s with bp.addrDup := false }]), by decide⟩,
    ⟨(setup up [fun s => { s with bp.standalone := true }, fun s => { s with bp.leader := true }, fun s =>
      { s with bp.cap := (0 + 1) }, fun s => { s with bp.leadMs := 6000 }]), by decide⟩,
    ⟨(setup up [fun s => { s with bp.standalone := true }, fun s => { s with bp.leader := true }, fun s =>
      { s with bp.cap := (0 + 1) }]), by decide,
      { addr := 0x0, grant := 0, status := 0x1, siteCap := 1, full := true }, by decide⟩,
    ⟨(setup up [fun s => { s with bp.standalone := true }, fun s => { s with bp.leader := false }, fun s =>
      { s with bp.beatOk := false }, fun s => { s with bp.cap := (0 + 1) }]), by decide⟩,
    ⟨(setup .reset [fun s => { s with sys.st := .run }, fun s => { s with bp.standalone := true }]), by decide⟩⟩

/-- `Obligations.SpiWritesWholeAndReadsConsistently`. -/
theorem test_meets_SpiWritesWholeAndReadsConsistently :
    (∃ s : State, (s.powered = true) ∧ (s.bus.spiCrc = false)) ∧
    (∃ s : State, (s.powered = true) ∧ ∃ h : Word, ∃ ws : List Word, ∃ c : Option Byte, (hdrOk h = true) ∧ (h.getLsbD
      15 = false) ∧ (ws ≠ []) ∧ (ws.length ≤ 64) ∧ (c = (if s.bus.spiCrc then some (crc8 ((h :: ws).flatMap bytesHL))
      else none)) ∧ (hitsFull (addressed (hdrFix h) (hdrAddr h) ws) s = false)) ∧
    (∃ s : State, (s.powered = true) ∧ ∃ h : Word, ∃ ws : List Word, ∃ c : Byte, (s.bus.spiCrc = true) ∧ (hdrOk h =
      true) ∧ (h.getLsbD 15 = false) ∧ (ws ≠ []) ∧ (ws.length ≤ 64) ∧ (c ≠ crc8 ((h :: ws).flatMap bytesHL))) ∧
    (∃ s : State, (s.powered = true) ∧ ∃ h : Word, ∃ ws : List Word, (s.bus.spiCrc = false) ∧ (hdrOk h = true) ∧
      (h.getLsbD 15 = false) ∧ (64 < ws.length)) ∧
    (∃ s : State, (s.powered = true) ∧ ∃ h : Word, ∃ ws : List Word, (s.bus.spiCrc = false) ∧ (hdrOk h = true) ∧
      (h.getLsbD 15 = false) ∧ (ws ≠ []) ∧ (ws.length ≤ 64) ∧ (hitsFull (addressed (hdrFix h) (hdrAddr h) ws) s =
      true)) ∧
    (∃ s : State, (s.powered = true) ∧ (s.mtr.restored = true) ∧ (latchByp s = false) ∧ (latchWf 0 s.bus.latchSpi =
      true)) :=
  ⟨⟨(setup .reset [fun s => { s with bus.spiCrc := false }]), by decide⟩,
    ⟨.reset, by decide, 0xC8, [0x12, 0x9], none, by decide⟩,
    ⟨(setup .reset [fun s => { s with bus.spiCrc := true }]), by decide, 0x280, [0x2], 0x0, by decide⟩,
    ⟨(setup .reset [fun s => { s with bus.spiCrc := false }]), by decide, 0x1, [0x5, 0x5, 0x5, 0x5, 0x5, 0x5, 0x5,
      0x5, 0x5, 0x5, 0x5, 0x5, 0x5, 0x5, 0x5, 0x5, 0x5, 0x5, 0x5, 0x5, 0x5, 0x5, 0x5, 0x5, 0x5, 0x5, 0x5, 0x5, 0x5,
      0x5, 0x5, 0x5, 0x5, 0x5, 0x5, 0x5, 0x5, 0x5, 0x5, 0x5, 0x5, 0x5, 0x5, 0x5, 0x5, 0x5, 0x5, 0x5, 0x5, 0x5, 0x5,
      0x5, 0x5, 0x5, 0x5, 0x5, 0x5, 0x5, 0x5, 0x5, 0x5, 0x5, 0x5, 0x5, 0x5], by decide⟩,
    ⟨(setup .reset [fun s => { s with mbx := vec fun i => { s.mbx[i] with state := .pending, opcode := 0x0101 } }, fun
      s => { s with bus.spiCrc := false }]), by decide, 0xC8, [0x5, 0x5, 0x5, 0x5, 0x5, 0x5, 0x5, 0x5, 0x5, 0x5, 0x5,
      0x5, 0x5, 0x5, 0x5, 0x5, 0x5, 0x5, 0x5, 0x5, 0x5, 0x5, 0x5, 0x5, 0x5, 0x5, 0x5, 0x5, 0x5, 0x5, 0x5, 0x5, 0x5,
      0x5, 0x5, 0x5, 0x5, 0x5, 0x5, 0x5, 0x5, 0x5, 0x5, 0x5, 0x5, 0x5, 0x5, 0x5, 0x5, 0x5, 0x5, 0x5, 0x5, 0x5, 0x5,
      0x5, 0x5, 0x5, 0x5, 0x5, 0x5, 0x5, 0x5, 0x5], by decide⟩,
    ⟨(setup up [fun s => { s with mtr.restored := true }]), by decide⟩⟩

/-- `Obligations.TwoWireBusAndItsAlerts`. -/
theorem test_meets_TwoWireBusAndItsAlerts :
    (∃ s : State, (s.powered = true) ∧ (s.bp.addrDup = false) ∧ (s.bus.twPec = false)) ∧
    (∃ s : State, (s.powered = true) ∧ (s.bp.addrDup = false) ∧ ∃ p : Word, ∃ ws : List Word, ∃ pec : Option Byte,
      (ptrOk p = true) ∧ (ws ≠ []) ∧ (ws.length ≤ 64) ∧ (pec = (if s.bus.twPec then some (crc8 (twByte s false :: (p
      :: ws).flatMap bytesHL)) else none)) ∧ (hitsFull (addressed (hdrFix p) (hdrAddr p) ws) s = false)) ∧
    (∃ s : State, (s.powered = true) ∧ (s.bp.addrDup = false) ∧ ∃ p : Word, (ptrOk p = true)) ∧
    (∃ s : State, (s.powered = true) ∧ (s.bp.addrDup = false) ∧ ∃ p : Option Word, (∀ q, p = some q → ptrOk q = true)) ∧
    (∃ s : State, (s.powered = true) ∧ (s.bp.addrDup = false) ∧ (s.bus.twPec = true)) ∧
    (∃ s : State, (s.powered = true) ∧ (s.bp.addrDup = false) ∧ (s.bus.pointer = 0x32) ∧ (s.bus.pointerFix = false)) ∧
    (∃ s : State, (s.powered = true) ∧ (s.bp.addrDup = true)) ∧
    (∃ s : State, (s.powered = true) ∧ (s.bp.addrDup = false) ∧ ∃ a : Alert, ∃ answered : Bool, ∃ won : Bool,
      (headAlert s.alr.queue = some a) ∧ (s.bus.alertOut = true) ∧ (a.cls ≤ s.bus.level) ∧ (answered = false ∨ won =
      true)) ∧
    (∃ s : State, (s.powered = true) ∧ (s.bp.addrDup = false) ∧ ∃ a : Alert, (headAlert s.alr.queue = some a) ∧
      (s.bus.level < a.cls)) ∧
    (∃ s : State, (s.powered = true) ∧ (s.bp.addrDup = false)) ∧
    (∃ s : State, (s.powered = true) ∧ (s.bp.addrDup = false) ∧ (s.bus.repull = true)) ∧
    (∃ s : State, (s.powered = true) ∧ ∃ x : CtlXfer, ∃ rest : List CtlXfer, (s.bus.ctlQueue = x :: rest) ∧ (s.sys.st
      = .hold)) ∧
    (∃ s : State, (s.powered = true) ∧ ∃ x : CtlXfer, ∃ rest : List CtlXfer, (s.bus.ctlQueue = x :: rest) ∧ (s.sys.st
      ≠ .hold)) ∧
    (∃ s : State, (s.powered = true) ∧ ∃ x : CtlXfer, ∃ rest : List CtlXfer, (s.bus.ctlQueue = x :: rest) ∧ (s.sys.st
      ≠ .hold) ∧ (s.bus.ctlLosses < 7)) ∧
    (∃ s : State, (s.powered = true) ∧ ∃ x : CtlXfer, ∃ rest : List CtlXfer, (s.bus.ctlQueue = x :: rest) ∧ (s.sys.st
      ≠ .hold) ∧ (7 ≤ s.bus.ctlLosses)) :=
  ⟨⟨(setup .reset [fun s => { s with bp.addrDup := false }, fun s => { s with bus.twPec := false }]), by decide⟩,
    ⟨(setup .reset [fun s => { s with bp.addrDup := false }]), by decide, by decide, 0x64, [0x19], none, by decide⟩,
    ⟨(setup .reset [fun s => { s with bp.addrDup := false }]), by decide, by decide, 0xC8, by decide⟩,
    ⟨(setup .reset [fun s => { s with bp.addrDup := false }]), by decide, by decide, none, by decide⟩,
    ⟨(setup .reset [fun s => { s with bp.addrDup := false }, fun s => { s with bus.twPec := true }]), by decide⟩,
    ⟨(setup .reset [fun s => { s with bp.addrDup := false }, fun s => { s with bus.pointer := 0x32 }, fun s =>
      { s with bus.pointerFix := false }]), by decide⟩,
    ⟨(setup .reset [fun s => { s with bp.addrDup := true }]), by decide⟩,
    ⟨(setup .reset [fun s => { s with bp.addrDup := false }, fun s => { s with bus.alertOut := true }, fun s =>
      { s with bus.alertOut := true, bus.level := 1, alr.queue := [{ seq := 1, cls := 1, kind := 1, reason := 0, inst := 0, param := 0, time := 0, timeValid := false, deferred := false, bbxSeq := 0 }] }]),
      by decide, by decide,
      { seq := 1, cls := 1, kind := 1, reason := 0, inst := 0, param := 0x0, time := 0, timeValid := false, deferred := false, bbxSeq := 0 },
      true, true, by decide⟩,
    ⟨(setup .reset [fun s =>
      { s with alr.queue := [{ seq := 1, cls := 1, kind := 1, reason := 0, inst := 0, param := 0, time := 0, timeValid := false, deferred := false, bbxSeq := 0 }] },
      fun s => { s with bp.addrDup := false }]), by decide, by decide,
      { seq := 1, cls := 1, kind := 1, reason := 0, inst := 0, param := 0x0, time := 0, timeValid := false, deferred := false, bbxSeq := 0 },
      by decide⟩,
    ⟨(setup .reset [fun s => { s with bp.addrDup := false }]), by decide⟩,
    ⟨(setup .reset [fun s => { s with bp.addrDup := false }, fun s => { s with bus.repull := true }]), by decide⟩,
    ⟨(setup .reset [fun s => { s with bus.ctlQueue := [⟨1, 0x33, [5], 0⟩] }, fun s => { s with sys.st := .hold }]), by
      decide, { target := 0x1, addr := 51, words := [0x5], reads := 0 }, [], by decide⟩,
    ⟨(setup .reset [fun s => { s with bus.ctlQueue := [⟨1, 0x33, [5], 0⟩] }]), by decide,
      { target := 0x1, addr := 51, words := [0x5], reads := 0 }, [], by decide⟩,
    ⟨(setup .reset [fun s => { s with bus.ctlQueue := [⟨1, 0x33, [5], 0⟩] }, fun s =>
      { s with bus.ctlLosses := (7 - 1) }]), by decide, { target := 0x1, addr := 51, words := [0x5], reads := 0 }, [],
      by decide⟩,
    ⟨(setup .reset [fun s => { s with bus.ctlQueue := [⟨1, 0x33, [5], 0⟩] }, fun s => { s with bus.ctlLosses := 7 }]),
      by decide, { target := 0x1, addr := 51, words := [0x5], reads := 0 }, [], by decide⟩⟩

/-- `Obligations.RegisterWritesFollowTheirKind`. -/
theorem test_meets_RegisterWritesFollowTheirKind :
    (∃ s : State, (s.powered = true) ∧ ∃ a : Nat, (0x1000 ≤ a)) ∧
    (∃ s : State, (s.powered = true)) ∧
    (∃ s : State, (s.powered = true) ∧ ∃ n : Fin 4, (s.mbx[n].state ≠ .empty)) ∧
    (∃ s : State, (s.powered = true) ∧ ∃ n : Fin 32, ∃ w : Word, (restful s.taps[n] = true) ∧ (s.taps[n].cfg.gang =
      false) ∧ (w.toNat % 32 ≤ 16)) ∧
    (∃ s : State, (s.powered = true) ∧ ∃ n : Fin 32, ∃ w : Word, (restful s.taps[n] = false ∨ s.taps[n].cfg.gang =
      true ∨ 16 < w.toNat % 32)) ∧
    (∃ s : State, (s.powered = true)) ∧
    (∃ s : State, (s.powered = true) ∧ ∃ via : Via, ∃ args : List Word, ∃ n : Fin 32, (Accepts 0x0314 via args s) ∧
      (arg args 0 = n.val) ∧ (n.val % 2 = 0) ∧ (arg args 1 ≤ 1) ∧ (clUp s n = true) ∧ (s.taps[n].cfg.share ≠ 0 ∨
      s.taps[partner n].cfg.share ≠ 0)) ∧
    (∃ s : State, (s.powered = true) ∧ ∃ via : Via, ∃ args : List Word, (Accepts 0x010F via args s)) ∧
    (∃ s : State, (s.powered = true) ∧ (s.sys.shValid = true) ∧ (s.sys.shOkAt + 1000 ≤ s.sys.uptime)) ∧
    (∃ s : State, (s.powered = true) ∧ (s.sys.shValid = false ∨ s.sys.uptime < s.sys.shOkAt + 1000)) ∧
    (∃ s : State, (s.powered = true) ∧ (s.sys.st = .safe)) ∧
    (∃ s : State, (s.powered = true) ∧ (s.sys.st ≠ .safe)) :=
  ⟨⟨.reset, by decide, 8000, by decide⟩,
    ⟨.reset, by decide⟩,
    ⟨(setup .reset [fun s => { s with mbx := vec fun i => { s.mbx[i] with state := .pending, opcode := 0x0101 } }]),
      by decide, 0, by decide⟩,
    ⟨(setup .reset [onTaps fun x => { x with cfg.gang := false }]), by decide, 0, 0x64, by decide⟩,
    ⟨.reset, by decide, 0, 0x1F4, by decide⟩,
    ⟨.reset, by decide⟩,
    ⟨(setup up [onTaps fun x => { x with cfg.share := 3, cfg.helper := true }]), by decide, Via.monitor, [0xE, 0x0,
      0x4650, 0x0], 14, (by unfold Accepts; decide)⟩,
    ⟨up, by decide, Via.own, [0x1F], (by unfold Accepts; decide)⟩,
    ⟨(setup .reset [fun s => { s with sys.uptime := 100000 }, fun s => { s with sys.shValid := true }]), by decide⟩,
    ⟨.reset, by decide⟩,
    ⟨(setup .reset [fun s => { s with sys.st := .safe }]), by decide⟩,
    ⟨.reset, by decide⟩⟩

/-- `Obligations.AlertsQueueAndAreAcknowledged`. -/
theorem test_meets_AlertsQueueAndAreAcknowledged :
    (∃ cls : Nat, ∃ k : Fin 64, ∃ h : Alert, ∃ s : State, (planeDown s = false) ∧ (s.alr.queue.length = 64) ∧
      (s.alr.queue[k.val]? = some h) ∧ (∀ b ∈ s.alr.queue, b.cls ≤ h.cls) ∧ (∀ b ∈ s.alr.queue.take k.val, b.cls <
      h.cls) ∧ (h.cls < cls)) ∧
    (∃ cls : Nat, ∃ k : Fin 64, ∃ h : Alert, ∃ s : State, (planeDown s = false) ∧ (s.alr.queue.length = 64) ∧
      (s.alr.queue[k.val]? = some h) ∧ (∀ b ∈ s.alr.queue, b.cls ≤ h.cls) ∧ (∀ b ∈ s.alr.queue.take k.val, b.cls <
      h.cls) ∧ (cls ≤ h.cls)) ∧
    (∃ x : Fin 4, ∃ s : State, (s.powered = true) ∧ (s.ports[x].state = .precharge) ∧ (planeDown s = false) ∧
      (s.alr.queue.length = 64) ∧ (s.bbx.windows = [])) ∧
    (∃ s : State, (s.powered = true) ∧ ∃ seq : Nat, (seq < 2 ^ 32) ∧ (∃ a ∈ s.alr.queue, a.seq = seq)) ∧
    (∃ s : State, (s.powered = true) ∧ ∃ seq : Nat, (seq < 2 ^ 32) ∧ (∀ a ∈ s.alr.queue, a.seq ≠ seq)) ∧
    (∃ s : State, (s.powered = true)) :=
  ⟨⟨60, 0,
      { seq := 1, cls := 2, kind := 1, reason := 0, inst := 0, param := 0x0, time := 0, timeValid := false, deferred := false, bbxSeq := 0 },
      (setup .reset [fun s =>
      { s with alr.queue := List.replicate 64 { seq := 1, cls := 2, kind := 1, reason := 0, inst := 0, param := 0, time := 0, timeValid := false, deferred := false, bbxSeq := 0 } }]),
      by decide⟩,
    ⟨0, 0,
      { seq := 1, cls := 2, kind := 1, reason := 0, inst := 0, param := 0x0, time := 0, timeValid := false, deferred := false, bbxSeq := 0 },
      (setup .reset [fun s =>
      { s with alr.queue := List.replicate 64 { seq := 1, cls := 2, kind := 1, reason := 0, inst := 0, param := 0, time := 0, timeValid := false, deferred := false, bbxSeq := 0 } }]),
      by decide⟩,
    ⟨0, (setup .reset [fun s =>
      { s with alr.queue := List.replicate 64 { seq := 1, cls := 2, kind := 1, reason := 0, inst := 0, param := 0, time := 0, timeValid := false, deferred := false, bbxSeq := 0 } },
      onPorts fun x => { x with state := .precharge }, fun s => { s with bbx.windows := [] }]), by decide⟩,
    ⟨(setup .reset [fun s =>
      { s with alr.queue := [{ seq := 1, cls := 1, kind := 1, reason := 0, inst := 0, param := 0, time := 0, timeValid := false, deferred := false, bbxSeq := 0 }] }]),
      by decide, 1, by decide⟩,
    ⟨.reset, by decide, 1, by decide⟩,
    ⟨.reset, by decide⟩⟩

/-- `Obligations.MetersTimeSnapshotAndSign`. -/
theorem test_meets_MetersTimeSnapshotAndSign :
    (∃ k : Fin 4, ∃ s : State, (s.powered = true) ∧ (s.mtr.alarms[k].running = true) ∧ (s.mtr.alarms[k].action ≠ 1)) ∧
    (∃ k : Fin 4, ∃ s : State, (s.powered = true) ∧ (s.mtr.alarms[k].running = true) ∧ (s.mtr.alarms[k].action = 1) ∧
      (s.sys.st = .run) ∧ (s.sys.cores.getLsbD 0 = true) ∧ (changeDue s = false) ∧ (s.sys.acted = 0)) ∧
    (∃ k : Fin 4, ∃ s : State, (s.powered = true) ∧ (s.mtr.alarms[k].running = false)) ∧
    (∃ s : State, (s.powered = true) ∧ (s.mtr.snapAt = none ∨ ∃ k : Nat, s.mtr.snapAt = some k ∧ s.stamp < k)) ∧
    (∃ s : State, (s.powered = true) ∧ ∃ k : Nat, (s.mtr.snapAt = some k) ∧ (k ≤ s.stamp) ∧ (c3Up s = true)) ∧
    (∃ s : State, (s.powered = true) ∧ ∃ k : Nat, (s.mtr.snapAt = some k) ∧ (k ≤ s.stamp) ∧ (c3Up s = false) ∧
      (s.mtr.pending.length < 4)) ∧
    (∃ s : State, (s.powered = true) ∧ ∃ k : Nat, (s.mtr.snapAt = some k) ∧ (k ≤ s.stamp) ∧ (c3Up s = false) ∧ (4 ≤
      s.mtr.pending.length)) ∧
    (∃ via : Via, ∃ args : List Word, ∃ s : State, (Accepts 0x0503 via args s) ∧ (arg args 0 = 0) ∧ (arg args 3 = 1) ∧
      (arg2 args 5 % 2 ^ 32 ≠ 0)) :=
  ⟨⟨0, (setup .reset [fun s =>
      { s with mtr.alarms := vec fun i0 => (fun x0 => { x0 with running := true }) s.mtr.alarms[i0] }]), by decide⟩,
    ⟨0, (setup .reset [fun s =>
      { s with mtr.alarms := vec fun i0 => (fun x0 => { x0 with running := true }) s.mtr.alarms[i0] }, fun s =>
      { s with mtr.alarms := vec fun i0 => (fun x0 => { x0 with action := 1 }) s.mtr.alarms[i0] }, fun s =>
      { s with sys.st := .run }, fun s => { s with sys.acted := 0 }]), by decide⟩,
    ⟨1, (setup .reset [fun s =>
      { s with mtr.alarms := vec fun i0 => (fun x0 => { x0 with running := false }) s.mtr.alarms[i0] }]), by decide⟩,
    ⟨(setup .reset [fun s => { s with mtr.snapAt := none }]), by decide⟩,
    ⟨(setup up [fun s => { s with mtr.snapAt := some 0 }]), by decide, 0, by decide⟩,
    ⟨(setup .reset [fun s => { s with mtr.snapAt := some 0 }]), by decide, 0, by decide⟩,
    ⟨(setup .reset [fun s => { s with mtr.snapAt := some 0, mtr.pending := List.replicate 4 { seq := 0 } }]), by
      decide, 0, by decide⟩,
    ⟨Via.own, [0x0, 0x0, 0x0, 0x1, 0x0, 0x1388, 0x0, 0x0, 0x0], up, (by unfold Accepts; decide)⟩⟩

/-- `Obligations.HousekeepingStartsAndEndsTheModule`. -/
theorem test_meets_HousekeepingStartsAndEndsTheModule :
    (∃ s : State, ∃ p : HkPath, (s.sys.st = .off) ∧ (pathRated p = true) ∧ (pathUp p = true) ∧ (tapPath p = false ∨
      s.sys.shipLatch = false)) ∧
    (∃ s : State, ∃ p : HkPath, (s.sys.st = .off) ∧ (pathRated p = true) ∧ (pathUp p = true) ∧ (tapPath p = true) ∧
      (s.sys.shipLatch = true)) ∧
    (∃ p : HkPath, (pathRated p = true) ∧ (pathUp p = false)) ∧
    (∃ s : State, ∃ v : Int, (18000 ≤ v) ∧ (v ≤ 125000) ∧ (s.sys.st = .off ∨ s.sys.st = .ship)) ∧
    (∃ s : State, ∃ v : Int, (18000 ≤ v) ∧ (v ≤ 125000) ∧ (s.sys.st = .standby) ∧ (s.sys.hkLost = false) ∧
      (s.sys.hkSrc = 3)) ∧
    (∃ s : State, ∃ v : Int, (-125000 ≤ v) ∧ (v < 18000) ∧ (s.powered = true) ∧ (s.sys.hkLost = false) ∧ (s.sys.hkSrc
      = 1) ∧ (s.sys.srcOk = 0b0001)) ∧
    (∃ s : State, (s.powered = true) ∧ (s.sys.hkLost = false)) ∧
    (∃ s : State, (s.powered = true) ∧ (s.sys.hkLost = true) ∧ (s.sys.rampMs = 19) ∧ (s.pending = [])) :=
  ⟨⟨(setup .reset [fun s => { s with sys.st := .off }]), HkPath.aux 52000, by decide⟩,
    ⟨(setup .reset [fun s => { s with sys.st := .off }, fun s => { s with sys.shipLatch := true }]), HkPath.tap 6
      98000, by decide⟩,
    ⟨HkPath.aux 0, by decide⟩,
    ⟨(setup .reset [fun s => { s with sys.st := .off }]), 98000, by decide⟩,
    ⟨(setup .reset [fun s => { s with sys.st := .standby }, fun s => { s with sys.hkLost := false }, fun s =>
      { s with sys.hkSrc := 3 }]), 98000, by decide⟩,
    ⟨(setup .reset [fun s => { s with sys.hkLost := false }, fun s => { s with sys.hkSrc := 1 }, fun s =>
      { s with sys.srcOk := 0b0001 }]), 1, by decide⟩,
    ⟨(setup .reset [fun s => { s with sys.hkLost := false }]), by decide⟩,
    ⟨(setup .reset [fun s => { s with sys.hkLost := true }, fun s => { s with sys.rampMs := 19 }, fun s =>
      { s with pending := [] }]), by decide⟩⟩

/-- `Obligations.BootEndsByItsChecks`. -/
theorem test_meets_BootEndsByItsChecks :
    (∃ s : State, (s.sys.st = .boot) ∧ (s.fw.active ≤ 1) ∧ (s.sys.recReq = false) ∧ (s.sys.estop = false) ∧
      (s.sys.shFault = false) ∧ ∃ b0 b1 : Bool, ((if s.fw.active = 0 then b0 else b1) = true) ∧ (bankGood s
      s.fw.active = true)) ∧
    (∃ s : State, (s.sys.st = .boot) ∧ (s.fw.active ≤ 1) ∧ ∃ b0 : Bool, ∃ b1 : Bool, (b0 = true → bankGood s 0 =
      false) ∧ (b1 = true → bankGood s 1 = false)) ∧
    (∃ s : State, (s.sys.st = .boot) ∧ (s.fw.active ≤ 1) ∧ (s.sys.recReq = true) ∧ (bankGood s 0 = true ∨ bankGood s 1
      = true)) :=
  ⟨⟨(setup .reset [fun s =>
      { s with fw.banks := vec fun i => { s.fw.banks[i] with valid := true, rollback := s.fw.floor } }]), by decide,
      by decide, by decide, by decide, by decide, true, true, by decide⟩,
    ⟨(setup .reset [fun s => { s with sys.st := .boot }, fun s => { s with fw.active := 1 }]), by decide, by decide,
      false, true, by decide⟩,
    ⟨(setup .reset [fun s => { s with sys.st := .boot }, fun s => { s with fw.active := 1 }, fun s =>
      { s with sys.recReq := true }]), by decide⟩⟩

/-- `Obligations.KeyAndEstopAct`. -/
theorem test_meets_KeyAndEstopAct :
    (∃ s : State, (s.sys.st = .ship)) ∧
    (∃ s : State, (s.powered = true) ∧ (s.sys.keyStale = false)) ∧
    (∃ s : State, (s.powered = true) ∧ (s.sys.keyStale = true)) ∧
    (∃ s : State, (s.powered = true) ∧ (s.sys.hkLost = false) ∧ (s.sys.keyStale = false)) ∧
    (∃ s : State, (s.powered = true) ∧ (s.sys.longPress = true) ∧ (s.sys.hkLost = false)) ∧
    (∃ s : State, (s.sys.st = .standby ∨ s.sys.st = .run ∨ s.sys.st = .hold) ∧ (s.sys.acted = 0 ∨ 3 < s.sys.acted)) ∧
    (∃ s : State, (s.sys.st = .recovery)) :=
  ⟨⟨(setup .reset [fun s => { s with sys.st := .ship }]), by decide⟩,
    ⟨(setup .reset [fun s => { s with sys.keyStale := false }]), by decide⟩,
    ⟨(setup .reset [fun s => { s with sys.keyStale := true }]), by decide⟩,
    ⟨(setup .reset [fun s => { s with sys.hkLost := false }, fun s => { s with sys.keyStale := false }]), by decide⟩,
    ⟨(setup .reset [fun s => { s with sys.longPress := true }, fun s => { s with sys.hkLost := false }]), by decide⟩,
    ⟨up, by decide⟩,
    ⟨(setup .reset [fun s => { s with sys.st := .recovery }]), by decide⟩⟩

/-- `Obligations.HoldKeepsTheStateBefore`. -/
theorem test_meets_HoldKeepsTheStateBefore :
    (∃ s : State, (s.sys.chg = [.holdCmd]) ∧ (s.sys.acted = 0) ∧ (s.sys.st = .standby ∨ s.sys.st = .run) ∧
      (s.pour.state = .idle) ∧ (s.pour.rise = false)) ∧
    (∃ s : State, (s.sys.st = .hold) ∧ (s.sys.rampHold = true)) ∧
    (∃ s : State, (s.sys.st = .hold) ∧ (s.sys.holdLimit = false) ∧ (s.bp.faultWaits = false) ∧ (s.sys.before =
      .standby → s.sys.estop = false ∧ s.sys.shFault = false) ∧ (∀ k : Fin 4, s.mtr.alarms[k].standbyWaits = false)) ∧
    (∃ s : State, (s.sys.st = .hold) ∧ (s.sys.holdLimit = true) ∧ (s.sys.rampHold = false) ∧ (s.bp.faultWaits = false)
      ∧ (s.sys.estop = false) ∧ (s.sys.shFault = false) ∧ (∀ k : Fin 4, s.mtr.alarms[k].standbyWaits = false)) :=
  ⟨⟨(setup up [fun s => { s with sys.chg := [.holdCmd] }, fun s => { s with sys.acted := 0 }, fun s =>
      { s with pour.state := .idle }, fun s => { s with pour.rise := false }]), by decide⟩,
    ⟨(setup .reset [fun s => { s with sys.st := .hold }, fun s => { s with sys.rampHold := true }]), by decide⟩,
    ⟨(setup .reset [fun s => { s with sys.st := .hold }, fun s => { s with sys.holdLimit := false }, fun s =>
      { s with bp.faultWaits := false }, fun s => { s with sys.before := .standby }, fun s =>
      { s with sys.estop := false }, fun s => { s with sys.shFault := false }, fun s =>
      { s with mtr.alarms := vec fun i0 => (fun x0 => { x0 with standbyWaits := false }) s.mtr.alarms[i0] }]), by
      decide⟩,
    ⟨(setup .reset [fun s => { s with sys.st := .hold }, fun s => { s with sys.holdLimit := true }, fun s =>
      { s with sys.rampHold := false }, fun s => { s with bp.faultWaits := false }, fun s =>
      { s with sys.estop := false }, fun s => { s with sys.shFault := false }, fun s =>
      { s with mtr.alarms := vec fun i0 => (fun x0 => { x0 with standbyWaits := false }) s.mtr.alarms[i0] }]), by
      decide⟩⟩

/-- `Obligations.MonitorViewOnlyShows`. -/
theorem test_meets_MonitorViewOnlyShows :
    (∃ (line : List Byte) (stop : Option Nat) (s : State), (s.powered = true) ∧ (128 < (typed line).length)) ∧
    (∃ s : State, (s.powered = true)) ∧
    (∃ line : List Byte, ∃ s : State, (s.powered = true) ∧ ((typed line).length ≤ 128) ∧ (Says line 0x000 1)) ∧
    (∃ line : List Byte, ∃ s : State, (s.powered = true) ∧ ((typed line).length ≤ 128) ∧ (Says line 0x032 1)) ∧
    (∃ line : List Byte, ∃ s : State, (s.powered = true) ∧ ((typed line).length ≤ 128) ∧ ∃ addr : Nat, ∃ count : Nat,
      (Says line addr count) ∧ (1 ≤ count) ∧ (count ≤ 64) ∧ (addr < 4096)) ∧
    (∃ line : List Byte, ∃ s : State, (s.powered = true) ∧ ((typed line).length ≤ 128) ∧ ∃ addr : Nat, ∃ count : Nat,
      (Says line addr count) ∧ (count = 0 ∨ 64 < count ∨ 4096 ≤ addr)) ∧
    (∃ line : List Byte, ∃ s : State, (s.powered = true) ∧ ((typed line).length ≤ 128) ∧ ∃ seq : Nat, ∃ h : Held,
      (Says line seq 64) ∧ (heldRec s.bbx seq = some h)) ∧
    (∃ line : List Byte, ∃ s : State, (s.powered = true) ∧ ((typed line).length ≤ 128) ∧ ∃ seq : Nat, ∃ c : Option
      Nat, (Says line seq (c.getD 64)) ∧ (heldRec s.bbx seq = none)) ∧
    (∃ line : List Byte, ∃ s : State, (s.powered = true) ∧ ((typed line).length ≤ 128) ∧ (idleCr line = false)) :=
  ⟨⟨List.replicate 129 0x41, none, up, by decide⟩,
    ⟨.reset, by decide⟩,
    ⟨[], .reset, (by unfold Says; decide)⟩,
    ⟨[0x0], .reset, (by unfold Says; decide)⟩,
    ⟨[0x6C], .reset, by decide, by decide, 100, 7, (by unfold Says; decide)⟩,
    ⟨[0xA0], .reset, by decide, by decide, 10, 1540, (by unfold Says; decide)⟩,
    ⟨[0x40, 0x5F], (setup .reset [fun s => { s with bbx.ring := [{ seq := 5, okA := true }] }]), by decide, by decide,
      5,
      { seq := 5, type := 0, words := [0xA, 0x0, 0x5, 0x0, 0x0, 0x0, 0x0, 0x0, 0x8669, 0x80AB], okA := true, okB := true },
      (by unfold Says; decide)⟩,
    ⟨[], .reset, by decide, by decide, 5, none, (by unfold Says; decide)⟩,
    ⟨[], .reset, by decide⟩⟩

/-- `Obligations.ServiceNeedsAVerifiedAnswer`. -/
theorem test_meets_ServiceNeedsAVerifiedAnswer :
    (∃ line : List Byte, ∃ s : State, (s.powered = true) ∧ (idleCr line = false) ∧ ((typed line).length ≤ 128) ∧
      (s.mon.blocked = false)) ∧
    (∃ line : List Byte, ∃ s : State, (s.powered = true) ∧ (idleCr line = false) ∧ ((typed line).length ≤ 128) ∧
      (s.mon.blocked = true)) ∧
    (∃ line : List Byte, ∃ s : State, (s.powered = true) ∧ (idleCr line = false) ∧ ((typed line).length ≤ 128) ∧ ∃ sig
      : List Byte, ∃ k : Nat, ∃ t0 : Nat, (s.mon.blocked = false) ∧ (s.mon.nonce = some (k, t0)) ∧ (sig.length = 64) ∧
      (s.sys.uptime ≤ t0 + 60000)) ∧
    (∃ line : List Byte, ∃ s : State, (s.powered = true) ∧ (idleCr line = false) ∧ ((typed line).length ≤ 128) ∧
      (s.mon.blocked = false) ∧ (s.mon.nonce = none)) ∧
    (∃ line : List Byte, ∃ s : State, (s.powered = true) ∧ ((typed line).length ≤ 128) ∧ (idleCr line = false) ∧
      (s.mon.service = false)) ∧
    (∃ line : List Byte, ∃ s : State, (s.powered = true) ∧ ((typed line).length ≤ 128) ∧ (idleCr line = false) ∧
      (s.mon.service = true) ∧ ∃ c : Fin 8, (Says line c.val 64)) ∧
    (∃ line : List Byte, ∃ s : State, (s.powered = true) ∧ ((typed line).length ≤ 128) ∧ (idleCr line = false) ∧
      (s.mon.service = true) ∧ (s.sys.st = .standby ∨ s.sys.st = .safe ∨ s.sys.st = .recovery)) ∧
    (∃ line : List Byte, ∃ s : State, (s.powered = true) ∧ ((typed line).length ≤ 128) ∧ (idleCr line = false) ∧
      (s.mon.service = true) ∧ (s.sys.st = .run)) ∧
    (∃ line : List Byte, ∃ s : State, (s.powered = true) ∧ ((typed line).length ≤ 128) ∧ (idleCr line = false) ∧
      (s.mon.service = true) ∧ ∃ op : Word, ∃ args : List Word, (numAt line 1 op.toNat = some op.toNat) ∧ (numsFrom
      line 2 (args.map (·.toNat)) = some (args.map (·.toNat))) ∧ (passed op.toNat args = none)) ∧
    (∃ (line : List Byte) (s : State), (s.powered = true) ∧ ((typed line).length ≤ 128) ∧ (idleCr line = false) ∧
      (s.mon.service = true) ∧ ∃ (op : Word) (args : List Word), (numAt line 1 op.toNat = some op.toNat) ∧ (numsFrom
      line 2 (args.map (·.toNat)) = some (args.map (·.toNat))) ∧ ∃ i : Instr, (passed op.toNat args = some i) ∧
      (s.sys.st = .boot ∨ s.sys.st = .hold ∨ s.mon.inFlight = true)) ∧
    (∃ (line : List Byte) (s : State), (s.powered = true) ∧ ((typed line).length ≤ 128) ∧ (idleCr line = false) ∧
      (s.mon.service = true) ∧ ∃ (op : Word) (args : List Word), (numAt line 1 op.toNat = some op.toNat) ∧ (numsFrom
      line 2 (args.map (·.toNat)) = some (args.map (·.toNat))) ∧ ∃ i : Instr, (passed op.toNat args = some i) ∧
      (s.sys.st ≠ .boot) ∧ (s.sys.st ≠ .hold) ∧ (s.mon.inFlight = false) ∧ (s.held = [])) ∧
    (∃ line : List Byte, ∃ s : State, (s.powered = true) ∧ ((typed line).length ≤ 128) ∧ (idleCr line = false) ∧
      (s.mon.service = true) ∧ ∃ args : List Word, (numAt line 1 0x0107 = some 0x0107) ∧ (numsFrom line 2 (args.map
      (·.toNat)) = some (args.map (·.toNat))) ∧ (s.sys.st = .standby) ∧ (s.sys.acted = 0) ∧ (s.sys.cores.getLsbD 0 =
      true) ∧ (s.mon.inFlight = false)) ∧
    (∃ line : List Byte, ∃ s : State, (s.powered = true) ∧ ((typed line).length ≤ 128) ∧ (idleCr line = false) ∧
      (s.mon.service = true) ∧ ∃ args : List Word, (numAt line 1 0x0102 = some 0x0102) ∧ (numsFrom line 2 (args.map
      (·.toNat)) = some (args.map (·.toNat)))) :=
  ⟨⟨[0x0], (setup .reset [fun s => { s with mon.blocked := false }]), by decide⟩,
    ⟨[0xFF], (setup .reset [fun s => { s with mon.blocked := true }]), by decide⟩,
    ⟨[], (setup .reset [fun s => { s with mon.nonce := some (0, s.sys.uptime) }, fun s =>
      { s with mon.blocked := false }]), by decide, by decide, by decide, [0x3, 0x3, 0x3, 0x3, 0x3, 0x3, 0x3, 0x3,
      0x3, 0x3, 0x3, 0x3, 0x3, 0x3, 0x3, 0x3, 0x3, 0x3, 0x3, 0x3, 0x3, 0x3, 0x3, 0x3, 0x3, 0x3, 0x3, 0x3, 0x3, 0x3,
      0x3, 0x3, 0x3, 0x3, 0x3, 0x3, 0x3, 0x3, 0x3, 0x3, 0x3, 0x3, 0x3, 0x3, 0x3, 0x3, 0x3, 0x3, 0x3, 0x3, 0x3, 0x3,
      0x3, 0x3, 0x3, 0x3, 0x3, 0x3, 0x3, 0x3, 0x3, 0x3, 0x3, 0x3], 0, 0, by decide⟩,
    ⟨[], (setup .reset [fun s => { s with mon.blocked := false }, fun s => { s with mon.nonce := none }]), by decide⟩,
    ⟨[], (setup .reset [fun s => { s with mon.service := false }]), by decide⟩,
    ⟨[0x1, 0xFF], (setup .reset [fun s => { s with mon.service := true }]), by decide, by decide, by decide, by
      decide, 2, (by unfold Says; decide)⟩,
    ⟨[], (setup up [fun s => { s with mon.service := true }]), by decide⟩,
    ⟨[], (setup .reset [fun s => { s with mon.service := true }, fun s => { s with sys.st := .run }]), by decide⟩,
    ⟨[0x0, 0xFF], (setup .reset [fun s => { s with mon.service := true }]), by decide, by decide, by decide, by
      decide, 0x0, [0x1F], by decide⟩,
    ⟨[], (setup up [fun s => { s with mon.service := true, sys.st := .boot }]), by decide, by decide, by decide, by
      decide, 0x0107, [], by decide, by decide, .sysReset .monitor [], by decide⟩,
    ⟨[], (setup up [fun s => { s with mon.service := true }]), by decide, by decide, by decide, by decide, 0x0107, [],
      by decide, by decide, .sysReset .monitor [], by decide⟩,
    ⟨[0x72], (setup .reset [fun s => { s with mon.service := true }, fun s => { s with sys.st := .standby }, fun s =>
      { s with sys.acted := 0 }, fun s => { s with mon.inFlight := false }]), by decide, by decide, by decide, by
      decide, [], by decide⟩,
    ⟨[0x9D], (setup .reset [fun s => { s with mon.service := true }]), by decide, by decide, by decide, by decide,
      [0x1A, 0xA, 0x0], by decide⟩⟩

/-- `Obligations.PortsComeOnlineAndTrip`. -/
theorem test_meets_PortsComeOnlineAndTrip :
    (∃ x : Fin 4, ∃ v : Int, ∃ s : State, (s.powered = true) ∧ (portRated v = true) ∧ (s.ports[x].state = .idle) ∧
      (inWindow s x v = true) ∧ (mayQualify s x = true)) ∧
    (∃ x : Fin 4, ∃ v : Int, ∃ s : State, (s.powered = true) ∧ (portRated v = true) ∧ (s.ports[x].state = .qualify) ∧
      (inWindow s x v = false)) ∧
    (∃ x : Fin 4, ∃ v : Int, ∃ s : State, (s.powered = true) ∧ (portRated v = true) ∧ (s.ports[x].state = .qualify) ∧
      (inWindow s x s.ports[x].vin = true)) ∧
    (∃ x : Fin 4, ∃ v : Int, ∃ s : State, (s.powered = true) ∧ (portRated v = true) ∧ (s.ports[x].state = .qualify) ∧
      (inWindow s x s.ports[x].vin = false)) ∧
    (∃ x : Fin 4, ∃ v : Int, ∃ s : State, (s.powered = true) ∧ (portRated v = true) ∧ (s.ports[x].state = .precharge)
      ∧ (s.ports[x].vin - 20000 ≤ v) ∧ (v ≤ s.ports[x].vin + 20000)) ∧
    (∃ x : Fin 4, ∃ v : Int, ∃ s : State, (s.powered = true) ∧ (portRated v = true) ∧ (s.ports[x].state = .softstart)) ∧
    (∃ x : Fin 4, ∃ v : Int, ∃ s : State, (s.powered = true) ∧ (portRated v = true) ∧ (s.ports[x].state = .softstart ∨
      s.ports[x].state = .online) ∧ (v < (window s x).1 - 10000 ∨ (window s x).2 + 10000 < v)) ∧
    (∃ x : Fin 4, ∃ v : Int, ∃ s : State, (s.powered = true) ∧ (portRated v = true) ∧ (s.ports[x].state = .backoff)) ∧
    (∃ x : Fin 4, ∃ s : State, (s.powered = true) ∧ (s.ports[x].state = .precharge)) ∧
    (∃ x : Fin 4, ∃ s : State, (s.powered = true) ∧ ∃ v : Int, (portRated v = true) ∧ (s.ports[x].state = .online) ∧
      ((s.ports[x].ovLevel : Int) < v)) ∧
    (∃ x : Fin 4, ∃ s : State, (s.powered = true) ∧ ∃ v : Int, (portRated v = true) ∧ (v ≤ (s.ports[x].ovLevel :
      Int))) ∧
    (∃ x : Fin 4, ∃ s : State, (s.powered = true) ∧ ∃ i : Int, (s.ports[x].state = .precharge ∨ s.ports[x].state =
      .softstart ∨ s.ports[x].state = .online) ∧ (22000 < i ∨ ((5 * s.ports[x].limIn : Nat) : Int) < 4 * i ∧
      ((s.ports[x].limIn + 500 : Nat) : Int) < i)) ∧
    (∃ x : Fin 4, ∃ s : State, (s.powered = true) ∧ ∃ i : Int, (i ≤ 22000) ∧ (4 * i ≤ ((5 * s.ports[x].limIn : Nat) :
      Int) ∨ i ≤ ((s.ports[x].limIn + 500 : Nat) : Int))) ∧
    (∃ x : Fin 4, ∃ s : State, (s.powered = true) ∧ ∃ i : Int, (s.ports[x].state = .online) ∧ (i < -200)) :=
  ⟨⟨0, 270000, (setup .reset [onPorts fun x => { x with state := .idle }]), by decide⟩,
    ⟨3, 0, (setup .reset [onPorts fun x => { x with state := .qualify }]), by decide⟩,
    ⟨2, 1, (setup .reset [onPorts fun x => { x with state := .precharge, vin := 400000 }, onPorts fun x =>
      { x with state := .qualify }]), by decide⟩,
    ⟨2, -1, (setup .reset [onPorts fun x => { x with state := .qualify }]), by decide⟩,
    ⟨0, 0, (setup .reset [onPorts fun x => { x with state := .precharge }]), by decide⟩,
    ⟨0, 0, (setup .reset [onPorts fun x => { x with state := .softstart }]), by decide⟩,
    ⟨3, 0, (setup .reset [onPorts fun x => { x with state := .softstart }]), by decide⟩,
    ⟨3, 0, (setup .reset [onPorts fun x => { x with state := .backoff }]), by decide⟩,
    ⟨0, (setup .reset [onPorts fun x => { x with state := .precharge }]), by decide⟩,
    ⟨0, (setup .reset [onPorts fun x => { x with state := .online }, onPorts fun x =>
      { x with state := .online, ovLevel := 5000 }]), by decide, 48000, by decide⟩,
    ⟨2, .reset, by decide, 0, by decide⟩,
    ⟨0, (setup .reset [onPorts fun x => { x with state := .precharge }]), by decide, 48000, by decide⟩,
    ⟨3, .reset, by decide, 0, by decide⟩,
    ⟨0, (setup .reset [onPorts fun x => { x with state := .online }]), by decide, -201, by decide⟩⟩

/-- `Obligations.HubLimitsActOnEveryStake`. -/
theorem test_meets_HubLimitsActOnEveryStake :
    (∃ s : State, (s.powered = true) ∧ ((recent s.sys.uptime 60000 s.hub.ovTimes).length < 2)) ∧
    (∃ s : State, (s.powered = true) ∧ (2 ≤ (recent s.sys.uptime 60000 s.hub.ovTimes).length) ∧ (s.sys.st = .run) ∧
      (s.sys.acted = 0 ∨ 5 < s.sys.acted)) ∧
    (∃ s : State, (s.powered = true) ∧ ∃ v : Nat, (v < 390000)) ∧
    (∃ s : State, (s.powered = true) ∧ ∃ v : Nat, (v < 360000)) ∧
    (∃ s : State, (s.powered = true) ∧ (s.hub.handover = true)) :=
  ⟨⟨.reset, by decide⟩,
    ⟨(setup .reset [fun s => { s with hub.ovTimes := [s.sys.uptime, s.sys.uptime] }, fun s =>
      { s with sys.st := .run }]), by decide⟩,
    ⟨.reset, by decide, 0, by decide⟩,
    ⟨.reset, by decide, 0, by decide⟩,
    ⟨(setup .reset [fun s => { s with hub.handover := true }]), by decide⟩⟩

/-- `Obligations.GrantsKeepWithinTheBudget`. -/
theorem test_meets_GrantsKeepWithinTheBudget :
    (∃ m : Sample, ∃ s : State, (s.powered = true) ∧ (rated m = true) ∧ (c3Up s = true) ∧ (s.arb.frozen = false) ∧
      (s.sys.st ≠ .recovery)) ∧
    (∃ m : Sample, ∃ s : State, (s.powered = true) ∧ (rated m = true) ∧ (c3Up s = false ∨ s.arb.frozen = true)) ∧
    (∃ s : State, (s.powered = true) ∧ (s.arb.frozen = false) ∧ (s.arb.fresh = true) ∧ (s.hub.handover = false) ∧
      (s.arb.higherDue = false)) ∧
    (∃ s : State, (s.powered = true) ∧ (s.arb.frozen = false) ∧ (s.arb.fresh = true) ∧ (s.hub.handover = false) ∧
      (s.arb.higherDue = true)) ∧
    (∃ s : State, (s.powered = true) ∧ (s.arb.frozen = true ∨ s.hub.handover = true)) ∧
    (∃ s : State, (s.powered = true) ∧ ∃ n : Fin 32, (c3Up s = true) ∧ (s.taps[n].cutSup.running = true)) ∧
    (∃ s : State, (s.powered = true) ∧ ∃ n : Fin 32, (s.taps[n].cutCon.running = false)) :=
  ⟨⟨{ ports := [], taps := [], iStr := -1001, iStrPeak := -1, vStr := 100, inlet := 52000, hubV := 5, auxV := 0, track := 100, tie := 1, pilots := [], strap := 0x0, keyLow := false, strFb := false, alertLow := true },
      (setup up [fun s => { s with arb.frozen := false }]), by decide⟩,
    
      ⟨{ ports := [], taps := [], iStr := 100001, iStrPeak := 50, vStr := 1, inlet := 57600, hubV := 31, auxV := 50, track := -201, tie := 400000, pilots := [], strap := 0x1, keyLow := false, strFb := false, alertLow := false },
      .reset, by decide⟩,
    ⟨(setup .reset [fun s => { s with arb.frozen := false }, fun s => { s with arb.fresh := true }, fun s =>
      { s with hub.handover := false }, fun s => { s with arb.higherDue := false }]), by decide⟩,
    ⟨(setup .reset [fun s => { s with arb.frozen := false }, fun s => { s with arb.fresh := true }, fun s =>
      { s with hub.handover := false }, fun s => { s with arb.higherDue := true }]), by decide⟩,
    ⟨(setup .reset [fun s => { s with arb.frozen := true }]), by decide⟩,
    ⟨(setup up [onTaps fun x => { x with cutSup.running := true }]), by decide, 0, by decide⟩,
    ⟨(setup .reset [onTaps fun x => { x with cutCon.running := false }]), by decide, 0, by decide⟩⟩

/-- `Obligations.RodsRestFuseJoinAndLeave`. -/
theorem test_meets_RodsRestFuseJoinAndLeave :
    (∃ n : Fin 32, ∃ p : Fin 16, ∃ s : State, (s.powered = true) ∧ (s.taps[n].stake.conv = true) ∧ ((rodAt s (n,
      p)).healthy = true) ∧ ((rodAt s (n, p)).active = true) ∧ ((recent s.sys.uptime 10000 (rodAt s (n,
      p)).trips).length < 2)) ∧
    (∃ n : Fin 32, ∃ p : Fin 16, ∃ s : State, (s.powered = true) ∧ (s.taps[n].stake.conv = true) ∧ ((rodAt s (n,
      p)).healthy = true) ∧ ((rodAt s (n, p)).active = true) ∧ (2 ≤ (recent s.sys.uptime 10000 (rodAt s (n,
      p)).trips).length)) ∧
    (∃ n : Fin 32, ∃ p : Fin 16, ∃ s : State, (s.powered = true) ∧ (s.taps[n].stake.conv = true) ∧ ((rodAt s (n,
      p)).healthy = true) ∧ ((rodAt s (n, p)).rest ≠ .primTrip) ∧ ((recent s.sys.uptime 10000 (rodAt s (n,
      p)).primTrips).length < 2)) ∧
    (∃ n : Fin 32, ∃ p : Fin 16, ∃ s : State, (s.powered = true) ∧ (s.taps[n].stake.conv = true) ∧ ((rodAt s (n,
      p)).healthy = true) ∧ ((rodAt s (n, p)).active = true) ∧ ((rodAt s (n, p)).trim = 655 ∨ (rodAt s (n, p)).trim =
      -655) ∧ ((recent s.sys.uptime 86400000 (rodAt s (n, p)).suspects).length < 2)) ∧
    (∃ n : Fin 32, ∃ p : Fin 16, ∃ s : State, (s.powered = true) ∧ ∃ c : Int, ((rodAt s (n, p)).healthy = true) ∧
      (1150 < c)) ∧
    (∃ n : Fin 32, ∃ p : Fin 16, ∃ s : State, (s.powered = true) ∧ ∃ c : Int, ((rodAt s (n, p)).overTemp = true) ∧ (c
      < 950)) ∧
    (∃ n : Fin 32, ∃ p : Fin 16, ∃ s : State, (s.powered = true) ∧ ((rodAt s (n, p)).rest ≠ .none)) ∧
    (∃ (n : Fin 32) (p : Fin 16) (s : State), (s.powered = true) ∧ ((rodAt s (n, p)).rest = .none) ∧ ((rodAt s (n,
      p)).susp = true)) ∧
    (∃ (n : Fin 32) (p : Fin 16) (s : State), (s.powered = true) ∧ ∃ via : Via, ∃ args : List Word, (Accepts 0x0C01
      via args s) ∧ (arg args 0 = 16 * n.val + p.val) ∧ (arg args 1 = 0xF05E) ∧ (clUp s n = true) ∧ ((rodAt s (n,
      p)).healthy = true) ∧ (∀ m ∈ mates s n, s.taps[m].stake.conv = false)) ∧
    (∃ n : Fin 32, ∃ s : State, (s.powered = true) ∧ (gangedOdd s n = false) ∧ (converting s n = true) ∧ (spareRods s
      n ≠ []) ∧ ((activeRods s n).length * (s.taps[headTap s n].cfg.addPct * 550) < demandOf s n * 100)) ∧
    (∃ n : Fin 32, ∃ s : State, (s.powered = true) ∧ (gangedOdd s n = false) ∧ (converting s n = true) ∧ (isBraking s
      n = false) ∧ (2 < (activeRods s n).length) ∧ (demandOf s n * 100 < (((activeRods s n).length - 1 : Nat) : Int) *
      (s.taps[headTap s n].cfg.shedPct * 550))) ∧
    (∃ (n : Fin 32) (s : State), (s.powered = true) ∧ (gangedOdd s n = false) ∧ (converting s n = true) ∧ (addDue s n
      = false) ∧ (shedDue s n = false) ∧ (isBraking s n = false) ∧ ∃ a, ∃ b, (leastWorn s (spareRods s n) = some a) ∧
      (mostWorn s (activeRods s n) = some b)) ∧
    (∃ n : Fin 32, ∃ s : State, (s.powered = true) ∧ (gangedOdd s n = false) ∧ (converting s n = true) ∧ (addDue s n =
      true ∨ shedDue s n = true ∨ isBraking s n = true)) ∧
    (∃ n : Fin 32, ∃ s : State, (s.powered = true) ∧ (gangedOdd s n = false) ∧ (planeDown s = false)) ∧
    (∃ n : Fin 32, ∃ s : State, (s.powered = true) ∧ (gangedOdd s n = false) ∧ (s.taps[n].stake.conv = true)) ∧
    (∃ n : Fin 32, ∃ s : State, (s.powered = true) ∧ (gangedOdd s n = false) ∧ ∃ ist : Int, ∃ v : Int, (converting s n
      = true) ∧ (tapRated v = true) ∧ (s.taps[n].stake.buckOff = false) ∧ (ist + 1000 ≤ s.taps[n].stake.ist ∨
      s.taps[n].limit = 1 ∧ (s.taps[n].stake.vref / 1000 : Int) + 500 ≤ v)) ∧
    (∃ n : Fin 32, ∃ s : State, (s.powered = true) ∧ (gangedOdd s n = false) ∧ ∃ ist : Int, ∃ v : Int, (converting s n
      = true) ∧ (tapRated v = true) ∧ (s.taps[n].stake.ist < ist + 1000) ∧ (v < (s.taps[n].stake.vref / 1000 : Int) +
      500)) :=
  ⟨⟨0, 0, (setup .reset [onTaps fun x =>
      { x with stake.rods := vec fun p => { x.stake.rods[p] with active := decide (p.val < 8) } }, onTaps fun x =>
      { x with stake.conv := true }]), by decide⟩,
    ⟨14, 4, (setup .reset [onTaps fun x =>
      { x with stake.rods := vec fun p => { x.stake.rods[p] with active := decide (p.val < 8) } }, fun s =>
      { s with taps := vec fun i => { s.taps[i] with stake.rods := vec fun p => { s.taps[i].stake.rods[p] with trips := [s.sys.uptime, s.sys.uptime] } } },
      onTaps fun x => { x with stake.conv := true }]), by decide⟩,
    ⟨0, 0, (setup .reset [onTaps fun x => { x with stake.conv := true }]), by decide⟩,
    ⟨0, 8, (setup .reset [onTaps fun x => { x with stake.conv := true }, onTaps fun x =>
      { x with stake.conv := true, stake.rods := vec fun p => { x.stake.rods[p] with active := true, trim := 655 } }]),
      by decide⟩,
    ⟨0, 0, .reset, by decide, 51000, by decide⟩,
    ⟨0, 1, (setup .reset [onTaps fun x =>
      { x with stake.rods := vec fun p => { x.stake.rods[p] with overTemp := true } }]), by decide, 0, by decide⟩,
    ⟨3, 0, (setup .reset [onTaps fun x =>
      { x with stake.rods := vec fun p => { x.stake.rods[p] with rest := .trip } }]), by decide⟩,
    ⟨0, 0, (setup up [onTaps fun x => { x with stake.rods := vec fun p => { x.stake.rods[p] with susp := true } }]),
      by decide⟩,
    ⟨0, 1, up, by decide, .monitor, [1, 0xF05E], (by unfold Accepts; decide), by decide⟩,
    ⟨1, (setup .reset [onTaps fun x => { x with stake.conv := true, stake.sw := true }, onTaps fun x =>
      { x with stake.ist := 6000 }]), by decide⟩,
    ⟨0, (setup .reset [onTaps fun x => { x with cfg.gang := true }, onTaps fun x =>
      { x with stake.conv := true, stake.rods := vec fun p => { x.stake.rods[p] with active := decide (p.val < 2), runTime := if p.val = 1 then 9000 else 5 } }]),
      by decide⟩,
    ⟨0, (setup .reset [onTaps fun x =>
      { x with stake.conv := true, stake.rods := vec fun p => { x.stake.rods[p] with active := decide (p.val < 2), runTime := if p.val = 1 then 9000 else 5 } }]),
      by decide, by decide, by decide, by decide, by decide, by decide, (0, 2), (0, 1), by decide⟩,
    ⟨0, (setup .reset [onTaps fun x => { x with stake.conv := true, stake.sw := true }, onTaps fun x =>
      { x with stake.rods := vec fun p => { x.stake.rods[p] with active := decide (p.val < 8) } }]), by decide⟩,
    ⟨0, .reset, by decide⟩,
    ⟨0, (setup .reset [onTaps fun x => { x with stake.conv := true }]), by decide⟩,
    ⟨0, (setup .reset [onTaps fun x => { x with stake.conv := true, stake.sw := true }, onTaps fun x =>
      { x with stake.ist := 6000 }, onTaps fun x => { x with stake.buckOff := false }]), by decide, by decide, -200,
      1, by decide⟩,
    ⟨0, (setup .reset [onTaps fun x => { x with stake.conv := true, stake.sw := true }]), by decide, by decide, 1, 0,
      by decide⟩⟩

/-- `Obligations.CarrierClustersAndShuntAct`. -/
theorem test_meets_CarrierClustersAndShuntAct :
    (∃ s : State, (s.powered = true) ∧ ∃ f : Nat, (45000 ≤ f) ∧ (f ≤ 55000) ∧ (s.sys.syncDis = false) ∧ (s.sys.syncSrc
      ≠ 2)) ∧
    (∃ s : State, (s.powered = true) ∧ ∃ f : Nat, (f < 45000 ∨ 55000 < f)) ∧
    (∃ s : State, (s.powered = true) ∧ (s.sys.syncValid = true) ∧ (s.sys.syncSrc = 1) ∧ (s.sys.fsw = s.sys.inFsw) ∧
      (-20 < s.sys.phErr) ∧ (s.sys.phErr < 20)) ∧
    (∃ s : State, (s.powered = true) ∧ (s.sys.fsw ≠ s.sys.inFsw ∨ s.sys.phErr ≤ -20 ∨ 20 ≤ s.sys.phErr)) ∧
    (∃ s : State, (s.powered = true) ∧ (s.sys.syncValid = true) ∧ (s.sys.syncSrc = 1 ∨ s.sys.syncSrc = 2)) ∧
    (∃ s : State, (s.powered = true) ∧ (s.sys.syncSrc = 3) ∧ (s.sys.fsw = s.sys.ownFsw)) ∧
    (∃ s : State, (s.powered = true) ∧ (s.sys.fsw ≠ s.sys.ownFsw)) ∧
    (∃ m : Fin 4, ∃ s : State, (s.powered = true) ∧ (s.sys.st = .standby ∨ s.sys.st = .run ∨ s.sys.st = .safe) ∧
      (s.sys.cores.getLsbD (4 + m.val) = true) ∧ (s.sys.clOn.getLsbD m.val = true) ∧ (∀ j : Fin 8, idleStake
      s.taps[tapAt m j] = true)) ∧
    (∃ m : Fin 4, ∃ s : State, (s.powered = true) ∧ ∃ j : Fin 8, (idleStake s.taps[tapAt m j] = false)) ∧
    (∃ m : Fin 4, ∃ s : State, (s.powered = true) ∧ (s.sys.st ≠ .recovery) ∧ (s.sys.clOn.getLsbD m.val = false)) ∧
    (∃ m : Fin 4, ∃ s : State, (s.powered = true) ∧ ∃ via : Via, ∃ args : List Word, ∃ n : Fin 32, (Accepts 0x0304 via
      args s) ∧ (arg args 0 = n.val) ∧ (clusterOf n = m) ∧ (s.sys.clOn.getLsbD m.val = false)) ∧
    (∃ (m : Fin 4) (s : State), (s.powered = true) ∧ ∃ (via : Via) (args : List Word) (n : Fin 32), (s.sys.st ≠
      .recovery) ∧ (s.sys.clWaking.getLsbD m.val = true) ∧ (s.held = [(0x0304, via, args)]) ∧ (arg args 0 = n.val) ∧
      (clusterOf n = m) ∧ (s.sys.cores.getLsbD (4 + m.val) = true) ∧ ∃ k : Nat, (recheck 0x0304 s = some k) ∧
      (gangedOdd s n = false) ∧ (arg args 1 ≤ 16000)) ∧
    (∃ m : Fin 4, ∃ s : State, (s.powered = true) ∧ ∃ via : Via, ∃ args : List Word, ∃ n : Fin 32, (s.sys.st ≠
      .recovery) ∧ (s.sys.clWaking.getLsbD m.val = true) ∧ (s.held = [(0x0304, via, args)]) ∧ (arg args 0 = n.val) ∧
      (clusterOf n = m) ∧ (s.sys.cores.getLsbD (4 + m.val) = true) ∧ (recheck 0x0304 s = none) ∧ (gangedOdd s n =
      false) ∧ (arg args 1 ≤ 16000)) ∧
    (∃ s : State, (s.powered = true) ∧ (s.sys.shValid = true)) ∧
    (∃ s : State, (s.powered = true) ∧ (s.sys.shValid = false)) ∧
    (∃ s : State, (s.powered = true) ∧ (s.sys.shValid = false) ∧ (s.sys.st = .run)) ∧
    (∃ s : State, (s.powered = true) ∧ (s.sys.shValid = false) ∧ (s.sys.st = .boot ∨ s.sys.st = .recovery ∨ s.sys.st =
      .safe)) ∧
    (∃ s : State, (s.powered = true)) ∧
    (∃ s : State, (s.powered = true) ∧ ∃ v : Int, (Sys2Proof.Config.stringMax < v) ∧ (v ≤ 1600000)) ∧
    (∃ s : State, (s.powered = true) ∧ ∃ v : Int, (1600000 < v)) :=
  ⟨⟨(setup .reset [fun s => { s with sys.syncDis := false }]), by decide, 55000, by decide⟩,
    ⟨.reset, by decide, 0, by decide⟩,
    ⟨(setup up [fun s => { s with sys.syncValid := true, sys.syncSrc := 1, sys.inFsw := s.sys.fsw }]), by decide⟩,
    ⟨.reset, by decide⟩,
    ⟨(setup .reset [fun s => { s with sys.syncValid := true }, fun s => { s with sys.syncSrc := 1 }]), by decide⟩,
    ⟨(setup .reset [fun s => { s with sys.syncSrc := 3 }]), by decide⟩,
    ⟨(setup .reset [fun s => { s with sys.fsw := 49000 }]), by decide⟩,
    ⟨3, up, by decide⟩,
    ⟨0, (setup .reset [onTaps fun x => { x with stake.conv := true, stake.sw := true }]), by decide, 0, by decide⟩,
    ⟨1, (setup .reset [fun s =>
      { s with sys.st := .standby, sys.clWaking := 0xF, held := [(0x0304, .own, [1, 500])] }]), by decide⟩,
    ⟨1, (setup up [fun s => { s with sys.clOn := 0 }]), by decide, Via.monitor, [0xC, 0x0, 0x5DC, 0xAF0, 0x64], 12,
      (by unfold Accepts; decide)⟩,
    ⟨0, (setup up [fun s => { s with sys.st := .hold, sys.clWaking := 1, held := [(0x0304, .monitor, [0, 500])] }]),
      by decide, .monitor, [0, 500], 0, by decide, by decide, by decide, by decide, by decide, by decide, 0x30, by
      decide⟩,
    ⟨0, (setup up [fun s => { s with sys.clWaking := 0xF }, fun s => { s with held := [(0x0304, .own, [1, 500])] }]),
      by decide, Via.own, [0x1, 0x1F4], 1, by decide⟩,
    ⟨(setup .reset [fun s => { s with sys.shValid := true }]), by decide⟩,
    ⟨(setup .reset [fun s => { s with sys.shValid := false }]), by decide⟩,
    ⟨(setup .reset [fun s => { s with sys.shValid := false }, fun s => { s with sys.st := .run }]), by decide⟩,
    ⟨(setup .reset [fun s => { s with sys.shValid := false }]), by decide⟩,
    ⟨.reset, by decide⟩,
    ⟨.reset, by decide, 1500001, (by unfold Sys2Proof.Config.stringMax; split <;> decide), by decide⟩,
    ⟨.reset, by decide, 1600001, by decide⟩⟩

/-- `Obligations.StakesStartByTheirSequence`. -/
theorem test_meets_StakesStartByTheirSequence :
    (∃ n : Fin 32, ∃ s : State, (Acts n s) ∧ (startDue s n = true) ∧ (reversed s n = false) ∧ (s.taps[n].cfg.gang =
      true → gangOk s n (partner n) = true) ∧ ((rating s n).1 ≠ 0)) ∧
    (∃ n : Fin 32, ∃ s : State, (Acts n s) ∧ (startDue s n = true) ∧ (reversed s n = true)) ∧
    (∃ (n : Fin 32) (s : State), (Acts n s) ∧ (startDue s n = true) ∧ (reversed s n = false) ∧ (s.taps[n].cfg.gang =
      true) ∧ (gangOk s n (partner n) = false)) ∧
    (∃ n : Fin 32, ∃ s : State, (Acts n s) ∧ (startDue s n = true) ∧ (reversed s n = false) ∧ (s.taps[n].cfg.gang =
      false) ∧ ((rating s n).1 = 0)) ∧
    (∃ (n : Fin 32) (s : State), (Acts n s) ∧ ∃ (v0 : Int) (l : List PreRod) (ok : Bool), (TestPasses n v0 l s) ∧
      (mayStart s = true) ∧ (s.taps[n].stake.fromBypass = false) ∧ (s.taps[n].vPair < 1000)) ∧
    (∃ (n : Fin 32) (s : State), (Acts n s) ∧ ∃ (v0 : Int) (l : List PreRod) (ok : Bool), (TestPasses n v0 l s) ∧
      (mayStart s = true) ∧ (s.taps[n].stake.fromBypass = false) ∧ (1000 ≤ s.taps[n].vPair)) ∧
    (∃ (n : Fin 32) (s : State), (Acts n s) ∧ ∃ (v0 : Int) (l : List PreRod) (ok : Bool), (TestPasses n v0 l s) ∧
      (mayStart s = true) ∧ (s.taps[n].stake.fromBypass = true) ∧ (s.taps[n].state = .standIn)) ∧
    (∃ (n : Fin 32) (s : State), (Acts n s) ∧ ∃ (v0 : Int) (l : List PreRod) (ok : Bool), (TestPasses n v0 l s) ∧
      (mayStart s = false)) ∧
    (∃ n : Fin 32, ∃ s : State, (Acts n s) ∧ ∃ m ∈ mates s n, ∃ v0 : Int, ∃ l : List PreRod, ∃ p : Fin 16, (tapRated
      v0 = true) ∧ (s.taps[m].stake.testing = true) ∧ (preFails v0 (l.getD p.val {}) = true) ∧
      (s.taps[m].stake.rods[p].healthy = true)) ∧
    (∃ n : Fin 32, ∃ s : State, (Acts n s) ∧ ∃ v : Int, (tapRated v = true) ∧ (s.taps[n].stake.start = .prebias) ∧
      (s.taps[n].vPair - 500 ≤ v) ∧ (v ≤ s.taps[n].vPair) ∧ (reversed s n = false) ∧ (mayStart s = true)) ∧
    (∃ n : Fin 32, ∃ s : State, (Acts n s) ∧ (s.taps[n].stake.conv = true) ∧ (s.taps[n].stake.sw = true) ∧
      (s.taps[n].stake.softStart = true) ∧ (s.taps[n].stake.fromBypass = false) ∧ (refPaused s s.taps[n] = false) ∧
      (nearTarget s.taps[n].cfg.softRate s.taps[n].stake = true)) ∧
    (∃ n : Fin 32, ∃ s : State, (Acts n s) ∧ (s.taps[n].stake.conv = true) ∧ (s.taps[n].stake.sw = true) ∧
      (s.taps[n].stake.slewing = true) ∧ (s.taps[n].stake.softStart = false) ∧ (s.taps[n].stake.fromBypass = false) ∧
      (nearTarget s.taps[n].cfg.slewRate s.taps[n].stake = true)) ∧
    (∃ (n : Fin 32) (s : State), (Acts n s) ∧ (nearTarget s.taps[n].cfg.softRate s.taps[n].stake = false)) ∧
    (∃ (n : Fin 32) (s : State), (Acts n s) ∧ (nearTarget s.taps[n].cfg.slewRate s.taps[n].stake = false)) ∧
    (∃ n : Fin 32, ∃ s : State, (Acts n s) ∧ (s.taps[n].stake.start = .prebias) ∧ (s.taps[n].stake.attempts < 2) ∧
      (s.taps[n].stake.handOff = .none)) ∧
    (∃ (n : Fin 32) (s : State), (Acts n s) ∧ (s.taps[n].stake.start = .prebias) ∧ (s.taps[n].stake.attempts < 2) ∧
      (s.taps[n].stake.handOff ≠ .none) ∧ (s.taps[n].stake.slotFb = false)) ∧
    (∃ n : Fin 32, ∃ s : State, (Acts n s) ∧ (s.taps[n].stake.start = .prebias) ∧ (2 ≤ s.taps[n].stake.attempts)) ∧
    (∃ (n : Fin 32) (s : State), (Acts n s) ∧ ∃ v : Int, (tapRated v = true) ∧ (checkOpen s s.taps[n] = true) ∧ (4 * v
      ≤ (s.taps[n].stake.vTarget : Int)) ∧ (s.taps[n].stake.attempts < 2) ∧ (s.taps[n].stake.handOff = .none)) ∧
    (∃ (n : Fin 32) (s : State), (Acts n s) ∧ ∃ v : Int, (tapRated v = true) ∧ (checkOpen s s.taps[n] = true) ∧ (4 * v
      ≤ (s.taps[n].stake.vTarget : Int)) ∧ (s.taps[n].stake.attempts < 2) ∧ (s.taps[n].stake.handOff ≠ .none) ∧
      (s.taps[n].stake.slotFb = false)) ∧
    (∃ n : Fin 32, ∃ s : State, (Acts n s) ∧ ∃ v : Int, (tapRated v = true) ∧ (checkOpen s s.taps[n] = false ∨
      (s.taps[n].stake.vTarget : Int) < 4 * v)) ∧
    (∃ n : Fin 32, ∃ s : State, (Acts n s) ∧ (s.taps[n].stake.start = .hiccup) ∧ (mayStart s = true) ∧ (-1000 ≤
      s.taps[n].vPair) ∧ (s.taps[n].cfg.gang = false) ∧ ((rating s n).1 ≠ 0)) :=
  ⟨⟨0, (setup .reset [fun s => { s with sys.st := .run }, onTaps fun x => { x with state := .cc }, onTaps fun x =>
      { x with cfg.gang := true }]), (by unfold Acts; decide)⟩,
    ⟨1, (setup .reset [fun s => { s with sys.st := .hold }, onTaps fun x => { x with vPair := -2000 }, onTaps fun x =>
      { x with state := .keep }]), (by unfold Acts; decide)⟩,
    ⟨0, (setup up [fun s => { s with sys.st := .run }, onTaps fun x =>
      { x with state := .cc, vKel := 50000, vPair := 40000, cfg.gang := true }]), (by unfold Acts; decide)⟩,
    ⟨0, (setup .reset [fun s => { s with sys.st := .run }, onTaps fun x =>
      { x with stake.rods := vec fun p => { x.stake.rods[p] with healthy := false } }, onTaps fun x =>
      { x with state := .cc }, onTaps fun x => { x with cfg.gang := false }]), (by unfold Acts; decide)⟩,
    ⟨0, (setup up [fun s => { s with sys.st := .run }, onTaps fun x =>
      { x with vPair := 500, stake.start := .pretest, stake.testing := true }]), (by unfold Acts; decide), 500, [],
      true, (by unfold TestPasses; decide), by decide⟩,
    ⟨0, (setup up [fun s => { s with sys.st := .run }, onTaps fun x =>
      { x with vPair := 50000, stake.start := .pretest, stake.testing := true }]), (by unfold Acts; decide), 50000,
      [], true, (by unfold TestPasses; decide), by decide⟩,
    ⟨0, (setup up [fun s => { s with sys.st := .run }, onTaps fun x =>
      { x with state := .standIn, vPair := 50000, stake.fromBypass := true, stake.start := .pretest, stake.testing := true }]),
      (by unfold Acts; decide), 50000, [], true, (by unfold TestPasses; decide), by decide⟩,
    ⟨0, (setup up [onTaps fun x => { x with vPair := 500, stake.start := .pretest, stake.testing := true }]),
      (by unfold Acts; decide), 500, [], true, (by unfold TestPasses; decide), by decide⟩,
    ⟨0, (setup .reset [onTaps fun x => { x with stake.testing := true }, onTaps fun x =>
      { x with stake.rods := vec fun i1 => (fun x1 => { x1 with healthy := true }) x.stake.rods[i1] }]),
      (by unfold Acts; decide), 0, by decide, 0, [{ node := 0, iL := 22001, high := -1, low := 0, drop := 0 }], 0, by
      decide⟩,
    ⟨0, (setup .reset [fun s => { s with sys.st := .hold }, onTaps fun x => { x with stake.start := .prebias }]),
      (by unfold Acts; decide), 0, by decide⟩,
    ⟨2, (setup .reset [onTaps fun x => { x with levels := #v[1, 1, 1, 1], dose := 500, nextDose := 300 }, onTaps fun x
      => { x with stake.conv := true }, onTaps fun x => { x with stake.sw := true }, onTaps fun x =>
      { x with stake.softStart := true }, onTaps fun x => { x with stake.fromBypass := false }]),
      (by unfold Acts; decide)⟩,
    ⟨0, (setup .reset [onTaps fun x => { x with stake.conv := true }, onTaps fun x => { x with stake.sw := true },
      onTaps fun x => { x with stake.slewing := true }, onTaps fun x => { x with stake.softStart := false }, onTaps
      fun x => { x with stake.fromBypass := false }]), (by unfold Acts; decide)⟩,
    ⟨0, (setup up [onTaps fun x => { x with stake.vTarget := 48000, stake.vref := 12000000 }]),
      (by unfold Acts; decide), by decide⟩,
    ⟨0, (setup up [onTaps fun x => { x with stake.vTarget := 48000, stake.vref := 12000000 }]),
      (by unfold Acts; decide), by decide⟩,
    ⟨1, (setup .reset [onTaps fun x => { x with stake.start := .prebias }, onTaps fun x =>
      { x with stake.attempts := (2 - 1) }, onTaps fun x => { x with stake.handOff := .none }]),
      (by unfold Acts; decide)⟩,
    ⟨0, (setup up [onTaps fun x => { x with stake.start := .prebias, stake.handOff := .stop }]),
      (by unfold Acts; decide), by decide⟩,
    ⟨0, (setup .reset [onTaps fun x => { x with stake.start := .prebias }, onTaps fun x =>
      { x with stake.attempts := 2 }]), (by unfold Acts; decide)⟩,
    ⟨0, (setup up [onTaps fun x =>
      { x with dose := 1000, stake.conv := true, stake.sw := true, stake.softStart := true, stake.vTarget := 48000, stake.vref := 12000000 }]),
      (by unfold Acts; decide), 5000, by decide⟩,
    ⟨0, (setup up [onTaps fun x =>
      { x with dose := 1000, stake.conv := true, stake.sw := true, stake.softStart := true, stake.vTarget := 48000, stake.vref := 12000000, stake.handOff := .stop }]),
      (by unfold Acts; decide), 5000, by decide⟩,
    ⟨0, .reset, (by unfold Acts; decide), 1, by decide⟩,
    ⟨2, (setup .reset [fun s => { s with sys.st := .hold }, onTaps fun x => { x with stake.start := .hiccup }, onTaps
      fun x => { x with vPair := -1000 }, onTaps fun x => { x with cfg.gang := false }]), (by unfold Acts; decide)⟩⟩

/-- `Obligations.StandInHandsOverAndReturns`. -/
theorem test_meets_StandInHandsOverAndReturns :
    (∃ n : Fin 32, ∃ s : State, (Acts n s) ∧ ∃ v : Int, (tapRated v = true) ∧ (s.taps[n].state = .keep) ∧
      (s.taps[n].stake.conv = true) ∧ (((iLim s n : Nat) : Int) ≤ s.taps[n].stake.ist) ∧ (v + 500 <
      ((s.taps[n].stake.vref / 1000 : Nat) : Int))) ∧
    (∃ n : Fin 32, ∃ s : State, (Acts n s) ∧ ∃ v : Int, (tapRated v = true) ∧ (s.taps[n].stake.ist < ((iLim s n : Nat)
      : Int))) ∧
    (∃ n : Fin 32, ∃ s : State, (Acts n s) ∧ ∃ i : Int, (standsIn s.taps[n] = true) ∧ (s.taps[n].stake.autoReturned =
      false) ∧ ((siLimit s n : Int) < (if s.sys.shValid then i else s.sys.iStr))) ∧
    (∃ n : Fin 32, ∃ s : State, (Acts n s) ∧ ∃ i : Int, (standsIn s.taps[n] = true) ∧ (s.taps[n].stake.autoReturned =
      true) ∧ ((siLimit s n : Int) < (if s.sys.shValid then i else s.sys.iStr))) ∧
    (∃ n : Fin 32, ∃ s : State, (Acts n s) ∧ ∃ i : Int, ((if s.sys.shValid then i else s.sys.iStr) ≤ (siLimit s n :
      Int))) ∧
    (∃ n : Fin 32, ∃ s : State, (Acts n s) ∧ ∃ v : Int, (tapRated v = true) ∧ (standsIn s.taps[n] = true) ∧
      (s.taps[n].stake.autoReturned = false) ∧ (s.taps[n].stake.refReached = true ∧ v < ((siWindow s.taps[n]).1 : Int)
      ∨ ((s.taps[n].stake.vref / 1000 + 2000 : Nat) : Int) ≤ v)) ∧
    (∃ n : Fin 32, ∃ s : State, (Acts n s) ∧ (s.taps[n].state = .standIn) ∧ (s.taps[n].stake.slotByp = true) ∧
      (s.taps[n].stake.conv = true) ∧ (s.taps[n].stake.handOff = .none)) ∧
    (∃ (n : Fin 32) (s : State), (Acts n s) ∧ (s.taps[n].state = .standIn) ∧ (s.taps[n].stake.slotByp = true) ∧
      (s.taps[n].stake.conv = true) ∧ (s.taps[n].stake.handOff ≠ .none)) ∧
    (∃ n : Fin 32, ∃ s : State, (Acts n s) ∧ (s.taps[n].state = .faultOpen) ∧ (fwUp s n = true) ∧ (s.taps[n].acted = 0
      ∨ 9 < s.taps[n].acted)) ∧
    (∃ n : Fin 32, ∃ s : State, (Acts n s) ∧ (s.taps[n].stake.bypRamp = true) ∧ (s.taps[n].stake.handOff = .excess) ∧
      (s.taps[n].state = .standIn)) ∧
    (∃ n : Fin 32, ∃ s : State, (Acts n s) ∧ (s.taps[n].stake.bypRamp = true) ∧ (s.taps[n].stake.handOff = .stop) ∧
      (fwUp s n = false)) ∧
    (∃ n : Fin 32, ∃ s : State, (Acts n s) ∧ (s.taps[n].stake.bypRamp = true) ∧ (s.taps[n].stake.handOff = .stop) ∧
      (fwUp s n = true)) ∧
    (∃ (n : Fin 32) (s : State), (Acts n s) ∧ (s.taps[n].stake.slotByp = true) ∧ (s.taps[n].stake.slotFb = false) ∧
      (s.taps[n].stake.handOff ≠ .none)) ∧
    (∃ n : Fin 32, ∃ s : State, (Acts n s) ∧ (s.taps[n].stake.slotByp = true) ∧ (s.taps[n].stake.slotFb = false) ∧
      (s.taps[n].stake.handOff = .stop ∧ fwUp s n = true ∧ dwelt s n 150 = true ∨ s.taps[n].stake.handOff = .removal)) ∧
    (∃ n : Fin 32, ∃ s : State, (Acts n s) ∧ (s.taps[n].stake.slotByp = true) ∧ (s.taps[n].stake.slotFb = false) ∧
      (s.taps[n].stake.handOff = .stop) ∧ (fwUp s n = false)) ∧
    (∃ n : Fin 32, ∃ s : State, (Acts n s) ∧ (s.taps[n].stake.conv = true) ∧ (s.taps[n].stake.fromBypass = true) ∧
      (s.taps[n].stake.slotFb = true)) ∧
    (∃ n : Fin 32, ∃ s : State, (Acts n s) ∧ (fwUp s n = true) ∧ (dwelt s n 5000 = true) ∧ (s.taps[n].cfg.autoReturn =
      true) ∧ (s.taps[n].state = .standIn) ∧ (s.taps[n].stake.bypassed = true) ∧ (s.taps[n].stake.slotFb = true) ∧
      ((siVolt s.taps[n]).isSome = true) ∧ ((rating s n).1 ≠ 0) ∧ (0 ≤ s.sys.iStr) ∧ (s.sys.iStr * 10 ≤ (siLimit s n *
      9 : Nat)) ∧ (s.sys.st = .run) ∧ (s.sys.hkLost = false) ∧ (s.sys.longPress = false) ∧ (s.taps[n].cfg.gang =
      false) ∧ (-1000 ≤ s.taps[n].vPair)) ∧
    (∃ n : Fin 32, ∃ s : State, (Acts n s) ∧ (s.sys.st = .hold) ∧ (s.sys.cores = 0)) ∧
    (∃ n : Fin 32, ∃ s : State, (Acts n s) ∧ (s.sys.trackMv < -100 ∨ 5100 < s.sys.trackMv) ∧ (s.sys.trackTold =
      false)) ∧
    (∃ n : Fin 32, ∃ s : State, (Acts n s) ∧ ∃ v : Int, (-100 ≤ v) ∧ (v ≤ 5100)) :=
  ⟨⟨0, (setup .reset [onTaps fun x => { x with state := .keep }, onTaps fun x => { x with stake.conv := true }]),
      (by unfold Acts; decide), -1001, by decide⟩,
    ⟨0, (setup .reset [onTaps fun x => { x with levels := #v[1, 1, 1, 1], dose := 500, nextDose := 300 }]),
      (by unfold Acts; decide), 1, by decide⟩,
    ⟨0, (setup .reset [onTaps fun x => { x with stake.conv := true, stake.sw := true }, onTaps fun x =>
      { x with state := .standIn }, fun s => { s with sys.shOkAt := s.sys.uptime + 5, sys.shValid := true }, onTaps
      fun x => { x with stake.autoReturned := false }]), (by unfold Acts; decide), 48000, by decide⟩,
    ⟨0, (setup .reset [onTaps fun x => { x with stake.conv := true, stake.sw := true }, onTaps fun x =>
      { x with stake.rods := vec fun p => { x.stake.rods[p] with healthy := false } }, onTaps fun x =>
      { x with state := .standIn }, fun s => { s with sys.shOkAt := s.sys.uptime + 5, sys.shValid := true }, onTaps
      fun x => { x with stake.autoReturned := true }]), (by unfold Acts; decide), 1, by decide⟩,
    ⟨0, .reset, (by unfold Acts; decide), 0, by decide⟩,
    ⟨0, (setup .reset [onTaps fun x => { x with stake.conv := true, stake.sw := true }, onTaps fun x =>
      { x with state := .standIn }, onTaps fun x => { x with stake.autoReturned := false }]),
      (by unfold Acts; decide), 48000, by decide⟩,
    ⟨0, (setup .reset [onTaps fun x => { x with state := .standIn }, onTaps fun x => { x with stake.slotByp := true },
      onTaps fun x => { x with stake.conv := true }, onTaps fun x => { x with stake.handOff := .none }]),
      (by unfold Acts; decide)⟩,
    ⟨0, (setup up [onTaps fun x =>
      { x with state := .standIn, stake.slotByp := true, stake.conv := true, stake.handOff := .excess }]),
      (by unfold Acts; decide)⟩,
    ⟨2, (setup up [onTaps fun x => { x with state := .faultOpen }]), (by unfold Acts; decide)⟩,
    ⟨2, (setup .reset [onTaps fun x => { x with stake.bypRamp := true }, onTaps fun x =>
      { x with stake.handOff := .excess }, onTaps fun x => { x with state := .standIn }, onTaps fun x =>
      { x with stake.slotByp := true, stake.slotFb := false, stake.handOff := .excess }]), (by unfold Acts; decide)⟩,
    ⟨0, (setup .reset [onTaps fun x => { x with stake.bypRamp := true }, onTaps fun x =>
      { x with stake.handOff := .stop }]), (by unfold Acts; decide)⟩,
    ⟨8, (setup up [onTaps fun x => { x with stake.bypRamp := true }, onTaps fun x =>
      { x with stake.handOff := .stop }]), (by unfold Acts; decide)⟩,
    ⟨0, (setup up [onTaps fun x =>
      { x with stake.slotByp := true, stake.slotFb := false, stake.handOff := .excess }]), (by unfold Acts; decide)⟩,
    ⟨0, (setup up [onTaps fun x => { x with stake.slotByp := true }, onTaps fun x => { x with stake.slotFb := false },
      onTaps fun x => { x with stake.handOff := .stop }]), (by unfold Acts; decide)⟩,
    ⟨0, (setup .reset [onTaps fun x => { x with stake.slotByp := true }, onTaps fun x =>
      { x with stake.slotFb := false }, onTaps fun x => { x with stake.handOff := .stop }]), (by unfold Acts; decide)⟩,
    ⟨0, (setup .reset [onTaps fun x => { x with stake.conv := true }, onTaps fun x =>
      { x with stake.fromBypass := true }, onTaps fun x => { x with stake.slotFb := true }]),
      (by unfold Acts; decide)⟩,
    ⟨0, (setup up [onTaps fun x => { x with cfg.siV := some 48000 }, onTaps fun x =>
      { x with cfg.autoReturn := true }, onTaps fun x => { x with state := .standIn }, onTaps fun x =>
      { x with stake.bypassed := true }, onTaps fun x => { x with stake.slotFb := true }, fun s =>
      { s with sys.iStr := 0 }, fun s => { s with sys.st := .run }, fun s => { s with sys.hkLost := false }, fun s =>
      { s with sys.longPress := false }, onTaps fun x => { x with cfg.gang := false }, onTaps fun x =>
      { x with vPair := -1000 }]), (by unfold Acts; decide)⟩,
    ⟨6, (setup .reset [fun s => { s with sys.st := .hold }, fun s => { s with sys.cores := 0 }]),
      (by unfold Acts; decide)⟩,
    ⟨2, (setup .reset [fun s => { s with sys.trackMv := (-100 - 1) }, fun s => { s with sys.trackTold := false }]),
      (by unfold Acts; decide)⟩,
    ⟨8, .reset, (by unfold Acts; decide), 1, by decide⟩⟩

/-- `Obligations.BlocksComeAndGoAndSensesShow`. -/
theorem test_meets_BlocksComeAndGoAndSensesShow :
    (∃ n : Fin 32, ∃ s : State, ∃ v : Int, (tapRated v = true) ∧ (FwActs 2000 n s) ∧ (s.taps[n].state = .absent ∨
      s.taps[n].state = .faultOpen) ∧ (cells s.taps[n] * 1000 ≤ v)) ∧
    (∃ n : Fin 32, ∃ s : State, ∃ v : Int, (tapRated v = true) ∧ (v < cells s.taps[n] * 1000)) ∧
    (∃ n : Fin 32, ∃ s : State, ∃ fb, ∃ a : Int, ∃ b : Int, ∃ v : Int, ∃ ib, (Removes n fb a b v ib s) ∧ (inRun s =
      false)) ∧
    (∃ n : Fin 32, ∃ s : State, ∃ fb, ∃ a : Int, ∃ b : Int, ∃ v : Int, ∃ ib, (Removes n fb a b v ib s) ∧ (inRun s =
      true) ∧ (removalOf s.taps[n] = .openTap)) ∧
    (∃ (n : Fin 32) (s : State), ∃ fb, ∃ a : Int, ∃ b : Int, ∃ v : Int, ∃ ib, (Removes n fb a b v ib s) ∧ (inRun s =
      true) ∧ (removalOf s.taps[n] = .standIn) ∧ (s.taps[n].stake.withdrawn = false)) ∧
    (∃ (n : Fin 32) (s : State), ∃ fb, ∃ a : Int, ∃ b : Int, ∃ v : Int, ∃ ib, (Removes n fb a b v ib s) ∧ (inRun s =
      true) ∧ (removalOf s.taps[n] = .bypass) ∧ (s.taps[n].stake.conv = true) ∧ (s.taps[n].stake.sw = true)) ∧
    (∃ (n : Fin 32) (s : State), ∃ fb, ∃ a : Int, ∃ b : Int, ∃ v : Int, ∃ ib, (Removes n fb a b v ib s) ∧ (inRun s =
      true) ∧ (removalOf s.taps[n] = .bypass) ∧ (s.taps[n].stake.conv = true) ∧ (s.taps[n].stake.sw = false) ∧
      (s.taps[n].stake.slotFb = false)) ∧
    (∃ n : Fin 32, ∃ s : State, ∃ fb, ∃ a : Int, ∃ b : Int, ∃ v : Int, ∃ ib, (tapRated v = true) ∧ (removalSeen
      s.taps[n] fb a b v (seenBlk s n ib) = false)) ∧
    (∃ n : Fin 32, ∃ s : State, ∃ fb, ∃ a : Int, ∃ b : Int, ∃ v : Int, ∃ ib, (Removes n fb a b v ib s) ∧ (inRun s =
      true) ∧ (removalOf s.taps[n] = .bypass) ∧ (s.taps[n].stake.conv = false)) ∧
    (∃ n : Fin 32, ∃ s : State, ∃ a : Int, ∃ b : Int, ∃ ib, (HwActs 9 n s) ∧ (s.taps[n].state = .standIn) ∧
      (insertionSeen s.taps[n] a b (seenBlk s n ib) = true) ∧ (fwUp s n = true)) ∧
    (∃ n : Fin 32, ∃ s : State, ∃ a : Int, ∃ b : Int, ∃ ib, (insertionSeen s.taps[n] a b (seenBlk s n ib) = false)) ∧
    (∃ n : Fin 32, ∃ s : State, ∃ a : Int, ∃ b : Int, ∃ ib, (HwActs 9 n s) ∧ (s.taps[n].state = .standIn) ∧
      (insertionSeen s.taps[n] a b (seenBlk s n ib) = true) ∧ (fwUp s n = false)) ∧
    (∃ n : Fin 32, ∃ s : State, (Acts n s) ∧ ∃ bad, ∃ v : Int, ∃ vPair, (tapRated v = true) ∧ (tapRated vPair = true)
      ∧ (kelvinOff s.taps[n] v vPair ≠ bad)) ∧
    (∃ n : Fin 32, ∃ s : State, (Acts n s) ∧ ∃ v : Int, ∃ vPair, (tapRated v = true) ∧ (tapRated vPair = true) ∧
      (kelvinOff s.taps[n] v vPair = true) ∧ (s.taps[n].kelvinBad = false)) ∧
    (∃ n : Fin 32, ∃ s : State, (Acts n s) ∧ ∃ v : Int, ∃ vPair, (tapRated v = true) ∧ (tapRated vPair = true) ∧
      (kelvinOff s.taps[n] v vPair = false)) ∧
    (∃ n : Fin 32, ∃ s : State, (Acts n s) ∧ ∃ a : Int, ∃ b : Int, (fwUp s n = true) ∧ (dwelt s n 10000 = true) ∧
      (s.taps[n].desc = none) ∧ (-400 ≤ a) ∧ (a ≤ 1250) ∧ (-400 ≤ b) ∧ (b ≤ 1250) ∧ (b + 150 < a)) ∧
    (∃ n : Fin 32, ∃ s : State, (Acts n s) ∧ ∃ v : Int, (tapRated v = true) ∧ (v < -1000)) ∧
    (∃ n : Fin 32, ∃ s : State, (Acts n s) ∧ ∃ v : Int, (tapRated v = true) ∧ (s.taps[n].state = .cv ∨ s.taps[n].state
      = .done ∨ s.taps[n].state = .topoff) ∧ (s.taps[n].stake.sw = true) ∧ (s.sys.iStr < 0)) :=
  ⟨⟨0, up, 22001, (by unfold FwActs; decide)⟩,
    ⟨8, .reset, 0, by decide⟩,
    ⟨0, (setup .reset [onTaps fun x => { x with state := .cc }]), true, 2500, 1500001, 0, 0,
      (by unfold Removes HwActs; decide)⟩,
    ⟨0, (setup .reset [fun s => { s with sys.st := .run }, onTaps fun x =>
      { x with cfg.share := 3, cfg.helper := true }, onTaps fun x => { x with state := .done }]), true, 2500, 57600,
      50, 57600, (by unfold Removes HwActs; decide)⟩,
    ⟨0, (setup up [fun s => { s with sys.st := .run }, onTaps fun x =>
      { x with state := .cc, cfg.removal := .standIn, cfg.siV := some 50000, ntcA := 250, ntcB := 250, desc := some { cells := 16, nameplate := 1000, iFast := 2000, serial := 7 } }]),
      false, -600, -600, 50000, 0, (by unfold Removes HwActs; decide), by decide⟩,
    ⟨0, (setup up [fun s => { s with sys.st := .run }, onTaps fun x =>
      { x with state := .cc, cfg.removal := .bypass, stake.conv := true, stake.sw := true, ntcA := 250, ntcB := 250, desc := some { cells := 16, nameplate := 1000, iFast := 2000, serial := 7 } }]),
      false, -600, -600, 50000, 0, (by unfold Removes HwActs; decide), by decide⟩,
    ⟨0, (setup up [fun s => { s with sys.st := .run }, onTaps fun x =>
      { x with state := .cc, cfg.removal := .bypass, stake.conv := true, stake.slotFb := false, ntcA := 250, ntcB := 250, desc := some { cells := 16, nameplate := 1000, iFast := 2000, serial := 7 } }]),
      false, -600, -600, 50000, 0, (by unfold Removes HwActs; decide), by decide⟩,
    ⟨0, .reset, true, 0, 57600, -1, 3000, by decide⟩,
    ⟨0, (setup .reset [fun s => { s with sys.st := .run }, onTaps fun x => { x with state := .detect }, onTaps fun x
      => { x with stake.conv := false }]), true, 375000, 100001, 0, 0, (by unfold Removes HwActs; decide)⟩,
    ⟨12, (setup up [onTaps fun x => { x with state := .standIn }]), 1000, 0, 0, (by unfold HwActs; decide)⟩,
    ⟨0, .reset, 98000, 22001, 0, by decide⟩,
    ⟨6, (setup .reset [onTaps fun x => { x with state := .standIn }]), 0, 0, 0, (by unfold HwActs; decide)⟩,
    ⟨2, .reset, (by unfold Acts; decide), true, -100, 50, by decide⟩,
    ⟨0, (setup .reset [onTaps fun x => { x with kelvinBad := false }]), (by unfold Acts; decide), 2000, 0, by decide⟩,
    ⟨0, .reset, (by unfold Acts; decide), -1, 0, by decide⟩,
    ⟨0, (setup up [onTaps fun x => { x with desc := none }]), (by unfold Acts; decide), 650, 0, by decide⟩,
    ⟨0, .reset, (by unfold Acts; decide), -1001, by decide⟩,
    ⟨1, (setup .reset [onTaps fun x => { x with state := .cv }, onTaps fun x => { x with stake.sw := true }, fun s =>
      { s with sys.iStr := (0 - 1) }]), (by unfold Acts; decide), 0, by decide⟩⟩

/-- `Obligations.DetectAndCuppingJudgeTheBlock`. -/
theorem test_meets_DetectAndCuppingJudgeTheBlock :
    (∃ n : Fin 32, ∃ v : Int, ∃ vPair : Int, ∃ s : State, (FwActs 2000 n s) ∧ (tapRated v = true) ∧ (tapRated vPair =
      true) ∧ (s.taps[n].state = .detect)) ∧
    (∃ n : Fin 32, ∃ s : State, (FwActs 0 n s) ∧ (s.taps[n].state = .cupping) ∧ ∃ d, (s.taps[n].desc = some d) ∧ ∃ di
      : Int, (s.taps[n].cupT < 22) ∧ (s.taps[n].cupT % 2 = 0) ∧ (0 < di) ∧ (((min 500 (d.nameplate / 2) : Nat) : Int)
      ≤ 2 * di)) ∧
    (∃ n : Fin 32, ∃ s : State, (FwActs 0 n s) ∧ (s.taps[n].state = .cupping) ∧ ∃ d, (s.taps[n].desc = some d) ∧ ∃ di
      : Int, (s.taps[n].cupT < 22) ∧ (s.taps[n].cupT % 2 = 1) ∧ ((2 * di < (min 500 (d.nameplate / 2) : Nat)) ∨ di ≤
      0)) ∧
    (∃ n : Fin 32, ∃ s : State, (FwActs 0 n s) ∧ (s.taps[n].state = .cupping) ∧ ∃ d, (s.taps[n].desc = some d) ∧ ∃ ocv
      : Nat, (tapRated ocv = true) ∧ (s.taps[n].cupT < 22)) ∧
    (∃ (n : Fin 32) (s : State), (FwActs 0 n s) ∧ (s.taps[n].state = .cupping) ∧ ∃ d, (s.taps[n].desc = some d) ∧ ∃
      ocv : Nat, (tapRated ocv = true) ∧ (22 ≤ s.taps[n].cupT) ∧ (s.taps[n].cupOhm.length < 6 ∨
      s.taps[n].cupInt.length < 6)) ∧
    (∃ (n : Fin 32) (s : State), (FwActs 0 n s) ∧ (s.taps[n].state = .cupping) ∧ ∃ d, (s.taps[n].desc = some d) ∧ ∃
      ocv : Nat, (tapRated ocv = true) ∧ (22 ≤ s.taps[n].cupT) ∧ (6 ≤ s.taps[n].cupOhm.length) ∧ (6 ≤
      s.taps[n].cupInt.length) ∧ (d.rMaxV < median s.taps[n].cupInt ∨ median s.taps[n].cupInt < d.cells * 5 ∨ median
      s.taps[n].cupOhm < d.cells * 5)) ∧
    (∃ n : Fin 32, ∃ s : State, (FwActs 0 n s) ∧ (s.taps[n].state = .cupping) ∧ ∃ d, (s.taps[n].desc = some d) ∧ ∃ ocv
      : Nat, (tapRated ocv = true) ∧ (22 ≤ s.taps[n].cupT) ∧ (6 ≤ s.taps[n].cupOhm.length) ∧ (6 ≤
      s.taps[n].cupInt.length) ∧ (median s.taps[n].cupInt ≤ d.rMaxV) ∧ (d.cells * 5 ≤ median s.taps[n].cupInt) ∧
      (d.cells * 5 ≤ median s.taps[n].cupOhm) ∧ (isHelper s.taps[n] = false)) :=
  ⟨⟨0, 1000, 0, (setup up [onTaps fun x => { x with state := .detect }]), (by unfold FwActs; decide)⟩,
    ⟨2, (setup up [onTaps fun x => { x with state := .cupping }, onTaps fun x => { x with cupT := (22 - 1) }, onTaps
      fun x =>
      { x with state := .cupping, cupT := 4, desc := some { cells := 16, nameplate := 1000, iFast := 2000, serial := 7 } }]),
      (by unfold FwActs; decide), by decide,
      { cells := 16, ntcs := 2, nameplate := 1000, iFast := 2000, serial := 0x7 }, by decide, 2000, by decide⟩,
    ⟨0, (setup up [onTaps fun x =>
      { x with desc := some { cells := 16, nameplate := 1000, iFast := 2000, serial := 7 } }, onTaps fun x =>
      { x with state := .cupping }, onTaps fun x => { x with cupT := (22 - 1) }]), (by unfold FwActs; decide), by
      decide, { cells := 16, ntcs := 2, nameplate := 1000, iFast := 2000, serial := 0x7 }, by decide, 0, by decide⟩,
    ⟨1, (setup up [onTaps fun x =>
      { x with desc := some { cells := 16, nameplate := 1000, iFast := 2000, serial := 7 } }, onTaps fun x =>
      { x with state := .cupping }, onTaps fun x => { x with cupT := (22 - 1) }]), (by unfold FwActs; decide), by
      decide, { cells := 16, ntcs := 2, nameplate := 1000, iFast := 2000, serial := 0x7 }, by decide, 1, by decide⟩,
    ⟨0, (setup up [onTaps fun x =>
      { x with state := .cupping, cupT := 22, desc := some { cells := 16, nameplate := 1000, iFast := 2000, serial := 7 } }]),
      (by unfold FwActs; decide), by decide, { cells := 16, nameplate := 1000, iFast := 2000, serial := 7 }, by
      decide, 0, by decide⟩,
    ⟨0, (setup up [onTaps fun x =>
      { x with state := .cupping, cupT := 22, cupOhm := List.replicate 6 1, cupInt := List.replicate 6 1, desc := some { cells := 16, nameplate := 1000, iFast := 2000, serial := 7 } }]),
      (by unfold FwActs; decide), by decide, { cells := 16, nameplate := 1000, iFast := 2000, serial := 7 }, by
      decide, 0, by decide⟩,
    ⟨0, (setup up [onTaps fun x =>
      { x with desc := some { cells := 16, nameplate := 1000, iFast := 2000, serial := 7 } }, onTaps fun x =>
      { x with cupOhm := [90, 90, 90, 90, 90, 90], cupInt := [90, 90, 90, 90, 90, 90] }, onTaps fun x =>
      { x with state := .cupping }, onTaps fun x => { x with cupT := 22 }]), (by unfold FwActs; decide), by decide,
      { cells := 16, ntcs := 2, nameplate := 1000, iFast := 2000, serial := 0x7 }, by decide, 513, by decide⟩⟩

/-- `Obligations.ChargeAndKeepFollowTheirStates`. -/
theorem test_meets_ChargeAndKeepFollowTheirStates :
    (∃ n : Fin 32, ∃ s : State, (isHelper s.taps[n] = false) ∧ ∃ d, (s.taps[n].desc = some d) ∧ ∃ v : Int, (tapRated v
      = true) ∧ (FwActs 10000 n s) ∧ (s.taps[n].state = .precharge) ∧ (((d.cells * (d.preC + 50) : Nat) : Int) ≤ v)) ∧
    (∃ n : Fin 32, ∃ s : State, (isHelper s.taps[n] = false) ∧ ∃ d, (s.taps[n].desc = some d) ∧ ∃ v : Int, (tapRated v
      = true) ∧ (v < ((d.cells * (d.preC + 50) : Nat) : Int))) ∧
    (∃ n : Fin 32, ∃ s : State, (isHelper s.taps[n] = false) ∧ ∃ d, (s.taps[n].desc = some d) ∧ (FwActs 1000 n s) ∧
      (s.taps[n].state = .cc) ∧ (s.taps[n].limit = 1)) ∧
    (∃ n : Fin 32, ∃ s : State, (isHelper s.taps[n] = false) ∧ ∃ d, (s.taps[n].desc = some d) ∧ (s.taps[n].limit ≠ 1 ∨
      s.taps[n].acted ≠ 0 ∧ s.taps[n].acted ≤ 7)) ∧
    (∃ n : Fin 32, ∃ s : State, (isHelper s.taps[n] = false) ∧ ∃ d, (s.taps[n].desc = some d) ∧ (FwActs 10000 n s) ∧
      (s.taps[n].state = .cv) ∧ (s.taps[n].limit = 2 ∨ s.taps[n].limit = 3)) ∧
    (∃ n : Fin 32, ∃ s : State, (isHelper s.taps[n] = false) ∧ ∃ d, (s.taps[n].desc = some d) ∧ (s.taps[n].limit = 5)) ∧
    (∃ n : Fin 32, ∃ s : State, (isHelper s.taps[n] = false) ∧ ∃ d, (s.taps[n].desc = some d) ∧ ∃ i : Int, (FwActs
      60000 n s) ∧ (s.taps[n].state = .cv ∨ s.taps[n].state = .topoff) ∧ (s.taps[n].limit = 1) ∧ (i * (d.eocN.getD 10)
      < (d.iFast : Int))) ∧
    (∃ n : Fin 32, ∃ s : State, (isHelper s.taps[n] = false) ∧ ∃ d, (s.taps[n].desc = some d) ∧ ∃ i : Int, ((d.iFast :
      Int) ≤ i * (d.eocN.getD 10) ∨ s.taps[n].limit ≠ 1)) ∧
    (∃ n : Fin 32, ∃ s : State, (isHelper s.taps[n] = false) ∧ ∃ d, (s.taps[n].desc = some d) ∧ (FwActs 0 n s) ∧
      (s.taps[n].state = .done) ∧ (s.sys.st = .run) ∧ (topOffDue s n = true)) ∧
    (∃ (n : Fin 32) (s : State), (isHelper s.taps[n] = false) ∧ ∃ d, (s.taps[n].desc = some d) ∧ (FwActs 0 n s) ∧
      (s.taps[n].state = .done ∨ s.taps[n].state = .topoff) ∧ (s.sys.st = .run) ∧ (rechargeDue s n = true)) ∧
    (∃ n : Fin 32, ∃ s : State, (isHelper s.taps[n] = false) ∧ ∃ d, (s.taps[n].desc = some d) ∧ (FwActs 0 n s) ∧
      (s.taps[n].state = .topoff)) ∧
    (∃ n : Fin 32, ∃ s : State, (isHelper s.taps[n] = false) ∧ ∃ v : Int, ∃ ib : Int, (tapRated v = true) ∧ (FwActs
      1000 n s) ∧ (keepFrom s.taps[n] = true) ∧ (s.taps[n].cfg.keepEn = true) ∧ (s.sys.st = .run) ∧ (v < (keepVolt
      s.taps[n] : Int)) ∧ (seenBlk s n ib < -50)) ∧
    (∃ n : Fin 32, ∃ s : State, (isHelper s.taps[n] = false) ∧ ∃ v : Int, ∃ ib : Int, (tapRated v = true) ∧ ((keepVolt
      s.taps[n] : Int) ≤ v ∨ -50 ≤ seenBlk s n ib)) ∧
    (∃ n : Fin 32, ∃ s : State, (isHelper s.taps[n] = false) ∧ (FwActs 10000 n s) ∧ (s.taps[n].state = .keep) ∧
      (s.sys.iStr ≤ 0) ∧ (s.taps[n].left = .precharge ∨ s.taps[n].left = .cc ∨ s.taps[n].left = .cv)) ∧
    (∃ n : Fin 32, ∃ s : State, (isHelper s.taps[n] = false) ∧ (FwActs 10000 n s) ∧ (s.taps[n].state = .keep) ∧
      (s.sys.iStr ≤ 0) ∧ (s.taps[n].left = .suspended)) ∧
    (∃ n : Fin 32, ∃ s : State, (isHelper s.taps[n] = false) ∧ (FwActs 1000 n s) ∧ (s.taps[n].state = .keep) ∧
      (s.taps[n].left = .cc) ∧ (100 ≤ s.taps[n].dose - carry s s.taps[n])) ∧
    (∃ n : Fin 32, ∃ s : State, (isHelper s.taps[n] = false) ∧ (s.taps[n].state = .keep) ∧ (s.taps[n].dose - carry s
      s.taps[n] < 100)) :=
  ⟨⟨0, (setup up [onTaps fun x =>
      { x with desc := some { cells := 16, nameplate := 1000, iFast := 2000, serial := 7 } }, onTaps fun x =>
      { x with state := .precharge }]), by decide,
      { cells := 16, ntcs := 2, nameplate := 1000, iFast := 2000, serial := 0x7 }, by decide, 52000,
      (by unfold FwActs; decide)⟩,
    ⟨2, (setup .reset [onTaps fun x =>
      { x with desc := some { cells := 16, nameplate := 1000, iFast := 2000, serial := 7 } }]), by decide,
      { cells := 16, ntcs := 2, nameplate := 1000, iFast := 2000, serial := 0x7 }, by decide, 0, by decide⟩,
    ⟨0, (setup up [onTaps fun x =>
      { x with desc := some { cells := 16, nameplate := 1000, iFast := 2000, serial := 7 } }, onTaps fun x =>
      { x with state := .cc }, onTaps fun x => { x with limit := 1 }]), by decide,
      { cells := 16, ntcs := 2, nameplate := 1000, iFast := 2000, serial := 0x7 }, (by unfold FwActs; decide)⟩,
    ⟨4, (setup .reset [onTaps fun x =>
      { x with desc := some { cells := 16, nameplate := 1000, iFast := 2000, serial := 7 } }]), by decide,
      { cells := 16, ntcs := 2, nameplate := 1000, iFast := 2000, serial := 0x7 }, by decide⟩,
    ⟨0, (setup up [onTaps fun x =>
      { x with desc := some { cells := 16, nameplate := 1000, iFast := 2000, serial := 7 } }, onTaps fun x =>
      { x with state := .cv }, onTaps fun x => { x with limit := 2 }]), by decide,
      { cells := 16, ntcs := 2, nameplate := 1000, iFast := 2000, serial := 0x7 }, (by unfold FwActs; decide)⟩,
    ⟨0, (setup .reset [onTaps fun x =>
      { x with desc := some { cells := 16, nameplate := 1000, iFast := 2000, serial := 7 } }, onTaps fun x =>
      { x with limit := 5 }]), by decide, { cells := 16, ntcs := 2, nameplate := 1000, iFast := 2000, serial := 0x7 },
      by decide⟩,
    ⟨0, (setup up [onTaps fun x =>
      { x with desc := some { cells := 16, nameplate := 1000, iFast := 2000, serial := 7 } }, onTaps fun x =>
      { x with state := .cv }, onTaps fun x => { x with limit := 1 }]), by decide,
      { cells := 16, ntcs := 2, nameplate := 1000, iFast := 2000, serial := 0x7 }, by decide, 0,
      (by unfold FwActs; decide)⟩,
    ⟨0, (setup .reset [fun s =>
      { s with sys.st := .run, taps := vec fun i => { s.taps[i] with state := .done, outQ := 999999999999, desc := some { cells := 16, nameplate := 1000, iFast := 2000, serial := 7 } } }]),
      by decide, { cells := 16, ntcs := 2, nameplate := 1000, iFast := 2000, serial := 0x7 }, by decide, 50, by
      decide⟩,
    ⟨0, (setup up [onTaps fun x => { x with state := .done }, fun s => { s with sys.st := .run }, fun s =>
      { s with sys.st := .run, taps := vec fun i => { s.taps[i] with state := .done, outQ := 999999999999, desc := some { cells := 16, nameplate := 1000, iFast := 2000, serial := 7 } } }]),
      by decide, { cells := 16, ntcs := 2, nameplate := 1000, iFast := 2000, serial := 0x7 },
      (by unfold FwActs; decide)⟩,
    ⟨0, (setup up [fun s => { s with sys.st := .run }, onTaps fun x =>
      { x with state := .done, outQ := 999999999999, desc := some { cells := 16, nameplate := 1000, iFast := 2000, serial := 7 } }]),
      by decide, { cells := 16, nameplate := 1000, iFast := 2000, serial := 7 }, by decide,
      (by unfold FwActs; decide)⟩,
    ⟨0, (setup up [onTaps fun x =>
      { x with desc := some { cells := 16, nameplate := 1000, iFast := 2000, serial := 7 } }, onTaps fun x =>
      { x with state := .topoff }]), by decide,
      { cells := 16, ntcs := 2, nameplate := 1000, iFast := 2000, serial := 0x7 }, (by unfold FwActs; decide)⟩,
    ⟨0, (setup up [onTaps fun x => { x with state := .done }, fun s => { s with sys.iStr := 700 }, onTaps fun x =>
      { x with cfg.keepEn := true }, fun s => { s with sys.st := .run }]), by decide, -201, 57600,
      (by unfold FwActs; decide)⟩,
    ⟨2, .reset, by decide, 0, 0, by decide⟩,
    ⟨0, (setup up [onTaps fun x => { x with state := .keep }, fun s => { s with sys.iStr := 0 }, onTaps fun x =>
      { x with left := .precharge }]), (by unfold FwActs; decide)⟩,
    ⟨0, (setup up [onTaps fun x => { x with state := .keep }, fun s => { s with sys.iStr := 0 }, onTaps fun x =>
      { x with left := .suspended }]), (by unfold FwActs; decide)⟩,
    ⟨0, (setup up [onTaps fun x => { x with state := .keep }, onTaps fun x => { x with left := .cc }, onTaps fun x =>
      { x with dose := 100 }]), (by unfold FwActs; decide)⟩,
    ⟨0, (setup .reset [onTaps fun x => { x with state := .keep }]), by decide⟩⟩

/-- `Obligations.SuspensionsAndFaultsLatch`. -/
theorem test_meets_SuspensionsAndFaultsLatch :
    (∃ n : Fin 32, ∃ s : State, ∃ c : Int, (HwActs 7 n s) ∧ (working s.taps[n].state = true) ∧ (c < (tapTemps
      s.taps[n]).1)) ∧
    (∃ n : Fin 32, ∃ s : State, ∃ c : Int, (HwActs 7 n s) ∧ (working s.taps[n].state = true) ∧ ((tapTemps s.taps[n]).1
      ≤ c) ∧ ((tapTemps s.taps[n]).2.2.2.1 < c)) ∧
    (∃ n : Fin 32, ∃ s : State, ∃ c : Int, (FwActs 10000 n s) ∧ (s.taps[n].state = .suspended) ∧ (s.taps[n].cause = 2)
      ∧ ((tapTemps s.taps[n]).1 + 20 ≤ c) ∧ (s.sys.st ≠ .run)) ∧
    (∃ n : Fin 32, ∃ s : State, ∃ c : Int, (FwActs 10000 n s) ∧ (s.taps[n].state = .suspended) ∧ (s.taps[n].cause = 2)
      ∧ ((tapTemps s.taps[n]).1 + 20 ≤ c) ∧ (s.sys.st = .run) ∧ (isHelper s.taps[n] = false) ∧ (s.taps[n].left = .cc)) ∧
    (∃ n : Fin 32, ∃ s : State, (FwActs 0 n s)) ∧
    (∃ (n : Fin 32) (s : State), ∃ d, (FwActs 0 n s) ∧ (s.taps[n].desc = some d) ∧ (d.noNtcSuspend = true) ∧ (working
      s.taps[n].state = true) ∧ (validNtc s.taps[n] = false)) ∧
    (∃ n : Fin 32, ∃ s : State, (FwActs 60000 n s) ∧ (working s.taps[n].state = true) ∧ (s.taps[n].dose ≤ carry s
      s.taps[n])) ∧
    (∃ n : Fin 32, ∃ s : State, (carry s s.taps[n] < s.taps[n].dose)) ∧
    (∃ n : Fin 32, ∃ s : State, (FwActs 1000 n s) ∧ (s.taps[n].state = .suspended) ∧ (s.taps[n].cause = 4) ∧ (100 +
      carry s s.taps[n] ≤ s.taps[n].dose) ∧ (s.sys.st = .run) ∧ (isHelper s.taps[n] = false) ∧ (s.taps[n].left = .cc)) ∧
    (∃ n : Fin 32, ∃ s : State, (HwActs 6 n s) ∧ (s.taps[n].state = .precharge) ∧ (s.taps[n].pre.armed = true)) ∧
    (∃ n : Fin 32, ∃ s : State, (HwActs 6 n s) ∧ (s.taps[n].state = .cc ∨ s.taps[n].state = .cv) ∧
      (s.taps[n].chg.armed = true)) ∧
    (∃ n : Fin 32, ∃ s : State, (s.taps[n].acted ≠ 0) ∧ (s.taps[n].acted ≤ 2)) ∧
    (∃ n : Fin 32, ∃ s : State, ∃ c : Int, (HwActs 2 n s) ∧ (TapState.holds s.taps[n].state = true) ∧ (s.taps[n].state
      ≠ .faultTherm) ∧ ((tapTemps s.taps[n]).2.2.2.2 ≤ c)) ∧
    (∃ n : Fin 32, ∃ s : State, ∃ v : Int, ∃ d : Descriptor, (tapRated v = true) ∧ (HwActs 3 n s) ∧ (TapState.holds
      s.taps[n].state = true) ∧ (s.taps[n].state ≠ .faultOv) ∧ (s.taps[n].desc = some d) ∧ (((d.cells * d.ovC : Nat) :
      Int) ≤ v)) ∧
    (∃ n : Fin 32, ∃ s : State, ∃ v : Int, (tapRated v = true) ∧ (HwActs 3 n s) ∧ (98000 ≤ v) ∧ (TapState.holds
      s.taps[n].state = true) ∧ (s.taps[n].state ≠ .faultOv)) ∧
    (∃ n : Fin 32, ∃ s : State, ∃ v : Int, (tapRated v = true) ∧ (HwActs 3 n s) ∧ (98000 ≤ v) ∧ (s.taps[n].cfg.gang =
      true) ∧ (s.taps[partner n].cfg.gang = true) ∧ (TapState.holds s.taps[n].state = true) ∧ (s.taps[n].state ≠
      .faultOv)) ∧
    (∃ n : Fin 32, ∃ s : State, ∃ v : Int, (tapRated v = true) ∧ (HwActs 3 n s) ∧ (98000 ≤ v) ∧ (s.taps[n].state =
      .standIn) ∧ (s.taps[n].stake.slotFb = false)) ∧
    (∃ n : Fin 32, ∃ s : State, ∃ v : Int, (tapRated v = true) ∧ (HwActs 4 n s) ∧ (TapState.holds s.taps[n].state =
      true) ∧ (TapState.isFault s.taps[n].state = false) ∧ (s.taps[n].stake.conv = true) ∧ (validNtc s.taps[n] = true)
      ∧ (v + cells s.taps[n] * 300 ≤ kelvin s.taps[n]) ∧ (0 ≤ iBlk s n)) ∧
    (∃ n : Fin 32, ∃ s : State, ∃ v : Int, (tapRated v = true) ∧ (HwActs 4 n s) ∧ (TapState.holds s.taps[n].state =
      true) ∧ (TapState.isFault s.taps[n].state = false) ∧ (s.taps[n].stake.conv = false) ∧ (validNtc s.taps[n] =
      true) ∧ (v < cells s.taps[n] * 500) ∧ (s.taps[n].vPair < cells s.taps[n] * 500)) ∧
    (∃ n : Fin 32, ∃ s : State, ∃ v : Int, (tapRated v = true) ∧ (TapState.isFault s.taps[n].state = true)) :=
  ⟨⟨2, (setup .reset [onTaps fun x => { x with state := .cc }]), -1001, (by unfold HwActs; decide)⟩,
    ⟨0, (setup .reset [onTaps fun x => { x with state := .cc }]), 1000, (by unfold HwActs; decide)⟩,
    ⟨0, (setup up [onTaps fun x => { x with state := .suspended }, onTaps fun x => { x with cause := 2 }]), 100,
      (by unfold FwActs; decide)⟩,
    ⟨0, (setup up [onTaps fun x => { x with state := .suspended }, onTaps fun x => { x with cause := 2 }, fun s =>
      { s with sys.st := .run }, onTaps fun x => { x with left := .cc }]), 2500, (by unfold FwActs; decide)⟩,
    ⟨0, (setup up [onTaps fun x =>
      { x with state := .cc, ntcA := 5000, ntcB := 5000, desc := some { cells := 16, nameplate := 1000, iFast := 2000, serial := 7, noNtcSuspend := true } }]),
      (by unfold FwActs; decide)⟩,
    ⟨0, (setup up [onTaps fun x =>
      { x with state := .cc, ntcA := 5000, ntcB := 5000, desc := some { cells := 16, nameplate := 1000, iFast := 2000, serial := 7, noNtcSuspend := true } }]),
      { cells := 16, nameplate := 1000, iFast := 2000, serial := 7, noNtcSuspend := true },
      (by unfold FwActs; decide)⟩,
    ⟨0, (setup up [onTaps fun x => { x with state := .cc }]), (by unfold FwActs; decide)⟩,
    ⟨2, (setup .reset [onTaps fun x => { x with levels := #v[1, 1, 1, 1], dose := 500, nextDose := 300 }]), by decide⟩,
    ⟨6, (setup up [onTaps fun x => { x with levels := #v[1, 1, 1, 1], dose := 500, nextDose := 300 }, onTaps fun x =>
      { x with state := .suspended }, onTaps fun x => { x with cause := 4 }, fun s => { s with sys.st := .run },
      onTaps fun x => { x with left := .cc }]), (by unfold FwActs; decide)⟩,
    ⟨1, (setup .reset [onTaps fun x => { x with state := .precharge }, onTaps fun x => { x with pre.armed := true }]),
      (by unfold HwActs; decide)⟩,
    ⟨0, (setup .reset [onTaps fun x => { x with state := .cc }, onTaps fun x => { x with chg.armed := true }]),
      (by unfold HwActs; decide)⟩,
    ⟨0, (setup .reset [onTaps fun x => { x with acted := 2 }]), by decide⟩,
    ⟨0, (setup .reset [onTaps fun x => { x with state := .detect }]), 2000, (by unfold HwActs; decide)⟩,
    ⟨16, (setup .reset [onTaps fun x =>
      { x with desc := some { cells := 16, nameplate := 1000, iFast := 2000, serial := 7 } }, onTaps fun x =>
      { x with state := .done }]), 98000, { cells := 16, ntcs := 2, nameplate := 1000, iFast := 2000, serial := 0x7 },
      (by unfold HwActs; decide)⟩,
    ⟨2, (setup .reset [onTaps fun x => { x with state := .cc }]), 98000, (by unfold HwActs; decide)⟩,
    ⟨16, (setup .reset [onTaps fun x => { x with state := .faultShort }, onTaps fun x => { x with cfg.gang := true },
      onTaps fun x => { x with cfg.gang := true }]), 98000, (by unfold HwActs; decide)⟩,
    ⟨0, (setup .reset [onTaps fun x => { x with state := .standIn }, onTaps fun x =>
      { x with stake.slotFb := false }]), 98000, (by unfold HwActs; decide)⟩,
    ⟨0, (setup .reset [onTaps fun x => { x with vKel := 50000, vPair := 50000 }, onTaps fun x =>
      { x with ntcA := 250, ntcB := 250 }, onTaps fun x => { x with state := .done }, onTaps fun x =>
      { x with stake.conv := true }]), 0, (by unfold HwActs; decide)⟩,
    ⟨0, (setup .reset [onTaps fun x => { x with ntcA := 250, ntcB := 250 }, onTaps fun x =>
      { x with state := .detect }, onTaps fun x => { x with stake.conv := false }]), 0, (by unfold HwActs; decide)⟩,
    ⟨0, (setup .reset [onTaps fun x => { x with state := .faultShort }]), 0, by decide⟩⟩

/-- `Obligations.StepRunsTheFrontCommand`. -/
theorem test_meets_StepRunsTheFrontCommand :
    (∃ s : State, (s.pending = []) ∧ (s.powered = false)) ∧
    (∃ s : State, (s.pending = []) ∧ (s.powered = true) ∧ (∀ k : Fin 4, s.mtr.alarms[k].running = false) ∧
      (s.pour.rise = false) ∧ (∀ x : Fin 4, s.links[x].state ≠ .contract)) :=
  ⟨⟨(setup .reset [fun s => { s with sys.st := .off }, fun s => { s with pending := [] }]), by decide⟩,
    ⟨(setup .reset [fun s => { s with pending := [] }, fun s =>
      { s with mtr.alarms := vec fun i0 => (fun x0 => { x0 with running := false }) s.mtr.alarms[i0] }, fun s =>
      { s with pour.rise := false }]), by decide⟩⟩

/-- `Obligations.EveryCommandIsCheckedAtTaking`. -/
theorem test_meets_EveryCommandIsCheckedAtTaking :
    (∃ (c : Instr) (op : Nat) (via : Via) (s : State), (hostOp c = some (op, via)) ∧ ∃ code : Nat, (s.powered = true)
      ∧ (s.sys.st ≠ .hold) ∧ (c0Up s = true) ∧ (waits via s = false) ∧ (isTaken via s = false) ∧ (gate op s = some
      code)) ∧
    (∃ (c : Instr) (op : Nat) (via : Via) (s : State), (hostOp c = some (op, via)) ∧ (waits via s = true)) ∧
    (∃ (c : Instr) (op : Nat) (via : Via) (s : State), (hostOp c = some (op, via)) ∧ (s.powered = false ∨ s.sys.st =
      .hold ∨ c0Up s = false)) :=
  ⟨⟨.sysRun .monitor [], 0x0102, .monitor, (setup up [fun s => { s with sys.st := .run }]), rfl, 0x30, by decide⟩,
    ⟨.sysRun (.host 0) [], 0x0102, .host 0, (setup up [fun s =>
      { s with mbx := vec fun i => { s.mbx[i] with state := .taken, accept := 2 } }]), rfl, by decide⟩,
    ⟨.sysRun .monitor [], 0x0102, .monitor, (setup up [fun s => { s with sys.st := .hold }]), rfl, by decide⟩⟩

/-- `Obligations.EveryCommandCompletes`. -/
theorem test_meets_EveryCommandCompletes :
    (∃ (c : Instr) (s : State), (inRatings c = true)) ∧
    (∃ (c : Instr) (s : State), (inRatings c = false)) :=
  ⟨⟨.presence 0 50000, up, by decide⟩,
    ⟨.presence 0 100001, up, by decide⟩⟩

/-- `Obligations.VoltagesBeyondTheRatingsStop`. -/
theorem test_meets_VoltagesBeyondTheRatingsStop :
    (∃ v : Int, (v < -1100000 ∨ 1100000 < v)) ∧
    (∃ v : Int, (v < -3000 ∨ 3000 < v)) ∧
    (∃ v : Int, (v < -15000 ∨ 15000 < v)) ∧
    (∃ v : Int, (v < -100000 ∨ 100000 < v)) ∧
    (∃ m : Sample, (m.vStr < -50000 ∨ 1600000 < m.vStr ∨ m.auxV < -125000 ∨ 125000 < m.auxV ∨ m.track < -15000 ∨ 15000
      < m.track)) :=
  ⟨⟨1500001, by decide⟩,
    ⟨14000, by decide⟩,
    ⟨57600, by decide⟩,
    ⟨100001, by decide⟩,
    
      ⟨{ ports := [], taps := [], iStr := 0, iStrPeak := 100, vStr := -1, inlet := -201, hubV := 2, auxV := -201, track := 1600001, tie := -200, pilots := [57600], strap := 0x7, keyLow := true, strFb := false, alertLow := false },
      by decide⟩⟩



/-- R353, R448: a delivered module starts from AUX and stays in SHIP when a block alone powers it. -/
theorem test_delivered_module_starts_from_aux :
    after (.hkPathQualify (.aux 24000) 0 false) State.delivered (fun t => decide (t.sys.st = .boot ∧ t.sys.shipLatch = false)) = true ∧
    after (.hkPathQualify (.tap 0 40000) 0 false) State.delivered (fun t => decide (t.sys.st = .ship)) = true := by decide

/-- `Obligations.EveryStepKeepsTheInvariant`. -/
theorem test_meets_EveryStepKeepsTheInvariant : ∃ s t : State, Claims.Inv s ∧ step s = .next t :=
  ⟨setup up [fun s => { s with pending := [.sysRun .monitor []] }], _, (by unfold Claims.Inv; decide), rfl⟩

/-- `Obligations.ModuleStateMovesOnlyAsListed`, at a step that moves the module. -/
theorem test_meets_ModuleStateMovesOnlyAsListed : ∃ s t : State, Claims.Inv s ∧ step s = .next t ∧ t.sys.st ≠ s.sys.st :=
  ⟨setup up [fun s => { s with pending := [.sysRun .monitor []] }], _, (by unfold Claims.Inv; decide), rfl, by decide⟩

end Sys2Proof.Tests
end

/-! ## What a step leaves of the watchdog and of the module state

Nearly every row of the instruction table changes neither the watchdog nor the module state. `Still` says so of one
operation; the rules of this part carry it through the combinators of the model (folds, commands, events), so that
the rule of a single operation is a `simp` with that operation's definition. -/

section
namespace Sys2Proof.Machine

/-- The watchdog and the module state are as before. -/
@[simp, reducible] def Still (s t : State) : Prop := t.wdg = s.wdg ∧ t.sys.st = s.sys.st

theorem Still.trans {s t u} (h : Still s t) (k : Still t u) : Still s u := ⟨k.1.trans h.1, k.2.trans h.2⟩

/-- The state that a command's effect leaves. -/
def Reply.next : Reply → State
  | .now _ _ t => t
  | .later t => t

/-- The state after an instruction: the next one, or the state before it where it faults or is refused. -/
def landing (s : State) : Host.Outcome State Fault Refusal → State
  | .next t => t
  | _ => s

@[simp] theorem landing_next (s t) : landing s (.next t) = t := rfl
@[simp] theorem landing_fault (s f) : landing s (.fault f) = s := rfl
@[simp] theorem next_now (c r s) : (Reply.now c r s).next = s := rfl
@[simp] theorem next_later (s) : (Reply.later s).next = s := rfl

/-! ### Choices and folds -/

@[simp] theorem ite_wdg (p : Prop) {_ : Decidable p} (s t : State) :
    (if p then s else t).wdg = if p then s.wdg else t.wdg := apply_ite State.wdg p s t
@[simp] theorem ite_sys_st (p : Prop) {_ : Decidable p} (s t : State) :
    (if p then s else t).sys.st = if p then s.sys.st else t.sys.st := apply_ite (fun s : State => s.sys.st) p s t
@[simp] theorem ite_st (p : Prop) {_ : Decidable p} (y z : Sys) : (if p then y else z).st = if p then y.st else z.st :=
  apply_ite Sys.st p y z
@[simp] theorem ite_next (p : Prop) {_ : Decidable p} (r q : Reply) :
    (if p then r else q).next = if p then r.next else q.next := apply_ite Reply.next p r q
@[simp] theorem ite_landing (p : Prop) {_ : Decidable p} (s o q) :
    landing s (if p then o else q) = if p then landing s o else landing s q := apply_ite (landing s) p o q

@[simp] theorem foldFin_wdg {k} (f : Fin k → State → State) (h : ∀ i s, (f i s).wdg = s.wdg) (s) :
    (foldFin k f s).wdg = s.wdg := foldFin_keeps _ _ h _
@[simp] theorem foldFin_st {k} (f : Fin k → State → State) (h : ∀ i s, (f i s).sys.st = s.sys.st) (s) :
    (foldFin k f s).sys.st = s.sys.st := foldFin_keeps (fun s : State => s.sys.st) _ h _
@[simp] theorem foldl_wdg {ι : Type} (f : State → ι → State) (h : ∀ s i, (f s i).wdg = s.wdg) (l : List ι) (s) :
    (l.foldl f s).wdg = s.wdg := foldl_keeps State.wdg _ h _ _
@[simp] theorem foldl_st {ι : Type} (f : State → ι → State) (h : ∀ s i, (f s i).sys.st = s.sys.st) (l : List ι) (s) :
    (l.foldl f s).sys.st = s.sys.st := foldl_keeps (fun s : State => s.sys.st) _ h _ _

/-! ### Replies and commands -/

@[simp] theorem done_still (s) : Still s (done s).next := ⟨rfl, rfl⟩
@[simp] theorem doneWith_still (res s) : Still s (doneWith res s).next := ⟨rfl, rfl⟩
@[simp] theorem accepted_still (s) : Still s (accepted s).next := ⟨rfl, rfl⟩
@[simp] theorem deny_still (code s) : Still s (deny code s).next := ⟨rfl, rfl⟩
@[simp] theorem checked_next (cs s k) : (checked cs s k).next = if (first cs).isSome then s else k.next := by
  unfold checked
  split <;> simp_all [deny]
@[simp] theorem toFlash_still (r s) (h : Still s (r s).next) : Still s (toFlash r s).next := by
  unfold toFlash
  split <;> simp_all
@[simp] theorem deliver_still (via) (r : Reply) : Still r.next (deliver via r) := by
  cases r <;> simp [deliver]

/-- A command that waited ends with its effect or with nothing changed. -/
theorem lateReply_next (op s) (r : Reply) : (lateReply op s r).next = r.next ∨ (lateReply op s r).next = s := by
  unfold lateReply
  (repeat' split) <;> simp [deny]

/-- A command changes the watchdog and the module state as its effect does, or not at all. -/
theorem issue_still_or (op run via args s) :
    Still s (issue op run via args s) ∨ Still (run args s).next (issue op run via args s) := by
  unfold issue
  split
  · exact .inl ⟨rfl, rfl⟩
  · split
    · split
      · have told := deliver_still via (lateReply op s (run args s))
        obtain h | h := lateReply_next op s (run args s)
        · exact .inr (by rwa [h] at told)
        · exact .inl (by rwa [h] at told)
      · exact .inl ⟨rfl, rfl⟩
    · split
      · exact .inl (by simp)
      · split
        · exact .inr (deliver_still via _)
        · exact .inl ⟨rfl, rfl⟩

@[simp] theorem lateReply_still (op s r) (h : Still s (Reply.next r)) : Still s (lateReply op s r).next := by
  obtain k | k := lateReply_next op s r <;> simp_all
@[simp] theorem issue_still (op run via args s) (h : Still s (Reply.next (run args s))) :
    Still s (issue op run via args s) := (issue_still_or op run via args s).elim id h.trans
@[simp] theorem hostCommand_still (op run via args s) (h : Still s (Reply.next (run args s))) :
    Still s (landing s (hostCommand op run via args s)) := issue_still op run via args s h
@[simp] theorem hold_still (c s) : Still s (hold c s) := by simp [hold]
@[simp] theorem afterHeld_still (op run via args s) (h : Still s (Reply.next (run args s))) :
    Still s (landing s (afterHeld op run via args s)) := by simp_all [afterHeld]
@[simp] theorem onCluster_still (op run via args s) (h : Still s (Reply.next (run args s))) :
    Still s (landing s (onCluster op run via args s)) := by simp_all [onCluster]
@[simp] theorem onCore_still (op run via args s) (h : Still s (Reply.next (run args s))) :
    Still s (landing s (onCore op run via args s)) := by simp_all [onCore]
@[simp] theorem acting_still (run a s) (h : Still s (Reply.next (run a s))) : Still s (acting run a s).next := by
  unfold acting
  (repeat' split) <;> simp_all [linkActs]

/-! ### Taps and rods -/

@[simp] theorem byCommand_wdg (n f s) : (byCommand n f s).wdg = (f s).wdg := by simp [byCommand]
@[simp] theorem byCommand_st (n f s) : (byCommand n f s).sys.st = (f s).sys.st := by simp [byCommand]
@[simp] theorem rankTap_wdg (r top n f s) : (rankTap r top n f s).wdg =
    if s.taps[n].acted ≠ 0 ∧ s.taps[n].acted ≤ top then s.wdg else (f s).wdg := by simp [rankTap]
@[simp] theorem rankTap_st (r top n f s) : (rankTap r top n f s).sys.st =
    if s.taps[n].acted ≠ 0 ∧ s.taps[n].acted ≤ top then s.sys.st else (f s).sys.st := by simp [rankTap]
@[simp] theorem waking_wdg (n f s) : (waking n f s).wdg = (f s).wdg := by simp [waking]
@[simp] theorem waking_st (n f s) : (waking n f s).sys.st = (f s).sys.st := by simp [waking]
@[simp] theorem rephase_still (n s0 s) : Still s (rephase n s0 s) := by
  unfold rephase
  dsimp only
  split
  · simp
  · exact ⟨by rw [foldl_wdg]; exact fun _ _ => rfl, by rw [foldl_st]; exact fun _ _ => rfl⟩
@[simp] theorem reactivate_wdg (n f s) : (reactivate n f s).wdg = (f s).wdg := by simp [reactivate]
@[simp] theorem reactivate_st (n f s) : (reactivate n f s).sys.st = (f s).sys.st := by simp [reactivate]
@[simp] theorem modRod_still (r f s) : Still s (modRod r f s) := ⟨rfl, rfl⟩
@[simp] theorem modPerf_still (c f s) : Still s (modPerf c f s) := ⟨rfl, rfl⟩
@[simp] theorem modSlot_still (k f s) : Still s (modSlot k f s) := ⟨rfl, rfl⟩
@[simp] theorem modBank_still (k f s) : Still s (modBank k f s) := ⟨rfl, rfl⟩
@[simp] theorem modAlarm_still (k f s) : Still s (modAlarm k f s) := ⟨rfl, rfl⟩

/-! ### The rows' frames: the state in which an event of each kind ends -/

@[simp] theorem landing_hostWrite (f s) : landing s (hostWrite f s) = if s.powered then f s else s := rfl
@[simp] theorem landing_linkEvent (f s) : landing s (linkEvent f s) = if s.powered then f s else s := rfl
@[simp] theorem landing_linkTimer (x due f s) : landing s (linkTimer x due f s) = if s.powered then
      if due s && decide (s.links[x].acted = 0 ∨ 4 < s.links[x].acted) then linkActs x 4 (f s) else s
    else s := rfl
@[simp] theorem landing_received (x f s) : landing s (received x f s) = if s.powered then
      if s.links[x].linked && decide (s.links[x].acted = 0) then f s else s
    else s := rfl
@[simp] theorem landing_pilotEvent (x v f s) : landing s (pilotEvent x v f s) =
    if !pilotRated v || !s.powered then s else f (s.modLink x fun l => { l with pilot := v }) := by
  unfold pilotEvent
  split_ifs <;> simp_all
@[simp] theorem landing_portEvent (x v f s) : landing s (portEvent x v f s) =
    if !portRated v || !s.powered then s else f (s.modPort x fun p => { p with vin := v }) := by
  unfold portEvent
  split_ifs <;> simp_all
@[simp] theorem landing_monRun (most line f s) : landing s (monRun most line f s) = if !s.powered then s
    else if idleCr line then monShow .prompt [] (echoLine line s)
    else if most < (typed line).length then monErr 7 (echoLine line s)
    else f (echoLine line s) := rfl
@[simp] theorem landing_monLine (line f s) : landing s (monLine line f s) = landing s (monRun 128 line f s) := rfl
@[simp] theorem landing_svcRun (line f s) : landing s (svcRun line f s) =
    landing s (monLine line (fun s => if s.mon.service then f s else monErr 5 s) s) := rfl
@[simp] theorem landing_atVolt (v go s) : landing s (atVolt v go s) = if tapRated v then landing s (go s) else s := by
  unfold atVolt
  split_ifs <;> simp_all
@[simp] theorem landing_tapHw (n f s) : landing s (tapHw n f s) =
    if s.powered && !gangedOdd s n then waking n f s else s := rfl
@[simp] theorem landing_tapFw (n f s) : landing s (tapFw n f s) =
    if fwUp s n && !gangedOdd s n then waking n f s else s := rfl
@[simp] theorem landing_smHw (r n f s) : landing s (smHw r n f s) =
    landing s (tapHw n (fun s => if leaving s.taps[n] then s else rankTap r r n f s) s) := rfl
@[simp] theorem landing_smFw (ms n f s) : landing s (smFw ms n f s) =
    landing s (tapFw n (fun s => if leaving s.taps[n] || !dwelt s n ms then s else rankTap 9 9 n f s) s) := rfl
@[simp] theorem landing_smDwell (ms n f s) : landing s (smDwell ms n f s) =
    landing s (tapFw n (fun s => if leaving s.taps[n] || !dwelt s n ms then s else rankTap 9 7 n f s) s) := rfl
theorem smFw_still {f n} (h : ∀ s, Still s (f s)) (ms s) : Still s (landing s (smFw ms n f s)) := by simp [h]
theorem smDwell_still {f n} (h : ∀ s, Still s (f s)) (ms s) : Still s (landing s (smDwell ms n f s)) := by simp [h]

/-! ### The module's own part -/

@[simp] theorem resync_st (y) : (resync y).st = y.st := by simp [resync]
@[simp] theorem setStr_st (en y) : (setStr en y).st = y.st := by simp [setStr]
@[simp] theorem glideBack_st (y) : (glideBack y).st = y.st := by simp [glideBack]
@[simp] theorem tickSys_st (y) : (tickSys y).st = y.st := by simp [tickSys]
@[simp] theorem sample_st (m y) : (sampleKey m (sampleAux m (sampleString m y))).st = y.st := by
  simp [sampleKey, sampleAux, sampleString]
theorem modSys_still {f : Sys → Sys} (h : ∀ y, (f y).st = y.st) (s) : Still s (s.modSys f) := ⟨rfl, h s.sys⟩

end Sys2Proof.Machine
end

/-! ## The operations that leave the watchdog and the module state, one rule each -/

section
namespace Sys2Proof.Machine

/-! ### Shared operations -/

@[simp] theorem toDetect_still (n isNew s) : Still s (toDetect n isNew s) := by simp [toDetect]
@[simp] theorem perfCount_still (c code k s) : Still s (perfCount c code k s) := by simp [perfCount]
@[simp] theorem newPeriod_still (s) : Still s (newPeriod s) := by simp [newPeriod]
@[simp] theorem decideRole_still (s) : Still s (decideRole s) := by simp [decideRole]
@[simp] theorem standbyAlerts_still (s) : Still s (standbyAlerts s) := by simp [standbyAlerts]
@[simp] theorem defer_still (d s) : Still s (defer d s) := by simp [defer]
@[simp] theorem dropOf_still (d s) : Still s (dropOf d s) := by simp [dropOf]

/-! ### Tap commands -/

@[simp] theorem addHist_still (h s) : Still s (addHist h s) := by simp [addHist]
@[simp] theorem voidHist_still (n s) : Still s (voidHist n s) := by simp [voidHist]
@[simp] theorem sensorSuspend_still (n s) : Still s (sensorSuspend n s) := by simp [sensorSuspend]
@[simp] theorem learn_still (n s) : Still s (learn n s) := by
  unfold learn
  split <;> simp
@[simp] theorem topOffEnd_still (n s) : Still s (topOffEnd n s) := by simp [topOffEnd]
@[simp] theorem endKeep_still (n s) : Still s (endKeep n s) := by
  unfold endKeep
  dsimp only
  (repeat' split) <;> simp
@[simp] theorem endHandOff_still (n s) : Still s (endHandOff n s) := by
  simp only [endHandOff, bypassNow]
  split <;> simp
@[simp] theorem startHandOff_still (n why s) : Still s (startHandOff n why s) := by simp [startHandOff, countReturn]
@[simp] theorem openFault_still (n s) : Still s (openFault n s) := by simp [openFault]
@[simp] theorem applyDescriptor_still (args s) : Still s (applyDescriptor args s).next := by
  simp [applyDescriptor, takeDescriptor]
@[simp] theorem runSetDescriptor_still (args s) : Still s (runSetDescriptor args s).next := by simp [runSetDescriptor]
@[simp] theorem runGetDescriptor_still (args s) : Still s (runGetDescriptor args s).next := by
  unfold runGetDescriptor
  dsimp only
  (repeat' split) <;> simp
@[simp] theorem runSetSupport_still (args s) : Still s (runSetSupport args s).next := by simp [runSetSupport]
@[simp] theorem runSetLimits_still (args s) : Still s (runSetLimits args s).next := by simp [runSetLimits]
@[simp] theorem runStop_still (args s) : Still s (runStop args s).next := by simp [runStop]
@[simp] theorem runResume_still (args s) : Still s (runResume args s).next := by simp [runResume]
@[simp] theorem rearm_still (n s) : Still s (rearm n s) := by
  unfold rearm
  split <;> simp
@[simp] theorem runRearmTimer_still (args s) : Still s (runRearmTimer args s).next := by simp [runRearmTimer]
@[simp] theorem runClearFault_still (args s) : Still s (runClearFault args s).next := by simp [runClearFault]
@[simp] theorem runForget_still (via args s) : Still s (runForget via args s).next := by simp [runForget]
@[simp] theorem runGetHistory_still (args s) : Still s (runGetHistory args s).next := by
  unfold runGetHistory
  dsimp only
  (repeat' split) <;> simp
@[simp] theorem runSetRamp_still (args s) : Still s (runSetRamp args s).next := by simp [runSetRamp]
@[simp] theorem refresh_still (n s) : Still s (refresh n s) := by simp [refresh]
@[simp] theorem runSetKeep_still (args s) : Still s (runSetKeep args s).next := by simp [runSetKeep]
@[simp] theorem runSetStandin_still (args s) : Still s (runSetStandin args s).next := by simp [runSetStandin]
@[simp] theorem refuseStart_still (n s) : Still s (refuseStart n s) := by simp [refuseStart]
@[simp] theorem requestStart_still (n s) : Still s (requestStart n s) := by simp [requestStart]
@[simp] theorem fromBypass_still (n auto s) : Still s (fromBypass n auto s) := by simp [fromBypass]
@[simp] theorem runStandIn_still (args s) : Still s (runStandIn args s).next := by simp [runStandIn]
@[simp] theorem runSetTrack_still (args s) : Still s (runSetTrack args s).next := by simp [runSetTrack]
@[simp] theorem runSetCoeff_still (args s) : Still s (runSetCoeff args s).next := by
  unfold runSetCoeff
  (repeat' split) <;> simp
@[simp] theorem runLoadDefaultCoeff_still (args s) : Still s (runLoadDefaultCoeff args s).next := by
  simp [runLoadDefaultCoeff]
@[simp] theorem runSetSchedule_still (args s) : Still s (runSetSchedule args s).next := by simp [runSetSchedule]
@[simp] theorem runSetShed_still (args s) : Still s (runSetShed args s).next := by simp [runSetShed]
@[simp] theorem withdraw_still (n s) : Still s (withdraw n s) := by simp [withdraw]
@[simp] theorem runSetGang_still (args s) : Still s (runSetGang args s).next := by simp [runSetGang, withdrawUnrated]
@[simp] theorem runGetRods_still (args s) : Still s (runGetRods args s).next := by
  unfold runGetRods
  split <;> simp
@[simp] theorem runSetPlant_still (args s) : Still s (runSetPlant args s).next := by simp [runSetPlant]
@[simp] theorem execTapSetDescriptor_still (via args s) : Still s (landing s (execTapSetDescriptor via args s)) := by
  simp [execTapSetDescriptor]
@[simp] theorem execTapGetDescriptor_still (via args s) : Still s (landing s (execTapGetDescriptor via args s)) := by
  simp [execTapGetDescriptor]
@[simp] theorem execTapSetSupport_still (via args s) : Still s (landing s (execTapSetSupport via args s)) := by
  simp [execTapSetSupport]
@[simp] theorem execTapSetLimits_still (via args s) : Still s (landing s (execTapSetLimits via args s)) := by
  simp [execTapSetLimits]
@[simp] theorem execTapStop_still (via args s) : Still s (landing s (execTapStop via args s)) := by simp [execTapStop]
@[simp] theorem execTapResume_still (via args s) : Still s (landing s (execTapResume via args s)) := by simp [execTapResume]
@[simp] theorem execTapRearmTimer_still (via args s) : Still s (landing s (execTapRearmTimer via args s)) := by
  simp [execTapRearmTimer]
@[simp] theorem execTapClearFault_still (via args s) : Still s (landing s (execTapClearFault via args s)) := by
  simp [execTapClearFault]
@[simp] theorem execTapForget_still (via args s) : Still s (landing s (execTapForget via args s)) := by simp [execTapForget]
@[simp] theorem execTapGetHistory_still (via args s) : Still s (landing s (execTapGetHistory via args s)) := by
  simp [execTapGetHistory]
@[simp] theorem execTapSetRamp_still (via args s) : Still s (landing s (execTapSetRamp via args s)) := by
  simp [execTapSetRamp]
@[simp] theorem execTapSetKeep_still (via args s) : Still s (landing s (execTapSetKeep via args s)) := by
  simp [execTapSetKeep]
@[simp] theorem execTapSetStandin_still (via args s) : Still s (landing s (execTapSetStandin via args s)) := by
  simp [execTapSetStandin]
@[simp] theorem execTapStandIn_still (via args s) : Still s (landing s (execTapStandIn via args s)) := by
  simp [execTapStandIn]
@[simp] theorem execTapSetTrack_still (via args s) : Still s (landing s (execTapSetTrack via args s)) := by
  simp [execTapSetTrack]
@[simp] theorem execTapSetCoeff_still (via args s) : Still s (landing s (execTapSetCoeff via args s)) := by
  simp [execTapSetCoeff]
@[simp] theorem execTapLoadDefaultCoeff_still (via args s) : Still s (landing s (execTapLoadDefaultCoeff via args s)) := by
  simp [execTapLoadDefaultCoeff]
@[simp] theorem execTapSetSchedule_still (via args s) : Still s (landing s (execTapSetSchedule via args s)) := by
  simp [execTapSetSchedule]
@[simp] theorem execTapSetShed_still (via args s) : Still s (landing s (execTapSetShed via args s)) := by
  simp [execTapSetShed]
@[simp] theorem execTapSetGangForm_still (via args s) : Still s (landing s (execTapSetGangForm via args s)) := by
  simp [execTapSetGangForm]
@[simp] theorem execTapSetGangDissolve_still (via args s) : Still s (landing s (execTapSetGangDissolve via args s)) := by
  simp [execTapSetGangDissolve]
@[simp] theorem execTapGetRods_still (via args s) : Still s (landing s (execTapGetRods via args s)) := by
  simp [execTapGetRods]
@[simp] theorem execTapSetPlant_still (via args s) : Still s (landing s (execTapSetPlant via args s)) := by
  simp [execTapSetPlant]

/-! ### Arbiter and meter commands -/

@[simp] theorem runSetMin_still (args s) : Still s (runSetMin args s).next := by simp [runSetMin]
@[simp] theorem runSetLossCap_still (args s) : Still s (runSetLossCap args s).next := by simp [runSetLossCap]
@[simp] theorem execArbSetMin_still (via args s) : Still s (landing s (execArbSetMin via args s)) := by simp [execArbSetMin]
@[simp] theorem execArbSetLossCap_still (via args s) : Still s (landing s (execArbSetLossCap via args s)) := by
  simp [execArbSetLossCap]
@[simp] theorem execArbGetDoses_still (via args s) : Still s (landing s (execArbGetDoses via args s)) := by
  simp [execArbGetDoses, runGetDoses]
@[simp] theorem execMtrRead_still (via args s) : Still s (landing s (execMtrRead via args s)) := by
  simp [execMtrRead, runMtrRead]
@[simp] theorem execMtrGetPubkey_still (via args s) : Still s (landing s (execMtrGetPubkey via args s)) := by
  simp [execMtrGetPubkey, runGetPubkey]
@[simp] theorem execMtrGetStatement_still (via args s) : Still s (landing s (execMtrGetStatement via args s)) := by
  simp [execMtrGetStatement, runGetStatement, buildStmt]
@[simp] theorem execMtrReadStatement_still (via args s) : Still s (landing s (execMtrReadStatement via args s)) := by
  simp [execMtrReadStatement, runReadStatement]

/-! ### Recipes and performance counters -/

@[simp] theorem runVerify_still (args s) : Still s (runVerify args s).next := by
  simp only [runVerify]
  split <;> simp
@[simp] theorem callEntry_still (off phase a0 s) : Still s (callEntry off phase a0 s) := by
  unfold callEntry
  split <;> simp
@[simp] theorem rcpAgain_still (s) : Still s (rcpAgain s) := by
  unfold rcpAgain
  split <;> simp
@[simp] theorem runStart_still (args s) : Still s (runStart args s).next := by simp [runStart, -List.reduceReplicate]
@[simp] theorem execRcpRegisterKey_still (via args s) : Still s (landing s (execRcpRegisterKey via args s)) := by
  simp [execRcpRegisterKey, runRegisterKey]
@[simp] theorem execRcpLoad_still (via args s) : Still s (landing s (execRcpLoad via args s)) := by
  simp [execRcpLoad, runLoad]
@[simp] theorem execRcpVerify_still (via args s) : Still s (landing s (execRcpVerify via args s)) := by simp [execRcpVerify]
@[simp] theorem execRcpStart_still (via args s) : Still s (landing s (execRcpStart via args s)) := by simp [execRcpStart]
@[simp] theorem execRcpStop_still (via args s) : Still s (landing s (execRcpStop via args s)) := by
  simp [execRcpStop, runRcpStop]
@[simp] theorem execRcpGetStatus_still (via args s) : Still s (landing s (execRcpGetStatus via args s)) := by
  simp [execRcpGetStatus, runRcpStatus]
@[simp] theorem recipeSees_still (s) : Still s (recipeSees s) := by simp [recipeSees]
@[simp] theorem rcpFault_still (code pc s) : Still s (rcpFault code pc s) := by
  unfold rcpFault
  split <;> simp
@[simp] theorem rcpFaultFree_still (code s) : Still s (rcpFaultFree code s) := by simp [rcpFaultFree, State.draw]
@[simp] theorem execTickOverrun_still (s) : Still s (landing s (execTickOverrun s)) := by simp [execTickOverrun]
@[simp] theorem execInitTimeout_still (s) : Still s (landing s (execInitTimeout s)) := by simp [execInitTimeout]
@[simp] theorem takeOutputs_still (s) : Still s (takeOutputs s) := by
  simp only [takeOutputs, takeOut]
  (repeat' split) <;> simp
@[simp] theorem catchUp_still (c s) : Still s (catchUp c s) := by simp [catchUp]
@[simp] theorem opEffect_still (o s) : Still s (opEffect o s) := by cases o <;> simp [opEffect]
@[simp] theorem runOps_still : ∀ os s, Still s (runOps os s)
  | [], s => by simp [runOps]
  | o :: os, s => by
    have ih := runOps_still os (opEffect o s)
    unfold runOps
    split <;> simp_all
@[simp] theorem yielded_still (s) : Still s (yielded s) := by
  unfold yielded
  split <;> simp
@[simp] theorem execYield_still (out rest s) : Still s (landing s (execYield out rest s)) := by
  unfold execYield
  dsimp only
  (repeat' split) <;> simp
@[simp] theorem execNote_still (a s) : Still s (landing s (execNote a s)) := by simp [execNote, returnA0]
@[simp] theorem execStop_still (s) : Still s (landing s (execStop s)) := by simp [execStop]
@[simp] theorem execRecipeFault_still (code pc s) : Still s (landing s (execRecipeFault code pc s)) := by
  simp [execRecipeFault]
@[simp] theorem runPerfSetCtl_still (args s) : Still s (runPerfSetCtl args s).next := by simp [runPerfSetCtl]
@[simp] theorem runPerfSelect_still (args s) : Still s (runPerfSelect args s).next := by simp [runPerfSelect]
@[simp] theorem runPerfRead_still (args s) : Still s (runPerfRead args s).next := by simp [runPerfRead]
@[simp] theorem execPerfSetCtl_still (via args s) : Still s (landing s (execPerfSetCtl via args s)) := by
  simp [execPerfSetCtl]
@[simp] theorem execPerfSelect_still (via args s) : Still s (landing s (execPerfSelect via args s)) := by
  simp [execPerfSelect]
@[simp] theorem execPerfRead_still (via args s) : Still s (landing s (execPerfRead via args s)) := by simp [execPerfRead]
@[simp] theorem execPerfDump_still (c counts spent tags s) : Still s (landing s (execPerfDump c counts spent tags s)) := by
  simp [execPerfDump]

/-! ### Source commands -/

@[simp] theorem checkNarrow_still (x s) : Still s (checkNarrow x s) := by simp [checkNarrow]
@[simp] theorem runSrcEnable_still (args s) : Still s (runSrcEnable args s).next := by simp [runSrcEnable]
@[simp] theorem runSrcDisable_still (args s) : Still s (runSrcDisable args s).next := by simp [runSrcDisable]
@[simp] theorem runSrcSetWindow_still (args s) : Still s (runSrcSetWindow args s).next := by simp [runSrcSetWindow]
@[simp] theorem runSrcSetLimit_still (args s) : Still s (runSrcSetLimit args s).next := by simp [runSrcSetLimit]
@[simp] theorem runSrcSetOv_still (args s) : Still s (runSrcSetOv args s).next := by simp [runSrcSetOv]
@[simp] theorem runSrcSetMode_still (args s) : Still s (runSrcSetMode args s).next := by simp [runSrcSetMode, swapRank]
@[simp] theorem runSrcCalInput_still (args s) : Still s (runSrcCalInput args s).next := by
  unfold runSrcCalInput
  dsimp only
  (repeat' split) <;> simp
@[simp] theorem execSrcEnable_still (via args s) : Still s (landing s (execSrcEnable via args s)) := by simp [execSrcEnable]
@[simp] theorem execSrcDisable_still (via args s) : Still s (landing s (execSrcDisable via args s)) := by
  simp [execSrcDisable]
@[simp] theorem execSrcSetWindow_still (via args s) : Still s (landing s (execSrcSetWindow via args s)) := by
  simp [execSrcSetWindow]
@[simp] theorem execSrcSetLimit_still (via args s) : Still s (landing s (execSrcSetLimit via args s)) := by
  simp [execSrcSetLimit]
@[simp] theorem execSrcSetOv_still (via args s) : Still s (landing s (execSrcSetOv via args s)) := by simp [execSrcSetOv]
@[simp] theorem execSrcSetMode_still (via args s) : Still s (landing s (execSrcSetMode via args s)) := by
  simp [execSrcSetMode]
@[simp] theorem execSrcClearLock_still (via args s) : Still s (landing s (execSrcClearLock via args s)) := by
  simp [execSrcClearLock, runSrcClearLock]
@[simp] theorem execSrcCalInput_still (via args s) : Still s (landing s (execSrcCalInput via args s)) := by
  simp [execSrcCalInput]

/-! ### Module commands -/

@[simp] theorem runGetInfo_still (args s) : Still s (runGetInfo args s).next := by simp [runGetInfo]
@[simp] theorem runStandby_still (args s) : Still s (runStandby args s).next := by simp [runStandby]
@[simp] theorem runEnterRecovery_still (args s) : Still s (runEnterRecovery args s).next := by simp [runEnterRecovery]
@[simp] theorem runReset_still (args s) : Still s (runReset args s).next := by simp [runReset]
@[simp] theorem runSetStr_still (args s) : Still s (runSetStr args s).next := by simp [runSetStr, State.draw]
@[simp] theorem runSetSync_still (args s) : Still s (runSetSync args s).next := by simp [runSetSync]
@[simp] theorem execSysGetInfo_still (via args s) : Still s (landing s (execSysGetInfo via args s)) := by
  simp [execSysGetInfo]
@[simp] theorem execSysStandby_still (via args s) : Still s (landing s (execSysStandby via args s)) := by
  simp [execSysStandby]
@[simp] theorem execSysEnterRecovery_still (via args s) : Still s (landing s (execSysEnterRecovery via args s)) := by
  simp [execSysEnterRecovery]
@[simp] theorem execSysReset_still (via args s) : Still s (landing s (execSysReset via args s)) := by simp [execSysReset]
@[simp] theorem execSysRestartControl_still (via args s) : Still s (landing s (execSysRestartControl via args s)) := by
  simp [execSysRestartControl, runRestartControl]
@[simp] theorem execSysEnterShip_still (via args s) : Still s (landing s (execSysEnterShip via args s)) := by
  simp [execSysEnterShip, runEnterShip]
@[simp] theorem execSysSetStr_still (via args s) : Still s (landing s (execSysSetStr via args s)) := by simp [execSysSetStr]
@[simp] theorem execSysSetSync_still (via args s) : Still s (landing s (execSysSetSync via args s)) := by
  simp [execSysSetSync]
@[simp] theorem execSysSetTime_still (via args s) : Still s (landing s (execSysSetTime via args s)) := by
  simp [execSysSetTime, runSetTime]
@[simp] theorem execSysSetVsel_still (via args s) : Still s (landing s (execSysSetVsel via args s)) := by
  simp [execSysSetVsel, runSetVsel]
@[simp] theorem execSysSaveConfig_still (via args s) : Still s (landing s (execSysSaveConfig via args s)) := by
  simp [execSysSaveConfig, runSaveConfig]

/-! ### Pours, profiles and VSEL -/

@[simp] theorem entryRun_still (op args s) : Still s (entryRun op args s).next := by
  unfold entryRun
  split <;> simp
@[simp] theorem runEntry_still (e s) : Still s (runEntry e s).2 := by
  unfold runEntry
  have h := entryRun_still e.op.toNat e.args s
  split
  · simp
  · split <;> simp_all
@[simp] theorem applyEntry_still (e s) : Still s (applyEntry e s).2 := by
  unfold applyEntry
  dsimp only
  (repeat' split) <;> simp
@[simp] theorem applyAll_still : ∀ es s, Still s (applyAll es s).2
  | [], s => by simp [applyAll]
  | e :: es, s => by simpa [applyAll] using applyAll_still es (applyEntry e s).2
@[simp] theorem runPourPrepare_still (via args s) : Still s (runPourPrepare via args s).next := by
  unfold runPourPrepare
  dsimp only
  (repeat' split) <;> simp
@[simp] theorem runProfileBegin_still (args s) : Still s (runProfileBegin args s).next := by simp [runProfileBegin]
@[simp] theorem runProfileAdd_still (args s) : Still s (runProfileAdd args s).next := by
  unfold runProfileAdd
  split <;> simp
@[simp] theorem storeProfile_still (k profile s) : Still s (storeProfile k profile s) := by simp [storeProfile]
@[simp] theorem runProfileStore_still (args s) : Still s (runProfileStore args s).next := by
  unfold runProfileStore
  split <;> simp
@[simp] theorem runProfileClear_still (args s) : Still s (runProfileClear args s).next := by simp [runProfileClear]
@[simp] theorem execPourOpen_still (via args s) : Still s (landing s (execPourOpen via args s)) := by
  simp [execPourOpen, runPourOpen]
@[simp] theorem execPourAdd_still (via args s) : Still s (landing s (execPourAdd via args s)) := by
  simp [execPourAdd, runPourAdd]
@[simp] theorem execPourPrepare_still (via args s) : Still s (landing s (execPourPrepare via args s)) := by
  simp [execPourPrepare]
@[simp] theorem execPourAbort_still (via args s) : Still s (landing s (execPourAbort via args s)) := by
  simp [execPourAbort, runPourAbort]
@[simp] theorem execSysSetProfileBegin_still (via args s) : Still s (landing s (execSysSetProfileBegin via args s)) := by
  simp [execSysSetProfileBegin]
@[simp] theorem execSysSetProfileAdd_still (via args s) : Still s (landing s (execSysSetProfileAdd via args s)) := by
  simp [execSysSetProfileAdd]
@[simp] theorem execSysSetProfileStore_still (via args s) : Still s (landing s (execSysSetProfileStore via args s)) := by
  simp [execSysSetProfileStore]
@[simp] theorem execSysSetProfileClear_still (via args s) : Still s (landing s (execSysSetProfileClear via args s)) := by
  simp [execSysSetProfileClear]
@[simp] theorem execPourPrepared_still (s) : Still s (landing s (execPourPrepared s)) := by simp [execPourPrepared]
@[simp] theorem ctlRelease_still (id s) : Still s (ctlRelease id s) := by simp [ctlRelease]
@[simp] theorem ctlAbort_still (id s) : Still s (ctlAbort id s) := by simp [ctlAbort]
@[simp] theorem execPourCtlRelease_still (id s) : Still s (landing s (execPourCtlRelease id s)) := by
  simp [execPourCtlRelease]
@[simp] theorem execPourCtlAbort_still (id s) : Still s (landing s (execPourCtlAbort id s)) := by simp [execPourCtlAbort]
@[simp] theorem execTickFall_still (s) : Still s (landing s (execTickFall s)) := by simp [execTickFall]
@[simp] theorem profileFailed_still (s) : Still s (profileFailed s) := by simp [profileFailed]
@[simp] theorem execPourTimeout_still (s) : Still s (landing s (execPourTimeout s)) := by simp [execPourTimeout]
@[simp] theorem execVetoEnd_still (s) : Still s (landing s (execVetoEnd s)) := by simp [execVetoEnd]
@[simp] theorem execHoldPullEnd_still (s) : Still s (landing s (execHoldPullEnd s)) := by simp [execHoldPullEnd]
@[simp] theorem execVselCount_still (c s) : Still s (landing s (execVselCount c s)) := by simp [execVselCount]
@[simp] theorem stageProfile_still (k s) : Still s (stageProfile k s) := by
  unfold stageProfile
  dsimp only
  (repeat' split) <;> simp
@[simp] theorem execProfileApply_still (s) : Still s (landing s (execProfileApply s)) := by
  unfold execProfileApply
  split <;> simp
@[simp] theorem execProfileRetry_still (s) : Still s (landing s (execProfileRetry s)) := by
  unfold execProfileRetry
  split <;> simp

/-! ### Black box -/

@[simp] theorem mirrorAon_sys_wdg (s) : (mirrorAon s).sys = s.sys ∧ (mirrorAon s).wdg = s.wdg := ⟨rfl, rfl⟩
@[simp] theorem store_sys_wdg (i s) : (store i s).sys = s.sys ∧ (store i s).wdg = s.wdg := by
  unfold store
  cases i <;> dsimp only <;> split <;> simp
@[simp] theorem startPane_still (pane s) : Still s (startPane pane s) := by simp [startPane]
@[simp] theorem queueSnap_still (r s) : Still s (queueSnap r s) := by simp [queueSnap]
@[simp] theorem writePending_sys_wdg (s) : (writePending s).sys = s.sys ∧ (writePending s).wdg = s.wdg := by
  unfold writePending
  refine ⟨foldl_keeps State.sys _ (fun _ _ => ?_) _ _, foldl_keeps State.wdg _ (fun _ _ => ?_) _ _⟩
  · rfl
  · rfl
@[simp] theorem execPaneLoaded_still (s) : Still s (landing s (execPaneLoaded s)) := by
  unfold execPaneLoaded
  (repeat' split) <;> simp
@[simp] theorem execBbxWinPaneWrite_still (pane s) : Still s (landing s (execBbxWinPaneWrite pane s)) := by
  simp [execBbxWinPaneWrite]
@[simp] theorem endForget_still (seq kept s) : Still s (endForget seq kept s) := by
  unfold endForget
  split <;> simp
@[simp] theorem writeFront_still (badA badB i rs s) : Still s (writeFront badA badB i rs s) := by
  simp [writeFront, copyFailed]
@[simp] theorem execBbxRecordWrite_still (badA badB s) : Still s (landing s (execBbxRecordWrite badA badB s)) := by
  unfold execBbxRecordWrite
  dsimp only
  (repeat' split) <;> simp
@[simp] theorem storeAll_sys_wdg (i s) : (storeAll i s).sys = s.sys ∧ (storeAll i s).wdg = s.wdg := by
  unfold storeAll
  split <;> simp
@[simp] theorem storeCarried_sys_wdg (h) : ∀ k s,
    (storeCarried h k s).sys = s.sys ∧ (storeCarried h k s).wdg = s.wdg
  | 0, _ => ⟨rfl, rfl⟩
  | k + 1, s => by
    unfold storeCarried
    split
    · exact ⟨rfl, rfl⟩
    · simp [storeCarried_sys_wdg h k]
@[simp] theorem drain_sys_wdg (s) : (drain s).sys = s.sys ∧ (drain s).wdg = s.wdg := by
  have carried (h : HistRec) (s : State) :
      (if s.bbx.okA || s.bbx.okB then storeCarried h 64 s else s).sys = s.sys ∧
        (if s.bbx.okA || s.bbx.okB then storeCarried h 64 s else s).wdg = s.wdg := by
    split <;> simp
  unfold drain
  refine ⟨foldl_keeps State.sys _ (fun s i => ?_) _ _, foldl_keeps State.wdg _ (fun s i => ?_) _ _⟩
  · cases i <;> simp only [storeAll_sys_wdg, carried]
  · cases i <;> simp only [storeAll_sys_wdg, carried]
@[simp] theorem execWithholdWindowClose_still (key s) : Still s (landing s (execWithholdWindowClose key s)) := by
  unfold execWithholdWindowClose
  split <;> simp
@[simp] theorem execBbxScrub_still (s) : Still s (landing s (execBbxScrub s)) := by simp [execBbxScrub]

/-! ### Restarts, ladder and black-box commands -/

@[simp] theorem promote_still (c s) : Still s (promote c s) := by
  unfold promote
  (repeat' split) <;> simp
@[simp] theorem post_still (x a s) : Still s (post x a s) := by simp [post]
@[simp] theorem postLost_still (x s) : Still s (postLost x s) := by simp [postLost]
@[simp] theorem monLost_still (s) : Still s (monLost s) := by simp [monLost]
@[simp] theorem forgetVias_still (s) : Still s (forgetVias s) := by simp [forgetVias]
@[simp] theorem forgetForgets_still (c s) : Still s (forgetForgets c s) := by simp [forgetForgets]
@[simp] theorem dropTrial_still (s) : Still s (dropTrial s) := by simp [dropTrial]
@[simp] theorem revert_still (s) : Still s (revert s) := by simp [revert]
@[simp] theorem runEvidence_still (args s) : Still s (runEvidence args s).next := by
  unfold runEvidence
  split <;> simp
@[simp] theorem runRead_still (args s) : Still s (runRead args s).next := by
  unfold runRead
  split <;> simp
@[simp] theorem execWdgGetEvidence_still (via args s) : Still s (landing s (execWdgGetEvidence via args s)) := by
  simp [execWdgGetEvidence]
@[simp] theorem execBbxGetInfo_still (via args s) : Still s (landing s (execBbxGetInfo via args s)) := by
  simp [execBbxGetInfo, runBbxInfo]
@[simp] theorem execBbxSeek_still (via args s) : Still s (landing s (execBbxSeek via args s)) := by
  simp [execBbxSeek, runSeek]
@[simp] theorem execBbxRead_still (via args s) : Still s (landing s (execBbxRead via args s)) := by simp [execBbxRead]

/-! ### Mailboxes -/

@[simp] theorem ring_still (x op s) : Still s (ring x op s) := by simp [ring]
@[simp] theorem execDoorbell_still (x op args s) : Still s (landing s (execDoorbell x op args s)) := by simp [execDoorbell]
@[simp] theorem release_still (x s) : Still s (release x s) := by simp [release]
@[simp] theorem execMbxRelease_still (x s) : Still s (landing s (execMbxRelease x s)) := by simp [execMbxRelease]
@[simp] theorem readEarly_still (x s) : Still s (readEarly x s) := by simp [readEarly]
@[simp] theorem execEarlyRead_still (x u s) : Still s (landing s (execEarlyRead x u s)) := by simp [execEarlyRead]
@[simp] theorem take_still (x s) : Still s (take x s) := by
  unfold take
  dsimp only
  (repeat' split) <;> simp
@[simp] theorem execCommandTake_still (x s) : Still s (landing s (execCommandTake x s)) := by simp [execCommandTake]
@[simp] theorem execResultPost_still (x s) : Still s (landing s (execResultPost x s)) := by
  unfold execResultPost
  split <;> simp
@[simp] theorem execInternalMailboxMessage_still (c m s) : Still s (landing s (execInternalMailboxMessage c m s)) := by
  unfold execInternalMailboxMessage
  dsimp only
  (repeat' split) <;> simp

/-! ### Backplane -/

@[simp] theorem execAddrProbe_still (acked s) : Still s (landing s (execAddrProbe acked s)) := by simp [execAddrProbe]
@[simp] theorem queueCtl_still (q s) : Still s (queueCtl q s) := by simp [queueCtl]
@[simp] theorem execBeatSend_still (s) : Still s (landing s (execBeatSend s)) := by simp [execBeatSend]
@[simp] theorem beatSeen_still (addr seq s) : Still s (beatSeen addr seq s) := by simp [beatSeen]
@[simp] theorem execBeat_still (addr seq s) : Still s (landing s (execBeat addr seq s)) := by simp [execBeat]
@[simp] theorem execBeatTimeout_still (lowerAcked s) : Still s (landing s (execBeatTimeout lowerAcked s)) := by
  simp [execBeatTimeout]
@[simp] theorem execCapDivision_still (peers s) : Still s (landing s (execCapDivision peers s)) := by
  simp [execCapDivision, sendCap]
@[simp] theorem execFallback_still (s) : Still s (landing s (execFallback s)) := by simp [execFallback]

/-! ### Links and the tie -/

@[simp] theorem dropMessages_still (x outcome s) : Still s (dropMessages x outcome s) := by
  simp only [Still, dropMessages, answerOpt_keeps, foldl_wdg, foldl_st, implies_true, and_self]
@[simp] theorem detachTo_still (x st s) : Still s (detachTo x st s) := by simp [detachTo]
@[simp] theorem sourceOff_still (x s) : Still s (sourceOff x s) := by simp [sourceOff]
@[simp] theorem offerRequest_still (x s) : Still s (offerRequest x s) := by simp [offerRequest]
@[simp] theorem sendSwap_still (x s) : Still s (sendSwap x s) := by simp [sendSwap]
@[simp] theorem swapEnds_still (x res s) : Still s (swapEnds x res s) := by simp [swapEnds]
@[simp] theorem enterSwap_still (x s) : Still s (enterSwap x s) := by simp [enterSwap]
@[simp] theorem linkActs_still (x r s) : Still s (linkActs x r s) := by simp [linkActs]
@[simp] theorem applyContract_still (x lo hi lim dead s) : Still s (applyContract x lo hi lim dead s) := by
  simp [applyContract]
@[simp] theorem runRecv_still (args s) : Still s (runRecv args s).next := by
  unfold runRecv
  dsimp only
  (repeat' split) <;> simp
@[simp] theorem runLnkStatus_still (args s) : Still s (runLnkStatus args s).next := by simp [runLnkStatus]
@[simp] theorem execLnkSetPresent_still (via args s) : Still s (landing s (execLnkSetPresent via args s)) := by
  simp [execLnkSetPresent, runSetPresent]
@[simp] theorem execLnkSend_still (via args s) : Still s (landing s (execLnkSend via args s)) := by
  simp [execLnkSend, runSend]
@[simp] theorem execLnkRecv_still (via args s) : Still s (landing s (execLnkRecv via args s)) := by simp [execLnkRecv]
@[simp] theorem execLnkSetContractApply_still (via args s) : Still s (landing s (execLnkSetContractApply via args s)) := by
  simp [execLnkSetContractApply, runApply]
@[simp] theorem execLnkSetContractVoid_still (via args s) : Still s (landing s (execLnkSetContractVoid via args s)) := by
  simp [execLnkSetContractVoid, runVoid]
@[simp] theorem execLnkSetTieClose_still (via args s) : Still s (landing s (execLnkSetTieClose via args s)) := by
  simp [execLnkSetTieClose, runTieClose]
@[simp] theorem execLnkSetTieOpen_still (via args s) : Still s (landing s (execLnkSetTieOpen via args s)) := by
  simp [execLnkSetTieOpen, runTieOpen]
@[simp] theorem execLnkSwapRole_still (via args s) : Still s (landing s (execLnkSwapRole via args s)) := by
  simp [execLnkSwapRole, runSwapRole]
@[simp] theorem execLnkGetStatus_still (via args s) : Still s (landing s (execLnkGetStatus via args s)) := by
  simp [execLnkGetStatus]
@[simp] theorem execPilotInBand_still (x v s) : Still s (landing s (execPilotInBand x v s)) := by simp [execPilotInBand]
@[simp] theorem execDebounceOut_still (x v s) : Still s (landing s (execDebounceOut x v s)) := by simp [execDebounceOut]
@[simp] theorem execAttach_still (x s) : Still s (landing s (execAttach x s)) := by simp [execAttach]
@[simp] theorem execDualRolePhase_still (x s) : Still s (landing s (execDualRolePhase x s)) := by simp [execDualRolePhase]
@[simp] theorem execPilotLoss_still (x v s) : Still s (landing s (execPilotLoss x v s)) := by
  simp only [execPilotLoss, landing_pilotEvent]
  (repeat' split) <;> simp
@[simp] theorem execBlankEnd_still (x s) : Still s (landing s (execBlankEnd x s)) := by simp [execBlankEnd]
@[simp] theorem endMessage_still (x outcome s) : Still s (endMessage x outcome s) := by
  unfold endMessage
  split <;> simp
@[simp] theorem collisionOver_still (x s) : Still s (collisionOver x s) := by simp [collisionOver]
@[simp] theorem execMessageTransmit_still (x collided s) : Still s (landing s (execMessageTransmit x collided s)) := by
  simp only [execMessageTransmit, transmitAck, transmitMsg, sentFrame, landing_linkEvent]
  (repeat' split) <;> simp
@[simp] theorem execCollisionBackoffEnd_still (x s) : Still s (landing s (execCollisionBackoffEnd x s)) := by
  simp [execCollisionBackoffEnd]
@[simp] theorem execAcknowledgementWaitEnd_still (x s) : Still s (landing s (execAcknowledgementWaitEnd x s)) := by
  simp [execAcknowledgementWaitEnd]
@[simp] theorem softReset_still (x s) : Still s (softReset x s) := by simp [softReset]
@[simp] theorem execAcknowledgement_still (x ctr s) : Still s (landing s (execAcknowledgement x ctr s)) := by
  simp only [execAcknowledgement, landing_linkEvent]
  (repeat' split) <;> simp
@[simp] theorem execMessageReceived_still (x f codesOk s) : Still s (landing s (execMessageReceived x f codesOk s)) := by
  simp [execMessageReceived]
@[simp] theorem execAccept_still (x s) : Still s (landing s (execAccept x s)) := by
  simp only [execAccept, landing_received]
  (repeat' split) <;> simp
@[simp] theorem responderAgain_still (x s) : Still s (responderAgain x s) := by simp [responderAgain]
@[simp] theorem execReject_still (x s) : Still s (landing s (execReject x s)) := by simp [execReject]
@[simp] theorem execWait_still (x s) : Still s (landing s (execWait x s)) := by simp [execWait]
@[simp] theorem execReady_still (x s) : Still s (landing s (execReady x s)) := by simp [execReady]
@[simp] theorem execKeepAliveRequest_still (x s) : Still s (landing s (execKeepAliveRequest x s)) := by
  simp [execKeepAliveRequest]
@[simp] theorem execKeepAliveResponse_still (x s) : Still s (landing s (execKeepAliveResponse x s)) := by
  simp [execKeepAliveResponse]
@[simp] theorem execRoleSwapRequest_still (x s) : Still s (landing s (execRoleSwapRequest x s)) := by
  simp [execRoleSwapRequest, dropSwapRequest]
@[simp] theorem execVoid_still (x s) : Still s (landing s (execVoid x s)) := by simp [execVoid]
@[simp] theorem execSoftReset_still (x s) : Still s (landing s (execSoftReset x s)) := by simp [execSoftReset]
@[simp] theorem execOffer_still (x objs s) : Still s (landing s (execOffer x objs s)) := by
  simp only [execOffer, landing_received]
  (repeat' split) <;> simp
@[simp] theorem execVendorDefined_still (x object0 s) : Still s (landing s (execVendorDefined x object0 s)) := by
  simp [execVendorDefined]
@[simp] theorem execKeepAlive_still (x s) : Still s (landing s (execKeepAlive x s)) := by simp [execKeepAlive]
@[simp] theorem keepAliveOut_still (x s) : Still s (keepAliveOut x s) := by simp [keepAliveOut]
@[simp] theorem execKeepAliveTimeout_still (x s) : Still s (landing s (execKeepAliveTimeout x s)) := by
  simp [execKeepAliveTimeout]
@[simp] theorem execWindowConfirm_still (x v s) : Still s (landing s (execWindowConfirm x v s)) := by
  simp only [execWindowConfirm, landing_portEvent]
  (repeat' split) <;> simp
@[simp] theorem execTransitionTimeout_still (x s) : Still s (landing s (execTransitionTimeout x s)) := by
  simp [execTransitionTimeout]
@[simp] theorem execReadyTimeout_still (x s) : Still s (landing s (execReadyTimeout x s)) := by simp [execReadyTimeout]
@[simp] theorem execNegotiationTimeout_still (x s) : Still s (landing s (execNegotiationTimeout x s)) := by
  simp [execNegotiationTimeout]
@[simp] theorem execTieTrip_still (i s) : Still s (landing s (execTieTrip i s)) := by simp [execTieTrip]
@[simp] theorem execResponderRepeat_still (x s) : Still s (landing s (execResponderRepeat x s)) := by
  simp [execResponderRepeat]
@[simp] theorem execSwapAnswerTimeout_still (x s) : Still s (landing s (execSwapAnswerTimeout x s)) := by
  simp [execSwapAnswerTimeout]
@[simp] theorem execSwapRetry_still (x s) : Still s (landing s (execSwapRetry x s)) := by simp [execSwapRetry]
@[simp] theorem execSwapPresentation_still (x s) : Still s (landing s (execSwapPresentation x s)) := by
  simp [execSwapPresentation]
@[simp] theorem execSwapPilotLow_still (x v s) : Still s (landing s (execSwapPilotLow x v s)) := by simp [execSwapPilotLow]
@[simp] theorem execSwapAttach_still (x v s) : Still s (landing s (execSwapAttach x v s)) := by simp [execSwapAttach]
@[simp] theorem execSwapWindowEnd_still (x s) : Still s (landing s (execSwapWindowEnd x s)) := by simp [execSwapWindowEnd]

/-! ### Register reads -/

@[simp] theorem refreshShown_still (s) : Still s (refreshShown s) := by simp [refreshShown]
@[simp] theorem setLatches_still (b l s) : Still s (setLatches b l s) := by cases b <;> simp [setLatches]
@[simp] theorem regRead_still (b a s) : Still s (regRead b a s).2 := by
  unfold regRead
  (repeat' split) <;> simp
@[simp] theorem readRun_still (b fix) : ∀ k a s, Still s (readRun b fix k a s).2
  | 0, _, s => by simp [readRun]
  | k + 1, a, s => by simpa [readRun] using readRun_still b fix k (nextAddr fix a) (regRead b a s).2
@[simp] theorem readAccess_still (b fix k a s) : Still s (readAccess b fix k a s).2 := by
  unfold readAccess
  split <;> simp
@[simp] theorem execSnapshotRead_still (b a s) : Still s (landing s (execSnapshotRead b a s)) := by simp [execSnapshotRead]

/-! ### Firmware -/

@[simp] theorem setStage_still (st s) : Still s (setStage st s) := by simp [setStage]
@[simp] theorem runFwInfo_still (args s) : Still s (runFwInfo args s).next := by simp [runFwInfo]
@[simp] theorem runStageBegin_still (args s) : Still s (runStageBegin args s).next := by simp [runStageBegin]
@[simp] theorem execFwEraseComplete_still (s) : Still s (landing s (execFwEraseComplete s)) := by simp [execFwEraseComplete]
@[simp] theorem runStageWrite_still (args s) : Still s (runStageWrite args s).next := by simp [runStageWrite]
@[simp] theorem runStageVerify_still (args s) : Still s (runStageVerify args s).next := by simp [runStageVerify]
@[simp] theorem execFwVerifyComplete_still (s) : Still s (landing s (execFwVerifyComplete s)) := by
  simp [execFwVerifyComplete]
@[simp] theorem runActivate_still (args s) : Still s (runActivate args s).next := by simp [runActivate]
@[simp] theorem activate_still (s) : Still s (activate s) := by simp [activate]
@[simp] theorem execTrialEnd_still (s) : Still s (landing s (execTrialEnd s)) := by simp [execTrialEnd]
@[simp] theorem execFwGetInfo_still (via args s) : Still s (landing s (execFwGetInfo via args s)) := by simp [execFwGetInfo]
@[simp] theorem execFwStageBegin_still (via args s) : Still s (landing s (execFwStageBegin via args s)) := by
  simp [execFwStageBegin]
@[simp] theorem execFwStageWrite_still (via args s) : Still s (landing s (execFwStageWrite via args s)) := by
  simp [execFwStageWrite]
@[simp] theorem execFwStageVerify_still (via args s) : Still s (landing s (execFwStageVerify via args s)) := by
  simp [execFwStageVerify]
@[simp] theorem execFwActivate_still (via args s) : Still s (landing s (execFwActivate via args s)) := by
  simp [execFwActivate]

/-! ### Service console -/

@[simp] theorem monShow_still (form args s) : Still s (monShow form args s) := by simp [monShow]
@[simp] theorem monOk_still (args s) : Still s (monOk args s) := by simp [monOk]
@[simp] theorem monErr_still (reason s) : Still s (monErr reason s) := by simp [monErr]
@[simp] theorem echoLine_still (line s) : Still s (echoLine line s) := by simp [echoLine]
@[simp] theorem toView_still (s) : Still s (toView s) := by simp [toView]
@[simp] theorem listed_still (stop s) : Still s (listed stop s) := by simp [listed]
@[simp] theorem execRd_still (addr count s) : Still s (landing s (execRd addr count s)) := by
  simp only [execRd, landing_monLine, landing_monRun]
  (repeat' split) <;> simp
@[simp] theorem execBb_still (s) : Still s (landing s (execBb s)) := by simp [execBb]
@[simp] theorem execBbRecord_still (seq count s) : Still s (landing s (execBbRecord seq count s)) := by
  simp only [execBbRecord, landing_monLine, landing_monRun]
  (repeat' split) <;> simp
@[simp] theorem execBbNew_still (keyPressed s) : Still s (landing s (execBbNew keyPressed s)) := by simp [execBbNew]
@[simp] theorem execSt_still (s) : Still s (landing s (execSt s)) := by simp [execSt, State.draw]
@[simp] theorem authFail_still (s) : Still s (authFail s) := by simp [authFail]
@[simp] theorem execAuth_still (ans s) : Still s (landing s (execAuth ans s)) := by
  simp only [execAuth, landing_monRun]
  (repeat' split) <;> simp [State.draw]
@[simp] theorem execAuthBlockEnd_still (s) : Still s (landing s (execAuthBlockEnd s)) := by simp [execAuthBlockEnd]
@[simp] theorem execBye_still (s) : Still s (landing s (execBye s)) := by simp [execBye]
@[simp] theorem execServiceInactivity_still (s) : Still s (landing s (execServiceInactivity s)) := by
  simp [execServiceInactivity]
@[simp] theorem execLineBreak_still (s) : Still s (landing s (execLineBreak s)) := by simp [execLineBreak]
@[simp] theorem execPr_still (c count s) : Still s (landing s (execPr c count s)) := by
  simp only [execPr, landing_svcRun, landing_monLine, landing_monRun]
  (repeat' split) <;> simp
@[simp] theorem execTestLatchOn_still (s) : Still s (landing s (execTestLatchOn s)) := by simp [execTestLatchOn]
@[simp] theorem execTestLatchOff_still (s) : Still s (landing s (execTestLatchOff s)) := by simp [execTestLatchOff]

/-! ### Metering -/

@[simp] theorem meter_still (s) : Still s (meter s) := by simp [meter]
@[simp] theorem execLeaseSnapshot_still (s) : Still s (landing s (execLeaseSnapshot s)) := by simp [execLeaseSnapshot]
@[simp] theorem restore_still (s) : Still s (restore s) := by
  simp only [restore, restoreFrom, restoreGap]
  (repeat' split) <;> simp
@[simp] theorem queueFlush_sys_wdg (s) : (queueFlush s).sys = s.sys ∧ (queueFlush s).wdg = s.wdg := by
  simp [queueFlush, queueCounters]
@[simp] theorem flushThree_sys_wdg (s) : (flushThree s).sys = s.sys ∧ (flushThree s).wdg = s.wdg := by simp [flushThree]
@[simp] theorem queueLoss_still (s) : Still s (queueLoss s) := by simp [queueLoss]
@[simp] theorem alarmExpire_still (x s) : Still s (alarmExpire x s) := by simp [alarmExpire]
@[simp] theorem execAlarmExpiry_still (x s) : Still s (landing s (execAlarmExpiry x s)) := by simp [execAlarmExpiry]

/-! ### Power and keys -/

@[simp] theorem bootRecord_still (s) : Still s (bootRecord s) := by simp [bootRecord]
@[simp] theorem setPath_still (path ok s) : Still s (setPath path ok s) := by
  unfold setPath
  split <;> simp
@[simp] theorem movePath_still (s) : Still s (movePath s) := by simp [movePath]
@[simp] theorem execHkPathLost_still (path s) : Still s (landing s (execHkPathLost path s)) := by simp [execHkPathLost]
@[simp] theorem stopAll_still (s) : Still s (stopAll s) := by simp [stopAll]
@[simp] theorem execHousekeepingLoss_still (s) : Still s (landing s (execHousekeepingLoss s)) := by
  simp [execHousekeepingLoss, stateRecord]
@[simp] theorem bootBank_still (b s) : Still s (bootBank b s) := by simp [bootBank]
@[simp] theorem execRecoveryKeyWaitEnd_still (s) : Still s (landing s (execRecoveryKeyWaitEnd s)) := by
  simp [execRecoveryKeyWaitEnd]
@[simp] theorem execShipKeyWake_still (s) : Still s (landing s (execShipKeyWake s)) := by simp [execShipKeyWake]
@[simp] theorem execShipKeyWakeTimeout_still (s) : Still s (landing s (execShipKeyWakeTimeout s)) := by
  simp [execShipKeyWakeTimeout]
@[simp] theorem execKeyShortPress_still (s) : Still s (landing s (execKeyShortPress s)) := by
  unfold execKeyShortPress
  dsimp only
  (repeat' split) <;> simp
@[simp] theorem execLongPress_still (s) : Still s (landing s (execLongPress s)) := by simp [execLongPress]
@[simp] theorem execEstopRelease_still (s) : Still s (landing s (execEstopRelease s)) := by simp [execEstopRelease]

/-! ### HOLD -/

@[simp] theorem dropChange_still (s) : Still s (dropChange s) := by simp [dropChange]
@[simp] theorem execHoldLimit_still (s) : Still s (landing s (execHoldLimit s)) := by simp [execHoldLimit]
@[simp] theorem holdRampEnd_still (s) : Still s (holdRampEnd s) := by simp [holdRampEnd]
@[simp] theorem execHoldRampComplete_still (s) : Still s (landing s (execHoldRampComplete s)) := by
  simp [execHoldRampComplete]
@[simp] theorem queueDeferred_still (s) : Still s (queueDeferred s) := by simp [queueDeferred]
@[simp] theorem reviewTap_still (n s) : Still s (reviewTap n s) := by simp [reviewTap]

/-! ### Sensing and the string -/

@[simp] theorem loops_still (s) : Still s (loops s) := by simp [loops]

/-! ### Hub and source ports -/

@[simp] theorem hubAt_still (v f s) : Still s (hubAt v f s) := by simp [hubAt]

/-! ### Sensing and the string -/

@[simp] theorem retrack_still (s) : Still s (retrack s) := by simp [retrack]
@[simp] theorem bandTargets_still (n s) : Still s (bandTargets n s) := by simp [bandTargets]
@[simp] theorem lostNtc_still (n s) : Still s (lostNtc n s) := by simp [lostNtc]
@[simp] theorem turnBack_still (n s) : Still s (turnBack n s) := by simp [turnBack]
@[simp] theorem reverseSeen_still (was n s) : Still s (reverseSeen was n s) := by simp [reverseSeen]
@[simp] theorem absorb_still (m s) : Still s (absorb m s) := by simp [absorb]

/-! ### Arbiter -/

@[simp] theorem resetSeen_still (s) : Still s (resetSeen s) := by simp [resetSeen]
@[simp] theorem cutNotice_still (n contract cause fin mwh time valid args s) :
    Still s (cutNotice n contract cause fin mwh time valid args s) := by
  simp [cutNotice]
@[simp] theorem setEpisode_still (n contract e s) : Still s (setEpisode n contract e s) := by simp [setEpisode]
@[simp] theorem issueCut_still (n contract e s) : Still s (issueCut n contract e s) := by simp [issueCut]
@[simp] theorem meterCut_still (n contract s) : Still s (meterCut n contract s) := by simp [meterCut]
@[simp] theorem meterCuts_still (s) : Still s (meterCuts s) := by simp [meterCuts]
@[simp] theorem endCut_still (n contract s) : Still s (endCut n contract s) := by simp [endCut]
@[simp] theorem endCuts_still (s) : Still s (endCuts s) := by simp [endCuts]
@[simp] theorem computePeriod_still (s) : Still s (computePeriod s) := by simp [computePeriod, takeSettings]
@[simp] theorem execArbPeriod_still (m s) : Still s (landing s (execArbPeriod m s)) := by simp [execArbPeriod]
@[simp] theorem execCutEpisodeEnd_still (n contract s) : Still s (landing s (execCutEpisodeEnd n contract s)) := by
  simp [execCutEpisodeEnd]
@[simp] theorem execDoseApply_still (s) : Still s (landing s (execDoseApply s)) := by simp [execDoseApply, applyDoses]

/-! ### Register writes -/

@[simp] theorem clearShFault_still (s) : Still s (clearShFault s) := by simp [clearShFault]
@[simp] theorem clearHubOv3_still (s) : Still s (clearHubOv3 s) := by simp [clearHubOv3]
@[simp] theorem writeShare_still (n w s) : Still s (writeShare n w s) := by simp [writeShare]
@[simp] theorem clearHubShown_still (off w mask s) : Still s (clearHubShown off w mask s) := by simp [clearHubShown]
@[simp] theorem clearAonShown_still (off w mask s) : Still s (clearAonShown off w mask s) := by simp [clearAonShown]
@[simp] theorem writeSys_still (a w s) : Still s (writeSys a w s) := by
  simp only [writeSys, writeBusCfg, writeBpCfg]
  split <;> simp
@[simp] theorem writeMbx_still (x off w s) : Still s (writeMbx x off w s) := by simp [writeMbx]
@[simp] theorem writeMid_still (a w s) : Still s (writeMid a w s) := by
  simp only [writeMid, clearFltShown]
  split <;> simp
@[simp] theorem writeMtr_still (a w s) : Still s (writeMtr a w s) := by
  simp only [writeMtr]
  (repeat' split) <;> simp
@[simp] theorem writeTap_still (n off w s) : Still s (writeTap n off w s) := by
  simp only [writeTap, clearTapShown]
  split <;> simp
@[simp] theorem ackBySeq_still (s) : Still s (ackBySeq s) := by simp [ackBySeq]
@[simp] theorem ackByClass_still (mask s) : Still s (ackByClass mask s) := by simp [ackByClass]
@[simp] theorem accessEnd_still (bell ws s) : Still s (accessEnd bell ws s) := by
  unfold accessEnd
  (repeat' split) <;> simp
@[simp] theorem execAlarmArm_still (x s) : Still s (landing s (execAlarmArm x s)) := by simp [execAlarmArm]
@[simp] theorem execAlarmDisarm_still (x s) : Still s (landing s (execAlarmDisarm x s)) := by simp [execAlarmDisarm]
@[simp] theorem execShFaultClear_still (s) : Still s (landing s (execShFaultClear s)) := by simp [execShFaultClear]
@[simp] theorem execHubOv3Clear_still (s) : Still s (landing s (execHubOv3Clear s)) := by simp [execHubOv3Clear]
@[simp] theorem execSysShareWrite_still (n w s) : Still s (landing s (execSysShareWrite n w s)) := by
  simp [execSysShareWrite]

/-! ### Serial buses -/

@[simp] theorem spiResult_still (code st s) : Still s (spiResult code st s) := by simp [spiResult]
@[simp] theorem execSpiReadFrame_still (h count s) : Still s (landing s (execSpiReadFrame h count s)) := by
  unfold execSpiReadFrame
  dsimp only
  (repeat' split) <;> simp
@[simp] theorem twResult_still (code s) : Still s (twResult code s) := by simp [twResult]
@[simp] theorem leavePointer_still (fix a len s) : Still s (leavePointer fix a len s) := by simp [leavePointer]
@[simp] theorem execReadTransfer_still (pointer count s) : Still s (landing s (execReadTransfer pointer count s)) := by
  unfold execReadTransfer
  dsimp only
  (repeat' split) <;> simp
@[simp] theorem execBusError_still (s) : Still s (landing s (execBusError s)) := by simp [execBusError]
@[simp] theorem execSmbusTimeout_still (s) : Still s (landing s (execSmbusTimeout s)) := by simp [execSmbusTimeout]
@[simp] theorem execAlertResponseRead_still (others won s) : Still s (landing s (execAlertResponseRead others won s)) := by
  simp [execAlertResponseRead]
@[simp] theorem execAlertRepull_still (s) : Still s (landing s (execAlertRepull s)) := by simp [execAlertRepull]
@[simp] theorem execBusRecovery_still (freed s) : Still s (landing s (execBusRecovery freed s)) := by simp [execBusRecovery]
@[simp] theorem execControllerTransfer_still (answer s) : Still s (landing s (execControllerTransfer answer s)) := by
  unfold execControllerTransfer
  (repeat' split) <;> simp

/-! ### Hub and source ports -/

@[simp] theorem enterQualify_still (x s) : Still s (enterQualify x s) := by simp [enterQualify]
@[simp] theorem execPortInWindow_still (x v s) : Still s (landing s (execPortInWindow x v s)) := by simp [execPortInWindow]
@[simp] theorem leaveQualify_still (x s) : Still s (leaveQualify x s) := by
  unfold leaveQualify
  (repeat' split) <;> simp
@[simp] theorem execPortOutOfWindow_still (x v s) : Still s (landing s (execPortOutOfWindow x v s)) := by
  simp [execPortOutOfWindow]
@[simp] theorem execQualifyEnd_still (x s) : Still s (landing s (execQualifyEnd x s)) := by simp [execQualifyEnd]
@[simp] theorem execPrechargeComplete_still (x vStage s) : Still s (landing s (execPrechargeComplete x vStage s)) := by
  simp [execPrechargeComplete]
@[simp] theorem tripPort_still (x cause s) : Still s (tripPort x cause s) := by simp [tripPort]
@[simp] theorem execPrechargeTrip_still (x s) : Still s (landing s (execPrechargeTrip x s)) := by simp [execPrechargeTrip]
@[simp] theorem execSourceOv_still (x v s) : Still s (landing s (execSourceOv x v s)) := by simp [execSourceOv]
@[simp] theorem currentEvent_still (x i cause hit s) : Still s (landing s (currentEvent x i cause hit s)) := by
  simp [currentEvent]
@[simp] theorem execSourceOc_still (x i s) : Still s (landing s (execSourceOc x i s)) := by simp [execSourceOc]
@[simp] theorem execReverseCurrent_still (x i s) : Still s (landing s (execReverseCurrent x i s)) := by
  simp [execReverseCurrent]
@[simp] theorem execSoftstartEnd_still (x s) : Still s (landing s (execSoftstartEnd x s)) := by simp [execSoftstartEnd]
@[simp] theorem execPortLoss_still (x v s) : Still s (landing s (execPortLoss x v s)) := by simp [execPortLoss]
@[simp] theorem execBackoffEnd_still (x s) : Still s (landing s (execBackoffEnd x s)) := by simp [execBackoffEnd]
@[simp] theorem execHubDroop_still (v s) : Still s (landing s (execHubDroop v s)) := by simp [execHubDroop]
@[simp] theorem execHubUndervoltage_still (v s) : Still s (landing s (execHubUndervoltage v s)) := by
  simp [execHubUndervoltage]
@[simp] theorem execHubRecovery_still (v s) : Still s (landing s (execHubRecovery v s)) := by simp [execHubRecovery]
@[simp] theorem execHandOverEnd_still (s) : Still s (landing s (execHandOverEnd s)) := by simp [execHandOverEnd]

/-! ### Rods -/

@[simp] theorem joinOne_still (n s) : Still s (joinOne n s) := by
  simp only [joinOne]
  split <;> simp
@[simp] theorem joinMany_still (n) : ∀ k s, Still s (joinMany n k s)
  | 0, s => by simp [joinMany]
  | k + 1, s => by simpa [joinMany] using joinMany_still n k (joinOne n s)
@[simp] theorem replaceRod_still (n s) : Still s (replaceRod n s) := by simp [replaceRod]
@[simp] theorem keepMinimum_still (n s) : Still s (keepMinimum n s) := by simp [keepMinimum]
@[simp] theorem fuseRod_still (n p cause ok s) : Still s (fuseRod n p cause ok s) := by simp [fuseRod]
@[simp] theorem leaveRod_still (n p f s) : Still s (leaveRod n p f s) := by simp [leaveRod]
@[simp] theorem tripRod_still (n p cause ok times f s) : Still s (tripRod n p cause ok times f s) := by simp [tripRod]
@[simp] theorem execRodCurrentTrip_still (n p fuseOk s) : Still s (landing s (execRodCurrentTrip n p fuseOk s)) := by
  simp [execRodCurrentTrip]
@[simp] theorem execTransformerPrimaryOvercurrent_still (n p fuseOk s) :
    Still s (landing s (execTransformerPrimaryOvercurrent n p fuseOk s)) := by
  simp [execTransformerPrimaryOvercurrent]
@[simp] theorem execRodOverTemperature_still (n p t s) : Still s (landing s (execRodOverTemperature n p t s)) := by
  simp [execRodOverTemperature]
@[simp] theorem execRodCooled_still (n p t s) : Still s (landing s (execRodCooled n p t s)) := by simp [execRodCooled]
@[simp] theorem execRodRestEnd_still (n p s) : Still s (landing s (execRodRestEnd n p s)) := by simp [execRodRestEnd]
@[simp] theorem execSuspect_still (n p fuseOk s) : Still s (landing s (execSuspect n p fuseOk s)) := by simp [execSuspect]
@[simp] theorem execAddRod_still (n s) : Still s (landing s (execAddRod n s)) := by simp [execAddRod]
@[simp] theorem shedOne_still (n s) : Still s (shedOne n s) := by
  simp only [shedOne]
  split <;> simp
@[simp] theorem execShedRod_still (n s) : Still s (landing s (execShedRod n s)) := by simp [execShedRod]
@[simp] theorem swapRods_still (n s) : Still s (swapRods n s) := by
  unfold swapRods
  dsimp only
  (repeat' split) <;> simp
@[simp] theorem endSwap_still (n s) : Still s (endSwap n s) := by
  unfold endSwap
  split <;> simp
@[simp] theorem execWearSwap_still (n s) : Still s (landing s (execWearSwap n s)) := by simp [execWearSwap]
@[simp] theorem execRunningTimeSave_still (s) : Still s (landing s (execRunningTimeSave s)) := by simp [execRunningTimeSave]
@[simp] theorem execBalancingStep_still (n iAvg temps s) : Still s (landing s (execBalancingStep n iAvg temps s)) := by
  simp [execBalancingStep]
@[simp] theorem execBrake_still (n seen s) : Still s (landing s (execBrake n seen s)) := by simp [execBrake]
@[simp] theorem runFuseRod_still (args s) : Still s (runFuseRod args s).next := by simp [runFuseRod, State.draw]
@[simp] theorem execServiceFuseRod_still (via args s) : Still s (landing s (execServiceFuseRod via args s)) := by
  simp [execServiceFuseRod]

/-! ### Carrier and clusters -/

@[simp] theorem execSyncInValid_still (sig s) : Still s (landing s (execSyncInValid sig s)) := by simp [execSyncInValid]
@[simp] theorem execSyncLock_still (s) : Still s (landing s (execSyncLock s)) := by simp [execSyncLock]
@[simp] theorem execSyncInLoss_still (s) : Still s (landing s (execSyncInLoss s)) := by simp [execSyncInLoss]
@[simp] theorem execSyncGlideEnd_still (s) : Still s (landing s (execSyncGlideEnd s)) := by simp [execSyncGlideEnd]
@[simp] theorem execClusterPowerDown_still (x s) : Still s (landing s (execClusterPowerDown x s)) := by
  simp [execClusterPowerDown]
@[simp] theorem execClusterWake_still (x s) : Still s (landing s (execClusterWake x s)) := by simp [execClusterWake]
@[simp] theorem heldRun_still (op via args s) : Still s (heldRun op via args s).next := by
  unfold heldRun
  split <;> simp
@[simp] theorem execClusterWakeDone_still (x s) : Still s (landing s (execClusterWakeDone x s)) := by
  simp [execClusterWakeDone]

/-! ### Stakes -/

@[simp] theorem execStakeStart_still (n s) : Still s (landing s (execStakeStart n s)) := by simp [execStakeStart]
@[simp] theorem arrive_still (n s) : Still s (arrive n s) := by simp [arrive]
@[simp] theorem closeSwitch_still (n mv s) : Still s (closeSwitch n mv s) := by simp [closeSwitch]
@[simp] theorem execPreStartResult_still (n m fuseOk s) : Still s (landing s (execPreStartResult n m fuseOk s)) := by
  simp [execPreStartResult, fuseFailed, passPretest]
@[simp] theorem execPreBiasComplete_still (n vNode s) : Still s (landing s (execPreBiasComplete n vNode s)) := by
  simp [execPreBiasComplete]
@[simp] theorem failAttempt_still (n prebias s) : Still s (failAttempt n prebias s) := by simp [failAttempt]
@[simp] theorem execPrebiasFail_still (n s) : Still s (landing s (execPrebiasFail n s)) := by simp [execPrebiasFail]
@[simp] theorem execSoftStartComplete_still (n s) : Still s (landing s (execSoftStartComplete n s)) := by
  simp [execSoftStartComplete]
@[simp] theorem execSlewComplete_still (n s) : Still s (landing s (execSlewComplete n s)) := by simp [execSlewComplete]
@[simp] theorem execShortCheckFail_still (n v s) : Still s (landing s (execShortCheckFail n v s)) := by
  simp [execShortCheckFail]
@[simp] theorem execHiccupEnd_still (n s) : Still s (landing s (execHiccupEnd n s)) := by simp [execHiccupEnd]
@[simp] theorem execKeepLow_still (n v s) : Still s (landing s (execKeepLow n v s)) := by simp [execKeepLow]
@[simp] theorem handOffNow_still (n s) : Still s (handOffNow n s) := by simp [handOffNow]
@[simp] theorem execStandInExcess_still (n i s) : Still s (landing s (execStandInExcess n i s)) := by
  simp [execStandInExcess]
@[simp] theorem execStandInImmediateBypass_still (n v s) : Still s (landing s (execStandInImmediateBypass n v s)) := by
  simp [execStandInImmediateBypass]
@[simp] theorem execSlotFbPresent_still (n s) : Still s (landing s (execSlotFbPresent n s)) := by
  simp [execSlotFbPresent, fbSeen]
@[simp] theorem execBypassRampEnd_still (n s) : Still s (landing s (execBypassRampEnd n s)) := by simp [execBypassRampEnd]
@[simp] theorem execBypFail_still (n s) : Still s (landing s (execBypFail n s)) := by simp [execBypFail]
@[simp] theorem execBypassFaultOpen_still (n s) : Still s (landing s (execBypassFaultOpen n s)) := by
  simp [execBypassFaultOpen]
@[simp] theorem execSlotFbClear_still (n s) : Still s (landing s (execSlotFbClear n s)) := by simp [execSlotFbClear]
@[simp] theorem execSlotFbClearTimeout_still (n s) : Still s (landing s (execSlotFbClearTimeout n s)) := by
  simp [execSlotFbClearTimeout]
@[simp] theorem execAutoReturn_still (n s) : Still s (landing s (execAutoReturn n s)) := by simp [execAutoReturn]
@[simp] theorem execTrackFault_still (s) : Still s (landing s (execTrackFault s)) := by simp [execTrackFault]
@[simp] theorem execTrackResume_still (v s) : Still s (landing s (execTrackResume v s)) := by simp [execTrackResume]

/-! ### Tap state machine -/

@[simp] theorem seeV_still (n v s) : Still s (seeV n v s) := by simp [seeV]
@[simp] theorem execPresence_still (n v s) : Still s (landing s (execPresence n v s)) := by simp [execPresence]
@[simp] theorem removed_still (n s) : Still s (removed n s) := by
  simp only [removed, removedToAbsent]
  (repeat' split) <;> simp
@[simp] theorem execRemoval_still (n seen s) : Still s (landing s (execRemoval n seen s)) := by simp [execRemoval]
@[simp] theorem execBlockInserted_still (seen s) : Still s (landing s (execBlockInserted seen s)) := by
  simp [execBlockInserted]
@[simp] theorem execDetectSettled_still (n v vPair s) : Still s (landing s (execDetectSettled n v vPair s)) := by
  simp [execDetectSettled, leaveDetect]
@[simp] theorem execCuppingPulse_still (n dv di s) : Still s (landing s (execCuppingPulse n dv di s)) := by
  simp [execCuppingPulse]
@[simp] theorem judgeCupping_still (n ocv s) : Still s (judgeCupping n ocv s) := by
  unfold judgeCupping
  dsimp only
  (repeat' split) <;> simp
@[simp] theorem execCuppingEnd_still (n ocv s) : Still s (landing s (execCuppingEnd n ocv s)) := by simp [execCuppingEnd]
@[simp] theorem execPrechargeToCc_still (n v s) : Still s (landing s (execPrechargeToCc n v s)) := by
  simp only [execPrechargeToCc, landing_atVolt]
  split
  · refine smDwell_still (fun s => ?_) 10000 s
    split <;> simp
  · exact ⟨rfl, rfl⟩
@[simp] theorem execCcToCv_still (n s) : Still s (landing s (execCcToCv n s)) := by simp [execCcToCv]
@[simp] theorem execCvToCc_still (n s) : Still s (landing s (execCvToCc n s)) := by simp [execCvToCc]
@[simp] theorem execEndOfCharge_still (n i s) : Still s (landing s (execEndOfCharge n i s)) := by
  refine smDwell_still (fun s => ?_) 60000 s
  split <;> simp
@[simp] theorem execTopOffDepth_still (n s) : Still s (landing s (execTopOffDepth n s)) := by simp [execTopOffDepth]
@[simp] theorem execRechargeDepth_still (n s) : Still s (landing s (execRechargeDepth n s)) := by simp [execRechargeDepth]
@[simp] theorem execTopOffTimerExpiry_still (n s) : Still s (landing s (execTopOffTimerExpiry n s)) := by
  simp [execTopOffTimerExpiry]
@[simp] theorem execKeepCondition_still (n seen s) : Still s (landing s (execKeepCondition n seen s)) := by
  simp [execKeepCondition]
@[simp] theorem execKeepRelease_still (n byString s) : Still s (landing s (execKeepRelease n byString s)) := by
  simp [execKeepRelease]
@[simp] theorem execTemperatureSuspension_still (n t s) : Still s (landing s (execTemperatureSuspension n t s)) := by
  simp [execTemperatureSuspension]
@[simp] theorem resumeLeft_still (n s) : Still s (resumeLeft n s) := by simp [resumeLeft]
@[simp] theorem execSuspensionReturn_still (n t s) : Still s (landing s (execSuspensionReturn n t s)) := by
  refine smFw_still (fun s => ?_) 10000 s
  dsimp only
  split
  · split <;> simp
  · exact ⟨rfl, rfl⟩
@[simp] theorem execTemperatureBandChange_still (n t s) : Still s (landing s (execTemperatureBandChange n t s)) := by
  simp [execTemperatureBandChange]
@[simp] theorem execSensorSuspend_still (n s) : Still s (landing s (execSensorSuspend n s)) := by simp [execSensorSuspend]
@[simp] theorem execNoDose_still (n s) : Still s (landing s (execNoDose n s)) := by simp [execNoDose]
@[simp] theorem execNoDoseReturn_still (n s) : Still s (landing s (execNoDoseReturn n s)) := by simp [execNoDoseReturn]
@[simp] theorem expireTimer_still (n precharge s) : Still s (expireTimer n precharge s) := by simp [expireTimer]
@[simp] theorem execSafetyTimerExpiry_still (n precharge s) :
    Still s (landing s (execSafetyTimerExpiry n precharge s)) := by
  simp [execSafetyTimerExpiry]
@[simp] theorem execFaultTherm_still (n t s) : Still s (landing s (execFaultTherm n t s)) := by simp [execFaultTherm]
@[simp] theorem enterOv_still (n s) : Still s (enterOv n s) := by simp [enterOv]
@[simp] theorem execFaultOv_still (n v s) : Still s (landing s (execFaultOv n v s)) := by simp [execFaultOv]
@[simp] theorem execStakeOutputOverVoltage_still (n v s) : Still s (landing s (execStakeOutputOverVoltage n v s)) := by
  simp [execStakeOutputOverVoltage]
@[simp] theorem execShort_still (n v fallback s) : Still s (landing s (execShort n v fallback s)) := by simp [execShort]
@[simp] theorem execKelvinBad_still (n seen s) : Still s (landing s (execKelvinBad n seen s)) := by simp [execKelvinBad]
@[simp] theorem execNtcSplit_still (n a b s) : Still s (landing s (execNtcSplit n a b s)) := by simp [execNtcSplit]
@[simp] theorem execReverse_still (n vPair s) : Still s (landing s (execReverse n vPair s)) := by simp [execReverse]
@[simp] theorem execChargeFromSystem_still (n v s) : Still s (landing s (execChargeFromSystem n v s)) := by
  simp [execChargeFromSystem]

/-! ### String shunt -/

@[simp] theorem execShuntBitstreamInvalid_still (s) : Still s (landing s (execShuntBitstreamInvalid s)) := by
  simp [execShuntBitstreamInvalid]
@[simp] theorem execShuntBitstreamValid_still (i s) : Still s (landing s (execShuntBitstreamValid i s)) := by
  unfold execShuntBitstreamValid
  (repeat' split) <;> simp
@[simp] theorem execFbMismatch_still (fb s) : Still s (landing s (execFbMismatch fb s)) := by simp [execFbMismatch]
@[simp] theorem execStringOver1500v_still (v s) : Still s (landing s (execStringOver1500v v s)) := by
  simp [execStringOver1500v]

/-! ### The tick -/

@[simp] theorem tickWear_still (n s) : Still s (tickWear n s) := by simp [tickWear]
@[simp] theorem tickPerf_still (s) : Still s (tickPerf s) := by simp [tickPerf]
@[simp] theorem tickBoxes_still (s) : Still s (tickBoxes s) := by simp [tickBoxes]
@[simp] theorem tickKeepAlive_still (x s) : Still s (tickKeepAlive x s) := by simp [tickKeepAlive]
@[simp] theorem tickExpire_still (n s) : Still s (tickExpire n s) := by simp [tickExpire]
@[simp] theorem tickAlarm_still (x s) : Still s (tickAlarm x s) := by simp [tickAlarm]
@[simp] theorem tickLoss_still (s) : Still s (tickLoss s) := by
  simp [tickLoss]


end Sys2Proof.Machine
end

/-! ## The operations that change the watchdog or the module state

Five relations between a state and a later one say what these operations keep of R335 and R336. `Quiet`: the watchdog
is as before and RUN is not entered. `Steady`: the lock and the module state are as before. `Calm`: the lock is as
before and RUN is not entered; it follows from either. `Manned`: the lock is as before, and an entry to RUN enables the
watchdog and begins a grace period from count 0. `Watched`: what O22 says of a step; it follows from `Manned`. -/

section
namespace Sys2Proof.Machine

/-! ### The relations -/

/-- The watchdog is as before and RUN is not entered. -/
structure Quiet (s t : State) : Prop where
  wdg : t.wdg = s.wdg
  run : t.sys.st = .run → s.sys.st = .run

/-- The lock and the module state are as before. -/
@[simp, reducible] def Steady (s t : State) : Prop := t.wdg.locked = s.wdg.locked ∧ t.sys.st = s.sys.st

/-- The lock is as before and RUN is not entered. -/
structure Calm (s t : State) : Prop where
  lock : t.wdg.locked = s.wdg.locked
  run : t.sys.st = .run → s.sys.st = .run

/-- The lock is as before, and an entry to RUN leaves the watchdog enabled: a disabled one at the start of its grace
period. -/
structure Manned (s t : State) : Prop where
  lock : t.wdg.locked = s.wdg.locked
  run : t.sys.st = .run → s.sys.st ≠ .run →
    t.wdg.enabled = true ∧ (s.wdg.enabled = false → t.wdg.grace = true ∧ t.wdg.count = 0 ∧ t.wdg.frac = 0)

/-- What R335 and R336 ask of a step: the lock stands until power is lost, and an entry to RUN leaves the watchdog
enabled, a disabled one in its grace period and at most one tick into it. -/
structure Watched (s t : State) : Prop where
  lock : s.wdg.locked = true → t.wdg.locked = true ∨ t.sys.st = .off ∨ t.sys.st = .ship ∨
      ((s.sys.st = .off ∨ s.sys.st = .ship) ∧ t.sys.st = .boot)
  run : s.sys.st ≠ .run → t.sys.st = .run →
    t.wdg.enabled = true ∧ (s.wdg.enabled = false → t.wdg.grace = true ∧ t.wdg.count ≤ 1)

section
variable {s t u : State}

theorem Quiet.refl (s) : Quiet s s := ⟨rfl, id⟩
theorem Quiet.of_still (h : Still s t) : Quiet s t := ⟨h.1, fun e => h.2 ▸ e⟩
theorem Quiet.trans (h : Quiet s t) (k : Quiet t u) : Quiet s u := ⟨k.wdg.trans h.wdg, fun e => h.run (k.run e)⟩
theorem Quiet.then (h : Quiet s t) (k : Still t u) : Quiet s u := h.trans (.of_still k)

theorem Calm.refl (s) : Calm s s := ⟨rfl, id⟩
theorem Calm.of_steady (h : Steady s t) : Calm s t := ⟨h.1, fun e => h.2 ▸ e⟩
theorem Quiet.calm (h : Quiet s t) : Calm s t := ⟨by rw [h.wdg], h.run⟩
theorem Calm.of_still (h : Still s t) : Calm s t := (Quiet.of_still h).calm
theorem Calm.trans (h : Calm s t) (k : Calm t u) : Calm s u := ⟨k.lock.trans h.lock, fun e => h.run (k.run e)⟩
theorem Calm.then (h : Calm s t) (k : Still t u) : Calm s u := h.trans (.of_still k)

theorem Calm.manned (h : Calm s t) : Manned s t := ⟨h.lock, fun ht hs => absurd (h.run ht) hs⟩
theorem Quiet.manned (h : Quiet s t) (k : Manned t u) : Manned s u :=
  ⟨by rw [k.lock, h.wdg], fun hu hs => by rw [← h.wdg]; exact k.run hu fun ht => hs (h.run ht)⟩
theorem Manned.quiet (h : Manned s t) (k : Quiet t u) : Manned s u :=
  ⟨by rw [k.wdg]; exact h.lock, fun hu hs => by rw [k.wdg]; exact h.run (k.run hu) hs⟩
theorem Manned.then (h : Manned s t) (k : Still t u) : Manned s u := h.quiet (.of_still k)
theorem Manned.graced (h : Manned s t) : Manned s (grace t) :=
  ⟨h.lock, fun ht hs => ⟨(h.run ht hs).1, fun _ => ⟨rfl, rfl, rfl⟩⟩⟩

theorem Manned.watched (h : Manned s t) : Watched s t where
  lock hl := .inl (h.lock.trans hl)
  run hs ht := by
    obtain ⟨he, hg⟩ := h.run ht hs
    refine ⟨he, fun hd => ?_⟩
    obtain ⟨hgrace, hcount, -⟩ := hg hd
    exact ⟨hgrace, by omega⟩
theorem Calm.watched (h : Calm s t) : Watched s t := h.manned.watched
theorem Watched.of_still (h : Still s t) : Watched s t := (Calm.of_still h).watched
theorem Watched.then (h : Watched s t) (k : Still t u) : Watched s u :=
  ⟨fun hl => by rw [k.1, k.2]; exact h.lock hl, fun hs hu => by rw [k.1]; exact h.run hs (k.2 ▸ hu)⟩
theorem Watched.of_locked (hl : s.wdg.locked = true → t.wdg.locked = true) (hst : t.sys.st = s.sys.st) : Watched s t :=
  ⟨fun h => .inl (hl h), fun hs ht => absurd (hst ▸ ht) hs⟩

end

@[simp] theorem ite_locked (p : Prop) {_ : Decidable p} (v w : Wdg) :
    (if p then v else w).locked = if p then v.locked else w.locked := apply_ite Wdg.locked p v w

theorem foldl_steady {ι : Type} {f : State → ι → State} (h : ∀ s i, Steady s (f s i)) (l : List ι) (s : State) :
    Steady s (l.foldl f s) :=
  ⟨foldl_keeps (fun s : State => s.wdg.locked) f (fun s i => (h s i).1) l s,
    foldl_keeps (fun s : State => s.sys.st) f (fun s i => (h s i).2) l s⟩

theorem withFlt_calm {f : State → State} {s} (h : Calm s (f s)) : Calm s (withFlt f s) :=
  ⟨by simpa using h.lock, by simpa using h.run⟩

theorem ranked_calm {r f s} (h : Calm s (f s)) : Calm s (ranked r f s) := by
  unfold ranked
  split
  · exact .refl s
  · exact ⟨h.lock, h.run⟩

theorem issue_quiet {op run via args s} (h : Quiet s (Reply.next (run args s))) :
    Quiet s (issue op run via args s) :=
  (issue_still_or op run via args s).elim .of_still h.then

theorem hostCommand_watched {op run via args s} (h : Watched s (Reply.next (run args s))) :
    Watched s (landing s (hostCommand op run via args s)) :=
  (issue_still_or op run via args s).elim .of_still h.then

/-! ### The watchdog's own operations -/

@[simp] theorem wdgEnable_enabled (s) : (wdgEnable s).wdg.enabled = true := by
  unfold wdgEnable
  split <;> simp_all [grace]
theorem wdgEnable_graced {s : State} (h : s.wdg.enabled = false) :
    (wdgEnable s).wdg.grace = true ∧ (wdgEnable s).wdg.count = 0 ∧ (wdgEnable s).wdg.frac = 0 := by
  simp [wdgEnable, grace, h]
theorem wdgEnable_of_enabled {s : State} (h : s.wdg.enabled = true) : wdgEnable s = s := by simp [wdgEnable, h]
theorem wdgEnable_eq (s : State) : wdgEnable s = { s with wdg := (wdgEnable s).wdg } := by
  unfold wdgEnable
  split <;> rfl

@[simp] theorem setLock_st (s) : (setLock s).sys.st = s.sys.st := by simp [setLock]
theorem setLock_wdg (s : State) : (setLock s).wdg.locked = true ∧ (setLock s).wdg.enabled = true ∧
    (setLock s).wdg.badKeys = s.wdg.badKeys := by
  refine ⟨rfl, wdgEnable_enabled s, ?_⟩
  unfold setLock wdgEnable
  split <;> rfl
theorem setLock_eq (s : State) : setLock s = { s with wdg := (setLock s).wdg } := by
  unfold setLock
  rw [wdgEnable_eq s]
  rfl

@[simp] theorem newChallenge_steady (s) : Steady s (newChallenge s) := by simp [newChallenge, State.draw]
@[simp] theorem loadConfig_steady (s) : Steady s (loadConfig s) := by simp [loadConfig]

/-! ### Changes of the module state -/

@[simp] theorem setState_st (st cause s) : (setState st cause s).sys.st = st := by simp [setState]
@[simp] theorem enterSafe_st (cause s) : (enterSafe cause s).sys.st = .safe := by simp [enterSafe]
@[simp] theorem unpower_st (st s) : (unpower st s).sys.st = st := rfl
@[simp] theorem startUp_st (p strap low last s) : (startUp p strap low last s).sys.st = .boot := by
  simp [startUp, enterBoot]
@[simp] theorem vselOccasion_still (always s) : Still s (vselOccasion always s) := by simp [vselOccasion]

theorem enterSafe_quiet (cause s) : Quiet s (enterSafe cause s) := ⟨by simp, by simp⟩
theorem enterStandby_quiet (cause s) : Quiet s (enterStandby cause s) := by
  refine ⟨by simp, fun ht => ?_⟩
  unfold enterStandby at ht
  dsimp only at ht
  split_ifs at ht <;> simp at ht
theorem bootToRecovery_quiet (cause s) : Quiet s (bootToRecovery cause s) :=
  ⟨by simp [bootToRecovery], by simp [bootToRecovery]⟩
theorem restartCore_calm (c s) : Calm s (restartCore c s) := ⟨by simp [restartCore], by simp [restartCore]⟩
theorem restartAll_calm (s) : Calm s (restartAll s) := ⟨by simp [restartAll, loseCores], by simp [restartAll, loseCores]⟩
theorem enterHold_calm (cause s) : Calm s (enterHold cause s) :=
  ⟨by simp [enterHold, loseCores], by simp [enterHold, loseCores]⟩
theorem enterRecovery_calm (s) : Calm s (enterRecovery s) :=
  ⟨by simp [enterRecovery, loseCores], by simp [enterRecovery, loseCores]⟩
theorem moduleReset_calm (last cause s) : Calm s (moduleReset last cause s) :=
  ⟨by simp [moduleReset, enterBoot, resetState, resetWdg], by simp [moduleReset, enterBoot]⟩

theorem enterRun_wdg (cause s) : (enterRun cause s).wdg = (wdgEnable s).wdg := by simp [enterRun, wdgEnable, grace]
theorem enterRun_manned (cause s) : Manned s (enterRun cause s) :=
  ⟨by simp [enterRun_wdg], fun _ _ => by rw [enterRun_wdg]; exact ⟨wdgEnable_enabled s, wdgEnable_graced⟩⟩

theorem unpower_watched {st} (h : st = .off ∨ st = .ship) (s t) : Watched s (unpower st t) :=
  ⟨fun _ => .inr (by simpa using h.imp_right .inl), fun _ ht => by simp at ht; subst ht; simp at h⟩
theorem startUp_watched {s : State} (h : s.sys.st = .off ∨ s.sys.st = .ship) (p strap low last) :
    Watched s (startUp p strap low last s) :=
  ⟨fun _ => .inr (.inr (.inr ⟨h, startUp_st ..⟩)), fun _ ht => by simp at ht⟩

/-! ### Commands that fault actions and the service console issue -/

theorem runSafe_quiet (args s) : Quiet s (runSafe args s).next := by
  simp only [runSafe, done, next_now]
  exact enterSafe_quiet 1 s
theorem runLeaveSafe_quiet (args s) : Quiet s (runLeaveSafe args s).next := by
  unfold runLeaveSafe
  split
  · exact .refl s
  · simp only [done, next_now]
    exact (enterStandby_quiet 1 s).then (vselOccasion_still false _)

theorem faultAction_quiet (s) : Quiet s (faultAction s) := by
  unfold faultAction
  split
  · split
    · exact issue_quiet (.of_still (by simp))
    · exact .refl s
  · split
    · exact issue_quiet (runSafe_quiet _ s)
    · exact .refl s
  · exact .refl s

theorem monRunOf_quiet {op run} (h : monRunOf op = some run) (args s) : Quiet s (run args s).next := by
  unfold monRunOf at h
  split at h <;> simp only [Option.some.injEq, reduceCtorEq] at h <;> subst h
  case h_2 => exact runLeaveSafe_quiet args s
  all_goals exact .of_still (by simp)

theorem passCmd_quiet {op run args s} (h : ∀ s, Quiet s (Reply.next (run args s))) : Quiet s (passCmd op run args s) := by
  have issued : Quiet s (issue op run .monitor args { s with monAnswer := none }) :=
    (Quiet.of_still (by simp)).trans (issue_quiet (h _))
  unfold passCmd
  dsimp only
  split <;> exact issued.then (by simp)

theorem retryCmd_quiet (s) : Quiet s (retryCmd s) := by
  unfold retryCmd
  split
  · exact .refl s
  · split
    · exact .refl s
    · next run h => exact passCmd_quiet fun s => monRunOf_quiet h _ s

theorem monAgain_quiet (s) : Quiet s (monAgain s) := by
  unfold monAgain
  split
  · exact retryCmd_quiet s
  · exact .of_still (by simp)

theorem planeUp_quiet (s) : Quiet s (planeUp s) := by
  have reviewed (u : State) :
      Still u (newPeriod (writePending (queueDeferred (saveTimes (foldFin 32 reviewTap u))))) := by simp
  unfold planeUp
  refine Quiet.then (Quiet.trans (.of_still ?_) (monAgain_quiet _)) (reviewed _)
  simp

theorem putOff_quiet (s) : Quiet s (putOff s) := by
  have faulted (u : State) : Quiet u
      (if u.bp.faultWaits then faultAction (u.modBp fun b => { b with faultWaits := false }) else u) := by
    split
    · exact Quiet.trans (.of_still (by simp)) (faultAction_quiet _)
    · exact .refl u
  unfold putOff
  refine (faulted s).then ?_
  simp

/-! ### Commits, HOLD and the ladder -/

theorem profileCommit_manned (k s) : Manned s (profileCommit k s) := by
  let v : State := { s with vsel := { s.vsel with
    applied := k, noneYet := false, tries := 0, staged := none
    applying := if s.vsel.applying = some k then none else s.vsel.applying } }
  have entry (b : Bool) : Manned s (if b then enterRun 0xA v else v) := by
    have same : Quiet s v := ⟨rfl, id⟩
    split
    · exact same.manned (enterRun_manned 0xA v)
    · exact same.calm.manned
  have string (p : Profile) (u : State) : Still u (if p.valid && !u.sys.longPress then
      match p.str with
      | 1 => u.modSys (setStr true)
      | 2 => u.modSys (setStr false)
      | _ => u
    else u) := by
    split
    · split <;> simp
    · simp
  exact (entry _).then (string (s.vsel.profiles.toList.getD k .reset) _)

theorem commit_manned (s) : Manned s (commit s) := by
  unfold commit
  dsimp only
  split
  · exact Quiet.manned (.of_still (by simp)) (profileCommit_manned _ _)
  · exact (Calm.of_still (by simp)).manned

theorem edgeEnd_manned (fits s) : Manned s (edgeEnd fits s) := by
  have closed : Quiet s (s.modPour fun p =>
    ({ p with rise := false, low10us := 0, lowKnown := true, badLow := false } : Pour).settle) := ⟨rfl, id⟩
  unfold edgeEnd
  dsimp only
  split
  · exact closed.manned (commit_manned _)
  · exact closed.calm.manned

theorem goHold_calm (cause s) : Calm s (goHold cause s) := by
  unfold goHold
  split
  · exact ⟨(enterHold_calm cause _).lock.trans (commit_manned s).lock, by simp [enterHold, loseCores]⟩
  · exact enterHold_calm cause s

theorem leaveHold_manned (s) : Manned s (leaveHold s) := by
  unfold leaveHold
  split
  · refine (Quiet.trans ?_ (enterStandby_quiet 9 _)).calm.manned
    refine Quiet.then (t := if s.sys.rampHold then holdRampEnd s else s) ?_ (by simp)
    split
    · exact .of_still (holdRampEnd_still s)
    · exact .refl s
  · split
    · exact (enterStandby_quiet _ s).calm.manned
    · refine ⟨by simp [wdgEnable, grace], fun ht _ => ?_⟩
      by_cases hb : s.sys.before = .run
      · simpa [hb] using wdgEnable_graced
      · simp [hb] at ht

theorem hardwareFault_calm (s) : Calm s (hardwareFault s) := by
  unfold hardwareFault
  split
  case h_4 => exact .refl s
  all_goals exact ranked_calm (enterSafe_quiet 7 s).calm

theorem ladderAct_calm (rung core s) : Calm s (ladderAct rung core s) := by
  have safe : Calm s (ranked 4 (fun s => enterSafe 3 (if s.sys.trial then dropTrial s else s)) s) := by
    refine ranked_calm ?_
    split
    · exact ((Quiet.of_still (dropTrial_still s)).trans (enterSafe_quiet 3 _)).calm
    · exact (enterSafe_quiet 3 s).calm
  have hold : Calm s (ranked 6 (fun s => goHold 2 (revert s)) s) :=
    ranked_calm ((Calm.of_still (revert_still s)).trans (goHold_calm 2 _))
  unfold ladderAct
  split
  · exact Calm.trans (t := s.modSys fun y => { y with recReq := true }) ⟨rfl, id⟩ (moduleReset_calm 4 _ _)
  · split
    · exact restartCore_calm core s
    · exact hold
    · exact safe
  · split
    · exact restartCore_calm core s
    · exact hold
    · exact safe
  · split
    · exact .refl s
    · exact .of_still (revert_still s)
    · exact safe
  · split
    · exact restartCore_calm core s
    · exact (Calm.of_still (revert_still s)).trans (restartAll_calm _)
    · split
      · exact (Calm.of_still (dropTrial_still s)).trans (restartAll_calm _)
      · exact restartAll_calm s
  · exact restartCore_calm 0 s
  all_goals exact .refl s

theorem wdgFail_calm (cause tok pcs s) : Calm s (wdgFail cause tok pcs s) := by
  unfold wdgFail
  exact (Calm.of_steady (by simp [grace])).trans (ladderAct_calm _ _ _)

/-! ### Register writes: the flags of the watchdog alone are cleared -/

@[simp] theorem writeHigh_steady (a w s) : Steady s (writeHigh a w s) := by
  unfold writeHigh
  (repeat' split) <;> simp
@[simp] theorem regWrite_steady (a w s) : Steady s (regWrite a w s) := by simp [regWrite]
@[simp] theorem applyWords_steady (fix ws s) : Steady s (applyWords fix ws s) := by
  unfold applyWords
  split
  · exact ⟨foldl_keeps (fun r : Bool × State => r.2.wdg.locked) _ (by simp) ws (true, s),
      foldl_keeps (fun r : Bool × State => r.2.sys.st) _ (by simp) ws (true, s)⟩
  · simpa using foldl_steady (fun s p => regWrite_steady p.1 p.2 s) ws s
@[simp] theorem writeOne_steady (a w s) : Steady s (writeOne a w s) := by simp [writeOne]

end Sys2Proof.Machine
end

/-! ## Every step stands by the lock and watches RUN -/

section
namespace Sys2Proof.Machine

/-! ### The rows that change the watchdog or the module state -/

theorem execRegisterWrite_steady (a w s) : Steady s (landing s (execRegisterWrite a w s)) := by
  simp [execRegisterWrite]
theorem execAlrAck_steady (seq s) : Steady s (landing s (execAlrAck seq s)) := by simp [execAlrAck]
theorem execAlrAckClass_steady (mask s) : Steady s (landing s (execAlrAckClass mask s)) := by simp [execAlrAckClass]
theorem execSpiWriteFrame_steady (h ws check whole s) : Steady s (landing s (execSpiWriteFrame h ws check whole s)) := by
  simp [execSpiWriteFrame]
theorem execWriteTransfer_steady (p ws pec ending s) : Steady s (landing s (execWriteTransfer p ws pec ending s)) := by
  simp [execWriteTransfer]
theorem execRecipeTick_steady (s) : Steady s (landing s (execRecipeTick s)) := by simp [execRecipeTick]
theorem execWdgCheckin_steady (core bits s) : Steady s (landing s (execWdgCheckin core bits s)) := by
  simp [execWdgCheckin]
theorem execWdgSettingWrite_steady (core pair mask s) : Steady s (landing s (execWdgSettingWrite core pair mask s)) := by
  simp [execWdgSettingWrite]

theorem execSysRun_watched (via args s) : Watched s (landing s (execSysRun via args s)) :=
  hostCommand_watched ((enterRun_manned 1 s).watched.then (done_still _))
theorem execSysSafe_watched (via args s) : Watched s (landing s (execSysSafe via args s)) :=
  hostCommand_watched (runSafe_quiet args s).calm.watched
theorem execSysLeaveSafe_watched (via args s) : Watched s (landing s (execSysLeaveSafe via args s)) :=
  hostCommand_watched (runLeaveSafe_quiet args s).calm.watched
theorem execWdgSetLadder_watched (via args s) : Watched s (landing s (execWdgSetLadder via args s)) :=
  hostCommand_watched (Calm.of_steady (by simp [runSetLadder, done])).watched
theorem execWdgEnable_watched (via args s) : Watched s (landing s (execWdgEnable via args s)) :=
  hostCommand_watched (Calm.of_steady (by simp [runEnable, done])).watched
theorem execWdgSetLock_watched (via args s) : Watched s (landing s (execWdgSetLock via args s)) :=
  hostCommand_watched (.of_locked (fun _ => (setLock_wdg s).1) (setLock_st s))
theorem execWdgDisable_watched (via args s) : Watched s (landing s (execWdgDisable via args s)) := by
  refine hostCommand_watched ?_
  unfold runDisable
  split
  · exact (Calm.of_steady (by simp [done])).watched
  · exact .of_locked (fun hl => by simp [hl, setLock_wdg]) (by simp)

theorem execWdgService_calm (core tok pcs s) : Calm s (landing s (execWdgService core tok pcs s)) := by
  unfold execWdgService
  split_ifs
  · exact .refl s
  · exact .of_steady (by simp)
  · exact .refl s
  · exact wdgFail_calm ..
  · exact wdgFail_calm ..
  · exact wdgFail_calm ..
  · exact wdgFail_calm ..
  · exact .of_steady (by simp [wdgAccept])

theorem execWdgLate_calm (pcs s) : Calm s (landing s (execWdgLate pcs s)) := by
  unfold execWdgLate
  dsimp only [landing_next]
  split
  · refine Calm.trans ?_ (wdgFail_calm 1 0 pcs _)
    exact .of_steady ⟨rfl, rfl⟩
  · exact .refl s

theorem execStandbyRampEnd_quiet (s) : Quiet s (landing s (execStandbyRampEnd s)) := by
  unfold execStandbyRampEnd
  split
  · exact Quiet.trans (.of_still (by simp)) (enterStandby_quiet 1 _)
  · exact .refl s

theorem execCommitEdge_manned (edge s) : Manned s (landing s (execCommitEdge edge s)) := by
  unfold execCommitEdge
  dsimp only [landing_next]
  split
  · exact (Calm.refl s).manned
  · split
    · exact Quiet.manned (.of_still (by simp)) (edgeEnd_manned _ _)
    · exact (Calm.of_still (by simp)).manned

theorem execFaultEdge_quiet (own s) : Quiet s (landing s (execFaultEdge own s)) := by
  unfold execFaultEdge
  split
  · exact .refl s
  · dsimp only [landing_next]
    split
    · exact .of_still (by simp)
    · exact Quiet.trans (.of_still (by simp)) (faultAction_quiet _)

theorem execHkPathQualify_watched (p strap low s) : Watched s (landing s (execHkPathQualify p strap low s)) := by
  unfold execHkPathQualify
  split
  · exact .of_still ⟨rfl, rfl⟩
  · split
    · exact .of_still ⟨rfl, rfl⟩
    · dsimp only [landing_next]
      split
      · next hoff =>
        split
        · exact ⟨fun _ => .inr (.inr (.inl (by simp))), fun _ h => by simp at h⟩
        · exact startUp_watched (.inl hoff) ..
      · next hship =>
        split
        · exact .of_still ⟨rfl, rfl⟩
        · exact startUp_watched (.inr hship) ..
      · exact .of_still (by simp)

theorem execHoldUpEnd_watched (s) : Watched s (landing s (execHoldUpEnd s)) := by
  unfold execHoldUpEnd
  dsimp only [landing_next]
  split
  · exact unpower_watched (.inl rfl) s _
  · exact .of_still ⟨rfl, rfl⟩

theorem execShipEntry_watched (s) : Watched s (landing s (execShipEntry s)) := by
  unfold execShipEntry
  split
  · exact .of_still ⟨rfl, rfl⟩
  · split
    · exact unpower_watched (.inr rfl) s _
    · exact .of_still (by simp)

theorem execBootComplete_calm (a b c s) : Calm s (landing s (execBootComplete a b c s)) := by
  unfold execBootComplete
  split
  · exact .refl s
  · extract_lets ok finish running alone
    dsimp only [landing_next]
    have finished (u : State) : Calm u (finish u) := .of_steady (by simp [finish, grace, markWithdrawn])
    refine withFlt_calm ?_
    split
    · split
      · exact ((finished s).trans (enterSafe_quiet 7 _).calm).then (modSys_still (f := alone) (fun _ => rfl) _)
      · exact (finished s).trans (bootToRecovery_quiet 8 _).calm
    · next k _ =>
      have booted : Calm s (finish (bootBank k s)) := Calm.trans (.of_still (by simp)) (finished _)
      split_ifs
      · exact (booted.trans (enterSafe_quiet 7 _).calm).then (modSys_still (f := running) (fun _ => rfl) _)
      · exact booted.trans (bootToRecovery_quiet _ _).calm
      · have up : Calm s ((finish (bootBank k s)).modSys running) :=
          booted.then (modSys_still (f := running) (fun _ => rfl) _)
        exact (up.trans (enterStandby_quiet _ _).calm).then ((decideRole_still _).trans (vselOccasion_still _ _))

theorem execDeferredStateChange_calm (s) : Calm s (landing s (execDeferredStateChange s)) := by
  unfold execDeferredStateChange
  split
  · exact .refl s
  · dsimp only [landing_next]
    split
    · exact .refl s
    · next d _ =>
      have gone : Calm s (dropOf d s) := .of_still (by simp)
      have told : Calm s (event .dropped [modCode s.sys.st] (dropOf d s)) := .of_still (by simp)
      split
      · split
        · exact gone.trans (enterRecovery_calm _)
        · exact told
      · split
        · exact gone.trans (moduleReset_calm 2 1 _)
        · exact told
      · split
        · exact (gone.then (activate_still _)).trans (moduleReset_calm 5 4 _)
        · exact told

theorem execLongPressReset_calm (strap s) : Calm s (landing s (execLongPressReset strap s)) := by
  unfold execLongPressReset
  dsimp only [landing_next]
  split
  · refine Calm.trans ?_ (moduleReset_calm 3 6 _)
    exact .of_still ⟨rfl, rfl⟩
  · exact .refl s

theorem execHoldEntry_calm (s) : Calm s (landing s (execHoldEntry s)) := by
  unfold execHoldEntry
  split
  · exact .refl s
  · dsimp only [landing_next]
    split
    · exact .refl s
    · next d _ =>
      have gone : Calm s (dropOf d s) := .of_still (by simp)
      split
      · split
        · exact gone.trans (ranked_calm (goHold_calm 1 _))
        · exact gone.trans (ranked_calm (Calm.trans (.of_still (activate_still _)) (goHold_calm 4 _)))
      · exact gone.then (dropChange_still _)

theorem execEstop_calm (s) : Calm s (landing s (execEstop s)) := by
  have enter (u : State) : Calm u (ranked 3 (enterSafe 5) u) := ranked_calm (enterSafe_quiet 5 u).calm
  have stopped : Calm s (stopAll (s.modSys fun y => { y with estop := true })) := .of_still (by simp)
  unfold execEstop
  split
  · exact .refl s
  · dsimp only [landing_next]
    refine withFlt_calm ?_
    split
    case h_4 => exact stopped.then (by simp)
    case h_5 => exact stopped.then (by simp)
    all_goals exact stopped.trans (enter _)

theorem execControlPlaneReady_manned (s) : Manned s (landing s (execControlPlaneReady s)) := by
  unfold execControlPlaneReady
  dsimp only [landing_next]
  split
  · have up := ((leaveHold_manned s).quiet (planeUp_quiet _)).then (decideRole_still _)
    exact (up.graced.then (vselOccasion_still false _)).quiet (putOff_quiet _)
  · split
    · exact (planeUp_quiet s).calm.manned
    · exact (Calm.refl s).manned
  · exact (Calm.refl s).manned

theorem execHubOv_calm (s) : Calm s (landing s (execHubOv s)) := by
  unfold execHubOv
  split
  · exact .refl s
  · extract_lets was times s₁ s₂ s₃
    have noted : Still s s₃ := by simp [s₁, s₂, s₃]
    dsimp only [landing_next]
    split
    · exact (Calm.of_still noted).trans (hardwareFault_calm s₃)
    · exact .of_still noted

theorem execShFault_calm (s) : Calm s (landing s (execShFault s)) := by
  unfold execShFault
  dsimp only [landing_next]
  split
  · refine withFlt_calm (Calm.trans ?_ (hardwareFault_calm _))
    exact .of_still ⟨rfl, rfl⟩
  · exact .refl s

theorem execCoreRestartDone_quiet (c s) : Quiet s (landing s (execCoreRestartDone c s)) := by
  unfold execCoreRestartDone
  split
  · exact .refl s
  · extract_lets mine lost s₁ s₂ s₃ s₄ s₅
    have posted : Still s s₃ := by simp [s₁, s₂, s₃]
    have again : Quiet s₃ (if c = 0 then putOff (monAgain s₃) else retryCmd s₃) := by
      split
      · exact (monAgain_quiet s₃).trans (putOff_quiet _)
      · exact retryCmd_quiet s₃
    have reviewed : Still s₄ s₅ := by simp [s₅]
    refine (((Quiet.of_still posted).trans again).then (promote_still c _)).then (u := _) ?_
    simpa [s₄] using reviewed

theorem execCmd_quiet (op args s) : Quiet s (landing s (execCmd op args s)) := by
  have served (u : State) {k : State → State} (h : Quiet (echoLine args.line u) (k (echoLine args.line u))) :
      Quiet u (landing u (svcRun args.line k u)) := by
    rw [landing_svcRun, landing_monLine, landing_monRun]
    split_ifs
    · exact .refl u
    · exact .of_still (by simp)
    · exact .of_still (by simp)
    · exact (Quiet.of_still (echoLine_still _ u)).trans h
    · exact .of_still (by simp)
  unfold execCmd
  refine served s ?_
  generalize echoLine args.line s = u
  have err (k : Nat) : Quiet u (monErr k u) := .of_still (monErr_still k u)
  split
  · split
    · exact err _
    · next run hrun =>
      dsimp only
      split
      · exact err 4
      · exact Quiet.trans (.of_still (by simp)) (passCmd_quiet fun s => monRunOf_quiet hrun _ s)
  · exact err 1

/-! ### The step -/

theorem exec_watched (i : Instr) (s : State) : Watched s (landing s (exec i s)) := by
  cases i with
  | sysRun via args => exact execSysRun_watched via args s
  | sysSafe via args => exact execSysSafe_watched via args s
  | sysLeaveSafe via args => exact execSysLeaveSafe_watched via args s
  | wdgSetLadder via args => exact execWdgSetLadder_watched via args s
  | wdgDisable via args => exact execWdgDisable_watched via args s
  | wdgEnable via args => exact execWdgEnable_watched via args s
  | wdgSetLock via args => exact execWdgSetLock_watched via args s
  | wdgCheckin core bits => exact (Calm.of_steady (execWdgCheckin_steady core bits s)).watched
  | wdgSettingWrite core pair mask => exact (Calm.of_steady (execWdgSettingWrite_steady core pair mask s)).watched
  | wdgService core tok pcs => exact (execWdgService_calm core tok pcs s).watched
  | wdgLate pcs => exact (execWdgLate_calm pcs s).watched
  | standbyRampEnd => exact (execStandbyRampEnd_quiet s).calm.watched
  | commitEdge edge => exact (execCommitEdge_manned edge s).watched
  | recipeTick => exact (Calm.of_steady (execRecipeTick_steady s)).watched
  | faultEdge own => exact (execFaultEdge_quiet own s).calm.watched
  | hkPathQualify p strap low => exact execHkPathQualify_watched p strap low s
  | holdUpEnd => exact execHoldUpEnd_watched s
  | shipEntry => exact execShipEntry_watched s
  | bootComplete a b c => exact (execBootComplete_calm a b c s).watched
  | deferredStateChange => exact (execDeferredStateChange_calm s).watched
  | longPressReset strap => exact (execLongPressReset_calm strap s).watched
  | holdEntry => exact (execHoldEntry_calm s).watched
  | estop => exact (execEstop_calm s).watched
  | controlPlaneReady => exact (execControlPlaneReady_manned s).watched
  | hubOv => exact (execHubOv_calm s).watched
  | shFault => exact (execShFault_calm s).watched
  | coreRestartDone c => exact (execCoreRestartDone_quiet c s).calm.watched
  | cmd op args => exact (execCmd_quiet op args s).calm.watched
  | registerWrite a w => exact (Calm.of_steady (execRegisterWrite_steady a w s)).watched
  | alrAck seq => exact (Calm.of_steady (execAlrAck_steady seq s)).watched
  | alrAckClass mask => exact (Calm.of_steady (execAlrAckClass_steady mask s)).watched
  | spiWriteFrame h ws check whole => exact (Calm.of_steady (execSpiWriteFrame_steady h ws check whole s)).watched
  | writeTransfer p ws pec ending => exact (Calm.of_steady (execWriteTransfer_steady p ws pec ending s)).watched
  | _ => exact .of_still (by simp [exec])

theorem tickWdg_count {w : Wdg} (hc : w.count = 0) (hf : w.frac = 0) : (tickWdg w).count = 1 := by
  simp [tickWdg, hc, hf, sat]

/-- The tick may let the grace period run once after the entry to RUN. -/
theorem Manned.watched_tickWdg {s t u : State} (h : Manned s t) (hst : u.sys.st = t.sys.st)
    (hw : u.wdg = t.wdg ∨ u.wdg = tickWdg t.wdg) : Watched s u := by
  obtain hw | hw := hw
  · exact h.watched.then ⟨hw, hst⟩
  · refine ⟨fun hl => .inl ?_, fun hs hu => ?_⟩
    · rw [hw]
      exact h.lock.trans hl
    · obtain ⟨he, hg⟩ := h.run (hst ▸ hu) hs
      rw [hw]
      refine ⟨he, fun hd => ?_⟩
      obtain ⟨hgrace, hcount, hfrac⟩ := hg hd
      exact ⟨hgrace, (tickWdg_count hcount hfrac).le⟩

theorem tick_watched (s) : Watched s (tick s) := by
  unfold tick
  split
  · exact .of_still ⟨rfl, rfl⟩
  · extract_lets s₁ s₂ s₃ s₄ hub bp s₅
    have edge : Manned s s₁ := by
      refine Manned.then (t := if s.pour.rise then edgeEnd (lowFits s.pour) s else s) ?_ (newPeriod_still _)
      split
      · exact edgeEnd_manned _ s
      · exact (Calm.refl s).manned
    have before : Still s₁ s₄ := by simp [s₄, s₃, s₂]
    have counted : s₅.wdg = s₄.wdg ∨ s₅.wdg = tickWdg s₄.wdg := by
      simp only [s₅]
      split <;> simp
    have ticked : Watched s s₅ := (edge.then before).watched_tickWdg rfl counted
    exact ticked.then (by simp)

theorem step_watched {s t : State} (h : step s = .next t) : Watched s t := by
  unfold step at h
  split at h
  · next c rest _ =>
    have w := exec_watched c { s with pending := rest }
    rw [h] at w
    exact ⟨w.lock, w.run⟩
  · injection h with h
    exact h ▸ tick_watched s

end Sys2Proof.Machine
end

/-! ## Commands that pass the checks at taking -/

section
open Sys2Proof.Claims

namespace Sys2Proof.Machine

/-- The second check finds nothing that the first did not (R254). -/
theorem recheck_of_gate {op s} (h : gate op s = none) : recheck op s = none := by
  unfold gate at h
  split at h
  · simp at h
  · unfold recheck
    split at h
    · simp at h
    · split_ifs at h ⊢
      simp_all

theorem lateReply_of_gate {op s} (h : gate op s = none) (r : Reply) : lateReply op s r = r := by
  unfold lateReply
  rw [recheck_of_gate h]
  cases r <;> simp

/-- An accepted command has its effect and is answered with it. -/
theorem hostCommand_of_accepts {op via args s} (h : Accepts op via args s) (run) :
    hostCommand op run via args s = .next (deliver via (run args s)) := by
  obtain ⟨hpow, hhold, hc0, hwait, hgate, hown⟩ := h
  simp [hostCommand, issue, hpow, hhold, hc0, hwait, hgate, hown, lateReply_of_gate hgate]

theorem planeUp_of_accepts {op via args s} (h : Accepts op via args s) : planeDown s = false := by
  obtain ⟨-, hhold, hc0, -, hgate, -⟩ := h
  have hboot : s.sys.st ≠ .boot := fun hb => by simp [gate, hb] at hgate
  have hbit : s.sys.cores.getLsbD 0 = true := by simpa [c0Up, hboot] using hc0
  have hcores : s.sys.cores ≠ 0 := fun h => by simp [h] at hbit
  simpa [planeDown, hhold] using fun _ => hcores

theorem hostCommand_denied {op via args s code} (hp : s.powered = true) (hst : s.sys.st ≠ .hold)
    (hc : c0Up s = true) (hw : waits via s = false) (ht : isTaken via s = false) (hg : gate op s = some code) (run) :
    hostCommand op run via args s = .next (answer via code [] s) := by
  simp [hostCommand, issue, hp, hst, hc, hw, ht, hg]

/-- The lock refuses its three commands in STANDBY (R336). -/
theorem gate_of_locked {s : State} (hst : s.sys.st = .standby) (hl : s.wdg.locked = true) {op}
    (hop : op ∈ [0x0801, 0x0802, 0x0803]) : gate op s = some 0x31 := by
  have known : ∃ c, cmdInfo op = some c ∧ ModState.standby ∈ c.states ∧ changesState op = false := by
    simp only [List.mem_cons, List.not_mem_nil, or_false] at hop
    obtain rfl | rfl | rfl := hop <;> exact ⟨_, rfl, by decide, by decide⟩
  obtain ⟨c, hc, hin, hkeep⟩ := known
  have locked : lockedOut s op = true := by simp [lockedOut, hl, hop]
  simp [gate, hst, hc, hin, hkeep, locked]

/-! ### The lock stands, and RUN is watched -/

theorem wdgEnable_answered (via : Via) (s : State) :
    let t := answer via 0 [] (wdgEnable s)
    t.wdg.enabled = true ∧ (s.wdg.enabled = false → t.wdg.grace = true ∧ t.wdg.count = 0) ∧
      (s.wdg.enabled = true → t.wdg = s.wdg) ∧ t = answer via 0 [] { s with wdg := t.wdg } := by
  have kept : (answer via 0 [] (wdgEnable s)).wdg = (wdgEnable s).wdg := by simp
  dsimp only
  rw [kept, ← wdgEnable_eq]
  exact ⟨wdgEnable_enabled s, fun h => ⟨(wdgEnable_graced h).1, (wdgEnable_graced h).2.1⟩,
    fun h => by rw [wdgEnable_of_enabled h], rfl⟩

theorem setLock_answered (via : Via) (s : State) :
    let t := answer via 0 [] (setLock s)
    t.wdg.enabled = true ∧ t.wdg.locked = true ∧ t = answer via 0 [] { s with wdg := t.wdg } := by
  have kept : (answer via 0 [] (setLock s)).wdg = (setLock s).wdg := by simp
  obtain ⟨hl, he, -⟩ := setLock_wdg s
  dsimp only
  rw [kept, ← setLock_eq]
  exact ⟨he, hl, rfl⟩

theorem enterRun_answered (via : Via) (s : State) (h : s.wdg.enabled = false) :
    let t := answer via 0 [] (enterRun 1 s)
    t.wdg.enabled = true ∧ t.wdg.grace = true ∧ t.wdg.count = 0 := by
  have kept : (answer via 0 [] (enterRun 1 s)).wdg = (wdgEnable s).wdg := by simp [enterRun_wdg]
  obtain ⟨hgrace, hcount, -⟩ := wdgEnable_graced h
  dsimp only
  rw [kept]
  exact ⟨wdgEnable_enabled s, hgrace, hcount⟩

/-- Settles O22, by what one step keeps (`step_watched`) and by the effects of the three commands. -/
theorem lockStandsAndRunIsWatched : Obligations.LockStandsAndRunIsWatched := by
  unfold Obligations.LockStandsAndRunIsWatched
  refine ⟨fun s t h => (step_watched h).lock, fun s t h => (step_watched h).run, fun via args s => ⟨?_, ?_, ?_, ?_⟩⟩
  · exact fun ha => ⟨_, hostCommand_of_accepts ha runEnable, wdgEnable_answered via s⟩
  · exact fun ha => ⟨_, hostCommand_of_accepts ha runSetLock, setLock_answered via s⟩
  · exact fun ha hd => ⟨_, hostCommand_of_accepts ha runRun, enterRun_answered via s hd⟩
  · intro hp hc hw ht hl hst
    have denied {op} (hop : op ∈ [0x0801, 0x0802, 0x0803]) (run) :
        hostCommand op run via args s = .next (answer via 0x31 [] s) :=
      hostCommand_denied hp (by simp [hst]) (by simp [c0Up, hc]) hw ht (gate_of_locked hst hl hop) run
    exact ⟨denied (by simp) _, denied (by simp) _, denied (by simp) _⟩

end Sys2Proof.Machine
end

/-! ## `WDG_DISABLE` and its key, and the BOOT that follows a reset -/

section
open Sys2Proof.Claims

namespace Sys2Proof.Machine

/-! ### Records and alerts -/

theorem recordKeyed_eq (key payload) (s : State) :
    recordKeyed key payload s = { s with bbx := (recordKeyed key payload s).bbx } := by
  unfold recordKeyed
  split
  · rfl
  · dsimp only
    split <;> rfl
theorem event_eq (c params s) : event c params s = { s with bbx := (event c params s).bbx } := recordKeyed_eq ..
/-- Outside a withholding window an event is recorded. -/
theorem event_nextSeq {s : State} (h : s.bbx.windows = []) (c params) :
    (event c params s).bbx.nextSeq = s.bbx.nextSeq + 1 := by
  simp [event, recordKeyed, h, record]

theorem enqueue_eq (a s) : enqueue a s = { s with alr := (enqueue a s).alr, bus := (enqueue a s).bus } := rfl
theorem enqueue_nextSeq (a s) : (enqueue a s).alr.nextSeq = s.alr.nextSeq + 1 := by
  unfold enqueue
  dsimp only
  split
  · rfl
  · split <;> rfl
theorem enqueue_last {s : State} (h : s.alr.queue.length < 64) (a : Alert) :
    (enqueue a s).alr.queue.getLast? = some { a with seq := s.alr.nextSeq } := by
  simp [enqueue, h]
theorem alertRec_eq_enqueue {f : State → State} {s} (h : planeDown (f s) = false) (cls kind reason inst param) :
    ∃ a : Alert, a.cls = cls ∧ alertRec f cls kind reason inst param s = enqueue a (f s) :=
  ⟨_, rfl, by simp [alertRec, alertAt, h]; rfl⟩

theorem answerOf_answer (via code res s) : answerOf via (answer via code res s) = some ⟨code, res⟩ := by
  cases via <;> simp [answerOf, answer]

/-! ### The right key -/

theorem wdgKey_eq {a : List Word} : [argW a 0, argW a 1, argW a 2] = Config.wdgKey ↔
    argW a 0 = 0x7A3C ∧ argW a 1 = 0xC5E1 ∧ argW a 2 = 0x1D96 := by
  simp [Config.wdgKey]

/-- The state with the watchdog stopped by its key, before the record and the alert. -/
def unwatched (s : State) : State :=
  s.modWdg fun w => { w with enabled := false, grace := false, fails := 0, checkin := 0 }

theorem runDisable_right {a : List Word} (h : [argW a 0, argW a 1, argW a 2] = Config.wdgKey) (s) :
    runDisable a s = .now 0 [] (alertRec (event .wdgDisabled []) 3 7 2 0 0 (unwatched s)) := if_pos h

theorem rightKey_answered {s : State} (h : planeDown s = false) (via : Via) :
    let t := answer via 0 [] (alertRec (event .wdgDisabled []) 3 7 2 0 0 (unwatched s))
    t.wdg = (unwatched s).wdg ∧ t.alr.nextSeq = s.alr.nextSeq + 1 ∧
      (s.alr.queue.length < 64 → t.alr.queue.getLast?.map (·.cls) = some 3) ∧
      (s.bbx.windows = [] → t.bbx.nextSeq = s.bbx.nextSeq + 1) ∧
      t = answer via 0 [] { s with wdg := t.wdg, bbx := t.bbx, alr := t.alr, bus := t.bus } := by
  have up : planeDown (event .wdgDisabled [] (unwatched s)) = false := by simpa [planeDown, unwatched] using h
  have recorded (hw : s.bbx.windows = []) : (event .wdgDisabled [] (unwatched s)).bbx.nextSeq = s.bbx.nextSeq + 1 :=
    event_nextSeq (s := unwatched s) hw ..
  obtain ⟨a, hcls, ha⟩ := alertRec_eq_enqueue up 3 7 2 0 0
  rw [ha, enqueue_eq, event_eq]
  refine ⟨by simp, ?_, fun hq => ?_, by simpa using recorded, ?_⟩
  · simp [enqueue_nextSeq, unwatched]
  · simp [enqueue_last, hq, hcls, unwatched]
  · cases via <;> rfl

/-! ### A wrong key -/

/-- The state with a wrong key counted and recorded. -/
def wrongKeyed (s : State) : State :=
  event .wrongKey [(min 3 (s.wdg.badKeys + 1) : Nat)] (s.modWdg fun w => { w with badKeys := min 3 (s.wdg.badKeys + 1) })

theorem wrongKeyed_eq (s) : wrongKeyed s =
    { s with wdg := { s.wdg with badKeys := min 3 (s.wdg.badKeys + 1) }, bbx := (wrongKeyed s).bbx } := event_eq ..
theorem wrongKeyed_nextSeq {s : State} (h : s.bbx.windows = []) : (wrongKeyed s).bbx.nextSeq = s.bbx.nextSeq + 1 :=
  event_nextSeq (s := s.modWdg _) h ..

theorem runDisable_wrong {a : List Word} (h : [argW a 0, argW a 1, argW a 2] ≠ Config.wdgKey) (s) :
    runDisable a s = .now 0x21 [] (if 2 ≤ s.wdg.badKeys then setLock (wrongKeyed s) else wrongKeyed s) := by
  have third : min 3 (s.wdg.badKeys + 1) = 3 ↔ 2 ≤ s.wdg.badKeys := by omega
  unfold runDisable
  rw [if_neg h]
  simp only [third]
  rfl

theorem wrongKey_answered (via : Via) (s : State) :
    let t := answer via 0x21 [] (if 2 ≤ s.wdg.badKeys then setLock (wrongKeyed s) else wrongKeyed s)
    t.wdg.badKeys = min 3 (s.wdg.badKeys + 1) ∧ (s.bbx.windows = [] → t.bbx.nextSeq = s.bbx.nextSeq + 1) ∧
      (s.wdg.badKeys < 2 → t.wdg = { s.wdg with badKeys := s.wdg.badKeys + 1 }) ∧
      (2 ≤ s.wdg.badKeys → t.wdg.locked = true ∧ t.wdg.enabled = true) ∧
      t = answer via 0x21 [] { s with wdg := t.wdg, bbx := t.bbx } := by
  have keys : (wrongKeyed s).wdg = { s.wdg with badKeys := min 3 (s.wdg.badKeys + 1) } := by rw [wrongKeyed_eq]
  dsimp only
  split
  · next third =>
    obtain ⟨hl, he, hb⟩ := setLock_wdg (wrongKeyed s)
    refine ⟨by simp [hb, keys], fun hw => ?_, fun hlt => absurd third (by omega), fun _ => by simp [hl, he], ?_⟩
    · rw [setLock_eq]
      simpa using wrongKeyed_nextSeq hw
    · rw [setLock_eq, wrongKeyed_eq]
      cases via <;> rfl
  · next early =>
    have few : min 3 (s.wdg.badKeys + 1) = s.wdg.badKeys + 1 := by omega
    refine ⟨by simp [keys], fun hw => by simpa using wrongKeyed_nextSeq hw, fun _ => by simp [keys, few],
      fun hge => absurd hge early, ?_⟩
    rw [wrongKeyed_eq]
    cases via <;> rfl

/-! ### BOOT starts with the watchdog enabled -/

theorem moduleReset_boots (last cause) (s : State) :
    (moduleReset last cause s).sys.st = .boot ∧ (moduleReset last cause s).wdg.enabled = true ∧
      (moduleReset last cause s).sys.addr = s.sys.strap ∧ (moduleReset last cause s).sys.recReq = s.sys.recReq := by
  unfold moduleReset
  extract_lets told void u v
  have sys : u.sys = { s.sys with st := .boot, cause := cause, rampStandby := false, rampHold := false } := by
    simp [u, setState]
  split <;> simp [v, enterBoot, resetState, resetSys, resetWdg, Wdg.reset, sys, newChallenge, State.draw, bootRecord]

theorem startUp_enabled (p strap low last s) : (startUp p strap low last s).wdg.enabled = true := by
  simp [startUp, enterBoot, resetState, resetWdg, Wdg.reset, newChallenge, State.draw]

theorem hkPathQualify_boots {s : State} {p} (h : s.sys.st = .off ∨ s.sys.st = .ship) (hr : pathRated p = true)
    (hu : pathUp p = true) (strap low) : ∃ t, execHkPathQualify p strap low s = .next t ∧
      (t.sys.st = .boot → t.wdg.enabled = true) ∧ (tapPath p = false → t.sys.st = .boot) := by
  obtain hs | hs := h
  all_goals
    refine ⟨_, by simp [execHkPathQualify, hr, hu, hs]; rfl, ?_⟩
    split
    · simp_all
    · exact ⟨fun _ => startUp_enabled .., fun _ => startUp_st ..⟩

theorem longPressReset_boots {s : State} (hp : s.powered = true) (hl : s.sys.longPress = true)
    (hk : s.sys.hkLost = false) (strap) :
    ∃ t, execLongPressReset strap s = .next t ∧ t.sys.st = .boot ∧ t.wdg.enabled = true := by
  obtain ⟨hst, hen, -⟩ := moduleReset_boots 3 6 (s.modSys fun y => { y with strap := strap })
  exact ⟨_, by simp [execLongPressReset, hp, hl, hk], hst, hen⟩

theorem deferredReset_eq {s : State} (hst : s.sys.st = .standby ∨ s.sys.st = .recovery ∨ s.sys.st = .safe)
    (hc : s.sys.chg = [.reset]) (ha : s.sys.acted = 0) :
    execDeferredStateChange s = .next (moduleReset 2 1 (dropOf .reset s)) := by
  obtain h | h | h := hst <;> simp [execDeferredStateChange, State.powered, hc, ha, h]
theorem deferredBootFw_eq {s : State} (hst : s.sys.st = .standby ∨ s.sys.st = .recovery)
    (hc : s.sys.chg = [.bootFw]) (ha : s.sys.acted = 0) :
    execDeferredStateChange s = .next (moduleReset 5 4 (activate (dropOf .bootFw s))) := by
  obtain h | h := hst <;> simp [execDeferredStateChange, State.powered, hc, ha, h]

theorem deferredStateChange_boots {s : State} (ha : s.sys.acted = 0)
    (h : (s.sys.st = .standby ∨ s.sys.st = .recovery) ∧ (s.sys.chg = [.reset] ∨ s.sys.chg = [.bootFw]) ∨
      s.sys.st = .safe ∧ s.sys.chg = [.reset]) :
    ∃ t, execDeferredStateChange s = .next t ∧ t.sys.st = .boot ∧ t.wdg.enabled = true ∧ t.sys.addr = s.sys.strap := by
  obtain ⟨hst, hc | hc⟩ | ⟨hst, hc⟩ := h
  · obtain ⟨hboot, hen, haddr, -⟩ := moduleReset_boots 2 1 (dropOf .reset s)
    exact ⟨_, deferredReset_eq (hst.imp_right .inl) hc ha, hboot, hen, haddr⟩
  · obtain ⟨hboot, hen, haddr, -⟩ := moduleReset_boots 5 4 (activate (dropOf .bootFw s))
    exact ⟨_, deferredBootFw_eq hst hc ha, hboot, hen, haddr⟩
  · obtain ⟨hboot, hen, haddr, -⟩ := moduleReset_boots 2 1 (dropOf .reset s)
    exact ⟨_, deferredReset_eq (.inr (.inr hst)) hc ha, hboot, hen, haddr⟩

/-- In BOOT every rung of the ladder is a module reset with recovery requested (R333, R357). -/
theorem wdgFail_in_boot {s : State} (hb : s.sys.st = .boot) (cause tok pcs) :
    (wdgFail cause tok pcs s).sys.st = .boot ∧ (wdgFail cause tok pcs s).sys.recReq = true ∧
      (wdgFail cause tok pcs s).wdg.enabled = true := by
  unfold wdgFail
  extract_lets w f rung req miss seen ev s₁ s₂
  have boot : (grace s₂).sys.st = .boot := by simp [s₂, s₁, hb, grace]
  simp only [ladderAct, boot]
  obtain ⟨hst, hen, -, hrec⟩ := moduleReset_boots 4 (grace s₂).sys.cause
    ((grace s₂).modSys fun y => { y with recReq := true })
  exact ⟨hst, hrec, hen⟩

theorem early_service_eq {s : State} {tok pcs} (hr : wdgRuns s = true) (hb : s.sys.st = .boot)
    (hg : s.wdg.grace = false) (hc : s.wdg.count < s.wdg.openT) :
    execWdgService 0 tok pcs s = .next (wdgFail 2 tok pcs s) := by
  simp [execWdgService, State.powered, hb, hr, hg, wdgWindow, hc]

/-! ### The ladder's length and the evidence -/

theorem runSetLadder_in_range {a : List Word} (hlo : 1 ≤ arg a 0) (hhi : arg a 0 ≤ 7) (s : State) :
    runSetLadder a s = .now 0 [] { s with wdg := { s.wdg with n := arg a 0 } } := by
  simp [runSetLadder, checked, first, rng, hlo, hhi, done, State.modWdg]

/-- The words in which `WDG_GET_EVIDENCE` returns a piece of evidence (R337). -/
def evidenceWords (e : Evidence) : List Word :=
  (e.pcs.flatMap fun p => wordsOf 2 p.toNat) ++ wordsOf 4 e.lastGood ++ wordsOf 4 e.time ++ [word e.rung, e.missing]

theorem getD_length_sub_two (l : List Word) (a b : Word) :
    (l ++ [a, b]).getD ((l ++ [a, b]).length - 2) 0 = a := by simp

theorem runEvidence_newest {a : List Word} {s : State} {e es} (h0 : arg a 0 = 0) (h : s.wdg.evidence = e :: es) :
    runEvidence a s = .now 0 (evidenceWords e) s := by
  simp [runEvidence, checked, first, rng, h0, h, doneWith, evidenceWords]

theorem runEvidence_none {a : List Word} {s : State} (h0 : arg a 0 = 0) (h : s.wdg.evidence = []) :
    runEvidence a s = .now 0x22 [] s := by
  simp [runEvidence, checked, first, rng, h0, h, deny]

/-- Settles O21, clause by clause from the effects above. -/
theorem watchdogIsDisabledOnlyByItsKey : Obligations.WatchdogIsDisabledOnlyByItsKey := by
  unfold Obligations.WatchdogIsDisabledOnlyByItsKey
  refine fun via args s => ⟨?_, ?_, fun strap low => ⟨?_, ?_, ?_⟩, ?_, ?_, ?_, ?_⟩
  · intro ha h0 h1 h2
    have right := runDisable_right (wdgKey_eq.mpr ⟨h0, h1, h2⟩) s
    obtain ⟨hw, hseq, hcls, hrec, heq⟩ := rightKey_answered (planeUp_of_accepts ha) via
    refine ⟨_, (hostCommand_of_accepts ha runDisable).trans (by rw [right]; rfl), answerOf_answer .., ?_⟩
    refine ⟨?_, ?_, ?_, ?_, ?_, ?_, hseq, hcls, hrec, heq⟩ <;> simp [unwatched, wdgRuns]
  · intro ha hk
    have wrong := runDisable_wrong (fun h => hk (wdgKey_eq.mp h)) s
    exact ⟨_, (hostCommand_of_accepts ha runDisable).trans (by rw [wrong]; rfl), answerOf_answer ..,
      wrongKey_answered via s⟩
  · exact fun p hs hr hu => hkPathQualify_boots hs hr hu strap low
  · exact fun hp hl hk => longPressReset_boots hp hl hk strap
  · exact fun h ha => deferredStateChange_boots ha h
  · exact fun tok pcs hr hb hg hc => ⟨_, early_service_eq hr hb hg hc, wdgFail_in_boot hb 2 tok pcs⟩
  · intro ha hlo hhi
    exact (hostCommand_of_accepts ha runSetLadder).trans (by rw [runSetLadder_in_range hlo hhi]; rfl)
  · intro e es ha h0 he
    exact ⟨evidenceWords e, (hostCommand_of_accepts ha runEvidence).trans (by rw [runEvidence_newest h0 he]; rfl),
      by simp [evidenceWords], getD_length_sub_two ..⟩
  · intro ha h0 he
    exact (hostCommand_of_accepts ha runEvidence).trans (by rw [runEvidence_none h0 he]; rfl)

end Sys2Proof.Machine
end

/-! ## Alerts: a full queue drops the least urgent one, an acknowledgement removes -/

section
namespace Sys2Proof.Machine

/-! ### The highest class in a queue, and its oldest alert -/

/-- The highest class in an alert queue, as `evict` finds it (R439). -/
def topClass (q : List Alert) : Nat := q.foldl (fun m a => max m a.cls) 0

theorem evict_eq (c q) :
    evict c q = if c ≤ topClass q then some (q.eraseP fun a => a.cls = topClass q) else none := rfl

theorem max?_classes (q : List Alert) : (0 :: q.map (·.cls)).max? = some (topClass q) := by
  rw [List.max?_cons', List.foldl_map]
  rfl

theorem cls_le_topClass {q : List Alert} {b} (hb : b ∈ q) : b.cls ≤ topClass q :=
  (List.max?_eq_some_iff.mp (max?_classes q)).2 _ (.tail _ (List.mem_map_of_mem hb))

theorem exists_cls_eq_topClass {q : List Alert} (hq : q ≠ []) : ∃ b ∈ q, b.cls = topClass q := by
  obtain h | h := List.mem_cons.mp (List.max?_eq_some_iff.mp (max?_classes q)).1
  · obtain ⟨b, hb⟩ := List.exists_mem_of_ne_nil q hq
    exact ⟨b, hb, by have := cls_le_topClass hb; omega⟩
  · exact List.mem_map.mp h

theorem topClass_eq {q : List Alert} {h} (hh : h ∈ q) (hmax : ∀ b ∈ q, b.cls ≤ h.cls) : topClass q = h.cls := by
  obtain ⟨b, hb, top⟩ := exists_cls_eq_topClass (List.ne_nil_of_mem hh)
  exact Nat.le_antisymm (top ▸ hmax b hb) (cls_le_topClass hh)

/-- Erasing the first alert of a class erases the place at which that class first stands. -/
theorem eraseP_cls_eq_eraseIdx {q : List Alert} {k h} (hk : q[k]? = some h) (hold : ∀ b ∈ q.take k, b.cls < h.cls) :
    q.eraseP (fun a => a.cls = h.cls) = q.eraseIdx k := by
  obtain ⟨hlt, rfl⟩ := List.getElem?_eq_some_iff.mp hk
  have first : q.findIdx? (fun a => a.cls = q[k].cls) = some k := by
    refine List.findIdx?_eq_some_iff_getElem.mpr ⟨hlt, by simp, fun j hj => ?_⟩
    have older := hold q[j] (List.mem_take_iff_getElem.mpr ⟨j, by omega, rfl⟩)
    simpa using older.ne
  rw [List.eraseP_eq_eraseIdx, first]

/-! ### Raising an alert with the queue full -/

/-- With the queue full an alert is counted as lost, and queued only where an older one makes room (R439). -/
theorem enqueue_full {s : State} (h : s.alr.queue.length = 64) (a : Alert) :
    (enqueue a s).alr = { s.alr with
      nextSeq := s.alr.nextSeq + 1, overflow := true, lost := min 0xFFFF (s.alr.lost + 1)
      queue := (evict a.cls s.alr.queue).elim s.alr.queue (· ++ [{ a with seq := s.alr.nextSeq }]) } := by
  unfold enqueue
  simp only [h, Nat.lt_irrefl, if_false]
  cases evict a.cls s.alr.queue <;> rfl

/-- An alert of class 0 always finds room: one alert of those present goes. -/
theorem evict_zero {q : List Alert} (hq : q ≠ []) : ∃ p, evict 0 q = some p ∧ p ⊆ q ∧ p.length + 1 = q.length := by
  obtain ⟨b, hb, top⟩ := exists_cls_eq_topClass hq
  have pos := List.length_pos_of_mem hb
  refine ⟨_, by rw [evict_eq, if_pos (Nat.zero_le _)], List.eraseP_sublist.subset, ?_⟩
  rw [List.length_eraseP_of_mem hb (by simp [top])]
  omega

/-- An alert raised with its record, while the control plane is up, carries the number of that record (R441). -/
theorem alertRec_names_record {f : State → State} {s : State} (up : planeDown (f s) = false)
    (recorded : (f s).bbx.nextSeq = s.bbx.nextSeq + 1) (cls kind reason inst param) :
    ∃ a : Alert, a.cls = cls ∧ a.kind = kind ∧ a.reason = reason ∧ a.inst = inst ∧ a.bbxSeq = s.bbx.nextSeq ∧
      alertRec f cls kind reason inst param s = enqueue a (f s) := by
  have number : recSince s (f s) = s.bbx.nextSeq := by simp [recSince, lastRec, recorded]
  rw [alertRec, number, alertAt, up]
  exact ⟨_, rfl, rfl, rfl, rfl, rfl, rfl⟩

@[simp] theorem planeDown_record (type pl s) : planeDown (record type pl s) = planeDown s := by simp [planeDown]
@[simp] theorem planeDown_event (c params s) : planeDown (event c params s) = planeDown s := by simp [planeDown]

/-- An alert raised with the queue full, whose oldest alert of the highest class is `h` at place `k` (R439). -/
theorem alertRec_of_full {s : State} {k : Fin 64} {h : Alert} (type pl cls kind reason inst param)
    (up : planeDown s = false) (full : s.alr.queue.length = 64) (hk : s.alr.queue[k.val]? = some h)
    (hmax : ∀ b ∈ s.alr.queue, b.cls ≤ h.cls) (hold : ∀ b ∈ s.alr.queue.take k.val, b.cls < h.cls) :
    let t := alertRec (record type pl) cls kind reason inst param s
    t.alr.overflow = true ∧ t.alr.lost = min 0xFFFF (s.alr.lost + 1) ∧ t.alr.nextSeq = s.alr.nextSeq + 1 ∧
    t.bbx.nextSeq = s.bbx.nextSeq + 1 ∧ (h.cls < cls → t.alr.queue = s.alr.queue) ∧
    (cls ≤ h.cls → ∃ a, t.alr.queue = s.alr.queue.eraseIdx k.val ++ [a] ∧
      a.cls = cls ∧ a.kind = kind ∧ a.reason = reason ∧ a.inst = inst ∧ a.seq = s.alr.nextSeq ∧
      a.bbxSeq = s.bbx.nextSeq) := by
  obtain ⟨a, hcls, hkind, hreason, hinst, hrec, heq⟩ := alertRec_names_record (f := record type pl)
    (by simpa using up) rfl cls kind reason inst param
  have alr : (record type pl s).alr = s.alr := by simp
  have top := topClass_eq (List.mem_of_getElem? hk) hmax
  dsimp only
  rw [heq, enqueue_full (by rw [alr, full]), alr, hcls, evict_eq, top, eraseP_cls_eq_eraseIdx hk hold]
  refine ⟨rfl, rfl, rfl, by simp [record], fun above => ?_, fun below => ?_⟩
  · simp [Nat.not_le.mpr above]
  · exact ⟨{ a with seq := s.alr.nextSeq }, by simp [below, hcls], hcls, hkind, hreason, hinst, rfl, hrec⟩

/-! ### The trip of a port that does not precharge -/

/-- Outside a withholding window the newest record is the EVENT record. -/
theorem event_getLast {s : State} (h : s.bbx.windows = []) (c params) :
    (event c params s).bbx.queue.getLast?.map (·.type) = some 0x0D := by
  simp [event, recordKeyed, h, record, BbxItem.type]

/-- An alert of an event has been queued in a full queue: one of those present is gone and counted, and the new one
names the event's record (R439, R441). -/
def MadeRoom (s t : State) : Prop :=
  t.alr.lost = min 0xFFFF (s.alr.lost + 1) ∧ t.alr.overflow = true ∧ t.alr.queue.length = 64 ∧
    t.bbx.nextSeq = s.bbx.nextSeq + 1 ∧ t.bbx.queue.getLast?.map (·.type) = some 0x0D ∧
    ∀ a ∈ t.alr.queue, a.seq = s.alr.nextSeq → a ∉ s.alr.queue → a.bbxSeq = s.bbx.nextSeq

/-- With the queue full an event's alert of class 0 takes the place of another. -/
theorem urgentEvent_of_full {s : State} (c params kind reason inst param) (up : planeDown s = false)
    (full : s.alr.queue.length = 64) (hw : s.bbx.windows = []) :
    MadeRoom s (alertRec (event c params) 0 kind reason inst param s) := by
  have recorded := event_nextSeq hw c params
  have alr : (event c params s).alr = s.alr := by simp
  obtain ⟨a, hcls, -, -, -, hrec, heq⟩ :=
    alertRec_names_record (by simpa using up) recorded 0 kind reason inst param
  obtain ⟨p, hevict, hsub, hlen⟩ := evict_zero (q := s.alr.queue) (by intro h; simp [h] at full)
  rw [heq, MadeRoom, enqueue_full (by rw [alr, full]), alr, hcls, hevict, enqueue_eq]
  refine ⟨rfl, rfl, by simp; omega, recorded, event_getLast hw .., fun b hb _ hnew => ?_⟩
  obtain old | new := List.mem_append.mp hb
  · exact absurd (hsub old) hnew
  · rw [List.mem_singleton.mp new]
    exact hrec

theorem execPrechargeTrip_eq {x : Fin 4} {s : State} (h : s.ports[x].state = .precharge) :
    execPrechargeTrip x s = .next (tripPort x 4 s) := congrArg _ (if_pos h)

/-- A trip is one urgent event; the port's own change touches neither alerts nor records. -/
theorem tripPort_of_full {s : State} (x cause) (up : planeDown s = false) (full : s.alr.queue.length = 64)
    (hw : s.bbx.windows = []) : MadeRoom s (tripPort x cause s) := by
  simp only [tripPort, MadeRoom, changePort_keeps]
  exact urgentEvent_of_full _ _ 4 cause x.val _ up full hw

/-! ### Acknowledgement -/

theorem wordOf_toNat (n k : Nat) : (wordOf n k).toNat = n / 2 ^ (16 * k) % 65536 := by
  have digit : ((n : Int) / 2 ^ (16 * k)) = ((n / 2 ^ (16 * k) : Nat) : Int) := by push_cast; rfl
  rw [wordOf, digit, BitVec.ofInt_natCast, BitVec.toNat_ofNat]

/-- Both halves of a 32-bit register, written one after the other, leave the number written. -/
theorem putWord_halves {n : Nat} (h : n < 2 ^ 32) (old : Nat) :
    putWord (putWord old false (wordOf n 0)) true (wordOf n 1) = n := by
  simp only [putWord, wordOf_toNat, if_true, Bool.false_eq_true, if_false]
  omega

/-- After a change of the queue ALERT# is released if nothing is queued, and the buses are as before otherwise (R231). -/
theorem settleAlert_spec (s : State) (alr : Alr) :
    let t := settleAlert { s with alr := alr }
    t.alr = alr ∧ (t.alr.queue = [] → t.bus.alertOut = false) ∧ (t.alr.queue ≠ [] → t.bus = s.bus) ∧
      t = { s with alr := t.alr, bus := t.bus } := by
  dsimp only
  unfold settleAlert
  split
  · next empty =>
    refine ⟨rfl, fun _ => ?_, fun h => absurd (List.isEmpty_iff.mp empty) h, rfl⟩
    unfold Bus.lineLevel
    split <;> rfl
  · next queued => exact ⟨rfl, fun h => absurd (List.isEmpty_iff.mpr h) queued, fun _ => rfl, rfl⟩

/-- `ALR_ACK` acts on the sequence number that both its words make (R438). -/
theorem execAlrAck_eq {seq : Nat} {s : State} (hp : s.powered = true) (hseq : seq < 2 ^ 32) :
    execAlrAck seq s = .next (ackBySeq { s with alr := { s.alr with ackSeq := seq } }) := by
  have written : applyWords false [(0x202, wordOf seq 0), (0x203, wordOf seq 1)] s = ackBySeq { s with alr :=
      { s.alr with ackSeq := putWord (putWord s.alr.ackSeq false (wordOf seq 0)) true (wordOf seq 1) } } := rfl
  rw [putWord_halves hseq] at written
  simp [execAlrAck, hostWrite, hp, written]

/-- `ALR_ACK_CLASS` keeps the alerts whose class has no bit set in the mask (R438). -/
theorem execAlrAckClass_eq {s : State} (hp : s.powered = true) (mask : BitVec 4) :
    execAlrAckClass mask s = .next (settleAlert
      { s with alr := { s.alr with queue := s.alr.queue.filter fun a => !mask.getLsbD a.cls } }) := by
  have written : writeOne 0x204 (mask.setWidth 16) s = ackByClass (mask.setWidth 16) s := rfl
  have bit (c : Nat) : ((mask.setWidth 16).getLsbD c && decide (c < 4)) = mask.getLsbD c := by grind
  simp only [execAlrAckClass, hostWrite, hp, if_true, written, ackByClass, bit]

theorem ackBySeq_of_mem {s : State} (h : ∃ a ∈ s.alr.queue, a.seq = s.alr.ackSeq) :
    ackBySeq s = settleAlert { s with alr := { s.alr with queue := s.alr.queue.filter fun a => a.seq ≠ s.alr.ackSeq } } :=
  if_pos (by simpa using h)
theorem ackBySeq_of_not_mem {s : State} (h : ∀ a ∈ s.alr.queue, a.seq ≠ s.alr.ackSeq) :
    ackBySeq s = { s with alr := { s.alr with ackMiss := true } } :=
  if_neg (by simpa using h)

/-- A mask of four bits asks for no class from 4 on. -/
theorem unasked_iff {mask : BitVec 4} {c : Nat} : (c < 4 → mask.getLsbD c = false) ↔ mask.getLsbD c = false :=
  ⟨fun h => (Nat.lt_or_ge c 4).elim h (BitVec.getLsbD_of_ge mask c), fun h _ => h⟩

/-- Settles O34: what `evict` takes from a full queue, and what each acknowledgement filters out. -/
theorem alertsQueueAndAreAcknowledged : Obligations.AlertsQueueAndAreAcknowledged := by
  unfold Obligations.AlertsQueueAndAreAcknowledged
  refine ⟨⟨fun type pl cls kind reason inst param k h s => alertRec_of_full type pl cls kind reason inst param,
    fun x s _ hp up full hw => ⟨_, execPrechargeTrip_eq hp, tripPort_of_full x 4 up full hw⟩⟩, fun s hp => ⟨?_, ?_, ?_⟩⟩
  · intro seq hseq present
    obtain ⟨halr, hrelease, hbus, heq⟩ := settleAlert_spec s
      { s.alr with ackSeq := seq, queue := s.alr.queue.filter fun a => a.seq ≠ seq }
    exact ⟨_, (execAlrAck_eq hp hseq).trans (by rw [ackBySeq_of_mem present]), by rw [halr],
      by rw [halr], hrelease, hbus, heq⟩
  · intro seq hseq unknown
    exact ⟨_, (execAlrAck_eq hp hseq).trans (by rw [ackBySeq_of_not_mem unknown]), rfl, rfl⟩
  · intro mask
    obtain ⟨halr, hrelease, -, heq⟩ := settleAlert_spec s
      { s.alr with queue := s.alr.queue.filter fun a => !mask.getLsbD a.cls }
    refine ⟨_, execAlrAckClass_eq hp mask, fun a => ?_, hrelease, heq⟩
    rw [halr, List.mem_filter, Bool.not_eq_true', unasked_iff]

end Sys2Proof.Machine
end

/-! ## The module state moves along the transitions of R26

`Moves` says so of two states; `Served` is what an operation that may carry out waiting commands does: it stays, or
moves between STANDBY, RUN and SAFE, ending in STANDBY or SAFE. -/

section
open Sys2Proof.Claims

namespace Sys2Proof.Machine

/-- The module state stays or moves along a transition that R26 lists. -/
def Moves (s t : State) : Prop := t.sys.st = s.sys.st ∨ t.sys.st ∈ Claims.listed s.sys.st

/-- STANDBY, RUN or SAFE: the states that HOLD leads to. -/
def Working (st : ModState) : Prop := st = .standby ∨ st = .run ∨ st = .safe

/-- The module state stays, or moves within STANDBY, RUN and SAFE to STANDBY or SAFE. -/
def Served (s t : State) : Prop :=
  t.sys.st = s.sys.st ∨ Working s.sys.st ∧ (t.sys.st = .standby ∨ t.sys.st = .safe)

section
variable {s t u : State}

theorem Moves.of_eq (h : t.sys.st = s.sys.st) : Moves s t := .inl h
theorem Moves.of_still (h : Still s t) : Moves s t := .inl h.2
theorem Moves.to {a b : ModState} (hs : s.sys.st = a) (ht : t.sys.st = b) (h : b ∈ Claims.listed a) : Moves s t :=
  .inr (by rw [hs, ht]; exact h)
theorem Moves.then (h : Moves s t) (k : t.sys.st = u.sys.st) : Moves s u := by rwa [Moves, ← k]
theorem Moves.after (h : t.sys.st = s.sys.st) (k : Moves t u) : Moves s u := by rwa [Moves, ← h]

theorem Served.refl (s) : Served s s := .inl rfl
theorem Served.of_still (h : Still s t) : Served s t := .inl h.2
theorem Served.trans (h : Served s t) (k : Served t u) : Served s u := by
  unfold Served Working at *
  grind
theorem Served.then (h : Served s t) (k : Still t u) : Served s u := h.trans (.of_still k)
theorem Served.moves (h : Served s t) : Moves s t := by
  obtain h | ⟨hs, ht⟩ := h
  · exact .inl h
  · unfold Moves
    obtain hs | hs | hs := hs <;> obtain ht | ht := ht <;> simp [hs, ht, Claims.listed]
theorem Served.working (h : Served s t) (hs : Working s.sys.st) : Working t.sys.st := by
  unfold Served Working at *
  grind

end

/-! ### Commands -/

/-- A command that changes the module state only on success is held to the states of its row (R254, R255). -/
theorem issue_allowed {op run via args s c} (hc : cmdInfo op = some c)
    (h : Still s (Reply.next (run args s)) ∨ ∃ u, run args s = done u) :
    Still s (issue op run via args s) ∨ s.sys.st ∈ c.states ∧ Still (run args s).next (issue op run via args s) := by
  obtain h | ⟨u, h⟩ := h
  · exact .inl (issue_still op run via args s h)
  by_cases hin : s.sys.st ∈ c.states
  · exact (issue_still_or op run via args s).imp_right (⟨hin, ·⟩)
  · left
    have late : lateReply op s (run args s) = deny 0x30 s := by simp [h, done, lateReply, recheck, hc, hin]
    have barred : gate op s ≠ none := by
      intro hg
      simp only [gate, hc] at hg
      split_ifs at hg
      simp_all
    obtain ⟨code, hcode⟩ := Option.ne_none_iff_exists'.mp barred
    unfold issue
    rw [late, hcode]
    dsimp only
    split_ifs
    · exact ⟨rfl, rfl⟩
    · exact deliver_still via _
    · exact ⟨rfl, rfl⟩
    · simp

theorem enterStandby_st (cause s) : (enterStandby cause s).sys.st = .standby ∨ (enterStandby cause s).sys.st = .safe := by
  unfold enterStandby
  dsimp only
  split_ifs <;> simp

@[simp] theorem enterRun_st (cause s) : (enterRun cause s).sys.st = .run := by
  simp [enterRun]

theorem issueSafe_served (via args s) : Served s (issue 0x0104 runSafe via args s) := by
  obtain h | ⟨hin, -, hst⟩ := issue_allowed (via := via) (args := args) (s := s) (run := runSafe) (c := _)
    (show cmdInfo 0x0104 = some ⟨0x0104, [.standby, .run], false, 0, .c0⟩ from rfl) (.inr ⟨_, rfl⟩)
  · exact .of_still h
  · refine .inr ⟨?_, .inr (by simp [hst, runSafe, done])⟩
    obtain h | h := by simpa using hin
    · exact .inl h
    · exact .inr (.inl h)

theorem issueLeaveSafe_served (via args s) : Served s (issue 0x0105 runLeaveSafe via args s) := by
  have effect : Still s (runLeaveSafe args s).next ∨ ∃ u, runLeaveSafe args s = done u := by
    unfold runLeaveSafe
    split
    · exact .inl ⟨rfl, rfl⟩
    · exact .inr ⟨_, rfl⟩
  obtain h | ⟨hin, -, hst⟩ := issue_allowed (via := via)
    (show cmdInfo 0x0105 = some ⟨0x0105, [.safe], false, 0, .c0⟩ from rfl) effect
  · exact .of_still h
  · have hs : s.sys.st = .safe := by simpa using hin
    by_cases held : (s.sys.estop || latchedFault s) = true
    · exact .inl (by rw [hst, runLeaveSafe, if_pos held]; rfl)
    · refine .inr ⟨.inr (.inr hs), ?_⟩
      rw [hst, runLeaveSafe, if_neg held]
      simpa [done] using enterStandby_st 1 s

theorem issue_st {op run via args s} (h : (Reply.next (run args s)).sys.st = s.sys.st) :
    (issue op run via args s).sys.st = s.sys.st :=
  (issue_still_or op run via args s).elim (·.2) (·.2.trans h)

theorem issueRun_moves (via args s) : Moves s (issue 0x0102 runRun via args s) := by
  obtain h | ⟨hin, -, hst⟩ := issue_allowed (via := via) (args := args) (s := s) (run := runRun)
    (show cmdInfo 0x0102 = some ⟨0x0102, [.standby], false, 0, .c0⟩ from rfl) (.inr ⟨_, rfl⟩)
  · exact .of_still h
  · exact .to (b := .run) (by simpa using hin) (by simp [hst, runRun, done]) (by decide)

/-! ### What a waiting command, a fault action and the service console do -/

theorem faultAction_served (s) : Served s (faultAction s) := by
  unfold faultAction
  split
  · split
    · exact .of_still (issue_still _ _ _ _ _ (by simp))
    · exact .refl s
  · split
    · exact issueSafe_served _ _ s
    · exact .refl s
  · exact .refl s

theorem issueMon_served {op run} (h : monRunOf op = some run) (args s) : Served s (issue op run .monitor args s) := by
  unfold monRunOf at h
  split at h <;> simp only [Option.some.injEq, reduceCtorEq] at h <;> subst h
  case h_2 => exact issueLeaveSafe_served _ args s
  all_goals exact .of_still (issue_still _ _ _ _ _ (by simp))

theorem passCmd_served {op run} (h : monRunOf op = some run) (args s) : Served s (passCmd op run args s) := by
  have issued : Served s (issue op run .monitor args { s with monAnswer := none }) :=
    Served.trans (.of_still (by simp)) (issueMon_served h args _)
  unfold passCmd
  dsimp only
  split <;> exact issued.then (by simp)

theorem retryCmd_served (s) : Served s (retryCmd s) := by
  unfold retryCmd
  split
  · exact .refl s
  · split
    · exact .refl s
    · next run h => exact passCmd_served h _ s

theorem monAgain_served (s) : Served s (monAgain s) := by
  unfold monAgain
  split
  · exact retryCmd_served s
  · exact .of_still (by simp)

theorem putOff_served (s) : Served s (putOff s) := by
  have faulted (u : State) : Served u
      (if u.bp.faultWaits then faultAction (u.modBp fun b => { b with faultWaits := false }) else u) := by
    split
    · exact Served.trans (.of_still (by simp)) (faultAction_served _)
    · exact .refl u
  unfold putOff
  refine (faulted s).then ?_
  simp

theorem planeUp_served (s) : Served s (planeUp s) := by
  have reviewed (u : State) :
      Still u (newPeriod (writePending (queueDeferred (saveTimes (foldFin 32 reviewTap u))))) := by simp
  unfold planeUp
  refine Served.then (Served.trans (.of_still ?_) (monAgain_served _)) (reviewed _)
  simp

/-! ### Changes of the module state -/

theorem ranked_moves {r f s} (h : Moves s (f s)) : Moves s (ranked r f s) := by
  unfold ranked
  split
  · exact .inl rfl
  · exact h

theorem withFlt_moves {f : State → State} {s} (h : Moves s (f s)) : Moves s (withFlt f s) := h.then (by simp)

theorem profileCommit_moves (k s) : Moves s (profileCommit k s) := by
  unfold profileCommit
  extract_lets p _ s₁ s₂
  have entry : Moves s s₂ := by
    simp only [s₂]
    split_ifs with h
    · have hst : s.sys.st = .standby := by
        obtain ⟨-, hst⟩ := by simpa using h
        exact hst
      exact .to (b := .run) hst (by simp) (by decide)
    · exact .inl rfl
  refine entry.then ?_
  split
  · split <;> simp
  · rfl

theorem commit_moves (s) : Moves s (commit s) := by
  unfold commit
  dsimp only
  split
  · exact .after (by simp) (profileCommit_moves _ _)
  · exact .of_eq (by simp)

theorem edgeEnd_moves (fits s) : Moves s (edgeEnd fits s) := by
  unfold edgeEnd
  dsimp only
  split
  · exact .after (by simp) (commit_moves _)
  · exact .of_eq (by simp)

theorem goHold_st (cause s) : (goHold cause s).sys.st = .hold := by
  unfold goHold
  split <;> simp [enterHold, loseCores]

theorem moduleReset_st (last cause s) : (moduleReset last cause s).sys.st = .boot := by
  simp [moduleReset, enterBoot]

/-- HOLD leads to STANDBY, RUN or SAFE, as long as it remembers STANDBY or RUN. -/
theorem leaveHold_working {s : State} (h : s.sys.before = .standby ∨ s.sys.before = .run) :
    Working (leaveHold s).sys.st := by
  have standby (cause u) : Working (enterStandby cause u).sys.st :=
    (enterStandby_st cause u).imp_right .inr
  unfold leaveHold
  split
  · exact standby _ _
  · split
    · exact standby _ _
    · have hrun : s.sys.before = .run := h.resolve_left ‹_›
      exact .inr (.inl (by simp [hrun]))

theorem Working.listed_of_hold {s t : State} (hs : s.sys.st = .hold) (ht : Working t.sys.st) : Moves s t := by
  obtain h | h | h := ht <;> exact .to hs h (by decide)

theorem hardwareFault_moves (s) : Moves s (hardwareFault s) := by
  unfold hardwareFault
  split
  case h_4 => exact .inl rfl
  all_goals exact ranked_moves (.to ‹_› (enterSafe_st 7 s) (by decide))

theorem ladderSafe_moves {s : State} (h : .safe ∈ Claims.listed s.sys.st) :
    Moves s (ranked 4 (fun s => enterSafe 3 (if s.sys.trial then dropTrial s else s)) s) :=
  ranked_moves (.inr (by simpa using h))

theorem ladderHold_moves {s : State} (h : .hold ∈ Claims.listed s.sys.st) :
    Moves s (ranked 6 (fun s => goHold 2 (revert s)) s) :=
  ranked_moves (.inr (by simpa [goHold_st] using h))

theorem restartCore_st (c s) : (restartCore c s).sys.st = s.sys.st := by simp [restartCore]
theorem restartAll_st (s) : (restartAll s).sys.st = s.sys.st := by simp [restartAll, loseCores]

theorem ladderAct_moves (rung core s) : Moves s (ladderAct rung core s) := by
  unfold ladderAct
  split
  · next h => exact .of_eq (by rw [moduleReset_st, h])
  · next h =>
    split
    · exact .of_eq (restartCore_st core s)
    · exact ladderHold_moves (by rw [h]; decide)
    · exact ladderSafe_moves (by rw [h]; decide)
  · next h =>
    split
    · exact .of_eq (restartCore_st core s)
    · exact ladderHold_moves (by rw [h]; decide)
    · exact ladderSafe_moves (by rw [h]; decide)
  · next h =>
    split
    · exact .inl rfl
    · exact .of_still (revert_still s)
    · exact ladderSafe_moves (by rw [h]; decide)
  · split
    · exact .of_eq (restartCore_st core s)
    · exact .of_eq (by simp [restartAll_st])
    · exact .of_eq (by rw [restartAll_st]; split <;> simp)
  · exact .of_eq (restartCore_st 0 s)
  all_goals exact .inl rfl

theorem wdgFail_moves (cause tok pcs s) : Moves s (wdgFail cause tok pcs s) := by
  unfold wdgFail
  exact .after (by simp [grace]) (ladderAct_moves _ _ _)

/-! ### The rows that move the module -/

theorem execWdgService_moves (core tok pcs s) : Moves s (landing s (execWdgService core tok pcs s)) := by
  unfold execWdgService
  split
  · exact .inl rfl
  · split
    · exact .of_eq (by simp)
    · split_ifs
      · exact .inl rfl
      · exact wdgFail_moves 2 tok pcs s
      · exact wdgFail_moves 1 0 pcs s
      · exact wdgFail_moves 4 tok pcs s
      · exact wdgFail_moves 3 tok pcs s
      · exact .of_eq (by simp [wdgAccept])

theorem execWdgLate_moves (pcs s) : Moves s (landing s (execWdgLate pcs s)) := by
  unfold execWdgLate
  dsimp only [landing_next]
  split
  · exact .after rfl (wdgFail_moves 1 0 pcs _)
  · exact .inl rfl

theorem execStandbyRampEnd_moves (s) : Moves s (landing s (execStandbyRampEnd s)) := by
  unfold execStandbyRampEnd
  split
  · next h =>
    obtain ⟨-, hrun⟩ := by simpa using h
    dsimp only [landing_next]
    obtain h | h := enterStandby_st 1 ((leaveRun s).mapTaps fun _ t => { t with stake := t.stake.halt })
    · exact .to hrun h (by decide)
    · exact .to hrun h (by decide)
  · exact .inl rfl

theorem execCommitEdge_moves (edge s) : Moves s (landing s (execCommitEdge edge s)) := by
  unfold execCommitEdge
  dsimp only [landing_next]
  split
  · exact .inl rfl
  · split
    · exact .after (by simp) (edgeEnd_moves _ _)
    · exact .of_eq (by simp)

theorem execFaultEdge_moves (own s) : Moves s (landing s (execFaultEdge own s)) := by
  unfold execFaultEdge
  split
  · exact .inl rfl
  · dsimp only [landing_next]
    split
    · exact .of_eq (by simp)
    · exact .after (by simp) (faultAction_served _).moves

theorem startUp_moves {s : State} (h : s.sys.st = .off ∨ s.sys.st = .ship) (p strap low last) :
    Moves s (startUp p strap low last s) := by
  obtain h | h := h <;> exact .to h (startUp_st ..) (by decide)

theorem execHkPathQualify_moves (p strap low s) : Moves s (landing s (execHkPathQualify p strap low s)) := by
  unfold execHkPathQualify
  split
  · exact .inl rfl
  · split
    · exact .inl rfl
    · dsimp only [landing_next]
      split
      · next hoff =>
        split
        · exact .to hoff (b := .ship) (by simp) (by decide)
        · exact startUp_moves (.inl hoff) ..
      · next hship =>
        split
        · exact .inl rfl
        · exact startUp_moves (.inr hship) ..
      · exact .of_still (by simp)

/-- Loss of housekeeping and the hold-up's end lead from every powered state to OFF. -/
theorem execHoldUpEnd_moves (s) : Moves s (landing s (execHoldUpEnd s)) := by
  unfold execHoldUpEnd
  dsimp only [landing_next]
  split
  · next h =>
    obtain ⟨hp, -⟩ := by simpa using h
    refine .inr ?_
    rw [unpower_st]
    unfold State.powered at hp
    cases hst : s.sys.st <;> simp_all [Claims.listed]
  · exact .inl rfl

theorem execShipEntry_moves (s) : Moves s (landing s (execShipEntry s)) := by
  unfold execShipEntry
  split
  · exact .inl rfl
  · split
    · next h => exact .to h (unpower_st ..) (by decide)
    · exact .of_still (by simp)

theorem execBootComplete_moves (a b c s) : Moves s (landing s (execBootComplete a b c s)) := by
  unfold execBootComplete
  split
  · exact .inl rfl
  · next h =>
    extract_lets ok finish running alone
    have boot : s.sys.st = .boot := not_not.mp h
    have recovery (cause u) : (bootToRecovery cause u).sys.st = .recovery := by simp [bootToRecovery]
    dsimp only [landing_next]
    refine withFlt_moves ?_
    split
    · split
      · exact .to boot (b := .safe) (by simp [alone]) (by decide)
      · exact .to boot (recovery _ _) (by decide)
    · split_ifs
      · exact .to boot (b := .safe) (by simp [running]) (by decide)
      · exact .to boot (recovery _ _) (by decide)
      · generalize finish (bootBank _ s) = u
        refine Moves.then (t := enterStandby u.sys.cause (u.modSys running)) ?_ (by simp)
        obtain h | h := enterStandby_st u.sys.cause (u.modSys running) <;> exact .to boot h (by decide)

theorem execDeferredStateChange_moves (s) : Moves s (landing s (execDeferredStateChange s)) := by
  unfold execDeferredStateChange
  split
  · exact .inl rfl
  · dsimp only [landing_next]
    split
    · exact .inl rfl
    · next d _ =>
      have told : Moves s (event .dropped [modCode s.sys.st] (dropOf d s)) := .of_still (by simp)
      have boot {last cause u} (h : .boot ∈ Claims.listed s.sys.st) : Moves s (moduleReset last cause u) :=
        .inr (by rwa [moduleReset_st])
      split
      · split
        · next h => exact .inr (by obtain ⟨-, h | h⟩ := h <;> simp [h, enterRecovery, loseCores, Claims.listed])
        · exact told
      · split
        · next h => exact boot (by obtain ⟨-, h | h | h⟩ := h <;> simp [h, Claims.listed])
        · exact told
      · split
        · next h => exact boot (by obtain ⟨-, h | h⟩ := h <;> simp [h, Claims.listed])
        · exact told

/-- Every powered state but BOOT lists BOOT. -/
theorem execLongPressReset_moves (strap s) : Moves s (landing s (execLongPressReset strap s)) := by
  unfold execLongPressReset
  dsimp only [landing_next]
  split
  · next h =>
    obtain ⟨⟨hp, -⟩, -⟩ := by simpa using h
    unfold Moves
    rw [moduleReset_st]
    unfold State.powered at hp
    cases hst : s.sys.st <;> simp_all [Claims.listed]
  · exact .inl rfl

theorem execHoldEntry_moves (s) : Moves s (landing s (execHoldEntry s)) := by
  unfold execHoldEntry
  split
  · exact .inl rfl
  · dsimp only [landing_next]
    split
    · exact .inl rfl
    · next d _ =>
      have gone : (dropOf d s).sys.st = s.sys.st := by simp
      split
      · next h =>
        have hold {f : State → State} (hf : ∀ u, (f u).sys.st = .hold) : Moves s (ranked 6 f (dropOf d s)) := by
          refine .after gone (ranked_moves (.inr ?_))
          rw [hf, gone]
          obtain ⟨h, -⟩ : (s.sys.st = .standby ∨ s.sys.st = .run) ∧ _ := by simpa using h
          obtain h | h := h <;> simp [h, Claims.listed]
        split
        · exact hold (goHold_st 1)
        · exact hold fun u => goHold_st 4 _
      · exact .of_still ⟨by simp, by simp⟩

theorem execEstop_moves (s) : Moves s (landing s (execEstop s)) := by
  unfold execEstop
  split
  · exact .inl rfl
  · dsimp only [landing_next]
    refine withFlt_moves (.after (t := stopAll (s.modSys fun y => { y with estop := true })) (by simp) ?_)
    split
    case h_4 | h_5 => exact .of_eq (by simp)
    all_goals exact ranked_moves (.to ‹_› (enterSafe_st 5 _) (by decide))

theorem execControlPlaneReady_moves {s : State} (h : s.sys.before = .standby ∨ s.sys.before = .run) :
    Moves s (landing s (execControlPlaneReady s)) := by
  unfold execControlPlaneReady
  dsimp only [landing_next]
  split
  · next hold =>
    refine Working.listed_of_hold hold ((putOff_served _).working ?_)
    simpa using (planeUp_served _).working (leaveHold_working h)
  · split
    · exact (planeUp_served s).moves
    · exact .inl rfl
  · exact .inl rfl

theorem execHubOv_moves (s) : Moves s (landing s (execHubOv s)) := by
  unfold execHubOv
  split
  · exact .inl rfl
  · extract_lets was times s₁ s₂ s₃
    have noted : s₃.sys.st = s.sys.st := by simp [s₁, s₂, s₃]
    dsimp only [landing_next]
    split
    · exact .after noted (hardwareFault_moves s₃)
    · exact .of_eq noted

theorem execShFault_moves (s) : Moves s (landing s (execShFault s)) := by
  unfold execShFault
  dsimp only [landing_next]
  split
  · exact withFlt_moves (.after (t := s.modSys fun y => { y with shFault := true, shLostAt := none }) rfl
      (hardwareFault_moves _))
  · exact .inl rfl

theorem execCoreRestartDone_moves (c s) : Moves s (landing s (execCoreRestartDone c s)) := by
  unfold execCoreRestartDone
  split
  · exact .inl rfl
  · extract_lets mine lost s₁ s₂ s₃ s₄ s₅
    have posted : Still s s₃ := by simp [s₁, s₂, s₃]
    have again : Served s₃ (if c = 0 then putOff (monAgain s₃) else retryCmd s₃) := by
      split
      · exact (monAgain_served s₃).trans (putOff_served _)
      · exact retryCmd_served s₃
    have reviewed : Still s₄ s₅ := by simp [s₅]
    refine (((Served.of_still posted).trans again).then (promote_still c _)).then (u := _) ?_ |>.moves
    simpa [s₄] using reviewed

theorem execCmd_moves (op args s) : Moves s (landing s (execCmd op args s)) := by
  have served (u : State) {k : State → State} (h : Served (echoLine args.line u) (k (echoLine args.line u))) :
      Served u (landing u (svcRun args.line k u)) := by
    rw [landing_svcRun, landing_monLine, landing_monRun]
    split_ifs
    · exact .refl u
    · exact .of_still (by simp)
    · exact .of_still (by simp)
    · exact (Served.of_still (echoLine_still _ u)).trans h
    · exact .of_still (by simp)
  unfold execCmd
  refine (served s ?_).moves
  generalize echoLine args.line s = u
  have err (k : Nat) : Served u (monErr k u) := .of_still (monErr_still k u)
  split
  · split
    · exact err _
    · next run hrun =>
      dsimp only
      split
      · exact err 4
      · exact Served.trans (.of_still (by simp)) (passCmd_served hrun _ _)
  · exact err 1

/-! ### The step -/

theorem exec_moves (i : Instr) {s : State} (h : s.sys.before = .standby ∨ s.sys.before = .run) :
    Moves s (landing s (exec i s)) := by
  cases i with
  | sysRun via args => exact issueRun_moves via args s
  | sysSafe via args => exact (issueSafe_served via args s).moves
  | sysLeaveSafe via args => exact (issueLeaveSafe_served via args s).moves
  | wdgSetLadder via args => exact .of_eq (issue_st (by simp [runSetLadder, done]))
  | wdgDisable via args => exact .of_eq (issue_st (by unfold runDisable; split <;> simp [done]))
  | wdgEnable via args => exact .of_eq (issue_st (by simp [runEnable, done]))
  | wdgSetLock via args => exact .of_eq (issue_st (setLock_st s))
  | wdgCheckin core bits => exact .of_eq (execWdgCheckin_steady core bits s).2
  | wdgSettingWrite core pair mask => exact .of_eq (execWdgSettingWrite_steady core pair mask s).2
  | wdgService core tok pcs => exact execWdgService_moves core tok pcs s
  | wdgLate pcs => exact execWdgLate_moves pcs s
  | standbyRampEnd => exact execStandbyRampEnd_moves s
  | commitEdge edge => exact execCommitEdge_moves edge s
  | recipeTick => exact .of_eq (execRecipeTick_steady s).2
  | faultEdge own => exact execFaultEdge_moves own s
  | hkPathQualify p strap low => exact execHkPathQualify_moves p strap low s
  | holdUpEnd => exact execHoldUpEnd_moves s
  | shipEntry => exact execShipEntry_moves s
  | bootComplete a b c => exact execBootComplete_moves a b c s
  | deferredStateChange => exact execDeferredStateChange_moves s
  | longPressReset strap => exact execLongPressReset_moves strap s
  | holdEntry => exact execHoldEntry_moves s
  | estop => exact execEstop_moves s
  | controlPlaneReady => exact execControlPlaneReady_moves h
  | hubOv => exact execHubOv_moves s
  | shFault => exact execShFault_moves s
  | coreRestartDone c => exact execCoreRestartDone_moves c s
  | cmd op args => exact execCmd_moves op args s
  | registerWrite a w => exact .of_eq (execRegisterWrite_steady a w s).2
  | alrAck seq => exact .of_eq (execAlrAck_steady seq s).2
  | alrAckClass mask => exact .of_eq (execAlrAckClass_steady mask s).2
  | spiWriteFrame h ws check whole => exact .of_eq (execSpiWriteFrame_steady h ws check whole s).2
  | writeTransfer p ws pec ending => exact .of_eq (execWriteTransfer_steady p ws pec ending s).2
  | _ => exact .of_still (by simp [exec])

theorem tick_moves (s) : Moves s (tick s) := by
  unfold tick
  split
  · exact .inl rfl
  · extract_lets s₁ s₂ s₃ s₄ hub bp s₅
    have edge : Moves s s₁ := by
      refine Moves.then (t := if s.pour.rise then edgeEnd (lowFits s.pour) s else s) ?_ (newPeriod_still _).2
      split
      · exact edgeEnd_moves _ s
      · exact .inl rfl
    have passed : (mirrorAon (tickLoss (foldFin 4 tickKeepAlive (foldFin 4 tickAlarm (foldFin 32 tickExpire s₅))))).sys.st
        = s₁.sys.st := by simp [s₅, s₄, s₃, s₂]
    exact edge.then passed.symm

/-- Settles O60: the rows that move the module, one by one; every other row and the tick leave its state. -/
theorem moduleStateMovesOnlyAsListed : Obligations.ModuleStateMovesOnlyAsListed := by
  unfold Obligations.ModuleStateMovesOnlyAsListed
  intro s t hinv h
  obtain ⟨-, -, -, -, before, -⟩ := hinv
  unfold step at h
  split at h
  · next c rest _ =>
    have m := exec_moves c (s := { s with pending := rest }) before
    rw [h] at m
    exact m
  · injection h with h
    exact h ▸ tick_moves s

end Sys2Proof.Machine
end

/-! ## Every command ends in a next state within the ratings

`Ends` says so of one outcome. The frames of the rows that carry a voltage test it first and end in a next state
after that, so that a row's own proof names its frame. -/

section
open Sys2Proof.Claims

namespace Sys2Proof.Machine

/-- The outcome is a next state where the voltages are rated, and the run stops where they are not. -/
def Ends (rated : Bool) (o : Host.Outcome State Fault Refusal) : Prop :=
  (rated = true → ∃ t, o = .next t) ∧ (rated = false → o = .fault .beyondAbsoluteMaximum)

theorem Ends.next (s) : Ends true (.next s) := ⟨fun _ => ⟨s, rfl⟩, fun h => by simp at h⟩

theorem Ends.ite {b p} {_ : Decidable p} {o q} (ho : Ends b o) (hq : Ends b q) : Ends b (if p then o else q) := by
  split
  · exact ho
  · exact hq

/-- A voltage is tested before anything else happens. -/
theorem Ends.tested {b o} (v : Bool) (h : Ends b o) : Ends (v && b) (if !v then .fault .beyondAbsoluteMaximum else o) := by
  cases v
  · exact ⟨fun h => by simp at h, fun _ => rfl⟩
  · simpa using h

theorem Ends.rated {o} (v : Bool) (h : Ends true o) : Ends v (if !v then .fault .beyondAbsoluteMaximum else o) := by
  simpa using h.tested v

theorem Ends.port (x v f s) : Ends (portRated v) (portEvent x v f s) := .rated _ (.ite (.next _) (.next _))
theorem Ends.pilot (x v f s) : Ends (pilotRated v) (pilotEvent x v f s) := .rated _ (.ite (.next _) (.next _))
theorem Ends.volt {v go s} (h : Ends true (go s)) : Ends (tapRated v) (atVolt v go s) := .rated _ h
theorem Ends.cluster (op run via args s) : Ends true (onCluster op run via args s) := .ite (.next _) (.next _)
theorem Ends.waiting (op run via args s) : Ends true (afterHeld op run via args s) := .ite (.next _) (.next _)
theorem Ends.core (op run via args s) : Ends true (onCore op run via args s) := .ite (.next _) (.next _)
theorem Ends.current (x i cause hit s) : Ends true (currentEvent x i cause hit s) := .ite (.next _) (.next _)

theorem exec_ends (c : Instr) (s : State) : Ends (inRatings c) (exec c s) := by
  cases c with
  | arbPeriod m => exact .rated _ (.ite (.next _) (.next _))
  | hkPathQualify p strap low => exact .rated _ (.ite (.next _) (.next _))
  | hkPathLost p => exact .rated _ (.next _)
  | stringOver1500v v => exact .rated _ (.ite (.next _) (.ite (.next _) (.next _)))
  | trackResume v => exact .rated _ (.next _)
  | portInWindow x v => exact .port x v _ s
  | portOutOfWindow x v => exact .port x v _ s
  | portLoss x v => exact .port x v _ s
  | sourceOv x v => exact .port x v _ s
  | windowConfirm x v => exact .rated _ (.ite (.next _) (.next _))
  | pilotInBand x v => exact .pilot x v _ s
  | debounceOut x v => exact .pilot x v _ s
  | pilotLoss x v => exact .pilot x v _ s
  | swapPilotLow x v => exact .pilot x v _ s
  | swapAttach x v => exact .rated _ (.ite (.next _) (.next _))
  | brake n seen => exact .volt (.next _)
  | chargeFromSystem n v => exact .volt (.next _)
  | cuppingEnd n v => exact .volt (.next _)
  | faultOv n v => exact .volt (.next _)
  | keepCondition n seen => exact .volt (.next _)
  | keepLow n v => exact .volt (.next _)
  | preBiasComplete n v => exact .volt (.next _)
  | preStartResult n m ok => exact .rated _ (.ite (.next _) (.next _))
  | prechargeToCc n v => exact .volt (.next _)
  | presence n v => exact .volt (.next _)
  | removal n seen => exact .volt (.next _)
  | reverse n v => exact .rated _ (.ite (.next _) (.next _))
  | short n v fallback => exact .volt (.next _)
  | shortCheckFail n v => exact .volt (.next _)
  | stakeOutputOverVoltage n v => exact .rated _ (.ite (.next _) (.next _))
  | standInImmediateBypass n v => exact .volt (.next _)
  | detectSettled n v vPair => exact .tested _ (.volt (.next _))
  | kelvinBad n seen => exact .tested _ (.volt (.next _))
  | reverseCurrent x i => exact .current ..
  | sourceOc x i => exact .current ..
  | perfRead via args => exact .ite (.next _) (.next _)
  | perfSelect via args => exact .core ..
  | perfSetCtl via args => exact .core ..
  | serviceFuseRod via args => exact .ite (.next _) (.next _)
  | tapClearFault via args => exact .cluster ..
  | tapForget via args => exact .cluster ..
  | tapGetDescriptor via args => exact .waiting ..
  | tapGetRods via args => exact .waiting ..
  | tapLoadDefaultCoeff via args => exact .cluster ..
  | tapRearmTimer via args => exact .cluster ..
  | tapResume via args => exact .cluster ..
  | tapSetCoeff via args => exact .cluster ..
  | tapSetDescriptor via args => exact .cluster ..
  | tapSetGangDissolve via args => exact .cluster ..
  | tapSetGangForm via args => exact .cluster ..
  | tapSetKeep via args => exact .cluster ..
  | tapSetLimits via args => exact .cluster ..
  | tapSetPlant via args => exact .cluster ..
  | tapSetRamp via args => exact .cluster ..
  | tapSetSchedule via args => exact .cluster ..
  | tapSetShed via args => exact .cluster ..
  | tapSetStandin via args => exact .cluster ..
  | tapSetSupport via args => exact .cluster ..
  | tapSetTrack via args => exact .cluster ..
  | tapStandIn via args => exact .cluster ..
  | tapStop via args => exact .cluster ..
  | bbxRecordWrite badA badB =>
    dsimp only [exec, execBbxRecordWrite, inRatings]
    refine .ite (.next _) ?_
    split <;> exact .next _
  | controllerTransfer got =>
    dsimp only [exec, execControllerTransfer, inRatings]
    split
    · exact .next _
    · refine .ite (.next _) ?_
      split <;> exact .next _
  | resultPost n =>
    dsimp only [exec, execResultPost, inRatings]
    split <;> exact .next _
  | withholdWindowClose key =>
    dsimp only [exec, execWithholdWindowClose, inRatings]
    split <;> exact .next _
  | profileApply =>
    dsimp only [exec, execProfileApply, inRatings]
    split <;> exact .next _
  | profileRetry =>
    dsimp only [exec, execProfileRetry, inRatings]
    split <;> exact .next _
  | beatTimeout acked => exact .ite (.next _) (.ite (.next _) (.ite (.next _) (.next _)))
  | internalMailboxMessage dst m => exact .ite (.next _) (.ite (.next _) (.next _))
  | pourTimeout => exact .ite (.ite (.ite (.next _) (.next _)) (.next _)) (.next _)
  | vselCount v => exact .ite (.next _) (.ite (.next _) (.ite (.next _) (.next _)))
  | wdgService core token pcs =>
    exact .ite (.next _) (.ite (.next _) (.ite (.next _) (.ite (.next _) (.ite (.next _) (.ite (.next _)
      (.ite (.next _) (.next _)))))))
  | alertResponseRead others won => exact .ite (.next _) (.next _)
  | bootComplete a b c => exact .ite (.next _) (.next _)
  | busRecovery freed => exact .ite (.next _) (.next _)
  | capDivision peers => exact .ite (.next _) (.next _)
  | clusterWakeDone m => exact .ite (.next _) (.next _)
  | coreRestartDone c => exact .ite (.next _) (.next _)
  | faultEdge own => exact .ite (.next _) (.next _)
  | note a => exact .ite (.next _) (.ite (.next _) (.next _))
  | perfDump core counts spent tags => exact .ite (.next _) (.next _)
  | readTransfer pointer count => exact .ite (.next _) (.next _)
  | shuntBitstreamValid i => exact .ite (.next _) (.next _)
  | spiReadFrame header count => exact .ite (.next _) (.next _)
  | spiWriteFrame header words check whole => exact .ite (.next _) (.next _)
  | writeTransfer pointer words pec ending => exact .ite (.next _) (.next _)
  | yield out rest => exact .ite (.next _) (.next _)
  | bbxScrub => exact .ite (.next _) (.next _)
  | deferredStateChange => exact .ite (.next _) (.next _)
  | doseApply => exact .ite (.next _) (.ite (.next _) (.next _))
  | estop => exact .ite (.next _) (.next _)
  | fwVerifyComplete => exact .ite (.next _) (.ite (.next _) (.next _))
  | handOverEnd => exact .ite (.next _) (.next _)
  | holdEntry => exact .ite (.next _) (.next _)
  | hubOv => exact .ite (.next _) (.next _)
  | leaseSnapshot => exact .ite (.next _) (.next _)
  | recipeTick => exact .ite (.next _) (.next _)
  | shipEntry => exact .ite (.next _) (.ite (.next _) (.next _))
  | standbyRampEnd => exact .ite (.next _) (.next _)
  | tickOverrun => exact .ite (.next _) (.next _)
  | _ => exact .next _

/-- Settles O55: a row's outcome by the frame it stands in. -/
theorem everyCommandCompletes : Obligations.EveryCommandCompletes := exec_ends

theorem within_false {lim v : Int} (h : v < -lim ∨ lim < v) : within lim v = false := by
  simp only [within, decide_eq_false_iff_not]
  omega

theorem rated_false {m : Sample} (h : m.vStr < -50000 ∨ 1600000 < m.vStr ∨ m.auxV < -125000 ∨ 125000 < m.auxV ∨
    m.track < -15000 ∨ 15000 < m.track) : rated m = false := by
  have bad : stringRated m.vStr = false ∨ within Config.absAux m.auxV = false ∨ trackRated m.track = false := by
    obtain h | h | h : (m.vStr < -50000 ∨ 1600000 < m.vStr) ∨ (m.auxV < -125000 ∨ 125000 < m.auxV) ∨
      (m.track < -15000 ∨ 15000 < m.track) := by omega
    · left
      rw [stringRated, decide_eq_false_iff_not, Config.absStringMin, Config.absString]
      omega
    · exact .inr (.inl (within_false h))
    · exact .inr (.inr (within_false h))
  obtain h | h | h := bad <;> simp [rated, h]

/-- Settles O56, from the outcome of each row (`exec_ends`). -/
theorem voltagesBeyondTheRatingsStop : Obligations.VoltagesBeyondTheRatingsStop := by
  unfold Obligations.VoltagesBeyondTheRatingsStop
  intro s
  have stops {c : Instr} (h : inRatings c = false) : exec c s = .fault .beyondAbsoluteMaximum := (exec_ends c s).2 h
  refine ⟨fun x v h => ?_, fun x v h => ?_, fun v h => stops (within_false h), fun n v h => ?_,
    fun m h => stops (rated_false h)⟩
  · have bad : portRated v = false := within_false h
    exact ⟨stops bad, stops bad, stops bad, stops bad, stops bad⟩
  · have bad : pilotRated v = false := within_false h
    exact ⟨stops bad, stops bad, stops bad, stops bad, stops bad⟩
  · have bad : tapRated v = false := within_false h
    exact ⟨stops bad, stops bad, stops bad, stops bad, stops (by simp [inRatings, bad]),
      stops (by simp [inRatings, bad]), fun i => ⟨stops bad, stops bad, stops bad⟩⟩

end Sys2Proof.Machine
end

/-! ## Equality of states part by part, and the operations that change the taps alone -/

section
namespace Sys2Proof.Machine

/-- Two states are equal once every part is. -/
theorem State.ext_parts {s t : State} (sys : s.sys = t.sys) (ports : s.ports = t.ports) (hub : s.hub = t.hub)
    (shown : s.shown = t.shown) (taps : s.taps = t.taps) (arb : s.arb = t.arb) (mtr : s.mtr = t.mtr)
    (ctrs : s.ctrs = t.ctrs) (alr : s.alr = t.alr) (pour : s.pour = t.pour) (vsel : s.vsel = t.vsel)
    (bus : s.bus = t.bus) (mbx : s.mbx = t.mbx) (monAnswer : s.monAnswer = t.monAnswer)
    (ownAnswer : s.ownAnswer = t.ownAnswer) (bp : s.bp = t.bp) (boxes : s.boxes = t.boxes) (links : s.links = t.links)
    (tie : s.tie = t.tie) (wdg : s.wdg = t.wdg) (bbx : s.bbx = t.bbx) (fw : s.fw = t.fw) (rcp : s.rcp = t.rcp)
    (perf : s.perf = t.perf) (mon : s.mon = t.mon) (stored : s.stored = t.stored) (bells : s.bells = t.bells)
    (taken : s.taken = t.taken) (held : s.held = t.held) (free : s.free = t.free) (pending : s.pending = t.pending) :
    s = t := by
  cases s
  cases t
  simp_all

/-- Nothing but the taps has changed. -/
def OnlyTaps (s t : State) : Prop := t = { s with taps := t.taps }

section
variable {s t u : State}

theorem OnlyTaps.refl (s) : OnlyTaps s s := rfl
theorem OnlyTaps.trans (h : OnlyTaps s t) (k : OnlyTaps t u) : OnlyTaps s u := by
  rw [OnlyTaps] at *
  rw [k, h]
theorem OnlyTaps.modTap (n f s) : OnlyTaps s (s.modTap n f) := rfl
theorem OnlyTaps.modStake (n f s) : OnlyTaps s (s.modStake n f) := rfl
theorem OnlyTaps.mapTaps (f s) : OnlyTaps s (s.mapTaps f) := rfl
theorem OnlyTaps.modRod (r f s) : OnlyTaps s (modRod r f s) := rfl
theorem OnlyTaps.ite {p} {_ : Decidable p} (h : OnlyTaps s t) (k : OnlyTaps s u) : OnlyTaps s (if p then t else u) := by
  split
  · exact h
  · exact k
theorem OnlyTaps.foldl {ι : Type} {f : State → ι → State} (h : ∀ s i, OnlyTaps s (f s i)) :
    ∀ (l : List ι) (s : State), OnlyTaps s (l.foldl f s)
  | [], s => .refl s
  | i :: l, s => (h s i).trans (OnlyTaps.foldl h l (f s i))
theorem OnlyTaps.foldFin {k} {f : Fin k → State → State} (h : ∀ i s, OnlyTaps s (f i s)) (s) :
    OnlyTaps s (foldFin k f s) := .foldl (fun s i => h i s) _ s

end

/-! ### Rods -/

theorem rephase_onlyTaps (n s0 s) : OnlyTaps s (rephase n s0 s) :=
  .ite (.refl s) (.foldl (fun _ _ => .modStake _ _ _) _ s)
theorem reactivate_onlyTaps {f s} (n) (h : OnlyTaps s (f s)) : OnlyTaps s (reactivate n f s) :=
  h.trans (rephase_onlyTaps n s _)
theorem joinOne_onlyTaps (n s) : OnlyTaps s (joinOne n s) := by
  unfold joinOne
  split
  · exact .refl s
  · exact .modRod _ _ s
theorem joinMany_onlyTaps (n) : ∀ k s, OnlyTaps s (joinMany n k s)
  | 0, s => .refl s
  | k + 1, s => (joinOne_onlyTaps n s).trans (joinMany_onlyTaps n k _)
theorem keepMinimum_onlyTaps (n s) : OnlyTaps s (keepMinimum n s) := by
  unfold keepMinimum
  split
  · exact reactivate_onlyTaps n (joinMany_onlyTaps n _ s)
  · exact .refl s
theorem swapRods_onlyTaps (n s) : OnlyTaps s (swapRods n s) := by
  have cleared := OnlyTaps.modStake n (fun k => { k with wearDue := false }) s
  unfold swapRods
  dsimp only
  split
  · exact .ite ((cleared.trans (reactivate_onlyTaps n (.modRod _ _ _))).trans (.modStake _ _ _)) cleared
  · exact cleared
theorem endSwap_onlyTaps (n s) : OnlyTaps s (endSwap n s) := by
  unfold endSwap
  split
  · exact .refl s
  · exact (OnlyTaps.trans (.modStake n _ s) (reactivate_onlyTaps n (.modRod _ _ _))).trans (keepMinimum_onlyTaps _ _)
theorem tickWear_onlyTaps (n s) : OnlyTaps s (tickWear n s) := by
  have ended : OnlyTaps s (if s.taps[n].stake.swapOut.isSome then endSwap n s else s) :=
    .ite (endSwap_onlyTaps n s) (.refl s)
  exact .ite (ended.trans (swapRods_onlyTaps n _)) ended

end Sys2Proof.Machine
end

/-! ## One step: the front command, or one millisecond -/

section
namespace Sys2Proof.Machine

/-- The parts of the state in which `tick` counts are as before. -/
structure Clocked (s t : State) : Prop where
  sys : t.sys = s.sys
  ports : t.ports = s.ports
  mtr : t.mtr = s.mtr
  links : t.links = s.links
  wdg : t.wdg = s.wdg
  pending : t.pending = s.pending

theorem Clocked.refl (s) : Clocked s s := ⟨rfl, rfl, rfl, rfl, rfl, rfl⟩
theorem Clocked.trans {s t u} (h : Clocked s t) (k : Clocked t u) : Clocked s u :=
  ⟨k.sys.trans h.sys, k.ports.trans h.ports, k.mtr.trans h.mtr, k.links.trans h.links, k.wdg.trans h.wdg,
    k.pending.trans h.pending⟩
theorem OnlyTaps.clocked {s t} (h : OnlyTaps s t) : Clocked s t := by
  rw [h]
  exact ⟨rfl, rfl, rfl, rfl, rfl, rfl⟩

/-- A fold keeps the clocked parts where each round does as long as those parts meet a condition. -/
theorem Clocked.foldFin {k} {f : Fin k → State → State} (P : State → Prop) (h : ∀ i s, P s → Clocked s (f i s))
    (hP : ∀ s t, P s → Clocked s t → P t) {s} (hs : P s) : Clocked s (foldFin k f s) := by
  have round : ∀ (l : List (Fin k)) s, P s → Clocked s (l.foldl (fun s i => f i s) s) := by
    intro l
    induction l with
    | nil => exact fun s _ => .refl s
    | cons i l ih => exact fun s hs => (h i s hs).trans (ih _ (hP _ _ hs (h i s hs)))
  exact round _ s hs

theorem tickExpire_clocked (n s) : Clocked s (tickExpire n s) := by
  unfold tickExpire expireTimer
  dsimp only
  split_ifs <;> constructor <;> simp

theorem tickAlarms_clocked {s : State} (h : ∀ k : Fin 4, s.mtr.alarms[k].running = false) :
    Clocked s (foldFin 4 tickAlarm s) := by
  refine Clocked.foldFin (fun s => ∀ k : Fin 4, s.mtr.alarms[k].running = false) (fun k s hs => ?_)
    (fun s t hs ht => by rwa [ht.mtr]) h
  have stopped : tickAlarm k s = s := if_pos (by rw [hs k]; rfl)
  rw [stopped]
  exact .refl s

theorem tickKeepAlives_clocked {s : State} (h : ∀ x : Fin 4, s.links[x].state ≠ .contract) :
    Clocked s (foldFin 4 tickKeepAlive s) := by
  refine Clocked.foldFin (fun s => ∀ x : Fin 4, s.links[x].state ≠ .contract) (fun x s hs => ?_)
    (fun s t hs ht => by rwa [ht.links]) h
  have idle : tickKeepAlive x s = s := if_neg fun k => hs x k.1
  rw [idle]
  exact .refl s

theorem tickLoss_clocked (s) : Clocked s (tickLoss s) := by
  unfold tickLoss
  split
  · exact (OnlyTaps.mapTaps _ s).clocked
  · exact .refl s

theorem tickLink_state (l : LinkPort) : (tickLink l).state = l.state := by
  unfold tickLink
  split <;> rfl

theorem tickPort_softMs {p : Port} (h : p.state = .softstart) : (tickPort p).softMs = min 50 (p.softMs + 1) := by
  simp [tickPort, moveAllow, h]

/-- The count and its fraction advance by 1024 thousandths of a tick, up to the end of the count (R323). -/
theorem tickWdg_counts (w : Wdg) : 1000 * (tickWdg w).count + (tickWdg w).frac =
    min (1000 * 0xFFFF + (tickWdg w).frac) (1000 * w.count + w.frac + 1024) := by
  simp only [tickWdg, sat]
  omega

/-- What one millisecond makes of the clocked parts where no alarm timer, keep-alive or commit edge acts. -/
theorem tick_counts {s : State} (hp : s.powered = true) (alarms : ∀ k : Fin 4, s.mtr.alarms[k].running = false)
    (rise : s.pour.rise = false) (links : ∀ x : Fin 4, s.links[x].state ≠ .contract) :
    (tick s).sys = tickSys { s.sys with acted := 0 } ∧ (tick s).pending = s.pending ∧
      (∀ x : Fin 4, (tick s).ports[x] = tickPort s.ports[x]) ∧
      (tick s).wdg = if wdgRuns s then tickWdg s.wdg else s.wdg := by
  unfold tick
  rw [if_neg (by simp [hp]), if_neg (by simp [rise])]
  extract_lets s₁ s₂ s₃ s₄ hub bp s₅
  have metered : Clocked s₁ s₂ := by
    refine Clocked.trans (t := meter (tickPerf (tickBoxes s₁))) ⟨rfl, rfl, rfl, rfl, rfl, rfl⟩ ?_
    exact (OnlyTaps.foldFin tickWear_onlyTaps _).clocked
  have counted_mtr : s₅.mtr = s₂.mtr := by simp [s₅, s₄, s₃]
  have counted_links : s₅.links = s₂.links.map tickLink := by simp [s₅, s₄, s₃]
  have counted_sys : s₄.sys = tickSys s₂.sys := by simp [s₄, s₃]
  have counted_ports : s₅.ports = vec fun x => tickPort s₂.ports[x] := by simp [s₅, s₄, s₃, State.mapPorts]
  have counted_wdg : s₄.wdg = s₂.wdg := by simp [s₄, s₃]
  have counted_pending : s₅.pending = s₂.pending := by simp [s₅, s₄, s₃]
  have ended : Clocked s₅ (mirrorAon (tickLoss (foldFin 4 tickKeepAlive (foldFin 4 tickAlarm (foldFin 32 tickExpire s₅))))) := by
    have expired : Clocked s₅ (foldFin 32 tickExpire s₅) :=
      .foldFin (fun _ => True) (fun n s _ => tickExpire_clocked n s) (fun _ _ _ _ => trivial) trivial
    have alarmed := expired.trans (tickAlarms_clocked (by
      intro k
      rw [expired.mtr, counted_mtr, metered.mtr]
      exact alarms k))
    have kept := alarmed.trans (tickKeepAlives_clocked (by
      intro x
      rw [alarmed.links, counted_links, metered.links]
      simpa [tickLink_state, s₁, newPeriod] using links x))
    refine (kept.trans (tickLoss_clocked _)).trans ?_
    constructor <;> simp [mirrorAon]
  have runs : wdgRuns s₄ = wdgRuns s := by
    simp [wdgRuns, State.powered, counted_sys, counted_wdg, metered.sys, metered.wdg, tickSys, s₁, newPeriod]
  refine ⟨?_, ?_, fun x => ?_, ?_⟩
  · rw [ended.sys]
    simp only [s₅, counted_sys, metered.sys]
    rfl
  · rw [ended.pending, counted_pending, metered.pending]
    simp [s₁]
  · rw [ended.ports, counted_ports, vec_get, metered.ports]
    simp [s₁]
  · rw [ended.wdg]
    simp [s₅, runs, counted_wdg, metered.wdg, s₁]

/-- Settles O53: the front command by definition, the tick by `tick_counts`. -/
theorem stepRunsTheFrontCommand : Obligations.StepRunsTheFrontCommand := by
  unfold Obligations.StepRunsTheFrontCommand
  refine ⟨fun c rest s => rfl, fun s hq => ⟨fun hp => ?_, fun hp alarms rise links => ⟨tick s, ?_, ?_⟩⟩⟩
  · simp [step, hq, tick, hp]
  · simp [step, hq]
  · obtain ⟨hsys, hpending, hports, hwdg⟩ := tick_counts hp alarms rise links
    rw [hsys, hpending, hq, hwdg]
    refine ⟨rfl, rfl, rfl, rfl, fun hr => ?_, fun hw => ?_, fun x hx => ?_, rfl⟩
    · simp [tickSys, hr]
    · rw [if_pos hw]
      exact tickWdg_counts s.wdg
    · rw [hports x, tickPort_softMs hx]

/-! ## Reset -/

/-- Settles O58: the reset state is one closed value. -/
theorem resetMeetsTheInvariant : Obligations.ResetMeetsTheInvariant := by
  unfold Obligations.ResetMeetsTheInvariant Claims.Inv
  decide

/-- Settles O57: the reset state is one closed value. -/
theorem resetShowsTheSpecsValues : Obligations.ResetShowsTheSpecsValues := by
  unfold Obligations.ResetShowsTheSpecsValues
  decide

end Sys2Proof.Machine
end

/-! ## Every command is checked at taking -/

section
open Sys2Proof.Claims

namespace Sys2Proof.Machine

/-- What every row of a host command does before its own rules: a refusal at taking changes nothing but the answer, and
nothing is taken while the command is QUEUED, without power, in HOLD and while C0 restarts. -/
structure Taken (op : Nat) (via : Via) (row : State → Host.Outcome State Fault Refusal) : Prop where
  refused : ∀ s code, s.powered = true → s.sys.st ≠ .hold → c0Up s = true → waits via s = false →
    isTaken via s = false → gate op s = some code → row s = .next (answer via code [] s)
  queued : ∀ s, waits via s = true → row s = .next s
  dead : ∀ s, s.powered = false ∨ s.sys.st = .hold ∨ c0Up s = false → row s = .next s

theorem Taken.host (op run via args) : Taken op via (hostCommand op run via args) where
  refused _ _ hp hst hc hw ht hg := hostCommand_denied hp hst hc hw ht hg run
  queued s hw := by simp [hostCommand, issue, hw]
  dead s h := by
    unfold hostCommand issue
    rw [if_pos]
    simp only [Bool.not_eq_true', ← or_assoc]
    exact .inl (by simpa only [or_assoc] using h)

/-- A row that holds back an accepted command, and else hands it on, checks it the same way. -/
theorem Taken.held {op via args row} {q : State → Prop} {_ : ∀ s, Decidable (q s)} {f : State → State}
    (hq : ∀ s, q s → accepts op via args s = true) (h : Taken op via row) :
    Taken op via fun s => if q s then .next (f s) else row s where
  refused s code hp hst hc hw ht hg := by
    rw [if_neg fun h => ?_, h.refused s code hp hst hc hw ht hg]
    simpa [accepts, ht, hg] using hq s h
  queued s hw := by
    rw [if_neg fun h => ?_, h.queued s hw]
    simpa [accepts, hw] using hq s h
  dead s hd := by
    rw [if_neg fun h => ?_, h.dead s hd]
    have := hq s h
    simp only [accepts, Bool.and_eq_true, decide_eq_true_eq] at this
    grind

theorem Taken.cluster (op run via args) : Taken op via (onCluster op run via args) :=
  .held (fun _ h => h.1) (.host op run via args)
theorem Taken.waiting (op run via args) : Taken op via (afterHeld op run via args) :=
  .held (fun _ h => h.1) (.host op run via args)
theorem Taken.core (op run via args) : Taken op via (onCore op run via args) :=
  .held (fun _ h => h.1) (.host op run via args)

theorem exec_taken {c : Instr} {op via} (h : hostOp c = some (op, via)) : Taken op via (exec c) := by
  cases c <;> simp only [hostOp, Option.some.injEq, Prod.mk.injEq, reduceCtorEq] at h <;>
    obtain ⟨rfl, rfl⟩ := h
  case tapClearFault => exact .cluster ..
  case tapForget => exact .cluster ..
  case tapGetDescriptor => exact .waiting ..
  case tapGetRods => exact .waiting ..
  case tapLoadDefaultCoeff => exact .cluster ..
  case tapRearmTimer => exact .cluster ..
  case tapResume => exact .cluster ..
  case tapSetCoeff => exact .cluster ..
  case tapSetDescriptor => exact .cluster ..
  case tapSetGangDissolve => exact .cluster ..
  case tapSetGangForm => exact .cluster ..
  case tapSetKeep => exact .cluster ..
  case tapSetLimits => exact .cluster ..
  case tapSetPlant => exact .cluster ..
  case tapSetRamp => exact .cluster ..
  case tapSetSchedule => exact .cluster ..
  case tapSetShed => exact .cluster ..
  case tapSetStandin => exact .cluster ..
  case tapSetSupport => exact .cluster ..
  case tapSetTrack => exact .cluster ..
  case tapStandIn => exact .cluster ..
  case tapStop => exact .cluster ..
  case perfSetCtl => exact .core ..
  case perfSelect => exact .core ..
  case perfRead => exact .held (fun _ h => h.1) (.host ..)
  case serviceFuseRod => exact .held (fun _ h => h.1) (.host ..)
  all_goals exact .host ..

/-! ### The checks themselves -/

theorem hostOp_known {c : Instr} {op via} (h : hostOp c = some (op, via)) : ∃ info, cmdInfo op = some info := by
  cases c <;> simp only [hostOp, Option.some.injEq, Prod.mk.injEq, reduceCtorEq] at h <;>
    exact h.1 ▸ ⟨_, rfl⟩

/-- What the table says of its rows: none lists BOOT; a pourable command changes no state and is under no lock; none of
those under the watchdog's lock changes the state. -/
theorem cmdTable_facts : ∀ c ∈ cmdTable, ModState.boot ∉ c.states ∧
    (c.pour = true → changesState c.op = false ∧ c.op ∉ [0x0801, 0x0802, 0x0803, 0x0901]) ∧
    (c.op ∈ [0x0801, 0x0802, 0x0803] → changesState c.op = false) := by decide

theorem cmdInfo_facts {op info} (h : cmdInfo op = some info) : ModState.boot ∉ info.states ∧
    (info.pour = true → changesState op = false ∧ op ∉ [0x0801, 0x0802, 0x0803, 0x0901]) ∧
    (op ∈ [0x0801, 0x0802, 0x0803] → changesState op = false) := by
  have hop : info.op = op := by simpa using List.find?_some h
  exact hop ▸ cmdTable_facts info (List.mem_of_find?_eq_some h)

theorem gate_of_info {op info} {s : State} (h : cmdInfo op = some info) (hst : s.sys.st ≠ .boot) : gate op s =
    if s.sys.st ∉ info.states ∨ (changesState op ∧ (changeDue s ∨ s.sys.acted ≠ 0)) then some 0x30
    else if lockedOut s op then some 0x31
    else if info.pour ∧ pourBusy s then some 0x10
    else none := by
  simp only [gate, hst, h, if_false]

/-- Settles O54: the rows by `exec_taken`, the checks by the command table. -/
theorem everyCommandIsCheckedAtTaking : Obligations.EveryCommandIsCheckedAtTaking := by
  unfold Obligations.EveryCommandIsCheckedAtTaking
  intro c op via s h
  have row := exec_taken h
  obtain ⟨info, hinfo⟩ := hostOp_known h
  obtain ⟨noBoot, pour, lock⟩ := cmdInfo_facts hinfo
  have listed (hin : s.sys.st ∈ info.states) : s.sys.st ≠ .boot := fun hb => noBoot (hb ▸ hin)
  refine ⟨row.refused s, row.queued s, row.dead s, info, hinfo, fun hb => by simp [gate, hb], ?_, ?_, ?_, ?_, ?_⟩
  · intro hst hout
    rw [gate_of_info hinfo hst, if_pos (.inl hout)]
  · intro hin hop hl
    have hop : op ∈ [0x0801, 0x0802, 0x0803] := by simpa using hop
    have locked : lockedOut s op = true := by simp [lockedOut, hl, hop]
    rw [gate_of_info hinfo (listed hin), if_neg (by simp [hin, lock hop]), if_pos locked]
  · intro hin hpour busy
    obtain ⟨hchange, hop⟩ := pour hpour
    simp only [List.mem_cons, List.not_mem_nil, or_false, not_or] at hop
    obtain ⟨h1, h2, h3, h4⟩ := hop
    rw [gate_of_info hinfo (listed hin), if_neg (by simp [hin, hchange]), if_neg (by simp [lockedOut, h1, h2, h3, h4]),
      if_pos ⟨hpour, by simpa [pourBusy] using busy⟩]
  · intro hin hl hk hidle hdue hacted
    rw [gate_of_info hinfo (listed hin), if_neg (by simp [hin, hdue, hacted]), if_neg (by simp [lockedOut, hl, hk]),
      if_neg (by simp [pourBusy, hidle])]
  · intro hin hchange hacted
    rw [gate_of_info hinfo (listed hin), if_pos (.inr ⟨hchange, .inr hacted⟩)]

end Sys2Proof.Machine
end

/-! ## Folds over an index, and the stakes that act together -/

section
open Sys2Proof.Claims

namespace Sys2Proof.Machine

theorem gate_states {op s info} (h : gate op s = none) (hi : cmdInfo op = some info) : s.sys.st ∈ info.states := by
  by_cases hb : s.sys.st = .boot
  · simp [gate, hb] at h
  · rw [gate_of_info hi hb] at h
    split_ifs at h with hs
    exact not_not.mp fun hn => hs (.inl hn)

theorem Accepts.states {op via args s info} (h : Accepts op via args s) (hi : cmdInfo op = some info) :
    s.sys.st ∈ info.states := by
  obtain ⟨-, -, -, -, hgate, -⟩ := h
  exact gate_states hgate hi

/-! ### A fold over every index, read at one index -/

theorem mem_indices {k : Nat} (i : Fin k) : i ∈ indices k := mem_tabulate k id i

theorem tabulate_eq_map {α : Type} : ∀ (k : Nat) (f : Fin k → α), tabulate k f = (List.finRange k).map f
  | 0, _ => rfl
  | k + 1, f => by simp [tabulate, tabulate_eq_map k, List.finRange_succ, Function.comp_def]

theorem indices_nodup (k : Nat) : (indices k).Nodup := by
  simpa [indices, tabulate_eq_map] using List.nodup_finRange k

/-- What a fold over every index does at one index, when each round changes its own index only: the round of that index
alone, from a state that shows the same there. -/
theorem foldFin_at {σ β γ : Type} {k : Nat} (g : Fin k → σ → β) (ctx : σ → γ) {f : Fin k → σ → σ}
    (other : ∀ i m s, m ≠ i → g m (f i s) = g m s) (keep : ∀ i s, ctx (f i s) = ctx s) (m : Fin k) (s : σ) :
    ∃ u, g m u = g m s ∧ ctx u = ctx s ∧ g m (foldFin k f s) = g m (f m u) := by
  have pass : ∀ (l : List (Fin k)) (s : σ), m ∉ l → g m (l.foldl (fun s i => f i s) s) = g m s := by
    intro l
    induction l with
    | nil => exact fun _ _ => rfl
    | cons i l ih =>
      intro s h
      simp only [List.mem_cons, not_or] at h
      rw [List.foldl_cons, ih _ h.2, other i m s h.1]
  have held : ∀ (l : List (Fin k)) (s : σ), ctx (l.foldl (fun s i => f i s) s) = ctx s :=
    fun l s => foldl_keeps ctx (fun s i => f i s) (fun s i => keep i s) l s
  obtain ⟨l, l', hl⟩ := List.append_of_mem (mem_indices m)
  have hn : (l ++ m :: l').Nodup := hl ▸ indices_nodup k
  have hm : m ∉ l ∧ m ∉ l' := by
    obtain ⟨-, h', hd⟩ := List.nodup_append.mp hn
    exact ⟨fun h => hd m h m (List.mem_cons_self ..) rfl, (List.nodup_cons.mp h').1⟩
  refine ⟨l.foldl (fun s i => f i s) s, pass l s hm.1, held l s, ?_⟩
  rw [foldFin, hl, List.foldl_append, List.foldl_cons, pass _ _ hm.2]

/-! ### The stakes that act together -/

theorem mem_mates_self (s : State) (n : Fin 32) : n ∈ mates s n := by
  unfold mates
  split
  · simp only [List.mem_cons, Fin.ext_iff, List.not_mem_nil, or_false]
    omega
  · simp

theorem mates_nodup (s : State) (n : Fin 32) : (mates s n).Nodup := by
  unfold mates
  split <;> simp

theorem mates_congr {s t : State} {n : Fin 32} (h : t.taps[n].cfg = s.taps[n].cfg) : mates t n = mates s n := by
  simp only [mates, h]

/-- What `onMates` makes of each tap. -/
theorem onMates_taps (n : Fin 32) (f : Stake → Stake) (s : State) (m : Fin 32) : (onMates n f s).taps[m] =
    if m ∈ mates s n then { s.taps[m] with stake := f s.taps[m].stake } else s.taps[m] := by
  have fold : ∀ (l : List (Fin 32)) (s : State), l.Nodup → (l.foldl (fun s m => s.modStake m f) s).taps[m] =
      if m ∈ l then { s.taps[m] with stake := f s.taps[m].stake } else s.taps[m] := by
    intro l
    induction l with
    | nil => simp
    | cons i l ih =>
      intro s h
      obtain ⟨hi, hl⟩ := List.nodup_cons.mp h
      rw [List.foldl_cons, ih _ hl, State.modStake_taps]
      by_cases hm : m = i
      · subst hm
        simp [hi]
      · simp [hm]
  exact fold _ s (mates_nodup s n)

/-- A tap whose stake has been stopped (R18, R129). -/
def Tap.stopped (t : Tap) : Tap :=
  { t with limit := 0, tracking := false, keepLow := false
           stake := { t.stake.halt with slotByp := t.stake.slotByp || decide (t.state = .standIn) } }

/-- What `stopStake` makes of each tap. -/
theorem stopStake_taps (n : Fin 32) (s : State) (m : Fin 32) : (stopStake n s).taps[m] =
    if m = n then s.taps[n].stopped
    else if m ∈ mates s n then { s.taps[m] with stake := s.taps[m].stake.halt } else s.taps[m] := by
  unfold stopStake
  dsimp only
  rw [State.modTap_taps]
  by_cases hm : m = n
  · subst hm
    have own := onMates_taps m Stake.halt s m
    rw [if_pos (mem_mates_self s m)] at own
    rw [if_pos rfl, if_pos rfl]
    split
    · next h => rw [State.modStake_taps, if_pos rfl, own, Tap.stopped, h, Bool.or_true]
    · next h => rw [own, Tap.stopped, eq_false_of_ne_true h, Bool.or_false]; rfl
  · rw [if_neg hm, if_neg hm, ← onMates_taps]
    split
    · rw [State.modStake_taps, if_neg hm]
    · rfl

@[simp] theorem Stake.halt_conv (k : Stake) : k.halt.conv = false := rfl
@[simp] theorem Stake.halt_sw (k : Stake) : k.halt.sw = false := rfl
@[simp] theorem Stake.halt_slotByp (k : Stake) : k.halt.slotByp = k.slotByp := rfl
@[simp] theorem Stake.halt_slotFb (k : Stake) : k.halt.slotFb = k.slotFb := rfl
@[simp] theorem Stake.halt_withdrawn (k : Stake) : k.halt.withdrawn = k.withdrawn := rfl
@[simp] theorem Tap.stopped_state (t : Tap) : t.stopped.state = t.state := rfl
@[simp] theorem Tap.stopped_cause (t : Tap) : t.stopped.cause = t.cause := rfl
@[simp] theorem Tap.stopped_cfg (t : Tap) : t.stopped.cfg = t.cfg := rfl
@[simp] theorem Tap.stopped_desc (t : Tap) : t.stopped.desc = t.desc := rfl
@[simp] theorem Tap.stopped_conv (t : Tap) : t.stopped.stake.conv = false := rfl
@[simp] theorem Tap.stopped_sw (t : Tap) : t.stopped.stake.sw = false := rfl

end Sys2Proof.Machine
end

/-! ## What the operations of a tap change -/

section
open Sys2Proof.Claims

/-! ### Taps apart from one -/

namespace Sys2Proof.Claims
open Sys2Proof.Machine

theorem TapsBut.refl (n s) : TapsBut n s s := fun _ _ => rfl
theorem TapsBut.trans {n s t u} (h : TapsBut n s t) (k : TapsBut n t u) : TapsBut n s u :=
  fun m hm => (k m hm).trans (h m hm)
theorem TapsBut.of_taps {n} {s t : State} (h : t.taps = s.taps) : TapsBut n s t := fun m _ => by rw [h]
theorem TapsBut.modTap (n f) (s : State) : TapsBut n s (s.modTap n f) := fun m hm => by rw [State.modTap_taps, if_neg hm]
theorem TapsBut.ite {n s t u} {p : Prop} [Decidable p] (h : TapsBut n s t) (k : TapsBut n s u) :
    TapsBut n s (if p then t else u) := by split <;> assumption
theorem TapsBut.mates {n s t} (h : TapsBut n s t) : TapsButMates n s t :=
  fun m hm => h m fun he => hm (he ▸ mem_mates_self s n)

end Sys2Proof.Claims

namespace Sys2Proof.Machine

/-- A single stake acts alone (R65). -/
theorem mates_single {s : State} {n : Fin 32} (h : s.taps[n].cfg.gang = false) : mates s n = [n] := by
  simp only [mates, h, Bool.false_eq_true, if_false]

/-! ### The frame of an event of a tap -/

/-- The frame of an event of tap `n`, whose gang setting it leaves. -/
structure TapOp (n : Fin 32) (s t : State) : Prop where
  frame : TapFrame n s t
  gang : t.taps[n].cfg.gang = s.taps[n].cfg.gang

/-- An event that reports only: records, alerts and the fault summary. -/
def Reports (s t : State) : Prop :=
  t = { s with bbx := t.bbx, alr := t.alr, bus := t.bus, shown := { s.shown with flt := t.shown.flt } }

theorem TapOp.mates {n s t} (h : TapOp n s t) : mates t n = mates s n := by
  unfold Machine.mates
  rw [h.gang]

theorem TapOp.refl (n s) : TapOp n s s := ⟨⟨fun _ _ => rfl, rfl, rfl⟩, rfl⟩

theorem TapOp.trans {n s t u} (h : TapOp n s t) (k : TapOp n t u) : TapOp n s u := by
  have hm := h.mates
  obtain ⟨⟨hothers, hsys, hrest⟩, hgang⟩ := h
  obtain ⟨⟨kothers, ksys, krest⟩, kgang⟩ := k
  refine ⟨⟨fun m hn => (kothers m (hm ▸ hn)).trans (hothers m hn), ?_, ?_⟩, kgang.trans hgang⟩
  · rw [ksys, hsys]
  · rw [krest, hrest]

theorem TapOp.ite {n s t u} {p : Prop} [Decidable p] (h : TapOp n s t) (k : TapOp n s u) :
    TapOp n s (if p then t else u) := by split <;> assumption

theorem TapOp.of_reports {n s t} (h : Reports s t) : TapOp n s t := by
  have taps : t.taps = s.taps := by rw [h]
  have sys : t.sys = s.sys := by rw [h]
  exact ⟨⟨fun m _ => by rw [taps], by rw [sys], by rw [taps, sys]; exact h⟩, by rw [taps]⟩

theorem TapOp.modMate {n m f} {s : State} (hm : m ∈ Machine.mates s n) (hf : ∀ t : Tap, (f t).cfg.gang = t.cfg.gang := by exact fun _ => rfl) :
    TapOp n s (s.modTap m f) := by
  refine ⟨⟨fun i hi => ?_, rfl, rfl⟩, ?_⟩
  · rw [State.modTap_taps]
    exact if_neg fun h => hi (by rw [h]; exact hm)
  · rw [State.modTap_taps]
    split
    · next h => subst h; exact hf _
    · rfl

theorem TapOp.modTap {n f} {s : State} (hf : ∀ t : Tap, (f t).cfg.gang = t.cfg.gang := by exact fun _ => rfl) :
    TapOp n s (s.modTap n f) := .modMate (mem_mates_self s n) hf

theorem TapOp.modStake (n f) (s : State) : TapOp n s (s.modStake n f) := .modTap

theorem TapOp.onMates (n f) (s : State) : TapOp n s (onMates n f s) := by
  have fold : ∀ (l : List (Fin 32)) (s : State), (∀ m ∈ l, m ∈ Machine.mates s n) →
      TapOp n s (l.foldl (fun s m => s.modStake m f) s) := by
    intro l
    induction l with
    | nil => exact fun s _ => .refl n s
    | cons m l ih =>
      intro s h
      have first : TapOp n s (s.modStake m f) := .modMate (h m (List.mem_cons_self ..))
      exact first.trans (ih _ fun i hi => by rw [first.mates]; exact h i (List.mem_cons_of_mem _ hi))
  exact fold _ s fun _ h => h

/-- A tap event that changes no stake but its own. -/
theorem TapOp.wakes {n s t} (h : TapOp n s t) : t.sys = { s.sys with clWaking := t.sys.clWaking } := h.frame.2.1

theorem Reports.alert (cls kind reason inst param s) : Reports s (alert cls kind reason inst param s) := by
  unfold Machine.alert alertAt enqueue
  dsimp only
  split <;> rfl

theorem Reports.record (type payload s) : Reports s (record type payload s) := rfl

theorem Reports.recordKeyed (key payload s) : Reports s (recordKeyed key payload s) := by
  apply State.ext_parts <;> simp

theorem Reports.event (c params s) : Reports s (event c params s) := .recordKeyed ..

theorem Reports.alertRec {rec_ : State → State} {s} (h : Reports s (rec_ s)) (cls kind reason inst param) :
    Reports s (alertRec rec_ cls kind reason inst param s) := by
  unfold Reports at h ⊢
  apply State.ext_parts <;> simp <;> rw [h]

theorem TapOp.alert (n cls kind reason inst param s) : TapOp n s (alert cls kind reason inst param s) :=
  .of_reports (.alert ..)

theorem TapOp.fltSince (n a s) : TapOp n s (fltSince a s) := by
  unfold Machine.fltSince
  split
  · exact .refl n s
  · exact .of_reports rfl

theorem TapOp.withFlt {n f s} (h : TapOp n s (f s)) : TapOp n s (withFlt f s) := h.trans (.fltSince ..)

theorem TapOp.byCommand {n f s} (h : TapOp n s (f s)) : TapOp n s (byCommand n f s) := by
  unfold Machine.byCommand
  exact .ite (h.trans (.modTap)) h

theorem TapOp.rankTap {n f s} (h : TapOp n s (f s)) (r top) : TapOp n s (rankTap r top n f s) := by
  unfold Machine.rankTap
  exact .ite (.refl n s) (.ite (h.trans (.modTap)) h)

theorem TapOp.wakeFor (n s) : TapOp n s (wakeFor n s) := by
  unfold Machine.wakeFor
  split
  · exact .refl n s
  · exact ⟨⟨fun _ _ => rfl, rfl, rfl⟩, rfl⟩

/-! ### The stakes of an event that stand still -/

/-- Every stake converts or not, and its switch is open or closed, as before. -/
def SwitchesKept (s t : State) : Prop :=
  ∀ m : Fin 32, t.taps[m].stake.conv = s.taps[m].stake.conv ∧ t.taps[m].stake.sw = s.taps[m].stake.sw

theorem SwitchesKept.of_taps {s t : State} (h : t.taps = s.taps) : SwitchesKept s t := fun m => by rw [h]; exact ⟨rfl, rfl⟩
theorem SwitchesKept.trans {s t u : State} (h : SwitchesKept s t) (k : SwitchesKept t u) : SwitchesKept s u :=
  fun m => ⟨(k m).1.trans (h m).1, (k m).2.trans (h m).2⟩
theorem SwitchesKept.ite {s t u} {p : Prop} [Decidable p] (h : SwitchesKept s t) (k : SwitchesKept s u) :
    SwitchesKept s (if p then t else u) := by split <;> assumption
theorem SwitchesKept.modTap {n f} (h : ∀ t : Tap, (f t).stake.conv = t.stake.conv ∧ (f t).stake.sw = t.stake.sw) (s) :
    SwitchesKept s (s.modTap n f) := fun m => by
  rw [State.modTap_taps]
  split
  · next h' => subst h'; exact h _
  · exact ⟨rfl, rfl⟩

end Sys2Proof.Machine

namespace Sys2Proof.Claims
open Sys2Proof.Machine

theorem Stopped.of_switches {n s u t} (h : Stopped n s u) (k : SwitchesKept u t) : Stopped n s t :=
  fun m hm => ⟨(k m).1.trans (h m hm).1, (k m).2.trans (h m hm).2⟩

theorem Stopped.after {n s s' t} (h : Stopped n s' t) (k : mates s' n = mates s n) : Stopped n s t :=
  fun m hm => h m (k ▸ hm)

end Sys2Proof.Claims

namespace Sys2Proof.Machine

/-! ### Stop -/

theorem stopStake_tapOp (n s) : TapOp n s (stopStake n s) := by
  unfold stopStake
  dsimp only
  exact (TapOp.trans (.onMates ..) (.ite (.modStake ..) (.refl ..))).trans (.modTap)

theorem stopStake_tap (n s) : (stopStake n s).taps[n] = s.taps[n].stopped := by rw [stopStake_taps, if_pos rfl]

theorem stopStake_stopped (n s) : Stopped n s (stopStake n s) := fun m hm => by
  rw [stopStake_taps]
  split_ifs <;> exact ⟨rfl, rfl⟩

/-! ### References -/

/-- A tap that takes up the references of its state (R99, R100). -/
def Tap.aim (g : Nat × Int) (follows : Bool) (t : Tap) : Tap :=
  let k := t.stake
  let hit := k.conv && k.sw && !k.fromBypass && decide (k.vref = g.1 * 1000)
  { t with
    tracking := decide (t.state = .keep ∨ t.state = .standIn) && follows
    stake := { k with
      vTarget := g.1, iTarget := g.2, softStart := k.softStart && !hit
      attempts := if k.softStart && hit then 0 else k.attempts
      refReached := k.refReached || (hit && decide (t.state = .standIn))
      slewing := k.conv && !k.softStart && !hit } }

/-- What taking up its references leaves of a tap. -/
@[simp] theorem Tap.aim_keeps (g follows) (t : Tap) :
    (t.aim g follows).state = t.state ∧ (t.aim g follows).cause = t.cause ∧ (t.aim g follows).left = t.left ∧
    (t.aim g follows).leftCause = t.leftCause ∧ (t.aim g follows).left2 = t.left2 ∧
    (t.aim g follows).hostStop = t.hostStop ∧ (t.aim g follows).newBlock = t.newBlock ∧
    (t.aim g follows).desc = t.desc ∧ (t.aim g follows).cfg = t.cfg ∧ (t.aim g follows).pre = t.pre ∧
    (t.aim g follows).chg = t.chg ∧ (t.aim g follows).top = t.top ∧ (t.aim g follows).outQ = t.outQ ∧
    (t.aim g follows).cupT = t.cupT ∧ (t.aim g follows).cupOhm = t.cupOhm ∧ (t.aim g follows).cupInt = t.cupInt ∧
    (t.aim g follows).vKel = t.vKel ∧ (t.aim g follows).vPair = t.vPair ∧ (t.aim g follows).kelvinBad = t.kelvinBad ∧
    (t.aim g follows).inserted = t.inserted ∧ (t.aim g follows).removed = t.removed ∧ (t.aim g follows).eoc = t.eoc ∧
    (t.aim g follows).cupDone = t.cupDone ∧ (t.aim g follows).band = t.band ∧ (t.aim g follows).acted = t.acted := by
  simp only [Tap.aim, and_self]

@[simp] theorem Tap.aim_stake_keeps (g follows) (t : Tap) :
    (t.aim g follows).stake.conv = t.stake.conv ∧ (t.aim g follows).stake.sw = t.stake.sw ∧
    (t.aim g follows).stake.start = t.stake.start ∧ (t.aim g follows).stake.vref = t.stake.vref ∧
    (t.aim g follows).stake.slotByp = t.stake.slotByp ∧ (t.aim g follows).stake.slotFb = t.stake.slotFb ∧
    (t.aim g follows).stake.bypRamp = t.stake.bypRamp ∧ (t.aim g follows).stake.bypassed = t.stake.bypassed ∧
    (t.aim g follows).stake.fromBypass = t.stake.fromBypass ∧ (t.aim g follows).stake.handOff = t.stake.handOff ∧
    (t.aim g follows).stake.autoReturned = t.stake.autoReturned ∧
    (t.aim g follows).stake.withdrawn = t.stake.withdrawn ∧ (t.aim g follows).stake.rods = t.stake.rods := by
  simp only [Tap.aim, and_self]

@[simp] theorem Tap.aim_vTarget (g follows) (t : Tap) : (t.aim g follows).stake.vTarget = g.1 := rfl
@[simp] theorem Tap.aim_iTarget (g follows) (t : Tap) : (t.aim g follows).stake.iTarget = g.2 := rfl

theorem retarget_tap (n s) : (retarget n s).taps[n] =
    s.taps[n].aim (targets s n s.taps[n].state) (tracked s s.taps[n]).isSome := by
  unfold retarget
  dsimp only
  rw [State.modTap_taps, if_pos rfl]
  rfl

theorem retarget_but (n s) : TapsBut n s (retarget n s) := by unfold retarget; exact .modTap _ _ _
theorem retarget_tapOp (n s) : TapOp n s (retarget n s) := by unfold retarget; exact .modTap
theorem retarget_switches (n s) : SwitchesKept s (retarget n s) := .modTap (by exact fun _ => ⟨rfl, rfl⟩) s

/-! ### Suspension and faults -/

theorem suspend_eq (n cause s) : ∃ u, Reports u (suspend n cause s) ∧ u = (stopStake n s).modTap n fun t =>
    { t with state := .suspended, cause := cause,
             left := if s.taps[n].state = .suspended then t.left else s.taps[n].state } := by
  refine ⟨_, ?_, rfl⟩
  unfold suspend
  dsimp only
  cases suspClass cause with
  | none => rfl
  | some c => exact .alert ..

theorem suspend_taps (n cause s) : (suspend n cause s).taps = ((stopStake n s).modTap n fun t =>
    { t with state := .suspended, cause := cause,
             left := if s.taps[n].state = .suspended then t.left else s.taps[n].state }).taps := by
  obtain ⟨u, hu, rfl⟩ := suspend_eq n cause s
  rw [hu]

theorem suspend_tap (n cause s) : (suspend n cause s).taps[n] = { s.taps[n].stopped with
    state := .suspended, cause := cause
    left := if s.taps[n].state = .suspended then s.taps[n].left else s.taps[n].state } := by
  rw [suspend_taps, State.modTap_taps, if_pos rfl, stopStake_tap]
  rfl

theorem suspend_tapOp (n cause s) : TapOp n s (suspend n cause s) := by
  obtain ⟨u, hu, rfl⟩ := suspend_eq n cause s
  exact ((stopStake_tapOp n s).trans (.modTap)).trans (.of_reports hu)

theorem suspend_stopped (n cause s) : Stopped n s (suspend n cause s) := by
  obtain ⟨u, hu, rfl⟩ := suspend_eq n cause s
  have taps := suspend_taps n cause s
  exact ((stopStake_stopped n s).of_switches (.modTap (by exact fun _ => ⟨rfl, rfl⟩) _)).of_switches (.of_taps taps)

theorem suspend_suspends (n cause s) : Suspends n cause s (suspend n cause s) := by
  refine ⟨⟨?_, (suspend_tapOp n cause s).frame⟩, ?_, suspend_stopped n cause s, fun h => ?_⟩ <;> rw [suspend_tap]
  exact if_neg h

/-- A tap in a FAULT state (R129). -/
def Tap.faulted (st : TapState) (cause : Nat) (t : Tap) : Tap :=
  let u := { t with stake := t.releaseByp }.stopped
  let u := { u with state := st, cause := cause
                    stake := { u.stake with slotByp := u.stake.slotByp || u.cfg.bypOnFault } }
  if st = .faultOpen then u.disarm else u

/-- The state a FAULT state is entered from, before its record and alert. -/
def faultStop (n : Fin 32) (st : TapState) (cause : Nat) (s : State) : State :=
  let s := stopStake n (s.modTap n fun t => { t with stake := t.releaseByp })
  let s := s.modTap n fun t =>
    { t with state := st, cause := cause
             stake := { t.stake with slotByp := t.stake.slotByp || t.cfg.bypOnFault } }
  if st = .faultOpen then s.modTap n Tap.disarm else s

theorem tapFault_eq (n st cause s) : tapFault n st cause s = alertRec (record 0x08
    (faultRecord n (s.modTap n fun t => { t with state := st, cause := cause }))) 0 2 (tapCode st) n.val
    (faultStop n st cause s).taps[n].vKel (faultStop n st cause s) := rfl

theorem faultStop_tapOp (n st cause s) : TapOp n s (faultStop n st cause s) := by
  have released : TapOp n s (s.modTap n fun t => { t with stake := t.releaseByp }) := .modTap
  have stopped := (released.trans (stopStake_tapOp n _)).trans (.modTap (f := fun t : Tap =>
    { t with state := st, cause := cause
             stake := { t.stake with slotByp := t.stake.slotByp || t.cfg.bypOnFault } }))
  exact .ite (stopped.trans (.modTap)) stopped

theorem faultStop_tap (n st cause s) : (faultStop n st cause s).taps[n] = s.taps[n].faulted st cause := by
  unfold faultStop Tap.faulted
  dsimp only
  split
  all_goals simp only [State.modTap_taps, if_pos, stopStake_tap]

theorem faultStop_stopped (n st cause s) : Stopped n s (faultStop n st cause s) := by
  let r : State := s.modTap n fun t => { t with stake := t.releaseByp }
  have hr : mates r n = mates s n := (TapOp.modTap (f := fun t : Tap => { t with stake := t.releaseByp })).mates
  have halted : Stopped n s (stopStake n r) := (stopStake_stopped n r).after hr
  refine halted.of_switches ?_
  unfold faultStop
  dsimp only
  have kept (u : State) : SwitchesKept u (u.modTap n fun t =>
    { t with state := st, cause := cause
             stake := { t.stake with slotByp := t.stake.slotByp || t.cfg.bypOnFault } }) :=
    .modTap (by exact fun _ => ⟨rfl, rfl⟩) u
  split
  · exact (kept _).trans (.modTap (by exact fun _ => ⟨rfl, rfl⟩) _)
  · exact kept _

theorem tapFault_taps (n st cause s) : (tapFault n st cause s).taps = (faultStop n st cause s).taps := by
  rw [tapFault_eq]
  simp

theorem tapFault_tap (n st cause s) : (tapFault n st cause s).taps[n] = s.taps[n].faulted st cause := by
  rw [tapFault_taps, faultStop_tap]

theorem tapFault_tapOp (n st cause s) : TapOp n s (tapFault n st cause s) := by
  rw [tapFault_eq]
  exact (faultStop_tapOp n st cause s).trans (.of_reports (.alertRec (.record ..) ..))

theorem tapFault_stopped (n st cause s) : Stopped n s (tapFault n st cause s) :=
  (faultStop_stopped n st cause s).of_switches (.of_taps (tapFault_taps n st cause s))

@[simp] theorem Tap.faulted_state (st cause) (t : Tap) : (t.faulted st cause).state = st := by
  unfold Tap.faulted
  dsimp only
  split <;> rfl

@[simp] theorem Tap.faulted_cause (st cause) (t : Tap) : (t.faulted st cause).cause = cause := by
  unfold Tap.faulted
  dsimp only
  split <;> rfl

theorem Tap.faulted_byp (st cause) (t : Tap) (h : t.cfg.bypOnFault = true) : (t.faulted st cause).stake.slotByp = true := by
  unfold Tap.faulted
  dsimp only
  split <;> simp [Tap.disarm, h]

/-! ### DETECT -/

/-- A tap that enters DETECT, but for the references of a stake that goes on converting (R129, R128, R156). -/
def Tap.detecting (isNew : Bool) (t : Tap) : Tap :=
  let u : Tap := { t with state := .detect, cause := 0, newBlock := isNew, doneSeen := false, tracking := false
                          keepQ := if isNew then none else t.keepQ }
  let u := if isNew then u.disarm else u
  { u with insHeld := false, stake := { u.stake.rejoin with iTarget := 0 } }

theorem toDetect_eq (n isNew s) : toDetect n isNew s =
    let u := s.modTap n (Tap.detecting isNew)
    wakeFor n (if u.taps[n].stake.conv && u.taps[n].desc.isSome then retarget n u else u) := by
  have once (f g : Tap → Tap) (s : State) : (s.modTap n f).modTap n g = s.modTap n (fun t => g (f t)) := by
    unfold State.modTap
    apply State.ext_parts <;> simp
  unfold toDetect
  dsimp only
  cases isNew
  all_goals
    simp only [Bool.false_eq_true, if_false, if_true, once]
    rfl

theorem toDetect_tapOp (n isNew s) : TapOp n s (toDetect n isNew s) := by
  rw [toDetect_eq]
  have entered : TapOp n s (s.modTap n (Tap.detecting isNew)) :=
    .modTap (by intro t; unfold Tap.detecting; cases isNew <;> rfl)
  exact TapOp.trans (.ite (entered.trans (retarget_tapOp ..)) entered) (.wakeFor ..)

theorem toDetect_but (n isNew s) : TapsBut n s (toDetect n isNew s) := by
  rw [toDetect_eq]
  have entered : TapsBut n s (s.modTap n (Tap.detecting isNew)) := .modTap _ _ _
  exact TapsBut.trans (.ite (entered.trans (retarget_but _ _)) entered) (.of_taps (wakeFor_keeps ..).2.2.1)

/-- `toDetect` asks at most for the wake of a cluster island. -/
theorem toDetect_sys (n isNew s) :
    (toDetect n isNew s).sys = { s.sys with clWaking := (toDetect n isNew s).sys.clWaking } := (toDetect_tapOp ..).wakes

theorem toDetect_tap (n isNew s) : ∃ g follows, (toDetect n isNew s).taps[n] = s.taps[n].detecting isNew ∨
    (toDetect n isNew s).taps[n] = (s.taps[n].detecting isNew).aim g follows := by
  let u := s.modTap n (Tap.detecting isNew)
  have own : u.taps[n] = s.taps[n].detecting isNew := by rw [State.modTap_taps, if_pos rfl]
  have taps : (toDetect n isNew s).taps =
      (if u.taps[n].stake.conv && u.taps[n].desc.isSome then retarget n u else u).taps := by
    rw [toDetect_eq]
    exact (wakeFor_keeps ..).2.2.1
  rw [taps]
  split
  · exact ⟨_, _, .inr (by rw [retarget_tap, own])⟩
  · exact ⟨0, false, .inl own⟩

/-- What DETECT shows of the tap that enters it. -/
theorem toDetect_shows (n isNew s) :
    (toDetect n isNew s).taps[n].state = .detect ∧ (toDetect n isNew s).taps[n].cause = 0 ∧
    (toDetect n isNew s).taps[n].newBlock = isNew ∧ (toDetect n isNew s).taps[n].hostStop = s.taps[n].hostStop ∧
    (toDetect n isNew s).taps[n].desc = s.taps[n].desc ∧ (toDetect n isNew s).taps[n].cfg = s.taps[n].cfg ∧
    (toDetect n isNew s).taps[n].vKel = s.taps[n].vKel ∧ (toDetect n isNew s).taps[n].vPair = s.taps[n].vPair ∧
    (toDetect n isNew s).taps[n].kelvinBad = s.taps[n].kelvinBad ∧
    (toDetect n isNew s).taps[n].inserted = s.taps[n].inserted ∧
    (toDetect n isNew s).taps[n].stake.slotByp = false ∧
    (toDetect n isNew s).taps[n].pre = (if isNew then .reset else s.taps[n].pre) ∧
    (toDetect n isNew s).taps[n].chg = (if isNew then .reset else s.taps[n].chg) ∧
    (toDetect n isNew s).taps[n].stake.conv = s.taps[n].stake.conv ∧
    (toDetect n isNew s).taps[n].stake.sw = s.taps[n].stake.sw ∧
    (toDetect n isNew s).taps[n].acted = s.taps[n].acted := by
  obtain ⟨g, follows, h | h⟩ := toDetect_tap n isNew s <;> rw [h] <;> cases isNew <;>
    simp [Tap.detecting, Tap.disarm, Stake.rejoin, Stake.fresh]

theorem toDetect_cores (n isNew s) : (toDetect n isNew s).sys.cores = s.sys.cores := by rw [toDetect_sys]
theorem toDetect_cause (n isNew s) : (toDetect n isNew s).sys.cause = s.sys.cause := by rw [toDetect_sys]

/-! ### The charge states -/

/-- A tap whose timer its charge state arms (R150, R156), with the capacity in use. -/
def Tap.arm (c : Nat) (st : TapState) (t : Tap) : Tap := match t.desc with
  | none => t
  | some d => match st with
    | .precharge =>
      if t.pre.armed then { t with timerShown := 1 }
      else { t with timerShown := 1, pre := { armed := true, size := d.preTimer.getD 60 * 60000 } }
    | .cc | .cv =>
      if t.chg.armed then { t with timerShown := 2 }
      else { t with timerShown := 2
                    chg := { armed := true
                             size := min 64800000 (d.kFactor.getD 15 * c * 3600000 / d.iFast) } }
    | .topoff => { t with timerShown := 3, top := { armed := true, size := d.topTimer.getD 60 * 60000 } }
    | _ => t

theorem armFor_tap (n st s) : (armFor n st s).taps[n] = s.taps[n].arm (capacity s n) st := by
  unfold armFor Tap.arm
  cases h : s.taps[n].desc with
  | none => rfl
  | some d =>
    refine (State.modTap_taps ..).trans ((if_pos rfl).trans ?_)
    cases st <;> rw [h]

theorem armFor_but (n st s) : TapsBut n s (armFor n st s) := by
  unfold armFor
  split
  · exact .refl _ _
  · exact .modTap _ _ _

theorem armFor_tapOp (n st s) : TapOp n s (armFor n st s) := by
  unfold armFor
  cases h : s.taps[n].desc with
  | none => exact .refl ..
  | some d =>
    refine .modTap fun t => ?_
    cases st <;> dsimp only <;> split_ifs <;> rfl

/-- What arming a timer leaves of a tap. -/
@[simp] theorem Tap.arm_keeps (c st) (t : Tap) :
    (t.arm c st).state = t.state ∧ (t.arm c st).cause = t.cause ∧ (t.arm c st).left = t.left ∧
    (t.arm c st).leftCause = t.leftCause ∧ (t.arm c st).left2 = t.left2 ∧ (t.arm c st).hostStop = t.hostStop ∧
    (t.arm c st).newBlock = t.newBlock ∧ (t.arm c st).desc = t.desc ∧ (t.arm c st).cfg = t.cfg ∧
    (t.arm c st).outQ = t.outQ ∧ (t.arm c st).vKel = t.vKel ∧ (t.arm c st).vPair = t.vPair ∧
    (t.arm c st).kelvinBad = t.kelvinBad ∧ (t.arm c st).stake = t.stake ∧ (t.arm c st).eoc = t.eoc ∧
    (t.arm c st).cupDone = t.cupDone ∧ (t.arm c st).band = t.band ∧ (t.arm c st).acted = t.acted := by
  unfold Tap.arm
  split
  · simp
  · split <;> (try split) <;> simp

theorem Tap.arm_pre_armed {c st} {t : Tap} (h : t.pre.armed = true) : (t.arm c st).pre = t.pre := by
  unfold Tap.arm
  split
  · rfl
  · cases st <;> grind

theorem Tap.arm_chg_armed {c st} {t : Tap} (h : t.chg.armed = true) : (t.arm c st).chg = t.chg := by
  unfold Tap.arm
  split
  · rfl
  · cases st <;> grind

theorem Tap.arm_precharge {c} {t : Tap} (h : t.desc.isSome = true) : (t.arm c .precharge).pre.armed = true := by
  obtain ⟨d, hd⟩ := Option.isSome_iff_exists.mp h
  simp only [Tap.arm, hd]
  split
  · assumption
  · rfl

theorem Tap.arm_charge {c st} {t : Tap} (h : t.desc.isSome = true) (hst : st = .cc ∨ st = .cv) :
    (t.arm c st).chg.armed = true := by
  obtain ⟨d, hd⟩ := Option.isSome_iff_exists.mp h
  obtain rfl | rfl := hst
  all_goals
    simp only [Tap.arm, hd]
    split
    · assumption
    · rfl

/-- A tap that takes up a state of its block, but for its timer and its references (R129). -/
def Tap.enters (st : TapState) (cause : Nat) (t : Tap) : Tap := { t with state := st, cause := cause, stake := t.stake.rejoin }

theorem helperState_own {t : Tap} (h : isHelper t = false) (st) : helperState t st = st := by
  unfold helperState
  split <;> simp [h]

/-- The states that `enterCharge` enters with their timer and references alone. -/
def TapState.plain : TapState → Bool
  | .done | .cupping => false
  | _ => true

theorem enterCharge_plain {n st s} (h : (helperState s.taps[n] st).plain = true) : enterCharge n st s =
    retarget n (armFor n (helperState s.taps[n] st) (s.modTap n (Tap.enters (helperState s.taps[n] st) 0))) := by
  unfold enterCharge
  dsimp only
  split
  · next h' => rw [h'] at h; exact absurd h (by decide)
  · next h' => rw [h'] at h; exact absurd h (by decide)
  · rfl

theorem enterCharge_plain_tap {n st s} (h : (helperState s.taps[n] st).plain = true) : ∃ c g follows,
    (enterCharge n st s).taps[n] =
      (((s.taps[n].enters (helperState s.taps[n] st) 0).arm c (helperState s.taps[n] st)).aim g follows) := by
  rw [enterCharge_plain h, retarget_tap, armFor_tap, State.modTap_taps, if_pos rfl]
  exact ⟨_, _, _, rfl⟩

/-- The state in which DONE is entered, before its alert and references (R129, R156). -/
def Tap.finished (t : Tap) : Tap :=
  { (t.enters .done 0).disarm with outQ := 0, doneSeen := true, top := .reset, timerShown := 0 }

theorem modTap_modTap (n) (f g : Tap → Tap) (s : State) : (s.modTap n f).modTap n g = s.modTap n (fun t => g (f t)) := by
  unfold State.modTap
  apply State.ext_parts <;> simp

theorem enterCharge_done {n st s} (h : helperState s.taps[n] st = .done) : ∃ u, Reports (s.modTap n Tap.finished) u ∧
    enterCharge n st s = if TapState.converts u.taps[n] .done then retarget n u else stopStake n u := by
  refine ⟨alert 3 2 6 n.val (s.modTap n Tap.finished).taps[n].vKel (s.modTap n Tap.finished), .alert .., ?_⟩
  unfold enterCharge
  rw [h]
  dsimp only
  rw [modTap_modTap]
  rfl

/-- A cupping pulse train begins from nothing (R144). -/
def Tap.cups (t : Tap) : Tap := { t.enters .cupping 0 with cupT := 0, cupOhm := [], cupInt := [], keepQ := none }

theorem enterCharge_cupping {n st s} (h : helperState s.taps[n] st = .cupping) : enterCharge n st s =
    retarget n (onMates n (fun k => { k with rods := k.rods.map fun r => { r with trim := 0 } }) (s.modTap n Tap.cups)) := by
  unfold enterCharge
  rw [h]
  dsimp only
  rw [modTap_modTap]
  rfl

theorem enterCharge_tapOp (n st s) : TapOp n s (enterCharge n st s) := by
  by_cases hp : (helperState s.taps[n] st).plain = true
  · rw [enterCharge_plain hp]
    exact (TapOp.trans .modTap (armFor_tapOp ..)).trans (retarget_tapOp ..)
  · obtain h | h : helperState s.taps[n] st = .done ∨ helperState s.taps[n] st = .cupping := by
      generalize helperState s.taps[n] st = u at hp
      cases u <;> simp_all [TapState.plain]
    · obtain ⟨u, hu, he⟩ := enterCharge_done h
      rw [he]
      have finished : TapOp n s u := TapOp.trans .modTap (.of_reports hu)
      exact .ite (finished.trans (retarget_tapOp ..)) (finished.trans (stopStake_tapOp ..))
    · rw [enterCharge_cupping h]
      exact (TapOp.trans .modTap (.onMates ..)).trans (retarget_tapOp ..)

theorem enterCharge_state (n st s) : (enterCharge n st s).taps[n].state = helperState s.taps[n] st := by
  by_cases hp : (helperState s.taps[n] st).plain = true
  · obtain ⟨c, g, follows, h⟩ := enterCharge_plain_tap hp
    rw [h]
    simp [Tap.enters]
  · obtain h | h : helperState s.taps[n] st = .done ∨ helperState s.taps[n] st = .cupping := by
      generalize helperState s.taps[n] st = u at hp
      cases u <;> simp_all [TapState.plain]
    · obtain ⟨u, hu, he⟩ := enterCharge_done h
      have own : u.taps[n].state = .done := by
        have taps : u.taps = (s.modTap n Tap.finished).taps := by rw [hu]
        rw [taps, State.modTap_taps, if_pos rfl]
        rfl
      rw [he, h]
      split
      · rw [retarget_tap]; simpa using own
      · rw [stopStake_tap]; simpa using own
    · rw [enterCharge_cupping h, retarget_tap, onMates_taps, if_pos (mem_mates_self ..), State.modTap_taps, if_pos rfl, h]
      rfl

/-! ### The return to a state left -/

/-- A return to a state, before its references (R151, R156). -/
def returning (n : Fin 32) (st : TapState) (cause : Nat) (s : State) : State :=
  let u := s.modTap n (Tap.enters st cause)
  if st = .topoff ∧ u.taps[n].top.armed then u.modTap n fun t => { t with timerShown := 3 } else armFor n st u

theorem returnTo_eq (n st cause s) : returnTo n st cause s =
    let st' := helperState s.taps[n] st
    let u := returning n st' cause s
    if TapState.converts u.taps[n] st' then retarget n u else stopStake n u := rfl

theorem returning_tapOp (n st cause s) : TapOp n s (returning n st cause s) :=
  .ite (TapOp.trans .modTap .modTap) (TapOp.trans .modTap (armFor_tapOp ..))

theorem returnTo_tapOp (n st cause s) : TapOp n s (returnTo n st cause s) := by
  rw [returnTo_eq]
  exact .ite ((returning_tapOp ..).trans (retarget_tapOp ..)) ((returning_tapOp ..).trans (stopStake_tapOp ..))

/-- What a return to a state shows of its tap. -/
theorem returning_tap (n st cause s) : (returning n st cause s).taps[n].state = st ∧
    (returning n st cause s).taps[n].cause = cause ∧ (returning n st cause s).taps[n].left = s.taps[n].left ∧
    (returning n st cause s).taps[n].outQ = s.taps[n].outQ ∧
    (s.taps[n].pre.armed = true → (returning n st cause s).taps[n].pre = s.taps[n].pre) ∧
    (s.taps[n].chg.armed = true → (returning n st cause s).taps[n].chg = s.taps[n].chg) ∧
    (s.taps[n].desc.isSome = true → st = .precharge → (returning n st cause s).taps[n].pre.armed = true) ∧
    (s.taps[n].desc.isSome = true → st = .cc ∨ st = .cv → (returning n st cause s).taps[n].chg.armed = true) := by
  unfold returning
  dsimp only
  have own : (s.modTap n (Tap.enters st cause)).taps[n] = s.taps[n].enters st cause := by rw [State.modTap_taps, if_pos rfl]
  split
  · next h =>
    rw [State.modTap_taps, if_pos rfl, own]
    refine ⟨rfl, rfl, rfl, rfl, fun _ => rfl, fun _ => rfl, fun _ h' => ?_, fun _ h' => ?_⟩
    · exact absurd (h.1.symm.trans h') (by decide)
    · obtain h' | h' := h' <;> exact absurd (h.1.symm.trans h') (by decide)
  · rw [armFor_tap, own]
    generalize capacity (s.modTap n (Tap.enters st cause)) n = c
    refine ⟨by simp [Tap.enters], by simp [Tap.enters], by simp [Tap.enters], by simp [Tap.enters],
      fun h => Tap.arm_pre_armed (t := s.taps[n].enters st cause) h, fun h => Tap.arm_chg_armed (t := s.taps[n].enters st cause) h, fun h hst => ?_, fun h hst => ?_⟩
    · rw [hst]; exact Tap.arm_precharge (t := s.taps[n].enters .precharge cause) h
    · exact Tap.arm_charge (t := s.taps[n].enters st cause) h hst

theorem returnTo_tap (n st cause s) : ∃ g follows, (returnTo n st cause s).taps[n] =
      ((returning n (helperState s.taps[n] st) cause s).taps[n].aim g follows) ∨
    (returnTo n st cause s).taps[n] = (returning n (helperState s.taps[n] st) cause s).taps[n].stopped := by
  rw [returnTo_eq]
  dsimp only
  split
  · exact ⟨_, _, .inl (retarget_tap ..)⟩
  · exact ⟨0, false, .inr (stopStake_tap ..)⟩

/-! ### STAND-IN and ABSENT -/

/-- A tap that enters STAND-IN (R109). -/
def Tap.standsIn (t : Tap) : Tap :=
  { t with state := .standIn, cause := 0, keepLow := false
           stake := { t.stake.fresh with
             refReached := false, bypassed := false, handOff := .none, bypFail := t.stake.bypFail, autoReturned := false } }

theorem toStandIn_eq (n s) : ∃ u, Reports (s.modTap n Tap.standsIn) u ∧ toStandIn n s = retarget n u := ⟨_, .alert .., rfl⟩

theorem toStandIn_tapOp (n s) : TapOp n s (toStandIn n s) := by
  obtain ⟨u, hu, he⟩ := toStandIn_eq n s
  rw [he]
  exact (TapOp.trans .modTap (.of_reports hu)).trans (retarget_tapOp ..)

theorem toStandIn_but (n s) : TapsBut n s (toStandIn n s) := by
  obtain ⟨u, hu, he⟩ := toStandIn_eq n s
  have taps : u.taps = (s.modTap n Tap.standsIn).taps := by rw [hu]
  rw [he]
  exact (TapsBut.trans (.modTap _ _ _) (.of_taps taps)).trans (retarget_but _ _)

theorem toStandIn_tap (n s) : ∃ g follows, (toStandIn n s).taps[n] = s.taps[n].standsIn.aim g follows := by
  obtain ⟨u, hu, he⟩ := toStandIn_eq n s
  have own : u.taps[n] = s.taps[n].standsIn := by
    have taps : u.taps = (s.modTap n Tap.standsIn).taps := by rw [hu]
    rw [taps, State.modTap_taps, if_pos rfl]
  exact ⟨_, _, by rw [he, retarget_tap, own]⟩

/-- A tap that enters ABSENT (R129, R416). -/
def Tap.absents (t : Tap) : Tap :=
  { t.disarm with state := .absent, cause := 0, timerShown := 0, doneSeen := false, keepQ := none, stake := t.releaseByp }

theorem toAbsent_eq (n s) : toAbsent n s = (stopStake n s).modTap n Tap.absents := rfl

theorem toAbsent_tapOp (n s) : TapOp n s (toAbsent n s) := by
  rw [toAbsent_eq]
  exact (stopStake_tapOp ..).trans .modTap

theorem toAbsent_tap (n s) : (toAbsent n s).taps[n] = s.taps[n].stopped.absents := by
  rw [toAbsent_eq, State.modTap_taps, if_pos rfl, stopStake_tap]

theorem toAbsent_stopped (n s) : Stopped n s (toAbsent n s) :=
  (stopStake_stopped n s).of_switches (.modTap (by exact fun _ => ⟨rfl, rfl⟩) _)

end Sys2Proof.Machine
end

/-! ## RUN, STANDBY, SAFE and leaving SAFE, and the end of the ramp -/

section
open Sys2Proof.Claims

namespace Sys2Proof.Machine

/-! ### What ends with the module state leaves of the stakes and ports -/

theorem bypStandIns_taps (s : State) (m : Fin 32) : (bypStandIns s).taps[m] = if s.taps[m].state = .standIn then
    { s.taps[m] with stake := { s.taps[m].stake with slotByp := true } } else s.taps[m] := State.mapTaps_taps ..

theorem bypStandIns_switches (s) : SwitchesKept s (bypStandIns s) := fun m => by
  rw [bypStandIns_taps]
  split <;> exact ⟨rfl, rfl⟩

/-- A hand-over that begins bypasses the stand-ins and changes no other tap. -/
theorem handOver_taps (was s) : (handOver was s).taps = s.taps ∨ (handOver was s).taps = (bypStandIns s).taps := by
  unfold handOver
  dsimp only
  split_ifs
  · exact .inl rfl
  · exact .inr rfl
  · exact .inl rfl

theorem changePort_taps (x f s) : (changePort x f s).taps = s.taps ∨ (changePort x f s).taps = (bypStandIns s).taps :=
  handOver_taps _ (s.modPort x f)

theorem changePort_ports (x f) (s : State) : (changePort x f s).ports = s.ports.set x (f s.ports[x]) := by
  simp [changePort, State.modPort]

/-- What `voidLink` changes of the taps, the ports and the tie (R298). -/
theorem voidLink_outside (x cause tell s) :
    ((voidLink x cause tell s).taps = s.taps ∨ (voidLink x cause tell s).taps = (bypStandIns s).taps) ∧
      (∀ y : Fin 4, (voidLink x cause tell s).ports[y].enabled = s.ports[y].enabled) ∧
      (s.tie.en = false → (voidLink x cause tell s).tie.en = false) := by
  unfold voidLink
  extract_lets l bbx s₁ s₂ s₃ tie s₄ s₅ s₆
  split
  · exact ⟨.inl rfl, fun _ => rfl, id⟩
  · have opened : s₄.taps = s.taps ∧ (∀ y : Fin 4, s₄.ports[y].enabled = s.ports[y].enabled) ∧
        (s.tie.en = false → s₄.tie.en = false) := by
      have ports (y : Fin 4) : s₃.ports[y].enabled = s.ports[y].enabled := by
        simp only [s₃, State.modPort_ports]
        split
        · next h => subst h; simp [s₂, s₁]
        · simp [s₂, s₁]
      simp only [s₄]
      split
      · exact ⟨by simp [s₃, s₂, s₁], ports, fun _ => rfl⟩
      · exact ⟨by simp [s₃, s₂, s₁], ports, by simp [s₃, s₂, s₁]⟩
    obtain ⟨htaps, hports, htie⟩ := opened
    have lost : (s₅.taps = s.taps ∨ s₅.taps = (bypStandIns s).taps) ∧
        (∀ y : Fin 4, s₅.ports[y].enabled = s.ports[y].enabled) ∧ (s.tie.en = false → s₅.tie.en = false) := by
      obtain h | h : s₅ = changePort x Port.lose s₄ ∨ s₅ = s₄ := ite_eq_or_eq ..
      all_goals rw [h]
      · refine ⟨?_, fun y => ?_, by simpa using htie⟩
        · have byp : (bypStandIns s₄).taps = (bypStandIns s).taps := by simp only [bypStandIns, State.mapTaps, htaps]
          exact byp ▸ htaps ▸ changePort_taps x Port.lose s₄
        · rw [changePort_ports, getElem_set_fin, ← hports y]
          split
          · next h => subst h; rfl
          · rfl
      · exact ⟨.inl htaps, hports, htie⟩
    simp only [s₆]
    split <;> simpa using lost

theorem bypStandIns_or {s t : State} (h : t.taps = s.taps ∨ t.taps = (bypStandIns s).taps) : SwitchesKept s t := by
  obtain h | h := h
  · exact .of_taps h
  · exact (bypStandIns_switches s).trans (.of_taps h)

/-- The tie opens, and its contract goes (R307). -/
theorem dropTie_outside (s) : SwitchesKept s (dropTie s) ∧
    (∀ y : Fin 4, (dropTie s).ports[y].enabled = s.ports[y].enabled) ∧ (dropTie s).tie.en = false := by
  unfold dropTie
  extract_lets tie s₁
  split
  · obtain ⟨htaps, hports, htie⟩ := voidLink_outside 3 10 true s₁
    exact ⟨bypStandIns_or htaps, hports, htie rfl⟩
  · exact ⟨.of_taps rfl, fun _ => rfl, rfl⟩

theorem rcpRelease_switches (n s) : SwitchesKept s (rcpRelease n s) := by
  have cleared : SwitchesKept s (s.modTap n fun t => { t with rcpReq := none, rcpCeil := 0 }) :=
    .modTap (by exact fun _ => ⟨rfl, rfl⟩) s
  unfold rcpRelease
  dsimp only
  split
  · exact cleared.trans (retarget_switches n _)
  · exact cleared

theorem SwitchesKept.foldFin {k} {f : Fin k → State → State} (h : ∀ i s, SwitchesKept s (f i s)) (s) :
    SwitchesKept s (foldFin k f s) := by
  have fold : ∀ (l : List (Fin k)) s, SwitchesKept s (l.foldl (fun s i => f i s) s) := by
    intro l
    induction l with
    | nil => exact fun s => .of_taps rfl
    | cons i l ih => exact fun s => (h i s).trans (ih _)
  exact fold _ s

theorem rcpHalt_switches (s) : SwitchesKept s (rcpHalt s) :=
  SwitchesKept.trans (t := { s with rcp := { s.rcp with running := none, phase := .idle, mask := 0, out := [] } })
    (.of_taps rfl) (.foldFin rcpRelease_switches _)

/-! ### Entry to SAFE and to STANDBY -/

theorem setState_sys (st cause s) : (setState st cause s).sys =
    { s.sys with st := st, cause := cause, rampStandby := false, rampHold := false } := rfl

theorem Port.disable_state (p : Port) : p.disable.state = .disabled ∧ p.disable.enabled = p.enabled := ⟨rfl, rfl⟩

theorem pourEnd_idle (result veto s) : (pourEnd result veto s).pour.state = .idle := by
  unfold pourEnd
  dsimp only
  split
  · assumption
  · simp [Pour.settle]

/-- Entry to SAFE (R26, R204, R307, R450). -/
theorem enterSafe_stops (cause s) : (enterSafe cause s).sys.cause = cause ∧ (enterSafe cause s).pour.state = .idle ∧
    (enterSafe cause s).tie.en = false ∧
    (∀ x : Fin 4, (enterSafe cause s).ports[x].state = .disabled ∧
      (enterSafe cause s).ports[x].enabled = s.ports[x].enabled) ∧
    ∀ n : Fin 32, (enterSafe cause s).taps[n].stake.conv = false ∧ (enterSafe cause s).taps[n].stake.sw = false := by
  unfold enterSafe
  extract_lets s₁ s₂ s₃ hub mtr bp s₄
  obtain ⟨hsw, hports, htie⟩ := dropTie_outside s₂
  have halted : SwitchesKept s₂ s₃ := by
    refine (hsw.trans (.of_taps ?_)).trans ((rcpHalt_switches (pourAbort (dropTie s₂))).trans (.of_taps ?_))
    · simp
    · simp [s₃]
  refine ⟨by simp [setState_sys], by simp [s₄, s₃, pourAbort, pourEnd_idle], by simp [s₄, s₃, htie], fun x => ?_,
    fun n => ?_⟩
  · have enabled : (dropTie s₂).ports[x].enabled = s.ports[x].enabled := by rw [hports x]; simp [s₂, s₁]
    simpa [s₄, s₃, disablePorts, Port.disable_state] using enabled
  · have off : s₂.taps[n].stake.conv = false ∧ s₂.taps[n].stake.sw = false := by simp [s₂]
    have := halted n
    simp_all [s₄]

/-- Entry to STANDBY with nothing that leads on to SAFE (R36, R450). -/
theorem enterStandby_calm {s : State} (hes : s.sys.estop = false) (hsh : s.sys.shFault = false) (cause) :
    (enterStandby cause s).sys.st = .standby ∧ (enterStandby cause s).sys.cause = cause ∧
      (enterStandby cause s).sys.rampStandby = false ∧ (enterStandby cause s).taps = s.taps ∧
      (enterStandby cause s).ports = (portsToIdle s).ports := by
  unfold enterStandby
  extract_lets s₁ s₂
  have hs₂ : s₂.sys.estop = false ∧ s₂.sys.shFault = false ∧ s₂.sys.st = .standby ∧ s₂.sys.cause = cause ∧
      s₂.sys.rampStandby = false ∧ s₂.taps = s.taps ∧ s₂.ports = (portsToIdle s).ports := by
    have alerts (u : State) : (standbyAlerts u).sys.estop = u.sys.estop ∧ (standbyAlerts u).sys.shFault = u.sys.shFault ∧
        (standbyAlerts u).sys.st = u.sys.st ∧ (standbyAlerts u).sys.cause = u.sys.cause ∧
        (standbyAlerts u).sys.rampStandby = u.sys.rampStandby := by
      unfold standbyAlerts
      dsimp only
      split_ifs <;> simp
    simp [s₂, alerts, setState_sys, s₁, hes, hsh, portsToIdle, State.mapPorts]
  obtain ⟨h1, h2, h3, h4, h5, h6, h7⟩ := hs₂
  rw [if_neg (by simp [h1]), if_neg (by simp [h2])]
  exact ⟨h3, h4, h5, h6, h7⟩

/-! ### Entry to RUN -/

/-- A tap that the module state suspended enters DETECT where its firmware runs (R132, R134). -/
def rejoinRun (n : Fin 32) (s : State) : State :=
  if s.taps[n].state = .suspended ∧ s.taps[n].cause = 10 ∧ fwUp s n then toDetect n false s else s

theorem enterRun_eq (cause s) : enterRun cause s =
    foldFin 32 rejoinRun (wdgEnable (setState .run cause { s with mon := { s.mon with testLatch := false } })) := rfl

theorem enterRun_cause (cause s) : (enterRun cause s).sys.cause = cause := by
  have rejoin (n s) : (rejoinRun n s).sys.cause = s.sys.cause := by
    unfold rejoinRun
    split <;> simp [toDetect_cause]
  have kept := foldFin_keeps (fun s : State => s.sys.cause) _ rejoin
  rw [enterRun_eq]
  refine (kept _).trans ?_
  simp [setState_sys]

/-- A tap suspended by the module state enters DETECT with RUN, where its firmware runs (R132, R134). -/
theorem enterRun_state {s : State} (hp : s.powered = true) (cause) (n : Fin 32) : (enterRun cause s).taps[n].state =
    if s.taps[n].state = .suspended ∧ s.taps[n].cause = 10 ∧ fwUp s n = true then .detect else s.taps[n].state := by
  rw [enterRun_eq]
  generalize hs₂ : wdgEnable _ = s₂
  have h₂ : s₂.taps = s.taps ∧ s₂.sys.cores = s.sys.cores ∧ s₂.sys.st = .run := by simp [← hs₂, setState_sys]
  obtain ⟨htaps, hcores, hst⟩ := h₂
  obtain ⟨u, htap, hctx, hfold⟩ := foldFin_at (fun i (s : State) => s.taps[i]) (fun s => (s.sys.cores, s.sys.st))
    (f := rejoinRun)
    (fun i m s h => by unfold rejoinRun; split; exacts [toDetect_but _ _ _ _ h, rfl])
    (fun i s => by unfold rejoinRun; split <;> simp [toDetect_cores]) n s₂
  obtain ⟨hc, hs⟩ := Prod.mk.inj hctx
  have up : fwUp u n = fwUp s n := by
    have hu : u.powered = true := by simp [State.powered, hs, hst]
    simp only [fwUp, hu, hp, hc, hcores]
  have tap : u.taps[n] = s.taps[n] := by rw [htap, htaps]
  rw [hfold, rejoinRun, up, tap]
  split
  · exact (toDetect_shows ..).1
  · rw [tap]

/-! ### The obligation -/

theorem stopStake_settings (n s) (m : Fin 32) :
    (stopStake n s).taps[m].desc = s.taps[m].desc ∧ (stopStake n s).taps[m].cfg = s.taps[m].cfg := by
  rw [stopStake_taps]
  split_ifs with h
  · rw [h]; exact ⟨rfl, rfl⟩
  all_goals exact ⟨rfl, rfl⟩

theorem suspend_settings (n cause s) (m : Fin 32) :
    (suspend n cause s).taps[m].desc = s.taps[m].desc ∧ (suspend n cause s).taps[m].cfg = s.taps[m].cfg := by
  rw [suspend_taps, State.modTap_taps]
  split
  · next h => rw [h]; exact stopStake_settings n s n
  · exact stopStake_settings n s m

theorem leaveRunTap_settings (n s) (m : Fin 32) :
    (leaveRunTap n s).taps[m].desc = s.taps[m].desc ∧ (leaveRunTap n s).taps[m].cfg = s.taps[m].cfg := by
  have acted (f : Tap → Tap) (hf : ∀ t, (f t).desc = t.desc ∧ (f t).cfg = t.cfg) (u : State) :
      (u.modTap n f).taps[m].desc = u.taps[m].desc ∧ (u.modTap n f).taps[m].cfg = u.taps[m].cfg := by
    rw [State.modTap_taps]
    split
    · next h => subst h; exact hf _
    · exact ⟨rfl, rfl⟩
  have gone := acted (fun t => { t with acted := 1 }) (fun _ => ⟨rfl, rfl⟩) (suspend n 10 s)
  rw [(suspend_settings n 10 s m).1, (suspend_settings n 10 s m).2] at gone
  unfold leaveRunTap
  extract_lets t go
  split
  case h_9 => split; exacts [gone, ⟨rfl, rfl⟩]
  case h_10 => split; exacts [acted _ (by exact fun _ => ⟨rfl, rfl⟩) s, ⟨rfl, rfl⟩]
  case h_11 => exact ⟨rfl, rfl⟩
  all_goals exact gone

theorem leaveRun_settings (s) (m : Fin 32) :
    (leaveRun s).taps[m].desc = s.taps[m].desc ∧ (leaveRun s).taps[m].cfg = s.taps[m].cfg := by
  unfold leaveRun
  split
  · exact ⟨foldl_keeps (fun u : State => u.taps[m].desc) _ (fun u i => (leaveRunTap_settings i u m).1) _ _,
      foldl_keeps (fun u : State => u.taps[m].cfg) _ (fun u i => (leaveRunTap_settings i u m).2) _ _⟩
  · exact ⟨rfl, rfl⟩

/-! ### The obligation -/

@[simp] theorem deliver_now (via code res s) : deliver via (.now code res s) = answer via code res s := rfl

/-- An accepted command whose rule answers at once. -/
theorem hostCommand_answers {op via args s run code res u} (ha : Accepts op via args s)
    (hr : run args s = .now code res u) : hostCommand op run via args s = .next (answer via code res u) := by
  rw [hostCommand_of_accepts ha run, hr, deliver_now]

theorem answer_taps (via code res s) : (answer via code res s).taps = s.taps := by simp
theorem answer_ports (via code res s) : (answer via code res s).ports = s.ports := by simp

/-- Settles O1, from what each entry to a state does. -/
theorem stateCommandsMoveTheModule : Obligations.StateCommandsMoveTheModule := by
  unfold Obligations.StateCommandsMoveTheModule
  refine ⟨fun via args s => ⟨fun ha => ?_, fun ha => ?_, fun ha => ?_, fun ha hes hlf => ?_, fun ha hlf => ?_⟩,
    fun s hrun hramp hes hsh => ?_⟩
  · refine ⟨_, hostCommand_answers ha (run := runRun) rfl, by simp, ?_, answerOf_answer .., ?_, by simp, by simp, ?_⟩
    · simp [enterRun_cause]
    · have wdg : (answer via 0 [] (enterRun 1 s)).wdg = (wdgEnable s).wdg := by simp [enterRun_wdg]
      rw [wdg, wdgEnable_enabled]
    · rw [answer_taps]
      exact enterRun_state ha.1 1
  · refine ⟨_, hostCommand_answers ha (run := runStandby) rfl, by simp, ?_, answerOf_answer .., ?_⟩
    · rw [answer_taps]
      exact bypStandIns_taps s
    · simp only [answer_keeps]
      rfl
  · obtain ⟨hcause, hpour, htie, hports, htaps⟩ := enterSafe_stops 1 s
    have hst := enterSafe_st 1 s
    have hctrs : (enterSafe 1 s).ctrs = s.ctrs := by simp
    refine ⟨_, hostCommand_answers ha (run := runSafe) rfl, ?_⟩
    generalize enterSafe 1 s = u at *
    refine ⟨by simp [hst], by simp [hcause], answerOf_answer .., by simp [hpour],
      by simp [htie], by simp [hctrs], ?_, ?_⟩
    · rw [answer_ports]
      exact hports
    · rw [answer_taps]
      exact htaps
  · have hsh : s.sys.shFault = false := by simp_all [latchedFault]
    have run : runLeaveSafe args s = done (vselOccasion false (enterStandby 1 s)) := by simp [runLeaveSafe, hes, hlf]
    obtain ⟨hst, hcause, -, htaps, hports⟩ := enterStandby_calm hes hsh 1
    refine ⟨_, hostCommand_answers ha run, by simp [hst], by simp [hcause], answerOf_answer .., by simp [htaps], fun x => ?_⟩
    have ports : (vselOccasion false (enterStandby 1 s)).ports = (portsToIdle s).ports := by simp [hports]
    rw [answer_ports, ports, portsToIdle, State.mapPorts_ports]
    split <;> rfl
  · exact hostCommand_answers ha (run := runLeaveSafe) (by rw [runLeaveSafe, if_pos (by simpa using hlf)])
  · let u := (leaveRun s).mapTaps fun _ t => { t with stake := t.stake.halt }
    have hu : u.sys.estop = false ∧ u.sys.shFault = false := by simp [u, hes, hsh]
    obtain ⟨hst, hcause, hramped, htaps, -⟩ := enterStandby_calm hu.1 hu.2 1
    refine ⟨enterStandby 1 u, by simp [exec, execStandbyRampEnd, hrun, hramp, u], hst, hcause, hramped, fun n => ?_⟩
    obtain ⟨hdesc, hcfg⟩ := leaveRun_settings s n
    have tap : u.taps[n] = { (leaveRun s).taps[n] with stake := (leaveRun s).taps[n].stake.halt } := State.mapTaps_taps ..
    rw [htaps, tap]
    exact ⟨rfl, rfl, hdesc, hcfg⟩

end Sys2Proof.Machine
end

/-! ## Changes of the module state that wait for their moment -/

section
open Sys2Proof.Claims

namespace Sys2Proof.Machine

/-! ### The black box takes its records -/

/-- What storing records changes. -/
def Stores (s t : State) : Prop :=
  t = { s with bbx := t.bbx, mtr := t.mtr, mon := t.mon, shown := { s.shown with aon := t.shown.aon } } ∧
    t.bbx.queue = s.bbx.queue

theorem Stores.refl (s) : Stores s s := ⟨rfl, rfl⟩
theorem Stores.trans {s t u} (h : Stores s t) (k : Stores t u) : Stores s u :=
  ⟨by rw [k.1, h.1], k.2.trans h.2⟩

theorem store_stores (i s) : Stores s (store i s) := by
  unfold store
  cases i <;> dsimp only <;> split <;> exact ⟨rfl, rfl⟩

theorem storeAll_stores (i s) : Stores s (storeAll i s) := by
  unfold storeAll
  split
  · exact store_stores ..
  · exact .refl s

theorem storeCarried_stores (h) : ∀ k s, Stores s (storeCarried h k s)
  | 0, s => .refl s
  | k + 1, s => by
    unfold storeCarried
    split
    · exact .refl s
    · exact .trans (.trans (t := s.modBbx fun b => { b with nextSeq := b.nextSeq + 1 }) ⟨rfl, rfl⟩ (storeAll_stores ..))
        (storeCarried_stores h k _)

/-- What a flush of the write queue changes. -/
theorem drain_stores (s) : Stores (s.modBbx fun b => { b with queue := [] }) (drain s) := by
  have fold : ∀ (l : List BbxItem) (s : State), Stores s (l.foldl (fun s i =>
      storeAll i (match i with
        | .hist h => if s.bbx.okA || s.bbx.okB then storeCarried h 64 s else s
        | _ => s)) s) := by
    intro l
    induction l with
    | nil => exact .refl
    | cons i l ih =>
      refine fun s => .trans (.trans ?_ (storeAll_stores ..)) (ih _)
      cases i with
      | hist h =>
        dsimp only
        split
        · exact storeCarried_stores ..
        · exact .refl s
      | _ => exact .refl s
  exact fold _ _

theorem drain_queue (s) : (drain s).bbx.queue = [] := (drain_stores s).2

/-- What a flush changes. -/
def Flushes (s t : State) : Prop :=
  t = { s with bbx := t.bbx, mtr := t.mtr, mon := t.mon, shown := { s.shown with aon := t.shown.aon } }

theorem Flushes.trans {s t u} (h : Flushes s t) (k : Flushes t u) : Flushes s u := by
  unfold Flushes at *
  rw [k, h]

theorem drain_flushes (s) : Flushes s (drain s) :=
  .trans (t := s.modBbx fun b => { b with queue := [] }) rfl (drain_stores s).1

theorem writePending_flushes (s) : Flushes s (writePending s) := by
  have fold : ∀ (l : List SnapRec) (s : State), Flushes s (l.foldl (fun s r => queueSnap r s) s) := by
    intro l
    induction l with
    | nil => exact fun s => rfl
    | cons r l ih => exact fun s => .trans (t := queueSnap r s) rfl (ih _)
  exact .trans (t := { s with mtr := { s.mtr with pending := [] } }) rfl (fold _ _)

theorem queueFlush_flushes (s) : Flushes s (queueFlush s) :=
  (writePending_flushes s).trans (by unfold queueFlush; rfl)
theorem flushThree_flushes (s) : Flushes s (flushThree s) := (queueFlush_flushes s).trans (drain_flushes _)
theorem queueLoss_flushes (s) : Flushes s (queueLoss s) :=
  .trans (t := s.modBbx fun b => { b with lossDone := false }) rfl
    ((queueFlush_flushes _).trans (by unfold queueLoss; rfl))
theorem flushAll_flushes (s) : Flushes s (flushAll s) := (queueLoss_flushes s).trans (drain_flushes _)

/-! ### The challenge -/

theorem lfsrStep_ne_zero {x : Word} (h : x ≠ 0) : lfsrStep x ≠ 0 := by
  unfold lfsrStep
  split
  · intro hz
    simpa using congrArg (BitVec.getLsbD · 15) hz
  · next hodd =>
    intro hz
    have half : x.toNat / 2 = 0 := by simpa [BitVec.toNat_ushiftRight, Nat.shiftRight_eq_div_pow] using congrArg BitVec.toNat hz
    have even : x.toNat % 2 = 0 := by simpa [BitVec.getLsbD, Nat.testBit_zero] using hodd
    exact h (BitVec.eq_of_toNat_eq (by simp; omega))

theorem lfsrRun_ne_zero : ∀ k {x : Word}, x ≠ 0 → lfsrRun k x ≠ 0
  | 0, _, h => h
  | k + 1, _, h => lfsrRun_ne_zero k (lfsrStep_ne_zero h)

theorem newChallenge_ne_zero (s) : (newChallenge s).wdg.challenge ≠ 0 := by
  refine lfsrRun_ne_zero _ ?_
  split
  · decide
  · assumption

/-! ### A module reset -/

theorem dropTie_taps (s) : (dropTie s).taps = s.taps ∨ (dropTie s).taps = (bypStandIns s).taps := by
  unfold dropTie
  extract_lets tie s₁
  split
  · obtain ⟨htaps, -, -⟩ := voidLink_outside 3 10 true s₁
    exact htaps
  · exact .inl rfl

theorem dropTie_desc (s) (n : Fin 32) : (dropTie s).taps[n].desc = s.taps[n].desc := by
  obtain h | h := dropTie_taps s
  · rw [h]
  · rw [h, bypStandIns_taps]
    split <;> rfl

/-- What a module reset starts from: the state recorded, the tie open, the flush run (R357). -/
def resetFrom (cause : Nat) (s : State) : State := flushThree (setState .boot cause (dropTie (pourAbort s)))

theorem moduleReset_eq (last cause s) : moduleReset last cause s =
    { enterBoot false last cause (resetFrom cause s).pour.tickOther (resetFrom cause s) with
      links := (moduleReset last cause s).links } := by
  unfold moduleReset
  dsimp only
  split <;> rfl

theorem resetFrom_outside (cause s) : (resetFrom cause s).sys =
      { s.sys with st := .boot, cause := cause, rampStandby := false, rampHold := false } ∧
    (resetFrom cause s).stored = s.stored ∧ (resetFrom cause s).wdg = s.wdg ∧
    (resetFrom cause s).taps = (dropTie (pourAbort s)).taps := by
  unfold resetFrom
  rw [flushThree_flushes]
  refine ⟨?_, ?_, ?_, ?_⟩ <;> simp [setState_sys]

/-- What a module reset leaves, and what it takes from the state it ends (R357, R358). -/
theorem moduleReset_shows (last cause s) :
    (moduleReset last cause s).sys = { resetSys false (resetFrom cause s).sys with
      st := .boot, cause := cause, last := last, addr := s.sys.strap, cores := 1 } ∧
    (moduleReset last cause s).stored = s.stored ∧ (moduleReset last cause s).tie.en = false ∧
    (moduleReset last cause s).wdg.locked = s.wdg.locked ∧ (moduleReset last cause s).wdg.challenge ≠ 0 ∧
    (∀ k : Fin 4, (moduleReset last cause s).mbx[k].state = .empty) ∧
    ∀ n : Fin 32, (moduleReset last cause s).taps[n] = resetTap false (dropTie (pourAbort s)).taps[n] := by
  obtain ⟨hsys, hstored, hwdg, htaps⟩ := resetFrom_outside cause s
  rw [moduleReset_eq]
  generalize resetFrom cause s = u at *
  refine ⟨?_, hstored, rfl, ?_, newChallenge_ne_zero _, fun k => ?_, fun n => ?_⟩
  · simp [enterBoot, bootRecord, newChallenge, State.draw, resetState, hsys, resetSys]
  · simp [enterBoot, bootRecord, newChallenge, State.draw, resetState, resetWdg, hwdg]
  · simp [enterBoot, bootRecord, newChallenge, State.draw, resetState, Mailbox.reset]
  · have taps : (enterBoot false last cause u.pour.tickOther u).taps = u.taps.map (resetTap false) := by
      simp [enterBoot, bootRecord, newChallenge, State.draw, resetState]
    rw [← htaps]
    exact (congrArg (·[n]) taps).trans (Vector.getElem_map ..)

/-! ### The obligation -/

/-- What the answers to commands that are lost change. -/
def Posts (s t : State) : Prop := t = { s with mbx := t.mbx, taken := t.taken }

theorem Posts.trans {s t u} (h : Posts s t) (k : Posts t u) : Posts s u := by
  unfold Posts at *
  rw [k, h]

theorem promote_posts (c s) : Posts s (promote c s) := by
  unfold promote
  split
  · rfl
  · split <;> rfl

theorem postLost_posts (n s) : Posts s (postLost n s) := by
  unfold postLost post
  split
  · exact .trans (by exact rfl) (promote_posts _ _)
  · rfl

theorem postLosts_posts (s) : Posts s (foldFin 4 (fun n s => postLost n s) s) := by
  have fold : ∀ (l : List (Fin 4)) (s : State), Posts s (l.foldl (fun s n => postLost n s) s) := by
    intro l
    induction l with
    | nil => exact fun s => rfl
    | cons n l ih => exact fun s => (postLost_posts n s).trans (ih _)
  exact fold _ s

theorem rcpHalt_running (s) : (rcpHalt s).rcp.running = none := by
  have released (n s) : (rcpRelease n s).rcp.running = s.rcp.running := by
    unfold rcpRelease
    dsimp only
    split <;> simp
  have fold := foldFin_keeps (fun s : State => s.rcp.running) rcpRelease released
  unfold rcpHalt rcpWithdraw
  rw [fold]

theorem monLost_eq (s) : monLost s = { s with mon := (monLost s).mon } := by
  unfold monLost
  split <;> rfl

/-- Entry to RECOVERY by command (R26, R257, R382, R450). -/
theorem enterRecovery_shows (s) : (enterRecovery s).sys.st = .recovery ∧ (enterRecovery s).sys.cause = 1 ∧
    (enterRecovery s).sys.cores = 1 ∧ (enterRecovery s).sys.chg = s.sys.chg ∧ (enterRecovery s).pour.state = .idle ∧
    AllStopped (enterRecovery s) ∧ (enterRecovery s).rcp.running = none := by
  unfold enterRecovery
  extract_lets s₁ s₂ s₃ s₄ s₅
  have posts := postLosts_posts (monLost s₅)
  rw [posts, monLost_eq]
  refine ⟨?_, ?_, ?_, ?_, ?_, ⟨fun n => ?_, fun x => ?_⟩, ?_⟩
  · simp [s₅, s₄, s₃, forgetVias, loseCores, setState_sys]
  · simp [s₅, s₄, s₃, forgetVias, loseCores, setState_sys]
  · simp [s₅, s₄, s₃, forgetVias]
  · simp [s₅, s₄, s₃, s₂, s₁, forgetVias, loseCores, setState_sys]
  · simp [s₅, s₄, s₃, s₂, s₁, forgetVias, pourAbort, pourEnd_idle, Pour.settle]
  · simp [s₅, s₄, s₃, s₂, forgetVias]
  · simp [s₅, s₄, s₃, s₂, s₁, forgetVias, disablePorts, Port.disable_state]
  · simp [s₅, s₄, s₃, s₂, s₁, forgetVias, loseCores, rcpHalt_running]

theorem presence_bits : ∀ a b c d e : Bool,
    let w := word (bit a 0 + bit b 1 + bit c 2 + bit d 3 + bit e 4)
    w.getLsbD 0 = a ∧ w.getLsbD 1 = b ∧ w.getLsbD 2 = c ∧ w.getLsbD 3 = d ∧ w.getLsbD 4 = e := by decide

/-- The detail of a refused `SYS_ENTER_SHIP`: AUX bit 0 and ports A to D bits 1 to 4 (R40, R259). -/
theorem present_bits (s) : (word (present s)).getLsbD 0 = decide (16000 ≤ s.sys.auxV) ∧
    ∀ x : Fin 4, (word (present s)).getLsbD (x.val + 1) = decide (60000 ≤ s.ports[x].vin) := by
  obtain ⟨b0, b1, b2, b3, b4⟩ := presence_bits (decide (16000 ≤ s.sys.auxV)) (decide (60000 ≤ s.ports[0].vin))
    (decide (60000 ≤ s.ports[1].vin)) (decide (60000 ≤ s.ports[2].vin)) (decide (60000 ≤ s.ports[3].vin))
  refine ⟨b0, fun x => ?_⟩
  match x with
  | 0 => exact b1
  | 1 => exact b2
  | 2 => exact b3
  | 3 => exact b4

theorem defer_answers {op via args s run d} (ha : Accepts op via args s) (hr : run args s = accepted (defer d s)) :
    hostCommand op run via args s = .next (answer via 1 [] { s with sys := { s.sys with chg := s.sys.chg ++ [d] } }) :=
  hostCommand_answers ha hr

/-- Settles O2, from what the deferred changes do. -/
theorem changesWaitAndComeAtTheirMoment : Obligations.ChangesWaitAndComeAtTheirMoment := by
  unfold Obligations.ChangesWaitAndComeAtTheirMoment
  refine ⟨fun via args s => ⟨fun ha => defer_answers ha (run := runEnterRecovery) rfl,
      fun ha => defer_answers ha (run := runReset) rfl, fun ha => defer_answers ha (run := runRestartControl) rfl,
      fun ha haux hports => ?_, fun ha hpres => ?_⟩,
    fun s hp => ⟨fun hc ha hst => ?_, fun hc ha hst => ?_, fun d hd hc hlate => ?_, fun hc hst => ?_, fun hc hst => ?_⟩⟩
  · have none : present s = 0 := by
      have h0 : s.ports[0].vin < 60000 := hports 0
      have h1 : s.ports[1].vin < 60000 := hports 1
      have h2 : s.ports[2].vin < 60000 := hports 2
      have h3 : s.ports[3].vin < 60000 := hports 3
      simp only [present, bit, decide_eq_true_eq]
      rw [if_neg (by omega), if_neg (by omega), if_neg (by omega), if_neg (by omega), if_neg (by omega)]
    refine ⟨_, hostCommand_answers ha (run := runEnterShip) (by rw [runEnterShip, if_neg (not_not.mpr none)]; rfl), ?_⟩
    refine ⟨by simp [defer], answerOf_answer .., by simp [record, defer], ?_⟩
    simp only [answer_keeps]
    rfl
  · obtain ⟨b0, bx⟩ := present_bits s
    have some : present s ≠ 0 := by
      intro hz
      rw [hz, show word 0 = 0 from rfl] at b0 bx
      obtain h | ⟨x, h⟩ := hpres
      · simp [h] at b0
      · have := bx x
        rw [decide_eq_true h] at this
        simp at this
    refine ⟨word (present s), hostCommand_answers ha (run := runEnterShip) (by rw [runEnterShip, if_pos some]), ?_,
      fun x => ?_⟩
    · rw [b0]; exact decide_eq_true_iff
    · rw [bx x]; exact decide_eq_true_iff
  · obtain ⟨hst', hcause, hcores, hchg, hpour, hstop, hrcp⟩ := enterRecovery_shows (dropOf .recovery s)
    refine ⟨enterRecovery (dropOf .recovery s), ?_, hst', hcause, hcores, ?_, hpour, hstop, hrcp⟩
    · obtain h | h := hst <;> simp [exec, execDeferredStateChange, State.powered, hc, ha, h]
    · rw [hchg]; simp [dropOf, hc]
  · obtain ⟨hsys, hstored, htie, hlock, hchal, hmbx, htaps⟩ := moduleReset_shows 2 1 (dropOf .reset s)
    refine ⟨moduleReset 2 1 (dropOf .reset s), deferredReset_eq (by tauto) hc ha, ?_⟩
    obtain ⟨hfrom, -⟩ := resetFrom_outside 1 (dropOf .reset s)
    have desc (n : Fin 32) : (dropTie (pourAbort (dropOf .reset s))).taps[n].desc = s.taps[n].desc := by
      rw [dropTie_desc]
      simp [dropOf]
    generalize moduleReset 2 1 (dropOf .reset s) = u at *
    refine ⟨by rw [hsys], by rw [hsys], by rw [hsys], by rw [hsys]; rfl, hmbx, by rw [hsys, hfrom]; rfl, htie,
      hlock, hstored, hchal, fun n => ?_⟩
    rw [htaps n]
    exact ⟨desc n, rfl⟩
  · have kept : execDeferredStateChange s = .next (event .dropped [modCode s.sys.st] (dropOf d s)) := by
      obtain rfl | rfl | rfl := hd
      all_goals
        unfold execDeferredStateChange
        rw [hp, hc]
        exact congrArg Host.Outcome.next (if_neg fun h => by simp at h; simp_all)
    refine ⟨_, kept, by simp [dropOf, hc], ?_⟩
    apply State.ext_parts <;> simp [dropOf]
  · have ran : execShipEntry s = .next (unpower .ship (flushAll (pourAbort s))) := by
      simp [execShipEntry, hp, hc, hst]
    refine ⟨_, ran, rfl, ?_, rfl, ?_, ?_, rfl⟩
    · have sys : (flushAll (pourAbort s)).sys = s.sys := by rw [flushAll_flushes]; simp
      exact show (flushAll (pourAbort s)).sys.shipLatch = s.sys.shipLatch by rw [sys]
    · exact drain_queue _
    · have stored : (flushAll (pourAbort s)).stored = s.stored := by rw [flushAll_flushes]; simp
      exact stored
  · have ran : execShipEntry s = .next (event .dropped [modCode s.sys.st]
        ((dropOf .ship s).modSys fun y => { y with shipLatch := false })) := by
      simp [execShipEntry, hp, hc, hst]
    refine ⟨_, ran, by simp [dropOf, hst], fun d => by simp [dropOf], by simp [dropOf], by simp [dropOf]⟩

end Sys2Proof.Machine
end

/-! ## The checks and the answers of the commands -/

section
open Sys2Proof.Claims

namespace Sys2Proof.Machine

@[simp] theorem first_nil : first [] = none := rfl
@[simp] theorem first_none (cs) : first (none :: cs) = first cs := rfl
@[simp] theorem first_some (c cs) : first (some c :: cs) = some c := rfl

theorem rng_ok {lo hi v : Nat} (h : lo ≤ v) (h' : v ≤ hi) : rng lo hi v = none := if_pos ⟨h, h'⟩
@[simp] theorem need_true : need true = none := rfl
@[simp] theorem allow_true : allow true = none := rfl
@[simp] theorem need_false : need false = some 0x21 := rfl
@[simp] theorem allow_false : allow false = some 0x30 := rfl

theorem checked_pass {cs s k} (h : first cs = none) : checked cs s k = k := by
  unfold checked
  rw [h]

theorem checked_fail {cs s k c} (h : first cs = some c) : checked cs s k = .now c [] s := by
  unfold checked
  rw [h]
  rfl

theorem toFlash_done {r : State → Reply} {s res u} (h : r s = .now 0 res u) : toFlash r s =
    if Config.flashFails s.free then .now 0x60 [] { s with free := s.free + 1 } else .now 0 res { u with free := u.free + 1 } := by
  unfold toFlash
  rw [h]
  rfl

/-- An accepted command that stores to flash (R254 step 5). -/
theorem hostCommand_stored {op via args s run r res u} (ha : Accepts op via args s) (hrun : run args s = toFlash r s)
    (hr : r s = .now 0 res u) : hostCommand op run via args s = .next (stored via res s u) := by
  rw [hostCommand_of_accepts ha run, hrun, toFlash_done hr, stored]
  split <;> rfl

/-! ### Numbers as words -/

theorem wordsOf_length : ∀ k n, (wordsOf k n).length = k
  | 0, _ => rfl
  | k + 1, n => by rw [wordsOf, List.length_cons, wordsOf_length]

theorem natOf_wordsOf : ∀ k n, natOf (wordsOf k n) = n % 65536 ^ k
  | 0, n => by simp [wordsOf, natOf, Nat.mod_one]
  | k + 1, n => by
    rw [wordsOf, natOf, natOf_wordsOf k, pow_succ', Nat.mod_mul]
    rfl

theorem natOf_wordsOf_toNat {k w} (v : BitVec w) (h : w ≤ 16 * k) : natOf (wordsOf k v.toNat) = v.toNat := by
  rw [natOf_wordsOf, show 65536 = 2 ^ 16 from rfl, ← Nat.pow_mul]
  exact Nat.mod_eq_of_lt (Nat.lt_of_lt_of_le v.isLt (Nat.pow_le_pow_right (by decide) h))

/-! ### The module's own settings -/

/-- Settles O3, command by command. -/
theorem moduleSettingsTakeTheirWords : Obligations.ModuleSettingsTakeTheirWords := by
  unfold Obligations.ModuleSettingsTakeTheirWords
  refine fun via args s => ⟨fun ha => ?_, fun ha h0 hlong => ?_, fun ha hlo hhi hdis => ?_, fun ha => ?_, fun ha h0 => ?_,
    fun ha => ?_⟩
  · refine ⟨_, hostCommand_answers ha (run := runGetInfo) rfl, ?_, ?_, ?_, ?_⟩
    · simp only [List.append_assoc]
      rw [List.take_left' (wordsOf_length ..)]
      exact natOf_wordsOf_toNat _ (by decide)
    · simp [wordsOf_length]
    · rfl
    · rfl
  · have pass : first [rng 0 1 (arg args 0)] = none := by rw [rng_ok (by omega) h0]; rfl
    refine ⟨_, decide (Config.freeValue s.free % 2 = 1), hostCommand_answers ha (run := runSetStr) (checked_pass pass), ?_⟩
    refine ⟨by simp [hlong], answerOf_answer .., ?_, ?_, ?_⟩
    · generalize decide (Config.freeValue s.free % 2 = 1) = ok
      cases ok <;> simp [fbMismatch, hlong]
    · generalize decide (Config.freeValue s.free % 2 = 1) = ok
      cases ok <;> simp [hlong]
    · simp only [answer_keeps]
      rfl
  · have pass : first [wordsSync args] = none := by
      rw [wordsSync, rng_ok hlo hhi, decide_eq_true hdis]
      rfl
    have shape (y : Sys) : resync y = { y with syncSrc := (resync y).syncSrc } := by
      unfold resync
      split_ifs <;> rfl
    have src (y : Sys) (h : y.syncDis = true) : (resync y).syncSrc = if y.fsw = y.ownFsw then 0 else 3 := by
      unfold resync
      rw [h]
      split_ifs <;> simp_all
    refine ⟨_, hostCommand_answers ha (run := runSetSync) (checked_pass pass), ?_, ?_, ?_, fun h1 => ?_, ?_⟩
    · simp only [answer_keeps, State.modSys_sys]
      rw [shape]
    · simp only [answer_keeps, State.modSys_sys]
      rw [shape]
    · simp only [answer_keeps, State.modSys_sys]
      rw [shape]
    · simp only [answer_keeps, State.modSys_sys]
      exact src _ (decide_eq_true h1)
    · simp only [answer_keeps]
      have sys (y : Sys) : resync { y with ownFsw := arg args 0 * 100, syncDis := decide (arg args 1 = 1) } = { y with
          ownFsw := arg args 0 * 100, syncDis := decide (arg args 1 = 1)
          syncSrc := (resync { y with ownFsw := arg args 0 * 100, syncDis := decide (arg args 1 = 1) }).syncSrc } :=
        shape _
      apply congrArg (answer via 0 [])
      apply State.ext_parts <;> simp
      rw [sys]
  · have clock : nextSnap 0 (arg4 args 0) = 900000 * (arg4 args 0 / 900000 + 1) := by simp [nextSnap]
    refine ⟨_, hostCommand_answers ha (run := runSetTime) rfl, by simp, fun k hk => ?_, by simp, ?_⟩
    · obtain rfl : nextSnap 0 (arg4 args 0) = k := by simpa using hk
      omega
    · simp only [answer_keeps]
      rfl
  · have pass : first [rng 0 1 (arg args 0)] = none := by rw [rng_ok (by omega) h0]; rfl
    exact hostCommand_stored ha (run := runSetVsel) (checked_pass pass) rfl
  · exact ⟨settingsOf s, hostCommand_stored ha (run := runSaveConfig) rfl rfl, rfl, rfl, rfl, rfl, rfl, rfl,
      fun n => by simp [settingsOf], fun x => by simp [settingsOf]⟩

end Sys2Proof.Machine
end

/-! ## Commands to the source ports -/

section
open Sys2Proof.Claims

namespace Sys2Proof.Claims
open Sys2Proof.Machine

theorem PortsBut.modPort (x f) (s : State) : PortsBut x s (s.modPort x f) :=
  fun y hy => by rw [State.modPort_ports, if_neg hy]
theorem PortsBut.of_ports {x} {s t u : State} (h : PortsBut x s t) (hp : u.ports = t.ports) : PortsBut x s u :=
  fun y hy => by rw [hp]; exact h y hy

end Sys2Proof.Claims

namespace Sys2Proof.Machine

theorem modPort_same (x f) (s : State) : (s.modPort x f).ports[x] = f s.ports[x] := by
  rw [State.modPort_ports, if_pos rfl]

theorem portOf_of_arg {v : Nat} {x : Fin 4} (h : v = x.val) : portOf v = x := by
  apply Fin.ext
  simp only [portOf, h]
  omega

theorem portArg_ok {a : List Word} {x : Fin 4} (h : arg a 0 = x.val) : portArg a = none := rng_ok (by omega) (by omega)

/-- A command that changes one port alone. -/
theorem hostCommand_modPort {op via args s run x f} (ha : Accepts op via args s)
    (hr : run args s = done (s.modPort x f)) : ∃ t, hostCommand op run via args s = .next t ∧ PortsBut x s t ∧
      t.ports[x] = f s.ports[x] ∧ t = answer via 0 [] { s with ports := t.ports } := by
  refine ⟨_, hostCommand_answers ha hr, ?_⟩
  have ports := answer_ports via 0 [] (s.modPort x f)
  refine ⟨PortsBut.of_ports (.modPort _ _ _) ports, ?_, ?_⟩
  · rw [ports, modPort_same]
  · rw [ports]
    rfl

theorem Port.drain_keeps (p : Port) : p.drain.state = .disabled ∧ p.drain.vMin = p.vMin ∧ p.drain.vMax = p.vMax ∧
    p.drain.lastTrip = p.disable.lastTrip := by
  unfold Port.drain
  split_ifs <;> exact ⟨rfl, rfl, rfl, rfl⟩

theorem handOver_outside (was s) : handOver was s = { s with hub := (handOver was s).hub, taps := (handOver was s).taps } := by
  unfold handOver
  dsimp only
  split_ifs <;> rfl

theorem changePort_outside (x f s) : changePort x f s =
    { s with ports := (changePort x f s).ports, hub := (changePort x f s).hub, taps := (changePort x f s).taps } := by
  unfold changePort
  rw [handOver_outside]
  rfl

theorem changePort_same (x f s) : (changePort x f s).ports[x] = f s.ports[x] := by
  rw [changePort_ports, getElem_set_fin, if_pos rfl]

theorem changePort_but (x f s) : PortsBut x s (changePort x f s) := fun y hy => by
  rw [changePort_ports, getElem_set_fin, if_neg hy]

theorem checkNarrow_port (x s) : ∃ now, PortsBut x s (checkNarrow x s) ∧
    (checkNarrow x s).ports[x] = { s.ports[x] with narrow := now } ∧
    checkNarrow x s = { s with ports := (checkNarrow x s).ports, alr := (checkNarrow x s).alr, bus := (checkNarrow x s).bus } := by
  unfold checkNarrow
  extract_lets w now was u
  refine ⟨now, ?_⟩
  have own : u.ports[x] = { s.ports[x] with narrow := now } := modPort_same ..
  obtain h | h := ite_eq_or_eq ((now && !was) = true) (alert 2 4 8 x.val u.ports[x].iin u) u
  all_goals rw [h]
  · have ports : (alert 2 4 8 x.val u.ports[x].iin u).ports = u.ports := by simp
    refine ⟨PortsBut.of_ports (.modPort _ _ _) ports, by rw [ports]; exact own, ?_⟩
    apply State.ext_parts <;> simp [u]
  · exact ⟨.modPort _ _ _, own, rfl⟩

theorem rng_out {lo hi v : Nat} (h : ¬(lo ≤ v ∧ v ≤ hi)) : rng lo hi v = some 0x22 := if_neg h

theorem first_of_forall : ∀ {cs}, (∀ c ∈ cs, c = none) → first cs = none
  | [], _ => rfl
  | c :: cs, h => by
    rw [h c (List.mem_cons_self ..), first_none]
    exact first_of_forall fun d hd => h d (List.mem_cons_of_mem _ hd)

/-- Settles O4, command by command. -/
theorem portCommandsChangeOnePortOrRefuse : Obligations.PortCommandsChangeOnePortOrRefuse := by
  unfold Obligations.PortCommandsChangeOnePortOrRefuse
  refine ⟨fun via args s x hx => ?_, fun via args s => ⟨fun ha h0 hr => ?_, fun ha h0 hlo hhi hm => ?_,
    fun ha h0 h1 h3 hr => ?_, fun ha h0 => ?_⟩⟩
  · have inRange := portArg_ok hx
    obtain rfl := portOf_of_arg hx
    refine ⟨fun ha => ?_, fun ha => ?_, fun ha hlo hhi hgap h1 h3 hov => ?_, fun ha hlo hhi hm => ?_,
      fun ha hlo hhi hm => ?_, fun ha hl => ?_, fun ha hl => ?_⟩
    · exact hostCommand_modPort ha (run := runSrcEnable) (checked_pass (by rw [inRange]; rfl))
    · have run : runSrcDisable args s =
          done (changePort (portOf (arg args 0)) (fun p => { p.drain with enabled := false }) s) :=
        checked_pass (by rw [inRange]; rfl)
      refine ⟨_, hostCommand_answers ha run, ?_⟩
      generalize portOf (arg args 0) = x
      have ports := answer_ports via 0 [] (changePort x (fun p => { p.drain with enabled := false }) s)
      have own := changePort_same x (fun p => { p.drain with enabled := false }) s
      obtain ⟨hst, hmin, hmax, htrip⟩ := Port.drain_keeps s.ports[x]
      refine ⟨PortsBut.of_ports (changePort_but _ _ _) ports, ?_⟩
      rw [ports, own]
      refine ⟨hst, rfl, fun h => ?_, fun h1 h2 h3 => ?_, hmin, hmax, ?_, ?_⟩
      · rw [Port.drain, if_pos h]
        exact ⟨rfl, rfl, rfl, rfl⟩
      · rw [Port.drain, if_neg (by tauto), h3]
        rfl
      · exact htrip.trans (by unfold Port.disable; cases s.ports[x].state <;> rfl)
      · rw [changePort_outside]
        simp
    · have run : runSrcSetWindow args s = done (checkNarrow (portOf (arg args 0)) (s.modPort (portOf (arg args 0)) fun p =>
          { p with vMin := arg2 args 1, vMax := arg2 args 3 })) := by
        refine checked_pass ?_
        rw [wordsWindow, inRange, rng_ok hlo (by omega), rng_ok (by omega) hhi, volts, volts, decide_eq_true h1,
          decide_eq_true h3, decide_eq_true hov, if_pos hgap]
        rfl
      refine ⟨_, hostCommand_answers ha run, ?_⟩
      generalize portOf (arg args 0) = x
      obtain ⟨now, hbut, hown, hframe⟩ := checkNarrow_port x (s.modPort x fun p => { p with
        vMin := arg2 args 1, vMax := arg2 args 3 })
      generalize checkNarrow x (s.modPort x fun p => { p with vMin := arg2 args 1, vMax := arg2 args 3 }) = u at *
      have ports := answer_ports via 0 [] u
      rw [modPort_same] at hown
      refine ⟨fun y hy => ?_, ?_, ?_⟩
      · rw [ports, hbut y hy, State.modPort_ports, if_neg hy]
      · rw [ports, hown]
      · simp only [answer_keeps]
        exact congrArg (answer via 0 []) hframe
    · have pass : first [wordsLimit args] = none := by
        rw [wordsLimit, inRange, rng_ok hlo hhi, decide_eq_true hm]
        rfl
      obtain ⟨t, ht, hbut, hown, hframe⟩ := hostCommand_modPort ha (run := runSrcSetLimit) (checked_pass pass)
      refine ⟨t, ht, hbut, hown.trans ?_, hframe⟩
      generalize s.ports[portOf (arg args 0)] = p
      have limIn : (if p.state = .online ∧ p.limIn < arg args 1 then p.limIn else arg args 1) =
          if p.state = .online then min p.limIn (arg args 1) else arg args 1 := by grind
      rw [limIn]
    · exact hostCommand_modPort ha (run := runSrcSetOv) (checked_pass (by
        rw [wordsOv, inRange, rng_ok hlo hhi, volts, decide_eq_true hm]
        rfl))
    · exact hostCommand_modPort ha (run := runSrcClearLock) (checked_pass (by
        rw [inRange, decide_eq_true hl]
        rfl))
    · exact hostCommand_answers ha (run := runSrcClearLock) (checked_fail (by
        rw [inRange, decide_eq_false hl]
        rfl))
  · exact hostCommand_answers ha (run := runSrcSetLimit) (checked_fail (by
      rw [wordsLimit, portArg, rng_ok (by omega) h0, rng_out (by omega)]
      rfl))
  · exact hostCommand_answers ha (run := runSrcSetLimit) (checked_fail (by
      rw [wordsLimit, portArg, rng_ok (by omega) h0, rng_ok hlo hhi, decide_eq_false hm]
      rfl))
  · refine hostCommand_answers ha (run := runSrcSetWindow) (checked_fail ?_)
    rw [wordsWindow, portArg, rng_ok (by omega) h0, volts, volts, decide_eq_true h1, decide_eq_true h3]
    by_cases hl : 250000 ≤ arg2 args 1 ∧ arg2 args 1 ≤ 1000000
    · rw [rng_ok hl.1 hl.2]
      by_cases hh : 250000 ≤ arg2 args 3 ∧ arg2 args 3 ≤ 1000000
      · rw [rng_ok hh.1 hh.2, if_neg (by omega)]
        rfl
      · rw [rng_out hh]
        rfl
    · rw [rng_out hl]
      rfl
  · exact hostCommand_answers ha (run := runSrcSetLimit) (checked_fail (by
      rw [wordsLimit, portArg, rng_out (by omega)]
      rfl))

/-! ### The selection mode and the trim -/

theorem swapRank_ports (x r s) (y : Fin 4) : (swapRank x r s).ports[y] =
    if r = 0 then s.ports[y] else if y = x then { s.ports[y] with rank := r }
    else if s.ports[y].rank = r then { s.ports[y] with rank := s.ports[x].rank } else s.ports[y] := by
  unfold swapRank
  split_ifs <;> simp_all

/-- The ranks of the ports differ (R47). -/
def RanksDiffer (s : State) : Prop := ∀ x y : Fin 4, x ≠ y → s.ports[x].rank ≠ s.ports[y].rank

/-- Only the ranks of the ports change. -/
def RanksOnly (s t : State) : Prop :=
  t = { s with ports := t.ports } ∧ ∀ y : Fin 4, t.ports[y] = { s.ports[y] with rank := t.ports[y].rank }

theorem swapRank_rank (x r s) (y : Fin 4) : (swapRank x r s).ports[y].rank =
    if r = 0 then s.ports[y].rank else if y = x then r
    else if s.ports[y].rank = r then s.ports[x].rank else s.ports[y].rank := by
  rw [swapRank_ports]
  split_ifs <;> rfl

theorem swapRank_differ {s} (h : RanksDiffer s) (x r) : RanksDiffer (swapRank x r s) := by
  intro y z hyz
  rw [swapRank_rank, swapRank_rank]
  have hy := h x y
  have hz := h x z
  have hd := h y z hyz
  grind

theorem RanksOnly.trans {s t u} (h : RanksOnly s t) (k : RanksOnly t u) : RanksOnly s u :=
  ⟨by rw [k.1, h.1], fun y => by rw [k.2 y, h.2 y]⟩

theorem swapRank_only (x r s) : RanksOnly s (swapRank x r s) := by
  refine ⟨by unfold swapRank; split_ifs <;> rfl, fun y => ?_⟩
  rw [swapRank_ports]
  split_ifs <;> rfl

theorem swapRank_zero (x s) : swapRank x 0 s = s := if_pos rfl

theorem swapRank_same {x r s} (h : r ≠ 0) : (swapRank x r s).ports[x].rank = r := by
  rw [swapRank_ports, if_neg h, if_pos rfl]

/-- The four rank nibbles take effect in port order (R262). -/
theorem swapRanks_eq (f : Fin 4 → Nat) (s) : foldFin 4 (fun x s => swapRank x (f x) s) s =
    swapRank 3 (f 3) (swapRank 2 (f 2) (swapRank 1 (f 1) (swapRank 0 (f 0) s))) := rfl

theorem swapRanks_one {f : Fin 4 → Nat} {s} {x : Fin 4} (h : ∀ y, y ≠ x → f y = 0) (hx : f x ≠ 0) :
    (foldFin 4 (fun x s => swapRank x (f x) s) s).ports[x].rank = f x := by
  rw [swapRanks_eq]
  match x with
  | 0 => rw [h 1 (by decide), h 2 (by decide), h 3 (by decide)]; simp only [swapRank_zero]; exact swapRank_same hx
  | 1 => rw [h 0 (by decide), h 2 (by decide), h 3 (by decide)]; simp only [swapRank_zero]; exact swapRank_same hx
  | 2 => rw [h 0 (by decide), h 1 (by decide), h 3 (by decide)]; simp only [swapRank_zero]; exact swapRank_same hx
  | 3 => rw [h 0 (by decide), h 1 (by decide), h 2 (by decide)]; simp only [swapRank_zero]; exact swapRank_same hx

theorem selCode_selOf {k : Nat} (h : k ≤ 3) : selCode (selOf k) = k := by
  interval_cases k <;> rfl

/-- What `SRC_SET_MODE` does with words in range (R262). -/
def modeSet (a : List Word) (s : State) : State :=
  let u := (foldFin 4 (fun x s => swapRank x (rankOf a x.val) s) s).mapPorts fun x p =>
    { p with
      weight := if arg a (2 + x.val) = 0 then p.weight else arg a (2 + x.val)
      cap := if arg2 a (6 + 2 * x.val) = 0xFFFFFFFF then p.cap else arg2 a (6 + 2 * x.val) }
  { u with
    hub := { u.hub with
      mode := if arg a 0 = 0xFFFF then u.hub.mode else selOf (arg a 0)
      siteCap := if arg2 a 14 = 0xFFFFFFFF then u.hub.siteCap else arg2 a 14 }
    bp := { u.bp with fallback := u.bp.fallback && decide (arg2 a 14 = 0xFFFFFFFF) } }

theorem rngOr_ok {unch lo hi v : Nat} (h : lo ≤ v ∧ v ≤ hi ∨ v = unch) : rngOr unch lo hi v = none := by
  unfold rngOr
  split
  · rfl
  · exact rng_ok (by omega) (by omega)

theorem runSrcSetMode_eq {a : List Word} (h0 : arg a 0 ≤ 3 ∨ arg a 0 = 0xFFFF)
    (hx : ∀ x : Fin 4, rankOf a x.val ≤ 4 ∧ arg a (2 + x.val) ≤ 255 ∧
      (arg2 a (6 + 2 * x.val) ≤ 41000 ∨ arg2 a (6 + 2 * x.val) = 0xFFFFFFFF))
    (hc : 1000 ≤ arg2 a 14 ∧ arg2 a 14 ≤ 123000 ∨ arg2 a 14 = 0xFFFFFFFF) (s) :
    runSrcSetMode a s = done (modeSet a s) := by
  refine checked_pass (cs := [wordsMode a]) ?_
  have pass : wordsMode a = none := by
    refine first_of_forall fun c hc' => ?_
    simp only [tabulate_eq_map, List.mem_append, List.mem_map, List.mem_singleton] at hc'
    obtain (((rfl | ⟨x, -, rfl⟩) | ⟨x, -, rfl⟩) | ⟨x, -, rfl⟩) | rfl := hc'
    · exact rngOr_ok (by omega)
    · exact rng_ok (Nat.zero_le _) (hx x).1
    · exact rng_ok (Nat.zero_le _) (hx x).2.1
    · exact rngOr_ok (by have := (hx x).2.2; omega)
    · exact rngOr_ok hc
  rw [pass]
  rfl

theorem ranks_only (f : Fin 4 → Nat) (s) : RanksOnly s (foldFin 4 (fun x s => swapRank x (f x) s) s) := by
  rw [swapRanks_eq]
  exact (((swapRank_only ..).trans (swapRank_only ..)).trans (swapRank_only ..)).trans (swapRank_only ..)

theorem ranks_differ {s} (h : RanksDiffer s) (f : Fin 4 → Nat) :
    RanksDiffer (foldFin 4 (fun x s => swapRank x (f x) s) s) := by
  rw [swapRanks_eq]
  exact swapRank_differ (swapRank_differ (swapRank_differ (swapRank_differ h _ _) _ _) _ _) _ _

/-- What `SRC_SET_MODE` makes of each port and of the hub. -/
theorem modeSet_shows (a s) :
    (∀ x : Fin 4, (modeSet a s).ports[x] = { (foldFin 4 (fun x s => swapRank x (rankOf a x.val) s) s).ports[x] with
      weight := if arg a (2 + x.val) = 0 then s.ports[x].weight else arg a (2 + x.val)
      cap := if arg2 a (6 + 2 * x.val) = 0xFFFFFFFF then s.ports[x].cap else arg2 a (6 + 2 * x.val) }) ∧
    (modeSet a s).hub = { s.hub with
      mode := if arg a 0 = 0xFFFF then s.hub.mode else selOf (arg a 0)
      siteCap := if arg2 a 14 = 0xFFFFFFFF then s.hub.siteCap else arg2 a 14 } ∧
    modeSet a s = { s with ports := (modeSet a s).ports, hub := (modeSet a s).hub,
                           bp := { s.bp with fallback := (modeSet a s).bp.fallback } } := by
  obtain ⟨hrest, hports⟩ := ranks_only (fun x => rankOf a x.val) s
  unfold modeSet
  generalize foldFin 4 (fun x s => swapRank x (rankOf a x.val) s) s = u at *
  refine ⟨fun x => ?_, ?_, ?_⟩
  · dsimp only
    rw [State.mapPorts_ports, hports x]
  · rw [hrest]
    rfl
  · dsimp only
    rw [hrest]
    rfl

/-- The trim of a port composes with one more (R50). -/
def composeTrim (x : Fin 4) (trim : Int) (s : State) : Reply :=
  doneWith [BitVec.ofInt 16 trim] (s.modPort x fun p =>
    { p with cal := true, trim := p.trim + trim + Int.tdiv (p.trim * trim) 100000 })

/-- Settles O5: the mode by its words, the trim by its checks. -/
theorem hubModeAndTrimAreStored : Obligations.HubModeAndTrimAreStored := by
  unfold Obligations.HubModeAndTrimAreStored
  refine ⟨fun via args s ha h0 hx hc => ?_, fun via args s x r1 r2 ha h0 h1 h2 hlt ht hmean => ?_⟩
  · obtain ⟨hports, hhub, hframe⟩ := modeSet_shows args s
    have differ := fun h => ranks_differ (s := s) h fun x => rankOf args x.val
    have one (x : Fin 4) := swapRanks_one (f := fun x => rankOf args x.val) (s := s) (x := x)
    obtain ⟨-, honly⟩ := ranks_only (fun x => rankOf args x.val) s
    refine ⟨_, hostCommand_answers ha (runSrcSetMode_eq h0 hx hc s), ?_⟩
    have ports := answer_ports via 0 [] (modeSet args s)
    have hub : (answer via 0 [] (modeSet args s)).hub = (modeSet args s).hub := by simp
    rw [hub, ports, hhub]
    generalize foldFin 4 (fun x s => swapRank x (rankOf args x.val) s) s = u at *
    refine ⟨rfl, fun h => if_pos h, fun h => ?_, rfl, fun h x y hxy => ?_, fun x h h' => ?_, fun x => ?_, ?_⟩
    · rw [if_neg (by omega)]
      exact selCode_selOf h
    · rw [hports x, hports y]
      exact differ h x y hxy
    · rw [hports x]
      exact one x h h'
    · rw [hports x, honly x]
    · simp only [answer_keeps]
      rw [← hhub]
      exact congrArg (answer via 0 []) hframe
  · have inRange := portArg_ok h0
    obtain rfl := portOf_of_arg h0
    have held : ¬(arg2 args 3 ≤ arg2 args 1 ∨ (r2.time : Int) - r1.time < 900000 ∨
        (r2.ctrs.ports[portOf (arg args 0)].eIn.val - r1.ctrs.ports[portOf (arg args 0)].eIn.val).toInt * 3600 <
          5000 * ((r2.time : Int) - r1.time)) := by omega
    refine ⟨fun hout => hostCommand_answers ha (run := runSrcCalInput) ?_, fun hlo hhi => ?_⟩
    · unfold runSrcCalInput
      rw [inRange, h1, h2]
      dsimp only
      rw [if_neg held, if_pos hout]
      rfl
    · have run : runSrcCalInput args s = toFlash (composeTrim (portOf (arg args 0)) (Int.tdiv
          ((arg4 args 5 - (r2.ctrs.ports[portOf (arg args 0)].eIn.val - r1.ctrs.ports[portOf (arg args 0)].eIn.val).toInt)
            * 100000)
          (r2.ctrs.ports[portOf (arg args 0)].eIn.val - r1.ctrs.ports[portOf (arg args 0)].eIn.val).toInt)) s := by
        unfold runSrcCalInput
        rw [inRange, h1, h2]
        dsimp only
        rw [if_neg held, if_neg (by omega)]
        rfl
      refine ⟨_, hostCommand_stored ha run rfl, .modPort _ _ _, ?_, fun h => ?_, rfl⟩
      · rw [modPort_same]
      · rw [modPort_same]
        simp only [h, zero_add, zero_mul, Int.zero_tdiv, add_zero]

end Sys2Proof.Machine
end

/-! ## Commands that set a tap's settings -/

section
open Sys2Proof.Claims

namespace Sys2Proof.Machine

/-! ### An accepted command to a tap -/

theorem tapOf_of_arg {v : Nat} {n : Fin 32} (h : v = n.val) : tapOf v = n := by
  apply Fin.ext
  simp only [tapOf, h]
  omega

theorem tapArg_ok {a : List Word} {n : Fin 32} (h : arg a 0 = n.val) : tapArg a = none := rng_ok (by omega) (by omega)

theorem onCluster_up {op via args s n} (h : arg args 0 = n.val) (hup : clUp s n = true) (run) :
    onCluster op run via args s = hostCommand op run via args s := by
  unfold onCluster
  dsimp only
  rw [if_neg]
  rw [tapOf_of_arg h, hup]
  simp


theorem onlyCfg_modCfg (n f) (s : State) : OnlyCfg n s (s.modCfg n f) (f s.taps[n].cfg) :=
  ⟨by rw [State.modCfg_taps, if_pos rfl], fun m hm => by rw [State.modCfg_taps, if_neg hm]⟩

theorem onlyCfg_answer {n s u c} (h : OnlyCfg n s u c) (via code res) : OnlyCfg n s (answer via code res u) c := by
  have taps := answer_taps via code res u
  exact ⟨by rw [taps]; exact h.1, fun m hm => by rw [taps]; exact h.2 m hm⟩

end Sys2Proof.Machine

namespace Sys2Proof.Claims
open Sys2Proof.Machine

section
variable {op : Nat} {via : Via} {args : List Word} {s : State} {n : Fin 32}

theorem AcceptsTap.tap (h : AcceptsTap op via args s n) : tapOf (arg args 0) = n := tapOf_of_arg h.2.1
theorem AcceptsTap.inRange (h : AcceptsTap op via args s n) : tapArg args = none := tapArg_ok h.2.1
theorem AcceptsTap.even (h : AcceptsTap op via args s n) : notOdd s args = none := by
  obtain ⟨-, h0, -, hodd⟩ := h
  rw [notOdd, tapOf_of_arg h0, hodd]
  rfl

theorem AcceptsTap.runs (h : AcceptsTap op via args s n) (run) :
    onCluster op run via args s = .next (deliver via (run args s)) := by
  obtain ⟨hacc, h0, hup, -⟩ := h
  rw [onCluster_up h0 hup, hostCommand_of_accepts hacc]

theorem AcceptsTap.answers {run code res u} (h : AcceptsTap op via args s n) (hr : run args s = .now code res u) :
    onCluster op run via args s = .next (answer via code res u) := by rw [h.runs, hr, deliver_now]

end

/-- An accepted command that changes a tap's settings alone. -/
theorem AcceptsTap.sets {op via args s n run f} (h : AcceptsTap op via args s n)
    (hr : run args s = done (s.modCfg (tapOf (arg args 0)) f)) : ∃ t, onCluster op run via args s = .next t ∧
      OnlyCfg n s t (f s.taps[n].cfg) ∧ t = answer via 0 [] { s with taps := t.taps } := by
  obtain rfl := h.tap
  refine ⟨_, h.answers hr, onlyCfg_answer (onlyCfg_modCfg ..) .., ?_⟩
  rw [answer_taps]
  rfl

end Sys2Proof.Claims

namespace Sys2Proof.Machine

/-! ### The margin check -/

theorem corners_length (s n b) : (corners s n b).length = 16 := by
  unfold corners bankVolts bankRods
  split <;> split <;> rfl

theorem shiftsOk_iff {a : List Word} : shiftsOk a = true ↔ arg a 4 < 8 ∧ arg a 7 < 8 ∧ arg a 9 < 8 := decide_eq_true_iff

theorem bits_eq_zero {a b c : Bool} : bit a 0 + bit b 1 + bit c 2 = 0 ↔ (a || b || c) = false := by
  cases a <;> cases b <;> cases c <;> decide

/-- The tap's settings with bank `b` replaced. -/
def withBank (a : List Word) (b : Nat) (c : TapCfg) : TapCfg :=
  { c with banks := vec fun x => if x.val = b then vec fun k => argW a (2 + k.val) else c.banks[x] }

section
variable {a : List Word} {s : State} {n : Fin 32}

theorem runSetCoeff_shift (h0 : tapArg a = none) (h1 : arg a 1 ≤ 3) (h : shiftsOk a = false) :
    runSetCoeff a s = .now 0x21 [8] s := by
  rw [runSetCoeff]
  simp [h0, rng_ok (Nat.zero_le _) h1, h]

theorem runSetCoeff_margins (h0 : tapArg a = none) (h1 : arg a 1 ≤ 3) (h : shiftsOk a = true)
    (hbad : marginBits (tabulate 9 fun k => argW a (2 + k.val)) (corners s (tapOf (arg a 0)) (arg a 1)) ≠ 0) :
    runSetCoeff a s = .now 0x21
      [word (marginBits (tabulate 9 fun k => argW a (2 + k.val)) (corners s (tapOf (arg a 0)) (arg a 1)))] s := by
  rw [runSetCoeff]
  simp [h0, rng_ok (Nat.zero_le _) h1, h, hbad]

theorem runSetCoeff_stores (h0 : tapArg a = none) (h1 : arg a 1 ≤ 3) (h : shiftsOk a = true) (ho : notOdd s a = none)
    (hok : marginBits (tabulate 9 fun k => argW a (2 + k.val)) (corners s (tapOf (arg a 0)) (arg a 1)) = 0) :
    runSetCoeff a s = done (s.modCfg (tapOf (arg a 0)) (withBank a (arg a 1))) := by
  rw [runSetCoeff]
  simp [h0, rng_ok (Nat.zero_le _) h1, h, hok, ho]
  rfl

end

/-- Settles O6, command by command. -/
theorem tapSettingsTakeTheirWords : Obligations.TapSettingsTakeTheirWords := by
  unfold Obligations.TapSettingsTakeTheirWords
  refine ⟨fun via args s n => ⟨fun ha h1 => ?_, fun ha h1 => ?_, fun ha h1 h2 h3 h4 => ?_, fun ha h1 h2 h3 h4 => ?_,
    fun ha h1 h2 h3 h4 h5 => ?_, fun ha h1 h2 h3 h4 h5 h6 => ?_, fun ha => ?_, fun d ha h0 hd h1 h2 h3 h4 => ?_⟩,
    fun via args s n b ha hb => ?_⟩
  · have word : wordsLimits args = none := by
      rw [wordsLimits, ha.inRange, wordsLimits.rngOr', if_neg (by omega), rng_ok (by omega) h1]
      rfl
    have lim : argD args 1 = some (arg args 1) := if_neg (by omega)
    rw [← lim]
    exact ha.sets (run := runSetLimits) (checked_pass (by rw [word, ha.even]; rfl))
  · have word : wordsLimits args = none := by
      rw [wordsLimits, ha.inRange, wordsLimits.rngOr', if_pos h1]
      rfl
    have lim : argD args 1 = none := if_pos h1
    rw [← lim]
    exact ha.sets (run := runSetLimits) (checked_pass (by rw [word, ha.even]; rfl))
  · exact ha.sets (run := runSetRamp) (checked_pass (by
      rw [wordsRamp, ha.inRange, ha.even, rng_ok h1 h2, rng_ok h3 h4]
      rfl))
  · exact ha.sets (run := runSetSchedule) (checked_pass (by
      rw [wordsSchedule, ha.inRange, ha.even, rng_ok h1 h2, rng_ok h3 h4]
      rfl))
  · exact ha.sets (run := runSetShed) (checked_pass (by
      rw [wordsShed, ha.inRange, ha.even, rng_ok h1 h2, rng_ok h3 h5, decide_eq_true h4]
      rfl))
  · exact ha.sets (run := runSetPlant) (checked_pass (by
      rw [wordsPlant, ha.inRange, ha.even, rng_ok h1 (by omega), rng_ok (by omega) h3, rng_ok h4 (by omega),
        rng_ok (by omega) h6, decide_eq_true ⟨h2, h5⟩]
      rfl))
  · exact ha.sets (run := runLoadDefaultCoeff) (checked_pass (by
      rw [wordsTap, ha.inRange, ha.even]
      rfl))
  · have top : minTop s.taps[n] = d.iFast := by rw [minTop, hd]
    obtain rfl := tapOf_of_arg h0
    have run : runSetMin args s = done (s.modCfg (tapOf (arg args 0)) fun c =>
        { c with minCur := arg args 1, lessee := arg args 2 }) := by
      refine checked_pass ?_
      rw [wordsMin, tapArg_ok h0, top, rng_ok (by omega) h1, rng_ok (by omega) h4, decide_eq_true (by omega)]
      rfl
    refine ⟨_, hostCommand_answers ha run, onlyCfg_answer (onlyCfg_modCfg ..) .., ?_⟩
    rw [answer_taps]
    rfl
  · intro bank v low gain fast
    have h1 : arg args 1 ≤ 3 := by omega
    refine ⟨corners_length .., fun hs => ?_, fun h4 h7 h9 => ?_⟩
    · have shift : shiftsOk args = false := decide_eq_false (by omega)
      exact ha.answers (runSetCoeff_shift ha.inRange h1 shift)
    have shift : shiftsOk args = true := shiftsOk_iff.mpr ⟨h4, h7, h9⟩
    have bits : marginBits bank (corners s (tapOf (arg args 0)) (arg args 1)) = bit low 0 + bit gain 1 + bit fast 2 := by
      rw [ha.tap, hb]
      rfl
    cases hbad : low || gain || fast with
    | true =>
      have bad := mt (bits_eq_zero (a := low) (b := gain) (c := fast)).mp (by rw [hbad]; exact Bool.noConfusion)
      refine ⟨_, ha.answers (runSetCoeff_margins ha.inRange h1 shift (by rw [bits]; exact bad)), fun _ => ?_, nofun⟩
      rw [bits]
    | false =>
      have good := (bits_eq_zero (a := low) (b := gain) (c := fast)).mpr hbad
      have run := runSetCoeff_stores ha.inRange h1 shift ha.even (bits.trans good)
      obtain ⟨t, ht, only, frame⟩ := ha.sets run
      have banks : t.taps[n].cfg.banks = (withBank args (arg args 1) s.taps[n].cfg).banks := by rw [only.1]
      refine ⟨t, ht, nofun, fun _ => ⟨fun k => ?_, fun a hab => ?_, ?_, frame⟩⟩
      · rw [banks]
        simp [withBank, hb]
      · rw [banks]
        have other : a.val ≠ arg args 1 := fun h => hab (Fin.ext (h.trans hb))
        simp [withBank, other]
      · rw [banks]
        exact only

end Sys2Proof.Machine
end

/-! ## What an event leaves of every tap -/

section
open Sys2Proof.Claims

namespace Sys2Proof.Machine

/-- `g` of every tap is as before. -/
structure Kept {β : Type} (g : Tap → β) (s t : State) : Prop where
  same : ∀ m : Fin 32, g t.taps[m] = g s.taps[m]

section
variable {β : Type} {g : Tap → β} {s t u : State} {n : Fin 32}

theorem Kept.refl (g : Tap → β) (s) : Kept g s s := ⟨fun _ => rfl⟩
theorem Kept.of_taps (h : t.taps = s.taps) : Kept g s t := ⟨fun m => by rw [h]⟩
theorem Kept.trans (h : Kept g s t) (k : Kept g t u) : Kept g s u := ⟨fun m => (k.same m).trans (h.same m)⟩
theorem Kept.ite {p : Prop} [Decidable p] (h : Kept g s t) (k : Kept g s u) : Kept g s (if p then t else u) := by
  split <;> assumption
theorem Kept.modTap {f} (h : ∀ t : Tap, g (f t) = g t) (s) : Kept g s (s.modTap n f) := ⟨fun m => by
  rw [State.modTap_taps]
  split
  · next e => subst e; exact h _
  · rfl⟩
theorem Kept.onMates {f} (h : ∀ t : Tap, g { t with stake := f t.stake } = g t) (s) : Kept g s (onMates n f s) := ⟨fun m => by
  rw [onMates_taps]
  split
  · exact h _
  · rfl⟩
theorem Kept.of_reports (h : Reports s t) : Kept g s t := .of_taps (by rw [h])

end

/-- The descriptor and the settings of a tap. -/
def Tap.setup (t : Tap) : Option Descriptor × TapCfg := (t.desc, t.cfg)

theorem setup_eq {t u : Tap} : t.setup = u.setup ↔ t.desc = u.desc ∧ t.cfg = u.cfg := by simp [Tap.setup]

theorem stopStake_setup (n s) : Kept Tap.setup s (stopStake n s) := ⟨fun m => setup_eq.mpr (stopStake_settings n s m)⟩
theorem retarget_setup (n s) : Kept Tap.setup s (retarget n s) := by
  unfold retarget
  exact .modTap (by exact fun _ => rfl) s

theorem arm_setup (c st) (t : Tap) : (t.arm c st).setup = t.setup := by simp [Tap.setup]

theorem armFor_setup (n st s) : Kept Tap.setup s (armFor n st s) := ⟨fun m => by
  by_cases h : m = n
  · rw [h, armFor_tap, arm_setup]
  · rw [armFor_but n st s m h]⟩

theorem enterCharge_setup (n st s) : Kept Tap.setup s (enterCharge n st s) := by
  by_cases hp : (helperState s.taps[n] st).plain = true
  · rw [enterCharge_plain hp]
    exact (Kept.trans (.modTap (by exact fun _ => rfl) _) (armFor_setup ..)).trans (retarget_setup ..)
  · obtain h | h : helperState s.taps[n] st = .done ∨ helperState s.taps[n] st = .cupping := by
      generalize helperState s.taps[n] st = u at hp
      cases u <;> simp_all [TapState.plain]
    · obtain ⟨u, hu, he⟩ := enterCharge_done h
      rw [he]
      have finished : Kept Tap.setup s u := Kept.trans (.modTap (by exact fun _ => rfl) _) (.of_reports hu)
      exact .ite (finished.trans (retarget_setup ..)) (finished.trans (stopStake_setup ..))
    · rw [enterCharge_cupping h]
      exact (Kept.trans (.modTap (by exact fun _ => rfl) _) (.onMates (by exact fun _ => rfl) _)).trans (retarget_setup ..)

theorem returnTo_setup (n st cause s) : Kept Tap.setup s (returnTo n st cause s) := by
  have back (st) : Kept Tap.setup s (returning n st cause s) :=
    .ite (Kept.trans (.modTap (by exact fun _ => rfl) _) (.modTap (by exact fun _ => rfl) _))
      (Kept.trans (.modTap (by exact fun _ => rfl) _) (armFor_setup ..))
  rw [returnTo_eq]
  exact .ite ((back _).trans (retarget_setup ..)) ((back _).trans (stopStake_setup ..))

theorem detecting_setup (isNew) (t : Tap) : (t.detecting isNew).setup = t.setup := by
  unfold Tap.detecting
  cases isNew <;> rfl

theorem wakeFor_taps (n s) : (wakeFor n s).taps = s.taps := (wakeFor_keeps ..).2.2.1

theorem toDetect_setup (n isNew s) : Kept Tap.setup s (toDetect n isNew s) := by
  rw [toDetect_eq]
  have entered : Kept Tap.setup s (s.modTap n (Tap.detecting isNew)) := .modTap (detecting_setup isNew) _
  exact Kept.trans (.ite (entered.trans (retarget_setup ..)) entered) (.of_taps (wakeFor_taps ..))

/-! ### The rank of a command -/

theorem byCommand_tap (n f s) : ∃ r, (byCommand n f s).taps[n] = { (f s).taps[n] with acted := r } := by
  unfold byCommand
  dsimp only
  split
  · exact ⟨8, by rw [State.modTap_taps, if_pos rfl]⟩
  · exact ⟨_, rfl⟩

theorem byCommand_but (n f s) : TapsBut n (f s) (byCommand n f s) := by
  unfold byCommand
  exact .ite (.modTap _ _ _) (.refl _ _)

theorem byCommand_outside (n f s) : byCommand n f s = { f s with taps := (byCommand n f s).taps } := by
  unfold byCommand
  dsimp only
  split <;> rfl

/-! ### The end of KEEP -/

/-- A tap as its KEEP ends (R151). -/
def Tap.unkeeps (q : Option Int) (t : Tap) : Tap := { t with keepLow := false, keepQ := q }

/-- Where the end of KEEP leads a tap that stood as `t` (R151). -/
def keepLeads (n : Fin 32) (t : Tap) (u : State) : State := match t.left with
  | .done | .topoff => if rechargeDue u n then goByKelvin n u else returnTo n t.left 0 u
  | .suspended => (returnTo n .suspended t.leftCause u).modTap n fun a => { a with left := t.left2 }
  | .detect => toDetect n false u
  | st => returnTo n st 0 u

theorem endKeep_eq (n s) : ∃ q, endKeep n s = keepLeads n s.taps[n] (s.modTap n (Tap.unkeeps q)) := by
  refine ⟨if decide (keepTarget s s.taps[n] = keepVolt s.taps[n]) then some 0 else none, ?_⟩
  unfold endKeep keepLeads Tap.unkeeps
  dsimp only <;> cases s.taps[n].left <;> rfl

theorem keepLeads_tapOp (n t u) : TapOp n u (keepLeads n t u) := by
  unfold keepLeads
  split
  case h_1 | h_2 => exact .ite (enterCharge_tapOp ..) (returnTo_tapOp ..)
  case h_3 => exact (returnTo_tapOp ..).trans .modTap
  case h_4 => exact toDetect_tapOp ..
  case h_5 => exact returnTo_tapOp ..

theorem keepLeads_setup (n t u) : Kept Tap.setup u (keepLeads n t u) := by
  unfold keepLeads
  split
  case h_1 | h_2 => exact .ite (enterCharge_setup ..) (returnTo_setup ..)
  case h_3 => exact (returnTo_setup ..).trans (.modTap (by exact fun _ => rfl) _)
  case h_4 => exact toDetect_setup ..
  case h_5 => exact returnTo_setup ..

theorem endKeep_tapOp (n s) : TapOp n s (endKeep n s) := by
  obtain ⟨q, he⟩ := endKeep_eq n s
  rw [he]
  exact TapOp.trans .modTap (keepLeads_tapOp ..)

theorem endKeep_setup (n s) : Kept Tap.setup s (endKeep n s) := by
  obtain ⟨q, he⟩ := endKeep_eq n s
  rw [he]
  exact Kept.trans (.modTap (by exact fun _ => rfl) _) (keepLeads_setup ..)

/-- What a return to a state shows, whether its stake goes on or stops. -/
theorem returnTo_shows (n st cause s) : (returnTo n st cause s).taps[n].state = helperState s.taps[n] st ∧
    (returnTo n st cause s).taps[n].cause = cause ∧ (returnTo n st cause s).taps[n].left = s.taps[n].left ∧
    (returnTo n st cause s).taps[n].outQ = s.taps[n].outQ := by
  obtain ⟨hst, hcause, hleft, hq, -⟩ := returning_tap n (helperState s.taps[n] st) cause s
  obtain ⟨g, follows, h | h⟩ := returnTo_tap n st cause s <;> rw [h]
  · simp only [Tap.aim_keeps]
    exact ⟨hst, hcause, hleft, hq⟩
  · exact ⟨hst, hcause, hleft, hq⟩

theorem unkeeps_tap (n q) (s : State) : (s.modTap n (Tap.unkeeps q)).taps[n] = s.taps[n].unkeeps q := by
  rw [State.modTap_taps, if_pos rfl]

/-- KEEP that left a suspension ends in it (R151). -/
theorem endKeep_suspended {n s} (h : s.taps[n].left = .suspended) : (endKeep n s).taps[n].state = .suspended ∧
    (endKeep n s).taps[n].cause = s.taps[n].leftCause ∧ (endKeep n s).taps[n].left = s.taps[n].left2 := by
  obtain ⟨q, he⟩ := endKeep_eq n s
  obtain ⟨hst, hcause, -⟩ := returnTo_shows n .suspended s.taps[n].leftCause (s.modTap n (Tap.unkeeps q))
  rw [he, keepLeads, h]
  dsimp only
  rw [State.modTap_taps, if_pos rfl]
  exact ⟨hst, hcause, rfl⟩

/-- KEEP that left DETECT ends in it (R151). -/
theorem endKeep_detect {n s} (h : s.taps[n].left = .detect) : (endKeep n s).taps[n].state = .detect ∧
    (endKeep n s).taps[n].cause = 0 ∧ (endKeep n s).taps[n].newBlock = false := by
  obtain ⟨q, he⟩ := endKeep_eq n s
  obtain ⟨hst, hcause, hnew, -⟩ := toDetect_shows n false (s.modTap n (Tap.unkeeps q))
  rw [he, keepLeads, h]
  exact ⟨hst, hcause, hnew⟩

/-- KEEP that left a charge ends in it (R151). -/
theorem endKeep_charge {n s} (hh : isHelper s.taps[n] = false) (h : s.taps[n].left = .cupping ∨
    s.taps[n].left = .precharge ∨ s.taps[n].left = .cc ∨ s.taps[n].left = .cv) :
    (endKeep n s).taps[n].state = s.taps[n].left ∧ (endKeep n s).taps[n].cause = 0 := by
  obtain ⟨q, he⟩ := endKeep_eq n s
  have back (st) : (returnTo n st 0 (s.modTap n (Tap.unkeeps q))).taps[n].state = st ∧
      (returnTo n st 0 (s.modTap n (Tap.unkeeps q))).taps[n].cause = 0 := by
    obtain ⟨hst, hcause, -⟩ := returnTo_shows n st 0 (s.modTap n (Tap.unkeeps q))
    rw [hst, hcause, helperState_own (by rw [unkeeps_tap]; exact hh)]
    exact ⟨rfl, rfl⟩
  rw [he, keepLeads]
  obtain h | h | h | h := h <;> rw [h] <;> exact back _

theorem rechargeDue_congr {s u : State} {n : Fin 32} (ht : u.taps[n].setup = s.taps[n].setup ∧ u.taps[n].outQ = s.taps[n].outQ)
    (hb : u.bbx.hist = s.bbx.hist) : rechargeDue u n = rechargeDue s n := by
  obtain ⟨hset, hq⟩ := ht
  obtain ⟨hd, -⟩ := setup_eq.mp hset
  unfold rechargeDue capacity history lastHist
  rw [hd, hq, hb]

/-- KEEP that left DONE or TOP-OFF ends there, or by Kelvin when a recharge is due (R151). -/
theorem endKeep_rested {n s} (hh : isHelper s.taps[n] = false) (h : s.taps[n].left = .done ∨ s.taps[n].left = .topoff) :
    (rechargeDue s n = false → (endKeep n s).taps[n].state = s.taps[n].left ∧ (endKeep n s).taps[n].cause = 0 ∧
      (endKeep n s).taps[n].outQ = s.taps[n].outQ) ∧
    (rechargeDue s n = true → (endKeep n s).taps[n].state = byKelvin s.taps[n]) := by
  obtain ⟨q, he⟩ := endKeep_eq n s
  have own := unkeeps_tap n q s
  have due : rechargeDue (s.modTap n (Tap.unkeeps q)) n = rechargeDue s n :=
    rechargeDue_congr (by rw [own]; exact ⟨rfl, rfl⟩) rfl
  have leads : endKeep n s = if rechargeDue s n then goByKelvin n (s.modTap n (Tap.unkeeps q))
      else returnTo n s.taps[n].left 0 (s.modTap n (Tap.unkeeps q)) := by
    rw [he, keepLeads]
    obtain h | h := h <;> rw [h] <;> dsimp only <;> rw [due]
  rw [leads]
  refine ⟨fun hdue => ?_, fun hdue => ?_⟩
  · obtain ⟨hst, hcause, -, hq⟩ := returnTo_shows n s.taps[n].left 0 (s.modTap n (Tap.unkeeps q))
    rw [hdue, if_neg Bool.false_ne_true, hst, hcause, hq, helperState_own (by rw [own]; exact hh), own]
    exact ⟨rfl, rfl, rfl⟩
  · rw [if_pos hdue, goByKelvin, enterCharge_state, helperState_own (by rw [own]; exact hh), own]
    rfl

theorem byKelvin_of {t : Tap} {d} (h : t.desc = some d) :
    byKelvin t = if kelvin t < ((d.cells * d.preC : Nat) : Int) then .precharge else .cc := by
  simp only [byKelvin, h]

/-! ### References of KEEP and STAND-IN -/

theorem targets_keep (s : State) (n : Fin 32) : (targets s n .keep).1 = keepTarget s s.taps[n] := by
  unfold targets
  dsimp only
  cases s.taps[n].desc <;> rfl

theorem targets_standIn (s : State) (n : Fin 32) : (targets s n .standIn).1 = siTarget s s.taps[n] := by
  unfold targets
  dsimp only
  cases s.taps[n].desc <;> rfl

theorem tracked_off {s t} (h : t.cfg.track = .off) : tracked s t = none := by
  simp [tracked, h]

/-- An accepted command that changes a tap's settings, which reach the reference of its state (R99, R106, R115). -/
theorem refresh_settings {op via args s n run f} (h : AcceptsTap op via args s n)
    (hr : run args s = done (refresh (tapOf (arg args 0)) (s.modCfg (tapOf (arg args 0)) f))) :
    ∃ t, onCluster op run via args s = .next t ∧ t.taps[n].cfg = f s.taps[n].cfg ∧
      (s.taps[n].state = .keep ∨ s.taps[n].state = .standIn →
        t.taps[n].stake.vTarget = (targets (s.modCfg n f) n s.taps[n].state).1) ∧
      (s.taps[n].state ≠ .keep → s.taps[n].state ≠ .standIn → t.taps[n].stake = s.taps[n].stake) ∧
      t.taps[n].state = s.taps[n].state ∧ TapsBut n s t ∧ t = answer via 0 [] { s with taps := t.taps } := by
  obtain rfl := h.tap
  generalize hn : tapOf (arg args 0) = n at hr ⊢
  have own : (s.modCfg n f).taps[n] = { s.taps[n] with cfg := f s.taps[n].cfg } := by rw [State.modCfg_taps, if_pos rfl]
  have others : TapsBut n s (s.modCfg n f) := fun m hm => by rw [State.modCfg_taps, if_neg hm]
  refine ⟨_, h.answers hr, ?_⟩
  have stands : (s.modCfg n f).taps[n].state = s.taps[n].state := by rw [own]
  rw [answer_taps]
  unfold refresh
  rw [stands]
  split
  · next hst =>
    rw [retarget_tap, stands, own]
    refine ⟨by simp, fun _ => by simp, fun h1 h2 => absurd hst (not_or.mpr ⟨h1, h2⟩), by simp, ?_, ?_⟩
    · intro m hm
      rw [answer_taps, retarget_but n _ m hm, others m hm]
    · rfl
  · next hst =>
    rw [own]
    refine ⟨rfl, fun h => absurd h hst, fun _ _ => rfl, rfl, ?_, rfl⟩
    intro m hm
    rw [answer_taps, others m hm]

end Sys2Proof.Machine
end

/-! ## References, support and descriptors -/

section
open Sys2Proof.Claims

namespace Sys2Proof.Machine

theorem tapVolt_ok {v : Nat} (h : 18000 ≤ v) (h' : v ≤ 96000) : tapVolt v = none := rng_ok h h'

/-- The support word below 12 has no reserved bit and a removal action of the three (R265). -/
theorem supportWord {w : Word} (h : w.toNat < 12) : field w 2 2 = w.toNat / 4 ∧ field w 4 12 = 0 ∧
    decide (field w 0 1 = 1) = w.getLsbD 0 ∧ decide (field w 1 1 = 1) = w.getLsbD 1 := by
  unfold field
  exact ⟨by omega, by omega, (Nat.testBit_eq_decide_div_mod_eq ..).symm, (Nat.testBit_eq_decide_div_mod_eq ..).symm⟩

/-- The support settings that a word asks for (R130). -/
def supports (w : Word) (c : TapCfg) : TapCfg :=
  { c with keepEn := decide (field w 0 1 = 1), bypOnFault := decide (field w 1 1 = 1)
           removal := match field w 2 2 with | 0 => .standIn | 1 => .bypass | _ => .openTap }

theorem supports_eq {w : Word} (h : w.toNat < 12) (c : TapCfg) : supports w c =
    { c with keepEn := w.getLsbD 0, bypOnFault := w.getLsbD 1
             removal := if w.toNat / 4 = 0 then .standIn else if w.toNat / 4 = 1 then .bypass else .openTap } := by
  obtain ⟨hrem, -, hkeep, hbyp⟩ := supportWord h
  rw [supports, hkeep, hbyp, hrem]
  congr 1
  split <;> simp_all

theorem runSetSupport_eq {a : List Word} {s : State} {n : Fin 32} (hn : tapOf (arg a 0) = n) (hr : tapArg a = none)
    (he : notOdd s a = none) (hw : arg a 1 < 12) (hact : s.taps[n].acted = 0) : runSetSupport a s =
      let u := s.modCfg n (supports (argW a 1))
      done (if !(argW a 1).getLsbD 0 && decide (u.taps[n].state = .keep) then byCommand n (endKeep n) u else u) := by
  subst hn
  obtain ⟨hrem, hres, hkeep, -⟩ := supportWord hw
  have free : unacted s (tapOf (arg a 0)) = true := decide_eq_true (.inl hact)
  have action : field (argW a 1) 2 2 ≤ 2 := by
    rw [hrem]
    exact Nat.le_of_lt_succ (Nat.div_lt_of_lt_mul hw)
  have pass : first [wordsSupport a, notOdd s a, allow (decide (field (argW a 1) 0 1 = 1) ||
      decide (s.taps[tapOf (arg a 0)].state ≠ .keep) || unacted s (tapOf (arg a 0)))] = none := by
    rw [wordsSupport, hr, he, rng_ok (Nat.zero_le _) action, decide_eq_true hres, free, Bool.or_true]
    rfl
  rw [← hkeep]
  exact checked_pass pass

section
variable {a : List Word} {s : State} {n : Fin 32} (hn : tapOf (arg a 0) = n) (hr : tapArg a = none)
  (he : notOdd s a = none) (hw : arg a 1 < 12) (hact : s.taps[n].acted = 0)
include hn hr he hw hact

theorem runSetSupport_ends (hon : (argW a 1).getLsbD 0 = false) (hkeep : s.taps[n].state = .keep) :
    runSetSupport a s = done (byCommand n (endKeep n) (s.modCfg n (supports (argW a 1)))) := by
  have stands : (s.modCfg n (supports (argW a 1))).taps[n].state = .keep := by rw [State.modCfg_taps, if_pos rfl, hkeep]
  rw [runSetSupport_eq hn hr he hw hact, hon]
  dsimp only
  rw [stands]
  rfl

theorem runSetSupport_stays (h : ¬((argW a 1).getLsbD 0 = false ∧ s.taps[n].state = .keep)) :
    runSetSupport a s = done (s.modCfg n (supports (argW a 1))) := by
  have stands : (s.modCfg n (supports (argW a 1))).taps[n].state = s.taps[n].state := by rw [State.modCfg_taps, if_pos rfl]
  rw [runSetSupport_eq hn hr he hw hact]
  dsimp only
  rw [stands, if_neg]
  simpa using h

end

/-- The tracking that a word asks for (R115). -/
def tracksBy (v : Nat) : TrackMode := match v with | 0 => .off | 1 => .ratio | _ => .coincident

theorem tracksBy_eq (v) : tracksBy v = if v = 0 then .off else if v = 1 then .ratio else .coincident := by
  unfold tracksBy
  split <;> simp_all

theorem keepTarget_off {s t} (h : t.cfg.track = .off) : keepTarget s t = keepVolt t := by rw [keepTarget, tracked_off h]
theorem siTarget_off {s t} (h : t.cfg.track = .off) : siTarget s t = (siVolt t).getD 0 := by rw [siTarget, tracked_off h]

theorem siTarget_coincident {s : State} {t} (h : t.cfg.track = .coincident) (hseen : s.sys.trackSeen = true)
    (hheld : s.sys.trackHeld = false) :
    siTarget s t = min (siWindow t).2 (max (siWindow t).1 (20 * s.sys.trackMv.toNat)) := by
  have follows : tracked s t = some (20 * s.sys.trackMv.toNat) := by rw [tracked, hseen, hheld, h]; rfl
  rw [siTarget, follows]

/-- Settles O7, command by command. -/
theorem referencesAndSupportReachTheTap : Obligations.ReferencesAndSupportReachTheTap := by
  unfold Obligations.ReferencesAndSupportReachTheTap
  refine ⟨fun via args s n => ⟨fun ha h1 h2 hcv => ?_, fun ha h1 h2 h3 h4 h5 => ?_, fun ha h1 h2 h3 => ?_⟩,
    fun via args s n ha hw hact => ?_⟩
  · have below : (s.taps[tapOf (arg args 0)].desc.isNone ||
        decide (arg2 args 1 < cvTarget s.taps[tapOf (arg args 0)])) = true := by
      obtain rfl := ha.tap
      cases hd : s.taps[tapOf (arg args 0)].desc with
      | none => rfl
      | some d =>
        rw [cvTarget, hd]
        exact decide_eq_true (hcv d hd)
    obtain ⟨t, ht, hcfg, hv, hrest⟩ := refresh_settings (run := runSetKeep) ha (checked_pass (by
      rw [wordsKeep, ha.inRange, ha.even, tapVolt_ok h1 h2, below]
      rfl))
    refine ⟨t, ht, hcfg, fun hst htrack => ?_, hrest⟩
    rw [hv (.inl hst), hst, targets_keep, State.modCfg_taps, if_pos rfl, keepTarget_off (by exact htrack)]
    rfl
  · obtain ⟨t, ht, hcfg, hv, hrest⟩ := refresh_settings (run := runSetStandin) ha (checked_pass (by
      rw [wordsStandin, ha.inRange, ha.even, tapVolt_ok (by omega) (by omega), tapVolt_ok h1 (by omega),
        tapVolt_ok (by omega) h4, rng_ok (Nat.zero_le _) h5, decide_eq_true ⟨h2, h3⟩]
      rfl))
    refine ⟨t, ht, hcfg, fun hst htrack => ?_, hrest⟩
    rw [hv (.inr hst), hst, targets_standIn, State.modCfg_taps, if_pos rfl, siTarget_off (by exact htrack)]
    rfl
  · obtain ⟨t, ht, hcfg, hv, -, hrest⟩ := refresh_settings (run := runSetTrack)
      (f := fun c => { c with track := tracksBy (arg args 1), trackFs := arg2 args 2 }) ha (checked_pass (by
        rw [wordsTrack, ha.inRange, ha.even, tapVolt_ok h2 h3, rng_ok (Nat.zero_le _) h1]
        rfl))
    refine ⟨t, ht, by rw [hcfg, tracksBy_eq], fun hst hseen hheld h2 => ?_, hrest⟩
    rw [hv (.inr hst), hst, targets_standIn, State.modCfg_taps, if_pos rfl, h2, siTarget_coincident rfl (by exact hseen) (by exact hheld)]
    rfl
  · have set := supports_eq (w := argW args 1) hw s.taps[n].cfg
    have own : (s.modCfg n (supports (argW args 1))).taps[n] = { s.taps[n] with cfg := supports (argW args 1) s.taps[n].cfg } := by
      rw [State.modCfg_taps, if_pos rfl]
    have only : OnlyCfg n s (s.modCfg n (supports (argW args 1))) (supports (argW args 1) s.taps[n].cfg) := onlyCfg_modCfg ..
    by_cases hend : (argW args 1).getLsbD 0 = false ∧ s.taps[n].state = .keep
    · have run := runSetSupport_ends ha.tap ha.inRange ha.even hw hact hend.1 hend.2
      have helper : isHelper (s.modCfg n (supports (argW args 1))).taps[n] = isHelper s.taps[n] := by rw [own]; rfl
      have due : rechargeDue (s.modCfg n (supports (argW args 1))) n = rechargeDue s n := by
        unfold rechargeDue capacity history
        rw [own]
        rfl
      have kelvin : byKelvin (s.modCfg n (supports (argW args 1))).taps[n] = byKelvin s.taps[n] := by rw [own]; rfl
      have gang : mates (s.modCfg n (supports (argW args 1))) n = mates s n := by unfold mates; rw [own]; rfl
      generalize s.modCfg n (supports (argW args 1)) = u at *
      obtain ⟨r, hr⟩ := byCommand_tap n (endKeep n) u
      obtain ⟨-, cfg⟩ := setup_eq.mp ((endKeep_setup n u).same n)
      have frame := (endKeep_tapOp n u).byCommand.frame.1
      have left : u.taps[n].left = s.taps[n].left := by rw [own]
      have leftCause : u.taps[n].leftCause = s.taps[n].leftCause := by rw [own]
      have left2 : u.taps[n].left2 = s.taps[n].left2 := by rw [own]
      have outQ : u.taps[n].outQ = s.taps[n].outQ := by rw [own]
      refine ⟨_, ha.answers run, answerOf_answer .., ?_, ?_, fun h => (h.elim (fun h => Bool.noConfusion (h.symm.trans hend.1)) fun h => h hend.2).elim, fun _ _ h => ?_, fun _ _ h => ?_,
        fun _ _ hh => ⟨fun h => ?_, fun h => ⟨fun hdue => ?_, fun hdue d hd => ?_⟩⟩⟩
      · intro m hm
        rw [answer_taps]
        exact (frame m (gang ▸ hm)).trans (only.2 m fun e => hm (e ▸ mem_mates_self s n))
      all_goals rw [answer_taps, hr]
      · exact cfg.trans ((congrArg Tap.cfg own).trans set)
      · rw [← leftCause, ← left2]
        exact endKeep_suspended (left.trans h)
      · exact endKeep_detect (left.trans h)
      · rw [← left] at h ⊢
        exact endKeep_charge (helper.trans hh) h
      · rw [← left] at h ⊢
        rw [← outQ]
        exact (endKeep_rested (helper.trans hh) h).1 (due.trans hdue)
      · rw [← left] at h
        rw [← byKelvin_of hd, ← kelvin]
        exact (endKeep_rested (helper.trans hh) h).2 (due.trans hdue)
    · have run := runSetSupport_stays ha.tap ha.inRange ha.even hw hact hend
      refine ⟨_, ha.answers run, answerOf_answer .., ?_, ?_, fun _ => ⟨?_, ?_⟩, fun h1 h2 => absurd ⟨h1, h2⟩ hend,
        fun h1 h2 => absurd ⟨h1, h2⟩ hend, fun h1 h2 => absurd ⟨h1, h2⟩ hend⟩
      · exact fun m hm => (onlyCfg_answer only via 0 []).2 m fun e => hm (e ▸ mem_mates_self s n)
      · rw [answer_taps, own]
        exact set
      · rw [answer_taps, own]
        exact onlyCfg_answer only ..
      · rw [answer_taps]
        rfl

end Sys2Proof.Machine
end

/-! ## Descriptors -/

section
open Sys2Proof.Claims

namespace Sys2Proof.Machine

theorem toDetect_outside (n isNew s) :
    toDetect n isNew s = { s with taps := (toDetect n isNew s).taps, sys := (toDetect n isNew s).sys } := by
  rw [toDetect_eq]
  unfold wakeFor retarget
  dsimp only
  split <;> split <;> rfl

/-- A tap that takes a descriptor, and gives up the voltages set for the one before (R125). -/
def Tap.takes (d : Descriptor) (t : Tap) : Tap :=
  { t with desc := some d, cfg := { t.cfg with keepV := none, siV := none, siMin := none, siMax := none } }

theorem takeDescriptor_eq (n d s) : takeDescriptor n d s =
    let u := (if otherSerial s.taps[n] d then voidHist n s else s).modTap n (Tap.takes d)
    if descMoves s.taps[n] d then toDetect n (otherSerial s.taps[n] d) u else u := rfl

theorem takeDescriptor_but (n d s) : TapsBut n s (takeDescriptor n d s) := by
  rw [takeDescriptor_eq]
  have void : TapsBut n s (if otherSerial s.taps[n] d then voidHist n s else s) := .ite (.of_taps rfl) (.refl _ _)
  have taken := void.trans (.modTap n (Tap.takes d) _)
  exact .ite (taken.trans (toDetect_but _ _ _)) taken

theorem takeDescriptor_desc (n d s) : (takeDescriptor n d s).taps[n].desc = some d := by
  rw [takeDescriptor_eq]
  dsimp only
  split
  · rw [(toDetect_shows ..).2.2.2.2.1, State.modTap_taps, if_pos rfl]
    rfl
  · rw [State.modTap_taps, if_pos rfl]
    rfl

theorem otherSerial_none {t : Tap} {d} (h : t.desc = none) : otherSerial t d = false := by rw [otherSerial, h]

theorem descMoves_rest {t : Tap} {d} (h : otherSerial t d = false) (h' : t.state ≠ .suspended) : descMoves t d = false := by
  rw [descMoves, h, decide_eq_false h']
  rfl

theorem descMoves_other {t : Tap} {d} (h : otherSerial t d = true) (h' : t.state = .suspended ∨ t.state = .faultShort) :
    descMoves t d = true := by
  rw [descMoves, h]
  obtain h' | h' := h' <;> rw [h'] <;> simp [TapState.isFault]

/-- The first descriptor of a tap that rests leaves its state (R125). -/
theorem takeDescriptor_first {n d s} (h : otherSerial s.taps[n] d = false) (h' : descMoves s.taps[n] d = false) :
    takeDescriptor n d s = s.modTap n (Tap.takes d) := by
  rw [takeDescriptor_eq, h, h']
  rfl

/-- A descriptor of another serial on a tap it moves: DETECT as a new block, the history void (R126, R132). -/
theorem takeDescriptor_other {n d s} (h : otherSerial s.taps[n] d = true) (h' : descMoves s.taps[n] d = true) :
    takeDescriptor n d s = toDetect n true ((voidHist n s).modTap n (Tap.takes d)) := by
  rw [takeDescriptor_eq, h, h']
  rfl

theorem nextHistory_void {u : State} {n : Fin 32} {q : List BbxItem} {h : HistRec} (hq : u.bbx.queue = q ++ [.hist h])
    (ht : h.tap = n.val) (hv : h.void = true) : nextHistory u n = none := by
  unfold nextHistory histOf
  rw [hq, List.reverse_append, List.reverse_singleton, List.singleton_append, List.findSome?_cons]
  simp only [ht, if_true, Option.orElse_some]
  cases u.taps[n].desc with
  | none => rfl
  | some d => simp only [hv, Bool.true_or, if_true]

/-- Settles O8, from what taking a descriptor does. -/
theorem descriptorIsTakenWhole : Obligations.DescriptorIsTakenWhole := by
  unfold Obligations.DescriptorIsTakenWhole
  intro via args s n ha hw hok hrest hact
  have free : (!descMoves s.taps[n] (descOf args) || unacted s n) = true := by
    rw [show unacted s n = true from decide_eq_true (.inl hact), Bool.or_true]
  have run : applyDescriptor args s = .now 0 [] (byCommand n (takeDescriptor n (descOf args)) s) := by
    obtain rfl := ha.tap
    refine checked_pass ?_
    rw [hw, hok, ha.even, hrest, free]
    rfl
  obtain ⟨hacc, h0, hup, -⟩ := ha
  obtain ⟨r, hr⟩ := byCommand_tap n (takeDescriptor n (descOf args)) s
  have others := (takeDescriptor_but n (descOf args) s).trans (byCommand_but n (takeDescriptor n (descOf args)) s)
  have outside := byCommand_outside n (takeDescriptor n (descOf args)) s
  refine ⟨byCommand n (takeDescriptor n (descOf args)) s, ?_, ?_, rfl, rfl, rfl, others, fun hd hst => ?_, fun d hd hser hst => ?_⟩
  · exact (onCluster_up h0 hup runSetDescriptor).trans (hostCommand_stored hacc rfl run)
  · rw [hr]
    exact takeDescriptor_desc ..
  · have first := takeDescriptor_first (n := n) (s := s) (d := descOf args) (otherSerial_none hd)
      (descMoves_rest (otherSerial_none hd) (by rw [hst]; decide))
    have own : (takeDescriptor n (descOf args) s).taps[n] = s.taps[n].takes (descOf args) := by
      rw [first, State.modTap_taps, if_pos rfl]
    refine ⟨?_, by rw [hr, own]; exact hst, by rw [hr, own]; rfl⟩
    rw [outside, first]
    rfl
  · have other : otherSerial s.taps[n] (descOf args) = true := by
      rw [otherSerial, hd]
      exact bne_iff_ne.mpr hser
    have moved := takeDescriptor_other other (descMoves_other other hst)
    obtain ⟨hdet, -, hnew, -⟩ := toDetect_shows n true ((voidHist n s).modTap n (Tap.takes (descOf args)))
    have queue : (byCommand n (takeDescriptor n (descOf args)) s).bbx.queue = (voidHist n s).bbx.queue := by
      rw [outside, moved, toDetect_outside]
      rfl
    refine ⟨?_, ?_, nextHistory_void (queue.trans rfl) rfl rfl, _, queue.trans rfl, rfl, rfl⟩
    · rw [hr, moved]
      exact hdet
    · rw [hr, moved]
      exact hnew

end Sys2Proof.Machine
end

/-! ## Commands that read -/

section
open Sys2Proof.Claims

namespace Sys2Proof.Machine

theorem notOdd_ok {s : State} {a : List Word} (h : gangedOdd s (tapOf (arg a 0)) = false) : notOdd s a = none := by
  rw [notOdd, h]
  rfl

theorem accepts_of {op via args s} (h : Accepts op via args s) : accepts op via args s = true := by
  obtain ⟨hp, hst, hc0, hw, hg, ho⟩ := h
  rw [accepts, hp, hc0, hw, ho, decide_eq_true hst, decide_eq_true hg, Bool.or_true]
  rfl

section
variable {op : Nat} {via : Via} {args : List Word} {s : State} {run : List Word → State → Reply}

theorem afterHeld_free (h : behind (op, via, args) s = false) : afterHeld op run via args s = hostCommand op run via args s := by
  rw [afterHeld, h]
  simp

theorem afterHeld_waits (ha : Accepts op via args s) (h0 : arg args 0 ≤ 31) (h : behind (op, via, args) s = true) :
    afterHeld op run via args s = .next (hold (op, via, args) s) := by
  rw [afterHeld, if_pos ⟨accepts_of ha, h0, h⟩]

end

/-! ### History -/

/-- The stored records of a tap, the latest first (R127). -/
theorem lastHist_eq (s : State) (n : Fin 32) : lastHist s n =
    (s.bbx.hist.reverse.filter fun h => decide (h.tap = n.val) && (h.okA || h.okB))[0]? := by
  rw [lastHist, ← List.head?_filter, List.head?_eq_getElem?]

theorem noHist_eq {s : State} {n : Fin 32} (h : lastHist s n = none) :
    (s.bbx.hist.reverse.filter fun h => decide (h.tap = n.val) && (h.okA || h.okB)) = [] := by
  rw [lastHist, ← List.head?_filter] at h
  exact List.head?_eq_none_iff.mp h

theorem bit_getLsbD_zero (a b c : Bool) : (word (bit a 0 + bit b 1 + bit c 2)).getLsbD 0 = a := by
  cases a <;> cases b <;> cases c <;> rfl

/-! ### Rods -/

/-- The words of a rod (R265). -/
def rodWords (s : State) (n : Fin 32) (p : Nat) : List Word :=
  let r := s.taps[n].stake.rods[rodOf p]
  wordsOf 2 r.runTime ++ [BitVec.ofInt 16 r.trim, BitVec.ofInt 16 r.temp,
    word ((recent s.sys.uptime 10000 r.trips).length % 256
      + 256 * ((recent s.sys.uptime 10000 r.primTrips).length % 256)), word r.cause]

theorem rodWords_length (s n p) : (rodWords s n p).length = 6 := rfl

theorem flatMap_length_six {f : Nat → List Word} (hf : ∀ i, (f i).length = 6) (k : Nat) :
    ((List.range k).flatMap f).length = 6 * k := by
  induction k with
  | zero => rfl
  | succ k ih => rw [List.range_succ, List.flatMap_append, List.length_append, ih]; simp [hf]; omega

theorem flatMap_range_first {f : Nat → List Word} {k : Nat} (hk : 1 ≤ k) :
    ∃ l, (List.range k).flatMap f = f 0 ++ l := by
  obtain ⟨j, rfl⟩ := Nat.exists_eq_add_of_le' hk
  exact ⟨_, by rw [List.range_succ_eq_map, List.flatMap_cons]⟩

theorem runGetRods_up {a : List Word} {s : State} {n : Fin 32} (h0 : arg a 0 = n.val) (hup : clUp s n = true)
    (hodd : gangedOdd s n = false) (h1 : 1 ≤ arg a 2) (h2 : arg a 2 ≤ 4) (h3 : arg a 1 + arg a 2 ≤ 16) :
    runGetRods a s = doneWith ((List.range (arg a 2)).flatMap fun i => rodWords s n (arg a 1 + i)) s := by
  obtain rfl := tapOf_of_arg h0
  unfold runGetRods
  rw [tapArg_ok h0]
  dsimp only
  rw [hup]
  refine Eq.trans (if_neg (by decide)) (checked_pass ?_)
  rw [rng_ok (Nat.zero_le _) (by omega), rng_ok h1 h2, if_pos h3, notOdd_ok hodd]
  rfl

theorem runGetRods_down {a : List Word} {s : State} {n : Fin 32} (h0 : arg a 0 = n.val) (hup : clUp s n = false) :
    runGetRods a s = deny 0x40 s := by
  obtain rfl := tapOf_of_arg h0
  unfold runGetRods
  rw [tapArg_ok h0]
  dsimp only
  rw [hup]
  rfl

/-! ### Counters -/

theorem shown_restored {s : State} (h : s.mtr.restored = true) : shown s = s.ctrs := if_pos h

theorem levels_toList (v : Vector Nat 4) : v.toList = [v[0], v[1], v[2], v[3]] := by
  refine List.ext_getElem (by simp) fun i hi _ => ?_
  rw [Vector.length_toList] at hi
  rw [Vector.getElem_toList]
  interval_cases i <;> rfl

theorem two_of_drop {l : List Byte} {k : Nat} (h : k + 2 ≤ l.length) : (l.drop k).take 2 = [l.getD k 0, l.getD (k + 1) 0] := by
  rw [List.drop_eq_getElem_cons (by omega), List.drop_eq_getElem_cons (by omega), List.getD_eq_getElem _ _ (by omega),
    List.getD_eq_getElem _ _ (by omega)]
  rfl

/-- Settles O9, command by command. -/
theorem readsChangeNothingButTheAnswer : Obligations.ReadsChangeNothingButTheAnswer := by
  unfold Obligations.ReadsChangeNothingButTheAnswer
  refine ⟨fun via args s n => ⟨fun d ha h0 hb hodd hd => ?_, fun ha h0 hb hodd hd => ?_, fun h ha h0 hodd h1 hh => ?_,
    fun ha h0 hb => ?_, fun ha h0 hodd h1 hh => ?_, fun ha h0 hb hodd hup h1 h2 h3 => ?_, fun ha h0 hb hup => ?_⟩,
    fun via args s => ⟨fun ha h1 h2 h3 => ?_, fun n ha h0 h1 => ?_, fun n ha h0 h1 hr => ?_, fun x ha h0 h1 hr => ?_,
      fun ha h0 => ?_, fun ha h0 h1 h2 => ?_, fun ha h0 h1 h2 => ?_⟩⟩
  · obtain rfl := tapOf_of_arg h0
    have run : runGetDescriptor args s = doneWith (descWords s (tapOf (arg args 0)) d) s := by
      refine (checked_pass (by rw [tapArg_ok h0, notOdd_ok hodd]; rfl)).trans ?_
      rw [hd]
    refine ⟨_, (afterHeld_free hb).trans (hostCommand_answers ha run), rfl, rfl, rfl, ?_, rfl, rfl⟩
    exact natOf_wordsOf_toNat (k := 4) d.serial (by decide)
  · obtain rfl := tapOf_of_arg h0
    have run : runGetDescriptor args s = deny 0x11 s := by
      refine (checked_pass (by rw [tapArg_ok h0, notOdd_ok hodd]; rfl)).trans ?_
      rw [hd]
    exact (afterHeld_free hb).trans (hostCommand_answers ha run)
  · obtain rfl := tapOf_of_arg h0
    rw [lastHist_eq] at hh
    have run : runGetHistory args s = doneWith ([word (bit h.void 0 + bit h.cap.isSome 1 + bit h.cup.isSome 2)]
        ++ wordsOf 4 h.serial.toNat ++ [word (h.cap.getD 0), word (h.cup.getD (0, 0, 0)).1, word (h.cup.getD (0, 0, 0)).2.1]
        ++ wordsOf 2 (h.cup.getD (0, 0, 0)).2.2 ++ wordsOf 4 h.cupTime ++ wordsOf 4 h.capTime) s := by
      refine (checked_pass (by rw [tapArg_ok h0, notOdd_ok hodd, rng_ok (Nat.zero_le _) (by omega)]; rfl)).trans ?_
      rw [h1, hh]
    exact ⟨_, hostCommand_answers ha run, bit_getLsbD_zero .., natOf_wordsOf_toNat (k := 4) h.serial (by decide), rfl⟩
  · exact afterHeld_waits ha (by omega) hb
  · obtain rfl := tapOf_of_arg h0
    have run : runGetHistory args s = deny 0x22 s := by
      refine (checked_pass (by rw [tapArg_ok h0, notOdd_ok hodd, rng_ok (Nat.zero_le _) h1]; rfl)).trans ?_
      rw [noHist_eq hh]
      rfl
    exact hostCommand_answers ha run
  · refine ⟨_, (afterHeld_free hb).trans (hostCommand_answers ha (runGetRods_up h0 hup hodd h1 h2 h3)),
      flatMap_length_six (fun _ => rodWords_length ..) _, fun p hp => ?_⟩
    obtain ⟨l, hl⟩ := flatMap_range_first (f := fun i => rodWords s n (arg args 1 + i)) h1
    have rod : rodOf (arg args 1 + 0) = p := by
      apply Fin.ext
      rw [Nat.add_zero, ← hp]
      exact Nat.mod_eq_of_lt p.isLt
    subst rod
    rw [hl, rodWords]
    exact ⟨rfl, rfl⟩
  · exact (afterHeld_free hb).trans (hostCommand_answers ha (runGetRods_down h0 hup))
  · exact hostCommand_answers ha (run := runSetLossCap) (checked_pass (by
      rw [wordsLossCap, rng_ok h1 h2, decide_eq_true h3]
      rfl))
  · obtain rfl := tapOf_of_arg h0
    have run := checked_pass (cs := [tapArg args, rng 1 3 (arg args 1), if arg args 0 + arg args 1 ≤ 32 then none else some 0x22])
      (s := s) (k := doneWith ((List.range (arg args 1)).flatMap fun i =>
        let t := s.taps[tapOf (arg args 0 + i)]
        [word t.request] ++ t.levels.toList.map word ++ [word t.grant] ++ wordsOf 2 t.eRem) s) (by
        rw [tapArg_ok h0, h1, if_pos (by omega)]
        rfl)
    refine ⟨_, hostCommand_answers ha (run := runGetDoses) run, ?_⟩
    rw [h1, List.range_one, List.flatMap_singleton]
    dsimp only
    rw [levels_toList]
    rfl
  · obtain rfl := tapOf_of_arg h1
    have run : runMtrRead args s = doneWith ((tapCtrs s.ctrs.taps[tapOf (arg args 1)]).flatMap words64) s := by
      unfold runMtrRead
      rw [h0, shown_restored hr]
      exact checked_pass (by rw [rng_ok (v := arg args 1) (Nat.zero_le _) (by omega)]; rfl)
    exact ⟨_, hostCommand_answers ha run, rfl, natOf_wordsOf_toNat (k := 4) _ (by decide),
      natOf_wordsOf_toNat (k := 4) _ (by decide), natOf_wordsOf_toNat (k := 4) _ (by decide)⟩
  · obtain rfl := portOf_of_arg h1
    have run : runMtrRead args s = doneWith (words64 s.ctrs.ports[portOf (arg args 1)].eIn.val ++
        words64 s.ctrs.ports[portOf (arg args 1)].qIn.val) s := by
      have range : rng 0 3 (arg args 1) = none := rng_ok (Nat.zero_le _) (by omega)
      unfold runMtrRead
      rw [h0, shown_restored hr]
      dsimp only
      exact checked_pass (by rw [range]; rfl)
    exact ⟨_, hostCommand_answers ha run, rfl, natOf_wordsOf_toNat (k := 4) _ (by decide),
      natOf_wordsOf_toNat (k := 4) _ (by decide)⟩
  · refine ⟨_, hostCommand_answers ha (run := runGetPubkey) (checked_pass (by rw [rng_ok (Nat.zero_le _) h0]; rfl)), ?_, ?_⟩
    · split <;> rfl
    · split <;> rfl
  · have stmt : s.mtr.stmt.isEmpty = false := by
      cases hs : s.mtr.stmt with
      | nil => rw [hs] at h2; exact absurd h2 (by simp)
      | cons => rfl
    have run : runReadStatement args s = doneWith (pairs ((s.mtr.stmt.drop (arg args 0)).take (arg args 1))) s :=
      checked_pass (by rw [decide_eq_true h0, h1, stmt, if_pos h2]; rfl)
    rw [h1, two_of_drop h2] at run
    exact hostCommand_answers ha run
  · have run : runReadStatement args s = deny 0x11 s := by
      refine checked_fail ?_
      rw [decide_eq_true h0, h1, h2]
      rfl
    exact hostCommand_answers ha run

end Sys2Proof.Machine
end

/-! ## `TAP_FORGET` and a record larger than its ring -/

section
open Sys2Proof.Claims

namespace Sys2Proof.Machine

/-- A history record whose mismatches took as many slots as the history ring has (R338, R342). -/
def spoiledRecord : HistRec := { okA := false, okB := false, spoil := Config.histSlots }

/-- That record at the front of the write queue, of a `TAP_FORGET` on tap 0. -/
def spoiledQueue : State :=
  { State.reset with
    taps := State.reset.taps.set 0 { (State.reset.taps[0]) with desc := some .reset }
    bbx := { queue := [.hist spoiledRecord], forgets := [(0, 0, .own)] } }

/-- The ring has no room for the record: it is dropped as it is written (R338). -/
theorem spoiledQueue_writes : ∃ t, exec (.bbxRecordWrite false false) spoiledQueue = .next t ∧ t.bbx.hist = [] :=
  ⟨_, rfl, by decide⟩

/-- Refutes O10: the statement has the record of a `TAP_FORGET` last in the history ring once it is written, but the ring
drops its oldest records until the rest fits, and a record that has taken all its 2048 slots by mismatches does not fit. -/
theorem not_tapCommandsMoveTheTap : ¬ Obligations.TapCommandsMoveTheTap := by
  unfold Obligations.TapCommandsMoveTheTap
  intro h
  obtain ⟨-, -, -, -, hwrite⟩ := h.2 .own [] spoiledQueue 0 .reset rfl
  obtain ⟨⟨t, ht, -, -, hlast, -⟩, -⟩ := hwrite spoiledRecord [] rfl rfl rfl rfl rfl rfl rfl rfl rfl
  obtain ⟨u, hu, hempty⟩ := spoiledQueue_writes
  rw [hu] at ht
  injection ht with ht
  rw [← ht, hempty] at hlast
  exact nomatch hlast

end Sys2Proof.Machine
end

/-! ## Stand-in from the bypass -/

section
open Sys2Proof.Claims

namespace Sys2Proof.Machine

/-! ### What a rating rests on -/

theorem healthy_rodsOff (k : Stake) : (rodsOff k).healthy = k.healthy := by
  unfold Stake.healthy rodsOff
  dsimp only
  rw [Vector.toList_map, List.filter_map, List.length_map]
  rfl

theorem healthy_halt (k : Stake) : k.halt.healthy = k.healthy := healthy_rodsOff k

/-- What a tap's rating rests on (R88, R89). -/
def Tap.able (t : Tap) : Nat × Bool × Bool := (t.stake.healthy, t.stake.withdrawn, t.cfg.gang)

theorem able_eq {t u : Tap} : t.able = u.able ↔
    t.stake.healthy = u.stake.healthy ∧ t.stake.withdrawn = u.stake.withdrawn ∧ t.cfg.gang = u.cfg.gang := by
  simp [Tap.able]

theorem retarget_able (n s) : Kept Tap.able s (retarget n s) := by
  unfold retarget
  exact .modTap (by exact fun _ => rfl) s

theorem halt_able (t : Tap) : Tap.able { t with stake := t.stake.halt } = t.able :=
  able_eq.mpr ⟨healthy_halt _, rfl, rfl⟩

theorem stopStake_able (n s) : Kept Tap.able s (stopStake n s) := ⟨fun m => by
  rw [stopStake_taps]
  split_ifs with h
  · rw [h]
    exact able_eq.mpr ⟨healthy_halt _, rfl, rfl⟩
  · exact halt_able _
  · rfl⟩

theorem suspend_able (n cause s) : Kept Tap.able s (suspend n cause s) := by
  obtain ⟨u, hu, rfl⟩ := suspend_eq n cause s
  exact ((stopStake_able n s).trans (.modTap (by exact fun _ => rfl) _)).trans (.of_reports hu)

theorem toStandIn_able (n s) : Kept Tap.able s (toStandIn n s) := by
  obtain ⟨u, hu, he⟩ := toStandIn_eq n s
  rw [he]
  exact (Kept.trans (.modTap (by exact fun _ => rfl) _) (.of_reports hu)).trans (retarget_able ..)

theorem pairSum_of_able {s u n} (h : Kept Tap.able s u) : pairSum u n = pairSum s n := by
  have gang := (able_eq.mp (h.same n)).2.2
  have each (m : Fin 32) : min 15 u.taps[m].stake.healthy = min 15 s.taps[m].stake.healthy := by
    rw [(able_eq.mp (h.same m)).1]
  unfold pairSum mates
  rw [gang]
  exact congrArg List.sum (List.map_congr_left fun m _ => each m)

theorem rating_of_able {s u n} (h : Kept Tap.able s u) : rating u n = rating s n := by
  obtain ⟨health, -, gang⟩ := able_eq.mp (h.same n)
  have each : (fun m : Fin 32 => u.taps[m].stake.withdrawn) = fun m : Fin 32 => s.taps[m].stake.withdrawn :=
    funext fun m => (able_eq.mp (h.same m)).2.1
  unfold rating
  rw [pairSum_of_able h, health, gang, each]
  unfold mates
  rw [gang]

/-! ### A start request of a single stake -/

/-- A tap whose start begins with its test (R101, R109). -/
def Tap.pretests (t : Tap) : Tap :=
  { t with stake := { t.stake with
      testing := true, start := .pretest, softStart := true, refReached := false, bypRamp := false, bypassed := false
      fromBypass := t.stake.fromBypass || (decide (t.state = .standIn) && t.stake.slotByp && t.stake.slotFb) } }

/-- A tap whose start is refused (R61). -/
def Tap.refuses (t : Tap) : Tap := { t with stake := { t.stake with start := .off, softStart := false } }

theorem reversed_single {s : State} {n : Fin 32} (h : s.taps[n].cfg.gang = false) :
    reversed s n = decide (s.taps[n].vPair < -1000) := by
  rw [reversed, mates_single h, List.any_cons, List.any_nil, Bool.or_false]

section
variable {s : State} {n : Fin 32} (hg : s.taps[n].cfg.gang = false) (hr : (rating s n).1 ≠ 0)
include hg

theorem requestStart_refused (h : s.taps[n].vPair < -1000 ∨ mayStart s = false) : requestStart n s = s.modTap n Tap.refuses := by
  unfold requestStart
  dsimp only
  rw [reversed_single hg, if_pos]
  · rfl
  · obtain h | h := h <;> simp [-Fin.getElem_fin, h]

include hr in
theorem requestStart_tests (h : ¬(s.taps[n].vPair < -1000 ∨ mayStart s = false)) :
    requestStart n s = wakeFor n (s.modTap n Tap.pretests) := by
  obtain ⟨hv, hm⟩ := not_or.mp h
  have test : onMates n (fun k => { k with testing := true }) s = s.modTap n fun t => { t with stake := { t.stake with testing := true } } := by
    rw [onMates, mates_single hg]
    rfl
  unfold requestStart
  dsimp only
  rw [reversed_single hg, if_neg (by simpa [-Fin.getElem_fin] using ⟨Int.not_lt.mp hv, eq_true_of_ne_false hm⟩), hg, Bool.false_and, if_neg Bool.false_ne_true, if_neg hr, test,
    modTap_modTap]
  rfl

end

/-! ### The command -/

/-- The state in which a stand-in from the bypass requests its start (R109). -/
def entersBypassed (n : Fin 32) (auto : Bool) (s : State) : State :=
  (toStandIn n s).modStake n fun k => { k with attempts := 0, fromBypass := true, autoReturned := auto }

theorem entersBypassed_able (n auto s) : Kept Tap.able s (entersBypassed n auto s) := by
  unfold entersBypassed State.modStake
  exact (toStandIn_able n s).trans (.modTap (by exact fun _ => rfl) _)

theorem entersBypassed_but (n auto s) : TapsBut n s (entersBypassed n auto s) :=
  (toStandIn_but n s).trans (.modTap _ _ _)

/-- What a stand-in from the bypass shows as it requests its start. -/
theorem entersBypassed_shows (n auto s) : (entersBypassed n auto s).taps[n].state = .standIn ∧
    (entersBypassed n auto s).taps[n].stake.fromBypass = true ∧
    (entersBypassed n auto s).taps[n].stake.autoReturned = auto ∧
    (entersBypassed n auto s).taps[n].stake.sw = s.taps[n].stake.sw ∧
    (entersBypassed n auto s).taps[n].vPair = s.taps[n].vPair := by
  obtain ⟨g, follows, h⟩ := toStandIn_tap n s
  unfold entersBypassed
  rw [State.modStake_taps, if_pos rfl, h]
  simp [Tap.standsIn, Stake.fresh]

theorem fromBypass_eq (n auto s) : fromBypass n auto s = requestStart n (entersBypassed n auto s) := rfl

/-- What `TAP_STAND_IN` begins on a single stake with a rating (R101, R109). -/
theorem fromBypass_acts {n auto s} (hg : s.taps[n].cfg.gang = false) (hr : (rating s n).1 ≠ 0) :
    (fromBypass n auto s).taps[n].state = .standIn ∧ (fromBypass n auto s).taps[n].stake.fromBypass = true ∧
    (fromBypass n auto s).taps[n].stake.start =
      (if s.taps[n].vPair < -1000 ∨ mayStart s = false then .off else .pretest) ∧
    (fromBypass n auto s).taps[n].stake.sw = s.taps[n].stake.sw ∧
    (fromBypass n auto s).taps[n].stake.autoReturned = auto ∧ TapsBut n s (fromBypass n auto s) ∧
    fromBypass n auto s = { s with
      taps := (fromBypass n auto s).taps, alr := (fromBypass n auto s).alr, bus := (fromBypass n auto s).bus
      sys := (fromBypass n auto s).sys } := by
  have able := entersBypassed_able n auto s
  have others := entersBypassed_but n auto s
  obtain ⟨hst, hfrom, hauto, hsw, hv⟩ := entersBypassed_shows n auto s
  have gang := (able_eq.mp (able.same n)).2.2.trans hg
  have rated : (rating (entersBypassed n auto s) n).1 ≠ 0 := by rwa [rating_of_able able]
  have may : mayStart (entersBypassed n auto s) = mayStart s := by simp [mayStart, entersBypassed]
  have outside : entersBypassed n auto s = { s with
      taps := (entersBypassed n auto s).taps, alr := (entersBypassed n auto s).alr, bus := (entersBypassed n auto s).bus } := by
    unfold entersBypassed
    apply State.ext_parts <;> simp
  rw [fromBypass_eq]
  generalize entersBypassed n auto s = u at *
  rw [← hv, ← may]
  by_cases h : u.taps[n].vPair < -1000 ∨ mayStart u = false
  · rw [requestStart_refused gang h, if_pos h, State.modTap_taps, if_pos rfl]
    refine ⟨hst, hfrom, rfl, hsw, hauto, others.trans (.modTap _ _ _), ?_⟩
    rw [outside]
    rfl
  · have taps := wakeFor_taps n (u.modTap n Tap.pretests)
    rw [requestStart_tests gang rated h, if_neg h, taps, State.modTap_taps, if_pos rfl]
    refine ⟨hst, by simp [-Fin.getElem_fin, Tap.pretests, hfrom], rfl, hsw, hauto, (others.trans (.modTap _ _ _)).trans (.of_taps taps), ?_⟩
    rw [outside]
    unfold wakeFor
    split <;> rfl

end Sys2Proof.Machine
end

/-! ## Ganged pairs -/

section
open Sys2Proof.Claims

namespace Sys2Proof.Machine

/-! ### The pair -/

section
variable {s : State} {n : Fin 32} (he : n.val % 2 = 0)
include he

theorem partner_val : (partner n).val = n.val + 1 := by
  unfold partner
  rw [if_pos he]
  exact Nat.mod_eq_of_lt (by omega)

theorem partner_ne : partner n ≠ n := fun h => by
  have := congrArg Fin.val h
  rw [partner_val he] at this
  omega

theorem mates_head (h : s.taps[n].cfg.gang = true) : mates s n = [n, partner n] := by
  unfold mates
  rw [h, if_pos rfl]
  refine congrArg₂ (fun a b => [a, b]) (Fin.ext ?_) (Fin.ext ?_)
  · dsimp only
    omega
  · rw [partner_val he]
    dsimp only
    omega

theorem mates_partner (h : s.taps[partner n].cfg.gang = true) : mates s (partner n) = [n, partner n] := by
  have val := partner_val he
  unfold mates
  rw [h, if_pos rfl]
  refine congrArg₂ (fun a b => [a, b]) (Fin.ext ?_) (Fin.ext ?_)
  all_goals
    dsimp only
    omega

theorem headTap_head (h : s.taps[n].cfg.gang = true) : headTap s n = n := by
  unfold headTap
  rw [h, if_pos rfl]
  apply Fin.ext
  dsimp only
  omega

theorem headTap_partner (h : s.taps[partner n].cfg.gang = true) : headTap s (partner n) = n := by
  unfold headTap
  rw [h, if_pos rfl]
  apply Fin.ext
  have := partner_val he
  dsimp only
  omega

end

theorem headTap_single {s : State} {n : Fin 32} (h : s.taps[n].cfg.gang = false) : headTap s n = n := by
  unfold headTap
  rw [h]
  rfl

/-! ### Withdrawal -/

/-- Every stake that acts with the head tap is withdrawn. -/
def goneAll (s : State) (n : Fin 32) : Bool := (mates s (headTap s n)).all fun m => s.taps[m].stake.withdrawn

/-- The stakes of a tap are marked as withdrawn. -/
def marked (n : Fin 32) (s : State) : State := onMates n (fun k => { k with withdrawn := true }) s

theorem withdraw_gone {n s} (h : goneAll s n = true) : withdraw n s = s := if_pos h

theorem withdraw_taps {n s} (h : goneAll s n = false) : (withdraw n s).taps =
    (if TapState.yields s.taps[headTap s n].state then suspend (headTap s n) 6 (marked (headTap s n) s)
      else stopStake (headTap s n) (marked (headTap s n) s)).taps := by
  have state : (marked (headTap s n) s).taps[headTap s n].state = s.taps[headTap s n].state := by
    rw [marked, onMates_taps]
    split <;> rfl
  unfold withdraw
  dsimp only
  rw [if_neg (by rw [← goneAll]; exact Bool.eq_false_iff.mp h)]
  rw [withFlt, (fltSince_keeps ..).2.2.2.1]
  unfold marked at state ⊢
  rw [state]
  split
  · rfl
  · simp

/-- A withdrawal changes the taps and reports. -/
theorem withdraw_outside (n s) : withdraw n s = { s with
    taps := (withdraw n s).taps, alr := (withdraw n s).alr, bus := (withdraw n s).bus, shown := (withdraw n s).shown } := by
  unfold withdraw
  dsimp only
  split
  · rfl
  · apply State.ext_parts <;> simp [withFlt] <;> split <;> simp

theorem marked_tapOp (n s) : TapOp n s (marked n s) := .onMates ..

theorem withdraw_tapOp {n s} : TapOp (headTap s n) s (withdraw n s) := by
  by_cases h : goneAll s n = true
  · rw [withdraw_gone h]
    exact .refl ..
  · unfold withdraw
    dsimp only
    rw [if_neg (by rw [← goneAll]; exact h)]
    refine TapOp.withFlt ?_
    exact (TapOp.onMates ..).trans (.ite (suspend_tapOp ..) ((stopStake_tapOp ..).trans (.alert ..)))

theorem withdrawUnrated_outside (n s) : withdrawUnrated n s = { s with
    taps := (withdrawUnrated n s).taps, alr := (withdrawUnrated n s).alr, bus := (withdrawUnrated n s).bus
    shown := (withdrawUnrated n s).shown } := by
  unfold withdrawUnrated
  split
  · exact withdraw_outside n s
  · rfl

/-! ### A pair that acts together -/

section
variable {s : State} {n : Fin 32} (he : n.val % 2 = 0) (hn : s.taps[n].cfg.gang = true)
  (hm : s.taps[partner n].cfg.gang = true)
include he hn

theorem goneAll_head : goneAll s n = (s.taps[n].stake.withdrawn && s.taps[partner n].stake.withdrawn) := by
  rw [goneAll, headTap_head he hn, mates_head he hn, List.all_cons, List.all_cons, List.all_nil, Bool.and_true]

include hm

theorem goneAll_partner : goneAll s (partner n) = goneAll s n := by
  rw [goneAll_head he hn, goneAll, headTap_partner he hm, mates_head he hn, List.all_cons, List.all_cons, List.all_nil, Bool.and_true]

theorem pairSum_partner : pairSum s (partner n) = pairSum s n := by
  unfold pairSum
  rw [mates_head he hn, mates_partner he hm]

theorem unrated_pair : unrated s n = decide (pairSum s n < 8) ∧ unrated s (partner n) = decide (pairSum s n < 8) := by
  unfold unrated
  rw [hn, hm, if_pos rfl, if_pos rfl, pairSum_partner he hn hm]
  exact ⟨rfl, rfl⟩

end

/-- Both stakes of a pair hold their marks after its withdrawal. -/
theorem withdraw_marks {s : State} {n : Fin 32} (h : goneAll s n = false) :
    ∀ m ∈ mates s (headTap s n), (withdraw n s).taps[m].stake.withdrawn = true := by
  intro m hm
  have mark : (marked (headTap s n) s).taps[m].stake.withdrawn = true := by rw [marked, onMates_taps, if_pos hm]
  rw [withdraw_taps h]
  split
  · exact (able_eq.mp ((suspend_able ..).same m)).2.1.trans mark
  · exact (able_eq.mp ((stopStake_able ..).same m)).2.1.trans mark

theorem withdraw_gang (s n) (m : Fin 32) : (withdraw n s).taps[m].cfg.gang = s.taps[m].cfg.gang := by
  cases h : goneAll s n with
  | true => rw [withdraw_gone h]
  | false =>
    have mark : (marked (headTap s n) s).taps[m].cfg.gang = s.taps[m].cfg.gang := by
      rw [marked, onMates_taps]
      split <;> rfl
    rw [withdraw_taps h]
    split
    · exact (able_eq.mp ((suspend_able ..).same m)).2.2.trans mark
    · exact (able_eq.mp ((stopStake_able ..).same m)).2.2.trans mark

theorem withdraw_healthy (s n) (m : Fin 32) : (withdraw n s).taps[m].stake.healthy = s.taps[m].stake.healthy := by
  cases h : goneAll s n with
  | true => rw [withdraw_gone h]
  | false =>
    have mark : (marked (headTap s n) s).taps[m].stake.healthy = s.taps[m].stake.healthy := by
      rw [marked, onMates_taps]
      split <;> rfl
    rw [withdraw_taps h]
    split
    · exact (able_eq.mp ((suspend_able ..).same m)).1.trans mark
    · exact (able_eq.mp ((stopStake_able ..).same m)).1.trans mark

theorem withdraw_state (s n) (m : Fin 32) (hm : m ≠ headTap s n) : (withdraw n s).taps[m].state = s.taps[m].state := by
  cases h : goneAll s n with
  | true => rw [withdraw_gone h]
  | false =>
    have mark : (marked (headTap s n) s).taps[m].state = s.taps[m].state := by
      rw [marked, onMates_taps]
      split <;> rfl
    have stop : (stopStake (headTap s n) (marked (headTap s n) s)).taps[m].state = s.taps[m].state := by
      rw [stopStake_taps, if_neg hm]
      split <;> exact mark
    have susp : (suspend (headTap s n) 6 (marked (headTap s n) s)).taps[m].state = s.taps[m].state := by
      rwa [suspend_taps, State.modTap_taps, if_neg hm]
    rw [withdraw_taps h]
    split
    · exact susp
    · exact stop

theorem withdraw_pairSum (s n) (m : Fin 32) : pairSum (withdraw n s) m = pairSum s m := by
  unfold pairSum mates
  rw [withdraw_gang]
  exact congrArg List.sum (List.map_congr_left fun i _ => by rw [withdraw_healthy])

/-- What the withdrawal of both taps of a pair makes of it (R88, R89). -/
theorem withdraw_pair {s : State} {n : Fin 32} (he : n.val % 2 = 0) (hn : s.taps[n].cfg.gang = true)
    (hm : s.taps[partner n].cfg.gang = true) : withdrawUnrated (partner n) (withdrawUnrated n s) =
      if pairSum s n < 8 then withdraw n s else s := by
  obtain ⟨un, up⟩ := unrated_pair he hn hm
  unfold withdrawUnrated
  by_cases h : pairSum s n < 8
  · have gn := (withdraw_gang s n n).trans hn
    have gm := (withdraw_gang s n (partner n)).trans hm
    obtain ⟨-, up'⟩ := unrated_pair he gn gm
    rw [un, decide_eq_true h, if_pos rfl, up', withdraw_pairSum, decide_eq_true h, if_pos rfl, if_pos h]
    refine withdraw_gone ?_
    rw [goneAll_partner he gn gm, goneAll_head he gn]
    cases hg : goneAll s n with
    | true => rwa [withdraw_gone hg, ← goneAll_head he hn]
    | false =>
      have marks := withdraw_marks hg
      rw [headTap_head he hn, mates_head he hn] at marks
      rw [marks n (by simp), marks (partner n) (by simp)]
      rfl
  · rw [un, decide_eq_false h, if_neg Bool.false_ne_true, up, decide_eq_false h, if_neg Bool.false_ne_true, if_neg h]

/-! ### Release from a recipe -/

theorem rcpRelease_but (n s) : TapsBut n s (rcpRelease n s) := by
  unfold rcpRelease
  dsimp only
  exact .ite ((TapsBut.modTap _ _ _).trans (retarget_but _ _)) (.modTap _ _ _)

theorem ungovern_but (n s) : TapsBut n s (ungovern n s) := by
  unfold ungovern
  split
  · refine TapsBut.trans ?_ (rcpRelease_but _ _)
    exact .of_taps rfl
  · exact .refl _ _

/-- The state a tap is in, and what its rating rests on. -/
def Tap.stands (t : Tap) : TapState × Nat × Bool × Bool := (t.state, t.able)

theorem ungovern_stands (n s) : Kept Tap.stands s (ungovern n s) := by
  have released (u) : Kept Tap.stands u (rcpRelease n u) := by
    unfold rcpRelease retarget
    dsimp only
    exact .ite (Kept.trans (.modTap (by exact fun _ => rfl) _) (.modTap (by exact fun _ => rfl) _))
      (.modTap (by exact fun _ => rfl) _)
  unfold ungovern
  split
  · refine Kept.trans ?_ (released _)
    exact .of_taps rfl
  · exact .refl _ _

theorem ungovern_outside (n s) : ungovern n s = { s with
    taps := (ungovern n s).taps, rcp := { s.rcp with mask := (ungovern n s).rcp.mask } } := by
  unfold ungovern rcpRelease retarget
  dsimp only
  split
  · split <;> rfl
  · rfl

/-! ### The command -/

theorem arg_withArg1 {a : List Word} (v) (h : arg a 1 < 2) : withArg1 v a = argW a 0 :: word v :: a.drop 2 := if_neg (by omega)

/-- The words with ARG1 set still name the tap, and their command is accepted where the other is. -/
theorem gangWords {via : Via} {a : List Word} {s : State} (v : Nat) (h1 : arg a 1 < 2) :
    arg (withArg1 v a) 0 = arg a 0 ∧ (Accepts 0x0314 via a s → Accepts 0x0314 via (withArg1 v a) s) := by
  have first : arg (withArg1 v a) 0 = arg a 0 := by rw [arg_withArg1 v h1]; rfl
  refine ⟨first, fun ⟨hp, hst, hc, hw, hg, ho⟩ => ⟨hp, hst, hc, hw, hg, ?_⟩⟩
  have core : ownerCore 0x0314 (withArg1 v a) = ownerCore 0x0314 a := by simp only [ownerCore, first]
  rwa [ownerUp, core]

/-- A tap whose pair forms or dissolves (R63). -/
def Tap.ganged (g : Bool) (t : Tap) : Tap := { t with cfg := { t.cfg with gang := g }, stake := t.stake.untest }

/-- The two taps of a pair take the mark of one. -/
def gangs (g : Bool) (n : Fin 32) (s : State) : State :=
  let s := (s.modStake n Stake.untest).modStake (partner n) Stake.untest
  (s.modCfg n fun c => { c with gang := g }).modCfg (partner n) fun c => { c with gang := g }

theorem gangs_taps {n : Fin 32} (he : n.val % 2 = 0) (g s) (m : Fin 32) : (gangs g n s).taps[m] =
    if m = n ∨ m = partner n then s.taps[m].ganged g else s.taps[m] := by
  have ne := partner_ne he
  unfold gangs
  dsimp only
  simp only [State.modCfg_taps, State.modStake_taps]
  by_cases hn : m = n
  · subst hn
    simp [Ne.symm ne, Tap.ganged]
  · by_cases hm : m = partner n
    · subst hm
      simp [ne, Tap.ganged]
    · simp [hn, hm]

theorem gangs_outside (g n s) : gangs g n s = { s with taps := (gangs g n s).taps } := rfl

/-- A pair as it forms, before it is judged (R63, R136). -/
def formed (n : Fin 32) (s : State) : State :=
  gangs true n (ungovern (partner n) (ungovern n (toAbsent (partner n) s)))

section
variable {a : List Word} {s : State} {n : Fin 32} (h0 : arg a 0 = n.val) (he : n.val % 2 = 0)
  (hsn : s.taps[n].cfg.share = 0) (hsm : s.taps[partner n].cfg.share = 0) (hcn : s.taps[n].stake.conv = false)
  (hcm : s.taps[partner n].stake.conv = false) (hwn : s.taps[n].stake.sw = false)
  (hwm : s.taps[partner n].stake.sw = false)
include h0 he

theorem runSetGang_beyond (h1 : 2 ≤ arg a 1) : runSetGang a s = deny 0x22 s := by
  have even : decide (arg a 0 % 2 = 0) = true := decide_eq_true (by rw [h0]; exact he)
  refine checked_fail ?_
  rw [wordsGang, tapArg_ok h0, even, rng_out (v := arg a 1) (by omega)]
  rfl

include hsn hsm hcn hcm hwn hwm

theorem runSetGang_forms (h1 : arg a 1 = 1) (hok : gangOk s n (partner n) = true) (hg : s.taps[n].cfg.gang = false) :
    runSetGang a s = done (withdrawUnrated (partner n) (withdrawUnrated n (formed n s))) := by
  obtain rfl := tapOf_of_arg h0
  unfold runSetGang
  dsimp only
  rw [decide_eq_true h1, hg, hok, hcn, hcm, hwn, hwm, decide_eq_true ⟨hsn, hsm⟩]
  refine (checked_pass ?_).trans rfl
  rw [wordsGang, tapArg_ok h0, decide_eq_true (by rw [h0]; exact he), h1]
  rfl

theorem runSetGang_dissolves (h1 : arg a 1 = 0) :
    runSetGang a s = done (withdrawUnrated (partner n) (withdrawUnrated n (gangs false n s))) := by
  obtain rfl := tapOf_of_arg h0
  have form : decide (arg a 1 = 1) = false := decide_eq_false (by omega)
  unfold runSetGang
  dsimp only
  rw [form, hcn, hcm, hwn, hwm, decide_eq_true ⟨hsn, hsm⟩]
  refine (checked_pass ?_).trans rfl
  rw [wordsGang, tapArg_ok h0, decide_eq_true (by rw [h0]; exact he), h1]
  rfl

end

/-! ### What forming leaves -/

theorem ganged_stands (g) (t : Tap) : (t.ganged g).state = t.state ∧ (t.ganged g).stake.healthy = t.stake.healthy ∧
    (t.ganged g).stake.withdrawn = t.stake.withdrawn ∧ (t.ganged g).cfg.gang = g := by
  unfold Tap.ganged Stake.untest
  split <;> exact ⟨rfl, rfl, rfl, rfl⟩

section
variable {s : State} {n : Fin 32} (he : n.val % 2 = 0) (hg : s.taps[partner n].cfg.gang = false)
include he

theorem formed_gang : (formed n s).taps[n].cfg.gang = true ∧ (formed n s).taps[partner n].cfg.gang = true := by
  unfold formed
  rw [gangs_taps he, gangs_taps he, if_pos (.inl rfl), if_pos (.inr rfl)]
  exact ⟨rfl, rfl⟩

theorem formed_partner : (formed n s).taps[partner n].state = .absent := by
  have absent : (toAbsent (partner n) s).taps[partner n].state = .absent := by rw [toAbsent_tap]; rfl
  have stands := ((ungovern_stands n _).trans (ungovern_stands (partner n) _)).same (s := toAbsent (partner n) s) (partner n)
  unfold formed
  rw [gangs_taps he, if_pos (.inr rfl), (ganged_stands ..).1]
  exact (congrArg Prod.fst stands).trans absent

include hg

theorem formed_head : (formed n s).taps[n].state = s.taps[n].state ∧
    (formed n s).taps[n].stake.withdrawn = s.taps[n].stake.withdrawn := by
  have absent : (toAbsent (partner n) s).taps[n] = s.taps[n] :=
    (toAbsent_tapOp (partner n) s).frame.1 n (by rw [mates_single hg]; simpa using (partner_ne he).symm)
  have stands := ((ungovern_stands n _).trans (ungovern_stands (partner n) _)).same (s := toAbsent (partner n) s) n
  rw [absent] at stands
  unfold formed
  rw [gangs_taps he, if_pos (.inl rfl), (ganged_stands ..).1, (ganged_stands ..).2.2.1]
  simp only [Tap.stands, Tap.able, Prod.mk.injEq] at stands
  exact ⟨stands.1, stands.2.2.1⟩

theorem formed_others (m : Fin 32) (hn : m ≠ n) (hm : m ≠ partner n) : (formed n s).taps[m] = s.taps[m] := by
  have absent : (toAbsent (partner n) s).taps[m] = s.taps[m] :=
    (toAbsent_tapOp (partner n) s).frame.1 m (by rw [mates_single hg]; simpa using hm)
  unfold formed
  rw [gangs_taps he, if_neg (not_or.mpr ⟨hn, hm⟩), ungovern_but (partner n) _ m hm, ungovern_but n _ m hn, absent]

end

theorem formed_outside (n s) : formed n s = { s with
    taps := (formed n s).taps, rcp := { s.rcp with mask := (formed n s).rcp.mask } } := by
  have mask (k u) : (ungovern k u).rcp = { u.rcp with mask := (ungovern k u).rcp.mask } := by rw [ungovern_outside k u]
  unfold formed
  rw [gangs_outside]
  apply State.ext_parts <;> simp
  rw [mask, mask n]
  simp

theorem bit_byte (b : Bool) {p : Nat} (h : 8 ≤ p) : bit b p % 256 = 0 := by
  unfold bit
  split
  · obtain ⟨k, rfl⟩ := Nat.exists_eq_add_of_le h
    rw [pow_add]
    exact Nat.mul_mod_right ..
  · rfl

theorem word_low {x y : Nat} (h : x % 256 = y % 256) : (word x).extractLsb' 0 8 = (word y).extractLsb' 0 8 := by
  apply BitVec.eq_of_toNat_eq
  simp only [word, BitVec.extractLsb'_toNat, BitVec.toNat_ofNat, Nat.shiftRight_zero]
  omega

theorem tapReg_low (s n) : (tapReg s n 0).extractLsb' 0 8 =
    (word (tapCode s.taps[headTap s n].state + 16 * s.taps[headTap s n].cause)).extractLsb' 0 8 := by
  unfold tapReg
  dsimp only
  apply word_low
  have := bit_byte (history s n).isSome (p := 8) (by decide)
  have := bit_byte s.taps[n].stretch (p := 11) (by decide)
  have := bit_byte s.taps[n].hostStop (p := 12) (by decide)
  have := bit_byte s.taps[n].cfg.keepEn (p := 13) (by decide)
  omega

/-- The state and cause shown of the odd tap of a pair are tap 2k's (R136). -/
theorem tapReg_pair {t : State} {n : Fin 32} (he : n.val % 2 = 0) (hn : t.taps[n].cfg.gang = true)
    (hm : t.taps[partner n].cfg.gang = true) :
    (tapReg t (partner n) 0).extractLsb' 0 8 = (tapReg t n 0).extractLsb' 0 8 := by
  have same : headTap t (partner n) = headTap t n := (headTap_partner he hm).trans (headTap_head he hn).symm
  simp only [tapReg_low, same]

theorem partner_cases {n m : Fin 32} : m ∉ [n, partner n] ↔ m ≠ n ∧ m ≠ partner n := by simp

/-- What a judged pair shows: its withdrawal where its healthy rods give it no rating (R88, R89). -/
theorem formed_judged {s : State} {n : Fin 32} (he : n.val % 2 = 0) (hg : s.taps[partner n].cfg.gang = false) :
    let t := withdrawUnrated (partner n) (withdrawUnrated n (formed n s))
    t.taps[n].cfg.gang = true ∧ t.taps[partner n].cfg.gang = true ∧ t.taps[partner n].state = .absent ∧
    (8 ≤ pairSum t n → t.taps[n].state = s.taps[n].state) ∧
    (pairSum t n < 8 → s.taps[n].stake.withdrawn = false → (∀ m ∈ mates t n, t.taps[m].stake.withdrawn = true) ∧
      (s.taps[n].state.yields = true → t.taps[n].state = .suspended ∧ t.taps[n].cause = 6)) ∧
    (∀ m : Fin 32, m ≠ n → m ≠ partner n → t.taps[m] = s.taps[m]) := by
  obtain ⟨gn, gm⟩ := formed_gang (s := s) he
  obtain ⟨hst, hwd⟩ := formed_head he hg
  have absent := formed_partner (s := s) he
  have others := formed_others he hg
  dsimp only
  rw [withdraw_pair he gn gm]
  generalize formed n s = u at *
  by_cases hsum : pairSum u n < 8
  · rw [if_pos hsum]
    refine ⟨(withdraw_gang ..).trans gn, (withdraw_gang ..).trans gm, ?_, fun h => ?_, fun _ hw => ?_, fun m hn hm => ?_⟩
    · exact (withdraw_state u n _ (by rw [headTap_head he gn]; exact partner_ne he)).trans absent
    · rw [withdraw_pairSum] at h
      omega
    · have gone : goneAll u n = false := by rw [goneAll_head he gn, hwd, hw]; rfl
      have head := headTap_head he gn
      refine ⟨?_, fun hy => ?_⟩
      · have marks := withdraw_marks gone
        rwa [head, mates_head he gn, ← mates_head he ((withdraw_gang u n n).trans gn)] at marks
      · rw [withdraw_taps gone]
        simp only [head, hst, hy, if_true]
        rw [suspend_tap]
        exact ⟨rfl, rfl⟩
    · refine Eq.trans (withdraw_tapOp.frame.1 m ?_) (others m hn hm)
      rw [headTap_head he gn, mates_head he gn]
      exact partner_cases.mpr ⟨hn, hm⟩
  · rw [if_neg hsum]
    exact ⟨gn, gm, absent, fun _ => hst, fun h => absurd h hsum, others⟩

/-- What judging a stake on its own leaves, and when it is withdrawn (R88). -/
theorem withdrawUnrated_single {s : State} {n : Fin 32} (hg : s.taps[n].cfg.gang = false) :
    TapsBut n s (withdrawUnrated n s) ∧ (withdrawUnrated n s).taps[n].cfg = s.taps[n].cfg ∧
    (4 ≤ s.taps[n].stake.healthy ∨ s.taps[n].stake.withdrawn = true → withdrawUnrated n s = s) ∧
    (s.taps[n].stake.healthy < 4 → (withdrawUnrated n s).taps[n].stake.withdrawn = true) := by
  have head := headTap_single hg
  have rated : unrated s n = decide (s.taps[n].stake.healthy < 4) := by rw [unrated, hg]; rfl
  have gone : goneAll s n = s.taps[n].stake.withdrawn := by
    rw [goneAll, head, mates_single hg, List.all_cons, List.all_nil, Bool.and_true]
  unfold withdrawUnrated
  rw [rated]
  by_cases h : s.taps[n].stake.healthy < 4
  · rw [decide_eq_true h, if_pos rfl]
    refine ⟨fun m hm => withdraw_tapOp.frame.1 m (by rw [head, mates_single hg]; simpa using hm), ?_, fun hw => ?_, fun _ => ?_⟩
    · cases hgone : goneAll s n with
      | true => rw [withdraw_gone hgone]
      | false =>
        have mark : (marked n s).taps[n].cfg = s.taps[n].cfg := by
          rw [marked, onMates_taps]
          split <;> rfl
        rw [withdraw_taps hgone]
        simp only [head]
        split
        · exact ((suspend_settings n 6 _ n).2).trans mark
        · exact ((stopStake_settings n _ n).2).trans mark
    · exact withdraw_gone (gone.trans (hw.resolve_left (by omega)))
    · cases hgone : goneAll s n with
      | true => rw [withdraw_gone hgone, ← gone, hgone]
      | false =>
        have marks := withdraw_marks hgone
        rw [head, mates_single hg] at marks
        exact marks n (by simp)
  · rw [decide_eq_false h, if_neg Bool.false_ne_true]
    exact ⟨.refl _ _, rfl, fun _ => rfl, fun h' => absurd h' h⟩

theorem untest_same {k : Stake} (h : k.start ≠ .pretest) : k.untest = k := if_neg h

/-- What a dissolved pair shows once its stakes are judged (R63, R88). -/
theorem dissolved_judged {s : State} {n : Fin 32} (he : n.val % 2 = 0) :
    let t := withdrawUnrated (partner n) (withdrawUnrated n (gangs false n s))
    (∀ m : Fin 32, (m = n ∨ m = partner n) → t.taps[m].cfg = { s.taps[m].cfg with gang := false } ∧
      (s.taps[m].stake.start ≠ .pretest → (4 ≤ s.taps[m].stake.healthy ∨ s.taps[m].stake.withdrawn = true) →
        t.taps[m] = { s.taps[m] with cfg := t.taps[m].cfg }) ∧
      (s.taps[m].stake.healthy < 4 → t.taps[m].stake.withdrawn = true)) ∧
    (∀ m : Fin 32, m ≠ n → m ≠ partner n → t.taps[m] = s.taps[m]) := by
  have own (m : Fin 32) (hm : m = n ∨ m = partner n) : (gangs false n s).taps[m] = s.taps[m].ganged false := by
    rw [gangs_taps he, if_pos hm]
  have others (m : Fin 32) (hn : m ≠ n) (hm : m ≠ partner n) : (gangs false n s).taps[m] = s.taps[m] := by
    rw [gangs_taps he, if_neg (not_or.mpr ⟨hn, hm⟩)]
  have ne := partner_ne he
  generalize gangs false n s = u at *
  obtain ⟨but, cfg, stays, goes⟩ := withdrawUnrated_single (s := u) (n := n) (by rw [own n (.inl rfl)]; rfl)
  have mate : (withdrawUnrated n u).taps[partner n] = u.taps[partner n] := but _ ne
  obtain ⟨but', cfg', stays', goes'⟩ := withdrawUnrated_single (s := withdrawUnrated n u) (n := partner n)
    (by rw [mate, own _ (.inr rfl)]; rfl)
  rw [mate] at cfg' stays' goes'
  have head : (withdrawUnrated (partner n) (withdrawUnrated n u)).taps[n] = (withdrawUnrated n u).taps[n] := but' _ ne.symm
  dsimp only
  have ganged (m : Fin 32) (hm : m = n ∨ m = partner n) : u.taps[m].cfg = { s.taps[m].cfg with gang := false } ∧
      u.taps[m].stake.healthy = s.taps[m].stake.healthy ∧ u.taps[m].stake.withdrawn = s.taps[m].stake.withdrawn ∧
      (s.taps[m].stake.start ≠ .pretest → u.taps[m] = { s.taps[m] with cfg := u.taps[m].cfg }) := by
    rw [own m hm]
    refine ⟨rfl, (ganged_stands ..).2.1, (ganged_stands ..).2.2.1, fun h => ?_⟩
    unfold Tap.ganged
    rw [untest_same h]
  refine ⟨fun m hm => ?_, fun m hn hm => ?_⟩
  · obtain ⟨gcfg, ghealth, gwd, gsame⟩ := ganged m hm
    rw [← ghealth, ← gwd]
    obtain rfl | rfl := hm
    · rw [head, cfg]
      exact ⟨gcfg, fun h h' => by rw [stays h']; exact gsame h, goes⟩
    · rw [cfg']
      exact ⟨gcfg, fun h h' => by rw [stays' h', mate]; exact gsame h, goes'⟩
  · exact (but' m hm).trans ((but m hn).trans (others m hn hm))

/-- An accepted command for a pair of tap `n`, with ARG1 set (R63, R265). -/
theorem gang_answers {via : Via} {a : List Word} {s : State} {n : Fin 32} {v : Nat} {code res u} (ha : Accepts 0x0314 via a s)
    (h0 : arg a 0 = n.val) (hup : clUp s n = true) (h1 : arg a 1 < 2)
    (hr : runSetGang (withArg1 v a) s = .now code res u) :
    onCluster 0x0314 runSetGang via (withArg1 v a) s = .next (answer via code res u) := by
  obtain ⟨first, acc⟩ := gangWords (via := via) (s := s) v h1
  rw [onCluster_up (first.trans h0) hup]
  exact hostCommand_answers (acc ha) hr

theorem gang_outside {u t : State} {n : Fin 32} (h : t = withdrawUnrated (partner n) (withdrawUnrated n u)) :
    t = { u with taps := t.taps, alr := t.alr, bus := t.bus, shown := t.shown } := by
  rw [h, withdrawUnrated_outside (partner n), withdrawUnrated_outside n]

theorem pairSum_taps {s t : State} (h : t.taps = s.taps) (n) : pairSum t n = pairSum s n := by
  unfold pairSum mates
  rw [h]

theorem mates_taps {s t : State} (h : t.taps = s.taps) (n) : mates t n = mates s n := by
  unfold mates
  rw [h]

/-- Settles O11, from what a stand-in from the bypass begins and what a pair shows once it is judged. -/
theorem standInAndGangCommandsAct : Obligations.StandInAndGangCommandsAct := by
  unfold Obligations.StandInAndGangCommandsAct
  refine ⟨fun via args s n ha hst hfb hsi hr hg hact => ?_, fun via args s n ha h0 hup he hsn hsm hcn hcm hwn hwm =>
    ⟨fun h1 => ?_, fun h1 => ⟨fun hok hgn hgm => ?_, ?_⟩⟩⟩
  · obtain ⟨hin, hfrom, hstart, hsw, hauto, hbut, hframe⟩ := fromBypass_acts (auto := false) hg hr
    obtain ⟨r, hr'⟩ := byCommand_tap n (fromBypass n false) s
    have but := hbut.trans (byCommand_but n (fromBypass n false) s)
    have outside := byCommand_outside n (fromBypass n false) s
    have run : runStandIn args s = accepted (byCommand n (fromBypass n false) s) := by
      have free : unacted s n = true := decide_eq_true (.inl hact)
      have even := ha.even
      have range := ha.inRange
      obtain rfl := ha.tap
      refine checked_pass ?_
      rw [wordsTap, range, even, free, decide_eq_true hst, hfb, hsi, decide_eq_true hr]
      rfl
    refine ⟨_, ha.answers run, ?_⟩
    rw [answer_taps, hr']
    refine ⟨hin, hfrom, hstart, hsw, hauto, ?_, ?_⟩
    · intro m hm
      rw [answer_taps]
      exact but m hm
    · rw [outside, hframe]
      simp only [answer_keeps]
  · refine ⟨?_, ?_⟩
    all_goals
      have same (v) : withArg1 v args = args := if_pos h1
      refine (congrArg (onCluster 0x0314 runSetGang via · s) (same _)).trans ?_
      rw [onCluster_up h0 hup]
      exact hostCommand_answers ha (runSetGang_beyond h0 he h1)
  · have words := arg_withArg1 1 h1
    have run : runSetGang (withArg1 1 args) s = done (withdrawUnrated (partner n) (withdrawUnrated n (formed n s))) :=
      runSetGang_forms ((gangWords (via := via) (s := s) 1 h1).1.trans h0) he hsn hsm hcn hcm hwn hwm (by rw [words]; rfl) hok hgn
    obtain ⟨gn, gm, absent, high, low, others⟩ := formed_judged he hgm
    have outside := gang_outside (u := formed n s) (n := n) rfl
    refine ⟨_, gang_answers ha h0 hup h1 run, ?_⟩
    generalize withdrawUnrated (partner n) (withdrawUnrated n (formed n s)) = u at *
    have taps := answer_taps via 0 [] u
    rw [pairSum_taps taps, mates_taps taps, tapReg_pair he (by rw [taps]; exact gn) (by rw [taps]; exact gm), taps]
    refine ⟨gn, gm, absent, high, low, rfl, others, ?_⟩
    simp only [answer_keeps]
    have base := formed_outside n s
    generalize formed n s = v at *
    have mask : u.rcp.mask = v.rcp.mask := by rw [outside]
    refine congrArg (answer via 0 []) (outside.trans ?_)
    rw [mask, base]
  · have words := arg_withArg1 0 h1
    have run : runSetGang (withArg1 0 args) s = done (withdrawUnrated (partner n) (withdrawUnrated n (gangs false n s))) :=
      runSetGang_dissolves ((gangWords (via := via) (s := s) 0 h1).1.trans h0) he hsn hsm hcn hcm hwn hwm (by rw [words]; rfl)
    obtain ⟨own, others⟩ := dissolved_judged (s := s) he
    have outside := gang_outside (u := gangs false n s) (n := n) rfl
    refine ⟨_, gang_answers ha h0 hup h1 run, ?_⟩
    generalize withdrawUnrated (partner n) (withdrawUnrated n (gangs false n s)) = u at *
    rw [answer_taps]
    refine ⟨own, others, ?_⟩
    simp only [answer_keeps]
    exact congrArg (answer via 0 []) outside

end Sys2Proof.Machine
end

/-! ## Profiles -/

section
open Sys2Proof.Claims

namespace Sys2Proof.Machine

theorem ownerCore_congr {op : Nat} {a b : List Word} (h : arg a 0 = arg b 0) : ownerCore op a = ownerCore op b := by
  simp only [ownerCore, h]

/-! ### The words of an operation -/

section
variable {k : Nat} {a : List Word} (h : arg a 0 / 256 < 4)
include h

theorem withOp_eq : withOp k a = word (k * 256 + arg a 0 % 256) :: a.drop 1 := if_neg (by omega)

theorem withOp_arg (j : Nat) : argW (withOp k a) (j + 1) = argW a (j + 1) := by
  rw [withOp_eq h]
  cases a <;> rfl

theorem withOp_first (hk : k < 4) : arg (withOp k a) 0 = k * 256 + arg a 0 % 256 := by
  rw [withOp_eq h]
  exact Nat.mod_eq_of_lt (by omega)

/-- With the operation set the words name the same profile, and no reserved bit of ARG0 is set (R260). -/
theorem withOp_profile {p : Fin 8} (hk : k < 4) (hp : arg a 0 % 256 = p.val) :
    wordsProfile (withOp k a) = none ∧ field (argW (withOp k a) 0) 0 3 = p.val := by
  have first := withOp_first h hk
  have low : field (argW (withOp k a) 0) 0 3 = p.val := by
    unfold field
    change arg (withOp k a) 0 / 2 ^ 0 % 2 ^ 3 = p.val
    omega
  have high : field (argW (withOp k a) 0) 3 5 = 0 := by
    unfold field
    change arg (withOp k a) 0 / 2 ^ 3 % 2 ^ 5 = 0
    omega
  refine ⟨?_, low⟩
  rw [wordsProfile, rng_ok (v := arg (withOp k a) 0 / 256) (Nat.zero_le _) (by omega), decide_eq_true high]
  rfl

end

/-- `SYS_SET_PROFILE` is C0's, whatever its words. -/
theorem profile_accepts {via : Via} {a b : List Word} {s : State} (h : Accepts 0x010D via a s) : Accepts 0x010D via b s := by
  obtain ⟨hp, hst, hc, hw, hg, ho⟩ := h
  have core : ownerCore 0x010D b = ownerCore 0x010D a := by
    have owner (c : List Word) : ownerCore 0x010D c = 0 := rfl
    rw [owner, owner]
  exact ⟨hp, hst, hc, hw, hg, by rwa [ownerUp, core]⟩

/-- An operation beyond the four is out of range (R260). -/
theorem withOp_beyond {a : List Word} {k : Nat} (h : 4 ≤ arg a 0 / 256) : wordsProfile (withOp k a) = some 0x22 := by
  rw [withOp, if_pos h, wordsProfile, rng_out (v := arg a 0 / 256) (by omega)]
  rfl

theorem workOf_own {a : List Word} {s : State} {k : Nat} {p : Profile} (h : s.vsel.work = some (k, p))
    (hk : field (argW a 0) 0 3 = k) : workOf a s = some p := by
  rw [workOf, h]
  exact if_pos hk.symm

theorem storeProfile_profiles (k : Fin 8) (p : Profile) (s : State) : (storeProfile k.val p s).vsel.profiles[k] = p ∧
    ∀ j : Fin 8, j ≠ k → (storeProfile k.val p s).vsel.profiles[j] = s.vsel.profiles[j] := by
  refine ⟨?_, fun j hj => ?_⟩
  · simp [storeProfile]
  · have other : j.val ≠ k.val := fun h => hj (Fin.ext h)
    simp [storeProfile, other]

/-- Settles O12, operation by operation. -/
theorem profileCommandsEditOneProfile : Obligations.ProfileCommandsEditOneProfile := by
  unfold Obligations.ProfileCommandsEditOneProfile
  intro via args s k ha hk
  refine ⟨fun h => ⟨?_, ?_, ?_, ?_⟩, fun h => ⟨fun run str hrun hstr hw => ?_, fun p hwork hlen hcheck => ?_, fun p hwork => ?_, ?_⟩⟩
  · exact hostCommand_answers (profile_accepts ha) (run := runProfileBegin) (checked_fail (by rw [withOp_beyond h]; rfl))
  · exact hostCommand_answers (profile_accepts ha) (run := runProfileAdd) (checked_fail (by rw [withOp_beyond h]; rfl))
  · exact hostCommand_answers (profile_accepts ha) (run := runProfileStore) (checked_fail (by rw [withOp_beyond h]; rfl))
  · exact hostCommand_answers (profile_accepts ha) (run := runProfileClear) (checked_fail (by rw [withOp_beyond h]; rfl))
  · obtain ⟨words, own⟩ := withOp_profile (k := 0) h (by decide) hk
    have second := withOp_arg (k := 0) h 0
    have low : field (argW args 1) 0 2 = run := by
      unfold field
      change arg args 1 / 2 ^ 0 % 2 ^ 2 = run
      omega
    have mid : field (argW args 1) 2 2 = str := by
      unfold field
      change arg args 1 / 2 ^ 2 % 2 ^ 2 = str
      omega
    have high : field (argW args 1) 4 12 = 0 := by
      unfold field
      change arg args 1 / 2 ^ 4 % 2 ^ 12 = 0
      omega
    refine hostCommand_answers (profile_accepts ha) (run := runProfileBegin) ((checked_pass ?_).trans ?_)
    · rw [words, second, low, mid, high, rng_ok (Nat.zero_le _) hrun, rng_ok (Nat.zero_le _) hstr]
      rfl
    · rw [own, second, low, mid]
      rfl
  · obtain ⟨words, own⟩ := withOp_profile (k := 1) h (by decide) hk
    have rest := withOp_arg (k := 1) h
    have second : arg (withOp 1 args) 1 = arg args 1 := congrArg BitVec.toNat (rest 0)
    have third : arg (withOp 1 args) 2 = arg args 2 := congrArg BitVec.toNat (rest 1)
    have tail : (tabulate 27 fun j => argW (withOp 1 args) (3 + j.val)) = tabulate 27 fun j => argW args (3 + j.val) := by
      refine congrArg (tabulate 27) (funext fun j => ?_)
      rw [show 3 + j.val = (2 + j.val) + 1 by omega]
      exact rest _
    refine hostCommand_answers (profile_accepts ha) (run := runProfileAdd) ((checked_pass ?_).trans ?_)
    · rw [words, second, third, tail, hcheck]
      rfl
    · rw [workOf_own hwork own, third, tail, own, rest 0]
      exact if_neg (by omega)
  · obtain ⟨words, own⟩ := withOp_profile (k := 2) h (by decide) hk
    obtain ⟨same, others⟩ := storeProfile_profiles k { p with valid := true } s
    have run : runProfileStore (withOp 2 args) s = toFlash (fun u => done
        { storeProfile k.val { p with valid := true } u with vsel := { (storeProfile k.val { p with valid := true } u).vsel with work := none } }) s := by
      refine (checked_pass (by rw [words]; rfl)).trans ?_
      rw [workOf_own hwork own, own]
    exact ⟨_, hostCommand_stored (profile_accepts ha) run rfl, same, others, rfl⟩
  · obtain ⟨words, own⟩ := withOp_profile (k := 3) h (by decide) hk
    obtain ⟨same, others⟩ := storeProfile_profiles k .reset s
    have run : runProfileClear (withOp 3 args) s = toFlash (fun u => done (storeProfile k.val .reset u)) s := by
      refine (checked_pass (by rw [words]; rfl)).trans ?_
      rw [own]
    exact ⟨_, hostCommand_stored (profile_accepts ha) run rfl, same, others, rfl⟩

end Sys2Proof.Machine
end

/-! ## Pours -/

section
open Sys2Proof.Claims

namespace Sys2Proof.Machine

/-! ### The line -/

/-- TICK after a change of a pull (R201). -/
theorem settle_tick (p : Pour) : p.settle.tick = !(p.settle.pulling || p.tickOther) := by
  unfold Pour.settle Pour.pulling
  cases p.pull <;> cases p.veto <;> cases p.holdPull <;> cases p.rise <;> cases p.tickOther <;> cases p.tick <;> rfl

/-- What `settle` leaves of a pour. -/
@[simp] theorem settle_keeps (p : Pour) : p.settle.state = p.state ∧ p.settle.id = p.id ∧ p.settle.entries = p.entries ∧
    p.settle.result = p.result ∧ p.settle.resultValid = p.resultValid ∧ p.settle.fail = p.fail ∧
    p.settle.prepVia = p.prepVia ∧ p.settle.pull = p.pull ∧ p.settle.veto = p.veto ∧ p.settle.holdPull = p.holdPull ∧
    p.settle.tickOther = p.tickOther ∧ p.settle.low10us = p.low10us ∧ p.settle.lowKnown = p.lowKnown ∧
    p.settle.ignored = p.ignored ∧ p.settle.profile = p.profile ∧ p.settle.skips = p.skips ∧
    p.settle.commits = p.commits := by
  simp only [Pour.settle, and_self]

/-! ### The end of a pour -/

/-- A pour as it ends (R203, R206). -/
def Pour.ends (result : Nat) (veto : Bool) (p : Pour) : Pour :=
  ({ p with
     state := .idle, result := result, resultValid := true, pull := false, prepVia := none
     veto := p.veto || (veto && !p.tick && decide (p.low10us < 5500)), profile := false } : Pour).settle

theorem answerOpt_outside (via code res s) : answerOpt via code res s = { s with
    mbx := (answerOpt via code res s).mbx, monAnswer := (answerOpt via code res s).monAnswer
    ownAnswer := (answerOpt via code res s).ownAnswer } := by
  cases via with
  | none => rfl
  | some v => cases v <;> rfl

/-- What the end of a pour changes: the pour, its record, and the answer to its `POUR_PREPARE`. -/
theorem pourEnd_outside {result veto s} (h : s.pour.state ≠ .idle) : pourEnd result veto s = { s with
    pour := s.pour.ends result veto, vsel := { s.vsel with staged := none }, bbx := (pourEnd result veto s).bbx
    mbx := (pourEnd result veto s).mbx, monAnswer := (pourEnd result veto s).monAnswer
    ownAnswer := (pourEnd result veto s).ownAnswer } := by
  unfold pourEnd
  dsimp only
  rw [if_neg h, answerOpt_outside]
  rfl

theorem pourEnd_pour {result veto s} (h : s.pour.state ≠ .idle) : (pourEnd result veto s).pour = s.pour.ends result veto := by
  rw [pourEnd_outside h]

theorem ends_shows (result veto) (p : Pour) : (p.ends result veto).state = .idle ∧ (p.ends result veto).result = result ∧
    (p.ends result veto).resultValid = true ∧ (p.ends result veto).fail = p.fail ∧ (p.ends result veto).pull = false ∧
    (p.ends result veto).veto = (p.veto || (veto && !p.tick && decide (p.low10us < 5500))) ∧
    (p.ends result veto).entries = p.entries ∧ (p.ends result veto).commits = p.commits := by
  simp [Pour.ends]

/-- What the abort of a pour in progress shows (R203). -/
theorem pourAbort_shows {s : State} (h : s.pour.state ≠ .idle) : (pourAbort s).pour.state = .idle ∧
    (pourAbort s).pour.result = 0x50 ∧ (pourAbort s).pour.resultValid = true ∧
    (pourAbort s).pour.veto = (s.pour.veto || (!s.pour.tick && decide (s.pour.low10us < 5500))) ∧
    (pourAbort s).pour.pull = false ∧ (pourAbort s).taps = s.taps ∧ (pourAbort s).ports = s.ports ∧
    (pourAbort s).sys = s.sys := by
  obtain ⟨hst, hres, hval, -, hpull, hveto, -⟩ := ends_shows 0x50 true s.pour
  unfold pourAbort
  rw [pourEnd_outside h]
  exact ⟨hst, hres, hval, by rw [hveto, Bool.true_and], hpull, rfl, rfl, rfl⟩

/-! ### The commands of a pour -/

/-- The entries of a pour once they have been judged (R210). -/
theorem markValid_none (es : List PourEntry) : markValid none es = es.map fun e => { e with outcome := 2 } :=
  List.ext_getElem (by simp [markValid]) (by simp [markValid])

/-- An accepted command whose rule answers later. -/
theorem hostCommand_later {op via args s run u} (ha : Accepts op via args s) (hr : run args s = .later u) :
    hostCommand op run via args s = .next u := by
  rw [hostCommand_of_accepts ha run, hr]
  rfl

theorem pourIs_ok {s : State} {id : Word} {ok : PourState → Bool} (h : s.pour.state ≠ .idle) (hid : id = s.pour.id)
    (hok : ok s.pour.state = true) : pourIs s id ok = none := by
  rw [pourIs, if_neg h, decide_eq_true hid.symm, hok]
  rfl

/-- An accepted abort of a pour that it may end (R203). -/
theorem pourAbort_answers {via args s} (ha : Accepts 0x0604 via args s) (hid : argW args 0 = s.pour.id)
    (hst : s.pour.state ≠ .idle) (hab : abortable s.pour = true) : ∃ t, hostCommand 0x0604 runPourAbort via args s = .next t ∧
      t.pour.state = .idle ∧ t.pour.result = 0x50 ∧ t.pour.resultValid = true ∧
      t.pour.veto = (s.pour.veto || (!s.pour.tick && decide (s.pour.low10us < 5500))) ∧ t.pour.pull = false ∧
      answerOf via t = some ⟨0, []⟩ ∧ t.taps = s.taps ∧ t.ports = s.ports ∧ t.sys = s.sys := by
  obtain ⟨hidle, hres, hval, hveto, hpull, htaps, hports, hsys⟩ := pourAbort_shows hst
  refine ⟨_, hostCommand_answers ha (checked_pass (by rw [pourIs_ok hst hid hab]; rfl)), ?_⟩
  simp only [answer_keeps]
  exact ⟨hidle, hres, hval, hveto, hpull, answerOf_answer .., htaps, hports, hsys⟩

/-- Settles O13, command by command. -/
theorem pourCommandsStageThePour : Obligations.PourCommandsStageThePour := by
  unfold Obligations.PourCommandsStageThePour
  refine fun via args s => ⟨fun ha h0 hst => ?_, fun ha h0 hst => ?_, fun ha hid hst hlen hcheck => ?_, fun ha hid hst hv => ?_,
    fun k c ha hid hst hv => ?_, fun ha hid hst => ?_, fun ha hid hst => ⟨fun htick => ?_, fun htick => ?_⟩, fun ha hst => ?_,
    fun ha hst hid => ?_⟩
  · exact hostCommand_answers ha (run := runPourOpen) (checked_pass (by rw [decide_eq_true h0, hst]; rfl))
  · exact hostCommand_answers ha (run := runPourOpen) (checked_fail (by rw [decide_eq_true h0, if_neg hst]; rfl))
  · refine hostCommand_answers ha (run := runPourAdd) (checked_pass ?_)
    rw [hcheck, pourIs_ok (by rw [hst]; decide) hid (decide_eq_true hst), if_pos hlen]
    rfl
  · have run : runPourPrepare via args s = .later { s with pour := { s.pour with
        state := .validating, prepVia := some via, entries := markValid none s.pour.entries } } := by
      refine (checked_pass ?_).trans ?_
      · rw [pourIs_ok (by rw [hst]; decide) hid (decide_eq_true hst)]
        rfl
      · dsimp only [State.modPour]
        rw [hv]
    refine ⟨_, hostCommand_later ha run, rfl, rfl, ?_, by simp [markValid], rfl, rfl⟩
    rw [markValid_none]
    simp
  · let u : State := { s with pour := { s.pour with
        state := .validating, fail := k, entries := markValid (some (k, c)) s.pour.entries } }
    have run : runPourPrepare via args s = .now 0x50 [word k, word c] (pourEnd 0x50 false u) := by
      refine (checked_pass ?_).trans ?_
      · rw [pourIs_ok (by rw [hst]; decide) hid (decide_eq_true hst)]
        rfl
      · dsimp only [State.modPour]
        rw [hv]
    have ended := pourEnd_outside (result := 0x50) (veto := false) (s := u) nofun
    obtain ⟨hidle, hres, hval, hfail, hpull, -⟩ := ends_shows 0x50 false u.pour
    refine ⟨_, hostCommand_answers ha run, ?_⟩
    simp only [answer_keeps]
    rw [ended]
    exact ⟨hidle, hres, hval, hfail, hpull, answerOf_answer .., rfl, rfl, rfl⟩
  · have hab : abortable s.pour = true := by obtain h | h := hst <;> rw [abortable, h]
    obtain ⟨t, ht, hidle, hres, -, hrest⟩ := pourAbort_answers ha hid (by obtain h | h := hst <;> rw [h] <;> decide) hab
    exact ⟨t, ht, hidle, hres, hrest⟩
  · have hab : abortable s.pour = true := by rw [abortable, hst, htick]; rfl
    have shows := pourAbort_answers ha hid (by rw [hst]; decide) hab
    rwa [htick, Bool.not_false, Bool.true_and] at shows
  · have hab : abortable s.pour = false := by rw [abortable, hst, htick]; rfl
    refine hostCommand_answers ha (run := runPourAbort) (checked_fail ?_)
    rw [pourIs, hst, if_neg (by decide), decide_eq_true hid.symm, hab]
    rfl
  · refine hostCommand_answers ha (run := runPourAbort) (checked_fail ?_)
    obtain hst | ⟨hid, hst⟩ := hst
    · rw [pourIs, if_pos hst]
      rfl
    · rw [pourIs, hst, if_neg (by decide), decide_eq_true hid.symm, abortable, hst]
      rfl
  · refine hostCommand_answers ha (run := runPourAbort) (checked_fail ?_)
    rw [pourIs, if_neg hst, decide_eq_false (Ne.symm hid)]
    rfl

end Sys2Proof.Machine
end

/-! ## What a step leaves of the line, of HOLD's memory, and of the stores of recipes and images

Nearly every row of the instruction table changes none of what the invariant speaks of. `Intact` says so of one
operation, as `Still` does of the watchdog and the module state; the rules of this part carry it through the
combinators of the model. -/

section
open Sys2Proof.Claims

namespace Sys2Proof.Machine

/-- At most 64 alerts wait (R439). -/
def Alr.fits (a : Alr) : Bool := decide (a.queue.length ≤ 64)

/-- The pour, the state before HOLD, the staged image, the room for alerts and the watchdog's challenge are as before, and
the stores of recipes are as before. -/
@[simp, reducible] def Intact (s t : State) : Prop :=
  t.pour = s.pour ∧ t.sys.before = s.sys.before ∧ t.fw.mem = s.fw.mem ∧ t.alr.fits = s.alr.fits ∧
  t.wdg.challenge = s.wdg.challenge ∧ t.rcp.data = s.rcp.data ∧
  t.rcp.slots = s.rcp.slots

theorem Intact.refl (s) : Intact s s := ⟨rfl, rfl, rfl, rfl, rfl, rfl, rfl⟩

theorem Intact.trans {s t u} (h : Intact s t) (k : Intact t u) : Intact s u := by
  obtain ⟨hpour, hbefore, hmem, halr, hwdg, hdata, hslots⟩ := h
  obtain ⟨kpour, kbefore, kmem, kalr, kwdg, kdata, kslots⟩ := k
  exact ⟨kpour.trans hpour, kbefore.trans hbefore, kmem.trans hmem, kalr.trans halr, kwdg.trans hwdg, kdata.trans hdata, kslots.trans hslots⟩

theorem Intact.ite {s t u} {p : Prop} [Decidable p] (h : Intact s t) (k : Intact s u) : Intact s (if p then t else u) := by
  split <;> assumption

/-! ### Choices and folds -/

@[simp] theorem ite_pour (p : Prop) {_ : Decidable p} (s t : State) :
    (if p then s else t).pour = if p then s.pour else t.pour := apply_ite (fun s : State => s.pour) p s t
@[simp] theorem ite_before (p : Prop) {_ : Decidable p} (s t : State) :
    (if p then s else t).sys.before = if p then s.sys.before else t.sys.before := apply_ite (fun s : State => s.sys.before) p s t
@[simp] theorem ite_fw (p : Prop) {_ : Decidable p} (s t : State) :
    (if p then s else t).fw = if p then s.fw else t.fw := apply_ite (fun s : State => s.fw) p s t
@[simp] theorem ite_fw_mem (p : Prop) {_ : Decidable p} (y z : Fw) :
    (if p then y else z).mem = if p then y.mem else z.mem := apply_ite Fw.mem p y z
@[simp] theorem ite_alr (p : Prop) {_ : Decidable p} (s t : State) :
    (if p then s else t).alr = if p then s.alr else t.alr := apply_ite (fun s : State => s.alr) p s t
@[simp] theorem ite_rcp (p : Prop) {_ : Decidable p} (s t : State) :
    (if p then s else t).rcp = if p then s.rcp else t.rcp := apply_ite (fun s : State => s.rcp) p s t
@[simp] theorem ite_sys_before (p : Prop) {_ : Decidable p} (y z : Sys) :
    (if p then y else z).before = if p then y.before else z.before := apply_ite Sys.before p y z
@[simp] theorem ite_fits (p : Prop) {_ : Decidable p} (y z : Alr) :
    (if p then y else z).fits = if p then y.fits else z.fits := apply_ite Alr.fits p y z
@[simp] theorem ite_challenge (p : Prop) {_ : Decidable p} (y z : Wdg) :
    (if p then y else z).challenge = if p then y.challenge else z.challenge := apply_ite Wdg.challenge p y z
@[simp] theorem ite_rcp_data (p : Prop) {_ : Decidable p} (y z : Rcp) :
    (if p then y else z).data = if p then y.data else z.data := apply_ite Rcp.data p y z
@[simp] theorem ite_rcp_slots (p : Prop) {_ : Decidable p} (y z : Rcp) :
    (if p then y else z).slots = if p then y.slots else z.slots := apply_ite Rcp.slots p y z
theorem foldl_intact {ι : Type} (f : State → ι → State) (h : ∀ s i, Intact s (f s i)) (l : List ι) (s) :
    Intact s (l.foldl f s) := by
  induction l generalizing s with
  | nil => exact .refl s
  | cons i l ih => exact (h s i).trans (ih _)
@[simp] theorem foldFin_pour {k} (f : Fin k → State → State) (h : ∀ i s, (f i s).pour = s.pour) (s) :
    (foldFin k f s).pour = s.pour := foldFin_keeps (fun s : State => s.pour) _ h _
@[simp] theorem foldl_pour {ι : Type} (f : State → ι → State) (h : ∀ s i, (f s i).pour = s.pour) (l : List ι) (s) :
    (l.foldl f s).pour = s.pour := foldl_keeps (fun s : State => s.pour) _ h _ _
@[simp] theorem foldFin_before {k} (f : Fin k → State → State) (h : ∀ i s, (f i s).sys.before = s.sys.before) (s) :
    (foldFin k f s).sys.before = s.sys.before := foldFin_keeps (fun s : State => s.sys.before) _ h _
@[simp] theorem foldl_before {ι : Type} (f : State → ι → State) (h : ∀ s i, (f s i).sys.before = s.sys.before) (l : List ι) (s) :
    (l.foldl f s).sys.before = s.sys.before := foldl_keeps (fun s : State => s.sys.before) _ h _ _
@[simp] theorem foldFin_mem {k} (f : Fin k → State → State) (h : ∀ i s, (f i s).fw.mem = s.fw.mem) (s) :
    (foldFin k f s).fw.mem = s.fw.mem := foldFin_keeps (fun s : State => s.fw.mem) _ h _
@[simp] theorem foldl_mem {ι : Type} (f : State → ι → State) (h : ∀ s i, (f s i).fw.mem = s.fw.mem) (l : List ι) (s) :
    (l.foldl f s).fw.mem = s.fw.mem := foldl_keeps (fun s : State => s.fw.mem) _ h _ _
@[simp] theorem foldFin_fits {k} (f : Fin k → State → State) (h : ∀ i s, (f i s).alr.fits = s.alr.fits) (s) :
    (foldFin k f s).alr.fits = s.alr.fits := foldFin_keeps (fun s : State => s.alr.fits) _ h _
@[simp] theorem foldl_fits {ι : Type} (f : State → ι → State) (h : ∀ s i, (f s i).alr.fits = s.alr.fits) (l : List ι) (s) :
    (l.foldl f s).alr.fits = s.alr.fits := foldl_keeps (fun s : State => s.alr.fits) _ h _ _
@[simp] theorem foldFin_data {k} (f : Fin k → State → State) (h : ∀ i s, (f i s).rcp.data = s.rcp.data) (s) :
    (foldFin k f s).rcp.data = s.rcp.data := foldFin_keeps (fun s : State => s.rcp.data) _ h _
@[simp] theorem foldl_data {ι : Type} (f : State → ι → State) (h : ∀ s i, (f s i).rcp.data = s.rcp.data) (l : List ι) (s) :
    (l.foldl f s).rcp.data = s.rcp.data := foldl_keeps (fun s : State => s.rcp.data) _ h _ _
@[simp] theorem foldFin_slots {k} (f : Fin k → State → State) (h : ∀ i s, (f i s).rcp.slots = s.rcp.slots) (s) :
    (foldFin k f s).rcp.slots = s.rcp.slots := foldFin_keeps (fun s : State => s.rcp.slots) _ h _
@[simp] theorem foldl_slots {ι : Type} (f : State → ι → State) (h : ∀ s i, (f s i).rcp.slots = s.rcp.slots) (l : List ι) (s) :
    (l.foldl f s).rcp.slots = s.rcp.slots := foldl_keeps (fun s : State => s.rcp.slots) _ h _ _

/-! ### The queue of alerts -/

/-- The highest class found in a queue is the one begun with, or that of one of its alerts. -/
theorem foldl_max_cls (q : List Alert) (m : Nat) :
    q.foldl (fun m a => max m a.cls) m = m ∨ ∃ a ∈ q, a.cls = q.foldl (fun m a => max m a.cls) m := by
  induction q generalizing m with
  | nil => exact .inl rfl
  | cons a q ih =>
    rw [List.foldl_cons]
    obtain h | ⟨b, hb, h⟩ := ih (max m a.cls)
    · rw [h]
      obtain hm | hm := Nat.le_total a.cls m
      · exact .inl (Nat.max_eq_left hm)
      · exact .inr ⟨a, List.mem_cons_self, (Nat.max_eq_right hm).symm⟩
    · exact .inr ⟨b, List.mem_cons_of_mem _ hb, h⟩

/-- The highest class of a queue is at least that of each of its alerts. -/
theorem le_foldl_cls (q : List Alert) (m : Nat) : m ≤ q.foldl (fun m a => max m a.cls) m ∧
    ∀ a ∈ q, a.cls ≤ q.foldl (fun m a => max m a.cls) m := by
  induction q generalizing m with
  | nil => simp
  | cons b q ih =>
    obtain ⟨hm, hq⟩ := ih (max m b.cls)
    simp only [List.foldl_cons, List.mem_cons, forall_eq_or_imp]
    exact ⟨(Nat.le_max_left ..).trans hm, (Nat.le_max_right ..).trans hm, hq⟩

/-- The alert that makes room is one of the queue (R439). -/
theorem evict_length {c q q'} (hq : q ≠ []) (h : evict c q = some q') : q'.length + 1 = q.length := by
  unfold evict at h
  dsimp only at h
  split at h
  · obtain rfl := Option.some.inj h
    have some_has : ∃ a ∈ q, a.cls = q.foldl (fun m a => max m a.cls) 0 := by
      obtain h | h := foldl_max_cls q 0
      · obtain ⟨a, ha⟩ := List.exists_mem_of_ne_nil q hq
        exact ⟨a, ha, le_antisymm ((le_foldl_cls q 0).2 a ha) (by rw [h]; exact Nat.zero_le _)⟩
      · exact h
    obtain ⟨a, ha, hcls⟩ := some_has
    rw [List.length_eraseP_of_mem ha (by simpa using hcls)]
    have := List.length_pos_of_ne_nil hq
    omega
  · cases h

@[simp] theorem enqueue_fits (a s) : (enqueue a s).alr.fits = s.alr.fits := by
  unfold enqueue Alr.fits
  dsimp only
  split
  · simp
    omega
  · rename_i full
    split
    · rename_i q hq
      have := evict_length (by rintro h; simp [h] at full) hq
      simp
      omega
    · rfl
@[simp] theorem alertAt_fits (b c k r i p s) : (alertAt b c k r i p s).alr.fits = s.alr.fits := by
  unfold alertAt
  dsimp only
  split
  · rfl
  · simp
@[simp] theorem alert_fits (c k r i p s) : (alert c k r i p s).alr.fits = s.alr.fits := by simp [alert]
@[simp] theorem alertRec_fits (f c k r i p s) : (alertRec f c k r i p s).alr.fits = (f s).alr.fits := by simp [alertRec]
@[simp] theorem suspend_fits (n c s) : (suspend n c s).alr.fits = s.alr.fits := by
  unfold suspend
  dsimp only
  split <;> simp
@[simp] theorem tapFault_fits (n st c s) : (tapFault n st c s).alr.fits = s.alr.fits := by simp [tapFault]
@[simp] theorem enterCharge_fits (n st s) : (enterCharge n st s).alr.fits = s.alr.fits := by
  unfold enterCharge
  dsimp only
  split <;> simp
@[simp] theorem goByKelvin_fits (n s) : (goByKelvin n s).alr.fits = s.alr.fits := by simp [goByKelvin]
@[simp] theorem toKeep_fits (n s) : (toKeep n s).alr.fits = s.alr.fits := by simp [toKeep]
@[simp] theorem toStandIn_fits (n s) : (toStandIn n s).alr.fits = s.alr.fits := by simp [toStandIn]
@[simp] theorem leaveRunTap_fits (n s) : (leaveRunTap n s).alr.fits = s.alr.fits := by
  unfold leaveRunTap
  dsimp only
  split <;> simp
@[simp] theorem leaveRun_fits (s) : (leaveRun s).alr.fits = s.alr.fits := by simp [leaveRun]
@[simp] theorem voidLink_fits (x c tell s) : (voidLink x c tell s).alr.fits = s.alr.fits := by simp [voidLink]
@[simp] theorem dropTie_fits (s) : (dropTie s).alr.fits = s.alr.fits := by simp [dropTie]
@[simp] theorem standbyAlerts_fits (s) : (standbyAlerts s).alr.fits = s.alr.fits := by simp [standbyAlerts]
@[simp] theorem enterSafe_fits (c s) : (enterSafe c s).alr.fits = s.alr.fits := by simp [enterSafe]
@[simp] theorem enterStandby_fits (c s) : (enterStandby c s).alr.fits = s.alr.fits := by simp [enterStandby]
@[simp] theorem enterHold_fits (c s) : (enterHold c s).alr.fits = s.alr.fits := by simp [enterHold]
@[simp] theorem wakeFor_before (n s) : (wakeFor n s).sys.before = s.sys.before := by simp [wakeFor]
@[simp] theorem toDetect_before (n isNew s) : (toDetect n isNew s).sys.before = s.sys.before := by simp [toDetect]
@[simp] theorem newPeriod_before (s) : (newPeriod s).sys.before = s.sys.before := by simp [newPeriod]
@[simp] theorem setState_before (st c s) : (setState st c s).sys.before = s.sys.before := by simp [setState]
@[simp] theorem resync_before (y) : (resync y).before = y.before := by simp [resync]
@[simp] theorem setStr_before (en y) : (setStr en y).before = y.before := by simp [setStr]
@[simp] theorem glideBack_before (y) : (glideBack y).before = y.before := by simp [glideBack]
@[simp] theorem tickSys_before (y) : (tickSys y).before = y.before := by simp [tickSys]
@[simp] theorem sample_before (m y) : (sampleKey m (sampleAux m (sampleString m y))).before = y.before := by
  simp [sampleKey, sampleAux, sampleString]
@[simp] theorem loseCores_before (s) : (loseCores s).sys.before = s.sys.before := by simp [loseCores]

/-! ### The stores of recipes -/

/-- Halting the recipe and losing the cores leave its stores. -/
@[simp] theorem rcpHalt_data (s) : (rcpHalt s).rcp.data = s.rcp.data := by simp [rcpHalt]
@[simp] theorem rcpHalt_slots (s) : (rcpHalt s).rcp.slots = s.rcp.slots := by simp [rcpHalt]
@[simp] theorem ungovern_data (n s) : (ungovern n s).rcp.data = s.rcp.data := by simp [ungovern]
@[simp] theorem ungovern_slots (n s) : (ungovern n s).rcp.slots = s.rcp.slots := by simp [ungovern]
@[simp] theorem loseCores_data (s) : (loseCores s).rcp.data = s.rcp.data := by simp [loseCores]
@[simp] theorem loseCores_slots (s) : (loseCores s).rcp.slots = s.rcp.slots := by simp [loseCores]

/-! ### Commands and events of a tap -/

@[simp] theorem byCommand_pour (n f s) : (byCommand n f s).pour = (f s).pour := by simp [byCommand]
@[simp] theorem byCommand_before (n f s) : (byCommand n f s).sys.before = (f s).sys.before := by simp [byCommand]
@[simp] theorem byCommand_fw (n f s) : (byCommand n f s).fw = (f s).fw := by simp [byCommand]
@[simp] theorem byCommand_alr (n f s) : (byCommand n f s).alr = (f s).alr := by simp [byCommand]
@[simp] theorem byCommand_rcp (n f s) : (byCommand n f s).rcp = (f s).rcp := by simp [byCommand]
@[simp] theorem waking_pour (n f s) : (waking n f s).pour = (f s).pour := by simp [waking]
@[simp] theorem waking_before (n f s) : (waking n f s).sys.before = (f s).sys.before := by simp [waking]
@[simp] theorem waking_fw (n f s) : (waking n f s).fw = (f s).fw := by simp [waking]
@[simp] theorem waking_alr (n f s) : (waking n f s).alr = (f s).alr := by simp [waking]
@[simp] theorem waking_rcp (n f s) : (waking n f s).rcp = (f s).rcp := by simp [waking]
@[simp] theorem rephase_pour (n s0 s) : (rephase n s0 s).pour = s.pour := by
  unfold rephase
  dsimp only
  split
  · rfl
  · exact foldl_keeps (fun s : State => s.pour) _ (by intros; rfl) _ _
@[simp] theorem reactivate_pour (n f s) : (reactivate n f s).pour = (f s).pour := by simp [reactivate]
@[simp] theorem rankTap_pour (r top n f s) : (rankTap r top n f s).pour =
    if s.taps[n].acted ≠ 0 ∧ s.taps[n].acted ≤ top then s.pour else (f s).pour := by simp [rankTap]
@[simp] theorem rephase_before (n s0 s) : (rephase n s0 s).sys.before = s.sys.before := by
  unfold rephase
  dsimp only
  split
  · rfl
  · exact foldl_keeps (fun s : State => s.sys.before) _ (by intros; rfl) _ _
@[simp] theorem reactivate_before (n f s) : (reactivate n f s).sys.before = (f s).sys.before := by simp [reactivate]
@[simp] theorem rankTap_before (r top n f s) : (rankTap r top n f s).sys.before =
    if s.taps[n].acted ≠ 0 ∧ s.taps[n].acted ≤ top then s.sys.before else (f s).sys.before := by simp [rankTap]
@[simp] theorem rephase_fw (n s0 s) : (rephase n s0 s).fw = s.fw := by
  unfold rephase
  dsimp only
  split
  · rfl
  · exact foldl_keeps (fun s : State => s.fw) _ (by intros; rfl) _ _
@[simp] theorem reactivate_fw (n f s) : (reactivate n f s).fw = (f s).fw := by simp [reactivate]
@[simp] theorem rankTap_fw (r top n f s) : (rankTap r top n f s).fw =
    if s.taps[n].acted ≠ 0 ∧ s.taps[n].acted ≤ top then s.fw else (f s).fw := by simp [rankTap]
@[simp] theorem rephase_alr (n s0 s) : (rephase n s0 s).alr = s.alr := by
  unfold rephase
  dsimp only
  split
  · rfl
  · exact foldl_keeps (fun s : State => s.alr) _ (by intros; rfl) _ _
@[simp] theorem reactivate_alr (n f s) : (reactivate n f s).alr = (f s).alr := by simp [reactivate]
@[simp] theorem rankTap_alr (r top n f s) : (rankTap r top n f s).alr =
    if s.taps[n].acted ≠ 0 ∧ s.taps[n].acted ≤ top then s.alr else (f s).alr := by simp [rankTap]
@[simp] theorem rephase_rcp (n s0 s) : (rephase n s0 s).rcp = s.rcp := by
  unfold rephase
  dsimp only
  split
  · rfl
  · exact foldl_keeps (fun s : State => s.rcp) _ (by intros; rfl) _ _
@[simp] theorem reactivate_rcp (n f s) : (reactivate n f s).rcp = (f s).rcp := by simp [reactivate]
@[simp] theorem rankTap_rcp (r top n f s) : (rankTap r top n f s).rcp =
    if s.taps[n].acted ≠ 0 ∧ s.taps[n].acted ≤ top then s.rcp else (f s).rcp := by simp [rankTap]

/-! ### Replies and commands -/

@[simp] theorem done_intact (s) : Intact s (done s).next := .refl _
@[simp] theorem doneWith_intact (res s) : Intact s (doneWith res s).next := .refl _
@[simp] theorem accepted_intact (s) : Intact s (accepted s).next := .refl _
@[simp] theorem deny_intact (code s) : Intact s (deny code s).next := .refl _
@[simp] theorem toFlash_intact (r s) (h : Intact s (r s).next) : Intact s (toFlash r s).next := by
  unfold toFlash
  split <;> simp_all
@[simp] theorem deliver_intact (via) (r : Reply) : Intact r.next (deliver via r) := by
  cases r <;> simp [deliver]

/-- A command leaves what its effect leaves, or everything. -/
theorem issue_intact_or (op run via args s) :
    Intact s (issue op run via args s) ∨ Intact (run args s).next (issue op run via args s) := by
  unfold issue
  split
  · exact .inl (.refl _)
  · split
    · split
      · have told := deliver_intact via (lateReply op s (run args s))
        obtain h | h := lateReply_next op s (run args s)
        · exact .inr (by rwa [h] at told)
        · exact .inl (by rwa [h] at told)
      · exact .inl (.refl _)
    · split
      · exact .inl (by simp)
      · split
        · exact .inr (deliver_intact via _)
        · exact .inl (.refl _)

@[simp] theorem lateReply_intact (op s r) (h : Intact s (Reply.next r)) : Intact s (lateReply op s r).next := by
  obtain k | k := lateReply_next op s r <;> simp_all
@[simp] theorem issue_intact (op run via args s) (h : Intact s (Reply.next (run args s))) :
    Intact s (issue op run via args s) := (issue_intact_or op run via args s).elim id h.trans
@[simp] theorem hostCommand_intact (op run via args s) (h : Intact s (Reply.next (run args s))) :
    Intact s (landing s (hostCommand op run via args s)) := issue_intact op run via args s h
@[simp] theorem hold_intact (c s) : Intact s (hold c s) := by simp [hold]
@[simp] theorem afterHeld_intact (op run via args s) (h : Intact s (Reply.next (run args s))) :
    Intact s (landing s (afterHeld op run via args s)) := by simp_all [afterHeld]
@[simp] theorem onCluster_intact (op run via args s) (h : Intact s (Reply.next (run args s))) :
    Intact s (landing s (onCluster op run via args s)) := by simp_all [onCluster]
@[simp] theorem onCore_intact (op run via args s) (h : Intact s (Reply.next (run args s))) :
    Intact s (landing s (onCore op run via args s)) := by simp_all [onCore]
@[simp] theorem acting_intact (run a s) (h : Intact s (Reply.next (run a s))) : Intact s (acting run a s).next := by
  unfold acting
  (repeat' split) <;> simp_all [linkActs]

/-! ### Taps and rods -/

@[simp] theorem rephase_intact (n s0 s) : Intact s (rephase n s0 s) := by simp
@[simp] theorem modRod_intact (r f s) : Intact s (modRod r f s) := .refl _
@[simp] theorem modPerf_intact (c f s) : Intact s (modPerf c f s) := .refl _
@[simp] theorem modBank_intact (k f s) : Intact s (modBank k f s) := .refl _
@[simp] theorem modAlarm_intact (k f s) : Intact s (modAlarm k f s) := .refl _

/-! ### The rows' frames: the state in which an event of each kind ends -/

theorem smFw_intact {f n} (h : ∀ s, Intact s (f s)) (ms s) : Intact s (landing s (smFw ms n f s)) := by simp [h]
theorem smDwell_intact {f n} (h : ∀ s, Intact s (f s)) (ms s) : Intact s (landing s (smDwell ms n f s)) := by simp [h]

/-! ### The module's own part -/

end Sys2Proof.Machine
end

/-! ## The operations that leave the watchdog and the module state, one rule each -/

section
namespace Sys2Proof.Machine

/-! ### Shared operations -/

@[simp] theorem toDetect_intact (n isNew s) : Intact s (toDetect n isNew s) := by simp [toDetect]
@[simp] theorem perfCount_intact (c code k s) : Intact s (perfCount c code k s) := by simp [perfCount]
@[simp] theorem newPeriod_intact (s) : Intact s (newPeriod s) := by simp [newPeriod]
@[simp] theorem decideRole_intact (s) : Intact s (decideRole s) := by simp [decideRole]
@[simp] theorem standbyAlerts_intact (s) : Intact s (standbyAlerts s) := by simp [standbyAlerts]
@[simp] theorem defer_intact (d s) : Intact s (defer d s) := by simp [defer]
@[simp] theorem dropOf_intact (d s) : Intact s (dropOf d s) := by simp [dropOf]

/-! ### Tap commands -/

@[simp] theorem addHist_intact (h s) : Intact s (addHist h s) := by simp [addHist]
@[simp] theorem voidHist_intact (n s) : Intact s (voidHist n s) := by simp [voidHist]
@[simp] theorem sensorSuspend_intact (n s) : Intact s (sensorSuspend n s) := by simp [sensorSuspend]
@[simp] theorem learn_intact (n s) : Intact s (learn n s) := by
  unfold learn
  split <;> simp
@[simp] theorem topOffEnd_intact (n s) : Intact s (topOffEnd n s) := by simp [topOffEnd]
@[simp] theorem endKeep_intact (n s) : Intact s (endKeep n s) := by
  unfold endKeep
  dsimp only
  (repeat' split) <;> simp
@[simp] theorem endHandOff_intact (n s) : Intact s (endHandOff n s) := by
  simp only [endHandOff, bypassNow]
  split <;> simp
@[simp] theorem startHandOff_intact (n why s) : Intact s (startHandOff n why s) := by simp [startHandOff, countReturn]
@[simp] theorem openFault_intact (n s) : Intact s (openFault n s) := by simp [openFault]
@[simp] theorem applyDescriptor_intact (args s) : Intact s (applyDescriptor args s).next := by
  simp [applyDescriptor, takeDescriptor]
@[simp] theorem runSetDescriptor_intact (args s) : Intact s (runSetDescriptor args s).next := by simp [runSetDescriptor]
@[simp] theorem runGetDescriptor_intact (args s) : Intact s (runGetDescriptor args s).next := by
  unfold runGetDescriptor
  dsimp only
  (repeat' split) <;> simp
@[simp] theorem runSetSupport_intact (args s) : Intact s (runSetSupport args s).next := by simp [runSetSupport]
@[simp] theorem runSetLimits_intact (args s) : Intact s (runSetLimits args s).next := by simp [runSetLimits]
@[simp] theorem runStop_intact (args s) : Intact s (runStop args s).next := by simp [runStop]
@[simp] theorem runResume_intact (args s) : Intact s (runResume args s).next := by simp [runResume]
@[simp] theorem rearm_intact (n s) : Intact s (rearm n s) := by
  unfold rearm
  split <;> simp
@[simp] theorem runRearmTimer_intact (args s) : Intact s (runRearmTimer args s).next := by simp [runRearmTimer]
@[simp] theorem runClearFault_intact (args s) : Intact s (runClearFault args s).next := by simp [runClearFault]
@[simp] theorem runForget_intact (via args s) : Intact s (runForget via args s).next := by simp [runForget]
@[simp] theorem runGetHistory_intact (args s) : Intact s (runGetHistory args s).next := by
  unfold runGetHistory
  dsimp only
  (repeat' split) <;> simp
@[simp] theorem runSetRamp_intact (args s) : Intact s (runSetRamp args s).next := by simp [runSetRamp]
@[simp] theorem refresh_intact (n s) : Intact s (refresh n s) := by simp [refresh]
@[simp] theorem runSetKeep_intact (args s) : Intact s (runSetKeep args s).next := by simp [runSetKeep]
@[simp] theorem runSetStandin_intact (args s) : Intact s (runSetStandin args s).next := by simp [runSetStandin]
@[simp] theorem refuseStart_intact (n s) : Intact s (refuseStart n s) := by simp [refuseStart]
@[simp] theorem requestStart_intact (n s) : Intact s (requestStart n s) := by simp [requestStart]
@[simp] theorem fromBypass_intact (n auto s) : Intact s (fromBypass n auto s) := by simp [fromBypass]
@[simp] theorem runStandIn_intact (args s) : Intact s (runStandIn args s).next := by simp [runStandIn]
@[simp] theorem runSetTrack_intact (args s) : Intact s (runSetTrack args s).next := by simp [runSetTrack]
@[simp] theorem runSetCoeff_intact (args s) : Intact s (runSetCoeff args s).next := by
  unfold runSetCoeff
  (repeat' split) <;> simp
@[simp] theorem runLoadDefaultCoeff_intact (args s) : Intact s (runLoadDefaultCoeff args s).next := by
  simp [runLoadDefaultCoeff]
@[simp] theorem runSetSchedule_intact (args s) : Intact s (runSetSchedule args s).next := by simp [runSetSchedule]
@[simp] theorem runSetShed_intact (args s) : Intact s (runSetShed args s).next := by simp [runSetShed]
@[simp] theorem withdraw_intact (n s) : Intact s (withdraw n s) := by simp [withdraw]
@[simp] theorem runSetGang_intact (args s) : Intact s (runSetGang args s).next := by simp [runSetGang, withdrawUnrated]
@[simp] theorem runGetRods_intact (args s) : Intact s (runGetRods args s).next := by
  unfold runGetRods
  split <;> simp
@[simp] theorem runSetPlant_intact (args s) : Intact s (runSetPlant args s).next := by simp [runSetPlant]
@[simp] theorem execTapSetDescriptor_intact (via args s) : Intact s (landing s (execTapSetDescriptor via args s)) := by
  simp [execTapSetDescriptor]
@[simp] theorem execTapGetDescriptor_intact (via args s) : Intact s (landing s (execTapGetDescriptor via args s)) := by
  simp [execTapGetDescriptor]
@[simp] theorem execTapSetSupport_intact (via args s) : Intact s (landing s (execTapSetSupport via args s)) := by
  simp [execTapSetSupport]
@[simp] theorem execTapSetLimits_intact (via args s) : Intact s (landing s (execTapSetLimits via args s)) := by
  simp [execTapSetLimits]
@[simp] theorem execTapStop_intact (via args s) : Intact s (landing s (execTapStop via args s)) := by simp [execTapStop]
@[simp] theorem execTapResume_intact (via args s) : Intact s (landing s (execTapResume via args s)) := by simp [execTapResume]
@[simp] theorem execTapRearmTimer_intact (via args s) : Intact s (landing s (execTapRearmTimer via args s)) := by
  simp [execTapRearmTimer]
@[simp] theorem execTapClearFault_intact (via args s) : Intact s (landing s (execTapClearFault via args s)) := by
  simp [execTapClearFault]
@[simp] theorem execTapForget_intact (via args s) : Intact s (landing s (execTapForget via args s)) := by simp [execTapForget]
@[simp] theorem execTapGetHistory_intact (via args s) : Intact s (landing s (execTapGetHistory via args s)) := by
  simp [execTapGetHistory]
@[simp] theorem execTapSetRamp_intact (via args s) : Intact s (landing s (execTapSetRamp via args s)) := by
  simp [execTapSetRamp]
@[simp] theorem execTapSetKeep_intact (via args s) : Intact s (landing s (execTapSetKeep via args s)) := by
  simp [execTapSetKeep]
@[simp] theorem execTapSetStandin_intact (via args s) : Intact s (landing s (execTapSetStandin via args s)) := by
  simp [execTapSetStandin]
@[simp] theorem execTapStandIn_intact (via args s) : Intact s (landing s (execTapStandIn via args s)) := by
  simp [execTapStandIn]
@[simp] theorem execTapSetTrack_intact (via args s) : Intact s (landing s (execTapSetTrack via args s)) := by
  simp [execTapSetTrack]
@[simp] theorem execTapSetCoeff_intact (via args s) : Intact s (landing s (execTapSetCoeff via args s)) := by
  simp [execTapSetCoeff]
@[simp] theorem execTapLoadDefaultCoeff_intact (via args s) : Intact s (landing s (execTapLoadDefaultCoeff via args s)) := by
  simp [execTapLoadDefaultCoeff]
@[simp] theorem execTapSetSchedule_intact (via args s) : Intact s (landing s (execTapSetSchedule via args s)) := by
  simp [execTapSetSchedule]
@[simp] theorem execTapSetShed_intact (via args s) : Intact s (landing s (execTapSetShed via args s)) := by
  simp [execTapSetShed]
@[simp] theorem execTapSetGangForm_intact (via args s) : Intact s (landing s (execTapSetGangForm via args s)) := by
  simp [execTapSetGangForm]
@[simp] theorem execTapSetGangDissolve_intact (via args s) : Intact s (landing s (execTapSetGangDissolve via args s)) := by
  simp [execTapSetGangDissolve]
@[simp] theorem execTapGetRods_intact (via args s) : Intact s (landing s (execTapGetRods via args s)) := by
  simp [execTapGetRods]
@[simp] theorem execTapSetPlant_intact (via args s) : Intact s (landing s (execTapSetPlant via args s)) := by
  simp [execTapSetPlant]

/-! ### Arbiter and meter commands -/

@[simp] theorem runSetMin_intact (args s) : Intact s (runSetMin args s).next := by simp [runSetMin]
@[simp] theorem runSetLossCap_intact (args s) : Intact s (runSetLossCap args s).next := by simp [runSetLossCap]
@[simp] theorem execArbSetMin_intact (via args s) : Intact s (landing s (execArbSetMin via args s)) := by simp [execArbSetMin]
@[simp] theorem execArbSetLossCap_intact (via args s) : Intact s (landing s (execArbSetLossCap via args s)) := by
  simp [execArbSetLossCap]
@[simp] theorem execArbGetDoses_intact (via args s) : Intact s (landing s (execArbGetDoses via args s)) := by
  simp [execArbGetDoses, runGetDoses]
@[simp] theorem execMtrRead_intact (via args s) : Intact s (landing s (execMtrRead via args s)) := by
  simp [execMtrRead, runMtrRead]
@[simp] theorem execMtrGetPubkey_intact (via args s) : Intact s (landing s (execMtrGetPubkey via args s)) := by
  simp [execMtrGetPubkey, runGetPubkey]
@[simp] theorem execMtrGetStatement_intact (via args s) : Intact s (landing s (execMtrGetStatement via args s)) := by
  simp [execMtrGetStatement, runGetStatement, buildStmt]
@[simp] theorem execMtrReadStatement_intact (via args s) : Intact s (landing s (execMtrReadStatement via args s)) := by
  simp [execMtrReadStatement, runReadStatement]

/-! ### Recipes and performance counters -/

@[simp] theorem callEntry_intact (off phase a0 s) : Intact s (callEntry off phase a0 s) := by
  unfold callEntry
  split <;> simp
@[simp] theorem execRcpStop_intact (via args s) : Intact s (landing s (execRcpStop via args s)) := by
  simp [execRcpStop, runRcpStop]
@[simp] theorem execRcpGetStatus_intact (via args s) : Intact s (landing s (execRcpGetStatus via args s)) := by
  simp [execRcpGetStatus, runRcpStatus]
@[simp] theorem recipeSees_intact (s) : Intact s (recipeSees s) := by simp [recipeSees]
@[simp] theorem rcpFault_intact (code pc s) : Intact s (rcpFault code pc s) := by
  unfold rcpFault
  split <;> simp
@[simp] theorem rcpFaultFree_intact (code s) : Intact s (rcpFaultFree code s) := by simp [rcpFaultFree, State.draw]
@[simp] theorem execTickOverrun_intact (s) : Intact s (landing s (execTickOverrun s)) := by simp [execTickOverrun]
@[simp] theorem execInitTimeout_intact (s) : Intact s (landing s (execInitTimeout s)) := by simp [execInitTimeout]
@[simp] theorem takeOutputs_intact (s) : Intact s (takeOutputs s) := by
  simp only [takeOutputs, takeOut]
  (repeat' split) <;> simp
@[simp] theorem catchUp_intact (c s) : Intact s (catchUp c s) := by simp [catchUp]
@[simp] theorem yielded_intact (s) : Intact s (yielded s) := by
  unfold yielded
  split <;> simp
@[simp] theorem execNote_intact (a s) : Intact s (landing s (execNote a s)) := by simp [execNote, returnA0]
@[simp] theorem execStop_intact (s) : Intact s (landing s (execStop s)) := by simp [execStop]
@[simp] theorem execRecipeFault_intact (code pc s) : Intact s (landing s (execRecipeFault code pc s)) := by
  simp [execRecipeFault]
@[simp] theorem runPerfSetCtl_intact (args s) : Intact s (runPerfSetCtl args s).next := by simp [runPerfSetCtl]
@[simp] theorem runPerfSelect_intact (args s) : Intact s (runPerfSelect args s).next := by simp [runPerfSelect]
@[simp] theorem runPerfRead_intact (args s) : Intact s (runPerfRead args s).next := by simp [runPerfRead]
@[simp] theorem execPerfSetCtl_intact (via args s) : Intact s (landing s (execPerfSetCtl via args s)) := by
  simp [execPerfSetCtl]
@[simp] theorem execPerfSelect_intact (via args s) : Intact s (landing s (execPerfSelect via args s)) := by
  simp [execPerfSelect]
@[simp] theorem execPerfRead_intact (via args s) : Intact s (landing s (execPerfRead via args s)) := by simp [execPerfRead]
@[simp] theorem execPerfDump_intact (c counts spent tags s) : Intact s (landing s (execPerfDump c counts spent tags s)) := by
  simp [execPerfDump]

/-! ### Source commands -/

@[simp] theorem checkNarrow_intact (x s) : Intact s (checkNarrow x s) := by simp [checkNarrow]
@[simp] theorem runSrcEnable_intact (args s) : Intact s (runSrcEnable args s).next := by simp [runSrcEnable]
@[simp] theorem runSrcDisable_intact (args s) : Intact s (runSrcDisable args s).next := by simp [runSrcDisable]
@[simp] theorem runSrcSetWindow_intact (args s) : Intact s (runSrcSetWindow args s).next := by simp [runSrcSetWindow]
@[simp] theorem runSrcSetLimit_intact (args s) : Intact s (runSrcSetLimit args s).next := by simp [runSrcSetLimit]
@[simp] theorem runSrcSetOv_intact (args s) : Intact s (runSrcSetOv args s).next := by simp [runSrcSetOv]
@[simp] theorem runSrcSetMode_intact (args s) : Intact s (runSrcSetMode args s).next := by simp [runSrcSetMode, swapRank]
@[simp] theorem runSrcCalInput_intact (args s) : Intact s (runSrcCalInput args s).next := by
  unfold runSrcCalInput
  dsimp only
  (repeat' split) <;> simp
@[simp] theorem execSrcEnable_intact (via args s) : Intact s (landing s (execSrcEnable via args s)) := by simp [execSrcEnable]
@[simp] theorem execSrcDisable_intact (via args s) : Intact s (landing s (execSrcDisable via args s)) := by
  simp [execSrcDisable]
@[simp] theorem execSrcSetWindow_intact (via args s) : Intact s (landing s (execSrcSetWindow via args s)) := by
  simp [execSrcSetWindow]
@[simp] theorem execSrcSetLimit_intact (via args s) : Intact s (landing s (execSrcSetLimit via args s)) := by
  simp [execSrcSetLimit]
@[simp] theorem execSrcSetOv_intact (via args s) : Intact s (landing s (execSrcSetOv via args s)) := by simp [execSrcSetOv]
@[simp] theorem execSrcSetMode_intact (via args s) : Intact s (landing s (execSrcSetMode via args s)) := by
  simp [execSrcSetMode]
@[simp] theorem execSrcClearLock_intact (via args s) : Intact s (landing s (execSrcClearLock via args s)) := by
  simp [execSrcClearLock, runSrcClearLock]
@[simp] theorem execSrcCalInput_intact (via args s) : Intact s (landing s (execSrcCalInput via args s)) := by
  simp [execSrcCalInput]

/-! ### Module commands -/

@[simp] theorem runGetInfo_intact (args s) : Intact s (runGetInfo args s).next := by simp [runGetInfo]
@[simp] theorem runStandby_intact (args s) : Intact s (runStandby args s).next := by simp [runStandby]
@[simp] theorem runEnterRecovery_intact (args s) : Intact s (runEnterRecovery args s).next := by simp [runEnterRecovery]
@[simp] theorem runReset_intact (args s) : Intact s (runReset args s).next := by simp [runReset]
@[simp] theorem runSetStr_intact (args s) : Intact s (runSetStr args s).next := by simp [runSetStr, State.draw]
@[simp] theorem runSetSync_intact (args s) : Intact s (runSetSync args s).next := by simp [runSetSync]
@[simp] theorem execSysGetInfo_intact (via args s) : Intact s (landing s (execSysGetInfo via args s)) := by
  simp [execSysGetInfo]
@[simp] theorem execSysStandby_intact (via args s) : Intact s (landing s (execSysStandby via args s)) := by
  simp [execSysStandby]
@[simp] theorem execSysEnterRecovery_intact (via args s) : Intact s (landing s (execSysEnterRecovery via args s)) := by
  simp [execSysEnterRecovery]
@[simp] theorem execSysReset_intact (via args s) : Intact s (landing s (execSysReset via args s)) := by simp [execSysReset]
@[simp] theorem execSysRestartControl_intact (via args s) : Intact s (landing s (execSysRestartControl via args s)) := by
  simp [execSysRestartControl, runRestartControl]
@[simp] theorem execSysEnterShip_intact (via args s) : Intact s (landing s (execSysEnterShip via args s)) := by
  simp [execSysEnterShip, runEnterShip]
@[simp] theorem execSysSetStr_intact (via args s) : Intact s (landing s (execSysSetStr via args s)) := by simp [execSysSetStr]
@[simp] theorem execSysSetSync_intact (via args s) : Intact s (landing s (execSysSetSync via args s)) := by
  simp [execSysSetSync]
@[simp] theorem execSysSetTime_intact (via args s) : Intact s (landing s (execSysSetTime via args s)) := by
  simp [execSysSetTime, runSetTime]
@[simp] theorem execSysSetVsel_intact (via args s) : Intact s (landing s (execSysSetVsel via args s)) := by
  simp [execSysSetVsel, runSetVsel]
@[simp] theorem execSysSaveConfig_intact (via args s) : Intact s (landing s (execSysSaveConfig via args s)) := by
  simp [execSysSaveConfig, runSaveConfig]

/-! ### Pours, profiles and VSEL -/

@[simp] theorem entryRun_intact (op args s) : Intact s (entryRun op args s).next := by
  unfold entryRun
  split <;> simp
@[simp] theorem runEntry_intact (e s) : Intact s (runEntry e s).2 := by
  unfold runEntry
  have h := entryRun_intact e.op.toNat e.args s
  split
  · simp
  · split <;> simp_all
@[simp] theorem applyEntry_intact (e s) : Intact s (applyEntry e s).2 := by
  unfold applyEntry
  dsimp only
  (repeat' split) <;> simp
@[simp] theorem applyAll_intact : ∀ es s, Intact s (applyAll es s).2
  | [], s => by simp [applyAll]
  | e :: es, s => by simpa [applyAll] using applyAll_intact es (applyEntry e s).2
@[simp] theorem runProfileBegin_intact (args s) : Intact s (runProfileBegin args s).next := by simp [runProfileBegin]
@[simp] theorem runProfileAdd_intact (args s) : Intact s (runProfileAdd args s).next := by
  unfold runProfileAdd
  split <;> simp
@[simp] theorem storeProfile_intact (k profile s) : Intact s (storeProfile k profile s) := by simp [storeProfile]
@[simp] theorem runProfileStore_intact (args s) : Intact s (runProfileStore args s).next := by
  unfold runProfileStore
  split <;> simp
@[simp] theorem runProfileClear_intact (args s) : Intact s (runProfileClear args s).next := by simp [runProfileClear]
@[simp] theorem execSysSetProfileBegin_intact (via args s) : Intact s (landing s (execSysSetProfileBegin via args s)) := by
  simp [execSysSetProfileBegin]
@[simp] theorem execSysSetProfileAdd_intact (via args s) : Intact s (landing s (execSysSetProfileAdd via args s)) := by
  simp [execSysSetProfileAdd]
@[simp] theorem execSysSetProfileStore_intact (via args s) : Intact s (landing s (execSysSetProfileStore via args s)) := by
  simp [execSysSetProfileStore]
@[simp] theorem execSysSetProfileClear_intact (via args s) : Intact s (landing s (execSysSetProfileClear via args s)) := by
  simp [execSysSetProfileClear]
@[simp] theorem profileFailed_intact (s) : Intact s (profileFailed s) := by simp [profileFailed]
@[simp] theorem execVselCount_intact (c s) : Intact s (landing s (execVselCount c s)) := by simp [execVselCount]

/-! ### Black box -/

@[simp] theorem mirrorAon_intact (s) : Intact s (mirrorAon s) := .refl _
@[simp] theorem store_intact (i s) : Intact s (store i s) := by
  unfold store
  cases i <;> dsimp only <;> split <;> simp
@[simp] theorem startPane_intact (pane s) : Intact s (startPane pane s) := by simp [startPane]
@[simp] theorem queueSnap_intact (r s) : Intact s (queueSnap r s) := by simp [queueSnap]
@[simp] theorem writePending_intact (s) : Intact s (writePending s) := by
  unfold writePending
  exact Intact.trans ⟨rfl, rfl, rfl, rfl, rfl, rfl, rfl⟩ (foldl_intact _ (fun _ _ => by simp) _ _)
@[simp] theorem execPaneLoaded_intact (s) : Intact s (landing s (execPaneLoaded s)) := by
  unfold execPaneLoaded
  (repeat' split) <;> simp
@[simp] theorem execBbxWinPaneWrite_intact (pane s) : Intact s (landing s (execBbxWinPaneWrite pane s)) := by
  simp [execBbxWinPaneWrite]
@[simp] theorem endForget_intact (seq kept s) : Intact s (endForget seq kept s) := by
  unfold endForget
  split <;> simp
@[simp] theorem writeFront_intact (badA badB i rs s) : Intact s (writeFront badA badB i rs s) := by
  simp [writeFront, copyFailed]
@[simp] theorem execBbxRecordWrite_intact (badA badB s) : Intact s (landing s (execBbxRecordWrite badA badB s)) := by
  unfold execBbxRecordWrite
  dsimp only
  (repeat' split) <;> simp
@[simp] theorem storeAll_intact (i s) : Intact s (storeAll i s) := by
  unfold storeAll
  split <;> simp
@[simp] theorem storeCarried_intact (h) : ∀ k s, Intact s (storeCarried h k s)
  | 0, s => .refl s
  | k + 1, s => by
    unfold storeCarried
    split
    · exact .refl s
    · simp [storeCarried_intact h k]
@[simp] theorem drain_intact (s) : Intact s (drain s) := by
  unfold drain
  refine Intact.trans (t := s.modBbx fun b => { b with queue := [] }) (.refl s) (foldl_intact _ (fun u i => ?_) _ _)
  refine Intact.trans ?_ (storeAll_intact i _)
  split
  · exact Intact.ite (storeCarried_intact ..) (.refl u)
  · exact .refl u
@[simp] theorem execWithholdWindowClose_intact (key s) : Intact s (landing s (execWithholdWindowClose key s)) := by
  unfold execWithholdWindowClose
  split <;> simp
@[simp] theorem execBbxScrub_intact (s) : Intact s (landing s (execBbxScrub s)) := by simp [execBbxScrub]

/-! ### Restarts, ladder and black-box commands -/

@[simp] theorem promote_intact (c s) : Intact s (promote c s) := by
  unfold promote
  (repeat' split) <;> simp
@[simp] theorem post_intact (x a s) : Intact s (post x a s) := by simp [post]
@[simp] theorem postLost_intact (x s) : Intact s (postLost x s) := by simp [postLost]
@[simp] theorem monLost_intact (s) : Intact s (monLost s) := by simp [monLost]
@[simp] theorem forgetForgets_intact (c s) : Intact s (forgetForgets c s) := by simp [forgetForgets]
@[simp] theorem dropTrial_intact (s) : Intact s (dropTrial s) := by simp [dropTrial]
@[simp] theorem revert_intact (s) : Intact s (revert s) := by simp [revert]
@[simp] theorem runEvidence_intact (args s) : Intact s (runEvidence args s).next := by
  unfold runEvidence
  split <;> simp
@[simp] theorem runRead_intact (args s) : Intact s (runRead args s).next := by
  unfold runRead
  split <;> simp
@[simp] theorem execWdgGetEvidence_intact (via args s) : Intact s (landing s (execWdgGetEvidence via args s)) := by
  simp [execWdgGetEvidence]
@[simp] theorem execBbxGetInfo_intact (via args s) : Intact s (landing s (execBbxGetInfo via args s)) := by
  simp [execBbxGetInfo, runBbxInfo]
@[simp] theorem execBbxSeek_intact (via args s) : Intact s (landing s (execBbxSeek via args s)) := by
  simp [execBbxSeek, runSeek]
@[simp] theorem execBbxRead_intact (via args s) : Intact s (landing s (execBbxRead via args s)) := by simp [execBbxRead]

/-! ### Mailboxes -/

@[simp] theorem ring_intact (x op s) : Intact s (ring x op s) := by simp [ring]
@[simp] theorem execDoorbell_intact (x op args s) : Intact s (landing s (execDoorbell x op args s)) := by simp [execDoorbell]
@[simp] theorem release_intact (x s) : Intact s (release x s) := by simp [release]
@[simp] theorem execMbxRelease_intact (x s) : Intact s (landing s (execMbxRelease x s)) := by simp [execMbxRelease]
@[simp] theorem readEarly_intact (x s) : Intact s (readEarly x s) := by simp [readEarly]
@[simp] theorem execEarlyRead_intact (x u s) : Intact s (landing s (execEarlyRead x u s)) := by simp [execEarlyRead]
@[simp] theorem take_intact (x s) : Intact s (take x s) := by
  unfold take
  dsimp only
  (repeat' split) <;> simp
@[simp] theorem execCommandTake_intact (x s) : Intact s (landing s (execCommandTake x s)) := by simp [execCommandTake]
@[simp] theorem execResultPost_intact (x s) : Intact s (landing s (execResultPost x s)) := by
  unfold execResultPost
  split <;> simp
@[simp] theorem execInternalMailboxMessage_intact (c m s) : Intact s (landing s (execInternalMailboxMessage c m s)) := by
  unfold execInternalMailboxMessage
  dsimp only
  (repeat' split) <;> simp

/-! ### Backplane -/

@[simp] theorem execAddrProbe_intact (acked s) : Intact s (landing s (execAddrProbe acked s)) := by simp [execAddrProbe]
@[simp] theorem queueCtl_intact (q s) : Intact s (queueCtl q s) := by simp [queueCtl]
@[simp] theorem execBeatSend_intact (s) : Intact s (landing s (execBeatSend s)) := by simp [execBeatSend]
@[simp] theorem beatSeen_intact (addr seq s) : Intact s (beatSeen addr seq s) := by simp [beatSeen]
@[simp] theorem execBeat_intact (addr seq s) : Intact s (landing s (execBeat addr seq s)) := by simp [execBeat]
@[simp] theorem execBeatTimeout_intact (lowerAcked s) : Intact s (landing s (execBeatTimeout lowerAcked s)) := by
  simp [execBeatTimeout]
@[simp] theorem execCapDivision_intact (peers s) : Intact s (landing s (execCapDivision peers s)) := by
  simp [execCapDivision, sendCap]
@[simp] theorem execFallback_intact (s) : Intact s (landing s (execFallback s)) := by simp [execFallback]

/-! ### Links and the tie -/

@[simp] theorem dropMessages_intact (x outcome s) : Intact s (dropMessages x outcome s) := by
  unfold dropMessages
  dsimp only
  generalize s.links[x].flight.toList ++ s.links[x].txq = l
  exact (foldl_intact (fun u m => answerOpt m.via 0 [word outcome, word s.links[x].txCtr.toNat] u) (fun _ _ => by simp)
    l s).trans (by simp)
@[simp] theorem detachTo_intact (x st s) : Intact s (detachTo x st s) := by simp [detachTo]
@[simp] theorem sourceOff_intact (x s) : Intact s (sourceOff x s) := by simp [sourceOff]
@[simp] theorem offerRequest_intact (x s) : Intact s (offerRequest x s) := by simp [offerRequest]
@[simp] theorem sendSwap_intact (x s) : Intact s (sendSwap x s) := by simp [sendSwap]
@[simp] theorem swapEnds_intact (x res s) : Intact s (swapEnds x res s) := by simp [swapEnds]
@[simp] theorem enterSwap_intact (x s) : Intact s (enterSwap x s) := by simp [enterSwap]
@[simp] theorem linkActs_intact (x r s) : Intact s (linkActs x r s) := by simp [linkActs]
@[simp] theorem applyContract_intact (x lo hi lim dead s) : Intact s (applyContract x lo hi lim dead s) := by
  simp [applyContract]
@[simp] theorem runRecv_intact (args s) : Intact s (runRecv args s).next := by
  unfold runRecv
  dsimp only
  (repeat' split) <;> simp
@[simp] theorem runLnkStatus_intact (args s) : Intact s (runLnkStatus args s).next := by simp [runLnkStatus]
@[simp] theorem execLnkSetPresent_intact (via args s) : Intact s (landing s (execLnkSetPresent via args s)) := by
  simp [execLnkSetPresent, runSetPresent]
@[simp] theorem execLnkSend_intact (via args s) : Intact s (landing s (execLnkSend via args s)) := by
  simp [execLnkSend, runSend]
@[simp] theorem execLnkRecv_intact (via args s) : Intact s (landing s (execLnkRecv via args s)) := by simp [execLnkRecv]
@[simp] theorem execLnkSetContractApply_intact (via args s) : Intact s (landing s (execLnkSetContractApply via args s)) := by
  simp [execLnkSetContractApply, runApply]
@[simp] theorem execLnkSetContractVoid_intact (via args s) : Intact s (landing s (execLnkSetContractVoid via args s)) := by
  simp [execLnkSetContractVoid, runVoid]
@[simp] theorem execLnkSetTieClose_intact (via args s) : Intact s (landing s (execLnkSetTieClose via args s)) := by
  simp [execLnkSetTieClose, runTieClose]
@[simp] theorem execLnkSetTieOpen_intact (via args s) : Intact s (landing s (execLnkSetTieOpen via args s)) := by
  simp [execLnkSetTieOpen, runTieOpen]
@[simp] theorem execLnkSwapRole_intact (via args s) : Intact s (landing s (execLnkSwapRole via args s)) := by
  simp [execLnkSwapRole, runSwapRole]
@[simp] theorem execLnkGetStatus_intact (via args s) : Intact s (landing s (execLnkGetStatus via args s)) := by
  simp [execLnkGetStatus]
@[simp] theorem execPilotInBand_intact (x v s) : Intact s (landing s (execPilotInBand x v s)) := by simp [execPilotInBand]
@[simp] theorem execDebounceOut_intact (x v s) : Intact s (landing s (execDebounceOut x v s)) := by simp [execDebounceOut]
@[simp] theorem execAttach_intact (x s) : Intact s (landing s (execAttach x s)) := by simp [execAttach]
@[simp] theorem execDualRolePhase_intact (x s) : Intact s (landing s (execDualRolePhase x s)) := by simp [execDualRolePhase]
@[simp] theorem execPilotLoss_intact (x v s) : Intact s (landing s (execPilotLoss x v s)) := by
  simp only [execPilotLoss, landing_pilotEvent]
  (repeat' split) <;> simp
@[simp] theorem execBlankEnd_intact (x s) : Intact s (landing s (execBlankEnd x s)) := by simp [execBlankEnd]
@[simp] theorem endMessage_intact (x outcome s) : Intact s (endMessage x outcome s) := by
  unfold endMessage
  split <;> simp
@[simp] theorem collisionOver_intact (x s) : Intact s (collisionOver x s) := by simp [collisionOver]
@[simp] theorem execMessageTransmit_intact (x collided s) : Intact s (landing s (execMessageTransmit x collided s)) := by
  simp only [execMessageTransmit, transmitAck, transmitMsg, sentFrame, landing_linkEvent]
  (repeat' split) <;> simp
@[simp] theorem execCollisionBackoffEnd_intact (x s) : Intact s (landing s (execCollisionBackoffEnd x s)) := by
  simp [execCollisionBackoffEnd]
@[simp] theorem execAcknowledgementWaitEnd_intact (x s) : Intact s (landing s (execAcknowledgementWaitEnd x s)) := by
  simp [execAcknowledgementWaitEnd]
@[simp] theorem softReset_intact (x s) : Intact s (softReset x s) := by simp [softReset]
@[simp] theorem execAcknowledgement_intact (x ctr s) : Intact s (landing s (execAcknowledgement x ctr s)) := by
  simp only [execAcknowledgement, landing_linkEvent]
  (repeat' split) <;> simp
@[simp] theorem execMessageReceived_intact (x f codesOk s) : Intact s (landing s (execMessageReceived x f codesOk s)) := by
  simp [execMessageReceived]
@[simp] theorem execAccept_intact (x s) : Intact s (landing s (execAccept x s)) := by
  simp only [execAccept, landing_received]
  (repeat' split) <;> simp
@[simp] theorem responderAgain_intact (x s) : Intact s (responderAgain x s) := by simp [responderAgain]
@[simp] theorem execReject_intact (x s) : Intact s (landing s (execReject x s)) := by simp [execReject]
@[simp] theorem execWait_intact (x s) : Intact s (landing s (execWait x s)) := by simp [execWait]
@[simp] theorem execReady_intact (x s) : Intact s (landing s (execReady x s)) := by simp [execReady]
@[simp] theorem execKeepAliveRequest_intact (x s) : Intact s (landing s (execKeepAliveRequest x s)) := by
  simp [execKeepAliveRequest]
@[simp] theorem execKeepAliveResponse_intact (x s) : Intact s (landing s (execKeepAliveResponse x s)) := by
  simp [execKeepAliveResponse]
@[simp] theorem execRoleSwapRequest_intact (x s) : Intact s (landing s (execRoleSwapRequest x s)) := by
  simp [execRoleSwapRequest, dropSwapRequest]
@[simp] theorem execVoid_intact (x s) : Intact s (landing s (execVoid x s)) := by simp [execVoid]
@[simp] theorem execSoftReset_intact (x s) : Intact s (landing s (execSoftReset x s)) := by simp [execSoftReset]
@[simp] theorem execOffer_intact (x objs s) : Intact s (landing s (execOffer x objs s)) := by
  simp only [execOffer, landing_received]
  (repeat' split) <;> simp
@[simp] theorem execVendorDefined_intact (x object0 s) : Intact s (landing s (execVendorDefined x object0 s)) := by
  simp [execVendorDefined]
@[simp] theorem execKeepAlive_intact (x s) : Intact s (landing s (execKeepAlive x s)) := by simp [execKeepAlive]
@[simp] theorem keepAliveOut_intact (x s) : Intact s (keepAliveOut x s) := by simp [keepAliveOut]
@[simp] theorem execKeepAliveTimeout_intact (x s) : Intact s (landing s (execKeepAliveTimeout x s)) := by
  simp [execKeepAliveTimeout]
@[simp] theorem execWindowConfirm_intact (x v s) : Intact s (landing s (execWindowConfirm x v s)) := by
  simp only [execWindowConfirm, landing_portEvent]
  (repeat' split) <;> simp
@[simp] theorem execTransitionTimeout_intact (x s) : Intact s (landing s (execTransitionTimeout x s)) := by
  simp [execTransitionTimeout]
@[simp] theorem execReadyTimeout_intact (x s) : Intact s (landing s (execReadyTimeout x s)) := by simp [execReadyTimeout]
@[simp] theorem execNegotiationTimeout_intact (x s) : Intact s (landing s (execNegotiationTimeout x s)) := by
  simp [execNegotiationTimeout]
@[simp] theorem execTieTrip_intact (i s) : Intact s (landing s (execTieTrip i s)) := by simp [execTieTrip]
@[simp] theorem execResponderRepeat_intact (x s) : Intact s (landing s (execResponderRepeat x s)) := by
  simp [execResponderRepeat]
@[simp] theorem execSwapAnswerTimeout_intact (x s) : Intact s (landing s (execSwapAnswerTimeout x s)) := by
  simp [execSwapAnswerTimeout]
@[simp] theorem execSwapRetry_intact (x s) : Intact s (landing s (execSwapRetry x s)) := by simp [execSwapRetry]
@[simp] theorem execSwapPresentation_intact (x s) : Intact s (landing s (execSwapPresentation x s)) := by
  simp [execSwapPresentation]
@[simp] theorem execSwapPilotLow_intact (x v s) : Intact s (landing s (execSwapPilotLow x v s)) := by simp [execSwapPilotLow]
@[simp] theorem execSwapAttach_intact (x v s) : Intact s (landing s (execSwapAttach x v s)) := by simp [execSwapAttach]
@[simp] theorem execSwapWindowEnd_intact (x s) : Intact s (landing s (execSwapWindowEnd x s)) := by simp [execSwapWindowEnd]

/-! ### Register reads -/

@[simp] theorem refreshShown_intact (s) : Intact s (refreshShown s) := by simp [refreshShown]
@[simp] theorem setLatches_intact (b l s) : Intact s (setLatches b l s) := by cases b <;> simp [setLatches]
@[simp] theorem regRead_intact (b a s) : Intact s (regRead b a s).2 := by
  unfold regRead
  (repeat' split) <;> simp
@[simp] theorem readRun_intact (b fix) : ∀ k a s, Intact s (readRun b fix k a s).2
  | 0, _, s => by simp [readRun]
  | k + 1, a, s => by simpa [readRun] using readRun_intact b fix k (nextAddr fix a) (regRead b a s).2
@[simp] theorem readAccess_intact (b fix k a s) : Intact s (readAccess b fix k a s).2 := by
  unfold readAccess
  split <;> simp
@[simp] theorem execSnapshotRead_intact (b a s) : Intact s (landing s (execSnapshotRead b a s)) := by simp [execSnapshotRead]

/-! ### Firmware -/

@[simp] theorem setStage_intact (st s) : Intact s (setStage st s) := by simp [setStage]
@[simp] theorem runFwInfo_intact (args s) : Intact s (runFwInfo args s).next := by simp [runFwInfo]
@[simp] theorem runStageBegin_intact (args s) : Intact s (runStageBegin args s).next := by simp [runStageBegin]
@[simp] theorem runStageVerify_intact (args s) : Intact s (runStageVerify args s).next := by simp [runStageVerify]
@[simp] theorem execFwVerifyComplete_intact (s) : Intact s (landing s (execFwVerifyComplete s)) := by
  simp [execFwVerifyComplete]
@[simp] theorem runActivate_intact (args s) : Intact s (runActivate args s).next := by simp [runActivate]
@[simp] theorem execTrialEnd_intact (s) : Intact s (landing s (execTrialEnd s)) := by simp [execTrialEnd]
@[simp] theorem execFwGetInfo_intact (via args s) : Intact s (landing s (execFwGetInfo via args s)) := by simp [execFwGetInfo]
@[simp] theorem execFwStageBegin_intact (via args s) : Intact s (landing s (execFwStageBegin via args s)) := by
  simp [execFwStageBegin]
@[simp] theorem execFwStageVerify_intact (via args s) : Intact s (landing s (execFwStageVerify via args s)) := by
  simp [execFwStageVerify]
@[simp] theorem execFwActivate_intact (via args s) : Intact s (landing s (execFwActivate via args s)) := by
  simp [execFwActivate]

/-! ### Service console -/

@[simp] theorem monShow_intact (form args s) : Intact s (monShow form args s) := by simp [monShow]
@[simp] theorem monOk_intact (args s) : Intact s (monOk args s) := by simp [monOk]
@[simp] theorem monErr_intact (reason s) : Intact s (monErr reason s) := by simp [monErr]
@[simp] theorem echoLine_intact (line s) : Intact s (echoLine line s) := by simp [echoLine]
@[simp] theorem toView_intact (s) : Intact s (toView s) := by simp [toView]
@[simp] theorem listed_intact (stop s) : Intact s (listed stop s) := by simp [listed]
@[simp] theorem execRd_intact (addr count s) : Intact s (landing s (execRd addr count s)) := by
  simp only [execRd, landing_monLine, landing_monRun]
  (repeat' split) <;> simp
@[simp] theorem execBb_intact (s) : Intact s (landing s (execBb s)) := by simp [execBb]
@[simp] theorem execBbRecord_intact (seq count s) : Intact s (landing s (execBbRecord seq count s)) := by
  simp only [execBbRecord, landing_monLine, landing_monRun]
  (repeat' split) <;> simp
@[simp] theorem execBbNew_intact (keyPressed s) : Intact s (landing s (execBbNew keyPressed s)) := by simp [execBbNew]
@[simp] theorem execSt_intact (s) : Intact s (landing s (execSt s)) := by simp [execSt, State.draw]
@[simp] theorem authFail_intact (s) : Intact s (authFail s) := by simp [authFail]
@[simp] theorem execAuth_intact (ans s) : Intact s (landing s (execAuth ans s)) := by
  simp only [execAuth, landing_monRun]
  (repeat' split) <;> simp [State.draw]
@[simp] theorem execAuthBlockEnd_intact (s) : Intact s (landing s (execAuthBlockEnd s)) := by simp [execAuthBlockEnd]
@[simp] theorem execBye_intact (s) : Intact s (landing s (execBye s)) := by simp [execBye]
@[simp] theorem execServiceInactivity_intact (s) : Intact s (landing s (execServiceInactivity s)) := by
  simp [execServiceInactivity]
@[simp] theorem execLineBreak_intact (s) : Intact s (landing s (execLineBreak s)) := by simp [execLineBreak]
@[simp] theorem execPr_intact (c count s) : Intact s (landing s (execPr c count s)) := by
  simp only [execPr, landing_svcRun, landing_monLine, landing_monRun]
  (repeat' split) <;> simp
@[simp] theorem execTestLatchOn_intact (s) : Intact s (landing s (execTestLatchOn s)) := by simp [execTestLatchOn]
@[simp] theorem execTestLatchOff_intact (s) : Intact s (landing s (execTestLatchOff s)) := by simp [execTestLatchOff]

/-! ### Metering -/

@[simp] theorem meter_intact (s) : Intact s (meter s) := by simp [meter]
@[simp] theorem execLeaseSnapshot_intact (s) : Intact s (landing s (execLeaseSnapshot s)) := by simp [execLeaseSnapshot]
@[simp] theorem restore_intact (s) : Intact s (restore s) := by
  simp only [restore, restoreFrom, restoreGap]
  (repeat' split) <;> simp
@[simp] theorem queueFlush_intact (s) : Intact s (queueFlush s) := by
  simp [queueFlush, queueCounters]
@[simp] theorem flushThree_intact (s) : Intact s (flushThree s) := by simp [flushThree]
@[simp] theorem queueLoss_intact (s) : Intact s (queueLoss s) := by simp [queueLoss]
@[simp] theorem alarmExpire_intact (x s) : Intact s (alarmExpire x s) := by simp [alarmExpire]
@[simp] theorem execAlarmExpiry_intact (x s) : Intact s (landing s (execAlarmExpiry x s)) := by simp [execAlarmExpiry]

/-! ### Power and keys -/

@[simp] theorem bootRecord_intact (s) : Intact s (bootRecord s) := by simp [bootRecord]
@[simp] theorem setPath_intact (path ok s) : Intact s (setPath path ok s) := by
  unfold setPath
  split <;> simp
@[simp] theorem movePath_intact (s) : Intact s (movePath s) := by simp [movePath]
@[simp] theorem execHkPathLost_intact (path s) : Intact s (landing s (execHkPathLost path s)) := by simp [execHkPathLost]
@[simp] theorem stopAll_intact (s) : Intact s (stopAll s) := by simp [stopAll]
@[simp] theorem bootBank_intact (b s) : Intact s (bootBank b s) := by simp [bootBank]
@[simp] theorem execRecoveryKeyWaitEnd_intact (s) : Intact s (landing s (execRecoveryKeyWaitEnd s)) := by
  simp [execRecoveryKeyWaitEnd]
@[simp] theorem execShipKeyWake_intact (s) : Intact s (landing s (execShipKeyWake s)) := by simp [execShipKeyWake]
@[simp] theorem execShipKeyWakeTimeout_intact (s) : Intact s (landing s (execShipKeyWakeTimeout s)) := by
  simp [execShipKeyWakeTimeout]
@[simp] theorem execKeyShortPress_intact (s) : Intact s (landing s (execKeyShortPress s)) := by
  unfold execKeyShortPress
  dsimp only
  (repeat' split) <;> simp
@[simp] theorem execLongPress_intact (s) : Intact s (landing s (execLongPress s)) := by simp [execLongPress]
@[simp] theorem execEstopRelease_intact (s) : Intact s (landing s (execEstopRelease s)) := by simp [execEstopRelease]

/-! ### HOLD -/

@[simp] theorem dropChange_intact (s) : Intact s (dropChange s) := by simp [dropChange]
@[simp] theorem execHoldLimit_intact (s) : Intact s (landing s (execHoldLimit s)) := by simp [execHoldLimit]
@[simp] theorem holdRampEnd_intact (s) : Intact s (holdRampEnd s) := by simp [holdRampEnd]
@[simp] theorem execHoldRampComplete_intact (s) : Intact s (landing s (execHoldRampComplete s)) := by
  simp [execHoldRampComplete]
@[simp] theorem queueDeferred_intact (s) : Intact s (queueDeferred s) := by
  unfold queueDeferred
  exact Intact.trans ⟨rfl, rfl, rfl, rfl, rfl, rfl, rfl⟩ (foldl_intact _ (fun _ _ => by simp) _ _)
@[simp] theorem reviewTap_intact (n s) : Intact s (reviewTap n s) := by simp [reviewTap]

/-! ### Sensing and the string -/

@[simp] theorem loops_intact (s) : Intact s (loops s) := by simp [loops]

/-! ### Hub and source ports -/

@[simp] theorem hubAt_intact (v f s) : Intact s (hubAt v f s) := by simp [hubAt]

/-! ### Sensing and the string -/

@[simp] theorem retrack_intact (s) : Intact s (retrack s) := by simp [retrack]
@[simp] theorem bandTargets_intact (n s) : Intact s (bandTargets n s) := by simp [bandTargets]
@[simp] theorem lostNtc_intact (n s) : Intact s (lostNtc n s) := by simp [lostNtc]
@[simp] theorem turnBack_intact (n s) : Intact s (turnBack n s) := by simp [turnBack]
@[simp] theorem reverseSeen_intact (was n s) : Intact s (reverseSeen was n s) := by simp [reverseSeen]
@[simp] theorem absorb_intact (m s) : Intact s (absorb m s) := by simp [absorb]

/-! ### Arbiter -/

@[simp] theorem resetSeen_intact (s) : Intact s (resetSeen s) := by simp [resetSeen]
@[simp] theorem cutNotice_intact (n contract cause fin mwh time valid args s) :
    Intact s (cutNotice n contract cause fin mwh time valid args s) := by
  simp [cutNotice]
@[simp] theorem setEpisode_intact (n contract e s) : Intact s (setEpisode n contract e s) := by simp [setEpisode]
@[simp] theorem issueCut_intact (n contract e s) : Intact s (issueCut n contract e s) := by simp [issueCut]
@[simp] theorem meterCut_intact (n contract s) : Intact s (meterCut n contract s) := by simp [meterCut]
@[simp] theorem meterCuts_intact (s) : Intact s (meterCuts s) := by simp [meterCuts]
@[simp] theorem endCut_intact (n contract s) : Intact s (endCut n contract s) := by simp [endCut]
@[simp] theorem endCuts_intact (s) : Intact s (endCuts s) := by simp [endCuts]
@[simp] theorem computePeriod_intact (s) : Intact s (computePeriod s) := by simp [computePeriod, takeSettings]
@[simp] theorem execArbPeriod_intact (m s) : Intact s (landing s (execArbPeriod m s)) := by simp [execArbPeriod]
@[simp] theorem execCutEpisodeEnd_intact (n contract s) : Intact s (landing s (execCutEpisodeEnd n contract s)) := by
  simp [execCutEpisodeEnd]
@[simp] theorem execDoseApply_intact (s) : Intact s (landing s (execDoseApply s)) := by simp [execDoseApply, applyDoses]

/-! ### Register writes -/

@[simp] theorem clearShFault_intact (s) : Intact s (clearShFault s) := by simp [clearShFault]
@[simp] theorem clearHubOv3_intact (s) : Intact s (clearHubOv3 s) := by simp [clearHubOv3]
@[simp] theorem writeShare_intact (n w s) : Intact s (writeShare n w s) := by simp [writeShare]
@[simp] theorem clearHubShown_intact (off w mask s) : Intact s (clearHubShown off w mask s) := by simp [clearHubShown]
@[simp] theorem clearAonShown_intact (off w mask s) : Intact s (clearAonShown off w mask s) := by simp [clearAonShown]
@[simp] theorem writeSys_intact (a w s) : Intact s (writeSys a w s) := by
  simp only [writeSys, writeBusCfg, writeBpCfg]
  split <;> simp
@[simp] theorem writeMbx_intact (x off w s) : Intact s (writeMbx x off w s) := by simp [writeMbx]
@[simp] theorem writeMtr_intact (a w s) : Intact s (writeMtr a w s) := by
  simp only [writeMtr]
  (repeat' split) <;> simp
@[simp] theorem writeTap_intact (n off w s) : Intact s (writeTap n off w s) := by
  simp only [writeTap, clearTapShown]
  split <;> simp
@[simp] theorem execAlarmArm_intact (x s) : Intact s (landing s (execAlarmArm x s)) := by simp [execAlarmArm]
@[simp] theorem execAlarmDisarm_intact (x s) : Intact s (landing s (execAlarmDisarm x s)) := by simp [execAlarmDisarm]
@[simp] theorem execShFaultClear_intact (s) : Intact s (landing s (execShFaultClear s)) := by simp [execShFaultClear]
@[simp] theorem execHubOv3Clear_intact (s) : Intact s (landing s (execHubOv3Clear s)) := by simp [execHubOv3Clear]
@[simp] theorem execSysShareWrite_intact (n w s) : Intact s (landing s (execSysShareWrite n w s)) := by
  simp [execSysShareWrite]

/-! ### Serial buses -/

@[simp] theorem spiResult_intact (code st s) : Intact s (spiResult code st s) := by simp [spiResult]
@[simp] theorem execSpiReadFrame_intact (h count s) : Intact s (landing s (execSpiReadFrame h count s)) := by
  unfold execSpiReadFrame
  dsimp only
  (repeat' split) <;> simp
@[simp] theorem twResult_intact (code s) : Intact s (twResult code s) := by simp [twResult]
@[simp] theorem leavePointer_intact (fix a len s) : Intact s (leavePointer fix a len s) := by simp [leavePointer]
@[simp] theorem execReadTransfer_intact (pointer count s) : Intact s (landing s (execReadTransfer pointer count s)) := by
  unfold execReadTransfer
  dsimp only
  (repeat' split) <;> simp
@[simp] theorem execBusError_intact (s) : Intact s (landing s (execBusError s)) := by simp [execBusError]
@[simp] theorem execSmbusTimeout_intact (s) : Intact s (landing s (execSmbusTimeout s)) := by simp [execSmbusTimeout]
@[simp] theorem execAlertResponseRead_intact (others won s) : Intact s (landing s (execAlertResponseRead others won s)) := by
  simp [execAlertResponseRead]
@[simp] theorem execAlertRepull_intact (s) : Intact s (landing s (execAlertRepull s)) := by simp [execAlertRepull]
@[simp] theorem execBusRecovery_intact (freed s) : Intact s (landing s (execBusRecovery freed s)) := by simp [execBusRecovery]
@[simp] theorem execControllerTransfer_intact (answer s) : Intact s (landing s (execControllerTransfer answer s)) := by
  unfold execControllerTransfer
  (repeat' split) <;> simp

/-! ### Hub and source ports -/

@[simp] theorem enterQualify_intact (x s) : Intact s (enterQualify x s) := by simp [enterQualify]
@[simp] theorem execPortInWindow_intact (x v s) : Intact s (landing s (execPortInWindow x v s)) := by simp [execPortInWindow]
@[simp] theorem leaveQualify_intact (x s) : Intact s (leaveQualify x s) := by
  unfold leaveQualify
  (repeat' split) <;> simp
@[simp] theorem execPortOutOfWindow_intact (x v s) : Intact s (landing s (execPortOutOfWindow x v s)) := by
  simp [execPortOutOfWindow]
@[simp] theorem execQualifyEnd_intact (x s) : Intact s (landing s (execQualifyEnd x s)) := by simp [execQualifyEnd]
@[simp] theorem execPrechargeComplete_intact (x vStage s) : Intact s (landing s (execPrechargeComplete x vStage s)) := by
  simp [execPrechargeComplete]
@[simp] theorem tripPort_intact (x cause s) : Intact s (tripPort x cause s) := by simp [tripPort]
@[simp] theorem execPrechargeTrip_intact (x s) : Intact s (landing s (execPrechargeTrip x s)) := by simp [execPrechargeTrip]
@[simp] theorem execSourceOv_intact (x v s) : Intact s (landing s (execSourceOv x v s)) := by simp [execSourceOv]
@[simp] theorem currentEvent_intact (x i cause hit s) : Intact s (landing s (currentEvent x i cause hit s)) := by
  simp [currentEvent]
@[simp] theorem execSourceOc_intact (x i s) : Intact s (landing s (execSourceOc x i s)) := by simp [execSourceOc]
@[simp] theorem execReverseCurrent_intact (x i s) : Intact s (landing s (execReverseCurrent x i s)) := by
  simp [execReverseCurrent]
@[simp] theorem execSoftstartEnd_intact (x s) : Intact s (landing s (execSoftstartEnd x s)) := by simp [execSoftstartEnd]
@[simp] theorem execPortLoss_intact (x v s) : Intact s (landing s (execPortLoss x v s)) := by simp [execPortLoss]
@[simp] theorem execBackoffEnd_intact (x s) : Intact s (landing s (execBackoffEnd x s)) := by simp [execBackoffEnd]
@[simp] theorem execHubDroop_intact (v s) : Intact s (landing s (execHubDroop v s)) := by simp [execHubDroop]
@[simp] theorem execHubUndervoltage_intact (v s) : Intact s (landing s (execHubUndervoltage v s)) := by
  simp [execHubUndervoltage]
@[simp] theorem execHubRecovery_intact (v s) : Intact s (landing s (execHubRecovery v s)) := by simp [execHubRecovery]
@[simp] theorem execHandOverEnd_intact (s) : Intact s (landing s (execHandOverEnd s)) := by simp [execHandOverEnd]

/-! ### Rods -/

@[simp] theorem joinOne_intact (n s) : Intact s (joinOne n s) := by
  simp only [joinOne]
  split <;> simp
@[simp] theorem joinMany_intact (n) : ∀ k s, Intact s (joinMany n k s)
  | 0, s => by simp [joinMany]
  | k + 1, s => by simpa [joinMany] using joinMany_intact n k (joinOne n s)
@[simp] theorem replaceRod_intact (n s) : Intact s (replaceRod n s) := by simp [replaceRod]
@[simp] theorem keepMinimum_intact (n s) : Intact s (keepMinimum n s) := by simp [keepMinimum]
@[simp] theorem fuseRod_intact (n p cause ok s) : Intact s (fuseRod n p cause ok s) := by simp [fuseRod]
@[simp] theorem leaveRod_intact (n p f s) : Intact s (leaveRod n p f s) := by simp [leaveRod]
@[simp] theorem tripRod_intact (n p cause ok times f s) : Intact s (tripRod n p cause ok times f s) := by simp [tripRod]
@[simp] theorem execRodCurrentTrip_intact (n p fuseOk s) : Intact s (landing s (execRodCurrentTrip n p fuseOk s)) := by
  simp [execRodCurrentTrip]
@[simp] theorem execTransformerPrimaryOvercurrent_intact (n p fuseOk s) :
    Intact s (landing s (execTransformerPrimaryOvercurrent n p fuseOk s)) := by
  simp [execTransformerPrimaryOvercurrent]
@[simp] theorem execRodOverTemperature_intact (n p t s) : Intact s (landing s (execRodOverTemperature n p t s)) := by
  simp [execRodOverTemperature]
@[simp] theorem execRodCooled_intact (n p t s) : Intact s (landing s (execRodCooled n p t s)) := by simp [execRodCooled]
@[simp] theorem execRodRestEnd_intact (n p s) : Intact s (landing s (execRodRestEnd n p s)) := by simp [execRodRestEnd]
@[simp] theorem execSuspect_intact (n p fuseOk s) : Intact s (landing s (execSuspect n p fuseOk s)) := by simp [execSuspect]
@[simp] theorem execAddRod_intact (n s) : Intact s (landing s (execAddRod n s)) := by simp [execAddRod]
@[simp] theorem shedOne_intact (n s) : Intact s (shedOne n s) := by
  simp only [shedOne]
  split <;> simp
@[simp] theorem execShedRod_intact (n s) : Intact s (landing s (execShedRod n s)) := by simp [execShedRod]
@[simp] theorem swapRods_intact (n s) : Intact s (swapRods n s) := by
  unfold swapRods
  dsimp only
  (repeat' split) <;> simp
@[simp] theorem endSwap_intact (n s) : Intact s (endSwap n s) := by
  unfold endSwap
  split <;> simp
@[simp] theorem execWearSwap_intact (n s) : Intact s (landing s (execWearSwap n s)) := by simp [execWearSwap]
@[simp] theorem execRunningTimeSave_intact (s) : Intact s (landing s (execRunningTimeSave s)) := by simp [execRunningTimeSave]
@[simp] theorem execBalancingStep_intact (n iAvg temps s) : Intact s (landing s (execBalancingStep n iAvg temps s)) := by
  simp [execBalancingStep]
@[simp] theorem execBrake_intact (n seen s) : Intact s (landing s (execBrake n seen s)) := by simp [execBrake]
@[simp] theorem runFuseRod_intact (args s) : Intact s (runFuseRod args s).next := by simp [runFuseRod, State.draw]
@[simp] theorem execServiceFuseRod_intact (via args s) : Intact s (landing s (execServiceFuseRod via args s)) := by
  simp [execServiceFuseRod]

/-! ### Carrier and clusters -/

@[simp] theorem execSyncInValid_intact (sig s) : Intact s (landing s (execSyncInValid sig s)) := by simp [execSyncInValid]
@[simp] theorem execSyncLock_intact (s) : Intact s (landing s (execSyncLock s)) := by simp [execSyncLock]
@[simp] theorem execSyncInLoss_intact (s) : Intact s (landing s (execSyncInLoss s)) := by simp [execSyncInLoss]
@[simp] theorem execSyncGlideEnd_intact (s) : Intact s (landing s (execSyncGlideEnd s)) := by simp [execSyncGlideEnd]
@[simp] theorem execClusterPowerDown_intact (x s) : Intact s (landing s (execClusterPowerDown x s)) := by
  simp [execClusterPowerDown]
@[simp] theorem execClusterWake_intact (x s) : Intact s (landing s (execClusterWake x s)) := by simp [execClusterWake]
@[simp] theorem heldRun_intact (op via args s) : Intact s (heldRun op via args s).next := by
  unfold heldRun
  split <;> simp
@[simp] theorem execClusterWakeDone_intact (x s) : Intact s (landing s (execClusterWakeDone x s)) := by
  simp [execClusterWakeDone]

/-! ### Stakes -/

@[simp] theorem execStakeStart_intact (n s) : Intact s (landing s (execStakeStart n s)) := by simp [execStakeStart]
@[simp] theorem arrive_intact (n s) : Intact s (arrive n s) := by simp [arrive]
@[simp] theorem closeSwitch_intact (n mv s) : Intact s (closeSwitch n mv s) := by simp [closeSwitch]
@[simp] theorem execPreStartResult_intact (n m fuseOk s) : Intact s (landing s (execPreStartResult n m fuseOk s)) := by
  simp [execPreStartResult, fuseFailed, passPretest]
@[simp] theorem execPreBiasComplete_intact (n vNode s) : Intact s (landing s (execPreBiasComplete n vNode s)) := by
  simp [execPreBiasComplete]
@[simp] theorem failAttempt_intact (n prebias s) : Intact s (failAttempt n prebias s) := by simp [failAttempt]
@[simp] theorem execPrebiasFail_intact (n s) : Intact s (landing s (execPrebiasFail n s)) := by simp [execPrebiasFail]
@[simp] theorem execSoftStartComplete_intact (n s) : Intact s (landing s (execSoftStartComplete n s)) := by
  simp [execSoftStartComplete]
@[simp] theorem execSlewComplete_intact (n s) : Intact s (landing s (execSlewComplete n s)) := by simp [execSlewComplete]
@[simp] theorem execShortCheckFail_intact (n v s) : Intact s (landing s (execShortCheckFail n v s)) := by
  simp [execShortCheckFail]
@[simp] theorem execHiccupEnd_intact (n s) : Intact s (landing s (execHiccupEnd n s)) := by simp [execHiccupEnd]
@[simp] theorem execKeepLow_intact (n v s) : Intact s (landing s (execKeepLow n v s)) := by simp [execKeepLow]
@[simp] theorem handOffNow_intact (n s) : Intact s (handOffNow n s) := by simp [handOffNow]
@[simp] theorem execStandInExcess_intact (n i s) : Intact s (landing s (execStandInExcess n i s)) := by
  simp [execStandInExcess]
@[simp] theorem execStandInImmediateBypass_intact (n v s) : Intact s (landing s (execStandInImmediateBypass n v s)) := by
  simp [execStandInImmediateBypass]
@[simp] theorem execSlotFbPresent_intact (n s) : Intact s (landing s (execSlotFbPresent n s)) := by
  simp [execSlotFbPresent, fbSeen]
@[simp] theorem execBypassRampEnd_intact (n s) : Intact s (landing s (execBypassRampEnd n s)) := by simp [execBypassRampEnd]
@[simp] theorem execBypFail_intact (n s) : Intact s (landing s (execBypFail n s)) := by simp [execBypFail]
@[simp] theorem execBypassFaultOpen_intact (n s) : Intact s (landing s (execBypassFaultOpen n s)) := by
  simp [execBypassFaultOpen]
@[simp] theorem execSlotFbClear_intact (n s) : Intact s (landing s (execSlotFbClear n s)) := by simp [execSlotFbClear]
@[simp] theorem execSlotFbClearTimeout_intact (n s) : Intact s (landing s (execSlotFbClearTimeout n s)) := by
  simp [execSlotFbClearTimeout]
@[simp] theorem execAutoReturn_intact (n s) : Intact s (landing s (execAutoReturn n s)) := by simp [execAutoReturn]
@[simp] theorem execTrackFault_intact (s) : Intact s (landing s (execTrackFault s)) := by simp [execTrackFault]
@[simp] theorem execTrackResume_intact (v s) : Intact s (landing s (execTrackResume v s)) := by simp [execTrackResume]

/-! ### Tap state machine -/

@[simp] theorem seeV_intact (n v s) : Intact s (seeV n v s) := by simp [seeV]
@[simp] theorem execPresence_intact (n v s) : Intact s (landing s (execPresence n v s)) := by simp [execPresence]
@[simp] theorem removed_intact (n s) : Intact s (removed n s) := by
  simp only [removed, removedToAbsent]
  (repeat' split) <;> simp
@[simp] theorem execRemoval_intact (n seen s) : Intact s (landing s (execRemoval n seen s)) := by simp [execRemoval]
@[simp] theorem execBlockInserted_intact (seen s) : Intact s (landing s (execBlockInserted seen s)) := by
  simp [execBlockInserted]
@[simp] theorem execDetectSettled_intact (n v vPair s) : Intact s (landing s (execDetectSettled n v vPair s)) := by
  simp [execDetectSettled, leaveDetect]
@[simp] theorem execCuppingPulse_intact (n dv di s) : Intact s (landing s (execCuppingPulse n dv di s)) := by
  simp [execCuppingPulse]
@[simp] theorem judgeCupping_intact (n ocv s) : Intact s (judgeCupping n ocv s) := by
  unfold judgeCupping
  dsimp only
  (repeat' split) <;> simp
@[simp] theorem execCuppingEnd_intact (n ocv s) : Intact s (landing s (execCuppingEnd n ocv s)) := by simp [execCuppingEnd]
@[simp] theorem execPrechargeToCc_intact (n v s) : Intact s (landing s (execPrechargeToCc n v s)) := by
  simp only [execPrechargeToCc, landing_atVolt]
  split
  · refine smDwell_intact (fun s => ?_) 10000 s
    split <;> simp
  · exact .refl _
@[simp] theorem execCcToCv_intact (n s) : Intact s (landing s (execCcToCv n s)) := by simp [execCcToCv]
@[simp] theorem execCvToCc_intact (n s) : Intact s (landing s (execCvToCc n s)) := by simp [execCvToCc]
@[simp] theorem execEndOfCharge_intact (n i s) : Intact s (landing s (execEndOfCharge n i s)) := by
  refine smDwell_intact (fun s => ?_) 60000 s
  split <;> simp
@[simp] theorem execTopOffDepth_intact (n s) : Intact s (landing s (execTopOffDepth n s)) := by simp [execTopOffDepth]
@[simp] theorem execRechargeDepth_intact (n s) : Intact s (landing s (execRechargeDepth n s)) := by simp [execRechargeDepth]
@[simp] theorem execTopOffTimerExpiry_intact (n s) : Intact s (landing s (execTopOffTimerExpiry n s)) := by
  simp [execTopOffTimerExpiry]
@[simp] theorem execKeepCondition_intact (n seen s) : Intact s (landing s (execKeepCondition n seen s)) := by
  simp [execKeepCondition]
@[simp] theorem execKeepRelease_intact (n byString s) : Intact s (landing s (execKeepRelease n byString s)) := by
  simp [execKeepRelease]
@[simp] theorem execTemperatureSuspension_intact (n t s) : Intact s (landing s (execTemperatureSuspension n t s)) := by
  simp [execTemperatureSuspension]
@[simp] theorem resumeLeft_intact (n s) : Intact s (resumeLeft n s) := by simp [resumeLeft]
@[simp] theorem execSuspensionReturn_intact (n t s) : Intact s (landing s (execSuspensionReturn n t s)) := by
  refine smFw_intact (fun s => ?_) 10000 s
  dsimp only
  split
  · split <;> simp
  · exact .refl _
@[simp] theorem execTemperatureBandChange_intact (n t s) : Intact s (landing s (execTemperatureBandChange n t s)) := by
  simp [execTemperatureBandChange]
@[simp] theorem execSensorSuspend_intact (n s) : Intact s (landing s (execSensorSuspend n s)) := by simp [execSensorSuspend]
@[simp] theorem execNoDose_intact (n s) : Intact s (landing s (execNoDose n s)) := by simp [execNoDose]
@[simp] theorem execNoDoseReturn_intact (n s) : Intact s (landing s (execNoDoseReturn n s)) := by simp [execNoDoseReturn]
@[simp] theorem expireTimer_intact (n precharge s) : Intact s (expireTimer n precharge s) := by simp [expireTimer]
@[simp] theorem execSafetyTimerExpiry_intact (n precharge s) :
    Intact s (landing s (execSafetyTimerExpiry n precharge s)) := by
  simp [execSafetyTimerExpiry]
@[simp] theorem execFaultTherm_intact (n t s) : Intact s (landing s (execFaultTherm n t s)) := by simp [execFaultTherm]
@[simp] theorem enterOv_intact (n s) : Intact s (enterOv n s) := by simp [enterOv]
@[simp] theorem execFaultOv_intact (n v s) : Intact s (landing s (execFaultOv n v s)) := by simp [execFaultOv]
@[simp] theorem execStakeOutputOverVoltage_intact (n v s) : Intact s (landing s (execStakeOutputOverVoltage n v s)) := by
  simp [execStakeOutputOverVoltage]
@[simp] theorem execShort_intact (n v fallback s) : Intact s (landing s (execShort n v fallback s)) := by simp [execShort]
@[simp] theorem execKelvinBad_intact (n seen s) : Intact s (landing s (execKelvinBad n seen s)) := by simp [execKelvinBad]
@[simp] theorem execNtcSplit_intact (n a b s) : Intact s (landing s (execNtcSplit n a b s)) := by simp [execNtcSplit]
@[simp] theorem execReverse_intact (n vPair s) : Intact s (landing s (execReverse n vPair s)) := by simp [execReverse]
@[simp] theorem execChargeFromSystem_intact (n v s) : Intact s (landing s (execChargeFromSystem n v s)) := by
  simp [execChargeFromSystem]

/-! ### String shunt -/

@[simp] theorem execShuntBitstreamInvalid_intact (s) : Intact s (landing s (execShuntBitstreamInvalid s)) := by
  simp [execShuntBitstreamInvalid]
@[simp] theorem execShuntBitstreamValid_intact (i s) : Intact s (landing s (execShuntBitstreamValid i s)) := by
  unfold execShuntBitstreamValid
  (repeat' split) <;> simp
@[simp] theorem execFbMismatch_intact (fb s) : Intact s (landing s (execFbMismatch fb s)) := by simp [execFbMismatch]
@[simp] theorem execStringOver1500v_intact (v s) : Intact s (landing s (execStringOver1500v v s)) := by
  simp [execStringOver1500v]

/-! ### The tick -/

@[simp] theorem tickWear_intact (n s) : Intact s (tickWear n s) := by simp [tickWear]
@[simp] theorem tickPerf_intact (s) : Intact s (tickPerf s) := by simp [tickPerf]
@[simp] theorem tickBoxes_intact (s) : Intact s (tickBoxes s) := by simp [tickBoxes]
@[simp] theorem tickKeepAlive_intact (x s) : Intact s (tickKeepAlive x s) := by simp [tickKeepAlive]
@[simp] theorem tickExpire_intact (n s) : Intact s (tickExpire n s) := by simp [tickExpire]
@[simp] theorem tickAlarm_intact (x s) : Intact s (tickAlarm x s) := by simp [tickAlarm]
@[simp] theorem tickLoss_intact (s) : Intact s (tickLoss s) := by
  simp [tickLoss]

end Sys2Proof.Machine
end

/-! ## Every step keeps the invariant

`Keeps` says that the invariant passes from one state to another; it follows from `Intact`. The rows that change the
line, HOLD's memory, the stores of recipes and images, the queue of alerts or the challenge are taken one by one. -/

section
open Sys2Proof.Claims

namespace Sys2Proof.Machine

/-- The invariant passes from one state to another. -/
structure Keeps (s t : State) : Prop where
  inv : Inv s → Inv t

/-- TICK is high exactly while nobody pulls it, and the 500 ns after a rise pass with it high (R201, R205). -/
def Pour.Lined (p : Pour) : Prop := p.tick = !(p.pulling || p.tickOther) ∧ (p.rise = true → p.tick = true)

/-- All that the invariant speaks of but the line is as before. -/
@[simp, reducible] def Beside (s t : State) : Prop :=
  t.sys.before = s.sys.before ∧ t.fw.mem = s.fw.mem ∧ t.alr.fits = s.alr.fits ∧ t.wdg.challenge = s.wdg.challenge ∧
  t.rcp.data = s.rcp.data ∧ t.rcp.slots = s.rcp.slots

section
variable {s t u : State}

theorem Keeps.refl (s) : Keeps s s := ⟨id⟩
theorem Keeps.trans (h : Keeps s t) (k : Keeps t u) : Keeps s u := ⟨k.inv ∘ h.inv⟩
theorem Keeps.ite {p : Prop} [Decidable p] (h : Keeps s t) (k : Keeps s u) : Keeps s (if p then t else u) := by
  split <;> assumption

theorem Keeps.of_line (hline : s.pour.Lined → t.pour.Lined) (h : Beside s t) : Keeps s t := by
  constructor
  rintro ⟨hch, hq, htick, hrise, hb, hmem, hdata, hslots⟩
  obtain ⟨kb, kmem, kfits, kch, kdata, kslots⟩ := h
  obtain ⟨ktick, krise⟩ := hline ⟨htick, hrise⟩
  refine ⟨by rwa [kch], ?_, ktick, krise, by rwa [kb], by rwa [kmem], by rwa [kdata], by rwa [kslots]⟩
  simpa [Alr.fits, hq] using kfits

theorem Keeps.of_intact (h : Intact s t) : Keeps s t := .of_line (by rw [h.1]; exact id) h.2

theorem Keeps.then (h : Keeps s t) (k : Intact t u) : Keeps s u := h.trans (.of_intact k)
theorem Keeps.after (h : Intact s t) (k : Keeps t u) : Keeps s u := .trans (.of_intact h) k

end

/-! ### Commands -/

theorem issue_keeps {op run via args s} (h : Keeps s (Reply.next (run args s))) : Keeps s (issue op run via args s) :=
  (issue_intact_or op run via args s).elim .of_intact h.then

theorem checked_keeps {cs s} {k : Reply} (h : Keeps s k.next) : Keeps s (checked cs s k).next := by
  rw [checked_next]
  exact .ite (.refl s) h

theorem toFlash_keeps {r : State → Reply} {s} (h : Keeps s (r s).next) : Keeps s (toFlash r s).next := by
  unfold toFlash
  split
  · next heq =>
    rw [heq] at h
    split
    · exact .of_intact (.refl s)
    · exact h.then (.refl _)
  · exact h

theorem ranked_keeps {r f s} (h : Keeps s (f s)) : Keeps s (ranked r f s) := by
  unfold ranked
  exact .ite (.refl s) (h.then (.refl _))

theorem withFlt_keeping {f : State → State} {s} (h : Keeps s (f s)) : Keeps s (withFlt f s) :=
  h.then (by simp [withFlt])

/-! ### The line -/

theorem settle_lined (p : Pour) : p.settle.Lined := by
  refine ⟨settle_tick p, fun h => ?_⟩
  unfold Pour.settle at h ⊢
  exact ((Bool.and_eq_true _ _).mp h).1

/-- The line depends on the pulls and on what it showed before. -/
theorem Pour.Lined.congr {p q : Pour} (h : p.Lined) (htick : q.tick = p.tick) (hpull : q.pulling = p.pulling)
    (hother : q.tickOther = p.tickOther) (hrise : q.rise = p.rise) : q.Lined := by
  unfold Pour.Lined at *
  rwa [htick, hpull, hother, hrise]

theorem pourEnd_lined {result veto s} (h : s.pour.Lined) : (pourEnd result veto s).pour.Lined := by
  by_cases hst : s.pour.state = .idle
  · simpa [pourEnd, hst] using h
  · rw [pourEnd_pour hst]
    exact settle_lined _

theorem pourEnd_keeping (result veto s) : Keeps s (pourEnd result veto s) := .of_line pourEnd_lined (by simp)
theorem pourAbort_keeping (s) : Keeps s (pourAbort s) := pourEnd_keeping ..

/-- A change that leaves the line. -/
theorem Keeps.of_same {s t : State} (h : t.pour.tick = s.pour.tick ∧ t.pour.pulling = s.pour.pulling ∧
    t.pour.tickOther = s.pour.tickOther ∧ t.pour.rise = s.pour.rise) (k : Beside s t) : Keeps s t :=
  .of_line (fun l => l.congr h.1 h.2.1 h.2.2.1 h.2.2.2) k

/-- A change of the pour that settles its line. -/
theorem settle_keeping (f : Pour → Pour) (s : State) : Keeps s (s.modPour fun p => (f p).settle) :=
  .of_line (fun _ => settle_lined _) ⟨rfl, rfl, rfl, rfl, rfl, rfl⟩

/-! ### The commands of a pour -/

theorem runPourOpen_keeps (args s) : Keeps s (runPourOpen args s).next :=
  checked_keeps (.of_same ⟨rfl, rfl, rfl, rfl⟩ ⟨rfl, rfl, rfl, rfl, rfl, rfl⟩)

theorem runPourAdd_keeps (args s) : Keeps s (runPourAdd args s).next :=
  checked_keeps (.of_same ⟨rfl, rfl, rfl, rfl⟩ ⟨rfl, rfl, rfl, rfl, rfl, rfl⟩)

theorem runPourPrepare_keeps (via args s) : Keeps s (runPourPrepare via args s).next := by
  refine checked_keeps ?_
  dsimp only
  split
  · rw [next_now]
    refine Keeps.trans ?_ (pourEnd_keeping ..)
    exact .of_same ⟨rfl, rfl, rfl, rfl⟩ ⟨rfl, rfl, rfl, rfl, rfl, rfl⟩
  · exact .of_same ⟨rfl, rfl, rfl, rfl⟩ ⟨rfl, rfl, rfl, rfl, rfl, rfl⟩

theorem runPourAbort_keeps (args s) : Keeps s (runPourAbort args s).next := checked_keeps (pourAbort_keeping s)

/-! ### The events of the line -/

theorem ctlRelease_keeps (id s) : Keeps s (ctlRelease id s) :=
  .ite (settle_keeping _ s) (.of_same ⟨rfl, rfl, rfl, rfl⟩ ⟨rfl, rfl, rfl, rfl, rfl, rfl⟩)

theorem ctlAbort_keeps (id s) : Keeps s (ctlAbort id s) :=
  .ite (pourAbort_keeping s) (.of_same ⟨rfl, rfl, rfl, rfl⟩ ⟨rfl, rfl, rfl, rfl, rfl, rfl⟩)

theorem execPourPrepared_keeps (s) : Keeps s (landing s (execPourPrepared s)) :=
  .ite (.refl s) <| .ite (.ite (settle_keeping _ s) (.refl s)) <|
    Keeps.then (t := s.modPour Pour.prepare) (settle_keeping _ s) (by simp)

theorem execTickFall_keeps (s) : Keeps s (landing s (execTickFall s)) :=
  .ite (settle_keeping _ s) (.refl s)

theorem execPourTimeout_keeps (s) : Keeps s (landing s (execPourTimeout s)) := by
  unfold execPourTimeout
  rw [ite_landing]
  refine .ite ?_ (.refl s)
  have ended := pourEnd_keeping 0x51 true s
  dsimp only
  split
  · split
    · exact ended.then (by simp)
    · exact ended.then (.refl _)
  · exact ended

theorem execVetoEnd_keeps (s) : Keeps s (landing s (execVetoEnd s)) :=
  .ite (settle_keeping _ s) (.refl s)

theorem execHoldPullEnd_keeps (s) : Keeps s (landing s (execHoldPullEnd s)) :=
  .ite (settle_keeping _ s) (.refl s)

theorem stageProfile_keeps (k s) : Keeps s (stageProfile k s) := by
  unfold stageProfile
  refine (pourAbort_keeping s).trans ?_
  generalize pourAbort s = u
  dsimp only
  split
  · refine Keeps.then ?_ (profileFailed_intact _)
    refine Keeps.trans ?_ (pourEnd_keeping ..)
    exact .of_same ⟨rfl, rfl, rfl, rfl⟩ ⟨rfl, rfl, rfl, rfl, rfl, rfl⟩
  · exact .of_same ⟨rfl, rfl, rfl, rfl⟩ ⟨rfl, rfl, rfl, rfl, rfl, rfl⟩

theorem execProfileApply_keeps (s) : Keeps s (landing s (execProfileApply s)) := by
  unfold execProfileApply
  split
  · exact .ite (stageProfile_keeps _ s) (.refl s)
  · exact .refl s

theorem execProfileRetry_keeps (s) : Keeps s (landing s (execProfileRetry s)) := by
  unfold execProfileRetry
  split
  · exact .ite (stageProfile_keeps _ s) (.refl s)
  · exact .refl s

/-! ### The commit -/

@[simp] theorem enterRun_before (cause s) : (enterRun cause s).sys.before = s.sys.before := by simp [enterRun]
@[simp] theorem wdgEnable_intact (s) : Intact s (wdgEnable s) := by simp [wdgEnable]
@[simp] theorem enterRun_intact (cause s) : Intact s (enterRun cause s) := by simp [enterRun]

theorem profileCommit_intact (k s) : Intact s (profileCommit k s) := by
  unfold profileCommit
  extract_lets p _ s₁ s₂
  have entered : Intact s s₂ := by simp [s₁, s₂]
  have contactor (u : State) : Intact u (if p.valid && !u.sys.longPress then
      match p.str with
      | 1 => u.modSys (setStr true)
      | 2 => u.modSys (setStr false)
      | _ => u else u) := by
    refine .ite ?_ (.refl u)
    split <;> simp
  exact entered.trans (contactor s₂)

theorem commit_keeps (s) : Keeps s (commit s) := by
  have opened : Keeps s ((s.mapTaps fun _ t => { t with acted := 0 }).modPour fun p => { p with state := .opened }) :=
    .of_line (fun h => h.congr rfl rfl rfl rfl) (by simp)
  unfold commit
  dsimp only
  generalize ((s.mapTaps fun _ t => { t with acted := 0 }).modPour fun p => { p with state := .opened }) = u at *
  have applied := opened.then (applyAll_intact s.pour.entries u)
  generalize applyAll s.pour.entries u = r at *
  refine Keeps.trans (applied.then (t := r.2) (u := { r.2 with
    hub := { r.2.hub with modeIn := if r.1.any setsMode then r.2.hub.mode else r.2.hub.modeIn } }) (.refl _)) ?_
  refine (pourEnd_keeping 0 false _).trans ?_
  generalize pourEnd 0 false _ = v
  split
  · refine Keeps.then ?_ (profileCommit_intact ..)
    exact .of_same ⟨rfl, rfl, rfl, rfl⟩ ⟨rfl, rfl, rfl, rfl, rfl, rfl⟩
  · exact .of_same ⟨rfl, rfl, rfl, rfl⟩ ⟨rfl, rfl, rfl, rfl, rfl, rfl⟩

theorem edgeEnd_keeps (fits s) : Keeps s (edgeEnd fits s) :=
  (settle_keeping _ s).trans (.ite (commit_keeps _) (.refl _))

theorem execCommitEdge_keeps (edge s) : Keeps s (landing s (execCommitEdge edge s)) := by
  unfold execCommitEdge
  refine .ite (.refl s) ?_
  have risen : Keeps s (s.modPour fun p => let p := ({ p with tickOther := false } : Pour).settle
      { p with badLow := p.rise && !decide (1000 ≤ edge.lowNs ∧ edge.lowNs ≤ 50000000) }) :=
    .of_line (fun _ => (settle_lined { s.pour with tickOther := false }).congr rfl rfl rfl rfl)
      ⟨rfl, rfl, rfl, rfl, rfl, rfl⟩
  exact risen.trans (.ite (edgeEnd_keeps _ _) (.refl _))

end Sys2Proof.Machine
end

/-! ## The invariant: stores, access and the changes of state -/

section
open Sys2Proof.Claims

namespace Sys2Proof.Machine

/-! ### The stores of recipes and images -/

/-- All that the invariant speaks of but the stores of recipes is as before. -/
@[simp, reducible] def BesideRcp (s t : State) : Prop :=
  t.pour = s.pour ∧ t.sys.before = s.sys.before ∧ t.fw.mem = s.fw.mem ∧ t.alr.fits = s.alr.fits ∧
  t.wdg.challenge = s.wdg.challenge

/-- The three regions of a slot are in canonical form. -/
def Slot.Formed (p : Slot) : Prop := Memory.wf p.code = true ∧ Memory.wf p.data = true ∧ Memory.wf p.sig = true

theorem Keeps.of_rcp {s t : State} (hdata : Memory.wf s.rcp.data = true → (∀ k : Fin 8, s.rcp.slots[k].Formed) →
      Memory.wf t.rcp.data = true)
    (hslots : ∀ k : Fin 8, s.rcp.slots[k].Formed → t.rcp.slots[k].Formed) (h : BesideRcp s t) : Keeps s t := by
  constructor
  rintro ⟨hch, hq, htick, hrise, hb, hmem, kdata, kslots⟩
  obtain ⟨kpour, kb, kmem, kfits, kch⟩ := h
  refine ⟨by rwa [kch], ?_, by rwa [kpour], by rwa [kpour], by rwa [kb], by rwa [kmem], hdata kdata kslots,
    fun k => hslots k (kslots k)⟩
  simpa [Alr.fits, hq] using kfits

/-- A slot by its number is in canonical form. -/
theorem slotAt_formed {s : State} (h : ∀ k : Fin 8, s.rcp.slots[k].Formed) (k) : (slotAt s k).Formed := by
  unfold slotAt
  by_cases hk : k < 8
  · simpa [List.getD, hk] using h ⟨k, hk⟩
  · simp [List.getD, hk, Slot.Formed, Slot.reset]

theorem modSlot_keeps {f : Slot → Slot} (h : ∀ p, p.Formed → (f p).Formed) (k s) : Keeps s (modSlot k f s) := by
  refine .of_rcp (fun h _ => h) (fun i hi => ?_) ⟨rfl, rfl, rfl, rfl, rfl⟩
  simp only [modSlot, vec_get]
  split
  · exact h _ hi
  · exact hi

theorem runRegisterKey_keeps (args s) : Keeps s (runRegisterKey args s).next := by
  refine checked_keeps (toFlash_keeps ?_)
  by_cases h : arg args 0 = 0
  · simp only [h, if_true]
    exact .of_intact ⟨rfl, rfl, rfl, rfl, rfl, rfl, rfl⟩
  · simp only [h, if_false]
    exact .of_intact ⟨rfl, rfl, rfl, rfl, rfl, rfl, rfl⟩

theorem runLoad_keeps (args s) : Keeps s (runLoad args s).next := by
  refine checked_keeps (toFlash_keeps ?_)
  rw [done, next_now]
  refine modSlot_keeps (fun p hp => ?_) _ s
  obtain ⟨hcode, hdata, hsig⟩ := hp
  split
  · exact ⟨memWriteAll_wf _ _ _ hcode, hdata, hsig⟩
  · exact ⟨hcode, memWriteAll_wf _ _ _ hdata, hsig⟩
  · exact ⟨hcode, hdata, memWriteAll_wf _ _ _ hsig⟩

theorem runVerify_keeps (args s) : Keeps s (runVerify args s).next := by
  refine checked_keeps ?_
  split
  · exact .refl s
  · rw [ite_next]
    refine .ite (toFlash_keeps ?_) (.refl s)
    rw [done, next_now]
    exact modSlot_keeps (f := fun p => { p with verified := true }) (fun _ h => h) _ s

theorem rcpAgain_keeps (s) : Keeps s (rcpAgain s) := by
  unfold rcpAgain
  split
  · exact .refl s
  · refine .ite (.refl s) (Keeps.then ?_ (callEntry_intact ..))
    exact .of_rcp (fun _ h => memWriteAll_wf _ _ _ (slotAt_formed h _).2.1) (fun _ h => h) ⟨rfl, rfl, rfl, rfl, rfl⟩

theorem runStart_keeps (args s) : Keeps s (runStart args s).next := by
  have halted : Intact s (rcpHalt s) := by simp
  refine checked_keeps (.after halted ?_)
  generalize rcpHalt s = u
  rw [done, next_now]
  refine .ite ?_ (Keeps.then ?_ (callEntry_intact ..))
  all_goals exact .of_rcp (fun _ h => (slotAt_formed h _).2.1) (fun _ h => h) ⟨rfl, rfl, rfl, rfl, rfl⟩

theorem opEffect_keeps (o s) : Keeps s (opEffect o s) := by
  cases o with
  | store a k v =>
    refine .ite ?_ (.of_intact ⟨rfl, rfl, rfl, rfl, rfl, rfl, rfl⟩)
    exact .of_rcp (fun h _ => memWriteAll_wf _ _ _ h) (fun _ h => h) ⟨rfl, rfl, rfl, rfl, rfl⟩
  | fetch a => exact .of_intact ⟨rfl, rfl, rfl, rfl, rfl, rfl, rfl⟩
  | load a k => exact .of_intact ⟨rfl, rfl, rfl, rfl, rfl, rfl, rfl⟩
  | csrRead a => exact .of_intact (by simp [opEffect])
  | csrWrite a => exact .refl s

theorem runOps_keeps : ∀ os s, Keeps s (runOps os s)
  | [], s => .refl s
  | o :: os, s => by
    unfold runOps
    split
    · exact .of_intact (rcpFault_intact ..)
    · exact (opEffect_keeps o s).trans (runOps_keeps os _)

theorem execYield_keeps (out rest s) : Keeps s (landing s (execYield out rest s)) := by
  unfold execYield
  refine (ite_landing ..).symm ▸ .ite (.refl s) ((runOps_keeps rest.ops s).trans ?_)
  generalize runOps rest.ops s = u
  dsimp only [landing_next]
  split
  · exact .after ⟨rfl, rfl, rfl, rfl, rfl, rfl, rfl⟩ (.of_intact (yielded_intact _))
  · exact .after ⟨rfl, rfl, rfl, rfl, rfl, rfl, rfl⟩ (.of_intact (yielded_intact _))
  · exact .refl u

/-- A change of the staged image. -/
theorem Keeps.of_image {s t : State} (h : Memory.wf s.fw.mem = true → Memory.wf t.fw.mem = true)
    (k : t = { s with fw := t.fw, sys := { t.sys with before := s.sys.before } }) : Keeps s t := by
  rw [k]
  exact ⟨fun ⟨hch, hq, htick, hrise, hb, hmem, hrcp⟩ => ⟨hch, hq, htick, hrise, hb, h hmem, hrcp⟩⟩

theorem execFwEraseComplete_keeps (s) : Keeps s (landing s (execFwEraseComplete s)) :=
  .ite (.of_image (fun _ => rfl) rfl) (.refl s)

theorem runStageWrite_keeps (args s) : Keeps s (runStageWrite args s).next :=
  checked_keeps (toFlash_keeps (.of_image (memWriteAll_wf _ _ _) rfl))

theorem activate_keeps (s) : Keeps s (activate s) := .of_image (fun _ => rfl) rfl

/-! ### The end of an access -/

theorem settleAlert_intact (s) : Intact s (settleAlert s) := by simp [settleAlert]

/-- Fewer alerts wait. -/
theorem Keeps.of_fewer {s : State} {alr : Alr} (h : alr.queue.length ≤ s.alr.queue.length) :
    Keeps s { s with alr := alr } :=
  ⟨fun ⟨hch, hq, hrest⟩ => ⟨hch, h.trans hq, hrest⟩⟩

theorem ackBySeq_keeps (s) : Keeps s (ackBySeq s) :=
  .ite (Keeps.then (.of_fewer (List.length_filter_le ..)) (settleAlert_intact _)) (.of_fewer le_rfl)

theorem ackByClass_keeps (mask s) : Keeps s (ackByClass mask s) :=
  Keeps.then (.of_fewer (List.length_filter_le ..)) (settleAlert_intact _)

theorem writeMid_keeps (a w s) : Keeps s (writeMid a w s) := by
  unfold writeMid
  dsimp only
  split
  case h_4 => exact .ite (.of_intact (by simp)) (.refl s)
  case h_5 => exact .of_intact (by simp [clearFltShown])
  case h_6 => exact .of_same ⟨rfl, rfl, rfl, rfl⟩ ⟨rfl, rfl, rfl, rfl, rfl, rfl⟩
  case h_7 => exact .refl s
  all_goals exact .of_fewer le_rfl

@[simp] theorem writeHigh_intact (a w s) : Intact s (writeHigh a w s) := by
  unfold writeHigh
  (repeat' split) <;> simp

theorem regWrite_keeps (a w s) : Keeps s (regWrite a w s) :=
  .ite (.of_intact (by simp)) <| .ite (.of_intact (by simp)) <| .ite (writeMid_keeps a w s) <|
    .ite (.of_intact (by simp)) <| .ite (.of_intact (by simp)) (.of_intact (by simp))

theorem accessEnd_keeps (bell ws s) : Keeps s (accessEnd bell ws s) := by
  unfold accessEnd
  extract_lets s₁ s₂ s₃
  have rung : Keeps s s₁ := by
    simp only [s₁]
    split
    · split
      · exact .of_intact (by simp)
      · exact .refl s
    · exact .refl s
  have bySeq : Keeps s s₂ := rung.trans (.ite (ackBySeq_keeps s₁) (.refl s₁))
  have byClass : Keeps s s₃ := by
    refine bySeq.trans ?_
    simp only [s₃]
    split
    · exact ackByClass_keeps _ s₂
    · exact .refl s₂
  refine byClass.trans ?_
  split
  · exact .ite (ctlAbort_keeps _ s₃) (.ite (ctlRelease_keeps _ s₃) (.refl s₃))
  · exact .refl s₃

theorem foldl_keeping {ι : Type} {f : State → ι → State} (h : ∀ s i, Keeps s (f s i)) (l : List ι) (s) :
    Keeps s (l.foldl f s) := by
  induction l generalizing s with
  | nil => exact .refl s
  | cons i l ih => exact (h s i).trans (ih _)

/-- The words of an access with FIX, each with its own effects in turn. -/
theorem eachWord_keeps (ws : List (Nat × Word)) (acc : Bool × State) :
    Keeps acc.2 (ws.foldl (fun (acc : Bool × State) p => (false, accessEnd acc.1 [p] (regWrite p.1 p.2 acc.2))) acc).2 := by
  induction ws generalizing acc with
  | nil => exact .refl acc.2
  | cons p ws ih =>
    exact ((regWrite_keeps p.1 p.2 acc.2).trans (accessEnd_keeps acc.1 [p] _)).trans
      (ih (false, accessEnd acc.1 [p] (regWrite p.1 p.2 acc.2)))

theorem applyWords_keeps (fix ws s) : Keeps s (applyWords fix ws s) := by
  unfold applyWords
  split
  · exact eachWord_keeps ws (true, s)
  · have written := foldl_keeping (fun s (p : Nat × Word) => regWrite_keeps p.1 p.2 s) ws s
    generalize ws.foldl (fun s (p : Nat × Word) => regWrite p.1 p.2 s) s = u at *
    exact written.trans (accessEnd_keeps true ws u)

theorem writeOne_keeps (a w s) : Keeps s (writeOne a w s) := .ite (.refl s) (applyWords_keeps ..)

theorem execRegisterWrite_keeps (a w s) : Keeps s (landing s (execRegisterWrite a w s)) :=
  .ite (.ite (writeOne_keeps a w s) (.refl s)) (.refl s)
theorem execAlrAck_keeps (seq s) : Keeps s (landing s (execAlrAck seq s)) := .ite (applyWords_keeps ..) (.refl s)
theorem execAlrAckClass_keeps (mask s) : Keeps s (landing s (execAlrAckClass mask s)) :=
  .ite (writeOne_keeps ..) (.refl s)

theorem execSpiWriteFrame_keeps (h ws check whole s) : Keeps s (landing s (execSpiWriteFrame h ws check whole s)) := by
  unfold execSpiWriteFrame
  refine (ite_landing ..).symm ▸ .ite (.refl s) ?_
  exact Keeps.then (.ite (applyWords_keeps ..) (.refl s)) (spiResult_intact ..)

theorem execWriteTransfer_keeps (p ws pec ending s) : Keeps s (landing s (execWriteTransfer p ws pec ending s)) := by
  unfold execWriteTransfer
  refine (ite_landing ..).symm ▸ .ite (.refl s) ?_
  have heard : Intact s (s.modBus fun b => { b with twIgnore := false }) := .refl s
  dsimp only [landing_next]
  refine .after heard ?_
  generalize s.modBus (fun b => { b with twIgnore := false }) = u
  have written : Keeps u (if twWriteCode p ws pec ending u = 0 then leavePointer (hdrFix p) (hdrAddr p) ws.length
      (applyWords (hdrFix p) (addressed (hdrFix p) (hdrAddr p) ws) u) else u) :=
    .ite ((applyWords_keeps ..).then (leavePointer_intact ..)) (.refl u)
  generalize (if twWriteCode p ws pec ending u = 0 then leavePointer (hdrFix p) (hdrAddr p) ws.length
      (applyWords (hdrFix p) (addressed (hdrFix p) (hdrAddr p) ws) u) else u) = v at *
  exact written.then (by simp)

end Sys2Proof.Machine
end

/-! ## The invariant: the changes of the module state, and the step -/

section
open Sys2Proof.Claims

namespace Sys2Proof.Machine

/-! ### Entries to the states -/

theorem enterSafe_keeping (cause s) : Keeps s (enterSafe cause s) := by
  unfold enterSafe
  extract_lets s₁ s₂ s₃ _ _ _ s₄
  have left : Intact s (dropTie s₂) := by simp [s₁, s₂]
  refine .after left ((pourAbort_keeping _).then ?_)
  simp [s₄, s₃]

theorem startSnaps_intact (s) : Intact s (startSnaps s) := by
  unfold startSnaps
  split <;> simp

theorem enterStandby_keeping (cause s) : Keeps s (enterStandby cause s) := by
  unfold enterStandby
  extract_lets s₁ s₂
  have entered : Intact s s₂ := (startSnaps_intact s).trans (by simp [s₂, s₁])
  exact .after entered (.ite (enterSafe_keeping 5 s₂) (.ite (enterSafe_keeping 7 s₂) (.refl s₂)))

@[simp] theorem loseCores_intact (s) : Intact s (loseCores s) := by simp [loseCores]

theorem enterHold_keeping {cause s} (h : s.sys.st = .standby ∨ s.sys.st = .run) : Keeps s (enterHold cause s) := by
  unfold enterHold
  extract_lets s₁ s₂ old s₃ s₄ s₅ s₆
  have told : Keeps s s₂ := (pourAbort_keeping s).then (by simp [s₂, s₁])
  have stood : s₂.sys.st = s.sys.st := by simp [s₂, s₁]
  refine told.trans ?_
  have entered : Keeps s₂ s₆ := by
    constructor
    rintro ⟨hch, hq, htick, hrise, -, hrest⟩
    refine ⟨hch, hq, ?_, ?_, by rw [← stood] at h; exact h, ?_⟩
    · simpa [s₆, s₅, s₄, s₃] using htick
    · simpa [s₆, s₅, s₄, s₃] using hrise
    · simpa [s₆, s₅, s₄, s₃] using hrest
  refine entered.trans ((settle_keeping (fun p => { p with holdPull := true }) s₆).then ?_)
  simp [grace]

theorem commit_st (s) : (commit s).sys.st = s.sys.st ∨ (commit s).sys.st = .run := by
  have profile (k u) : (profileCommit k u).sys.st = u.sys.st ∨ (profileCommit k u).sys.st = .run := by
    unfold profileCommit
    extract_lets p _ s₁ s₂
    have entered : s₂.sys.st = u.sys.st ∨ s₂.sys.st = .run := by
      simp only [s₂]
      split
      · exact .inr (by simp)
      · exact .inl rfl
    have contactor (v : State) : (if p.valid && !v.sys.longPress then
        match p.str with
        | 1 => v.modSys (setStr true)
        | 2 => v.modSys (setStr false)
        | _ => v else v).sys.st = v.sys.st := by
      split
      · split <;> simp
      · rfl
    exact entered.imp ((contactor s₂).trans ·) ((contactor s₂).trans ·)
  unfold commit
  dsimp only
  split
  · refine (profile _ _).imp_left (Eq.trans · ?_)
    simp
  · exact .inl (by simp)

theorem goHold_keeping {cause s} (h : s.sys.st = .standby ∨ s.sys.st = .run) : Keeps s (goHold cause s) := by
  unfold goHold
  split
  · exact (commit_keeps s).trans (enterHold_keeping ((commit_st s).elim (fun e => by rwa [e]) .inr))
  · exact enterHold_keeping h

/-- A reset gives the parts the invariant speaks of their first values, or leaves them. -/
theorem resetState_keeps (por low s) : Keeps s (resetState por low s) := by
  constructor
  rintro ⟨hch, -, -, -, -, hmem, -, hslots⟩
  refine ⟨?_, ?_, ?_, ?_, ?_, ?_, rfl, hslots⟩
  · cases por <;> exact hch
  · cases por <;> exact Nat.zero_le _
  · cases por <;> cases low <;> rfl
  · cases por <;> cases low <;> nofun
  · cases por <;> exact .inl rfl
  · unfold resetState resetFw
    dsimp only
    split
    · exact hmem
    · rfl

theorem newChallenge_keeping (s) : Keeps s (newChallenge s) :=
  ⟨fun ⟨_, hrest⟩ => ⟨newChallenge_ne_zero s, hrest⟩⟩

theorem enterBoot_keeps (por last cause low s) : Keeps s (enterBoot por last cause low s) := by
  unfold enterBoot
  have started : Keeps s ((resetState por low s).modSys fun y =>
      { y with st := .boot, cause := cause, last := last, addr := y.strap, cores := 1 }) :=
    (resetState_keeps por low s).then (.refl _)
  exact (started.trans (newChallenge_keeping _)).then (by simp [bootRecord])

theorem moduleReset_keeps (last cause s) : Keeps s (moduleReset last cause s) := by
  unfold moduleReset
  extract_lets told void s₁ s₂
  have ended : Keeps s s₁ := (pourAbort_keeping s).then (by simp [s₁])
  have booted : Keeps s s₂ := ended.trans (enterBoot_keeps ..)
  exact booted.trans (.ite (.of_intact (by simp)) (.refl s₂))

theorem unpower_keeps (st s) : Keeps s (unpower st s) :=
  (resetState_keeps true false s).then ⟨rfl, rfl, rfl, rfl, rfl, rfl, rfl⟩

theorem forgetVias_keeps (s) : Keeps s (forgetVias s) :=
  .of_same ⟨rfl, rfl, rfl, rfl⟩ ⟨rfl, rfl, rfl, rfl, rfl, rfl⟩

theorem enterRecovery_keeps (s) : Keeps s (enterRecovery s) := by
  unfold enterRecovery
  extract_lets s₁ s₂ s₃ s₄ s₅
  have ended : Keeps s s₂ := by
    refine .after (t := leaveRun s) (by simp) ((pourAbort_keeping _).then ?_)
    simp [s₂, s₁]
  have line : Keeps s s₃ := (ended.trans (settle_keeping (fun p => { p with veto := false, holdPull := false }) s₂)).then
    (by simp [s₃])
  have alone : Keeps s s₄ := line.then (by simp [s₄])
  refine (alone.trans (forgetVias_keeps s₄)).then ?_
  simp [s₅]

/-! ### What a waiting command, a fault action and the service console do -/

theorem runSafe_keeps (args s) : Keeps s (runSafe args s).next := by
  rw [runSafe, done, next_now]
  exact enterSafe_keeping 1 s

theorem runLeaveSafe_keeps (args s) : Keeps s (runLeaveSafe args s).next := by
  unfold runLeaveSafe
  rw [ite_next]
  exact .ite (.refl s) ((enterStandby_keeping 1 s).then (by simp [done]))

theorem faultAction_keeps (s) : Keeps s (faultAction s) := by
  unfold faultAction
  split
  · exact .ite (.of_intact (issue_intact _ _ _ _ _ (by simp))) (.refl s)
  · exact .ite (issue_keeps (runSafe_keeps [] s)) (.refl s)
  · exact .refl s

theorem issueMon_keeps {op run} (h : monRunOf op = some run) (args s) : Keeps s (issue op run .monitor args s) := by
  unfold monRunOf at h
  split at h <;> simp only [Option.some.injEq, reduceCtorEq] at h <;> subst h
  case h_2 => exact issue_keeps (runLeaveSafe_keeps args s)
  case h_11 => exact issue_keeps (runStageWrite_keeps args s)
  all_goals exact .of_intact (issue_intact _ _ _ _ _ (by simp))

theorem passCmd_keeps {op run} (h : monRunOf op = some run) (args s) : Keeps s (passCmd op run args s) := by
  have issued : Keeps s (issue op run .monitor args { s with monAnswer := none }) :=
    .after (by simp) (issueMon_keeps h args _)
  unfold passCmd
  dsimp only
  split <;> exact issued.then (by simp)

theorem retryCmd_keeps (s) : Keeps s (retryCmd s) := by
  unfold retryCmd
  split
  · exact .refl s
  · split
    · exact .refl s
    · next run h => exact passCmd_keeps h _ s

theorem monAgain_keeps (s) : Keeps s (monAgain s) :=
  .ite (retryCmd_keeps s) (.of_intact (by simp))

theorem putOff_keeps (s) : Keeps s (putOff s) := by
  have faulted : Keeps s
      (if s.bp.faultWaits then faultAction (s.modBp fun b => { b with faultWaits := false }) else s) :=
    .ite (.after (by simp) (faultAction_keeps _)) (.refl s)
  unfold putOff
  refine faulted.then ?_
  simp

theorem planeUp_keeps (s) : Keeps s (planeUp s) := by
  unfold planeUp
  extract_lets s₁ s₂ _ fw s₃ s₄ s₅ s₆
  have cores : Intact s s₃ := by simp [s₁, s₂, s₃, fw]
  have answered : Keeps s₄ s₅ := by
    refine (forgetVias_keeps s₄).trans (.after ?_ (monAgain_keeps _))
    simp
  refine .after cores (((rcpAgain_keeps s₃).trans answered).then ?_)
  simp [s₆]

theorem leaveHold_keeps (s) : Keeps s (leaveHold s) := by
  unfold leaveHold
  refine .ite ?_ (.ite (enterStandby_keeping ..) (.of_intact ?_))
  · refine .after (t := if s.sys.rampHold then holdRampEnd s else s) (by simp) ?_
    exact .after (by simp) (enterStandby_keeping 9 _)
  · simp

/-! ### The watchdog -/

theorem restartCore_keeps (c s) : Keeps s (restartCore c s) := by
  have dosed (u : State) : Keeps u (if c = 3 then
      { pourAbort u with arb := { (pourAbort u).arb with frozen := true, fresh := false } } else u) :=
    .ite ((pourAbort_keeping u).then (.refl _)) (.refl u)
  have forgotten (u : State) : Keeps u (if c = 0 then forgetVias u else if c = 2 then
      { u with links := u.links.map LinkPort.forget } else u) :=
    .ite (forgetVias_keeps u) (.of_intact (by simp))
  unfold restartCore
  extract_lets _ _ s₁ _ _ s₂ s₃ s₄ _ rcp s₅ s₆
  have early : Keeps s s₃ := Keeps.then (t := s₁) (dosed s) (by simp [s₃, s₂])
  exact (early.trans (forgotten s₃)).then (by simp [s₆, s₅, rcp, s₄])

theorem restartAll_keeps (s) : Keeps s (restartAll s) :=
  ((pourAbort_keeping s).then (loseCores_intact _)).trans (forgetVias_keeps _)

theorem dropped_intact (s) : Intact s (if s.sys.trial then dropTrial s else s) := .ite (dropTrial_intact s) (.refl s)

theorem ladderSafe_keeps (s) : Keeps s (ranked 4 (fun s => enterSafe 3 (if s.sys.trial then dropTrial s else s)) s) :=
  ranked_keeps (.after (dropped_intact s) (enterSafe_keeping 3 _))

theorem ladderHold_keeps {s : State} (h : s.sys.st = .standby ∨ s.sys.st = .run) :
    Keeps s (ranked 6 (fun s => goHold 2 (revert s)) s) :=
  ranked_keeps (.after (revert_intact s) (goHold_keeping (by simpa using h)))

theorem ladderAct_keeps (rung core s) : Keeps s (ladderAct rung core s) := by
  unfold ladderAct
  split
  · exact .after (by simp) (moduleReset_keeps ..)
  · next h =>
    split
    · exact restartCore_keeps core s
    · exact ladderHold_keeps (.inl h)
    · exact ladderSafe_keeps s
  · next h =>
    split
    · exact restartCore_keeps core s
    · exact ladderHold_keeps (.inr h)
    · exact ladderSafe_keeps s
  · split
    · exact .refl s
    · exact .of_intact (revert_intact s)
    · exact ladderSafe_keeps s
  · split
    · exact restartCore_keeps core s
    · exact .after (revert_intact s) (restartAll_keeps _)
    · exact .after (dropped_intact s) (restartAll_keeps _)
  · exact restartCore_keeps 0 s
  all_goals exact .refl s

theorem grace_intact (s) : Intact s (grace s) := .refl s

theorem wdgFail_keeps (cause tok pcs s) : Keeps s (wdgFail cause tok pcs s) := by
  unfold wdgFail
  refine Keeps.trans ?_ (ladderAct_keeps _ _ _)
  refine Keeps.then ?_ (grace_intact _)
  exact .after (by simp) (newChallenge_keeping _)

end Sys2Proof.Machine
end

/-! ## The invariant: the rows that change what it speaks of, and the step -/

section
open Sys2Proof.Claims

namespace Sys2Proof.Machine

/-! ### Commands -/

theorem setLock_intact (s) : Intact s (setLock s) := (wdgEnable_intact s).trans (.refl _)

theorem runRun_intact (args s) : Intact s (runRun args s).next := by
  rw [runRun, done, next_now]
  exact enterRun_intact 1 s

theorem runEnable_intact (args s) : Intact s (runEnable args s).next := by
  rw [runEnable, done, next_now]
  exact wdgEnable_intact s

theorem runSetLock_intact (args s) : Intact s (runSetLock args s).next := by
  rw [runSetLock, done, next_now]
  exact setLock_intact s

theorem runDisable_intact (args s) : Intact s (runDisable args s).next := by
  unfold runDisable
  split
  · simp [done]
  · dsimp only [next_now]
    exact Intact.trans (by simp) (.ite (setLock_intact _) (.refl _))

/-! ### Events -/

@[simp] theorem flushAll_intact (s) : Intact s (flushAll s) := by simp [flushAll]

@[simp] theorem cutFlush_intact (s) : Intact s (cutFlush s) := by
  unfold cutFlush
  split
  · exact .refl s
  · exact .ite (Intact.trans (.refl _) (store_intact ..)) (.refl _)

theorem execStandbyRampEnd_keeps (s) : Keeps s (landing s (execStandbyRampEnd s)) := by
  unfold execStandbyRampEnd
  rw [ite_landing]
  exact .ite (.after (by simp) (enterStandby_keeping 1 _)) (.refl s)

theorem execDeferredStateChange_keeps (s) : Keeps s (landing s (execDeferredStateChange s)) := by
  unfold execDeferredStateChange
  rw [ite_landing]
  refine .ite (.refl s) ?_
  dsimp only [landing_next]
  split
  · exact .refl s
  · next d _ =>
    have gone : Intact s (dropOf d s) := by simp
    have told (k) : Keeps (dropOf d s) (event .dropped k (dropOf d s)) := .of_intact (by simp)
    refine .after gone ?_
    split
    · exact .ite (enterRecovery_keeps _) (told _)
    · exact .ite (moduleReset_keeps ..) (told _)
    · exact .ite ((activate_keeps _).trans (moduleReset_keeps ..)) (told _)

theorem execHoldEntry_keeps (s) : Keeps s (landing s (execHoldEntry s)) := by
  unfold execHoldEntry
  rw [ite_landing]
  refine .ite (.refl s) ?_
  dsimp only [landing_next]
  split
  · exact .refl s
  · next d _ =>
    have gone : Intact s (dropOf d s) := by simp
    refine .after gone ?_
    generalize dropOf d s = u
    split
    · next h =>
      have stands : u.sys.st = .standby ∨ u.sys.st = .run := by
        obtain ⟨h, -⟩ := by simpa using h
        exact h
      exact .ite (ranked_keeps (goHold_keeping stands)) <|
        ranked_keeps ((activate_keeps u).trans (goHold_keeping (by simpa [activate] using stands)))
    · exact .of_intact (by simp [dropChange])

theorem execShipEntry_keeps (s) : Keeps s (landing s (execShipEntry s)) := by
  unfold execShipEntry
  rw [ite_landing]
  refine .ite (.refl s) ?_
  rw [ite_landing]
  exact .ite (((pourAbort_keeping s).then (flushAll_intact _)).trans (unpower_keeps _ _)) (.of_intact (by simp))

theorem startUp_keeps (p strap low last s) : Keeps s (startUp p strap low last s) := by
  unfold startUp
  refine Keeps.then ?_ (.refl _)
  refine Keeps.then ?_ (setPath_intact _ _ _)
  exact .after (by simp) (enterBoot_keeps ..)

theorem execHkPathQualify_keeps (p strap low s) : Keeps s (landing s (execHkPathQualify p strap low s)) := by
  unfold execHkPathQualify
  rw [ite_landing]
  refine .ite (.refl s) ?_
  rw [ite_landing]
  refine .ite (.refl s) ?_
  dsimp only [landing_next]
  split
  · exact .ite (.of_intact (by simp)) (startUp_keeps ..)
  · exact .ite (.refl s) (startUp_keeps ..)
  · exact .of_intact (by simp)

theorem stateRecord_intact (st cause s) : Intact s (stateRecord st cause s) := by simp [stateRecord]

theorem execHousekeepingLoss_keeps (s) : Keeps s (landing s (execHousekeepingLoss s)) := by
  unfold execHousekeepingLoss
  dsimp only [landing_next]
  refine .ite (.refl s) (Keeps.then ?_ (queueLoss_intact _))
  refine Keeps.trans ?_ (.of_intact (stateRecord_intact ..))
  exact .after (by simp) (pourAbort_keeping _)

theorem execHoldUpEnd_keeps (s) : Keeps s (landing s (execHoldUpEnd s)) :=
  .ite (.after (by simp) (unpower_keeps _ _)) (.refl s)

theorem execBootComplete_keeps (a b c s) : Keeps s (landing s (execBootComplete a b c s)) := by
  unfold execBootComplete
  rw [ite_landing]
  refine .ite (.refl s) ?_
  extract_lets ok finish running alone
  have finished (u : State) : Intact u (finish u) := by simp [finish, grace, loadConfig]
  have recovered (cause u) : Intact u (bootToRecovery cause u) := by simp [bootToRecovery]
  dsimp only [landing_next]
  refine withFlt_keeping ?_
  split
  · exact .after (finished s) (.ite ((enterSafe_keeping 7 _).then (by simp [alone])) (.of_intact (recovered ..)))
  · next bank _ =>
    refine .after ((bootBank_intact bank s).trans (finished _)) ?_
    generalize finish (bootBank bank s) = u
    refine .ite ((enterSafe_keeping 7 u).then (by simp [running])) (.ite (.of_intact (recovered ..)) ?_)
    refine Keeps.then (t := enterStandby u.sys.cause (u.modSys running)) ?_ (by simp)
    exact .after (by simp [running]) (enterStandby_keeping ..)

theorem execLongPressReset_keeps (strap s) : Keeps s (landing s (execLongPressReset strap s)) :=
  .ite (.after (by simp) (moduleReset_keeps ..)) (.refl s)

theorem execEstop_keeps (s) : Keeps s (landing s (execEstop s)) := by
  unfold execEstop
  rw [ite_landing]
  refine .ite (.refl s) ?_
  dsimp only [landing_next]
  refine withFlt_keeping ?_
  have stopped : Intact s (stopAll (s.modSys fun y => { y with estop := true })) := by simp
  refine .after stopped ?_
  generalize stopAll (s.modSys fun y => { y with estop := true }) = u
  split
  case h_4 | h_5 => exact .of_intact (by simp)
  all_goals exact ranked_keeps (enterSafe_keeping 5 _)

theorem execFaultEdge_keeps (own s) : Keeps s (landing s (execFaultEdge own s)) := by
  unfold execFaultEdge
  rw [ite_landing]
  refine .ite (.refl s) ?_
  extract_lets s₁
  have told : Intact s s₁ := by simp [s₁]
  exact .after told (.ite (.of_intact (by simp)) (faultAction_keeps _))

theorem execControlPlaneReady_keeps (s) : Keeps s (landing s (execControlPlaneReady s)) := by
  unfold execControlPlaneReady
  dsimp only [landing_next]
  split
  · refine Keeps.trans ?_ (putOff_keeps _)
    refine Keeps.then ((leaveHold_keeps s).trans (planeUp_keeps _)) (by simp [grace])
  · exact .ite (planeUp_keeps s) (.refl s)
  · exact .refl s

theorem execCoreRestartDone_keeps (c s) : Keeps s (landing s (execCoreRestartDone c s)) := by
  unfold execCoreRestartDone
  rw [ite_landing]
  refine .ite (.refl s) ?_
  extract_lets mine lost s₁ s₂ s₃ s₄ s₅
  have posted : Intact s s₂ := by simp [s₁, s₂]
  have again : Keeps s₂ s₃ := .ite (rcpAgain_keeps s₂) (.refl s₂)
  have served : Keeps s₃ s₄ := Keeps.then (.ite ((monAgain_keeps s₃).trans (putOff_keeps _)) (retryCmd_keeps s₃))
    (promote_intact ..)
  refine ((Keeps.after posted again).trans served).then ?_
  simp [s₅]

theorem execWdgService_keeps (core tok pcs s) : Keeps s (landing s (execWdgService core tok pcs s)) := by
  unfold execWdgService
  simp only [ite_landing, landing_next]
  refine .ite (.refl s) <| .ite (.of_intact (by simp)) <| .ite (.refl s) <| .ite (wdgFail_keeps ..) <|
    .ite (wdgFail_keeps ..) <| .ite (wdgFail_keeps ..) <| .ite (wdgFail_keeps ..) ?_
  rw [wdgAccept]
  exact .after (by simp) (newChallenge_keeping _)

theorem execWdgLate_keeps (pcs s) : Keeps s (landing s (execWdgLate pcs s)) :=
  .ite (.after (by simp) (wdgFail_keeps ..)) (.refl s)

theorem execRecipeTick_keeps (s) : Keeps s (landing s (execRecipeTick s)) := by
  simp only [execRecipeTick, ite_landing, landing_next]
  exact .ite (.refl s) (.of_intact (by simp))

theorem hardwareFault_keeps (s) : Keeps s (hardwareFault s) := by
  unfold hardwareFault
  split
  case h_4 => exact .refl s
  all_goals exact ranked_keeps (enterSafe_keeping 7 s)

theorem execHubOv_keeps (s) : Keeps s (landing s (execHubOv s)) := by
  unfold execHubOv
  rw [ite_landing]
  refine .ite (.refl s) ?_
  extract_lets was times s₁ s₂ s₃
  have noted : Intact s s₃ := by simp [s₁, s₂, s₃]
  exact .after noted (.ite (hardwareFault_keeps s₃) (.refl s₃))

theorem execShFault_keeps (s) : Keeps s (landing s (execShFault s)) :=
  .ite (withFlt_keeping (.after (by simp) (hardwareFault_keeps _))) (.refl s)

theorem execCmd_keeps (op args s) : Keeps s (landing s (execCmd op args s)) := by
  have served (u : State) {k : State → State} (h : Keeps (echoLine args.line u) (k (echoLine args.line u))) :
      Keeps u (landing u (svcRun args.line k u)) := by
    rw [landing_svcRun, landing_monLine, landing_monRun]
    split_ifs
    · exact .refl u
    · exact .of_intact (by simp)
    · exact .of_intact (by simp)
    · exact .after (echoLine_intact _ u) h
    · exact .of_intact (by simp)
  unfold execCmd
  refine served s ?_
  generalize echoLine args.line s = u
  have err (k : Nat) : Keeps u (monErr k u) := .of_intact (monErr_intact k u)
  split
  · split
    · exact err _
    · next run hrun => exact .ite (err 4) (.after (by simp) (passCmd_keeps hrun _ _))
  · exact err 1

/-! ### The step -/

theorem exec_keeps (i : Instr) (s) : Keeps s (landing s (exec i s)) := by
  cases i with
  | pourOpen via args => exact issue_keeps (runPourOpen_keeps args s)
  | pourAdd via args => exact issue_keeps (runPourAdd_keeps args s)
  | pourPrepare via args => exact issue_keeps (runPourPrepare_keeps via args s)
  | pourAbort via args => exact issue_keeps (runPourAbort_keeps args s)
  | pourPrepared => exact execPourPrepared_keeps s
  | pourCtlRelease id => exact .ite (ctlRelease_keeps id s) (.refl s)
  | pourCtlAbort id => exact .ite (ctlAbort_keeps id s) (.refl s)
  | tickFall => exact execTickFall_keeps s
  | commitEdge edge => exact execCommitEdge_keeps edge s
  | pourTimeout => exact execPourTimeout_keeps s
  | vetoEnd => exact execVetoEnd_keeps s
  | holdPullEnd => exact execHoldPullEnd_keeps s
  | profileApply => exact execProfileApply_keeps s
  | profileRetry => exact execProfileRetry_keeps s
  | rcpRegisterKey via args => exact issue_keeps (runRegisterKey_keeps args s)
  | rcpLoad via args => exact issue_keeps (runLoad_keeps args s)
  | rcpVerify via args => exact issue_keeps (runVerify_keeps args s)
  | rcpStart via args => exact issue_keeps (runStart_keeps args s)
  | yield out rest => exact execYield_keeps out rest s
  | recipeTick => exact execRecipeTick_keeps s
  | fwEraseComplete => exact execFwEraseComplete_keeps s
  | fwStageWrite via args => exact issue_keeps (runStageWrite_keeps args s)
  | sysRun via args => exact issue_keeps (.of_intact (runRun_intact args s))
  | sysSafe via args => exact issue_keeps (runSafe_keeps args s)
  | sysLeaveSafe via args => exact issue_keeps (runLeaveSafe_keeps args s)
  | standbyRampEnd => exact execStandbyRampEnd_keeps s
  | deferredStateChange => exact execDeferredStateChange_keeps s
  | holdEntry => exact execHoldEntry_keeps s
  | shipEntry => exact execShipEntry_keeps s
  | wdgSetLadder via args => exact issue_keeps (.of_intact (by simp [runSetLadder, done]))
  | wdgDisable via args => exact issue_keeps (.of_intact (runDisable_intact args s))
  | wdgEnable via args => exact issue_keeps (.of_intact (runEnable_intact args s))
  | wdgSetLock via args => exact issue_keeps (.of_intact (runSetLock_intact args s))
  | wdgService core tok pcs => exact execWdgService_keeps core tok pcs s
  | wdgCheckin core bits => exact .of_intact (.ite (.refl s) (.refl s))
  | wdgLate pcs => exact execWdgLate_keeps pcs s
  | wdgSettingWrite core pair mask => exact .of_intact (.ite (.refl s) (.refl s))
  | alrAck seq => exact execAlrAck_keeps seq s
  | alrAckClass mask => exact execAlrAckClass_keeps mask s
  | registerWrite a w => exact execRegisterWrite_keeps a w s
  | spiWriteFrame h ws check whole => exact execSpiWriteFrame_keeps h ws check whole s
  | writeTransfer p ws pec ending => exact execWriteTransfer_keeps p ws pec ending s
  | hkPathQualify p strap low => exact execHkPathQualify_keeps p strap low s
  | housekeepingLoss => exact execHousekeepingLoss_keeps s
  | holdUpEnd => exact execHoldUpEnd_keeps s
  | bootComplete a b c => exact execBootComplete_keeps a b c s
  | longPressReset strap => exact execLongPressReset_keeps strap s
  | estop => exact execEstop_keeps s
  | faultEdge own => exact execFaultEdge_keeps own s
  | controlPlaneReady => exact execControlPlaneReady_keeps s
  | coreRestartDone c => exact execCoreRestartDone_keeps c s
  | hubOv => exact execHubOv_keeps s
  | shFault => exact execShFault_keeps s
  | cmd op args => exact execCmd_keeps op args s
  | _ => exact .of_intact (by simp [exec])

/-- The low time counts while TICK is low (R201). -/
theorem lowTime_keeps (s : State) : Keeps s (s.modPour fun p =>
    if p.tick then p else { p with low10us := sat 0xFFFF (p.low10us + 100) }) := by
  refine .of_same ?_ ⟨rfl, rfl, rfl, rfl, rfl, rfl⟩
  simp only [State.modPour]
  split <;> exact ⟨rfl, rfl, rfl, rfl⟩

theorem tick_keeps (s) : Keeps s (tick s) := by
  unfold tick
  refine .ite (.refl s) ?_
  extract_lets s₁ s₂ s₃ s₄ hub bp s₅
  have edge : Keeps s s₁ := Keeps.then (.ite (edgeEnd_keeps _ s) (.refl s)) (newPeriod_intact _)
  have ticked : Intact s₁ ((s₃.mapPorts fun _ p => tickPort p).modSys tickSys) := by simp [s₃, s₂]
  have counted : Keeps s₁ s₄ := .after ticked (lowTime_keeps _)
  refine (edge.trans counted).then ?_
  simp [s₅, tickWdg]

/-- Settles O59: what the rows change one by one; every other row and the tick leave what the invariant speaks of. -/
theorem everyStepKeepsTheInvariant : Obligations.EveryStepKeepsTheInvariant := by
  unfold Obligations.EveryStepKeepsTheInvariant
  intro s t hinv h
  unfold step at h
  split at h
  · next c rest _ =>
    have m := (exec_keeps c { s with pending := rest }).inv hinv
    rwa [h] at m
  · injection h with h
    exact h ▸ (tick_keeps s).inv hinv

end Sys2Proof.Machine
end

/-! ## TICK and the commit of a pour -/

section
open Sys2Proof.Claims

namespace Sys2Proof.Machine

/-! ### The state of a pour on its line -/

/-- The line while this module pulls it, outside the 500 ns after a rise (R205). -/
theorem settle_low {p : Pour} (h : p.rise = false) (hpull : p.pull = true ∨ p.veto = true ∨ p.holdPull = true) :
    p.settle.tick = false := by
  unfold Pour.settle Pour.pulling
  obtain h' | h' | h' := hpull <;> simp [h, h']

theorem prepare_shows (p : Pour) : p.prepare.state = .prepared ∧ p.prepare.pull = true ∧ p.prepare.tick = false := by
  refine ⟨rfl, rfl, ?_⟩
  unfold Pour.prepare
  exact settle_low rfl (.inl rfl)

/-- A profile pulls the line and lets go of it at once (R209). -/
theorem prepare_release_shows {p : Pour} (h : p.tick = true) : p.prepare.release.lowKnown = true ∧
    p.prepare.release.low10us = 0 ∧ p.prepare.release.tick = !(p.veto || p.holdPull || p.tickOther) ∧
    p.prepare.release.rise = p.prepare.release.tick := by
  simp [Pour.prepare, Pour.release, Pour.settle, Pour.pulling, h]

/-- The line once every other participant has let go of it (R201, R205). -/
def Pour.letGo (fits : Bool) (p : Pour) : Pour :=
  let q := ({ p with tickOther := false } : Pour).settle
  { q with badLow := q.rise && !fits }

theorem letGo_shows {p : Pour} (fits) (h : p.pulling = false) : (p.letGo fits).tick = true ∧
    (p.letGo fits).rise = (p.rise || !p.tick) := by
  have free : ({ p with tickOther := false } : Pour).pulling = false := h
  simp [Pour.letGo, Pour.settle, free]

/-- A pour as the end of the 500 ns leaves it (R205). -/
def Pour.risen (p : Pour) : Pour := ({ p with rise := false, low10us := 0, lowKnown := true, badLow := false } : Pour).settle

theorem risen_shows {p : Pour} (h : p.tick = true) : p.risen.rise = false ∧
    p.risen.tick = !(p.pull || p.veto || p.holdPull || p.tickOther) := by
  simp [Pour.risen, Pour.settle, Pour.pulling, h]

/-- A pour without a rise that ends without a veto of its own lets go of the line. -/
theorem ends_tick {p : Pour} (h : p.rise = false) (result) : (p.ends result false).tick =
    !(p.veto || p.holdPull || p.tickOther) := by
  simp [Pour.ends, Pour.settle, Pour.pulling, h]

/-- The line as another participant pulls it (R201). -/
def Pour.fall (p : Pour) : Pour := ({ p with
  tickOther := true, low10us := if p.tick then 0 else p.low10us, lowKnown := p.tick || p.lowKnown } : Pour).settle

theorem fall_runs {s : State} (hp : s.powered = true) : exec .tickFall s = .next { s with pour := s.pour.fall } := by
  show execTickFall s = _
  rw [execTickFall, hp]
  rfl

/-! ### What the commit applies -/

/-- The entries, each applied or skipped (R207, R210). -/
theorem applyAll_outcomes (es : List PourEntry) (s) : (applyAll es s).1.length = es.length ∧
    ∀ e ∈ (applyAll es s).1, e.outcome = 3 ∨ e.outcome = 4 := by
  induction es generalizing s with
  | nil => simp [applyAll]
  | cons e es ih =>
    obtain ⟨hlen, hall⟩ := ih (applyEntry e s).2
    refine ⟨by simp [applyAll, hlen], fun x hx => ?_⟩
    obtain rfl | hx := List.mem_cons.mp hx
    · unfold applyEntry
      dsimp only
      split
      · exact .inl rfl
      · exact .inr rfl
    · exact hall x hx

/-- The parts of a committed pour that speak of the line and of the entries, and the frame of the commit (R206, R207). -/
theorem commit_shows {s : State} (h : s.vsel.staged = none) {u : State}
    (hu : u = (s.mapTaps fun _ t => { t with acted := 0 }).modPour fun p => { p with state := .opened }) :
    (commit s).pour = { (u.pour.ends 0 false) with
      entries := (applyAll s.pour.entries u).1, commits := (s.pour.commits + 1) % 65536
      skips := u.pour.skips || (applyAll s.pour.entries u).1.any fun e => decide (e.outcome = 4) } ∧
    (commit s).ports = (applyAll s.pour.entries u).2.ports ∧ (commit s).taps = (applyAll s.pour.entries u).2.taps := by
  have kept : (applyAll s.pour.entries u).2.pour = u.pour := (applyAll_intact s.pour.entries u).1
  have opened : u.pour.state = .opened := by rw [hu]; rfl
  unfold commit
  dsimp only
  rw [h, ← hu]
  generalize applyAll s.pour.entries u = r at *
  obtain ⟨es, v⟩ := r
  dsimp only at kept ⊢
  rw [pourEnd_outside (by rw [kept, opened]; nofun)]
  dsimp only [State.modPour]
  rw [kept]
  refine ⟨?_, rfl, rfl⟩
  have hcommits : (u.pour.ends 0 false).commits = s.pour.commits := by rw [(ends_shows ..).2.2.2.2.2.2.2, hu]; rfl
  have hskips : (u.pour.ends 0 false).skips = u.pour.skips := by simp [Pour.ends]
  rw [hcommits, hskips]

theorem limit_gate {s : State} (hst : s.sys.st = .standby ∨ s.sys.st = .run) (h : s.pour.state = .opened) :
    gate 0x0204 s = none := by
  obtain ⟨info, hinfo, hin⟩ : ∃ info, cmdInfo 0x0204 = some info ∧ .standby ∈ info.states ∧ .run ∈ info.states :=
    ⟨_, rfl, by decide⟩
  have listed : s.sys.st ∈ info.states := hst.elim (· ▸ hin.1) (· ▸ hin.2)
  rw [gate_of_info hinfo (by obtain e | e := hst <;> rw [e] <;> nofun), if_neg (by simp [listed, changesState]),
    if_neg (by simp [lockedOut]), if_neg (by simp [pourBusy, h])]

/-- A limit among the entries of a pour acts at the edge (R207). -/
theorem limit_applies {s : State} {x : Fin 4} {amps : Word} (hst : s.sys.st = .standby ∨ s.sys.st = .run)
    (h : s.pour.state = .opened) (hlo : 50 ≤ amps.toNat) (hhi : amps.toNat ≤ 20000) (hm : amps.toNat % 10 = 0) :
    (applyAll [{ op := 0x0204, args := [word x.val, amps], outcome := 2, code := 0 }] s).2 = s.modPort x fun p =>
      { p with iLim := amps.toNat, limIn := if p.state = .online ∧ p.limIn < amps.toNat then p.limIn else amps.toNat } := by
  have hx : arg [word x.val, amps] 0 = x.val := by
    show (word x.val).toNat = x.val
    simp [word]
    omega
  have ha : arg [word x.val, amps] 1 = amps.toNat := rfl
  have run : runSrcSetLimit [word x.val, amps] s = done (s.modPort x fun p =>
      { p with iLim := amps.toNat, limIn := if p.state = .online ∧ p.limIn < amps.toNat then p.limIn else amps.toNat }) := by
    refine (checked_pass ?_).trans ?_
    · rw [wordsLimit, portArg_ok (by omega), ha, rng_ok hlo hhi, decide_eq_true hm]
      rfl
    · rw [portOf_of_arg hx, ha]
  have ran : runEntry { op := 0x0204, args := [word x.val, amps], outcome := 2, code := 0 } s = (0, s.modPort x fun p =>
      { p with iLim := amps.toNat, limIn := if p.state = .online ∧ p.limIn < amps.toNat then p.limIn else amps.toNat }) := by
    unfold runEntry
    rw [show (0x0204 : Word).toNat = 0x0204 from rfl, limit_gate hst h]
    dsimp only [entryRun]
    rw [run]
    rfl
  have untapped : entryTap { op := 0x0204, args := [word x.val, amps], outcome := 2, code := 0 } = none := 
    if_neg (show ¬(0x0204 / 256 = 3) by decide)
  simp only [applyAll, applyEntry, ran, untapped]
  rw [if_pos (by decide)]

/-! ### The obligation -/

theorem execCommitEdge_eq {s : State} (hp : s.powered = true) (edge : TickEdge) : execCommitEdge edge s = .next
    (if (s.pour.letGo (decide (1000 ≤ edge.lowNs ∧ edge.lowNs ≤ 50000000))).rise && edge.stood then
      edgeEnd (decide (1000 ≤ edge.lowNs ∧ edge.lowNs ≤ 50000000))
        { s with pour := s.pour.letGo (decide (1000 ≤ edge.lowNs ∧ edge.lowNs ≤ 50000000)) }
    else { s with pour := s.pour.letGo (decide (1000 ≤ edge.lowNs ∧ edge.lowNs ≤ 50000000)) }) := by
  unfold execCommitEdge
  rw [hp]
  rfl

theorem edgeEnd_eq (fits s) : edgeEnd fits s =
    if s.pour.lowKnown && fits && decide (s.pour.state = .released) then commit { s with pour := s.pour.risen }
    else { s with pour := s.pour.risen } := by
  unfold edgeEnd
  simp only [State.modPour, Pour.risen, settle_keeps]

/-- Settles O14, event by event. -/
theorem pourLineReleasesTimesAndCommits : Obligations.PourLineReleasesTimesAndCommits := by
  unfold Obligations.PourLineReleasesTimesAndCommits
  refine ⟨fun s => ⟨fun hst hprof => ?_, fun hst hprof htick => ?_, fun hp hst hid => ?_, fun id hp hid => ?_,
      fun hp hab hid => ?_⟩,
    fun s => ⟨fun hp htick => ?_, fun hp htick => ?_, fun hst htick hrise hprof => ?_, fun hst htick hprof => ?_,
      fun hveto => ?_, fun hhold hst => ?_⟩,
    fun lowNs s hp hpull => ⟨fun hknown hlo hhi hst hstaged hedge => ?_, fun stood hno => ?_⟩⟩
  · obtain ⟨hprep, hpull, hlow⟩ := prepare_shows s.pour
    refine ⟨answerOpt s.pour.prepVia 0 [] { s with pour := s.pour.prepare }, ?_, ?_⟩
    · show execPourPrepared s = _
      simp only [execPourPrepared, hst, hprof]
      rfl
    · simp only [answerOpt_keeps]
      refine ⟨hprep, hpull, hlow, fun via hvia => ?_, trivial, trivial⟩
      rw [hvia]
      exact answerOf_answer ..
  · obtain ⟨hknown, hlow, hline, hrise⟩ := prepare_release_shows htick
    refine ⟨{ s with pour := s.pour.prepare.release }, ?_, rfl, rfl, hknown, hlow, hline, hrise, rfl, rfl⟩
    show execPourPrepared s = _
    simp only [execPourPrepared, hst, hprof, htick]
    rfl
  · refine ⟨{ s with pour := s.pour.release }, ?_, rfl, rfl, settle_tick _, rfl, rfl, rfl, rfl⟩
    show execPourCtlRelease _ s = _
    rw [execPourCtlRelease, if_pos hp, ctlRelease, if_pos ⟨hst, rfl, by simpa using hid⟩]
    rfl
  · constructor
    · show execPourCtlRelease _ s = _
      simp [execPourCtlRelease, ctlRelease, hp, hid, State.modPour]
    · show execPourCtlAbort _ s = _
      simp [execPourCtlAbort, ctlAbort, hp, hid, State.modPour]
  · have hst : s.pour.state ≠ .idle := by
      rintro h
      rw [abortable, h] at hab
      cases hab
    obtain ⟨hidle, hres, -, hveto, -, hrest⟩ := pourAbort_shows hst
    refine ⟨pourAbort s, ?_, hidle, hres, hveto, hrest⟩
    show execPourCtlAbort _ s = _
    rw [execPourCtlAbort, if_pos hp, ctlAbort, if_pos ⟨hab, rfl, by simpa using hid⟩]
  · refine ⟨{ s with pour := s.pour.fall }, fall_runs hp, (settle_tick _).trans (by simp), ?_, ?_, rfl, rfl, rfl⟩
    · simp [Pour.fall, htick]
    · simp [Pour.fall, htick]
  · refine ⟨{ s with pour := s.pour.fall }, fall_runs hp, (settle_tick _).trans (by simp), rfl, ?_, ?_, rfl, rfl, rfl⟩
    · simp [Pour.fall, htick]
    · simp [Pour.fall, htick]
  · obtain ⟨hidle, hres, hval, -, hpull, hveto, -⟩ := ends_shows 0x51 true s.pour
    have hne : s.pour.state ≠ .idle := by obtain h | h := hst <;> rw [h] <;> nofun
    have ended := pourEnd_outside (result := 0x51) (veto := true) hne
    rw [htick] at hveto
    refine ⟨pourEnd 0x51 true s, ?_, ?_⟩
    · show execPourTimeout s = _
      simp only [execPourTimeout, pourBusy, hst, htick, hprof]
      rfl
    · rw [ended]
      refine ⟨hidle, hres, hval, hveto, hpull, fun hlow => ?_, rfl, rfl, rfl⟩
      exact settle_low hrise (.inr (.inl (by simp [htick, hlow])))
  · obtain ⟨hidle, hres, -⟩ := ends_shows 0x51 true s.pour
    have hne : s.pour.state ≠ .idle := by obtain h | h := hst <;> rw [h] <;> nofun
    have ended := pourEnd_outside (result := 0x51) (veto := true) hne
    by_cases htries : 4 ≤ s.vsel.tries
    · refine ⟨profileFailed (pourEnd 0x51 true s), ?_, ?_⟩
      · show execPourTimeout s = _
        rw [execPourTimeout, if_pos (by simp [pourBusy, hst, htick]), ended]
        simp only [hprof, if_true]
        rw [if_pos (by omega)]
      · simp only [profileFailed, alert_keeps]
        rw [ended]
        exact ⟨hidle, hres, by simp [htries], (if_pos htries).symm, rfl, rfl⟩
    · refine ⟨{ pourEnd 0x51 true s with vsel := { (pourEnd 0x51 true s).vsel with tries := s.vsel.tries + 1 } }, ?_, ?_⟩
      · show execPourTimeout s = _
        rw [execPourTimeout, if_pos (by simp [pourBusy, hst, htick]), ended]
        simp only [hprof, if_true]
        rw [if_neg (by omega)]
      · rw [ended]
        exact ⟨hidle, hres, by simp [htries], (if_neg htries).symm, rfl, rfl⟩
  · refine ⟨{ s with pour := ({ s.pour with veto := false } : Pour).settle }, ?_, rfl, settle_tick _, rfl, rfl, rfl, rfl⟩
    show execVetoEnd s = _
    rw [execVetoEnd, hveto]
    rfl
  · refine ⟨{ s with pour := ({ s.pour with holdPull := false } : Pour).settle }, ?_, rfl, settle_tick _, rfl, rfl, rfl, rfl⟩
    show execHoldPullEnd s = _
    simp [execHoldPullEnd, hhold, hst, State.modPour]
  · have hfits : decide (1000 ≤ lowNs ∧ lowNs ≤ 50000000) = true := decide_eq_true ⟨hlo, hhi⟩
    obtain ⟨htick, hrise⟩ := letGo_shows (p := s.pour) true hpull
    replace hrise : (s.pour.letGo true).rise = true := by rw [hrise]; obtain h | h := hedge <;> simp [h]
    have ran : exec (.commitEdge ⟨lowNs, true⟩) s = .next (commit { s with pour := (s.pour.letGo true).risen }) := by
      rw [show exec (.commitEdge ⟨lowNs, true⟩) s = _ from execCommitEdge_eq hp _, hfits, hrise, edgeEnd_eq]
      simp [Pour.letGo, hknown, hst]
    have shows := commit_shows (s := { s with pour := (s.pour.letGo true).risen }) hstaged rfl
    generalize hu : (({ s with pour := (s.pour.letGo true).risen } : State).mapTaps fun _ t => { t with acted := 0 }).modPour
      (fun p => { p with state := .opened }) = u at shows
    obtain ⟨hpour, hports, htaps⟩ := shows
    obtain ⟨hlen, hout⟩ := applyAll_outcomes s.pour.entries u
    have hentries : (s.pour.letGo true).risen.entries = s.pour.entries := by simp [Pour.risen, Pour.letGo]
    have opened : u.pour = { (s.pour.letGo true).risen with state := .opened } := by rw [← hu]; rfl
    obtain ⟨hidle, hres, hval, -⟩ := ends_shows 0 false u.pour
    have line : (u.pour.ends 0 false).tick = !(s.pour.veto || s.pour.holdPull) := by
      rw [ends_tick (by rw [opened]; exact (risen_shows htick).1), opened]
      simp [Pour.risen, Pour.letGo]
    rw [hentries] at hpour hports htaps
    refine ⟨_, ran, by rw [hpour]; exact hidle, by rw [hpour]; exact hres, by rw [hpour]; exact hval, by rw [hpour]; exact line,
      by rw [hpour]; simp [Pour.risen, Pour.letGo], by rw [hpour]; exact hlen, by rw [hpour]; exact hout,
      fun x amps hes hst hlow hhigh hm => ?_⟩
    have applied := limit_applies (s := u) (x := x) (by rw [← hu]; exact hst) (by rw [opened]) hlow hhigh hm
    rw [← hes] at applied
    rw [applied] at hports htaps
    refine ⟨?_, fun y hy => ?_, ?_⟩
    · rw [hports, State.modPort_ports, if_pos rfl, ← hu]
      show ({ s.ports[x] with iLim := amps.toNat, limIn := if s.ports[x].state = .online ∧ s.ports[x].limIn < amps.toNat
        then s.ports[x].limIn else amps.toNat } : Port) = _
      grind
    · rw [hports, State.modPort_ports, if_neg hy, ← hu]
      rfl
    · rw [htaps, ← hu]
      exact Vector.ext fun i hi => by simp [State.modPort, State.modPour, State.mapTaps]
  · have ran := execCommitEdge_eq hp ⟨lowNs, stood⟩
    dsimp only at ran
    generalize hfits : decide (1000 ≤ lowNs ∧ lowNs ≤ 50000000) = fits at ran
    obtain ⟨htick, hrise⟩ := letGo_shows (p := s.pour) fits hpull
    by_cases hend : ((s.pour.letGo fits).rise && stood) = true
    · obtain ⟨-, hstood⟩ := (Bool.and_eq_true ..).mp hend
      have bars : ((s.pour.letGo fits).lowKnown && fits && decide ((s.pour.letGo fits).state = .released)) = false := by
        simp only [Pour.letGo, settle_keeps, ← hfits]
        obtain h | h | h | h | h := hno
        · simp; omega
        · simp; omega
        · rw [hstood] at h; cases h
        · simp [h]
        · simp [h]
      obtain ⟨hfell, hline⟩ := risen_shows htick
      rw [if_pos hend, edgeEnd_eq, bars] at ran
      refine ⟨_, ran, rfl, fun h => ?_, fun _ => ⟨hfell, hline.trans ?_⟩, rfl, rfl, rfl⟩
      · rw [hstood] at h; cases h
      · simp [Pour.letGo]
    · rw [if_neg hend] at ran
      refine ⟨_, ran, rfl, fun _ => htick, fun hstood => ?_, rfl, rfl, rfl⟩
      rw [hstood, Bool.and_true, Bool.not_eq_true] at hend
      refine ⟨hend, htick.trans ?_⟩
      rw [hend] at hrise
      obtain ⟨hrise, -⟩ := Bool.or_eq_false_iff.mp hrise.symm
      simpa [Pour.pulling, hrise] using hpull

end Sys2Proof.Machine
end

/-! ## VSEL (O15) -/

section
open Sys2Proof.Claims
namespace Sys2Proof.Machine

/-- What the abort of a pour may change: the pour, what was staged, its record, and the answer to its `POUR_PREPARE`. -/
theorem pourAbort_outside (s) : pourAbort s = { s with
    pour := (pourAbort s).pour, vsel := { s.vsel with staged := (pourAbort s).vsel.staged }, bbx := (pourAbort s).bbx
    mbx := (pourAbort s).mbx, monAnswer := (pourAbort s).monAnswer, ownAnswer := (pourAbort s).ownAnswer } := by
  by_cases h : s.pour.state = .idle
  · rw [show pourAbort s = s from if_pos h]
  · unfold pourAbort
    rw [pourEnd_outside h]

theorem staging_shows (k : Fin 8) (s) : (staging k s).taps = s.taps ∧ (staging k s).ports = s.ports ∧
    (staging k s).sys = s.sys ∧ (staging k s).alr = s.alr ∧ (staging k s).vsel = { s.vsel with staged := some k.val } ∧
    (staging k s).pour.entries = profileEntries k s ∧ (staging k s).pour.state = .validating ∧
    (staging k s).pour.id = 0 ∧ (staging k s).pour.profile = true ∧
    (s.pour.state ≠ .idle → (staging k s).pour.result = 0x50) := by
  unfold staging
  rw [pourAbort_outside]
  exact ⟨rfl, rfl, rfl, rfl, rfl, rfl, rfl, rfl, rfl, fun h => (pourAbort_shows h).2.1⟩

/-- An entry that does not validate stands in the list. -/
theorem validate_lt {f : Nat × Nat} : ∀ {i es s}, validate i es s = some f → i ≤ f.1 ∧ f.1 < i + es.length
  | _, [], _, h => nomatch h
  | i, e :: es, s, h => by
    rw [validate] at h
    split at h
    · obtain ⟨hlo, hhi⟩ := validate_lt h
      rw [List.length_cons]
      omega
    · obtain rfl := Option.some.inj h
      simp

/-- Outcome 5 stands at the entry that failed (R210). -/
theorem markValid_failed {f : Nat × Nat} {es : List PourEntry} (h : f.1 < es.length) :
    ((markValid (some f) es)[f.1]?).map (fun e => e.outcome) = some 5 := by
  simp [markValid, h]

/-- What the staging of a profile comes to before its entries are judged. -/
theorem profileEntries_eq (k : Fin 8) (s) :
    (if (s.vsel.profiles.toList.getD k.val .reset).valid
      then (s.vsel.profiles.toList.getD k.val .reset).entries.map fun e => { e with outcome := 1 }
      else []) = profileEntries k s := by
  have hk : s.vsel.profiles.toList.getD k.val .reset = s.vsel.profiles[k] := by
    simp [List.getD]
  rw [hk]
  rfl

/-- The validation of a profile's entries. -/
def judged (k : Fin 8) (s : State) : Option (Nat × Nat) := validate 0 (profileEntries k s) (staging k s)

/-- The state in which the entries of profile `k` are judged, each with its outcome. -/
def judgedAt (k : Fin 8) (s : State) : State :=
  (staging k s).modPour fun q => { q with entries := markValid (judged k s) q.entries }

theorem stageProfile_eq (k : Fin 8) (s) : stageProfile k.val s = match judged k s with
    | some f => profileFailed (pourEnd 0x50 false ((judgedAt k s).modPour fun q => { q with fail := f.1 }))
    | none => judgedAt k s := by
  have he : (pourAbort s).vsel.profiles = s.vsel.profiles := by rw [pourAbort_outside]
  have hstage : ({ (pourAbort s).modPour fun q => { q with
        state := .validating, id := 0, fail := 255, profile := true
        entries := if ((pourAbort s).vsel.profiles.toList.getD k.val .reset).valid
          then ((pourAbort s).vsel.profiles.toList.getD k.val .reset).entries.map fun e => { e with outcome := 1 }
          else [] } with
      vsel := { ((pourAbort s).modPour id).vsel with staged := some k.val } } : State) = staging k s := by
    rw [he, profileEntries_eq]
    rfl
  unfold stageProfile
  extract_lets u p v _ w bad x
  have hw : w = staging k s := hstage
  have hbad : bad = judged k s := by
    show validate 0 w.pour.entries w = _
    rw [hw, (staging_shows k s).2.2.2.2.2.1]
    rfl
  have hx : x = judgedAt k s := by
    show w.modPour (fun q => { q with entries := markValid bad q.entries }) = _
    rw [hw, hbad]
    rfl
  rw [hx, hbad]
  cases judged k s <;> rfl

/-- The alert of a profile that failed (R120, R209). -/
theorem profileFailed_shows {s : State} (h : planeDown s = false) : (profileFailed s).alr.nextSeq = s.alr.nextSeq + 1 ∧
    (s.alr.queue.length < 64 → ∃ a ∈ (profileFailed s).alr.queue, a.cls = 3 ∧ a.kind = 9 ∧ a.reason = 7) ∧
    profileFailed s = { s with
      vsel := { s.vsel with fail := true, applying := none, staged := none, tries := 0 }
      alr := (profileFailed s).alr, bus := (profileFailed s).bus } := by
  have hdown : planeDown { s with vsel := { s.vsel with fail := true, applying := none, staged := none, tries := 0 } } = false := h
  unfold profileFailed alert alertAt
  dsimp only
  rw [hdown]
  exact ⟨enqueue_nextSeq _ _, fun hq => ⟨_, List.mem_of_getLast? (enqueue_last hq _), rfl, rfl, rfl⟩, enqueue_eq _ _⟩

/-- The staging of a profile, valid or not (R120, R209). -/
theorem stageProfile_stages {s : State} (k : Fin 8) (hst : s.sys.st = .standby ∨ s.sys.st = .run) :
    Staged k s (stageProfile k.val s) := by
  obtain ⟨htaps, hports, hsys, halr, hvsel, hes, hst', hid, hprofile, hresult⟩ := staging_shows k s
  rw [stageProfile_eq]
  cases hj : judged k s with
  | none =>
    dsimp only
    refine ⟨htaps, hports, hsys, hid, ?_, fun _ => ⟨hst', hprofile, ?_, ?_, ?_, hresult, ?_, halr⟩,
      fun f hf => nomatch hj.symm.trans hf⟩
    · exact congrArg (fun v => v.profiles) hvsel
    · exact congrArg (fun v => v.staged) hvsel
    · exact congrArg (fun v => v.applying) hvsel
    · rw [← hes, ← markValid_none, ← hj]
      rfl
    · exact congrArg (fun v => v.fail) hvsel
  | some f =>
    dsimp only
    have hdown : planeDown s = false := by rcases hst with h | h <;> simp [planeDown, h]
    generalize hu : (judgedAt k s).modPour (fun q => { q with fail := f.1 }) = u
    have hbusy : u.pour.state ≠ .idle := by rw [← hu]; show (staging k s).pour.state ≠ _; rw [hst']; nofun
    have hsysu : (pourEnd 0x50 false u).sys = s.sys := by rw [pourEnd_outside hbusy, ← hu]; exact hsys
    have halru : (pourEnd 0x50 false u).alr = s.alr := by rw [pourEnd_outside hbusy, ← hu]; exact halr
    obtain ⟨hseq, hqueue, hwhole⟩ := profileFailed_shows (s := pourEnd 0x50 false u) (by unfold planeDown; rw [hsysu]; exact hdown)
    obtain ⟨hidle, hres, hval, hfail, -, -, hents, -⟩ := ends_shows 0x50 false u.pour
    have hpour : (profileFailed (pourEnd 0x50 false u)).pour = u.pour.ends 0x50 false := by rw [hwhole, pourEnd_outside hbusy]
    rw [halru] at hseq hqueue
    refine ⟨?_, ?_, ?_, ?_, ?_, fun h => absurd (hj.symm.trans h) nofun, fun g hg => ?_⟩
    · rw [hwhole, pourEnd_outside hbusy, ← hu]; exact htaps
    · rw [hwhole, pourEnd_outside hbusy, ← hu]; exact hports
    · rw [hwhole]; exact hsysu
    · rw [hpour]
      refine Eq.trans (b := u.pour.id) (by simp [Pour.ends]) ?_
      rw [← hu]
      exact hid
    · rw [hwhole, pourEnd_outside hbusy, ← hu]; exact congrArg (fun v => v.profiles) hvsel
    · obtain rfl : f = g := Option.some.inj (hj.symm.trans hg)
      have hlt : f.1 < (profileEntries k s).length := by simpa using (validate_lt hg).2
      have hents' : (u.pour.ends 0x50 false).entries = markValid (some f) (profileEntries k s) := by
        rw [hents, ← hu, ← hes, ← hj]; rfl
      have hfail' : (u.pour.ends 0x50 false).fail = f.1 := by rw [hfail, ← hu]; rfl
      exact ⟨by rw [hpour]; exact hidle, by rw [hpour]; exact hres, by rw [hpour]; exact hval, by rw [hpour]; exact hfail',
        by rw [hwhole], by rw [hwhole], by rw [hwhole], by rw [hwhole],
        by rw [hpour, hents']; exact markValid_failed hlt, hseq, hqueue⟩

/-- Settles O15, from what the staging of a profile comes to. -/
theorem vselCountsAndStages : Obligations.VselCountsAndStages := by
  unfold Obligations.VselCountsAndStages
  intro s
  refine ⟨fun v hp hv he => ?_, fun v hp hv he => ?_, fun k ha hs hst => ?_⟩
  · by_cases hst : s.sys.st = .standby ∨ s.sys.st = .run
    · have hrun : exec (.vselCount v) s = .next { s with vsel := { s.vsel with
          pins := v.val, applying := some v.val, pending := false, tries := 0 } } := by
        show execVselCount v s = _
        simp [execVselCount, hp, hv, he, hst]
      exact ⟨_, hrun, rfl, fun _ => ⟨rfl, rfl⟩, fun h h' => absurd hst (by simp [h, h']), rfl⟩
    · have hrun : exec (.vselCount v) s = .next { s with vsel := { s.vsel with pins := v.val, pending := true } } := by
        show execVselCount v s = _
        simp [execVselCount, hp, hv, he, hst]
      exact ⟨_, hrun, rfl, fun h => absurd h hst, fun _ _ => ⟨rfl, rfl⟩, rfl⟩
  · show execVselCount v s = _
    simp [execVselCount, hp, hv, he]
  · have hdue : profileDue s = true := by simp [profileDue, ha, hst, hs]
    have happly (ht : s.vsel.tries = 0) : exec .profileApply s = .next (stageProfile k.val s) := by
      show execProfileApply s = _
      simp [execProfileApply, ha, hdue, ht]
    have hretry (ht : s.vsel.tries ≠ 0) : exec .profileRetry s = .next (stageProfile k.val s) := by
      show execProfileRetry s = _
      simp [execProfileRetry, ha, hdue, ht]
    exact ⟨fun ht => ⟨_, happly ht, stageProfile_stages k hst⟩, fun ht => ⟨_, hretry ht, stageProfile_stages k hst⟩⟩

end Sys2Proof.Machine
end

/-! ## Links: what an operation on one link leaves alone -/

section
open Sys2Proof.Claims
namespace Sys2Proof.Machine

/-! ### One link -/

theorem modLink_own (x f) (s : State) : (s.modLink x f).links[x] = f s.links[x] := by
  rw [State.modLink_links, if_pos rfl]

theorem modLink_modLink (x f g) (s : State) : (s.modLink x f).modLink x g = s.modLink x fun l => g (f l) := by
  unfold State.modLink
  rw [getElem_set_fin, if_pos rfl]
  congr 1
  exact Vector.set_set ..

theorem modLink_but (x f) (s : State) : LinksBut x s (s.modLink x f) :=
  fun y hy => by rw [State.modLink_links, if_neg hy]

theorem modLink_only (x f) (s : State) : OnlyLink x s (s.modLink x f) := ⟨modLink_but x f s, rfl⟩

theorem linkActs_eq (x r s) : linkActs x r s = s.modLink x fun l => { l with acted := r } := rfl

theorem send_eq (x m s) : send x m s = s.modLink x fun l => { l with txq := txInsert m l.txq } := rfl

/-- An operation on port `x`: its link becomes `f` of what it was; no other link, no other port, no counter changes. -/
structure LinkOp (x : Fin 4) (f : LinkPort → LinkPort) (s t : State) : Prop where
  own : t.links[x] = f s.links[x]
  links : LinksBut x s t
  ports : PortsBut x s t
  sys : t.sys = s.sys
  ctrs : t.ctrs = s.ctrs

namespace LinkOp

variable {x : Fin 4} {f g : LinkPort → LinkPort} {s t u : State}

theorem refl (x s) : LinkOp x id s s := ⟨rfl, fun _ _ => rfl, fun _ _ => rfl, rfl, rfl⟩

theorem trans (h : LinkOp x f s t) (k : LinkOp x g t u) : LinkOp x (fun l => g (f l)) s u :=
  ⟨by rw [k.own, h.own], fun y hy => (k.links y hy).trans (h.links y hy),
    fun y hy => (k.ports y hy).trans (h.ports y hy), k.sys.trans h.sys, k.ctrs.trans h.ctrs⟩

theorem modLink (x f s) : LinkOp x f s (s.modLink x f) :=
  ⟨modLink_own x f s, modLink_but x f s, fun _ _ => rfl, rfl, rfl⟩

/-- An operation that leaves the links and the ports. -/
theorem beside (x) (hl : t.links = s.links) (hp : t.ports = s.ports) (hs : t.sys = s.sys) (hc : t.ctrs = s.ctrs) :
    LinkOp x id s t :=
  ⟨by rw [hl]; rfl, fun _ _ => by rw [hl], fun _ _ => by rw [hp], hs, hc⟩

theorem ite {c : Prop} [Decidable c] (h : LinkOp x f s t) (k : LinkOp x f s u) : LinkOp x f s (if c then t else u) := by
  split
  · exact h
  · exact k

/-- Two functions that agree on the link. -/
theorem congr (h : LinkOp x f s t) (hfg : f s.links[x] = g s.links[x]) : LinkOp x g s t :=
  ⟨h.own.trans hfg, h.links, h.ports, h.sys, h.ctrs⟩

end LinkOp

theorem changePort_op (x : Fin 4) (f s) : LinkOp x id s (changePort x f s) := by
  refine ⟨?_, fun y _ => ?_, changePort_but x f s, ?_, ?_⟩ <;> rw [changePort_outside]
  rfl

/-! ### The end of a contract (R298) -/

/-- A link as its contract ends. -/
def LinkPort.voided (cause : Nat) (tell : Bool) (l : LinkPort) : LinkPort :=
  if l.inForce then
    { l with
      inForce := false, cwMin := 0, cwMax := 0, ciLim := 0, age := 0, provisional := false, deadbatt := false
      state := if l.state = .transition ∨ l.state = .contract then .attached else l.state
      modes := l.modes &&& 0b011, readyDue := false
      tTransition := false, tTieClose := false, tReady := false, tNegotiation := false, kaVoid := 0
      evVoid := true, voidCause := cause
      txq := if tell then txInsert { cls := .voidMsg, type := 0x08, objs := [], via := none } l.txq else l.txq }
  else l

theorem voided_shows {l : LinkPort} (h : l.inForce = true) (cause tell) : (l.voided cause tell).inForce = false ∧
    (l.voided cause tell).cwMin = 0 ∧ (l.voided cause tell).cwMax = 0 ∧ (l.voided cause tell).ciLim = 0 ∧
    (l.voided cause tell).voidCause = cause ∧ (l.voided cause tell).evVoid = true ∧
    (l.voided cause tell).state = (if l.state = .transition ∨ l.state = .contract then .attached else l.state) ∧
    (l.voided cause tell).txq =
      if tell then txInsert { cls := .voidMsg, type := 0x08, objs := [], via := none } l.txq else l.txq := by
  unfold LinkPort.voided
  rw [if_pos h]
  exact ⟨rfl, rfl, rfl, rfl, rfl, rfl, rfl, rfl⟩

theorem voidLink_idle {x : Fin 4} {s : State} (h : s.links[x].inForce = false) (cause tell) : voidLink x cause tell s = s :=
  if_pos (by rw [h]; rfl)

/-- The end of a contract, beside its LINK record and its alert. -/
theorem voidLink_op (x cause tell s) : LinkOp x (·.voided cause tell) s (voidLink x cause tell s) := by
  by_cases h : s.links[x].inForce = false
  · rw [voidLink_idle h]
    exact (LinkOp.refl x s).congr (if_neg (by rw [h]; nofun)).symm
  · unfold voidLink
    extract_lets l bbx s₁ s₂ s₃ tie s₄ s₅ s₆
    have recorded : LinkOp x id s s₁ := .beside x (by simp [s₁]) (by simp [s₁]) (by simp [s₁]) (by simp [s₁])
    have ended : LinkOp x _ s₁ s₂ := .modLink ..
    have widened : LinkOp x id s₂ s₃ := ⟨rfl, fun _ _ => rfl, .modPort x _ s₂, rfl, rfl⟩
    have untied : LinkOp x id s₃ s₄ := .ite ⟨rfl, fun _ _ => rfl, fun _ _ => rfl, rfl, rfl⟩ (.refl ..)
    have stopped : LinkOp x id s₄ s₅ := .ite (changePort_op ..) (.refl ..)
    have told : LinkOp x (fun l => if tell then { l with txq := txInsert { cls := .voidMsg, type := 0x08, objs := [], via := none } l.txq } else l)
        s₅ s₆ := by
      cases tell
      · exact .refl ..
      · exact .modLink ..
    have alerted : LinkOp x id s₆ (alertAt bbx 2 6 3 x.val cause s₆) :=
      .beside x (by simp) (by simp) (by simp) (by simp)
    rw [if_neg (by simpa [l] using h)]
    refine (((((recorded.trans ended).trans widened).trans untied).trans stopped).trans (told.trans alerted)).congr ?_
    refine Eq.trans ?_ (if_pos (Bool.eq_true_of_not_eq_false h)).symm
    cases tell <;> rfl

theorem voidLink_tie {x : Fin 4} {s : State} (h : s.links[x].inForce = true) (cause tell) :
    (voidLink x cause tell s).tie = if s.links[x].role = true ∧ x.val = 3 then { s.tie with en := false } else s.tie := by
  unfold voidLink
  extract_lets l bbx s₁ s₂ s₃ tie s₄ s₅ s₆
  have stopped : s₅.tie = s₄.tie := by
    simp only [s₅]
    split
    · rw [changePort_outside]
    · rfl
  have told : s₆.tie = s₅.tie := by
    simp only [s₆]
    split <;> simp
  rw [if_neg (by rw [h]; nofun)]
  have alerted : (alertAt bbx 2 6 3 x.val cause s₆).tie = s₆.tie := by simp
  rw [alerted, told, stopped]
  have before : s₃.tie = s.tie := by simp [s₃, s₂, s₁]
  simp only [s₄, tie, Bool.and_eq_true, decide_eq_true_eq]
  split
  · rw [before]
  · exact before

/-- Once void, the contract narrows the intake no more (R298). -/
theorem voidLink_narrow {x : Fin 4} {s : State} (h : s.links[x].inForce = true) (cause tell) :
    (voidLink x cause tell s).ports[x].narrow = false := by
  unfold voidLink
  extract_lets l bbx s₁ s₂ s₃ tie s₄ s₅ s₆
  have wide : s₃.ports[x].narrow = false := by
    simp only [s₃]
    rw [modPort_same]
  have held : s₄.ports[x].narrow = false := by
    simp only [s₄]
    split <;> exact wide
  have stopped : s₅.ports[x].narrow = false := by
    simp only [s₅]
    split
    · rw [changePort_same]
      exact held
    · exact held
  have told : (alertAt bbx 2 6 3 x.val cause s₆).ports = s₅.ports := by
    simp only [s₆]
    split <;> simp
  rw [if_neg (by rw [h]; nofun), told]
  exact stopped

/-- A void reaches the state `t` of a run of operations on the one link, of which its end is part. -/
theorem voided_of {x : Fin 4} {cause : Nat} {f : LinkPort → LinkPort} {s t : State} (k : LinkOp x f s t)
    (hforce : (f s.links[x]).inForce = false) (hlo : (f s.links[x]).cwMin = 0) (hhi : (f s.links[x]).cwMax = 0)
    (hlim : (f s.links[x]).ciLim = 0) (hcause : (f s.links[x]).voidCause = cause) (hev : (f s.links[x]).evVoid = true)
    (hnarrow : t.ports[x].narrow = false) (htie : s.links[x].role = true → x.val = 3 → t.tie.en = false) :
    Voided x cause s t := by
  unfold Voided
  rw [k.own]
  exact ⟨hforce, hlo, hhi, hlim, hcause, hev, hnarrow, k.links, k.ctrs, k.sys, htie⟩

/-- The end of a contract in force voids it, whatever the link does before and after beside it. -/
theorem voidLink_voids {x : Fin 4} {f g : LinkPort → LinkPort} {s t u : State} {cause : Nat} {tell : Bool}
    (before : LinkOp x f s t) (after : LinkOp x g (voidLink x cause tell t) u) (h : t.links[x].inForce = true)
    (hrole : t.links[x].role = s.links[x].role)
    (hports : u.ports = (voidLink x cause tell t).ports) (htie : u.tie = (voidLink x cause tell t).tie)
    (hg : ∀ l : LinkPort, (g l).inForce = l.inForce ∧ (g l).cwMin = l.cwMin ∧ (g l).cwMax = l.cwMax ∧ (g l).ciLim = l.ciLim ∧
      (g l).voidCause = l.voidCause ∧ (g l).evVoid = l.evVoid) : Voided x cause s u := by
  have hf : (f s.links[x]).inForce = true := by rw [← before.own]; exact h
  obtain ⟨hforce, hlo, hhi, hlim, hcause, hev⟩ := hg ((f s.links[x]).voided cause tell)
  obtain ⟨vforce, vlo, vhi, vlim, vcause, vev, -⟩ := voided_shows hf cause tell
  refine voided_of ((before.trans (voidLink_op x cause tell t)).trans after) ?_ ?_ ?_ ?_ ?_ ?_ ?_ fun hr hx => ?_
  · exact hforce.trans vforce
  · exact hlo.trans vlo
  · exact hhi.trans vhi
  · exact hlim.trans vlim
  · exact hcause.trans vcause
  · exact hev.trans vev
  · rw [hports]
    exact voidLink_narrow h cause tell
  · rw [htie, voidLink_tie h, if_pos ⟨hrole.trans hr, hx⟩]

/-- A Void message waits in the queue of a link whose contract this port has voided (R298). -/
theorem voided_tells {l : LinkPort} (h : l.inForce = true) (cause) :
    ((l.voided cause true).txq.any fun m => decide (m.type = 0x08)) = true := by
  rw [(voided_shows h cause true).2.2.2.2.2.2.2]
  simp [txInsert]

/-! ### The intake of a port that presents source (R296) -/

theorem sourceOff_quiet {x : Fin 4} {s : State} (h : s.links[x].asSource = false) : sourceOff x s = s :=
  if_neg (by rw [h]; nofun)

theorem sourceOff_op (x s) : LinkOp x id s (sourceOff x s) := .ite (changePort_op ..) (.refl ..)

theorem sourceOff_outside (x s) : sourceOff x s =
    { s with ports := (sourceOff x s).ports, hub := (sourceOff x s).hub, taps := (sourceOff x s).taps } := by
  unfold sourceOff
  split
  · rw [changePort_outside]
  · rfl

theorem sourceOff_disables {x : Fin 4} {s : State} (h : s.links[x].asSource = true) :
    (sourceOff x s).ports[x].state = .disabled := by
  unfold sourceOff
  rw [h]
  by_cases hp : s.ports[x].state = .disabled
  · rw [if_neg (by simpa using hp)]
    exact hp
  · rw [if_pos (by simpa using hp), changePort_same]
    rfl

/-- Only an intake that leaves ONLINE can begin a hand-over. -/
theorem sourceOff_taps {x : Fin 4} {s : State} (h : s.ports[x].state ≠ .online) : (sourceOff x s).taps = s.taps := by
  have online : anyOnline (s.modPort x Port.disable) = anyOnline s := by
    have same (y : Fin 4) : decide ((s.modPort x Port.disable).ports[y].state = .online) = decide (s.ports[y].state = .online) := by
      rw [State.modPort_ports]
      split
      next hy =>
        subst hy
        simp only [decide_eq_false h]
        rfl
      next => rfl
    unfold anyOnline
    rw [Bool.eq_iff_iff]
    simp only [List.any_eq_true, Vector.mem_toList_iff, Vector.mem_iff_getElem]
    constructor
    · rintro ⟨p, ⟨i, hi, rfl⟩, hp⟩
      exact ⟨_, ⟨i, hi, rfl⟩, (same ⟨i, hi⟩).symm.trans hp⟩
    · rintro ⟨p, ⟨i, hi, rfl⟩, hp⟩
      exact ⟨_, ⟨i, hi, rfl⟩, (same ⟨i, hi⟩).trans hp⟩
  unfold sourceOff
  split
  · unfold changePort handOver
    dsimp only
    rw [online, if_neg (by simp)]
    rfl
  · rfl

/-! ### Answers -/

theorem answerOf_congr {s t : State} (hm : t.mbx = s.mbx) (hn : t.monAnswer = s.monAnswer) (ho : t.ownAnswer = s.ownAnswer)
    (via) : answerOf via t = answerOf via s := by
  cases via <;> simp only [answerOf, hm, hn, ho]

theorem answerOpt_op (x : Fin 4) (via code res s) : LinkOp x id s (answerOpt via code res s) :=
  .beside x (by simp) (by simp) (by simp) (by simp)

/-- The answers that the messages of a link take as they end. -/
def endAll (outcome : Nat) (ctr : BitVec 3) (ms : List TxMsg) (s : State) : State :=
  ms.foldl (fun s m => answerOpt m.via 0 [word outcome, word ctr.toNat] s) s

theorem endAll_outside (outcome ctr) : ∀ ms s, endAll outcome ctr ms s = { s with
    mbx := (endAll outcome ctr ms s).mbx, monAnswer := (endAll outcome ctr ms s).monAnswer
    ownAnswer := (endAll outcome ctr ms s).ownAnswer }
  | [], _ => rfl
  | m :: ms, s => by
    rw [show endAll outcome ctr (m :: ms) s = endAll outcome ctr ms (answerOpt m.via 0 [word outcome, word ctr.toNat] s) from rfl,
      endAll_outside outcome ctr ms, answerOpt_outside]

/-- The messages of a link end (R283). -/
theorem dropMessages_outside (x outcome s) : dropMessages x outcome s = { s with
    mbx := (dropMessages x outcome s).mbx, monAnswer := (dropMessages x outcome s).monAnswer
    ownAnswer := (dropMessages x outcome s).ownAnswer } := by
  have shape : dropMessages x outcome s = answerOpt s.links[x].swapVia 0 [3]
      (endAll outcome s.links[x].txCtr (s.links[x].flight.toList ++ s.links[x].txq) s) := rfl
  rw [shape, answerOpt_outside, endAll_outside]

theorem dropMessages_op (x outcome s) : LinkOp x id s (dropMessages x outcome s) := by
  rw [dropMessages_outside]
  exact .beside x rfl rfl rfl rfl

theorem detachTo_op (x st s) : LinkOp x (·.detach st) s (detachTo x st s) :=
  (dropMessages_op x 2 s).trans (.modLink x (·.detach st) _)

theorem detachTo_outside (x st s) : detachTo x st s = { s with
    links := (detachTo x st s).links, mbx := (detachTo x st s).mbx, monAnswer := (detachTo x st s).monAnswer
    ownAnswer := (detachTo x st s).ownAnswer } := by
  unfold detachTo
  rw [dropMessages_outside]
  rfl

/-! ### The events of a link -/

section
variable {x : Fin 4} {s : State}

theorem linkEvent_runs (hp : s.powered = true) (f) : linkEvent f s = .next (f s) := by simp [linkEvent, hp]

theorem linkTimer_runs (hp : s.powered = true) (ha : s.links[x].acted = 0 ∨ 4 < s.links[x].acted) {due : State → Bool}
    (hd : due s = true) (f) : linkTimer x due f s = .next (linkActs x 4 (f s)) := by
  rw [linkTimer, linkEvent_runs hp, if_pos]
  rw [hd, decide_eq_true ha]
  rfl

/-- A timer that ends in a sample which acted on a link event of the same or a higher rank does nothing (R282). -/
theorem linkTimer_late (hp : s.powered = true) (h0 : 0 < s.links[x].acted) (h4 : s.links[x].acted ≤ 4) (due f) :
    linkTimer x due f s = .next s := by
  rw [linkTimer, linkEvent_runs hp, if_neg]
  rw [decide_eq_false (by omega), Bool.and_false]
  nofun

theorem received_runs (hp : s.powered = true) (hl : s.links[x].attached = true) (ha : s.links[x].acted = 0) (f) :
    received x f s = .next (f s) := by
  rw [received, linkEvent_runs hp, if_pos]
  rw [LinkPort.linked, hl, decide_eq_true ha]
  rfl

theorem pilotEvent_runs (hp : s.powered = true) {v : Int} (hv : pilotRated v = true) (f) :
    pilotEvent x v f s = .next (f (s.modLink x fun l => { l with pilot := v })) := by
  simp [pilotEvent, hp, hv]

end

end Sys2Proof.Machine
end

/-! ## Commands to a link (O16) -/

section
open Sys2Proof.Claims
namespace Sys2Proof.Machine

/-! ### The words -/

/-- With ARG1 set the words name the same port, hold the same values, and their command is accepted where the other is. -/
theorem withArg1_words {a : List Word} (v : Nat) (h : arg a 1 < 2) : arg (withArg1 v a) 0 = arg a 0 ∧
    (v < 65536 → arg (withArg1 v a) 1 = v) ∧ ∀ k, arg (withArg1 v a) (k + 2) = arg a (k + 2) := by
  rw [arg_withArg1 v h]
  refine ⟨rfl, fun hv => Nat.mod_eq_of_lt hv, fun k => ?_⟩
  match a with
  | [] => rfl
  | [_] => rfl
  | _ :: _ :: _ => rfl

theorem accepts_withArg1 {op : Nat} {via : Via} {a : List Word} {s : State} (v : Nat) (h : Accepts op via a s) :
    Accepts op via (withArg1 v a) s := by
  have first : arg (withArg1 v a) 0 = arg a 0 := by
    unfold withArg1
    split <;> rfl
  obtain ⟨hp, hst, hc, hw, hg, ho⟩ := h
  exact ⟨hp, hst, hc, hw, hg, by rwa [ownerUp, ownerCore_congr first]⟩

theorem linkFree_ok {x : Fin 4} {s : State} (h : s.links[x].acted = 0 ∨ 6 ≤ s.links[x].acted) : linkFree s x = none := by
  rw [linkFree, decide_eq_true h]
  rfl

/-! ### A link command that acts (R282) -/

section
variable {via : Via} {a : List Word} {s u : State} {op code : Nat} {x : Fin 4} {run : List Word → State → Reply} {res : List Word}

theorem acting_refused (hr : run a s = .now code res u) (h0 : code ≠ 0) (h1 : code ≠ 1) : acting run a s = .now code res u := by
  rw [acting, hr]
  simp [h0, h1]

theorem acting_acts (hx : arg a 0 = x.val) (hr : run a s = .now code res u) (h : code = 0 ∨ code = 1) :
    acting run a s = .now code res (linkActs x 6 u) := by
  rw [acting, hr, portOf_of_arg hx]
  simp [h]

theorem acting_later (hx : arg a 0 = x.val) (hr : run a s = .later u) : acting run a s = .later (linkActs x 6 u) := by
  rw [acting, hr, portOf_of_arg hx]

/-- A link command that its checks refuse. -/
theorem linkRefuses (ha : Accepts op via a s) (hr : run a s = .now code [] s) (h0 : code ≠ 0) (h1 : code ≠ 1) :
    hostCommand op (acting run) via a s = .next (answer via code [] s) :=
  hostCommand_answers ha (acting_refused hr h0 h1)

theorem linkAnswers (hx : arg a 0 = x.val) (ha : Accepts op via a s) (hr : run a s = .now code res u) (h : code = 0 ∨ code = 1) :
    hostCommand op (acting run) via a s = .next (answer via code res (linkActs x 6 u)) :=
  hostCommand_answers ha (acting_acts hx hr h)

theorem linkWaits (hx : arg a 0 = x.val) (ha : Accepts op via a s) (hr : run a s = .later u) :
    hostCommand op (acting run) via a s = .next (linkActs x 6 u) :=
  hostCommand_later ha (acting_later hx hr)

end

theorem answer_links (via code res s) : (answer via code res s).links = s.links := by simp

theorem answer_op (x : Fin 4) (via code res s) : LinkOp x id s (answer via code res s) :=
  .beside x (by simp) (by simp) (by simp) (by simp)

/-- A command that changes one link alone and answers. -/
theorem answer_modLink (via code res) (x : Fin 4) (f) (s : State) :
    (answer via code res (s.modLink x f)).links[x] = f s.links[x] ∧ LinksBut x s (answer via code res (s.modLink x f)) ∧
      answer via code res (s.modLink x f) =
        answer via code res { s with links := (answer via code res (s.modLink x f)).links } := by
  rw [LinksBut, answer_links]
  exact ⟨modLink_own x f s, modLink_but x f s, rfl⟩

/-! ### LNK_SET_PRESENT (R279, R281) -/

/-- The presentation that ARG1 names. -/
def presentOf (k : Nat) : Present := match k with
  | 0 => .off
  | 1 => .sink
  | 2 => .source
  | _ => .dual

theorem presentOf_off {k : Nat} : presentOf k = .off ↔ k = 0 := by
  unfold presentOf
  split <;> simp_all

/-- A link whose presentation is set. -/
def LinkPort.shows (p : Present) (l : LinkPort) : LinkPort :=
  { l with present := p, phaseSource := decide (p = .source)
           state := if p = .off then .off else if l.state = .off ∨ l.state = .debounce then .unattached else l.state }

/-- A port before its new presentation shows: out of its contract and of its attachment. -/
def leaves (x : Fin 4) (s : State) : State :=
  if s.links[x].attached || decide (s.links[x].state = .swap) then detachTo x .unattached (voidLink x 9 false s)
  else voidLink x 9 false s

section
variable {a : List Word} {s : State} {x : Fin 4} (hx : arg a 0 = x.val)
include hx

theorem runSetPresent_eq (hf : linkFree s x = none) (h3 : arg a 1 ≤ 3) (hd : arg a 1 ≤ 1 ∨ x.val = 3)
    (hne : s.links[x].present ≠ presentOf (arg a 1)) :
    runSetPresent a s = done (sourceOff x ((leaves x s).modLink x (·.shows (presentOf (arg a 1))))) := by
  obtain rfl : portOf (arg a 0) = x := portOf_of_arg hx
  have pass : first [portArg a, rng 0 3 (arg a 1), need (decide (arg a 1 ≤ 1 ∨ arg a 0 = 3)), linkFree s (portOf (arg a 0))] = none := by
    rw [portArg_ok hx, rng_ok (Nat.zero_le _) h3, decide_eq_true (by rwa [hx]), hf]
    rfl
  exact (checked_pass pass).trans ((if_neg hne).trans rfl)

theorem runSetPresent_beyond (h : 4 ≤ arg a 1) : runSetPresent a s = .now 0x22 [] s :=
  checked_fail (by rw [portArg_ok hx, rng_out (by omega)]; rfl)

theorem runSetPresent_sourceless (h : arg a 1 = 2 ∨ arg a 1 = 3) (h3 : x.val ≠ 3) : runSetPresent a s = .now 0x21 [] s :=
  checked_fail (by
    rw [portArg_ok hx, rng_ok (Nat.zero_le _) (by omega), decide_eq_false (by rw [hx]; omega)]
    rfl)

end

theorem leaves_idle {x : Fin 4} {s : State} (hf : s.links[x].inForce = false) (ha : s.links[x].attached = false)
    (hs : s.links[x].state ≠ .swap) : leaves x s = s := by
  unfold leaves
  rw [voidLink_idle hf, ha, decide_eq_false hs]
  rfl

theorem shows_unattached {l : LinkPort} (p) (h : l.attached = false) : (l.shows p).attached = false := by
  simp only [LinkPort.attached, decide_eq_false_iff_not, LinkPort.shows] at h ⊢
  split_ifs <;> simp_all

theorem shows_asSource {l : LinkPort} (p) (h : l.attached = false) : (l.shows p).asSource = decide (p = .source) := by
  rw [LinkPort.asSource, shows_unattached p h]
  simp [LinkPort.shows]

theorem voided_void (cause tell) (l : LinkPort) : (l.voided cause tell).inForce = false := by
  by_cases h : l.inForce = true
  · exact (voided_shows h cause tell).1
  · rw [show l.voided cause tell = l from if_neg h]
    simpa using h

/-- A contract in force ends with cause presentation, and the attachment with it. -/
theorem leaves_op {x : Fin 4} {s : State} (h : s.links[x].attached = true) :
    LinkOp x (fun l => (l.voided 9 false).detach .unattached) s (leaves x s) := by
  unfold leaves
  rw [h]
  exact (voidLink_op ..).trans (detachTo_op ..)

/-! ### LNK_SET_CONTRACT and LNK_SET_TIE (R292, R298, R299) -/

section
variable {a : List Word} {s : State} {x : Fin 4} (hx : arg a 0 = x.val)
include hx

theorem runApply_beyond (h : 2 ≤ arg a 1) : runApply a s = .now 0x22 [] s :=
  checked_fail (by rw [portArg_ok hx, rng_out (v := arg a 1) (by omega)]; rfl)

theorem runVoid_beyond (h : 2 ≤ arg a 1) : runVoid a s = .now 0x22 [] s :=
  checked_fail (by rw [portArg_ok hx, rng_out (v := arg a 1) (by omega)]; rfl)

theorem runApply_eq (h1 : arg a 1 ≤ 1) (hlo : 1000 ≤ arg a 2) (hgap : arg a 2 + 200 ≤ arg a 3) (hhi : arg a 3 ≤ 4000)
    (hlim : arg a 4 ≤ 4000) (hf : linkFree s x = none) (ha : s.links[x].attached = true) :
    runApply a s = done (applyContract x (arg a 2) (arg a 3) (arg a 4) false s) := by
  obtain rfl : portOf (arg a 0) = x := portOf_of_arg hx
  refine checked_pass ?_
  rw [portArg_ok hx, rng_ok (Nat.zero_le _) h1, rng_ok hlo (by omega), rng_ok (v := arg a 3) (by omega) hhi,
    rng_ok (Nat.zero_le _) hlim, decide_eq_true hgap, hf, ha]
  rfl

theorem runVoid_eq (h1 : arg a 1 ≤ 1) (hf : linkFree s x = none) : runVoid a s =
    if s.links[x].inForce then done (voidLink x 1 true s) else .now 0x70 [] s := by
  obtain rfl : portOf (arg a 0) = x := portOf_of_arg hx
  unfold runVoid
  dsimp only
  rw [portArg_ok hx, rng_ok (Nat.zero_le _) h1, hf]
  split
  · exact checked_pass rfl
  · exact checked_fail rfl

theorem runVoid_busy (h1 : arg a 1 ≤ 1) (h0 : s.links[x].acted ≠ 0) (h6 : s.links[x].acted < 6) :
    runVoid a s = .now 0x30 [] s := by
  obtain rfl : portOf (arg a 0) = x := portOf_of_arg hx
  refine checked_fail (c := 0x30) ?_
  rw [portArg_ok hx, rng_ok (Nat.zero_le _) h1, linkFree, decide_eq_false (by omega)]
  rfl

end

/-- A link as a contract comes into force (R292 to R295). -/
def LinkPort.takes (lo hi lim : Nat) (tie : Bool) (l : LinkPort) : LinkPort :=
  { l with
    inForce := true, cwMin := lo, cwMax := hi, ciLim := if l.role && !l.acceptSent then min lim 160 else lim, age := 0
    provisional := l.role && !l.acceptSent, deadbatt := false, kaVoid := 0
    state := if !l.role && l.readyRem then .contract else .transition
    readyDue := l.role && l.acceptSent
    tTieClose := l.role && !tie, tTransition := l.role && tie
    tReady := !l.role && !l.readyRem }

theorem applyContract_op (x lo hi lim s) : LinkOp x (·.takes lo hi lim s.tie.en) s (applyContract x lo hi lim false s) ∧
    (applyContract x lo hi lim false s).taps = s.taps ∧ (applyContract x lo hi lim false s).tie = s.tie := by
  obtain ⟨now, but, -, whole⟩ := checkNarrow_port x (s.modLink x (·.takes lo hi lim s.tie.en))
  have shape : applyContract x lo hi lim false s = checkNarrow x (s.modLink x (·.takes lo hi lim s.tie.en)) := rfl
  have narrowed : LinkOp x id (s.modLink x (·.takes lo hi lim s.tie.en)) (checkNarrow x (s.modLink x (·.takes lo hi lim s.tie.en))) := by
    refine ⟨?_, fun y _ => ?_, but, ?_, ?_⟩ <;> rw [whole]
    rfl
  rw [shape]
  refine ⟨(LinkOp.modLink x (·.takes lo hi lim s.tie.en) s).trans narrowed, ?_, ?_⟩ <;> rw [whole] <;> rfl

theorem runTieClose_beyond {a : List Word} {s : State} (hx : arg a 0 = 3) (h : 2 ≤ arg a 1) : runTieClose a s = .now 0x22 [] s :=
  checked_fail (by rw [rng_ok (v := arg a 0) (by omega) (by omega), rng_out (v := arg a 1) (by omega)]; rfl)

theorem runTieOpen_beyond {a : List Word} {s : State} (hx : arg a 0 = 3) (h : 2 ≤ arg a 1) : runTieOpen a s = .now 0x22 [] s :=
  checked_fail (by rw [rng_ok (v := arg a 0) (by omega) (by omega), rng_out (v := arg a 1) (by omega)]; rfl)

/-- TIE_EN is asserted, unless it is already (R299). -/
def closesTie (s : State) : State :=
  if s.tie.en then s else
    State.modLink { s with tie := { s.tie with en := true } } 3 fun l =>
      { l with tTieClose := false, tTransition := decide (l.state = .transition), tNegotiation := l.provisional }

theorem runTieClose_eq {a : List Word} {s : State} (hx : arg a 0 = 3) (h1 : arg a 1 ≤ 1) (hf : linkFree s 3 = none)
    (hrole : s.links[(3 : Fin 4)].role = true) (hforce : s.links[(3 : Fin 4)].inForce = true) (hlong : s.sys.longPress = false)
    (hw : inContract s.links[(3 : Fin 4)] s.sys.vStr = true) : runTieClose a s = accepted (closesTie s) := by
  unfold runTieClose
  dsimp only
  rw [checked_pass (by
    rw [rng_ok (v := arg a 0) (by omega) (by omega), rng_ok (Nat.zero_le _) h1, hf, hrole, hforce, hw]
    rfl), hlong, Bool.or_false]
  rfl

theorem runTieOpen_eq {a : List Word} {s : State} (hx : arg a 0 = 3) (h1 : arg a 1 ≤ 1) (hf : linkFree s 3 = none) :
    runTieOpen a s = accepted { s with tie := { s.tie with en := false } } :=
  checked_pass (by
    rw [rng_ok (v := arg a 0) (by omega) (by omega), rng_ok (Nat.zero_le _) h1, hf]
    rfl)

theorem closesTie_shows (s) : (closesTie s).tie = { s.tie with en := true } ∧ LinksBut 3 s (closesTie s) ∧
    (s.tie.en = false → s.links[(3 : Fin 4)].state = .transition →
      (closesTie s).links[(3 : Fin 4)].tTransition = true ∧ (closesTie s).links[(3 : Fin 4)].tTieClose = false) ∧
    closesTie s = { s with tie := (closesTie s).tie, links := (closesTie s).links } := by
  unfold closesTie
  by_cases h : s.tie.en = true
  · rw [if_pos h]
    exact ⟨by rw [← h], fun _ _ => rfl, fun h' => absurd h (by rw [h']; nofun), rfl⟩
  · rw [if_neg h]
    refine ⟨rfl, modLink_but _ _ _, fun _ ht => ?_, rfl⟩
    rw [modLink_own]
    exact ⟨decide_eq_true ht, rfl⟩

/-! ### LNK_SEND, LNK_RECV and LNK_SWAP_ROLE (R271, R289, R290, R302) -/

/-- A message of the host is the last of its queue (R282). -/
theorem txInsert_last {m : TxMsg} (h : m.cls = .host) (q : List TxMsg) : txInsert m q = q ++ [m] := by
  have all : ∀ a ∈ q, decide (txRank a.cls ≤ txRank m.cls) = true := by
    intro a _
    rw [h]
    cases a.cls <;> rfl
  rw [txInsert, List.takeWhile_eq_self_iff.mpr all, List.dropWhile_eq_nil_iff.mpr all]

section
variable {via : Via} {a : List Word} {s : State} {x : Fin 4} (hx : arg a 0 = x.val)
include hx

/-- A message of the host with its object count in the list of R290. -/
theorem runSend_eq {type n : Nat} (hw : field (argW a 1) 0 8 = type) (hn : field (argW a 1) 8 4 = n)
    (hz : field (argW a 1) 12 4 = 0) (hl : n ∈ sendable type) : runSend via a s =
    checked [linkFree s x, allow s.links[x].attached,
        allow (!decide (type = 1 ∨ type = 2 ∨ type = 3) || s.links[x].reqWaiting),
        if asksRelay type (sendObjs a) && !s.links[x].inForce then some 0x70 else none] s
      (.later (s.modLink x fun l => { l with
        txq := l.txq ++ [{ cls := .host, type := type, objs := sendObjs a, via := some via }]
        reqWaiting := l.reqWaiting && !decide (type = 1 ∨ type = 2 ∨ type = 3) })) := by
  obtain rfl : portOf (arg a 0) = x := portOf_of_arg hx
  unfold runSend
  dsimp only
  rw [hw, hn, hz, portArg_ok hx, decide_eq_true ⟨hl, rfl⟩, send_eq, modLink_modLink]
  simp only [txInsert_last]
  rfl

theorem runSend_unlisted {type n : Nat} (hw : field (argW a 1) 0 8 = type) (hn : field (argW a 1) 8 4 = n)
    (hl : n ∉ sendable type) : runSend via a s = .now 0x21 [] s := by
  refine checked_fail (c := 0x21) ?_
  rw [hw, hn, portArg_ok hx, decide_eq_false (fun h => hl h.1)]
  rfl

theorem runRecv_eq (hf : linkFree s x = none) : runRecv a s = match s.links[x].rx with
    | [] => .now 0x11 [] s
    | m :: ms => .now 0 ([word (m.type + 256 * m.objs.length), word m.ctr.toNat]
        ++ m.objs.flatMap fun o => wordsOf 2 o.toNat) (s.modLink x fun l => { l with rx := ms }) := by
  obtain rfl : portOf (arg a 0) = x := portOf_of_arg hx
  unfold runRecv
  dsimp only
  rw [checked_pass (by rw [portArg_ok hx, hf]; rfl)]
  cases s.links[portOf (arg a 0)].rx <;> rfl

theorem runSwapRole_eq (hf : linkFree s x = none) (ha : s.links[x].attached = true) (ho : s.links[x].swapOwn = false)
    (hh : s.links[x].swapHeld = false) (hr : s.links[x].tSwapRetry = false) : runSwapRole via a s =
    .later (s.modLink x fun l => { l with
      swapVia := some via, swapOwn := true
      txq := l.txq ++ [{ cls := .host, type := 0x07, objs := [], via := none }] }) := by
  obtain rfl : portOf (arg a 0) = x := portOf_of_arg hx
  unfold runSwapRole
  dsimp only
  rw [checked_pass (by rw [portArg_ok hx, hf, ha, ho, hh]; rfl), hr, if_neg (by nofun), sendSwap, send_eq, modLink_modLink, modLink_modLink]
  simp only [txInsert_last]

end

/-- The fields of ARG1 of `LNK_SEND` (R271). -/
theorem send_fields {a : List Word} {type n : Nat} (ht : type < 256) (hn : n < 16) (h : arg a 1 = type + 256 * n) :
    field (argW a 1) 0 8 = type ∧ field (argW a 1) 8 4 = n ∧ field (argW a 1) 12 4 = 0 := by
  unfold field
  change arg a 1 / 2 ^ 0 % 2 ^ 8 = type ∧ arg a 1 / 2 ^ 8 % 2 ^ 4 = n ∧ arg a 1 / 2 ^ 12 % 2 ^ 4 = 0
  omega

theorem mem_sendable {type n : Nat} : n ∈ sendable type ↔
    ((type = 0x01 ∨ type = 0x02 ∨ type = 0x03 ∨ type = 0x09 ∨ type = 0x0A) ∧ n = 0) ∨
    (type = 0x10 ∧ (n = 2 ∨ n = 4 ∨ n = 6) ∨ type = 0x11 ∧ n = 2 ∨ type = 0x20 ∧ 1 ≤ n ∧ n ≤ 7) := by
  unfold sendable
  split
  case h_9 => simp_all
  all_goals simp
  omega

/-! ### The settings of a link -/

section
variable {via : Via} {args : List Word} {s : State} {x : Fin 4} (hx : arg args 0 = x.val)
  (hacted : s.links[x].acted = 0 ∨ 6 ≤ s.links[x].acted)
include hx hacted

/-- The presentation of a port that stands in no attachment changes alone (R279). -/
theorem setPresent_idle (ha : Accepts 0x0701 via args s) (h3 : arg args 1 ≤ 3) (hd : arg args 1 ≤ 1 ∨ x.val = 3)
    (hne : s.links[x].present ≠ presentOf (arg args 1)) (hf : s.links[x].inForce = false)
    (hat : s.links[x].attached = false) (hs : s.links[x].state ≠ .swap) :
    exec (.lnkSetPresent via args) s = .next (answer via 0 []
      (linkActs x 6 (sourceOff x (s.modLink x (·.shows (presentOf (arg args 1))))))) := by
  have run := runSetPresent_eq hx (linkFree_ok hacted) h3 hd hne
  rw [leaves_idle hf hat hs] at run
  exact linkAnswers hx ha run (.inl rfl)

/-- A sink presentation, or none, leaves the intake alone. -/
theorem setPresent_quiet (ha : Accepts 0x0701 via args s) (h1 : arg args 1 ≤ 1)
    (hne : s.links[x].present ≠ presentOf (arg args 1)) (hf : s.links[x].inForce = false)
    (hat : s.links[x].attached = false) (hs : s.links[x].state ≠ .swap) :
    ∃ t, exec (.lnkSetPresent via args) s = .next t ∧
      t.links[x] = { s.links[x].shows (presentOf (arg args 1)) with acted := 6 } ∧ LinksBut x s t ∧
      t = answer via 0 [] { s with links := t.links } := by
  have quiet : (s.modLink x (·.shows (presentOf (arg args 1)))).links[x].asSource = false := by
    rw [modLink_own, shows_asSource _ hat]
    have : arg args 1 = 0 ∨ arg args 1 = 1 := by omega
    rcases this with h | h <;> rw [h] <;> rfl
  refine ⟨_, setPresent_idle hx hacted ha (by omega) (.inl h1) hne hf hat hs, ?_⟩
  rw [sourceOff_quiet quiet, linkActs_eq, modLink_modLink]
  exact answer_modLink ..

end

/-- Settles O16, command by command. -/
theorem linkCommandsAct : Obligations.LinkCommandsAct := by
  unfold Obligations.LinkCommandsAct
  refine ⟨fun via args s x hx => ⟨fun hacted ha => ⟨?_, ?_, ?_, ?_⟩, ?_, ?_, ?_, ?_⟩, fun via args s x hx => ?_⟩
  · exact fun h => linkRefuses ha (runSetPresent_beyond hx h) nofun nofun
  · exact fun h h3 => linkRefuses ha (runSetPresent_sourceless hx h h3) nofun nofun
  · intro h h3 hf hat hs hne
    have p : presentOf (arg args 1) = if arg args 1 = 2 then .source else .dual := by
      rcases h with h | h <;> rw [h] <;> rfl
    refine ⟨_, setPresent_idle hx hacted ha (by omega) (.inr h3) (by rwa [p]) hf hat hs, ?_⟩
    have k := (sourceOff_op x (s.modLink x (·.shows (presentOf (arg args 1))))).trans (.modLink x (fun l => { l with acted := 6 }) _)
    have source := shows_asSource (presentOf (arg args 1)) hat
    rw [← modLink_own x (·.shows (presentOf (arg args 1))) s] at source
    refine ⟨?_, fun h2 => ?_, fun h3 => ?_, ?_, ?_, ?_⟩
    · rw [answer_links, linkActs_eq, k.own, modLink_own, p]
      rcases h with h | h <;> rw [h] <;> rfl
    · rw [answer_ports]
      exact sourceOff_disables (by rw [source, p, if_pos h2]; rfl)
    · rw [answer_ports, sourceOff_quiet (by rw [source, p, h3]; rfl)]
      rfl
    · exact .of_ports k.ports (answer_ports ..)
    · rw [LinksBut, answer_links]
      exact fun y hy => (k.links y hy).trans (modLink_but x _ s y hy)
    · simp only [answer_keeps]
      apply congrArg (answer via 0 [])
      rw [sourceOff_outside]
      rfl
  · intro h h3 hat hne
    have hne' : s.links[x].present ≠ presentOf (arg args 1) := hne
    have k := (((leaves_op hat).trans (.modLink x (·.shows (presentOf (arg args 1))) _)).trans (sourceOff_op ..)).trans
      (.modLink x (fun l => { l with acted := 6 }) _)
    refine ⟨_, linkAnswers hx ha (runSetPresent_eq hx (linkFree_ok hacted) (by omega) (.inr h3) hne') (.inl rfl), ?_⟩
    rw [linkActs_eq, LinksBut, answer_links, k.own]
    refine ⟨voided_void .., rfl, ?_, rfl, rfl, fun hf => ?_, k.links, ?_⟩
    · by_cases h0 : arg args 1 = 0
      · rw [if_pos h0, h0]
        rfl
      · rw [if_neg h0]
        exact if_neg (by rwa [presentOf_off])
    · obtain ⟨-, -, -, -, hcause, hev, -⟩ := voided_shows hf 9 false
      exact ⟨hcause, hev⟩
    · rw [← k.sys]
      simp only [answer_keeps]
  · intro h0 h6 h1 ha
    obtain ⟨first, second, rest⟩ := withArg1_words 1 h1
    exact linkRefuses (accepts_withArg1 1 ha) (runVoid_busy (first.trans hx) (by rw [second (by omega)]) h0 h6) nofun nofun
  · intro h2 ha
    have same (v) : withArg1 v args = args := if_pos h2
    constructor
    · show hostCommand 0x0704 (acting runApply) via (withArg1 0 args) s = _
      rw [same]
      exact linkRefuses ha (runApply_beyond hx h2) nofun nofun
    · show hostCommand 0x0704 (acting runVoid) via (withArg1 1 args) s = _
      rw [same]
      exact linkRefuses ha (runVoid_beyond hx h2) nofun nofun
  · intro h2 h3 ha
    have same (v) : withArg1 v args = args := if_pos h2
    constructor
    · show hostCommand 0x0705 (acting runTieClose) via (withArg1 1 args) s = _
      rw [same]
      exact linkRefuses ha (runTieClose_beyond (hx.trans h3) h2) nofun nofun
    · show hostCommand 0x0705 (acting runTieOpen) via (withArg1 0 args) s = _
      rw [same]
      exact linkRefuses ha (runTieOpen_beyond (hx.trans h3) h2) nofun nofun
  · intro hacted h1
    have hfree := linkFree_ok hacted
    refine ⟨fun ha h hne hf hat hs hr => ?_, fun ha h hne hf hat hs => ?_, fun ha hlo hgap hhi hlim hat => ?_,
      fun ha hf => ?_, fun ha hf => ?_, fun h3 ha hr hf hl hlo hhi => ?_, fun h3 ha => ?_⟩
    · obtain ⟨t, ht, own, rest⟩ := setPresent_quiet hx hacted ha (by omega) (by rw [h]; exact hne) hf hat hs
      refine ⟨t, ht, ?_, rest⟩
      rw [own, h]
      rfl
    · have h : arg args 1 = 1 := by omega
      obtain ⟨t, ht, own, rest⟩ := setPresent_quiet hx hacted ha (by omega) (by rw [h]; exact hne) hf hat hs
      refine ⟨t, ht, ?_, rest⟩
      rw [own, h]
      rfl
    · obtain ⟨first, second, rest⟩ := withArg1_words 0 h1
      have run := runApply_eq (first.trans hx) (by rw [second (by omega)]; omega) (by rw [rest 0]; exact hlo)
        (by rw [rest 0, rest 1]; exact hgap) (by rw [rest 1]; exact hhi) (by rw [rest 2]; exact hlim) hfree hat
      rw [rest 0, rest 1, rest 2] at run
      obtain ⟨applied, taps, tie⟩ := applyContract_op x (arg args 2) (arg args 3) (arg args 4) s
      have k := applied.trans (.modLink x (fun l => { l with acted := 6 }) _)
      refine ⟨_, linkAnswers (first.trans hx) (accepts_withArg1 0 ha) run (.inl rfl), ?_⟩
      rw [linkActs_eq, LinksBut, answer_links, k.own]
      refine ⟨rfl, rfl, rfl, rfl, rfl, rfl, ?_, k.links, answerOf_answer .., ?_, ?_, ?_⟩
      · show (if _ then _ else _) = _
        simp
      · rw [answer_taps]
        exact taps
      · rw [← k.sys]
        simp only [answer_keeps]
      · rw [← tie]
        simp only [answer_keeps]
        rfl
    · obtain ⟨first, second, rest⟩ := withArg1_words 1 h1
      have run := runVoid_eq (first.trans hx) (by rw [second (by omega)]) hfree
      rw [if_pos hf] at run
      have after : LinkOp x (fun l => { l with acted := 6 }) (voidLink x 1 true s)
          (answer via 0 [] (linkActs x 6 (voidLink x 1 true s))) :=
        (LinkOp.modLink x (fun l => { l with acted := 6 }) _).trans (answer_op ..)
      refine ⟨_, linkAnswers (first.trans hx) (accepts_withArg1 1 ha) run (.inl rfl),
        voidLink_voids (.refl x s) after hf rfl (answer_ports ..) (by simp [linkActs_eq])
          (fun _ => ⟨rfl, rfl, rfl, rfl, rfl, rfl⟩), answerOf_answer .., ?_⟩
      rw [((voidLink_op x 1 true s).trans after).own]
      exact voided_tells hf 1
    · obtain ⟨first, second, rest⟩ := withArg1_words 1 h1
      have run := runVoid_eq (first.trans hx) (by rw [second (by omega)]) hfree
      rw [if_neg (by rw [hf]; nofun)] at run
      exact linkRefuses (accepts_withArg1 1 ha) run nofun nofun
    · obtain rfl : x = 3 := Fin.ext h3
      obtain ⟨first, second, rest⟩ := withArg1_words 1 h1
      have run := runTieClose_eq (first.trans hx) (by rw [second (by omega)]) hfree hr hf hl (decide_eq_true ⟨hlo, hhi⟩)
      obtain ⟨tie, links, times, whole⟩ := closesTie_shows s
      refine ⟨_, linkAnswers (first.trans hx) (accepts_withArg1 1 ha) run (.inr rfl), ?_⟩
      rw [linkActs_eq, LinksBut, answer_links, modLink_own]
      refine ⟨?_, fun y hy => (modLink_but 3 _ _ y hy).trans (links y hy), times, ?_⟩
      · rw [← tie]
        simp only [answer_keeps]
        rfl
      · simp only [answer_keeps]
        apply congrArg (answer via 1 [])
        rw [whole]
        rfl
    · obtain rfl : x = 3 := Fin.ext h3
      obtain ⟨first, second, rest⟩ := withArg1_words 0 h1
      have run := runTieOpen_eq (first.trans hx) (by rw [second (by omega)]; omega) hfree
      refine ⟨_, linkAnswers (first.trans hx) (accepts_withArg1 0 ha) run (.inr rfl), ?_⟩
      exact answer_modLink via 1 [] 3 (fun l => { l with acted := 6 }) { s with tie := { s.tie with en := false } }
  · refine ⟨fun ha h1 hat hf => ?_, fun ha h1 hat => ?_, fun type n ha ht hn h1 => ?_, fun m ms ha hf hrx => ?_,
      fun ha hf hrx => ?_, fun ha hat ho hh hr hf => ?_, fun ha => ?_⟩
    · obtain ⟨ft, fn, fz⟩ := send_fields (type := 0x0A) (n := 0) (by omega) (by omega) h1
      have objs : sendObjs args = [] := by rw [sendObjs, fn, List.take_zero]
      have run := runSend_eq hx ft fn fz (via := via) (s := s) (by decide)
      rw [checked_pass (by rw [hf, hat, objs]; rfl), objs] at run
      refine ⟨_, linkWaits hx ha run, ?_⟩
      rw [linkActs_eq, modLink_modLink, modLink_own]
      exact ⟨rfl, by simp, modLink_only ..⟩
    · obtain ⟨ft, fn, fz⟩ := send_fields (type := 0x0A) (n := 0) (by omega) (by omega) h1
      have run := runSend_eq hx ft fn fz (via := via) (s := s) (by decide)
      rw [checked_fail (c := 0x30) (by
        rw [hat, linkFree]
        cases decide (s.links[x].acted = 0 ∨ 6 ≤ s.links[x].acted) <;> rfl)] at run
      exact linkRefuses ha run nofun nofun
    · obtain ⟨ft, fn, fz⟩ := send_fields ht hn h1
      have objs : sendObjs args = (tabulate 7 fun k => BitVec.ofNat 32 (arg2 args (2 + 2 * k.val))).take n := by
        rw [sendObjs, fn]
      dsimp only
      rw [← mem_sendable, ← objs]
      refine ⟨fun hl => linkRefuses ha (runSend_unlisted hx ft fn hl) nofun nofun, fun hl hat hf => ?_⟩
      have run := runSend_eq hx ft fn fz (via := via) (s := s) hl
      rw [hf, hat] at run
      refine ⟨fun hans hreq => ?_, fun hask hforce => ?_, fun hans hask => ?_⟩
      · rw [checked_fail (c := 0x30) (by rw [decide_eq_true hans, hreq]; rfl)] at run
        exact linkRefuses ha run nofun nofun
      · have no : ¬(type = 1 ∨ type = 2 ∨ type = 3) := by
          intro h
          unfold asksRelay at hask
          split at hask
          · have := of_decide_eq_true hask
            omega
          · cases hask
        rw [checked_fail (c := 0x70) (by rw [decide_eq_false no, hask, hforce]; rfl)] at run
        exact linkRefuses ha run nofun nofun
      · have pass : first [none, allow true, allow (!decide (type = 1 ∨ type = 2 ∨ type = 3) || s.links[x].reqWaiting),
            if asksRelay type (sendObjs args) && !s.links[x].inForce then some 0x70 else none] = none := by
          have waits : (!decide (type = 1 ∨ type = 2 ∨ type = 3) || s.links[x].reqWaiting) = true := by
            by_cases h : type = 1 ∨ type = 2 ∨ type = 3
            · rw [hans h, Bool.or_true]
            · rw [decide_eq_false h]
              rfl
          have relays : (asksRelay type (sendObjs args) && !s.links[x].inForce) = false := by
            cases h : asksRelay type (sendObjs args)
            · rfl
            · rw [hask h]
              rfl
          rw [waits, relays]
          rfl
        rw [checked_pass pass] at run
        refine ⟨_, linkWaits hx ha run, ?_⟩
        rw [linkActs_eq, modLink_modLink, modLink_own]
        exact ⟨rfl, rfl, rfl, modLink_only ..⟩
    · have run := runRecv_eq hx hf
      rw [hrx] at run
      refine ⟨_, linkAnswers hx ha run (.inl rfl), ?_⟩
      rw [linkActs_eq, modLink_modLink]
      exact answer_modLink ..
    · have run := runRecv_eq hx hf
      rw [hrx] at run
      exact linkRefuses ha run nofun nofun
    · refine ⟨_, linkWaits hx ha (runSwapRole_eq hx hf hat ho hh hr), ?_⟩
      rw [linkActs_eq, modLink_modLink, modLink_own]
      exact ⟨rfl, rfl, rfl, modLink_only ..⟩
    · obtain rfl : portOf (arg args 0) = x := portOf_of_arg hx
      have run : runLnkStatus args s = .now 0 _ s := checked_pass (by rw [portArg_ok hx]; rfl)
      refine ⟨_, hostCommand_answers ha run, rfl, rfl, ?_, rfl, rfl, rfl⟩
      generalize s.links[portOf (arg args 0)] = l
      show (word (bit l.role 0 + 2 * presentCode l.present + bit l.lead 3)).getLsbD 0 = l.role
      cases l.role <;> cases l.lead <;> cases l.present <;> rfl

end Sys2Proof.Machine
end

/-! ## Attachment and the role swap (O17) -/

section
open Sys2Proof.Claims
namespace Sys2Proof.Machine

section
variable {x : Fin 4} {v : Int}

theorem inBand_of (hlo : 260 ≤ v) (hhi : v ≤ 560) : inBand v = true := decide_eq_true ⟨hlo, hhi⟩

theorem inBand_out (h : v < 260 ∨ 560 < v) : inBand v = false :=
  decide_eq_false fun ⟨hlo, hhi⟩ => by
    change 260 ≤ v at hlo
    change v ≤ 560 at hhi
    omega

theorem pilotRated_of (hlo : -3000 ≤ v) (hhi : v ≤ 3000) : pilotRated v = true := decide_eq_true ⟨hlo, hhi⟩

end

/-- An event that records its alert on a link. -/
theorem alertLink_op (x : Fin 4) (f : State → State) (cls kind reason inst : Nat) (param : Int) (s : State)
    (h : LinkOp x id s (f s)) : LinkOp x id s (alertRec f cls kind reason inst param s) :=
  h.trans (.beside x (by simp [alertRec]) (by simp [alertRec]) (by simp [alertRec]) (by simp [alertRec]))

theorem linkRecord_op (x : Fin 4) (ev cause s) : LinkOp x id s (linkRecord x ev cause s) :=
  .beside x (by simp) (by simp) (by simp) (by simp)

/-- An event that changes one link alone. -/
theorem oneLink {x : Fin 4} {f : LinkPort → LinkPort} {s : State} {e : Host.Outcome State Fault Refusal}
    (h : e = .next (s.modLink x f)) : ∃ t, e = .next t ∧ t.links[x] = f s.links[x] ∧ OnlyLink x s t :=
  ⟨_, h, modLink_own x f s, modLink_only x f s⟩

/-- A timer that changes one link alone. -/
theorem linkTimer_modLink {x : Fin 4} {s : State} (hp : s.powered = true) (ha : s.links[x].acted = 0 ∨ 4 < s.links[x].acted)
    {due : State → Bool} (hd : due s = true) (f : LinkPort → LinkPort) :
    linkTimer x due (fun s => s.modLink x f) s = .next (s.modLink x fun l => { f l with acted := 4 }) := by
  rw [linkTimer_runs hp ha hd, linkActs_eq, modLink_modLink]

/-! ### Attachment -/

/-- A link as it attaches (R281, R301). -/
def LinkPort.attaches (l : LinkPort) : LinkPort :=
  { l.detach .attached with
    role := decide (l.present = .source) || (decide (l.present = .dual) && l.phaseSource)
    lead := decide (l.present = .source) || (decide (l.present = .dual) && l.phaseSource)
    evAttach := true }

/-- A link whose responder asks for an offer (R300). -/
def LinkPort.asks (l : LinkPort) : LinkPort :=
  { l with txq := txInsert { cls := .responder, type := 0x0A, objs := [], via := none } l.txq, tResponder := true }

theorem offerRequest_eq (x s) : offerRequest x s = s.modLink x LinkPort.asks := by
  rw [offerRequest, send_eq, modLink_modLink]
  rfl

theorem asks_tells (l : LinkPort) : (l.asks.txq.any fun m => decide (m.type = 0x0A)) = true := by
  simp [LinkPort.asks, txInsert]

/-- What an attachment does before the responder asks. -/
def attachment (x : Fin 4) (s : State) : State :=
  sourceOff x (alertRec (linkRecord x 1 0) 2 6 1 x.val 0 (s.modLink x LinkPort.attaches))

theorem attachment_op (x s) : LinkOp x LinkPort.attaches s (attachment x s) :=
  ((LinkOp.modLink x LinkPort.attaches s).trans (alertLink_op x _ _ _ _ _ _ _ (linkRecord_op ..))).trans (sourceOff_op ..)

theorem attachment_disables {x : Fin 4} {s : State} (h : s.links[x].attaches.role = true) :
    (attachment x s).ports[x].state = .disabled := by
  refine sourceOff_disables ?_
  rw [((LinkOp.modLink x LinkPort.attaches s).trans (alertLink_op x _ _ _ _ _ _ _ (linkRecord_op ..))).own]
  change s.links[x].attaches.asSource = true
  rw [LinkPort.asSource, h]
  exact Bool.or_true _

/-- The responder asks for an offer where it serves the port (R300). -/
def asking (x : Fin 4) (s : State) : State := if responderOn x s then offerRequest x s else s

theorem asking_op (x s) : ∃ f : LinkPort → LinkPort, (f = id ∨ f = LinkPort.asks) ∧ LinkOp x f s (asking x s) ∧
    (asking x s).ports = s.ports := by
  unfold asking
  split
  · rw [offerRequest_eq]
    exact ⟨_, .inr rfl, .modLink .., State.modLink_ports ..⟩
  · exact ⟨_, .inl rfl, .refl .., rfl⟩

theorem attach_runs {x : Fin 4} {s : State} (hp : s.powered = true) (hd : s.links[x].state = .debounce)
    (ha : s.links[x].acted = 0 ∨ 4 < s.links[x].acted) : exec (.attach x) s =
      .next (linkActs x 4 (asking x (attachment x s))) := by
  show execAttach x s = _
  exact (linkTimer_runs hp ha (decide_eq_true hd) _).trans rfl

/-- A port without an attachment presents what its phase says (R280). -/
theorem unattached_asSource {l : LinkPort} (h : l.state = .unattached) (phase : Bool) :
    ({ l with phaseSource := phase } : LinkPort).asSource = phase := by
  have out : ({ l with phaseSource := phase } : LinkPort).attached = false := decide_eq_false (by
    show ¬(l.state = _ ∨ l.state = _ ∨ l.state = _)
    rw [h]
    nofun)
  rw [LinkPort.asSource, out]
  exact Bool.or_false _

/-! ### Pilot loss -/

/-- The end of a contract leaves the roles, the messages received and an own swap request. -/
theorem voided_keeps (cause tell) (l : LinkPort) : (l.voided cause tell).role = l.role ∧ (l.voided cause tell).rx = l.rx := by
  unfold LinkPort.voided
  split <;> exact ⟨rfl, rfl⟩

/-- What a pilot loss does to the port, before its link rests (R283, R48). -/
def pilotLost (x : Fin 4) (s : State) : State :=
  let s := alertRec (linkRecord x 2 0) 2 6 2 x.val 0 s
  let s := voidLink x 8 false s
  let s := if x.val = 3 ∧ s.links[x].role then { s with tie := { s.tie with en := false } } else s
  let s := if decide (s.hub.modeIn = .contract) && decide (s.ports[x].state = .softstart ∨ s.ports[x].state = .online)
    then changePort x Port.lose s else s
  sourceOff x ((detachTo x .blank s).modLink x fun l => { l with evDetach := true })

theorem pilotLost_shows (x s) : LinkOp x (fun l => { (l.voided 8 false).detach .blank with evDetach := true }) s (pilotLost x s) ∧
    (x.val = 3 → s.links[x].role = true → (pilotLost x s).tie.en = false) := by
  unfold pilotLost
  extract_lets s₁ s₂ _ s₃ s₄
  have noted : LinkOp x id s s₁ := alertLink_op x _ _ _ _ _ _ _ (linkRecord_op ..)
  have ended : LinkOp x (·.voided 8 false) s₁ s₂ := voidLink_op ..
  have untied : LinkOp x id s₂ s₃ := .ite ⟨rfl, fun _ _ => rfl, fun _ _ => rfl, rfl, rfl⟩ (.refl ..)
  have stopped : LinkOp x id s₃ s₄ := .ite (changePort_op ..) (.refl ..)
  have rests := ((detachTo_op x .blank s₄).trans (.modLink x (fun l => { l with evDetach := true }) _)).trans (sourceOff_op ..)
  refine ⟨((((noted.trans ended).trans untied).trans stopped).trans rests), fun hx hr => ?_⟩
  have role : s₂.links[x].role = true := by
    rw [(noted.trans ended).own]
    exact (voided_keeps 8 false s.links[x]).1.trans hr
  have open_ : s₃.tie.en = false := by
    simp only [s₃]
    rw [if_pos ⟨hx, role⟩]
  have kept : s₄.tie = s₃.tie := by
    simp only [s₄]
    split
    · rw [changePort_outside]
    · rfl
  rw [sourceOff_outside]
  show (detachTo x .blank s₄).tie.en = false
  rw [detachTo_outside, ← open_, ← kept]


/-! ### The role swap -/

/-- An own swap request ends with its answer (R302). -/
theorem swapEnds_eq {x : Fin 4} {via : Via} {s : State} (h : s.links[x].swapVia = some via) (res) : swapEnds x res s =
    (answer via 0 [res] s).modLink x fun l => { l with swapOwn := false, tSwapAnswer := false, swapVia := none } := by
  unfold swapEnds
  rw [h]
  rfl

/-- What is left at a link goes after the answer of a command. -/
theorem answered_modLink (x : Fin 4) (via code res f) (s : State) :
    answerOf via ((answer via code res s).modLink x f) = some ⟨code, res⟩ ∧
      ((answer via code res s).modLink x f).links[x] = f s.links[x] ∧
      LinksBut x s ((answer via code res s).modLink x f) := by
  refine ⟨answerOf_answer .., ?_, fun y hy => ?_⟩
  · rw [modLink_own, answer_links]
  · rw [modLink_but x f _ y hy, answer_links]

theorem sendSwap_eq (x s) : sendSwap x s = s.modLink x fun l => { l with
    swapOwn := true, txq := txInsert { cls := .host, type := 0x07, objs := [], via := none } l.txq } := by
  rw [sendSwap, send_eq, modLink_modLink]

/-- Settles O17, event by event. -/
theorem linksAttachDetachAndSwapRoles : Obligations.LinksAttachDetachAndSwapRoles := by
  unfold Obligations.LinksAttachDetachAndSwapRoles
  refine ⟨fun x v s hp => ⟨fun hst hlo hhi => ?_, fun hst hv hout => ?_, fun hst hv hout => ?_, fun hst ha => ?_,
    fun hst hd ha => ?_, fun hat hv hout => ?_, fun hst ha => ?_⟩,
    fun x v s hp ha => ⟨fun ht hat hr hb => ?_, fun via ht hvia => ?_, fun ht hh => ?_, fun hst hr => ?_,
      fun hst hr hlo hhi => ?_, fun hst hlo hhi hne => ?_, fun hst => ?_⟩⟩
  · refine oneLink (f := fun l => { l with state := .debounce, pilot := v }) ?_
    show execPilotInBand x v s = _
    refine (pilotEvent_runs hp (pilotRated_of (by omega) (by omega)) _).trans ?_
    rw [if_pos ⟨by rw [modLink_own]; exact hst, inBand_of hlo hhi⟩, modLink_modLink]
  · refine oneLink (f := fun l => { l with pilot := v }) ?_
    show execPilotInBand x v s = _
    refine (pilotEvent_runs hp hv _).trans ?_
    rw [if_neg (by rw [inBand_out hout]; simp)]
  · refine oneLink (f := fun l => { l with state := .unattached, pilot := v }) ?_
    show execDebounceOut x v s = _
    refine (pilotEvent_runs hp hv _).trans ?_
    rw [if_pos ⟨by rw [modLink_own]; exact hst, by rw [inBand_out hout]; rfl⟩, modLink_modLink]
  · have k : LinkOp x LinkPort.attaches s (attachment x s) := attachment_op x s
    obtain ⟨f, hf, asks, ports⟩ := asking_op x (attachment x s)
    have all := (k.trans asks).trans (.modLink x (fun l => { l with acted := 4 }) _)
    refine ⟨_, attach_runs hp hst ha, ?_⟩
    rw [linkActs_eq, all.own]
    refine ⟨?_, ?_, ?_, ?_, ?_, ?_, ?_, ?_, ?_, all.links, fun hr => ?_, all.ports, all.sys⟩
    case refine_10 =>
      rw [State.modLink_ports, ports]
      refine attachment_disables ?_
      rcases hf with rfl | rfl <;> exact hr
    all_goals rcases hf with rfl | rfl <;> rfl
  · have run : exec (.dualRolePhase x) s = .next (linkActs x 4 (sourceOff x (s.modLink x fun l => { l with phaseSource := !l.phaseSource }))) := by
      show execDualRolePhase x s = _
      exact linkTimer_runs hp ha (decide_eq_true ⟨hst, hd⟩) _
    have k := ((LinkOp.modLink x (fun l => { l with phaseSource := !l.phaseSource }) s).trans (sourceOff_op ..)).trans
      (.modLink x (fun l => { l with acted := 4 }) _)
    have source : (s.modLink x fun l => { l with phaseSource := !l.phaseSource }).links[x].asSource = !s.links[x].phaseSource := by
      rw [modLink_own]
      exact unattached_asSource hst _
    refine ⟨_, run, k.own, fun h => ?_, fun h => ⟨?_, k.ports, k.links, ?_⟩⟩
    · rw [sourceOff_quiet (by rw [source, h]; rfl), linkActs_eq, modLink_modLink]
      exact modLink_only ..
    · exact sourceOff_disables (by rw [source, h]; rfl)
    · rw [linkActs_eq, sourceOff_outside]
      rfl
  · obtain ⟨k, tie⟩ := pilotLost_shows x (s.modLink x fun l => { l with pilot := v })
    have all := ((LinkOp.modLink x (fun l => { l with pilot := v }) s).trans k).trans (.modLink x (fun l => { l with acted := 1 }) _)
    have run : exec (.pilotLoss x v) s = .next (linkActs x 1 (pilotLost x (s.modLink x fun l => { l with pilot := v }))) := by
      show execPilotLoss x v s = _
      refine (pilotEvent_runs hp hv _).trans ?_
      rw [if_pos (by
        rw [modLink_own, inBand_out hout, Bool.not_false, Bool.and_true]
        exact hat)]
      rfl
    refine ⟨_, run, ?_⟩
    rw [linkActs_eq, all.own]
    refine ⟨rfl, voided_void .., rfl, rfl, rfl, ?_, all.links, fun hx hr => ?_, all.sys, all.ctrs⟩
    · exact (voided_keeps 8 false _).2
    · refine tie hx ?_
      rw [modLink_own]
      exact hr
  · refine oneLink (f := fun l => { l with state := .unattached, acted := 4 }) ?_
    exact linkTimer_modLink hp ha (due := fun s => decide (s.links[x].state = .blank)) (decide_eq_true hst) _
  · have on : responderOn x s = true := by
      rw [responderOn, decide_eq_true hb, hat, hr]
      rfl
    have run : exec (.responderRepeat x) s = .next (s.modLink x fun l => { l.asks with acted := 4 }) := by
      show execResponderRepeat x s = _
      refine (linkTimer_runs hp ha ht _).trans ?_
      rw [if_pos on, offerRequest_eq, linkActs_eq, modLink_modLink]
    refine ⟨_, run, ?_⟩
    rw [modLink_own]
    exact ⟨asks_tells _, rfl, modLink_only ..⟩
  · have run : exec (.swapAnswerTimeout x) s = .next ((answer via 0 [3] s).modLink x fun l =>
        { l with swapOwn := false, tSwapAnswer := false, swapVia := none, acted := 4 }) := by
      show execSwapAnswerTimeout x s = _
      refine (linkTimer_runs hp ha ht _).trans ?_
      rw [swapEnds_eq hvia, linkActs_eq, modLink_modLink]
    exact ⟨_, run, answered_modLink ..⟩
  · have run : exec (.swapRetry x) s = .next (s.modLink x fun l => { l with
        tSwapRetry := false, swapHeld := false, swapOwn := true
        txq := txInsert { cls := .host, type := 0x07, objs := [], via := none } l.txq, acted := 4 }) := by
      show execSwapRetry x s = _
      refine (linkTimer_runs hp ha ht _).trans ?_
      rw [if_pos hh, sendSwap_eq, linkActs_eq, modLink_modLink, modLink_modLink]
    refine ⟨_, run, ?_⟩
    rw [modLink_own]
    exact ⟨rfl, rfl, rfl, by simp [txInsert], modLink_only ..⟩
  · refine oneLink (f := fun l => { l with phaseSource := false, acted := 4 }) ?_
    exact linkTimer_modLink hp ha (due := fun s => decide (s.links[x].state = .swap) && s.links[x].role)
      (by rw [decide_eq_true hst, hr]; rfl) _
  · have hv : pilotRated v = true := pilotRated_of hlo (by omega)
    by_cases hx : x = 3
    · have run : exec (.swapPilotLow x v) s = .next (sourceOff x (s.modLink x fun l => { l with pilot := v, phaseSource := true })) := by
        show execSwapPilotLow x v s = _
        refine (pilotEvent_runs hp hv _).trans ?_
        rw [if_pos (by
          rw [modLink_own, decide_eq_true hx, decide_eq_true (show v < Config.attachLow from hhi)]
          show (decide (s.links[x].state = .swap) && !s.links[x].role && true && true) = true
          rw [hst, hr]
          rfl), modLink_modLink]
      have k := (LinkOp.modLink x (fun l => { l with pilot := v, phaseSource := true }) s).trans (sourceOff_op ..)
      refine ⟨_, run, k.links, k.ports, ?_, fun _ => ?_, fun h => absurd hx h⟩
      · rw [k.own, decide_eq_true hx, Bool.or_true]
        rfl
      · refine sourceOff_disables ?_
        rw [modLink_own]
        rfl
    · obtain ⟨t, run, own, only⟩ := oneLink (x := x) (f := fun l => { l with pilot := v }) (s := s) (e := exec (.swapPilotLow x v) s) (by
        show execSwapPilotLow x v s = _
        refine (pilotEvent_runs hp hv _).trans ?_
        rw [if_neg (by simp [hx])])
      refine ⟨t, run, only.1, ?_, ?_, fun h => absurd h hx, fun _ => only⟩
      · rw [only.2]
        exact fun _ _ => rfl
      · rw [own, decide_eq_false hx, Bool.or_false]
  · have k := ((LinkOp.modLink x (fun l => { l with pilot := v }) s).trans (dropMessages_op x 2 _)).trans
      (.modLink x (fun l => { l.detach .attached with role := l.phaseSource, lead := l.phaseSource, evSwap := true }) _)
    have all := k.trans (sourceOff_op ..)
    have phase : s.links[x].phaseSource = !s.links[x].role := by
      revert hne
      cases s.links[x].phaseSource <;> cases s.links[x].role <;> simp
    have run : exec (.swapAttach x v) s = .next (sourceOff x ((dropMessages x 2 (s.modLink x fun l => { l with pilot := v })).modLink x fun l =>
        { l.detach .attached with role := l.phaseSource, lead := l.phaseSource, evSwap := true })) := by
      show execSwapAttach x v s = _
      refine (pilotEvent_runs hp (pilotRated_of (by omega) (by omega)) _).trans ?_
      rw [if_pos (by
        rw [modLink_own]
        exact ⟨hst, inBand_of hlo hhi, hne⟩)]
    refine ⟨_, run, ?_⟩
    rw [all.own, ← phase]
    refine ⟨rfl, rfl, rfl, rfl, rfl, rfl, rfl, all.links, fun hon => ?_⟩
    rw [sourceOff_taps, State.modLink_taps, dropMessages_outside]
    · rfl
    · rw [State.modLink_ports, dropMessages_outside]
      exact hon
  · have run : exec (.swapWindowEnd x) s = .next (linkActs x 4 (sourceOff x (detachTo x .blank s))) := by
      show execSwapWindowEnd x s = _
      exact linkTimer_runs hp ha (decide_eq_true hst) _
    have all := ((detachTo_op x .blank s).trans (sourceOff_op ..)).trans (.modLink x (fun l => { l with acted := 4 }) _)
    refine ⟨_, run, ?_⟩
    rw [linkActs_eq, all.own]
    refine ⟨rfl, rfl, all.links, fun hon => ?_, all.sys⟩
    rw [State.modLink_taps, sourceOff_taps, detachTo_outside]
    rw [detachTo_outside]
    exact hon

end Sys2Proof.Machine
end

/-! ## Transmission on a link (O18) -/

section
open Sys2Proof.Claims
namespace Sys2Proof.Machine

/-! ### Frames (R284 to R286) -/

theorem header_fields {type count : Nat} (ht : type < 256) (hc : count < 8) (role lead : Bool) (ctr : BitVec 3) :
    field (header type count role lead ctr) 0 8 = type ∧ field (header type count role lead ctr) 8 3 = count ∧
    (header type count role lead ctr).getLsbD 11 = role ∧ (header type count role lead ctr).getLsbD 12 = lead ∧
    field (header type count role lead ctr) 13 3 = ctr.toNat := by
  have hctr := ctr.isLt
  have hrole : bit role 11 = 2048 * role.toNat := by cases role <;> rfl
  have hlead : bit lead 12 = 4096 * lead.toNat := by cases lead <;> rfl
  have hr := role.toNat_lt
  have hl := lead.toNat_lt
  have value : (header type count role lead ctr).toNat =
      type + 256 * count + 2048 * role.toNat + 4096 * lead.toNat + 8192 * ctr.toNat := by
    unfold header word
    rw [hrole, hlead, BitVec.toNat_ofNat]
    omega
  unfold field
  rw [value]
  refine ⟨by omega, by omega, ?_, ?_, by omega⟩
  · rw [← BitVec.testBit_toNat, value, Nat.testBit_eq_decide_div_mod_eq]
    cases role <;> simp <;> omega
  · rw [← BitVec.testBit_toNat, value, Nat.testBit_eq_decide_div_mod_eq]
    cases lead <;> simp <;> omega

theorem frame_ok (l : LinkPort) {type : Nat} {objs : List (BitVec 32)} (ht : type < 256) (ho : objs.length < 8) (ctr : BitVec 3) :
    frameOk (l.frame type objs ctr) true = true ∧ msgOf (l.frame type objs ctr) = ⟨type, objs, l.role, l.lead, ctr⟩ := by
  obtain ⟨htype, hcount, hrole, hlead, hctr⟩ := header_fields ht ho l.role l.lead ctr
  constructor
  · simp [frameOk, LinkPort.frame, hcount]
  · simp only [msgOf, LinkPort.frame, htype, hrole, hlead, hctr, BitVec.ofNat_toNat, BitVec.setWidth_eq]

/-! ### What goes out (R282, R287) -/

theorem modLink_congr {x : Fin 4} {f g : LinkPort → LinkPort} {s : State} (h : f s.links[x] = g s.links[x]) :
    s.modLink x f = s.modLink x g := by
  unfold State.modLink
  rw [h]

theorem modLink_same {x : Fin 4} {f : LinkPort → LinkPort} {s : State} (h : f s.links[x] = s.links[x]) : s.modLink x f = s := by
  unfold State.modLink
  rw [h]
  congr 1
  exact Vector.set_getElem_self ..

section
variable {x : Fin 4} {s : State} (hp : s.powered = true) (ha : s.links[x].attached = true) (hb : s.links[x].backoff = false)
include hp ha hb

theorem transmit_ack {c : BitVec 3} {cs} (h : s.links[x].acksDue = c :: cs) (collided) :
    exec (.messageTransmit x collided) s = .next (transmitAck x collided s) := by
  show execMessageTransmit x collided s = _
  refine (linkEvent_runs hp _).trans ?_
  dsimp only
  rw [if_neg (by rw [LinkPort.linked, ha, hb]; nofun), if_pos (by rw [h]; rfl)]

theorem transmit_again (h : s.links[x].acksDue = []) {m : TxMsg} (hf : s.links[x].flight = some m)
    (hr : s.links[x].resend = true) (collided) :
    exec (.messageTransmit x collided) s = .next (transmitMsg x m collided s) := by
  show execMessageTransmit x collided s = _
  refine (linkEvent_runs hp _).trans ?_
  dsimp only
  rw [if_neg (by rw [LinkPort.linked, ha, hb]; nofun), if_neg (by rw [h]; nofun), hf]
  dsimp only
  rw [if_pos hr]

theorem transmit_next (h : s.links[x].acksDue = []) (hf : s.links[x].flight = none) {m : TxMsg} {ms : List TxMsg}
    (hq : s.links[x].txq = m :: ms) (collided) : exec (.messageTransmit x collided) s =
      .next (transmitMsg x m collided (s.modLink x fun l => { l with txq := ms })) := by
  show execMessageTransmit x collided s = _
  refine (linkEvent_runs hp _).trans ?_
  dsimp only
  rw [if_neg (by rw [LinkPort.linked, ha, hb]; nofun), if_neg (by rw [h]; nofun), hf]
  dsimp only
  rw [hq]

end

/-! ### The end of a message (R287, R288) -/

/-- A link whose message in flight has ended. -/
def LinkPort.ended (l : LinkPort) : LinkPort :=
  { l with flight := none, resend := false, retries := 0, collisions := 0, txCtr := l.txCtr + 1 }

/-- An answer that may not be waited for, told by what it leaves. -/
theorem answerOf_answerOpt {via : Option Via} {v : Via} (h : via = some v) (code res s) :
    answerOf v (answerOpt via code res s) = some ⟨code, res⟩ := by
  rw [h]
  exact answerOf_answer ..

theorem endMessage_eq {x : Fin 4} {m : TxMsg} {s : State} (h : s.links[x].flight = some m) (outcome) :
    endMessage x outcome s =
      (answerOpt m.via 0 [word outcome, word s.links[x].txCtr.toNat] s).modLink x LinkPort.ended := by
  unfold endMessage
  rw [h]
  rfl

theorem endMessage_op {x : Fin 4} {m : TxMsg} {s : State} (h : s.links[x].flight = some m) (outcome) :
    LinkOp x LinkPort.ended s (endMessage x outcome s) := by
  rw [endMessage_eq h]
  exact (answerOpt_op ..).trans (.modLink ..)

theorem endMessage_shows {x : Fin 4} {m : TxMsg} {s : State} (h : s.links[x].flight = some m) (outcome) :
    (endMessage x outcome s).taps = s.taps ∧ (endMessage x outcome s).ports = s.ports ∧ (endMessage x outcome s).alr = s.alr ∧
    ∀ via : Via, m.via = some via →
      answerOf via (endMessage x outcome s) = some ⟨0, [word outcome, word s.links[x].txCtr.toNat]⟩ := by
  rw [endMessage_eq h]
  refine ⟨by simp, by simp, by simp, fun via hv => ?_⟩
  exact (answerOf_congr rfl rfl rfl via).trans (answerOf_answerOpt hv ..)

theorem swapEnds_op (x res s) : LinkOp x (fun l => { l with swapOwn := false, tSwapAnswer := false, swapVia := none }) s
    (swapEnds x res s) := (answerOpt_op ..).trans (.modLink x (fun l => { l with swapOwn := false, tSwapAnswer := false, swapVia := none }) _)

theorem swapEnds_outside (x res s) : (swapEnds x res s).taps = s.taps ∧ (swapEnds x res s).ports = s.ports ∧
    (swapEnds x res s).alr = s.alr := by
  refine ⟨?_, ?_, ?_⟩ <;> simp [swapEnds]

/-- An alert takes the next sequence number, or waits while the control plane restarts (R134). -/
theorem alertAt_nextSeq (bbx cls kind reason inst : Nat) (param : Int) (s) : (alertAt bbx cls kind reason inst param s).alr.nextSeq =
    s.alr.nextSeq + (if planeDown s then 0 else 1) := by
  unfold alertAt
  dsimp only
  split
  · rfl
  · exact enqueue_nextSeq ..

/-- The alert of a third collision (R287). -/
theorem collisionOver_op (x s) : LinkOp x (fun l => { l with evCollision := true }) s (collisionOver x s) :=
  (LinkOp.modLink x (fun l => { l with evCollision := true }) s).trans (alertLink_op x _ _ _ _ _ _ _ (linkRecord_op ..))

theorem collisionOver_shows (x s) : (collisionOver x s).taps = s.taps ∧ (collisionOver x s).ports = s.ports ∧
    (collisionOver x s).alr.nextSeq = s.alr.nextSeq + (if planeDown s then 0 else 1) ∧
    ∀ via, answerOf via (collisionOver x s) = answerOf via s := by
  have down : planeDown (linkRecord x 4 0 (s.modLink x fun l => { l with evCollision := true })) = planeDown s := by
    simp [planeDown]
  refine ⟨by simp [collisionOver, alertRec], by simp [collisionOver, alertRec], ?_, answerOf_congr
    (by simp [collisionOver, alertRec]) (by simp [collisionOver, alertRec]) (by simp [collisionOver, alertRec])⟩
  rw [collisionOver, alertRec, alertAt_nextSeq, down]
  simp

/-- The third collision of a message, before an own swap request ends with it (R287). -/
def abandon (x : Fin 4) (m : TxMsg) (s : State) : State :=
  collisionOver x (endMessage x 3 (s.modLink x fun l => { l with flight := some m }))

section
variable (x : Fin 4) (m : TxMsg) (s : State)

theorem abandon_op : LinkOp x (fun l => { l.ended with evCollision := true }) s (abandon x m s) :=
  ((LinkOp.modLink x (fun l => { l with flight := some m }) s).trans
    (endMessage_op (by rw [modLink_own]) 3)).trans (collisionOver_op ..)

theorem abandon_shows : (abandon x m s).taps = s.taps ∧ (abandon x m s).ports = s.ports ∧
    (abandon x m s).alr.nextSeq = s.alr.nextSeq + (if planeDown s then 0 else 1) ∧
    ∀ via : Via, m.via = some via → answerOf via (abandon x m s) = some ⟨0, [3, word s.links[x].txCtr.toNat]⟩ := by
  have inFlight : (s.modLink x fun l => { l with flight := some m }).links[x].flight = some m := by rw [modLink_own]
  obtain ⟨etaps, eports, ealr, eanswer⟩ := endMessage_shows inFlight 3
  obtain ⟨ctaps, cports, cseq, canswer⟩ := collisionOver_shows x (endMessage x 3 (s.modLink x fun l => { l with flight := some m }))
  have down : planeDown (endMessage x 3 (s.modLink x fun l => { l with flight := some m })) = planeDown s := by
    simp [planeDown, (endMessage_op inFlight 3).sys]
  refine ⟨ctaps.trans etaps, cports.trans eports, ?_, fun via hv => ?_⟩
  · rw [abandon, cseq, ealr, down]
    rfl
  · rw [abandon, canswer, eanswer via hv, modLink_own]
    rfl

end

/-- The third collision abandons the message, whatever stands behind it in the queue. -/
theorem transmitMsg_abandons {x : Fin 4} {m : TxMsg} {s : State} (ms : List TxMsg) (hc : 2 ≤ s.links[x].collisions) :
    (transmitMsg x m true (s.modLink x fun l => { l with txq := ms })).links[x].txq = ms ∧
      Abandoned x m s (transmitMsg x m true (s.modLink x fun l => { l with txq := ms })) := by
  have shape : transmitMsg x m true (s.modLink x fun l => { l with txq := ms }) =
      if m.type = 0x07 then swapEnds x 3 (abandon x m (s.modLink x fun l => { l with txq := ms }))
      else abandon x m (s.modLink x fun l => { l with txq := ms }) := by
    unfold transmitMsg
    rw [if_neg (by nofun), if_neg (by rw [modLink_own]; exact Nat.not_lt.mpr hc)]
    rfl
  have k := (LinkOp.modLink x (fun l => { l with txq := ms }) s).trans (abandon_op x m _)
  obtain ⟨taps, ports, seq, answers⟩ := abandon_shows x m (s.modLink x fun l => { l with txq := ms })
  rw [shape]
  generalize abandon x m (s.modLink x fun l => { l with txq := ms }) = u at *
  by_cases h7 : m.type = 0x07
  · obtain ⟨staps, sports, salr⟩ := swapEnds_outside x 3 u
    have all := k.trans (swapEnds_op x 3 u)
    rw [if_pos h7]
    unfold Abandoned
    rw [all.own]
    refine ⟨rfl, rfl, rfl, rfl, rfl, rfl, rfl, ?_, fun h => absurd h7 h, fun _ => ⟨rfl, fun via hv => ?_⟩, all.links,
      staps.trans taps, sports.trans ports, all.sys⟩
    · rw [salr, seq]
      rfl
    · refine (answerOf_congr rfl rfl rfl via).trans (answerOf_answerOpt ?_ 0 [3] u)
      rw [k.own]
      exact hv
  · rw [if_neg h7]
    unfold Abandoned
    rw [k.own]
    refine ⟨rfl, rfl, rfl, rfl, rfl, rfl, rfl, ?_, fun _ via hv => ?_, fun h => absurd h h7, k.links, taps, ports, k.sys⟩
    · rw [seq]
      rfl
    · rw [answers via hv, modLink_own]

/-! ### The acknowledgement and the wait for it (R288) -/

section
variable {x : Fin 4} {s : State} {m : TxMsg} (hp : s.powered = true) (hf : s.links[x].flight = some m)
  (hr : s.links[x].resend = false) (ha : s.links[x].acted = 0)
include hp hf hr ha

theorem waitEnd_runs : exec (.acknowledgementWaitEnd x) s = .next (linkActs x 4
    (if s.links[x].retries < 2 then
      s.modLink x fun l => { l with retries := l.retries + 1, txErr := l.txErr + 1, resend := true }
    else endMessage x 1 s)) := by
  show execAcknowledgementWaitEnd x s = _
  exact linkTimer_runs hp (.inl ha) (by rw [hf, hr]; rfl) _

/-- The acknowledgement of a message that does nothing more. -/
theorem acknowledged_plain (h9 : m.type ≠ 0x09) (h20 : m.type ≠ 0x20) (hcls : m.cls ≠ .swapAnswer) :
    exec (.acknowledgement x s.links[x].txCtr) s =
      .next ((endMessage x 0 s).modLink x fun l => { l with txMsgs := l.txMsgs + 1 }) := by
  show execAcknowledgement x s.links[x].txCtr s = _
  refine (linkEvent_runs hp _).trans ?_
  dsimp only
  rw [hf]
  dsimp only
  rw [if_neg (by rw [hr, ha]; simp), if_neg h9, if_neg (fun h => hcls h.1)]
  split
  next h _ => exact absurd h h20
  next => rfl

end

/-- Settles O18, event by event. -/
theorem transmissionAcknowledgesAndRetries : Obligations.TransmissionAcknowledgesAndRetries := by
  unfold Obligations.TransmissionAcknowledgesAndRetries
  intro x s hp
  refine ⟨fun c cs hc ha hb => ?_, fun type objs ctr ht ho => frame_ok _ ht ho ctr, fun m ms hc hf hq ha hb => ⟨?_, fun h => ?_, fun h => ?_⟩,
    fun m hc hf hr ha hb => ⟨?_, fun h => ?_, fun h => ?_⟩, fun hb ha => ?_, fun h0 h4 => ⟨?_, ?_, fun c => ?_⟩,
    fun m hf hr ha => ⟨fun h => ?_, fun h => ?_, fun h9 h20 hcls => ?_, fun c hc => ?_⟩⟩
  · refine oneLink (f := fun l => { l with acksDue := cs, ackCollisions := 0, outFrame := some (l.frame 0 [] c) }) ?_
    rw [transmit_ack hp ha hb hc, transmitAck, if_pos (by rfl)]
    refine congrArg _ (modLink_congr ?_)
    rw [hc]
    rfl
  · refine ⟨_, transmit_next hp ha hb hc hf hq false, ?_⟩
    rw [transmitMsg, if_pos (by rfl), sentFrame, modLink_modLink, modLink_own]
    refine ⟨rfl, rfl, rfl, rfl, rfl, fun h1 => ?_, modLink_only ..⟩
    show (s.links[x].acceptSent || decide (m.type = 0x01)) = true
    rw [decide_eq_true h1, Bool.or_true]
  · refine ⟨_, transmit_next hp ha hb hc hf hq true, ?_⟩
    rw [transmitMsg, if_neg (by nofun), if_pos (by rw [modLink_own]; exact h), modLink_modLink, modLink_own]
    exact ⟨rfl, rfl, rfl, rfl, modLink_only ..⟩
  · exact ⟨_, transmit_next hp ha hb hc hf hq true, transmitMsg_abandons ms h⟩
  · refine ⟨_, transmit_again hp ha hb hc hf hr false, ?_⟩
    rw [transmitMsg, if_pos (by rfl), sentFrame, modLink_own]
    exact ⟨rfl, rfl, rfl, rfl, rfl, modLink_only ..⟩
  · refine oneLink (f := fun l => { l with collisions := l.collisions + 1, backoff := true }) ?_
    rw [transmit_again hp ha hb hc hf hr true, transmitMsg, if_neg (by nofun), if_pos h]
    refine congrArg _ (modLink_congr ?_)
    rw [← hf, ← hr]
  · have same : s.modLink x (fun l => { l with txq := s.links[x].txq }) = s := modLink_same rfl
    have ended := transmitMsg_abandons (m := m) s.links[x].txq h
    rw [same] at ended
    exact ⟨_, transmit_again hp ha hb hc hf hr true, ended⟩
  · exact oneLink (f := fun l => { l with backoff := false, acted := 4 }) (linkTimer_modLink hp ha (due := fun s => s.links[x].backoff) hb _)
  · show execCollisionBackoffEnd x s = _
    exact linkTimer_late hp h0 h4 ..
  · show execAcknowledgementWaitEnd x s = _
    exact linkTimer_late hp h0 h4 ..
  · show execAcknowledgement x c s = _
    refine (linkEvent_runs hp _).trans ?_
    dsimp only
    split
    · rfl
    · rw [if_pos (.inr (.inr (by omega)))]
  · refine oneLink (f := fun l => { l with retries := l.retries + 1, txErr := l.txErr + 1, resend := true, acted := 4 }) ?_
    rw [waitEnd_runs hp hf hr ha, if_pos h, linkActs_eq, modLink_modLink]
  · obtain ⟨taps, -, -, answers⟩ := endMessage_shows hf 1
    have k := (endMessage_op hf 1).trans (.modLink x (fun l => { l with acted := 4 }) _)
    refine ⟨_, by rw [waitEnd_runs hp hf hr ha, if_neg (by omega)], ?_⟩
    rw [linkActs_eq, k.own]
    exact ⟨rfl, rfl, rfl, k.links, answers, taps, k.sys⟩
  · obtain ⟨taps, -, -, answers⟩ := endMessage_shows hf 0
    have k := (endMessage_op hf 0).trans (.modLink x (fun l => { l with txMsgs := l.txMsgs + 1 }) _)
    refine ⟨_, acknowledged_plain hp hf hr ha h9 h20 hcls, ?_⟩
    rw [k.own]
    exact ⟨rfl, rfl, rfl, answers, k.links, taps, k.sys⟩
  · show execAcknowledgement x c s = _
    refine (linkEvent_runs hp _).trans ?_
    dsimp only
    rw [hf]
    dsimp only
    rw [if_pos (.inr (.inl hc))]

end Sys2Proof.Machine
end

/-! ## Reception on a link (O19) -/

section
open Sys2Proof.Claims
namespace Sys2Proof.Machine

/-! ### Frames that arrive (R282, R286, R288, R289) -/

theorem discards_late {type acted : Nat} (h : acted ≠ 0) (h' : type ≠ 0x08 ∨ acted ≤ 5) : discards type acted = true := by
  simp only [discards, Bool.and_eq_true, Bool.not_eq_true', Bool.and_eq_false_iff, decide_eq_true_eq, decide_eq_false_iff_not]
  omega

theorem discards_free {type acted : Nat} (h : acted = 0 ∨ type = 0x08 ∧ 5 < acted) : discards type acted = false := by
  simp only [discards, Bool.and_eq_false_iff, Bool.not_eq_false', Bool.and_eq_true, decide_eq_true_eq, decide_eq_false_iff_not]
  omega

/-- A link that buffers a message (R288, R289). -/
def LinkPort.buffers (m : Msg) (l : LinkPort) : LinkPort :=
  { l with
    rxCtr := m.ctr, rxType := m.type, rxValid := true, rxMsgs := l.rxMsgs + 1, acksDue := l.acksDue ++ [m.ctr]
    rx := l.rx ++ [m], reqWaiting := l.reqWaiting || decide (m.type = 0x11) }

section
variable {x : Fin 4} {s : State} {f : Frame} {ok : Bool} (hp : s.powered = true)
include hp

theorem frame_discarded (h : discards (msgOf f).type s.links[x].acted = true) :
    exec (.messageReceived x f ok) s = .next s := by
  show execMessageReceived x f ok s = _
  refine (linkEvent_runs hp _).trans ?_
  dsimp only
  rw [if_pos (by rw [h, Bool.or_true])]

variable (hl : s.links[x].linked = true) (hd : discards (msgOf f).type s.links[x].acted = false)
include hl hd

theorem frame_bad (h : frameOk f ok = false) : exec (.messageReceived x f ok) s =
    .next (s.modLink x fun l => { l with rxErr := l.rxErr + 1, evCrc := true }) := by
  show execMessageReceived x f ok s = _
  refine (linkEvent_runs hp _).trans ?_
  dsimp only
  rw [if_neg (by rw [hl, hd]; nofun), if_pos (by rw [h]; rfl)]

variable (hok : frameOk f ok = true) (hrole : (msgOf f).role ≠ s.links[x].role) (h0 : (msgOf f).type ≠ 0x00)
include hok hrole h0

theorem frame_repeated (h : s.links[x].rxValid = true ∧ (msgOf f).ctr = s.links[x].rxCtr ∧ (msgOf f).type = s.links[x].rxType) :
    exec (.messageReceived x f ok) s = .next (s.modLink x fun l => { l with acksDue := l.acksDue ++ [(msgOf f).ctr] }) := by
  show execMessageReceived x f ok s = _
  refine (linkEvent_runs hp _).trans ?_
  dsimp only
  rw [if_neg (by rw [hl, hd]; nofun), if_neg (by rw [hok, decide_eq_false hrole]; nofun), if_neg h0, if_pos h]

variable (hnew : ¬(s.links[x].rxValid = true ∧ (msgOf f).ctr = s.links[x].rxCtr ∧ (msgOf f).type = s.links[x].rxType))
  (hbuf : unbuffered (msgOf f).type = false)
include hnew hbuf

theorem frame_full (h : 8 ≤ s.links[x].rx.length) : exec (.messageReceived x f ok) s =
    .next (s.modLink x fun l => { l with evRxOvf := true }) := by
  show execMessageReceived x f ok s = _
  refine (linkEvent_runs hp _).trans ?_
  dsimp only
  rw [if_neg (by rw [hl, hd]; nofun), if_neg (by rw [hok, decide_eq_false hrole]; nofun), if_neg h0, if_neg hnew,
    if_pos (by rw [hbuf, decide_eq_true h]; rfl)]

theorem frame_buffered (h : s.links[x].rx.length < 8) : exec (.messageReceived x f ok) s =
    .next (s.modLink x (·.buffers (msgOf f))) := by
  show execMessageReceived x f ok s = _
  refine (linkEvent_runs hp _).trans ?_
  dsimp only
  rw [if_neg (by rw [hl, hd]; nofun), if_neg (by rw [hok, decide_eq_false hrole]; nofun), if_neg h0, if_neg hnew,
    if_neg (by rw [decide_eq_false (Nat.not_le.mpr h), Bool.and_false]; nofun)]
  refine congrArg _ (modLink_congr ?_)
  rw [hbuf]
  rfl

end

/-! ### What a message does -/

theorem enterSwap_op {x : Fin 4} {s : State} (h : s.links[x].inForce = false) :
    LinkOp x (fun l => { l with state := .swap, phaseSource := l.role, tSwapAnswer := false, swapOwn := false }) s (enterSwap x s) ∧
      ∀ via, answerOf via (enterSwap x s) = answerOf via s := by
  unfold enterSwap
  rw [voidLink_idle h]
  extract_lets _ _ s₁ s₂
  have untied : LinkOp x id s s₁ := .ite ⟨rfl, fun _ _ => rfl, fun _ _ => rfl, rfl, rfl⟩ (.refl ..)
  have stopped : LinkOp x id s₁ s₂ := .ite (changePort_op ..) (.refl ..)
  have answers (via) : answerOf via s₂ = answerOf via s := by
    refine Eq.trans (b := answerOf via s₁) ?_ ?_
    · simp only [s₂]
      split
      · rw [changePort_outside]
        rfl
      · rfl
    · simp only [s₁]
      split <;> rfl
  exact ⟨(untied.trans stopped).trans
    (.modLink x (fun l => { l with state := .swap, phaseSource := l.role, tSwapAnswer := false, swapOwn := false }) _), answers⟩

theorem swapAnswer_eq {x : Fin 4} {s : State} (hst : s.sys.st = .standby ∨ s.sys.st = .run) (hat : s.links[x].attached = true)
    (hown : s.links[x].swapOwn = false) (ht : s.links[x].state ≠ .transition) :
    swapAnswer x s = (if s.links[x].present = .dual then 1 else 2, false) := by
  have no : ¬(s.sys.st = .boot ∨ s.sys.st = .hold ∨ s.sys.st = .recovery ∨ s.links[x].state = .transition ∨ s.links[x].state = .swap) := by
    have hs : s.links[x].state ≠ .swap := by
      intro h
      rw [LinkPort.attached, h] at hat
      exact absurd hat (by decide)
    rintro (h | h | h | h | h)
    case inr.inr.inr.inl => exact ht h
    case inr.inr.inr.inr => exact hs h
    all_goals rcases hst with h' | h' <;> exact absurd (h.symm.trans h') nofun
  unfold swapAnswer
  dsimp only
  rw [if_neg no, hown, if_neg (by nofun)]
  split <;> simp_all

theorem answer_modLink_comm (via code res) (x : Fin 4) (f) (s : State) :
    (answer via code res s).modLink x f = answer via code res (s.modLink x f) := by
  cases via <;> rfl

theorem void_runs {x : Fin 4} {s : State} (hp : s.powered = true) (hat : s.links[x].attached = true)
    (hf : s.links[x].inForce = true) (hd : discards 0x08 s.links[x].acted = false) :
    ∃ t, exec (.void x) s = .next t ∧ Voided x 2 s t := by
  have run : exec (.void x) s = .next (linkActs x 5 (voidLink x 2 false s)) := by
    show execVoid x s = _
    refine (linkEvent_runs hp _).trans ?_
    rw [if_pos (by rw [LinkPort.linked, hat, hf, hd]; rfl)]
  exact ⟨_, run, voidLink_voids (.refl x s) (.modLink x (fun l => { l with acted := 5 }) _) hf rfl rfl rfl
    fun _ => ⟨rfl, rfl, rfl, rfl, rfl, rfl⟩⟩

/-- Settles O19: the frame by its checks, each message by its row. -/
theorem receivedMessagesAreBufferedAndAct : Obligations.ReceivedMessagesAreBufferedAndAct := by
  unfold Obligations.ReceivedMessagesAreBufferedAndAct
  refine ⟨fun x f ok s hp hl => ⟨fun h0 h5 => frame_discarded hp (discards_late h0 h5), fun hact => ?_⟩,
    fun x s hp hat => ⟨fun hf ha => ?_, fun ha => ?_⟩⟩
  · have hd := discards_free hact
    refine ⟨fun hbad => ?_, fun hok hrole h0 h5 h6 hnew => ?_⟩
    · have bad : frameOk f ok = false := by
        unfold frameOk
        rcases hbad with h | h | h
        · rw [h]
          rfl
        · rw [decide_eq_false h, Bool.and_false]
          rfl
        · rw [decide_eq_false h, Bool.and_false]
      obtain ⟨t, run, own, only⟩ := oneLink (frame_bad hp hl hd bad)
      exact ⟨t, run, only, own⟩
    · have hbuf : unbuffered (msgOf f).type = false := decide_eq_false (by omega)
      have again : ¬(s.links[x].rxValid = true ∧ (msgOf f).ctr = s.links[x].rxCtr ∧ (msgOf f).type = s.links[x].rxType) := hnew
      refine ⟨fun h => ?_, fun h => ?_⟩
      · refine ⟨_, frame_buffered hp hl hd hok hrole h0 again hbuf h, ?_⟩
        have own := modLink_own x (·.buffers (msgOf f)) s
        have next : exec (.messageReceived x f ok) (s.modLink x (·.buffers (msgOf f))) = _ :=
          frame_repeated (by exact hp) (by rw [own]; exact hl) (by rw [own]; exact hd) hok (by rw [own]; exact hrole) h0
            (by rw [own]; exact ⟨rfl, rfl, rfl⟩)
        rw [own]
        refine ⟨rfl, rfl, rfl, rfl, rfl, rfl, modLink_only .., _, next, ?_⟩
        rw [modLink_own, own]
        exact ⟨rfl, rfl, modLink_only ..⟩
      · obtain ⟨t, run, own, only⟩ := oneLink (frame_full hp hl hd hok hrole h0 again hbuf h)
        exact ⟨t, run, own, only⟩
  · exact void_runs hp hat hf (discards_free (.inr ⟨rfl, ha⟩))
  · have runs (f : State → State) : received x f s = .next (f s) := received_runs hp hat ha f
    refine ⟨fun via hown hvia hf => ⟨?_, ?_, ?_⟩, fun hown hpick => ?_, fun hr hst => ?_, fun hr hf => ?_, fun hr => ?_,
      fun hown ht hst => ?_, fun hf => void_runs hp hat hf (discards_free (.inl ha)), fun hf => ?_,
      fun v c hr hb hv ho => ?_, fun o hc hk hm he => ?_⟩
    · have force : (swapEnds x 0 s).links[x].inForce = false := by
        rw [(swapEnds_op x 0 s).own]
        exact hf
      obtain ⟨k, answers⟩ := enterSwap_op force
      have all := (swapEnds_op x 0 s).trans k
      have run : exec (.accept x) s = .next (enterSwap x (swapEnds x 0 s)) := by
        show execAccept x s = _
        exact (runs _).trans (congrArg _ (if_pos hown))
      refine ⟨_, run, ?_⟩
      rw [all.own]
      refine ⟨rfl, rfl, ?_, all.links⟩
      rw [answers, swapEnds_eq hvia]
      exact (answered_modLink ..).1
    · have run : exec (.reject x) s = .next (answer via 0 [2] (s.modLink x fun l =>
          { l with swapOwn := false, tSwapAnswer := false, swapVia := none })) := by
        show execReject x s = _
        exact (runs _).trans (congrArg _ ((if_pos hown).trans (by rw [swapEnds_eq hvia, answer_modLink_comm])))
      obtain ⟨own, links, whole⟩ := answer_modLink via 0 [2] x
        (fun l => { l with swapOwn := false, tSwapAnswer := false, swapVia := none }) s
      exact ⟨_, run, own, answerOf_answer .., links, whole⟩
    · have run : exec (.wait x) s = .next (answer via 0 [1] (s.modLink x fun l =>
          { l with swapOwn := false, tSwapAnswer := false, swapVia := none, tSwapRetry := true })) := by
        show execWait x s = _
        exact (runs _).trans (congrArg _ ((if_pos hown).trans (by
          rw [swapEnds_eq hvia, modLink_modLink, answer_modLink_comm])))
      obtain ⟨own, links, whole⟩ := answer_modLink via 0 [1] x
        (fun l => { l with swapOwn := false, tSwapAnswer := false, swapVia := none, tSwapRetry := true }) s
      exact ⟨_, run, own, answerOf_answer .., links, whole⟩
    · have run : exec (.accept x) s = .next (s.modLink x fun l => { l with
          acceptRecv := true, readyRem := false, offerPick := none }) := by
        show execAccept x s = _
        refine (runs _).trans (congrArg _ ((if_neg (by rw [hown]; nofun)).trans ?_))
        dsimp only
        rw [hpick]
      refine ⟨_, run, ?_⟩
      rw [modLink_own]
      exact ⟨rfl, rfl, modLink_only ..⟩
    · have run : exec (.ready x) s = .next (s.modLink x fun l => { l with
          readyRem := l.readyRem || l.acceptRecv, state := .contract, kaVoid := 0, tReady := false }) := by
        show execReady x s = _
        refine (runs _).trans (congrArg _ (modLink_congr ?_))
        rw [if_neg (by rw [hr]; nofun), if_pos hst, if_pos hst]
      refine ⟨_, run, ?_⟩
      rw [modLink_own]
      exact ⟨rfl, rfl, rfl, modLink_only ..⟩
    · have run : exec (.keepAliveRequest x) s = .next (s.modLink x fun l => { l with
          txq := txInsert { cls := .keepAlive, type := 0x06, objs := [], via := none } l.txq, kaVoid := 0 }) := by
        show execKeepAliveRequest x s = _
        refine (runs _).trans (congrArg _ ((if_pos (by rw [hr, hf]; rfl)).trans ?_))
        rw [send_eq, modLink_modLink]
      refine ⟨_, run, ?_⟩
      rw [modLink_own]
      exact ⟨rfl, by simp [txInsert], modLink_only ..⟩
    · refine oneLink (f := fun l => { l with kaVoid := 0 }) ?_
      show execKeepAliveResponse x s = _
      exact (runs _).trans (congrArg _ (if_neg (by rw [hr]; nofun)))
    · have run : exec (.roleSwapRequest x) s = .next (s.modLink x fun l => { l with
          txq := txInsert { cls := .swapAnswer, type := if s.links[x].present = .dual then 1 else 2, objs := [], via := none } l.txq }) := by
        show execRoleSwapRequest x s = _
        refine (runs _).trans (congrArg _ ?_)
        dsimp only
        rw [swapAnswer_eq hst hat hown ht]
        rfl
      refine ⟨_, run, modLink_only .., ?_⟩
      rw [modLink_own]
      simp [txInsert]
    · have k : LinkOp x (fun l => { l with txCtr := 0, rxCtr := 0, modes := 0, enterAsked := 0 }) (voidLink x 12 false s)
          (softReset x s) := .modLink x _ _
      have run : exec (.softReset x) s = .next (softReset x s) := runs _
      refine ⟨_, run, voidLink_voids (.refl x s) k hf rfl rfl rfl fun _ => ⟨rfl, rfl, rfl, rfl, rfl, rfl⟩, ?_⟩
      rw [k.own]
      exact ⟨rfl, rfl, rfl⟩
    · have on : responderOn x s = true := by
        rw [responderOn, decide_eq_true hb, hat, hr]
        rfl
      have run : exec (.offer x [v, c]) s = .next (s.modLink x fun l => { l with
          tResponder := false, offerPick := some (v, BitVec.ofNat 32 (min 160 (c.toNat % 4096)))
          txq := txInsert { cls := .responder, type := 0x11, objs := [v, BitVec.ofNat 32 (min 160 (c.toNat % 4096))], via := none } l.txq }) := by
        show execOffer x [v, c] s = _
        refine (runs _).trans (congrArg _ ((if_pos on).trans ?_))
        have pick : pickOffer s.ports[x].vin [v, c] = some (v, c) := if_pos ⟨ho, .inl hv⟩
        dsimp only
        rw [State.modLink_ports, pick]
        dsimp only
        rw [send_eq, modLink_modLink, modLink_modLink]
      refine ⟨_, run, modLink_only .., ?_⟩
      rw [modLink_own]
      refine ⟨rfl, fun p hp => ?_, by simp [txInsert]⟩
      obtain rfl := Option.some.inj hp
      show (min 160 (c.toNat % 4096)) % 2 ^ 32 ≤ 160
      omega
    · have run : exec (.vendorDefined x o) s = .next (s.modLink x (vendorPass o)) :=
        runs fun s => s.modLink x (vendorPass o)
      refine ⟨_, run, ?_⟩
      rw [modLink_own]
      have mode : vendorPass o s.links[x] = { s.links[x] with
          modes := s.links[x].modes ||| (s.links[x].enterAsked &&& 1#3), enterAsked := s.links[x].enterAsked &&& ~~~1#3 } := by
        unfold vendorPass
        rw [hc, hk, hm]
        simp
      rw [mode]
      refine ⟨?_, ?_, modLink_only ..⟩
      · rw [BitVec.getLsbD_or, BitVec.getLsbD_and, he]
        simp
      · rw [BitVec.getLsbD_and]
        simp

end Sys2Proof.Machine
end

/-! ## The timers of a contract, and the tie (O20) -/

section
open Sys2Proof.Claims
namespace Sys2Proof.Machine

/-- A link event that voids the contract in force with cause `cause`, after it has marked its link and opened the tie, or
neither. -/
theorem voids_after {x : Fin 4} {cause : Nat} {tell : Bool} {f : LinkPort → LinkPort} {s t : State} (k : LinkOp x f s t)
    (hf : s.links[x].inForce = true) (hforce : (f s.links[x]).inForce = s.links[x].inForce)
    (hrole : (f s.links[x]).role = s.links[x].role) (r : Nat) :
    Voided x cause s (linkActs x r (voidLink x cause tell t)) :=
  voidLink_voids k (.modLink x (fun l => { l with acted := r }) _) (by rw [k.own, hforce, hf]) (by rw [k.own, hrole]) rfl rfl
    fun _ => ⟨rfl, rfl, rfl, rfl, rfl, rfl⟩

/-- A link whose cable has stayed in its window (R293). -/
def LinkPort.confirmed (l : LinkPort) : LinkPort :=
  { l with
    acted := 4, state := .contract, tTransition := false, readyDue := false, kaVoid := 0
    txq := if l.readyDue then txInsert { cls := .readyMsg, type := 0x04, objs := [], via := none } l.txq else l.txq }

theorem voided_marks (cause tell) (l : LinkPort) : (l.voided cause tell).evKa = l.evKa ∧
    (l.voided cause tell).evTransFail = l.evTransFail := by
  unfold LinkPort.voided
  split <;> exact ⟨rfl, rfl⟩

theorem linkActs_twice (x r s) : linkActs x r (linkActs x r s) = linkActs x r s := by
  rw [linkActs_eq, linkActs_eq, modLink_modLink]

/-- A tie that is open stays open while a contract ends. -/
theorem voidLink_open {s : State} (h : s.tie.en = false) (x cause tell) : (voidLink x cause tell s).tie.en = false :=
  (voidLink_outside x cause tell s).2.2 h

theorem voidLink_timeout (x cause tell) (s : State) : (voidLink x cause tell s).tie.timeout = s.tie.timeout ∧
    (voidLink x cause tell s).tie.trip = s.tie.trip := by
  by_cases h : s.links[x].inForce = true
  · rw [voidLink_tie h]
    split <;> exact ⟨rfl, rfl⟩
  · rw [voidLink_idle (by simpa using h)]
    exact ⟨rfl, rfl⟩

/-- Settles O20, timer by timer. -/
theorem contractsEndWithTheirCause : Obligations.ContractsEndWithTheirCause := by
  unfold Obligations.ContractsEndWithTheirCause
  refine ⟨fun x s hp => ⟨fun h0 h4 => ⟨?_, ?_, ?_, ?_, ?_⟩, fun ha => ⟨fun hst hr => ?_, fun hst hf => ?_, fun v hst hr hlo hhi hv => ?_,
    fun ht hf => ?_, fun ht hf => ?_, fun ht hf => ?_⟩⟩, fun i s hp hen hf => ?_⟩
  · show execKeepAlive x s = _
    exact linkTimer_late hp h0 h4 ..
  · show execKeepAliveTimeout x s = _
    exact linkTimer_late hp h0 h4 ..
  · show execTransitionTimeout x s = _
    exact linkTimer_late hp h0 h4 ..
  · show execReadyTimeout x s = _
    exact linkTimer_late hp h0 h4 ..
  · show execNegotiationTimeout x s = _
    exact linkTimer_late hp h0 h4 ..
  · have run : exec (.keepAlive x) s = .next (s.modLink x fun l => { l with
        txq := txInsert { cls := .keepAlive, type := 0x05, objs := [], via := none } l.txq, acted := 4 }) := by
      show execKeepAlive x s = _
      refine (linkTimer_runs hp ha (by rw [decide_eq_true hst, hr]; rfl) _).trans ?_
      rw [linkActs_eq, send_eq, modLink_modLink]
    refine ⟨_, run, ?_⟩
    rw [modLink_own]
    exact ⟨by simp [txInsert], rfl, modLink_only ..⟩
  · have run : exec (.keepAliveTimeout x) s = .next (linkActs x 4 (keepAliveOut x s)) := by
      show execKeepAliveTimeout x s = _
      exact linkTimer_runs hp ha (decide_eq_true hst) _
    have marked := LinkOp.modLink x (fun l => { l with evKa := true }) s
    have k := (marked.trans (voidLink_op x 3 true _)).trans (.modLink x (fun l => { l with acted := 4 }) _)
    rw [keepAliveOut, linkActs_twice] at run
    refine ⟨_, run, voids_after marked hf rfl rfl 4, ?_⟩
    rw [linkActs_eq, k.own]
    refine ⟨(voided_marks 3 true _).1, ?_⟩
    refine (voided_shows (l := { s.links[x] with evKa := true }) hf 3 true).2.2.2.2.2.2.1.trans ?_
    rw [if_pos (.inr hst)]
  · have due : (s.links[x].state = .transition ∧ s.links[x].role = true ∧ inContract s.links[x] v = true) :=
      ⟨hst, hr, decide_eq_true ⟨hlo, hhi⟩⟩
    have run : exec (.windowConfirm x v) s = .next ((s.modPort x fun p => { p with vin := v }).modLink x (·.confirmed)) := by
      show execWindowConfirm x v s = _
      unfold execWindowConfirm portEvent
      rw [if_neg (by rw [hv]; nofun), if_neg (by rw [hp]; nofun)]
      dsimp only
      rw [if_pos (by
        simp only [Bool.and_eq_true, decide_eq_true_eq]
        exact ⟨⟨⟨hst, hr⟩, due.2.2⟩, ha⟩)]
      refine congrArg _ ?_
      split
      next h =>
        rw [send_eq, modLink_modLink]
        refine modLink_congr ?_
        rw [LinkPort.confirmed, if_pos h]
      next h =>
        refine modLink_congr ?_
        rw [LinkPort.confirmed, if_neg h]
    refine ⟨_, run, ?_⟩
    have port : ((s.modPort x fun p => { p with vin := v }).modLink x (·.confirmed)).ports[x].vin = v := by
      rw [State.modLink_ports, modPort_same]
    refine ⟨by rw [modLink_own]; rfl, fun h3 hf => ?_, by rw [modLink_own]; rfl, port, fun hd => ?_, modLink_but x _ _, fun y hy => PortsBut.modPort x (fun p => { p with vin := v }) s y hy, rfl⟩
    · obtain rfl : x = 3 := Fin.ext h3
      unfold tieInWindow
      rw [port, modLink_own]
      show (s.links[(3 : Fin 4)].inForce && inContract s.links[(3 : Fin 4)] v) = true
      rw [hf, due.2.2]
      rfl
    · rw [modLink_own]
      show (((if s.links[x].readyDue then _ else s.links[x].txq) : List TxMsg).any _) = true
      rw [if_pos hd]
      simp [txInsert]
  · have run : exec (.transitionTimeout x) s = .next (linkActs x 4 (alert 2 6 6 x.val 0 (voidLink x 4 true
        (State.modLink { s with tie := { s.tie with en := false, timeout := true } } x fun l => { l with evTransFail := true })))) := by
      show execTransitionTimeout x s = _
      exact (linkTimer_runs hp ha (by rw [ht]; rfl) _).trans (congrArg (fun u => Host.Outcome.next (linkActs x 4 u)) (if_pos ht))
    have marked : LinkOp x (fun l => { l with evTransFail := true }) s
        (State.modLink { s with tie := { s.tie with en := false, timeout := true } } x fun l => { l with evTransFail := true }) :=
      ⟨modLink_own .., modLink_but x _ { s with tie := { s.tie with en := false, timeout := true } }, fun _ _ => rfl, rfl, rfl⟩
    have after (u) : LinkOp x (fun l => { l with acted := 4 }) u (linkActs x 4 (alert 2 6 6 x.val 0 u)) :=
      (LinkOp.beside x (by simp) (by simp) (by simp) (by simp)).trans (.modLink x (fun l => { l with acted := 4 }) _)
    refine ⟨_, run, voidLink_voids marked (after _) (by rw [marked.own]; exact hf) (by rw [marked.own])
      (by simp [linkActs_eq]) (by simp [linkActs_eq]) (fun _ => ⟨rfl, rfl, rfl, rfl, rfl, rfl⟩), ?_, ?_, ?_⟩
    · rw [((marked.trans (voidLink_op x 4 true _)).trans (after _)).own]
      exact (voided_marks 4 true _).2
    · simp only [linkActs_eq, State.modLink_tie, alert_keeps]
      exact voidLink_open rfl ..
    · simp only [linkActs_eq, State.modLink_tie, alert_keeps]
      exact (voidLink_timeout ..).1
  · have run : exec (.readyTimeout x) s = .next (linkActs x 4 (voidLink x 5 true (s.modLink x fun l => { l with evTransFail := true }))) := by
      show execReadyTimeout x s = _
      exact linkTimer_runs hp ha ht _
    have marked := LinkOp.modLink x (fun l => { l with evTransFail := true }) s
    refine ⟨_, run, voids_after marked hf rfl rfl 4, ?_⟩
    rw [linkActs_eq, ((marked.trans (voidLink_op x 5 true _)).trans (.modLink x (fun l => { l with acted := 4 }) _)).own]
    exact (voided_marks 5 true _).2
  · have run : exec (.negotiationTimeout x) s = .next (linkActs x 4 (voidLink x 6 true { s with tie := { s.tie with en := false } })) := by
      show execNegotiationTimeout x s = _
      exact linkTimer_runs hp ha ht _
    have opened : LinkOp x id s { s with tie := { s.tie with en := false } } := .beside x rfl rfl rfl rfl
    exact ⟨_, run, voids_after opened hf rfl rfl 4, voidLink_open rfl ..⟩
  · dsimp only
    refine ⟨fun h4 hi => ?_, fun h => ?_⟩
    · have run : exec (.tieTrip i) s = .next (linkActs 3 2 (voidLink 3 7 true (alertRec (linkRecord 3 5 7) 0 6 5 3 0
          { s with tie := { s.tie with cur := i, en := false, trip := true } }))) := by
        show execTieTrip i s = _
        refine (linkEvent_runs hp _).trans ?_
        dsimp only
        rw [if_pos]
        rw [hen]
        exact decide_eq_true ⟨h4, hi⟩
      have opened : LinkOp 3 id s { s with tie := { s.tie with cur := i, en := false, trip := true } } := .beside 3 rfl rfl rfl rfl
      have k := opened.trans (alertLink_op 3 (linkRecord 3 5 7) 0 6 5 3 0 _ (linkRecord_op ..))
      have tie : (alertRec (linkRecord 3 5 7) 0 6 5 3 0
          { s with tie := { s.tie with cur := i, en := false, trip := true } }).tie = { s.tie with cur := i, en := false, trip := true } := by
        simp [alertRec]
      refine ⟨_, run, voidLink_open (by rw [tie]) .., ?_, voids_after k hf rfl rfl 2⟩
      refine (voidLink_timeout ..).2.trans ?_
      rw [tie]
    · show execTieTrip i s = _
      refine (linkEvent_runs hp _).trans ?_
      dsimp only
      rw [if_neg]
      rw [Bool.and_eq_true, tieTrips, decide_eq_true_eq]
      rintro ⟨-, h4, hi⟩
      omega

end Sys2Proof.Machine
end

/-! ## A core that comes back while a pour waits (O24) -/

section
open Sys2Proof.Claims
namespace Sys2Proof.Machine

/-- STANDBY with C0 restarting: a foreign fault edge with FAULT_ACT 2 was put off, and a `POUR_PREPARE` from mailbox 0 waits
for its pour to be validated. -/
def faultPutOff : State :=
  { State.reset with
    sys := { State.reset.sys with st := .standby, cores := 0xFE }
    bp := { faultWaits := true, faultAct := 2 }
    pour := { state := .validating, prepVia := some (.host 0) } }

/-- C0 comes back, the fault leads to SAFE, and the pour that this aborts answers its `POUR_PREPARE` (R203, R312). -/
theorem faultPutOff_answers : ∃ t, exec (.coreRestartDone 0) faultPutOff = .next t ∧ t.mbx[(0 : Fin 4)].answer.isSome = true :=
  ⟨_, rfl, by decide +kernel⟩

/-- Refutes O24: the statement has every mailbox unchanged as C0 comes back, but what was put off meanwhile acts then, and
where it leads to SAFE it aborts a pour, whose `POUR_PREPARE` is answered in its mailbox. -/
theorem not_ladderClimbsAndWritersAreKnown : ¬ Obligations.LadderClimbsAndWritersAreKnown := by
  unfold Obligations.LadderClimbsAndWritersAreKnown
  intro h
  obtain ⟨-, -, -, -, -, hdone⟩ := h.2 faultPutOff rfl
  obtain ⟨t, ht, -, hmbx, -⟩ := hdone 0 nofun rfl rfl rfl rfl rfl
  obtain ⟨u, hu, hanswer⟩ := faultPutOff_answers
  rw [hu] at ht
  injection ht with ht
  rw [ht, hmbx] at hanswer
  exact absurd hanswer (by decide)

end Sys2Proof.Machine
end

/-! ## The entries of a pour leave the counters -/

section
open Sys2Proof.Claims
namespace Sys2Proof.Machine

@[simp] theorem ite_ctrs (c : Prop) [Decidable c] (s t : State) : (if c then s else t).ctrs = if c then s.ctrs else t.ctrs :=
  apply_ite (fun s : State => s.ctrs) ..

@[simp] theorem done_next (s) : (done s).next = s := rfl
@[simp] theorem doneWith_next (res s) : (doneWith res s).next = s := rfl
@[simp] theorem accepted_next (s) : (accepted s).next = s := rfl
@[simp] theorem deny_next (code s) : (deny code s).next = s := rfl

@[simp] theorem foldFin_ctrs {k} (f : Fin k → State → State) (h : ∀ i s, (f i s).ctrs = s.ctrs) (s) :
    (foldFin k f s).ctrs = s.ctrs := foldFin_keeps (fun s : State => s.ctrs) _ h _

/-! ### What a command may do to a tap or a port -/

@[simp] theorem byCommand_ctrs (n f s) : (byCommand n f s).ctrs = (f s).ctrs := by simp [byCommand]
@[simp] theorem waking_ctrs (n f s) : (waking n f s).ctrs = (f s).ctrs := by simp [waking]
@[simp] theorem rephase_ctrs (n s0 s) : (rephase n s0 s).ctrs = s.ctrs := by
  unfold rephase
  dsimp only
  split
  · rfl
  · exact foldl_keeps (fun s : State => s.ctrs) _ (by intros; rfl) _ _
@[simp] theorem reactivate_ctrs (n f s) : (reactivate n f s).ctrs = (f s).ctrs := by simp [reactivate]
@[simp] theorem toDetect_ctrs (n isNew s) : (toDetect n isNew s).ctrs = s.ctrs := by simp [toDetect]
@[simp] theorem addHist_ctrs (h s) : (addHist h s).ctrs = s.ctrs := by simp [addHist]
@[simp] theorem voidHist_ctrs (n s) : (voidHist n s).ctrs = s.ctrs := by simp [voidHist]
@[simp] theorem sensorSuspend_ctrs (n s) : (sensorSuspend n s).ctrs = s.ctrs := by simp [sensorSuspend]
@[simp] theorem learn_ctrs (n s) : (learn n s).ctrs = s.ctrs := by
  unfold learn
  split <;> simp
@[simp] theorem topOffEnd_ctrs (n s) : (topOffEnd n s).ctrs = s.ctrs := by simp [topOffEnd]
@[simp] theorem endKeep_ctrs (n s) : (endKeep n s).ctrs = s.ctrs := by
  unfold endKeep
  dsimp only
  (repeat' split) <;> simp
@[simp] theorem endHandOff_ctrs (n s) : (endHandOff n s).ctrs = s.ctrs := by
  simp only [endHandOff, bypassNow]
  split <;> simp
@[simp] theorem startHandOff_ctrs (n why s) : (startHandOff n why s).ctrs = s.ctrs := by simp [startHandOff, countReturn]
@[simp] theorem openFault_ctrs (n s) : (openFault n s).ctrs = s.ctrs := by simp [openFault]
@[simp] theorem applyDescriptor_ctrs (args s) : (applyDescriptor args s).next.ctrs = s.ctrs := by
  simp [applyDescriptor, takeDescriptor]
@[simp] theorem runSetSupport_ctrs (args s) : (runSetSupport args s).next.ctrs = s.ctrs := by simp [runSetSupport]
@[simp] theorem runSetLimits_ctrs (args s) : (runSetLimits args s).next.ctrs = s.ctrs := by simp [runSetLimits]
@[simp] theorem runStop_ctrs (args s) : (runStop args s).next.ctrs = s.ctrs := by simp [runStop]
@[simp] theorem runResume_ctrs (args s) : (runResume args s).next.ctrs = s.ctrs := by simp [runResume]
@[simp] theorem runSetRamp_ctrs (args s) : (runSetRamp args s).next.ctrs = s.ctrs := by simp [runSetRamp]
@[simp] theorem refresh_ctrs (n s) : (refresh n s).ctrs = s.ctrs := by simp [refresh]
@[simp] theorem runSetKeep_ctrs (args s) : (runSetKeep args s).next.ctrs = s.ctrs := by simp [runSetKeep]
@[simp] theorem runSetStandin_ctrs (args s) : (runSetStandin args s).next.ctrs = s.ctrs := by simp [runSetStandin]
@[simp] theorem refuseStart_ctrs (n s) : (refuseStart n s).ctrs = s.ctrs := by simp [refuseStart]
@[simp] theorem requestStart_ctrs (n s) : (requestStart n s).ctrs = s.ctrs := by simp [requestStart]
@[simp] theorem fromBypass_ctrs (n auto s) : (fromBypass n auto s).ctrs = s.ctrs := by simp [fromBypass]
@[simp] theorem runSetTrack_ctrs (args s) : (runSetTrack args s).next.ctrs = s.ctrs := by simp [runSetTrack]
@[simp] theorem runSetCoeff_ctrs (args s) : (runSetCoeff args s).next.ctrs = s.ctrs := by
  unfold runSetCoeff
  (repeat' split) <;> simp
@[simp] theorem runLoadDefaultCoeff_ctrs (args s) : (runLoadDefaultCoeff args s).next.ctrs = s.ctrs := by
  simp [runLoadDefaultCoeff]
@[simp] theorem runSetSchedule_ctrs (args s) : (runSetSchedule args s).next.ctrs = s.ctrs := by simp [runSetSchedule]
@[simp] theorem runSetShed_ctrs (args s) : (runSetShed args s).next.ctrs = s.ctrs := by simp [runSetShed]
@[simp] theorem withdraw_ctrs (n s) : (withdraw n s).ctrs = s.ctrs := by simp [withdraw]
@[simp] theorem runSetGang_ctrs (args s) : (runSetGang args s).next.ctrs = s.ctrs := by simp [runSetGang, withdrawUnrated]
@[simp] theorem runSetMin_ctrs (args s) : (runSetMin args s).next.ctrs = s.ctrs := by simp [runSetMin]
@[simp] theorem runSetLossCap_ctrs (args s) : (runSetLossCap args s).next.ctrs = s.ctrs := by simp [runSetLossCap]
@[simp] theorem checkNarrow_ctrs (x s) : (checkNarrow x s).ctrs = s.ctrs := by simp [checkNarrow]
@[simp] theorem runSrcEnable_ctrs (args s) : (runSrcEnable args s).next.ctrs = s.ctrs := by simp [runSrcEnable]
@[simp] theorem runSrcDisable_ctrs (args s) : (runSrcDisable args s).next.ctrs = s.ctrs := by simp [runSrcDisable]
@[simp] theorem runSrcSetWindow_ctrs (args s) : (runSrcSetWindow args s).next.ctrs = s.ctrs := by simp [runSrcSetWindow]
@[simp] theorem runSrcSetLimit_ctrs (args s) : (runSrcSetLimit args s).next.ctrs = s.ctrs := by simp [runSrcSetLimit]
@[simp] theorem runSrcSetOv_ctrs (args s) : (runSrcSetOv args s).next.ctrs = s.ctrs := by simp [runSrcSetOv]
@[simp] theorem runSrcSetMode_ctrs (args s) : (runSrcSetMode args s).next.ctrs = s.ctrs := by simp [runSrcSetMode, swapRank]
@[simp] theorem runSetSync_ctrs (args s) : (runSetSync args s).next.ctrs = s.ctrs := by simp [runSetSync]

/-! ### The entries (R207) -/

theorem entryRun_ctrs (op args s) : (entryRun op args s).next.ctrs = s.ctrs := by
  unfold entryRun
  split <;> simp
theorem runEntry_ctrs (e s) : (runEntry e s).2.ctrs = s.ctrs := by
  unfold runEntry
  have h := entryRun_ctrs e.op.toNat e.args s
  split
  · simp
  · split <;> simp_all
theorem applyEntry_ctrs (e s) : (applyEntry e s).2.ctrs = s.ctrs := by
  unfold applyEntry
  dsimp only
  (repeat' split) <;> simp [runEntry_ctrs]
theorem applyAll_ctrs : ∀ es s, (applyAll es s).2.ctrs = s.ctrs
  | [], s => by simp [applyAll]
  | e :: es, s => (applyAll_ctrs es (applyEntry e s).2).trans (applyEntry_ctrs e s)

end Sys2Proof.Machine
end

/-! ## The watchdog's services (O23) -/

section
open Sys2Proof.Claims
namespace Sys2Proof.Machine

/-! ### What a rung leaves of the watchdog (R332, R333) -/

/-- The watchdog is as before but for the cores whose bits are awaited, and no counter changes. -/
def Awaits (s t : State) : Prop := t.wdg = { s.wdg with awaiting := t.wdg.awaiting } ∧ t.ctrs = s.ctrs

theorem Awaits.refl (s) : Awaits s s := ⟨rfl, rfl⟩

theorem Awaits.trans {s t u} (h : Awaits s t) (k : Awaits t u) : Awaits s u := by
  obtain ⟨hw, hc⟩ := h
  obtain ⟨kw, kc⟩ := k
  exact ⟨by rw [kw, hw], kc.trans hc⟩

theorem Awaits.of_same {s t} (hw : t.wdg = s.wdg) (hc : t.ctrs = s.ctrs) : Awaits s t := ⟨by rw [hw], hc⟩

theorem Awaits.ite {s t u} {c : Prop} [Decidable c] (h : Awaits s t) (k : Awaits s u) : Awaits s (if c then t else u) := by
  split
  · exact h
  · exact k

theorem restartCore_awaits (c s) : Awaits s (restartCore c s) := by
  unfold restartCore
  refine ⟨?_, ?_⟩
  · simp [forgetForgets, forgetVias, apply_ite State.wdg]
  · simp [forgetForgets, forgetVias]

theorem dropTrial_awaits (s) : Awaits s (dropTrial s) := .refl s

theorem revert_awaits (s) : Awaits s (revert s) := by
  unfold revert
  refine .ite (.of_same ?_ ?_) (.refl _) <;> simp [dropTrial]

theorem restartAll_awaits (s) : Awaits s (restartAll s) := by
  refine ⟨?_, ?_⟩ <;> simp [restartAll, loseCores, forgetVias]

theorem enterSafe_awaits (cause s) : Awaits s (enterSafe cause s) := .of_same (by simp) (by simp)

theorem ranked_awaits {r s} {f : State → State} (h : Awaits s (f s)) : Awaits s (ranked r f s) := .ite (.refl _) h

/-- A profile that is committed enables a watchdog that is enabled already. -/
theorem profileCommit_awaits {s : State} (h : s.wdg.enabled = true) (k) : Awaits s (profileCommit k s) := by
  unfold profileCommit
  extract_lets p _ s₁ s₂
  have entered : Awaits s s₂ := by
    refine .ite (.of_same ?_ (by simp [s₁])) (.refl s)
    exact (enterRun_wdg ..).trans (show (wdgEnable s₁).wdg = s₁.wdg by rw [wdgEnable_of_enabled (s := s₁) h])
  have contactor (u : State) : Awaits u (if p.valid && !u.sys.longPress then
      match p.str with
      | 1 => u.modSys (setStr true)
      | 2 => u.modSys (setStr false)
      | _ => u else u) := by
    refine .ite ?_ (.refl u)
    split <;> exact .refl u
  exact entered.trans (contactor s₂)

theorem pourEnd_awaits (result veto s) : Awaits s (pourEnd result veto s) := .of_same (by simp) (by simp)

theorem commit_awaits {s : State} (h : s.wdg.enabled = true) : Awaits s (commit s) := by
  have applied (es) (u : State) : Awaits u (applyAll es u).2 := .of_same (applyAll_still es u).1 (applyAll_ctrs es u)
  unfold commit
  dsimp only
  generalize hu : ((s.mapTaps fun _ t => { t with acted := 0 }).modPour fun p => { p with state := .opened }) = u
  have opened : Awaits s u := by
    rw [← hu]
    exact .refl s
  have acted := opened.trans (applied s.pour.entries u)
  generalize applyAll s.pour.entries u = r at *
  have ended := acted.trans (u := pourEnd 0 false { r.2 with
    hub := { r.2.hub with modeIn := if r.1.any setsMode then r.2.hub.mode else r.2.hub.modeIn } }) (pourEnd_awaits ..)
  generalize pourEnd 0 false _ = v at *
  split
  · refine ended.trans (profileCommit_awaits (s := v.modPour _) ?_ _)
    show v.wdg.enabled = true
    rw [ended.1]
    exact h
  · exact ended

/-- HOLD begins with a grace period, and so leaves one that has just begun (R330). -/
theorem enterHold_awaits {s : State} (hg : s.wdg.grace = true) (hc : s.wdg.count = 0) (hf : s.wdg.frac = 0) (cause) :
    Awaits s (enterHold cause s) := by
  refine ⟨?_, ?_⟩
  · simp [enterHold, grace, loseCores]
    exact ⟨hg, hc.symm, hf.symm⟩
  · simp [enterHold, grace, loseCores]

/-- HOLD begins at once, or after the commit that a released pour is due (R204, R206). -/
theorem goHold_awaits {s : State} (h : s.wdg.enabled = true) (hg : s.wdg.grace = true) (hc : s.wdg.count = 0)
    (hf : s.wdg.frac = 0) (cause) : Awaits s (goHold cause s) := by
  unfold goHold
  split
  · have committed := commit_awaits h
    refine committed.trans (enterHold_awaits ?_ ?_ ?_ cause) <;> rw [committed.1] <;> assumption
  · exact enterHold_awaits hg hc hf cause

/-- Whatever rung acts outside BOOT leaves the watchdog in the grace period that its failure began (R330). -/
theorem ladderAct_awaits {s : State} (hb : s.sys.st ≠ .boot) (h : s.wdg.enabled = true) (hg : s.wdg.grace = true)
    (hc : s.wdg.count = 0) (hf : s.wdg.frac = 0) (rung core) : Awaits s (ladderAct rung core s) := by
  have dropped : Awaits s (if s.sys.trial then dropTrial s else s) := .ite (dropTrial_awaits s) (.refl s)
  have safe : Awaits s (ranked 4 (fun s => enterSafe 3 (if s.sys.trial then dropTrial s else s)) s) :=
    ranked_awaits (dropped.trans (enterSafe_awaits ..))
  have held : Awaits s (ranked 6 (fun s => goHold 2 (revert s)) s) := by
    have reverted := revert_awaits s
    refine ranked_awaits (reverted.trans (goHold_awaits ?_ ?_ ?_ ?_ 2)) <;> rw [reverted.1] <;> assumption
  unfold ladderAct
  split
  next hst => exact absurd hst hb
  next =>
    split
    · exact restartCore_awaits ..
    · exact held
    · exact safe
  next =>
    split
    · exact restartCore_awaits ..
    · exact held
    · exact safe
  next =>
    split
    · exact .refl s
    · exact revert_awaits s
    · exact safe
  next =>
    split
    · exact restartCore_awaits ..
    · exact (revert_awaits s).trans (restartAll_awaits _)
    · exact dropped.trans (restartAll_awaits _)
  next => exact restartCore_awaits ..
  all_goals exact .refl s

/-! ### A failure (R326, R330, R331, R337) -/

/-- The evidence of a failure (R337). -/
def evidenceOf (cause : Nat) (tok : Word) (pcs : List (BitVec 32)) (s : State) : Evidence :=
  { cause := cause, rung := rungOf s.wdg.n (min 7 (s.wdg.fails + 1)), f := min 7 (s.wdg.fails + 1), n := s.wdg.n
    modState := modCode s.sys.st, challenge := s.wdg.challenge, token := tok, req := effReq s, acc := s.wdg.checkin
    missing := effReq s &&& ~~~s.wdg.checkin, count := s.wdg.count
    pcs := tabulate 8 fun c =>
      if 4 ≤ c.val ∧ !s.sys.clOn.getLsbD (c.val - 4) then 0xFFFFFFFF else pcs.getD c.val 0xFFFFFFFF
    lastGood := s.wdg.lastGood, time := s.stamp }

/-- The watchdog as a failure leaves it to its rung. -/
def failed (cause : Nat) (tok : Word) (pcs : List (BitVec 32)) (s : State) (challenge : Word) : Wdg :=
  { s.wdg with
    fails := min 7 (s.wdg.fails + 1), lastRung := rungOf s.wdg.n (min 7 (s.wdg.fails + 1)), lastCause := cause
    expired := true, missing := effReq s &&& ~~~s.wdg.checkin, checkin := 0, expiries := sat 0xFFFF (s.wdg.expiries + 1)
    evidence := (evidenceOf cause tok pcs s :: s.wdg.evidence).take 16, challenge := challenge
    grace := true, count := 0, frac := 0 }

theorem wdgFail_eq (cause tok pcs s) : ∃ u challenge, wdgFail cause tok pcs s =
      ladderAct (rungOf s.wdg.n (min 7 (s.wdg.fails + 1))) (offender cause (effReq s &&& ~~~s.wdg.checkin)) u ∧
    u.wdg = failed cause tok pcs s challenge ∧ challenge ≠ 0 ∧ u.sys = s.sys ∧ u.ctrs = s.ctrs ∧ u.arb = s.arb := by
  unfold wdgFail
  extract_lets w f rung req miss seen ev s₁ s₂
  have recorded : s₁.wdg = s.wdg ∧ s₁.sys = s.sys ∧ s₁.ctrs = s.ctrs ∧ s₁.arb = s.arb := by simp [s₁, alertRec]
  obtain ⟨hwdg, hsys, hctrs, harb⟩ := recorded
  simp only [s₂]
  clear_value s₁
  clear s₂
  generalize hv : s₁.modWdg _ = v
  have kept : v.sys = s.sys ∧ v.ctrs = s.ctrs ∧ v.arb = s.arb := by
    rw [← hv]
    exact ⟨hsys, hctrs, harb⟩
  have drawn : (newChallenge v).wdg = { v.wdg with challenge := (newChallenge v).wdg.challenge } := rfl
  refine ⟨grace (newChallenge v), (newChallenge v).wdg.challenge, rfl, ?_, newChallenge_ne_zero _, kept⟩
  show { (newChallenge v).wdg with grace := true, count := 0, frac := 0 } = _
  rw [drawn, ← hv]
  simp only [State.modWdg_wdg, hwdg]
  rfl

/-- The evidence of a failure is among what is kept, 16 at most (R337). -/
theorem failed_keeps (cause tok pcs s challenge) :
    (failed cause tok pcs s challenge).evidence.length = min 16 (s.wdg.evidence.length + 1) ∧
    ∃ e ∈ (failed cause tok pcs s challenge).evidence, e.cause = cause ∧ e.challenge = s.wdg.challenge := by
  refine ⟨by simp [failed]; omega, evidenceOf cause tok pcs s, ?_, rfl, rfl⟩
  exact List.mem_cons_self ..

/-- What a module reset leaves of the watchdog (R337, R358). -/
theorem moduleReset_wdg (last cause s) : (moduleReset last cause s).wdg =
    { resetWdg false s.wdg with challenge := (moduleReset last cause s).wdg.challenge } := by
  obtain ⟨-, -, hwdg, -⟩ := resetFrom_outside cause s
  rw [moduleReset_eq]
  generalize resetFrom cause s = u at *
  simp [enterBoot, bootRecord, newChallenge, State.draw, resetState, hwdg]

/-- What every failure shows (R326, R331, R337). -/
theorem wdgFail_shows {s : State} (h : s.wdg.enabled = true) (cause tok pcs) :
    (wdgFail cause tok pcs s).wdg.expiries = min 0xFFFF (s.wdg.expiries + 1) ∧
    (wdgFail cause tok pcs s).wdg.challenge ≠ 0 ∧ (wdgFail cause tok pcs s).wdg.checkin = 0 ∧
    (wdgFail cause tok pcs s).wdg.count = 0 ∧
    (wdgFail cause tok pcs s).wdg.evidence.length = min 16 (s.wdg.evidence.length + 1) ∧
    (wdgFail cause tok pcs s).wdg.locked = s.wdg.locked ∧
    (∃ e ∈ (wdgFail cause tok pcs s).wdg.evidence, e.cause = cause ∧ e.challenge = s.wdg.challenge) ∧
    (s.sys.st = .boot → (wdgFail cause tok pcs s).sys.st = .boot ∧ (wdgFail cause tok pcs s).sys.recReq = true ∧
      (wdgFail cause tok pcs s).sys.addr = s.sys.strap) ∧
    (s.sys.st ≠ .boot → (wdgFail cause tok pcs s).wdg.fails = min 7 (s.wdg.fails + 1) ∧
      (wdgFail cause tok pcs s).wdg.lastCause = cause ∧ (wdgFail cause tok pcs s).wdg.expired = true ∧
      (wdgFail cause tok pcs s).wdg.grace = true ∧ (wdgFail cause tok pcs s).ctrs = s.ctrs) := by
  obtain ⟨u, challenge, heq, hwdg, hne, hsys, hctrs, -⟩ := wdgFail_eq cause tok pcs s
  obtain ⟨hlen, hmem⟩ := failed_keeps cause tok pcs s challenge
  by_cases hb : s.sys.st = .boot
  · have boot : ladderAct (rungOf s.wdg.n (min 7 (s.wdg.fails + 1))) (offender cause (effReq s &&& ~~~s.wdg.checkin)) u =
        moduleReset 4 u.sys.cause (u.modSys fun y => { y with recReq := true }) := by
      unfold ladderAct
      rw [hsys, hb]
    obtain ⟨hst, -, haddr, hrec⟩ := moduleReset_boots 4 u.sys.cause (u.modSys fun y => { y with recReq := true })
    obtain ⟨-, -, -, -, hchallenge, -⟩ := moduleReset_shows 4 u.sys.cause (u.modSys fun y => { y with recReq := true })
    have wdg := moduleReset_wdg 4 u.sys.cause (u.modSys fun y => { y with recReq := true })
    rw [State.modSys_wdg, hwdg] at wdg
    rw [heq, boot]
    generalize moduleReset 4 u.sys.cause (u.modSys fun y => { y with recReq := true }) = t at *
    refine ⟨by rw [wdg]; rfl, hchallenge, by rw [wdg]; rfl, by rw [wdg]; rfl, by rw [wdg]; exact hlen, by rw [wdg]; rfl,
      by rw [wdg]; exact hmem, fun _ => ⟨hst, hrec, ?_⟩, fun h => absurd hb h⟩
    rw [haddr, State.modSys_sys, hsys]
  · obtain ⟨wdg, ctrs⟩ := ladderAct_awaits (s := u) (by rw [hsys]; exact hb) (by rw [hwdg]; exact h) (by rw [hwdg]; rfl)
      (by rw [hwdg]; rfl) (by rw [hwdg]; rfl) (rungOf s.wdg.n (min 7 (s.wdg.fails + 1))) (offender cause (effReq s &&& ~~~s.wdg.checkin))
    rw [heq, wdg, ctrs, hwdg]
    exact ⟨rfl, hne, rfl, rfl, hlen, rfl, hmem, fun h => absurd h hb, fun _ => ⟨rfl, rfl, rfl, rfl, hctrs⟩⟩

/-! ### Services -/

theorem runs_parts {s : State} (h : wdgRuns s = true) : s.powered = true ∧ s.wdg.enabled = true := by
  simp only [wdgRuns, Bool.and_eq_true] at h
  exact h.1

section
variable {s : State} (h : wdgRuns s = true) (hg : s.wdg.grace = false)
include h hg

theorem service_early (tok pcs) (ho : s.wdg.count < s.wdg.openT) :
    exec (.wdgService 0 tok pcs) s = .next (wdgFail 2 tok pcs s) := by
  show execWdgService 0 tok pcs s = _
  simp [execWdgService, (runs_parts h).1, h, hg, wdgWindow, ho]

theorem service_late (tok pcs) (ho : s.wdg.openT ≤ s.wdg.count) (hc : s.wdg.closeT ≤ s.wdg.count) :
    exec (.wdgService 0 tok pcs) s = .next (wdgFail 1 0 pcs s) := by
  show execWdgService 0 tok pcs s = _
  simp [execWdgService, (runs_parts h).1, h, hg, wdgWindow, ho, hc]

variable (ho : s.wdg.openT ≤ s.wdg.count) (hc : s.wdg.count < s.wdg.closeT)
include ho hc

theorem service_unmet (tok pcs) (hm : effReq s &&& ~~~s.wdg.checkin ≠ 0) :
    exec (.wdgService 0 tok pcs) s = .next (wdgFail 4 tok pcs s) := by
  show execWdgService 0 tok pcs s = _
  unfold execWdgService
  rw [if_neg (by simp [(runs_parts h).1]), if_neg (by simp), if_neg (by simp [h, hg]),
    if_neg (by simp [wdgWindow, hg, ho]), if_neg (by simp [wdgWindow, hg, hc]), if_pos hm]

theorem service_judged (tok pcs) (hm : effReq s &&& ~~~s.wdg.checkin = 0) : exec (.wdgService 0 tok pcs) s =
    .next (if tok ≠ token s.wdg.challenge then wdgFail 3 tok pcs s else wdgAccept s) := by
  show execWdgService 0 tok pcs s = _
  unfold execWdgService
  rw [if_neg (by simp [(runs_parts h).1]), if_neg (by simp), if_neg (by simp [h, hg]),
    if_neg (by simp [wdgWindow, hg, ho]), if_neg (by simp [wdgWindow, hg, hc]), if_neg (not_not.mpr hm)]
  split <;> rfl

end

/-- Settles O23, service by service. -/
theorem serviceIsJudgedByWindowMaskAndToken : Obligations.ServiceIsJudgedByWindowMaskAndToken := by
  unfold Obligations.ServiceIsJudgedByWindowMaskAndToken
  refine ⟨fun tok pcs s h hg ho hc hm ht => ?_, fun tok pcs s cause h hg hcause => ?_⟩
  · have run : exec (.wdgService 0 tok pcs) s = .next (wdgAccept s) := by
      rw [service_judged h hg ho hc tok pcs hm]
      exact congrArg _ (if_neg (not_not.mpr ht))
    have wdg : (wdgAccept s).wdg = { s.wdg with
        count := 0, frac := 0, grace := false, fails := 0, checkin := 0, lastGood := s.stamp
        openT := (s.wdg.nextPair.getD (s.wdg.openT, s.wdg.closeT)).1
        closeT := (s.wdg.nextPair.getD (s.wdg.openT, s.wdg.closeT)).2
        nextPair := none, reqMask := s.wdg.nextMask.getD s.wdg.reqMask, nextMask := none
        challenge := (wdgAccept s).wdg.challenge } := rfl
    have whole : wdgAccept s = { s with wdg := (wdgAccept s).wdg, free := (wdgAccept s).free } := rfl
    have runs : wdgRuns (wdgAccept s) = true := h
    have hchallenge : (wdgAccept s).wdg.challenge ≠ 0 := newChallenge_ne_zero _
    generalize wdgAccept s = t at *
    refine ⟨t, run, by rw [wdg], by rw [wdg], by rw [wdg], by rw [wdg], hchallenge, by rw [wdg], fun p hp => ?_, fun hp => ?_,
      by rw [wdg], by rw [wdg], whole, fun hopen => ?_⟩
    · rw [wdg, hp]
      exact ⟨rfl, rfl⟩
    · rw [wdg, hp]
      exact ⟨rfl, rfl⟩
    · obtain ⟨hexp, hne, -, -, -, -, -, -, hrest⟩ := wdgFail_shows (runs_parts runs).2 2 tok pcs
      refine ⟨_, service_early runs (by rw [wdg]) tok pcs (by rw [wdg] at hopen ⊢; exact hopen), ?_, hne, fun hb => ?_⟩
      · rw [hexp, wdg]
      · obtain ⟨hfails, hlast, hexpired, -⟩ := hrest (by rw [whole]; exact hb)
        refine ⟨hlast, hexpired, ?_⟩
        rw [hfails, wdg]
        rfl
  · have run : ∃ tok', exec (.wdgService 0 tok pcs) s = .next (wdgFail cause tok' pcs s) := by
      obtain ⟨rfl, ho⟩ | ⟨rfl, ho, hc⟩ | ⟨rfl, ho, hc, hm⟩ | ⟨rfl, ho, hc, hm, ht⟩ := hcause
      · exact ⟨_, service_early h hg tok pcs ho⟩
      · exact ⟨_, service_late h hg tok pcs ho hc⟩
      · exact ⟨_, service_unmet h hg ho hc tok pcs hm⟩
      · exact ⟨_, by rw [service_judged h hg ho hc tok pcs hm]; exact congrArg _ (if_pos ht)⟩
    obtain ⟨tok', run⟩ := run
    exact ⟨_, run, wdgFail_shows (runs_parts h).2 cause tok' pcs⟩

end Sys2Proof.Machine
end

/-! ## A history record larger than its ring (O25) -/

section
open Sys2Proof.Claims
namespace Sys2Proof.Machine

/-- The record that has taken every slot of the ring by mismatches, alone in the write queue. -/
def spoiledAlone : State := { State.reset with bbx := { queue := [.hist spoiledRecord] } }

/-- The ring has no room for it (R338). -/
theorem spoiledAlone_writes : ∃ t, exec (.bbxRecordWrite false false) spoiledAlone = .next t ∧ t.bbx.hist = [] :=
  ⟨_, rfl, by decide⟩

/-- Refutes O25: the statement has a history record last in its ring once both copies hold it, but the ring drops its oldest
records until the rest fits, and a record that has taken all its 2048 slots by mismatches does not fit. -/
theorem not_blackBoxWritesAndShowsItsRecords : ¬ Obligations.BlackBoxWritesAndShowsItsRecords := by
  unfold Obligations.BlackBoxWritesAndShowsItsRecords
  intro h
  obtain ⟨-, hqueue, -⟩ := h.2 spoiledAlone rfl
  obtain ⟨hhist, -⟩ := hqueue [] rfl rfl rfl
  obtain ⟨t, ht, -, -, hlast, -⟩ := hhist spoiledRecord rfl rfl rfl (by decide)
  obtain ⟨u, hu, hempty⟩ := spoiledAlone_writes
  rw [hu] at ht
  injection ht with ht
  rw [← ht, hempty] at hlast
  exact nomatch hlast

end Sys2Proof.Machine
end

/-! ## Words into the erasable stores, and the recipe commands -/

section
open Sys2Proof.Claims

namespace Sys2Proof.Machine

/-! ### Words into a store -/

/-- The words of a command from one place on, as many as it says. -/
def wordsFrom (a : List Word) (j n : Nat) : List Word := (List.range n).map fun i => argW a (j + i)

theorem wordsFrom_length (a j n) : (wordsFrom a j n).length = n := by simp [wordsFrom]

/-- The bytes that a command carries are those of its words, high byte first. -/
theorem bytes_of_words {k n} (a : List Word) (j : Nat) (h : n ≤ k) :
    ((tabulate k fun i => bytesHL (argW a (j + i.val))).take n).flatten = (wordsFrom a j n).flatMap bytesHL := by
  have range : (List.finRange k).map (fun i => bytesHL (argW a (j + i.val))) =
      (List.range k).map fun i => bytesHL (argW a (j + i)) := by
    rw [← List.map_coe_finRange_eq_range, List.map_map]
    rfl
  rw [tabulate_eq_map, range, ← List.map_take, List.take_range, Nat.min_eq_left h, List.flatMap, wordsFrom, List.map_map]
  rfl

theorem flatMap_bytesHL_length (ws : List Word) : (ws.flatMap bytesHL).length = 2 * ws.length := by
  induction ws with
  | nil => rfl
  | cons w ws ih =>
    rw [List.flatMap_cons, List.length_append, ih]
    simp only [bytesHL, List.length_cons, List.length_nil]
    omega

/-- Words written to a store read back, high byte first. -/
theorem memRead_words : ∀ (ws : List Word) {m : Memory} (k : Nat), Memory.wf m = true → ∀ {i}, (h : i < ws.length) →
    memRead (memWriteAll m k (ws.flatMap bytesHL)) (k + 2 * i) = BitVec.ofNat 8 (ws[i].toNat / 256) ∧
    memRead (memWriteAll m k (ws.flatMap bytesHL)) (k + 2 * i + 1) = BitVec.ofNat 8 ws[i].toNat
  | w :: ws, m, k, hm, i, h => by
    have hm₁ := memWrite_wf m k (BitVec.ofNat 8 (w.toNat / 256)) hm
    have hm₂ := memWrite_wf _ (k + 1) (BitVec.ofNat 8 w.toNat) hm₁
    have cut : memWriteAll m k ((w :: ws).flatMap bytesHL) = memWriteAll
        (memWrite (memWrite m k (BitVec.ofNat 8 (w.toNat / 256))) (k + 1) (BitVec.ofNat 8 w.toNat)) (k + 2)
        (ws.flatMap bytesHL) := rfl
    rw [cut]
    cases i with
    | zero =>
      rw [memRead_memWriteAll_other _ _ _ _ hm₂ (by omega), memRead_memWriteAll_other _ _ _ _ hm₂ (by omega),
        memRead_memWrite _ _ _ _ hm₁, memRead_memWrite _ _ _ _ hm₁, memRead_memWrite _ _ _ _ hm, if_neg (by omega),
        if_pos (by omega), if_pos (by omega)]
      exact ⟨rfl, rfl⟩
    | succ i =>
      have rest := memRead_words ws (k + 2) hm₂ (i := i) (Nat.lt_of_succ_lt_succ h)
      rw [show k + 2 * (i + 1) = k + 2 + 2 * i by omega]
      exact rest

/-- What a store holds after a command's words were written to it (R273, R275). -/
theorem memRead_load {k n : Nat} {m : Memory} (a : List Word) (j off : Nat) (hm : Memory.wf m = true) (h : n ≤ k) :
    let t := memWriteAll m off ((tabulate k fun i => bytesHL (argW a (j + i.val))).take n).flatten
    (∀ i, i < n → memRead t (off + 2 * i) = BitVec.ofNat 8 (arg a (j + i) / 256) ∧
      memRead t (off + 2 * i + 1) = BitVec.ofNat 8 (arg a (j + i))) ∧
    ∀ b, b < off ∨ off + 2 * n ≤ b → memRead t b = memRead m b := by
  rw [bytes_of_words a j h]
  refine ⟨fun i hi => ?_, fun b hb => ?_⟩
  · have hw : i < (wordsFrom a j n).length := by rwa [wordsFrom_length]
    have back := memRead_words (wordsFrom a j n) off hm hw
    have word : (wordsFrom a j n)[i].toNat = arg a (j + i) := by simp [wordsFrom, arg]
    rwa [word] at back
  · refine memRead_memWriteAll_other _ _ _ _ hm ?_
    rwa [flatMap_bytesHL_length, wordsFrom_length]

/-! ### Slots -/

@[simp] theorem slotAt_val (s) (k : Fin 8) : slotAt s k.val = s.rcp.slots[k] := by
  simp [slotAt, List.getD]

theorem modSlot_slots (k : Fin 8) (f s) : (modSlot k.val f s).rcp.slots[k] = f s.rcp.slots[k] ∧
    ∀ j : Fin 8, j ≠ k → (modSlot k.val f s).rcp.slots[j] = s.rcp.slots[j] := by
  refine ⟨?_, fun j hj => ?_⟩
  · rw [modSlot, vec_get, if_pos rfl]
  · rw [modSlot, vec_get, if_neg fun h => hj (Fin.ext h)]

theorem isRunning_ne {s : State} {k : Fin 8} (h : s.rcp.running ≠ some k) : isRunning s k.val = false := by
  unfold isRunning
  split
  · next r hr => exact decide_eq_false fun e => h (by rw [hr, Fin.ext e])
  · rfl

/-- `RCP_LOAD` as it changes its slot (R373). -/
def Slot.loaded (r off : Nat) (bytes : List Byte) (p : Slot) : Slot := match r with
  | 0 => { p with code := memWriteAll p.code off bytes, verified := false }
  | 1 => { p with data := memWriteAll p.data off bytes, verified := false }
  | _ => { p with sig := memWriteAll p.sig off bytes, verified := false }

theorem Slot.loaded_verified (r off bytes p) : (Slot.loaded r off bytes p).verified = false := by
  unfold Slot.loaded
  split <;> rfl

theorem Slot.loaded_region {r} (h : r ≤ 2) (off bytes p) :
    region (Slot.loaded r off bytes p) r = memWriteAll (region p r) off bytes ∧
      ∀ q, q ≤ 2 → q ≠ r → region (Slot.loaded r off bytes p) q = region p q := by
  obtain rfl | rfl | rfl : r = 0 ∨ r = 1 ∨ r = 2 := by omega
  all_goals
    refine ⟨rfl, fun q hq hne => ?_⟩
    obtain rfl | rfl | rfl : q = 0 ∨ q = 1 ∨ q = 2 := by omega
  all_goals simp_all [Slot.loaded, region]

/-! ### The running recipe ends -/

/-- Every request and ceiling of a recipe is gone (R381); a tap that had no ceiling shows nothing else of it. -/
def Released (s t : State) : Prop := ∀ n : Fin 32, t.taps[n].rcpReq = none ∧ t.taps[n].rcpCeil = 0 ∧
  (s.taps[n].rcpCeil = 0 → t.taps[n] = { s.taps[n] with rcpReq := none })

theorem Released.congr {s t u v : State} (h : Released s t) (hs : u.taps = s.taps) (ht : v.taps = t.taps) :
    Released u v := by
  unfold Released
  rwa [hs, ht]

theorem rcpRelease_tap (n s) : (rcpRelease n s).taps[n].rcpReq = none ∧ (rcpRelease n s).taps[n].rcpCeil = 0 ∧
    (s.taps[n].rcpCeil = 0 → (rcpRelease n s).taps[n] = { s.taps[n] with rcpReq := none }) := by
  unfold rcpRelease
  extract_lets had u
  have own : u.taps[n] = { s.taps[n] with rcpReq := none, rcpCeil := 0 } := by
    rw [State.modTap_taps, if_pos rfl]
  split
  · next h =>
    rw [retarget_tap, own]
    refine ⟨rfl, rfl, fun h0 => ?_⟩
    simp only [had, h0, ne_eq, not_true_eq_false, decide_false, Bool.false_and, Bool.false_eq_true] at h
  · rw [own]
    exact ⟨rfl, rfl, fun h0 => by rw [← h0]⟩

theorem rcpWithdraw_released (s) : Released s (rcpWithdraw s) := fun n => by
  obtain ⟨u, own, -, ends⟩ := foldFin_at (fun (n : Fin 32) (s : State) => s.taps[n]) (fun _ => ())
    (f := rcpRelease) (fun i m s hm => rcpRelease_but i s m hm) (fun _ _ => rfl) n s
  have shown := rcpRelease_tap n u
  rw [rcpWithdraw]
  rwa [ends, ← own]

theorem rcpWithdraw_rcp (s) : (rcpWithdraw s).rcp = s.rcp :=
  foldFin_keeps (fun s : State => s.rcp) rcpRelease (fun n s => by simp) s

theorem rcpHalt_rcp (s) : (rcpHalt s).rcp =
    { s.rcp with running := none, phase := .idle, mask := 0, out := [] } := rcpWithdraw_rcp _

theorem rcpHalt_released (s) : Released s (rcpHalt s) :=
  rcpWithdraw_released { s with rcp := { s.rcp with running := none, phase := .idle, mask := 0, out := [] } }

theorem rcpHalt_outside (s) : rcpHalt s = { s with rcp := (rcpHalt s).rcp, taps := (rcpHalt s).taps } := by
  apply State.ext_parts <;> simp

/-! ### The commands -/

theorem slotArg_ok {a : List Word} {k : Fin 8} (h : arg a 0 = k.val) : slotArg a = none := by
  rw [slotArg, rng_ok (Nat.zero_le _) (by omega)]

/-- One bit for each flag, from a place on, is the number with those bits. -/
theorem sum_bits : ∀ (k j : Nat) (f : Fin k → Bool),
    (tabulate k fun i => bit (f i) (j + i.val)).sum = 2 ^ j * Nat.ofBits f
  | 0, _, _ => rfl
  | k + 1, j, f => by
    have rest := sum_bits k (j + 1) (f ∘ Fin.succ)
    have place (i : Fin k) : j + (i.succ).val = j + 1 + i.val := by
      rw [Fin.val_succ]
      omega
    have first : bit (f 0) j = 2 ^ j * (f 0).toNat := by cases f 0 <;> simp [bit]
    rw [tabulate, List.sum_cons, Nat.ofBits_succ]
    simp only [place]
    change _ + (tabulate k fun i => bit ((f ∘ Fin.succ) i) (j + 1 + i.val)).sum = _
    rw [rest, show j + (0 : Fin (k + 1)).val = j from rfl, first, pow_succ]
    ring

/-- A word of flags shows each flag at its bit. -/
theorem word_bits {k : Nat} (hk : k ≤ 16) (f : Fin k → Bool) (j : Fin k) :
    (word (tabulate k fun i => bit (f i) i.val).sum).getLsbD j.val = f j := by
  have sum := sum_bits k 0 f
  simp only [Nat.zero_add, Nat.pow_zero, Nat.one_mul] at sum
  rw [sum, word, BitVec.getLsbD_ofNat, Nat.testBit_ofBits_lt f _ j.isLt, decide_eq_true (by omega), Bool.true_and]

/-- The recipe of a slot stands ready, nothing of it run yet (R375). -/
def readied (k : Fin 8) (mask : BitVec 32) (s : State) : State := { s with rcp := { s.rcp with
  running := some k, phase := .starting, mask := mask, overruns := 0, consec := 0, lastFault := 0, tick := 0
  inPage := .replicate 1088 0, outPage := .replicate 256 0, persist := [], data := s.rcp.slots[k].data } }

/-- A start by command: init is called at once, or once the recipe stopped for it is gone (R375, R383). -/
def launched (k : Fin 8) (mask : BitVec 32) (s : State) : State :=
  if s.rcp.running.isSome then readied k mask (rcpHalt s) else callEntry 0 .init 0 (readied k mask (rcpHalt s))

theorem runStart_started {a : List Word} {s : State} {k : Fin 8} (hk : arg a 0 = k.val) (hver : s.rcp.slots[k].verified = true)
    (hgov : ∀ n : Fin 32, (arg2 a 1).testBit n.val = true → ungovernable s n = false) :
    runStart a s = done (launched k (BitVec.ofNat 32 (arg2 a 1)) s) := by
  have free : ((indices 32).all fun n =>
      !((BitVec.ofNat 32 (arg2 a 1)).getLsbD n.val && ungovernable s n)) = true := by
    refine List.all_eq_true.mpr fun n _ => ?_
    cases hb : (BitVec.ofNat 32 (arg2 a 1)).getLsbD n.val
    · rfl
    · rw [BitVec.getLsbD_ofNat, Bool.and_eq_true] at hb
      rw [hgov n hb.2]
      rfl
  have slot : (⟨arg a 0 % 8, Nat.mod_lt _ (by decide)⟩ : Fin 8) = k := Fin.ext (by rw [hk]; exact Nat.mod_eq_of_lt k.isLt)
  have data : (slotAt (rcpHalt s) (arg a 0)).data = (rcpHalt s).rcp.slots[k].data := by rw [hk, slotAt_val]
  refine (checked_pass ?_).trans ?_
  · rw [slotArg_ok hk, free, hk, slotAt_val, hver]
    rfl
  · rw [launched, readied]
    simp only [slot, data]

theorem callEntry_some {off phase a0 s} {k : Fin 8} (h : s.rcp.running = some k) : callEntry off phase a0 s =
    { s with rcp := { s.rcp with
      phase := phase, regs := entryRegs a0, pc := BitVec.ofNat 32 (slotField s.rcp.slots[k] off), csr := [], loads := [] } } := by
  rw [callEntry, h]
  simp only [slotAt_val]

theorem readied_taps (k mask s) : (readied k mask s).taps = s.taps := rfl
theorem readied_slots (k mask s) : (readied k mask s).rcp.slots = s.rcp.slots := rfl

theorem launched_shows (k : Fin 8) (mask : BitVec 32) (s : State) : (launched k mask s).rcp.running = some k ∧
    (launched k mask s).rcp.phase = (if s.rcp.running.isSome then .starting else .init) ∧
    (s.rcp.running = none → (launched k mask s).rcp.regs[(10 : Fin 32)] = 0 ∧
      (launched k mask s).rcp.regs[(2 : Fin 32)] = 0x10020000 ∧
      (launched k mask s).rcp.pc = BitVec.ofNat 32 (slotField s.rcp.slots[k] 0)) ∧
    (launched k mask s).rcp.data = s.rcp.slots[k].data ∧ (launched k mask s).rcp.inPage = .replicate 1088 0 ∧
    (launched k mask s).rcp.mask = mask ∧ (launched k mask s).rcp.slots = s.rcp.slots ∧
    Released s (launched k mask s) ∧
    launched k mask s = { s with rcp := (launched k mask s).rcp, taps := (launched k mask s).taps } := by
  have ready : Released s (readied k mask (rcpHalt s)) := (rcpHalt_released s).congr rfl (readied_taps ..)
  have rest : readied k mask (rcpHalt s) =
      { s with rcp := (readied k mask (rcpHalt s)).rcp, taps := (readied k mask (rcpHalt s)).taps } := by
    unfold readied
    rw [rcpHalt_outside s]
  have slots : (readied k mask (rcpHalt s)).rcp.slots = s.rcp.slots := (readied_slots ..).trans (rcpHalt_slots s)
  have shown (u) : (readied k mask u).rcp.running = some k ∧ (readied k mask u).rcp.phase = .starting ∧
      (readied k mask u).rcp.data = u.rcp.slots[k].data ∧ (readied k mask u).rcp.inPage = .replicate 1088 0 ∧
      (readied k mask u).rcp.mask = mask := by simp only [readied, and_self]
  obtain ⟨hrun, hphase, hdata, hpage, hmask⟩ := shown (rcpHalt s)
  rw [rcpHalt_slots] at hdata
  unfold launched
  generalize readied k mask (rcpHalt s) = u at *
  split
  · next h => exact ⟨hrun, hphase, fun h0 => by simp [h0] at h, hdata, hpage, hmask, slots, ready, rest⟩
  · next h =>
    rw [callEntry_some hrun]
    refine ⟨hrun, rfl, fun _ => ⟨rfl, rfl, ?_⟩, hdata, hpage, hmask, slots, ready.congr rfl rfl, ?_⟩
    · simp only [slots]
    · rw [rest]

/-- Settles O26, command by command. -/
theorem recipesAreLoadedVerifiedAndRun : Obligations.RecipesAreLoadedVerifiedAndRun := by
  unfold Obligations.RecipesAreLoadedVerifiedAndRun
  refine ⟨fun via args s k ha hk hr heven hlo hhi hfit hrun hwf => ?_, fun via args s => ⟨fun ha h0 => ?_,
    fun k x y ha hk hrun hx hy hhead => ?_, fun k ha hk hrun hx hy hhead => ?_, fun k ha hk hver hgov => ?_, fun ha => ?_,
    fun ha => ?_⟩⟩
  · obtain ⟨same, others⟩ := modSlot_slots k (Slot.loaded (arg args 1) (arg2 args 2)
      (((tabulate 25 fun i => bytesHL (argW args (5 + i.val))).take (arg args 4)).flatten)) s
    have run : runLoad args s = toFlash (fun s => done (modSlot k.val (Slot.loaded (arg args 1) (arg2 args 2)
        (((tabulate 25 fun i => bytesHL (argW args (5 + i.val))).take (arg args 4)).flatten)) s)) s := by
      refine (checked_pass ?_).trans ?_
      · rw [slotArg_ok hk, rng_ok (Nat.zero_le _) hr, decide_eq_true heven, rng_ok hlo hhi, if_pos hfit, hk,
          isRunning_ne hrun]
        rfl
      · rw [hk]
        rfl
    obtain ⟨written, kept⟩ := Slot.loaded_region hr (arg2 args 2)
      (((tabulate 25 fun i => bytesHL (argW args (5 + i.val))).take (arg args 4)).flatten) s.rcp.slots[k]
    obtain ⟨inside, outside⟩ := memRead_load args 5 (arg2 args 2) hwf hhi
    refine ⟨_, hostCommand_stored ha run rfl, ?_, ?_, ?_, ?_, others, rfl⟩
    · rw [same, Slot.loaded_verified]
    · rwa [same, written]
    · rwa [same, written]
    · rwa [same]
  · by_cases first : arg args 0 = 0
    · have run : runRegisterKey args s = toFlash (fun s => done { s with rcp := { s.rcp with
          keyX := some (tabulate 16 fun k => bytesHL (argW args (1 + k.val))).flatten } }) s := by
        refine (checked_pass (by rw [rng_ok (Nat.zero_le _) h0]; rfl)).trans ?_
        simp only [first, if_true]
      exact ⟨_, hostCommand_stored ha run rfl, fun _ => ⟨rfl, rfl⟩, fun h1 => by omega, rfl⟩
    · have run : runRegisterKey args s = toFlash (fun s => done { s with rcp := { s.rcp with
          keyY := some (tabulate 16 fun k => bytesHL (argW args (1 + k.val))).flatten } }) s := by
        refine (checked_pass (by rw [rng_ok (Nat.zero_le _) h0]; rfl)).trans ?_
        simp only [first, if_false]
      exact ⟨_, hostCommand_stored ha run rfl, fun h1 => absurd h1 first, fun _ => ⟨rfl, rfl⟩, rfl⟩
  · obtain ⟨same, others⟩ := modSlot_slots k (fun p => { p with verified := true }) s
    have pass : first [slotArg args, allow (!isRunning s (arg args 0))] = none := by
      rw [slotArg_ok hk, hk, isRunning_ne hrun]
      rfl
    refine ⟨modSlot k.val (fun p => { p with verified := true }) s, ?_, same, others, rfl⟩
    have key : rcpKey s = some (x ++ y) := by simp only [rcpKey, hx, hy]
    by_cases hsig : slotSigned (x ++ y) s.rcp.slots[k] = true
    · rw [if_pos hsig]
      refine hostCommand_stored ha (run := runVerify) ((checked_pass pass).trans ?_)
        (r := fun s => done (modSlot k.val (fun p => { p with verified := true }) s)) rfl
      simp only [key, hk, slotAt_val, hhead, hsig, Bool.and_self, if_true]
    · rw [if_neg hsig]
      refine hostCommand_answers ha (run := runVerify) ((checked_pass pass).trans ?_)
      simp only [key, hk, slotAt_val, hhead, hsig, Bool.and_false]
      rfl
  · have pass : first [slotArg args, allow (!isRunning s (arg args 0))] = none := by
      rw [slotArg_ok hk, hk, isRunning_ne hrun]
      rfl
    refine hostCommand_answers ha (run := runVerify) ((checked_pass pass).trans ?_)
    obtain ⟨x, hx⟩ := Option.isSome_iff_exists.mp hx
    obtain ⟨y, hy⟩ := Option.isSome_iff_exists.mp hy
    simp only [rcpKey, hx, hy, hk, slotAt_val, hhead, Bool.false_and]
    rfl
  · refine ⟨_, hostCommand_answers ha (runStart_started hk hver hgov), answerOf_answer .., ?_⟩
    simp only [answer_keeps]
    obtain ⟨hrun, hphase, hinit, hdata, hpage, hmask, hslots, htaps, hrest⟩ := launched_shows k (BitVec.ofNat 32 (arg2 args 1)) s
    refine ⟨hrun, hphase, hinit, hdata, hpage, ?_, hslots, htaps, congrArg (answer via 0 []) hrest⟩
    · have low := (argW args 1).isLt
      have high := (argW args 2).isLt
      rw [hmask, BitVec.toNat_ofNat, Nat.mod_eq_of_lt]
      unfold arg2 arg
      omega
  · refine ⟨_, hostCommand_answers ha (run := runRcpStop) rfl, ?_⟩
    simp only [answer_keeps, rcpHalt_rcp, true_and]
    exact ⟨rcpHalt_released s, congrArg (answer via 0 []) ((rcpHalt_outside s).trans (by rw [rcpHalt_rcp]))⟩
  · refine ⟨_, hostCommand_answers ha (run := runRcpStatus) rfl, rfl, ?_, fun k => ?_, rfl⟩
    · cases s.rcp.running <;> rfl
    · exact word_bits (by decide) _ k

end Sys2Proof.Machine
end

/-! ## Ticks, outputs and faults of a recipe -/

section
open Sys2Proof.Claims

namespace Sys2Proof.Machine

/-! ### Bytes of a number -/

theorem bytesOf_length : ∀ k n, (bytesOf k n).length = k
  | 0, _ => rfl
  | k + 1, n => by rw [bytesOf, List.length_cons, bytesOf_length]

theorem natLE_bytesOf : ∀ k n, natLE (bytesOf k n) = n % 256 ^ k
  | 0, n => by simp [bytesOf, natLE, Nat.mod_one]
  | k + 1, n => by
    rw [bytesOf, natLE, natLE_bytesOf k, pow_succ', Nat.mod_mul]
    rfl

/-- Bytes written to a store read back. -/
theorem memBytes_memWriteAll : ∀ (bs : List Byte) {m : Memory} (k : Nat), Memory.wf m = true →
    memBytes (memWriteAll m k bs) k bs.length = bs
  | [], _, _, _ => rfl
  | b :: bs, m, k, hm => by
    have hm₁ := memWrite_wf m k b hm
    rw [memWriteAll, List.length_cons, memBytes, memBytes_memWriteAll bs (k + 1) hm₁,
      memRead_memWriteAll_other _ _ _ _ hm₁ (by omega), memRead_memWrite _ _ _ _ hm, if_pos rfl]

/-! ### A fault -/

theorem c1Up_runs {s} (h : c1Up s = true) : ∃ k, s.rcp.running = some k := by
  unfold c1Up at h
  rw [Bool.and_eq_true] at h
  exact Option.isSome_iff_exists.mp h.2

/-- The recipe engine after a fault (R381). -/
def Rcp.faulted (code : Nat) (r : Rcp) : Rcp :=
  { r with lastFault := code, running := none, phase := .idle, mask := 0, out := [] }

theorem rcpFault_shows {s k} (h : s.rcp.running = some k) (code pc) :
    (rcpFault code pc s).rcp = s.rcp.faulted code ∧ Released s (rcpFault code pc s) := by
  have ends : rcpFault code pc s = alertRec (recordKeyed (0x0D, EvCode.recipeFault.num, 0)
      (word EvCode.recipeFault.num :: word code :: (wordsOf 2 pc.toNat ++ wordsOf 2 (tickNumber s.rcp))))
      3 0xA 8 k.val code (rcpHalt { s with rcp := { s.rcp with lastFault := code } }) := by
    rw [rcpFault, h]
  rw [ends]
  refine ⟨?_, (rcpHalt_released { s with rcp := { s.rcp with lastFault := code } }).congr rfl (by simp)⟩
  simp only [alertRec_keeps, recordKeyed_keeps, rcpHalt_rcp]
  rfl

theorem rcpFaultFree_shows {s k} (h : s.rcp.running = some k) (code) :
    (rcpFaultFree code s).rcp = s.rcp.faulted code ∧ Released s (rcpFaultFree code s) := by
  have fault := rcpFault_shows (s := { s with free := s.free + 1 }) h code (BitVec.ofNat 32 (Config.freeValue s.free))
  exact fault

/-! ### A yield -/

theorem yielded_some {s} {k : Fin 8} (h : s.rcp.running = some k) : yielded s = { s with rcp := { s.rcp with
    phase := .between, persist := memBytes s.rcp.data 0 (slotP s.rcp.slots[k]) } } := by
  rw [yielded, h]
  simp only [slotAt_val]

theorem yield_init {s u out} {ops} {k : Fin 8} (hup : c1Up s = true) (hp : s.rcp.phase = .init) (hops : runOps ops s = u)
    (hu : u.rcp.phase = .init) (hk : u.rcp.running = some k) : exec (.yield out ⟨ops⟩) s =
    .next { u with rcp := { u.rcp with
      outPage := pageOf out, phase := .between, persist := memBytes u.rcp.data 0 (slotP u.rcp.slots[k]) } } := by
  have ends : exec (.yield out ⟨ops⟩) s = .next (yielded { u with rcp := { u.rcp with outPage := pageOf out } }) := by
    show execYield out ⟨ops⟩ s = _
    simp [execYield, hup, hp, hops, hu]
  exact ends.trans (congrArg _ (yielded_some (k := k) (s := { u with rcp := { u.rcp with outPage := pageOf out } }) hk))

theorem yield_tick {s u out} {ops} {k : Fin 8} (hup : c1Up s = true) (hp : s.rcp.phase = .tick) (hops : runOps ops s = u)
    (hu : u.rcp.phase = .tick) (hk : u.rcp.running = some k) : exec (.yield out ⟨ops⟩) s =
    .next { u with rcp := { u.rcp with
      consec := 0, out := out, outPage := pageOf out, phase := .between
      persist := memBytes u.rcp.data 0 (slotP u.rcp.slots[k]) } } := by
  have ends : exec (.yield out ⟨ops⟩) s = .next (yielded { u with rcp := { u.rcp with consec := 0, out := out, outPage := pageOf out } }) := by
    show execYield out ⟨ops⟩ s = _
    simp [execYield, hup, hp, hops, hu]
  exact ends.trans (congrArg _ (yielded_some (k := k) (s := { u with rcp := { u.rcp with consec := 0, out := out, outPage := pageOf out } }) hk))

/-- A step that faults ends the recipe, and the yield does nothing more (R381). -/
theorem yield_fault {s out o code} (hup : c1Up s = true) (hp : s.rcp.phase = .tick) (ho : opFault s o = some code) :
    exec (.yield out ⟨[o]⟩) s = .next (rcpFault code (faultPc s o) s) := by
  obtain ⟨k, hk⟩ := c1Up_runs hup
  have ops : runOps [o] s = rcpFault code (faultPc s o) s := by rw [runOps, ho]
  have idle : (rcpFault code (faultPc s o) s).rcp.phase = .idle := by
    rw [(rcpFault_shows hk code _).1]
    rfl
  show execYield out ⟨[o]⟩ s = _
  simp [execYield, hup, hp, ops, idle]

/-- A store of one word into the data region (R374). -/
theorem runOps_store {s} {a v : BitVec 32} (hlo : 0x10000000 ≤ a.toNat) (hhi : a.toNat + 4 ≤ 0x10020000)
    (halign : a.toNat % 4 = 0) : runOps [.store a 2 v] s = { s with rcp := { s.rcp with
      data := memWriteAll s.rcp.data (a.toNat - 0x10000000) (bytesOf 4 v.toNat) } } := by
  have free : opFault s (.store a 2 v) = none := by
    have ok : rcpWritable a.toNat 4 = true := by simp [rcpWritable, hlo, hhi]
    change (if a.toNat % 4 ≠ 0 then some 3 else if rcpWritable a.toNat 4 then none else some 2) = none
    rw [if_neg (by omega), ok]
    rfl
  rw [runOps, free]
  exact if_pos (by omega)

/-! ### Counters as they are read -/

theorem modPerf_same (c f) (s : State) : (modPerf c f s).perf[c] = f s.perf[c] := by
  simp [modPerf]

theorem modPerf_other (f) (s : State) {c d : Fin 8} (h : d ≠ c) : (modPerf c f s).perf[d] = s.perf[d] := by
  have hv : c.val ≠ d.val := fun e => h (Fin.ext e.symm)
  simp [modPerf, hv]

/-- What a read between two dumps may change of a unit (R384): only what it has counted since. -/
structure CaughtUp (p q : PerfCore) : Prop where
  shape : q = { p with ctr := q.ctr, ahead := q.ahead, instret := q.instret, aheadRet := q.aheadRet }
  idle : ∀ k : Fin 8, p.en = false ∨ p.sel[k] = 0 → q.ctr[k] = p.ctr[k]

theorem CaughtUp.refl (p) : CaughtUp p p := ⟨rfl, fun _ _ => rfl⟩

theorem CaughtUp.trans {p q r} (h : CaughtUp p q) (h' : CaughtUp q r) : CaughtUp p r := by
  have en : q.en = p.en := by rw [h.shape]
  have sel : q.sel = p.sel := by rw [h.shape]
  refine ⟨?_, fun k hk => ?_⟩
  · rw [h'.shape, h.shape]
  · rw [h'.idle k (by rwa [en, sel]), h.idle k hk]

theorem catchUp_caughtUp (c s) : CaughtUp s.perf[c] (catchUp c s).perf[c] := by
  unfold catchUp
  split
  · exact .refl _
  · dsimp only
    rw [modPerf_same]
    refine ⟨rfl, fun k hk => ?_⟩
    have none : (!s.perf[c].en || counted s.perf[c].sel[k] || decide (s.perf[c].sel[k] = 0)) = true := by
      rcases hk with h | h
      · rw [h]; rfl
      · rw [h]; simp
    rw [vec_get]
    simp only [none, if_true]
    exact BitVec.add_zero _

theorem catchUp_other (s) {c d : Fin 8} (h : d ≠ c) : (catchUp c s).perf[d] = s.perf[d] := by
  unfold catchUp
  split
  · rfl
  · exact modPerf_other _ _ h

theorem catchUp_outside (c s) : catchUp c s = { s with perf := (catchUp c s).perf, free := (catchUp c s).free } := by
  unfold catchUp
  split <;> rfl

/-- A counter of eight, by its number among the CSRs (R388). -/
theorem csrRead_counter {p : PerfCore} (hu : p.userRead = true) (k : Fin 8) :
    csrRead p (0xC03 + k.val) = some (p.ctr[k].extractLsb' 0 32) ∧
    csrRead p (0xC83 + k.val) = some (p.ctr[k].extractLsb' 32 32) := by
  have read : userCounter p (k.val + 3) = some p.ctr[k] := by
    rw [userCounter, if_neg (by omega), if_neg (by omega), if_pos (by omega)]
    simp [List.getD]
  refine ⟨?_, ?_⟩
  · rw [csrRead, hu, if_neg (by decide), if_neg (by omega), if_pos (by omega), show 0xC03 + k.val - 0xC00 = k.val + 3 by omega,
      read]
    rfl
  · rw [csrRead, hu, if_neg (by decide), if_pos (by omega), show 0xC83 + k.val - 0xC80 = k.val + 3 by omega, read]
    rfl

theorem opEffect_csrRead (a s) : opEffect (.csrRead a) s = { s with
    perf := (catchUp 1 s).perf, free := (catchUp 1 s).free
    rcp := { s.rcp with csr := s.rcp.csr ++ [(a, (csrRead (catchUp 1 s).perf[(1 : Fin 8)] a).getD 0)] } } := by
  have rcp : (catchUp 1 s).rcp = s.rcp := by rw [catchUp_outside]
  have eq : opEffect (.csrRead a) s = { catchUp 1 s with rcp := { (catchUp 1 s).rcp with
      csr := (catchUp 1 s).rcp.csr ++ [(a, (csrRead (catchUp 1 s).perf[(1 : Fin 8)] a).getD 0)] } } := rfl
  rw [eq, rcp, catchUp_outside]

/-- The two halves of a counter, read one after the other (R388). -/
theorem runOps_counter {s} (hu : s.perf[(1 : Fin 8)].userRead = true) (k : Fin 8) :
    ∃ (perf : Vector PerfCore 8) (free : Nat) (v w : BitVec 64),
      runOps [.csrRead (0xC03 + k.val), .csrRead (0xC83 + k.val)] s = { s with
        perf := perf, free := free
        rcp := { s.rcp with csr := s.rcp.csr ++ [(0xC03 + k.val, v.extractLsb' 0 32)] ++
          [(0xC83 + k.val, w.extractLsb' 32 32)] } } ∧
      (s.perf[(1 : Fin 8)].en = false → v = s.perf[(1 : Fin 8)].ctr[k] ∧ w = s.perf[(1 : Fin 8)].ctr[k]) := by
  have first := catchUp_caughtUp 1 s
  have hu₁ : (catchUp 1 s).perf[(1 : Fin 8)].userRead = true := by
    rw [first.shape]
    exact hu
  obtain ⟨u, hs⟩ : ∃ u, u = opEffect (.csrRead (0xC03 + k.val)) s := ⟨_, rfl⟩
  have low : u = { s with
      perf := (catchUp 1 s).perf, free := (catchUp 1 s).free
      rcp := { s.rcp with csr := s.rcp.csr ++
        [(0xC03 + k.val, (catchUp 1 s).perf[(1 : Fin 8)].ctr[k].extractLsb' 0 32)] } } := by
    rw [hs, opEffect_csrRead, (csrRead_counter hu₁ k).1]
    rfl
  have perf : u.perf = (catchUp 1 s).perf := by rw [low]
  have second := catchUp_caughtUp 1 u
  have both : CaughtUp s.perf[(1 : Fin 8)] (catchUp 1 u).perf[(1 : Fin 8)] :=
    first.trans (by simpa only [perf] using second)
  have hu₂ : (catchUp 1 u).perf[(1 : Fin 8)].userRead = true := by
    rw [both.shape]
    exact hu
  have free₁ : opFault s (.csrRead (0xC03 + k.val)) = none := by
    simp only [opFault, (csrRead_counter hu k).1, Option.isSome_some, if_true]
  have free₂ : opFault u (.csrRead (0xC83 + k.val)) = none := by
    simp only [opFault, perf, (csrRead_counter hu₁ k).2, Option.isSome_some, if_true]
  refine ⟨(catchUp 1 u).perf, (catchUp 1 u).free, (catchUp 1 s).perf[(1 : Fin 8)].ctr[k],
    (catchUp 1 u).perf[(1 : Fin 8)].ctr[k], ?_, fun he => ⟨first.idle k (.inl he), both.idle k (.inl he)⟩⟩
  rw [runOps, free₁]
  simp only [← hs]
  rw [runOps, free₂]
  simp only [runOps, opEffect_csrRead, (csrRead_counter hu₂ k).2, Option.getD_some]
  generalize (catchUp 1 u).perf = perf
  generalize (catchUp 1 u).free = free
  rw [low]

/-! ### A tick -/

theorem inputPage_head (s) : (inputPage s).take 4 = bytesOf 4 s.rcp.tick := by
  simp only [inputPage, List.append_assoc]
  exact List.take_left' (bytesOf_length ..)

theorem inputPage_length (s) : (inputPage s).length = 64 + 32 * 32 := by
  simp only [inputPage, List.length_append, bytesOf_length, tabulate_length, List.length_replicate]

/-- The state in which a tick's entry is called: the unit's wait of USER_READ ends and the page is filled (R376, R387). -/
def ticking (s : State) : State :=
  let u := s.modWdg fun w => { w with checkin := w.checkin ||| 0x0008, awaiting := w.awaiting &&& ~~~0x02 }
  let p := u.perf[(1 : Fin 8)]
  let u : State := { u with perf := u.perf.set 1 { p with userRead := p.nextUser.getD p.userRead, nextUser := none } }
  { u with rcp := { u.rcp with inPage := inputPage u } }

theorem ticking_shows (s) : (ticking s).rcp = { s.rcp with inPage := (ticking s).rcp.inPage } ∧
    (ticking s).rcp.inPage.take 4 = bytesOf 4 s.rcp.tick ∧ (ticking s).rcp.inPage.length = 64 + 32 * 32 ∧
    (ticking s).wdg.checkin = s.wdg.checkin ||| 0x0008 ∧ (ticking s).taps = s.taps :=
  ⟨rfl, inputPage_head _, inputPage_length _, rfl, rfl⟩

theorem recipeTick_runs {s k} (hup : c1Up s = true) (hk : s.rcp.running = some k) (hp : s.rcp.phase = .between) :
    exec .recipeTick s = .next { ticking s with rcp := { (ticking s).rcp with
      phase := .tick, regs := entryRegs s.rcp.tick
      pc := BitVec.ofNat 32 (slotField s.rcp.slots[k] 4), csr := [], loads := []
      tick := (s.rcp.tick + 1) % 2 ^ 32 } } := by
  have stays : (!c1Up s || decide (s.rcp.phase ≠ .between)) = false := by simp [hup, hp]
  have eq : exec .recipeTick s = .next { callEntry 4 .tick s.rcp.tick (ticking s) with rcp :=
      { (callEntry 4 .tick s.rcp.tick (ticking s)).rcp with
        tick := ((callEntry 4 .tick s.rcp.tick (ticking s)).rcp.tick + 1) % 2 ^ 32 } } := by
    show execRecipeTick s = _
    rw [execRecipeTick, stays]
    rfl
  rw [eq, callEntry_some (s := ticking s) (k := k) hk]
  rfl

/-! ### Overrun, time-out, STOP and faults -/

theorem tickOverrun_runs {s} (hup : c1Up s = true) (hp : s.rcp.phase = .tick) {u : State} (hu : u = { s with rcp := { s.rcp with
    phase := .between, overruns := sat 0xFFFF (s.rcp.overruns + 1), consec := s.rcp.consec + 1 } }) :
    exec .tickOverrun s = .next (if 8 ≤ s.rcp.consec + 1 then rcpFaultFree 5 u else u) := by
  have on : (c1Up s && decide (s.rcp.phase = .tick)) = true := by simp [hup, hp]
  subst hu
  show execTickOverrun s = _
  rw [execTickOverrun, on]
  rfl

theorem inRecipe_of {s} (hup : c1Up s = true) (hp : s.rcp.phase = .init ∨ s.rcp.phase = .tick) : inRecipe s = true := by
  simp [inRecipe, hup, hp]

theorem recordKeyed_nextSeq {s : State} (h : s.bbx.windows = []) (key payload) :
    (recordKeyed key payload s).bbx.nextSeq = s.bbx.nextSeq + 1 := by
  simp [recordKeyed, h, record]

/-- The first note of a second is recorded (R380). -/
theorem note_free {s} (hup : c1Up s = true) (hp : s.rcp.phase = .init ∨ s.rcp.phase = .tick) (hn : s.rcp.noteAt = none) (a) :
    exec (.note a) s = .next (recordKeyed (0x0D, EvCode.note.num, 0)
      (word EvCode.note.num :: (a.take 4).flatMap fun v => wordsOf 2 v.toNat)
      (returnA0 0 { s with rcp := { s.rcp with noteAt := some s.sys.uptime } })) := by
  show execNote a s = _
  simp [execNote, hup, hp, hn]

/-- A further one is dropped (R380). -/
theorem note_late {s t} (hup : c1Up s = true) (hp : s.rcp.phase = .init ∨ s.rcp.phase = .tick) (hn : s.rcp.noteAt = some t)
    (ht : s.sys.uptime < t + 1000) (a) : exec (.note a) s = .next (returnA0 1 s) := by
  show execNote a s = _
  simp [execNote, hup, hp, hn, ht]

/-- A fault that ends the recipe: its code, its slots, and its hold on the taps (R381). -/
theorem faulted_ends {s t code} (h : t.rcp = s.rcp.faulted code ∧ Released s t) : t.rcp.running = none ∧
    t.rcp.lastFault = code ∧ t.rcp.mask = 0 ∧ t.rcp.slots = s.rcp.slots ∧ t.rcp.data = s.rcp.data ∧ Released s t := by
  obtain ⟨hr, ht⟩ := h
  rw [hr]
  exact ⟨rfl, rfl, rfl, rfl, rfl, ht⟩

end Sys2Proof.Machine
end

/-! ## The performance units -/

section
open Sys2Proof.Claims

namespace Sys2Proof.Machine

theorem coreArg {a : List Word} {c : Fin 8} (hc : arg a 0 = c.val) : coreOf (arg a 0) = c :=
  Fin.ext (by rw [hc]; exact Nat.mod_eq_of_lt c.isLt)

theorem onCore_up {op run via args s} {c : Fin 8} (hc : arg args 0 = c.val) (hup : coreUp s c = true) :
    onCore op run via args s = hostCommand op run via args s := by
  unfold onCore
  rw [coreArg hc, hup]
  exact if_neg (by simp)

theorem answer_perf (via code res s) (c : Fin 8) : (answer via code res s).perf[c] = s.perf[c] := by
  simp only [answer_keeps]

/-- The words of one counter (R274). -/
theorem counterWords (v : Vector (BitVec 64) 8) (k : Fin 8) :
    (((v.toList.drop k.val).take 1).flatMap fun c => wordsOf 4 c.toNat) = wordsOf 4 v[k].toNat := by
  rw [List.take_one_drop_eq_of_lt_length (by simp)]
  simp

/-- A counter is given its event and begins at 0 (R274, R384). -/
def selected (c k : Fin 8) (code : Nat) (s : State) : State :=
  modPerf c (fun p => { p with
    sel := vec fun j => if j.val = k.val then code else p.sel[j]
    ctr := vec fun j => if j.val = k.val then 0 else p.ctr[j]
    ahead := vec fun j => if j.val = k.val then seenBefore code s.free p else p.ahead[j] }) { s with free := s.free + 1 }

theorem selected_shows (c k : Fin 8) (code s) : (selected c k code s).perf[c].sel[k] = code ∧
    (selected c k code s).perf[c].ctr[k] = 0 ∧ ∀ j : Fin 8, j ≠ k →
      (selected c k code s).perf[c].sel[j] = s.perf[c].sel[j] ∧ (selected c k code s).perf[c].ctr[j] = s.perf[c].ctr[j] := by
  unfold selected
  rw [modPerf_same]
  refine ⟨?_, ?_, fun j hj => ⟨?_, ?_⟩⟩
  · exact (vec_get ..).trans (if_pos rfl)
  · exact (vec_get ..).trans (if_pos rfl)
  · exact (vec_get ..).trans (if_neg fun h => hj (Fin.ext h))
  · exact (vec_get ..).trans (if_neg fun h => hj (Fin.ext h))

/-! ### A dump -/

/-- A unit with the events of a dump period added (R384). -/
def PerfCore.summed (counts : List Nat) (spent : Spent) (tags gap : Nat) (p : PerfCore) : PerfCore :=
  let ctr := vec fun k => p.ctr[k] + BitVec.ofNat 64 (dumpCount counts spent tags p k)
  { (if p.en then { p with ctr := ctr } else p : PerfCore) with
    cycle := BitVec.ofNat 64 spent.cycles, instret := p.instret + BitVec.ofNat 64 (spent.retired - p.aheadRet)
    ahead := .replicate 8 0, aheadRet := 0, tagIn := gap }

theorem PerfCore.summed_shape (counts spent tags gap p) : PerfCore.summed counts spent tags gap p = { p with
    ctr := (PerfCore.summed counts spent tags gap p).ctr
    cycle := BitVec.ofNat 64 spent.cycles, instret := p.instret + BitVec.ofNat 64 (spent.retired - p.aheadRet)
    ahead := .replicate 8 0, aheadRet := 0, tagIn := gap } := by
  unfold PerfCore.summed
  dsimp only
  split <;> rfl

theorem PerfCore.summed_off {p : PerfCore} (h : p.en = false) (counts spent tags gap) :
    (PerfCore.summed counts spent tags gap p).ctr = p.ctr := by
  simp [PerfCore.summed, h]

theorem PerfCore.summed_on {p : PerfCore} (h : p.en = true) (counts spent tags gap) (k : Fin 8) :
    (PerfCore.summed counts spent tags gap p).ctr[k] = p.ctr[k] + BitVec.ofNat 64 (dumpCount counts spent tags p k) := by
  simp only [PerfCore.summed, h, if_true, vec_get]

theorem dumpBoundary_keeps (f p) : (dumpBoundary f p).cycle = p.cycle ∧ (dumpBoundary f p).instret = p.instret ∧
    (dumpBoundary f p).dumpSeq = p.dumpSeq ∧ (dumpBoundary f p).ctr = p.ctr ∧ (dumpBoundary f p).ring = p.ring ∧
    (dumpBoundary f p).offset = p.offset := by
  unfold dumpBoundary
  split <;> exact ⟨rfl, rfl, rfl, rfl, rfl, rfl⟩

theorem dumpBoundary_next {f p} {en tag : Bool} {mean period : Nat} (h : p.next = some (en, tag, mean, period)) :
    (dumpBoundary f p).en = en ∧ (dumpBoundary f p).tag = tag ∧ (dumpBoundary f p).mean = mean ∧
    (dumpBoundary f p).period = period ∧ (dumpBoundary f p).next = none := by
  rw [dumpBoundary, h]
  exact ⟨rfl, rfl, rfl, rfl, rfl⟩

theorem tagBytes_length (t) : (tagBytes t).length = 16 := by
  simp only [tagBytes, List.length_append, bytesOf_length]
  rfl

/-- A dump record tells its own length in its first two bytes (R386). -/
theorem dumpRecord_length (p cycles tags) : (dumpRecord p cycles tags).length = 80 + 16 * (min 64 tags.length) ∧
    natLE ((dumpRecord p cycles tags).take 2) = (dumpRecord p cycles tags).length := by
  have kept : ((tags.take 64).flatMap tagBytes).length = 16 * (min 64 tags.length) := by
    rw [List.length_flatMap, List.map_congr_left (fun t _ => tagBytes_length t)]
    simp [Nat.mul_comm]
  have ctrs : (p.ctr.toList.flatMap fun v => bytesOf 8 v.toNat).length = 64 := by
    rw [List.length_flatMap, List.map_congr_left (fun v _ => bytesOf_length 8 _)]
    simp
  have length : (dumpRecord p cycles tags).length = 80 + 16 * (min 64 tags.length) := by
    simp only [dumpRecord, List.length_append, bytesOf_length, ctrs, kept]
  refine ⟨length, ?_⟩
  have head : (dumpRecord p cycles tags).take 2 = bytesOf 2 (80 + 16 * (tags.take 64).length) := by
    simp only [dumpRecord, List.append_assoc]
    exact List.take_left' (bytesOf_length ..)
  rw [head, natLE_bytesOf, length, List.length_take]
  exact Nat.mod_eq_of_lt (by omega)

/-- A unit after a dump (R384 to R387), with the tags taken. -/
def PerfCore.dumped (counts : List Nat) (spent : Spent) (got : List TagSeen) (gap f : Nat) (p : PerfCore) : PerfCore :=
  dumpBoundary f (pushDump (dumpRecord (p.summed counts spent got.length gap) spent.cycles got)
    (p.summed counts spent got.length gap))

theorem perfDump_runs {s c} (hp : s.powered = true) (hup : coreUp s c = true) (counts spent tags) :
    ∃ (got : List TagSeen) (gap f : Nat), (s.perf[c].tag = false → got = []) ∧ exec (.perfDump c counts spent tags) s =
      .next (modPerf c (PerfCore.dumped counts spent got gap f) { s with free := f + 1 }) := by
  have run : exec (.perfDump c counts spent tags) s = execPerfDump c counts spent tags s := rfl
  rw [run, execPerfDump, hp, hup]
  refine ⟨_, _, _, ?_, rfl⟩
  intro h
  rw [h]
  rfl

/-- A unit after a dump: what a dump sets, adds and appends (R384 to R387). -/
theorem PerfCore.dumped_shows (counts spent got gap f) (p : PerfCore) :
    let q := p.dumped counts spent got gap f
    let r := dumpRecord (p.summed counts spent got.length gap) spent.cycles got
    let off := if 65536 < p.offset + r.length then 16 else p.offset
    q.cycle = BitVec.ofNat 64 spent.cycles ∧ q.instret = p.instret + BitVec.ofNat 64 (spent.retired - p.aheadRet) ∧
    q.dumpSeq = p.dumpSeq + 1 ∧ q.ctr = (p.summed counts spent got.length gap).ctr ∧
    q.ring.getLast? = some (off, r) ∧ q.offset = off + r.length := by
  intro q r off
  obtain ⟨hcycle, hinst, hseq, hctr, hring, hoff⟩ := dumpBoundary_keeps f (pushDump r (p.summed counts spent got.length gap))
  have place : (p.summed counts spent got.length gap).offset = p.offset := by rw [PerfCore.summed_shape]
  have at' : (if decide (65536 < (p.summed counts spent got.length gap).offset + r.length) then 16
      else (p.summed counts spent got.length gap).offset) = off := by
    rw [place]
    simp only [off, decide_eq_true_eq]
  refine ⟨hcycle.trans ?_, hinst.trans ?_, hseq.trans ?_, hctr, ?_, hoff.trans (congrArg (· + r.length) at')⟩
  · rw [PerfCore.summed_shape]
    rfl
  · rw [PerfCore.summed_shape]
    rfl
  · rw [PerfCore.summed_shape]
    rfl
  · refine (congrArg List.getLast? hring).trans ?_
    simp only [pushDump, at', List.getLast?_append, List.getLast?_singleton, Option.some_or]

theorem PerfCore.dumped_next (counts spent got gap f) {p : PerfCore} {en tag : Bool} {mean period : Nat}
    (h : p.next = some (en, tag, mean, period)) :
    let q := p.dumped counts spent got gap f
    q.en = en ∧ q.tag = tag ∧ q.mean = mean ∧ q.period = period ∧ q.next = none := by
  refine dumpBoundary_next (p := pushDump _ (p.summed counts spent got.length gap)) ?_
  have same : (p.summed counts spent got.length gap).next = p.next := by rw [PerfCore.summed_shape]
  exact same.trans h

theorem dumpCount_retired {p : PerfCore} {k : Fin 8} (h : p.sel[k] = 0x02) (counts spent tags) :
    dumpCount counts spent tags p k = spent.retired - p.ahead[k] := by
  rw [dumpCount, h]
  rfl

/-- Events that the row of a dump reports for their counter (R384). -/
theorem dumpCount_reported {p : PerfCore} {k : Fin 8} (hlo : 0x03 ≤ p.sel[k]) (hhi : p.sel[k] ≤ 0x0D) (counts spent tags) :
    dumpCount counts spent tags p k = counts.getD k.val 0 - p.ahead[k] := by
  have own : counted p.sel[k] = false := by
    rw [counted, decide_eq_false_iff_not]
    omega
  rw [dumpCount, if_neg (by omega), if_neg (by omega), if_neg (by omega), own]
  rfl

/-- Settles O27, event by event and command by command. -/
theorem recipesTickAndPerformanceCounts : Obligations.RecipesTickAndPerformanceCounts := by
  unfold Obligations.RecipesTickAndPerformanceCounts
  refine ⟨fun s hup => ?_, fun via args s c => ?_⟩
  · obtain ⟨k, hk⟩ := c1Up_runs hup
    refine ⟨fun hp => ?_, fun hp hc => ?_, fun hp hc => ?_, fun hp => ?_, fun out hp => ?_, fun out hp => ?_,
      fun out hp hcsr => ⟨fun hu j => ?_, fun hu => ?_⟩, fun out a v hp => ⟨fun hlo hhi hal hwf => ?_, fun hal => ?_, fun hal hlo => ?_⟩,
      fun a hp hn hw => ?_, fun a at' hp hn hlt => ?_, fun hp => ?_, fun code pc hp hlo hhi => ?_⟩
    · obtain ⟨hrcp, htake, hlen, hwdg, htaps⟩ := ticking_shows s
      refine ⟨_, recipeTick_runs hup hk hp, rfl, rfl, rfl, rfl, ?_, htake, hlen, htaps⟩
      change (ticking s).wdg.checkin.getLsbD 3 = true
      rw [hwdg]
      simp
    · exact ⟨_, (tickOverrun_runs hup hp rfl).trans (congrArg _ (if_neg (by omega))), rfl, rfl, rfl, rfl, rfl⟩
    · refine ⟨_, (tickOverrun_runs hup hp rfl).trans (congrArg _ (if_pos (by omega))), ?_⟩
      obtain ⟨hrun, hcode, -, -, -, hrel⟩ := faulted_ends (rcpFaultFree_shows (s := { s with rcp := { s.rcp with
        phase := .between, overruns := sat 0xFFFF (s.rcp.overruns + 1), consec := s.rcp.consec + 1 } }) hk 5)
      exact ⟨hrun, hcode, fun n => (hrel n).1⟩
    · obtain ⟨hrun, hcode, hmask, -, -, hrel⟩ := faulted_ends (rcpFaultFree_shows hk 6)
      refine ⟨_, ?_, hrun, hcode, hmask, hrel⟩
      show execInitTimeout s = _
      simp [execInitTimeout, hup, hp]
    · refine ⟨_, yield_init (ops := []) hup hp rfl hp hk, rfl, rfl, rfl, rfl, fun j hj => ?_, rfl⟩
      obtain rfl : k = j := Option.some.inj (hk.symm.trans hj)
      rfl
    · exact ⟨_, yield_tick (ops := []) hup hp rfl hp hk, rfl, rfl, rfl, rfl⟩
    · obtain ⟨perf, free, v, w, hops, hen⟩ := runOps_counter hu j
      rw [hcsr] at hops
      refine ⟨_, v.extractLsb' 0 32, w.extractLsb' 32 32, yield_tick hup hp hops hp hk, rfl, rfl, fun he => ?_, rfl⟩
      obtain ⟨rfl, rfl⟩ := hen he
      exact ⟨rfl, rfl⟩
    · have fault : opFault s (.csrRead 0xC00) = some 1 := by
        rw [opFault, csrRead, hu]
        rfl
      obtain ⟨hrun, hcode, -, -, -, hrel⟩ := faulted_ends (rcpFault_shows hk 1 (faultPc s (.csrRead 0xC00)))
      exact ⟨_, yield_fault hup hp fault, hrun, hcode, fun n => (hrel n).1⟩
    · have back := memBytes_memWriteAll (bytesOf 4 v.toNat) (a.toNat - 0x10000000) hwf
      refine ⟨_, yield_tick hup hp (runOps_store hlo hhi hal) hp hk, rfl, rfl, ?_,
        fun j hj => memRead_memWriteAll_other _ _ _ _ hwf (by rw [bytesOf_length]; exact hj), rfl⟩
      rw [bytesOf_length] at back
      refine (congrArg natLE back).trans ?_
      rw [natLE_bytesOf]
      exact Nat.mod_eq_of_lt v.isLt
    · have fault : opFault s (.store a 2 v) = some 3 := if_pos hal
      obtain ⟨hrun, hcode, -, -, hdata, -⟩ := faulted_ends (rcpFault_shows hk 3 (faultPc s (.store a 2 v)))
      exact ⟨_, yield_fault hup hp fault, hrun, hcode, hdata⟩
    · have fault : opFault s (.store a 2 v) = some 2 := by
        have no : rcpWritable a.toNat 4 = false := by
          simp only [rcpWritable, Bool.or_eq_false_iff, decide_eq_false_iff_not]
          omega
        exact (if_neg (not_not_intro hal)).trans (if_neg (by rw [show 2 ^ (2 : Fin 3).val = 4 from rfl, no]; decide))
      obtain ⟨hrun, hcode, -, -, hdata, -⟩ := faulted_ends (rcpFault_shows hk 2 (faultPc s (.store a 2 v)))
      exact ⟨_, yield_fault hup hp fault, hrun, hcode, hdata⟩
    · refine ⟨_, note_free hup hp hn a, ?_, ?_, recordKeyed_nextSeq
        (s := returnA0 0 { s with rcp := { s.rcp with noteAt := some s.sys.uptime } }) hw .., ?_⟩
      · rw [recordKeyed_eq]
        exact Vector.getElem_set_self ..
      · rw [recordKeyed_eq]
        rfl
      · rw [recordKeyed_eq]
        rfl
    · exact note_late hup hp hn hlt a
    · obtain ⟨hrun, hcode, -, hslots, -, hrel⟩ := faulted_ends (rcpFaultFree_shows hk 7)
      refine ⟨_, ?_, hrun, hcode, hslots, fun n => (hrel n).1⟩
      show execStop s = _
      rw [execStop, inRecipe_of hup hp]
      rfl
    · obtain ⟨hrun, hcode, -, hslots, -, hrel⟩ := faulted_ends (rcpFault_shows hk code pc)
      refine ⟨_, ?_, hrun, hcode, hslots, fun n => (hrel n).1⟩
      show execRecipeFault code pc s = _
      rw [execRecipeFault, inRecipe_of hup hp, decide_eq_true ⟨hlo, hhi⟩]
      rfl
  · refine ⟨fun ha hc hup h1 h2 h3 h3' => ?_, fun k ha hc hup h1 h2 => ?_, fun k ha hc hup h1 h2 hb => ?_,
      fun ha hc hb hdown h1 h2 => ?_, fun counts cycles retired tags hp hup => ?_⟩
    · have low : (argW args 1).getLsbD 2 = false := Nat.testBit_lt_two_pow h1
      have run : runPerfSetCtl args s = done (modPerf c (fun p => { p with
          next := some ((argW args 1).getLsbD 0, (argW args 1).getLsbD 1, arg args 2, arg args 3)
          nextUser := if c.val = 1 then some false else none }) s) := by
        refine (checked_pass ?_).trans ?_
        · rw [rng_ok (Nat.zero_le _) (by omega), decide_eq_true (by omega), rng_ok h2 (by have := (argW args 2).isLt; unfold arg; omega),
            rng_ok h3 h3', decide_eq_true (.inl h1)]
          rfl
        · rw [coreArg hc, low, hc]
      refine ⟨_, (onCore_up hc hup).trans (hostCommand_answers ha run), ?_, fun d hd => ?_, ?_⟩
      · rw [answer_perf, modPerf_same]
      · rw [answer_perf, modPerf_other _ _ hd]
      · simp only [answer_keeps]
        rfl
    · have run : runPerfSelect args s = done (selected c k (arg args 2) (catchUp c s)) := by
        refine (checked_pass ?_).trans ?_
        · rw [rng_ok (Nat.zero_le _) (by omega), rng_ok (Nat.zero_le _) (by omega), decide_eq_true h2]
          rfl
        · rw [coreArg hc, h1]
          rfl
      obtain ⟨hsel, hctr, hothers⟩ := selected_shows c k (arg args 2) (catchUp c s)
      have caught := catchUp_caughtUp c s
      refine ⟨_, (onCore_up hc hup).trans (hostCommand_answers ha run), ?_⟩
      rw [answer_perf]
      refine ⟨hsel, hctr, fun j hj => ?_, fun d hd => ?_, ?_⟩
      · obtain ⟨same, kept⟩ := hothers j hj
        rw [same, kept]
        refine ⟨?_, caught.idle j⟩
        rw [caught.shape]
      · rw [answer_perf, selected, modPerf_other _ _ hd]
        exact catchUp_other s hd
      · simp only [answer_keeps]
        apply congrArg (answer via 0 [])
        rw [selected, modPerf, catchUp_outside]
    · refine ⟨catchUp c s, ?_, (catchUp_caughtUp c s).idle k, fun d hd => catchUp_other s hd, catchUp_outside c s⟩
      have run : runPerfRead args s = doneWith (wordsOf 4 (catchUp c s).perf[c].ctr[k].toNat) (catchUp c s) := by
        refine (checked_pass ?_).trans ?_
        · rw [rng_ok (Nat.zero_le _) (by omega), rng_ok (Nat.zero_le _) (by omega), rng_ok (by omega) (by omega),
            if_pos (by omega), coreArg hc, hup]
          rfl
        · obtain rfl := coreArg hc
          rw [h1, h2]
          exact congrArg (doneWith · _) (counterWords _ k)
      show execPerfRead via args s = _
      rw [execPerfRead, if_neg (by simp [hb]), hostCommand_answers ha run]
    · show execPerfRead via args s = _
      rw [execPerfRead, if_neg (by simp [hb])]
      refine hostCommand_answers ha (run := runPerfRead) (checked_fail ?_)
      rw [rng_ok (Nat.zero_le _) (by omega), rng_ok (Nat.zero_le _) (by omega), rng_ok (by omega) (by omega),
        if_pos (by omega), coreArg hc, hdown]
      rfl
    · obtain ⟨got, gap, f, hgot, run⟩ := perfDump_runs hp hup counts ⟨cycles, retired⟩ tags
      obtain ⟨hcycle, hinst, hseq, hctr, hlast, hoff⟩ := PerfCore.dumped_shows counts ⟨cycles, retired⟩ got gap f s.perf[c]
      obtain ⟨hlen, hown⟩ := dumpRecord_length (s.perf[c].summed counts ⟨cycles, retired⟩ got.length gap) cycles got
      refine ⟨_, run, ?_⟩
      rw [modPerf_same]
      refine ⟨hcycle, hinst, hseq, fun en tag mean period hn => PerfCore.dumped_next _ _ _ _ _ hn, fun k hk he => ?_,
        fun k hlo hhi he => ?_, ⟨_, _, hlast, hown, rfl, hoff, fun ht => ?_⟩, fun he => ?_, fun d hd => modPerf_other _ _ hd, rfl⟩
      · simp only [hctr]
        rw [PerfCore.summed_on he, dumpCount_retired hk]
      · simp only [hctr]
        rw [PerfCore.summed_on he, dumpCount_reported hlo hhi]
      · rw [hlen, hgot ht]
        rfl
      · rw [hctr, PerfCore.summed_off he]

end Sys2Proof.Machine
end

/-! ## Staging, verification and activation of an image -/

section
open Sys2Proof.Claims

namespace Sys2Proof.Machine

/-! ### Banks -/

theorem modBank_bank {k} (hk : k ≤ 1) (f s) : bankAt (modBank k f s) k = f (bankAt s k) ∧
    ∀ j, j ≠ k → bankAt (modBank k f s) j = bankAt s j := by
  have at' (u : State) (j : Nat) (h : j < 2) : bankAt u j = u.fw.banks[j] := by simp [bankAt, List.getD, h]
  refine ⟨?_, fun j hj => ?_⟩
  · rw [at' _ _ (by omega), at' _ _ (by omega), modBank, vec_getElem]
    exact if_pos rfl
  · by_cases h : j < 2
    · rw [at' _ _ h, at' _ _ h, modBank, vec_getElem]
      exact if_neg hj
    · simp [bankAt, List.getD, h]

theorem inactive_le (s) : inactive s ≤ 1 := by
  unfold inactive
  omega

theorem active_ne {s : State} (h : s.fw.active ≤ 1) : s.fw.active ≠ inactive s := by
  unfold inactive
  omega

theorem answer_bank (via code res s k) : bankAt (answer via code res s) k = bankAt s k := by
  simp only [bankAt, answer_keeps]

/-- Settles O28, command by command. -/
theorem firmwareIsStagedAndActivated : Obligations.FirmwareIsStagedAndActivated := by
  unfold Obligations.FirmwareIsStagedAndActivated
  refine ⟨fun via args s hs => ⟨fun ha => ?_, fun ha hlo hhi => ?_, fun hp hst => ?_, fun ha heven hlo hhi hst hfit hwf => ?_,
    fun ha hst => ?_, fun hp hst => ?_⟩, fun via args s => ⟨fun ha hst hsame => ?_, fun ha hst => ?_, fun ht hst => ?_⟩⟩
  · exact ⟨_, hostCommand_answers ha (run := runFwInfo) rfl, rfl, rfl, rfl⟩
  · obtain ⟨same, others⟩ := modBank_bank (inactive_le s) (fun b => { b with valid := false })
      { s with fw := { s.fw with stage := .erasing, size := arg2 args 0 } }
    refine ⟨_, hostCommand_answers ha (run := runStageBegin) (checked_pass ?_), ?_⟩
    · rw [rng_ok hlo hhi]
      rfl
    · simp only [answer_bank, answer_keeps]
      refine ⟨rfl, rfl, ?_, others _ (active_ne hs), rfl, rfl⟩
      exact congrArg FwBank.valid same
  · refine ⟨{ s with fw := { s.fw with stage := .opened, mem := [] } }, ?_, rfl, fun _ => rfl, rfl, rfl⟩
    show execFwEraseComplete s = _
    rw [execFwEraseComplete, hp, decide_eq_true hst]
    rfl
  · obtain ⟨inside, outside⟩ := memRead_load args 3 (arg2 args 0) hwf hhi
    refine ⟨_, hostCommand_stored ha (run := runStageWrite) (checked_pass ?_) rfl, inside, outside, rfl⟩
    rw [decide_eq_true heven, rng_ok hlo hhi, if_neg (by rw [hst]; decide), decide_eq_true hst, if_pos hfit]
    rfl
  · exact hostCommand_answers ha (run := runStageVerify) (checked_pass (by rw [decide_eq_true hst]; rfl))
  · have due : (!s.powered || decide (s.fw.stage ≠ .verifying)) = false := by simp [hp, hst]
    have run : exec .fwVerifyComplete s = execFwVerifyComplete s := rfl
    rw [run, execFwVerifyComplete, due]
    by_cases hok : imageOk s = true
    · obtain ⟨same, others⟩ := modBank_bank (inactive_le s) (fun _ =>
        { valid := true, version := BitVec.ofNat 32 (natLE (memBytes s.fw.mem 4 4)), layout := word (natLE (memBytes s.fw.mem 12 2))
          rollback := natLE (memBytes s.fw.mem 14 2) }) s
      have floor : s.fw.floor ≤ natLE (memBytes s.fw.mem 14 2) := by
        simp only [imageOk, Bool.and_eq_true, decide_eq_true_eq] at hok
        exact hok.1.2.2.2
      refine ⟨_, congrArg _ (if_pos hok), fun _ => ⟨rfl, ?_, ?_, ?_⟩, fun h => absurd hok (by simp [h]), others _ (active_ne hs), rfl⟩
      · exact congrArg FwBank.valid same
      · exact congrArg FwBank.rollback same
      · exact floor.trans_eq (congrArg FwBank.rollback same).symm
    · exact ⟨_, if_neg hok, fun h => absurd h hok, fun _ => ⟨rfl, rfl⟩, rfl, rfl⟩
  · have either : (decide ((bankAt s (inactive s)).layout = s.fw.running) || decide (s.sys.st ≠ .run)) = true := by
      simpa using hsame
    refine defer_answers ha (run := runActivate) ((checked_pass ?_).trans ?_)
    · rw [decide_eq_true hst, either]
      rfl
    · simp only [Bool.not_eq_true', decide_eq_false_iff_not]
  · exact hostCommand_answers ha (run := runActivate) (checked_fail (by rw [decide_eq_false hst]; rfl))
  · show execTrialEnd s = _
    rw [execTrialEnd, ht, decide_eq_true hst]
    rfl

end Sys2Proof.Machine
end

/-! ## The host mailboxes and the internal mailboxes -/

section
open Sys2Proof.Claims

namespace Sys2Proof.Machine

/-! ### A host mailbox -/

theorem modMbx_same (s : State) (n f) : (s.modMbx n f).mbx[n] = f s.mbx[n] := by
  rw [State.modMbx_mbx, if_pos rfl]

theorem modMbx_other (s : State) (f) {n m : Fin 4} (h : m ≠ n) : (s.modMbx n f).mbx[m] = s.mbx[m] := by
  rw [State.modMbx_mbx, if_neg h]

theorem mbxCore_congr {s t : State} {m : Fin 4} (hst : t.sys.st = s.sys.st) (hop : t.mbx[m].opcode = s.mbx[m].opcode)
    (ha : t.mbx[m].args = s.mbx[m].args) : mbxCore t m = mbxCore s m := by
  simp only [mbxCore, hst, hop, ha]

/-- The next command of a core runs (R245): of the mailboxes only its accept code changes. -/
theorem promote_shows (c s) : (promote c s).taken = s.taken ∧
    (∀ m : Fin 4, (promote c s).mbx[m] = { s.mbx[m] with accept := (promote c s).mbx[m].accept }) ∧
    (∀ m : Fin 4, m ∉ s.taken → (promote c s).mbx[m] = s.mbx[m]) ∧
    (∀ m : Fin 4, s.taken.head? = some m → mbxCore s m = c → s.sys.cores.getLsbD c.val = true →
      (promote c s).mbx[m].accept = 1) := by
  unfold promote
  split
  · next h => exact ⟨rfl, fun _ => rfl, fun _ _ => rfl, fun m _ _ hc => by rw [hc] at h; exact absurd h (by decide)⟩
  · split
    · next hnone =>
      refine ⟨rfl, fun _ => rfl, fun _ _ => rfl, fun m hm hcore _ => ?_⟩
      have none := List.find?_eq_none.mp hnone m (List.mem_of_mem_head? hm)
      simp [hcore] at none
    · next n hfind =>
      refine ⟨rfl, fun m => ?_, fun m hm => ?_, fun m hm hcore _ => ?_⟩
      · rw [State.modMbx_mbx]
        split
        · next h => subst h; rfl
        · rfl
      · exact modMbx_other _ _ fun h => hm (h ▸ List.mem_of_find?_eq_some hfind)
      · obtain ⟨rest, htaken⟩ : ∃ rest, s.taken = m :: rest := List.head?_eq_some_iff.mp hm
        rw [htaken, List.find?_cons_of_pos (by simpa using hcore)] at hfind
        obtain rfl : m = n := Option.some.inj hfind
        rw [modMbx_same]

/-- A mailbox with its result, no longer in flight (R246). -/
def posted (n : Fin 4) (a : Answer) (s : State) : State :=
  { s.modMbx n (fun m => { m with state := .ready, code := a.code % 256, res := a.res.take 30, answer := none }) with
    taken := s.taken.filter fun k => k ≠ n }

theorem posted_mbx (n m : Fin 4) (a s) : (posted n a s).mbx[m] =
    if m = n then { s.mbx[n] with state := .ready, code := a.code % 256, res := a.res.take 30, answer := none }
    else s.mbx[m] :=
  State.modMbx_mbx s n m fun m => { m with state := .ready, code := a.code % 256, res := a.res.take 30, answer := none }

theorem post_eq (n a s) : post n a s = promote (mbxCore s n) (posted n a s) := rfl

theorem post_shows (n : Fin 4) (a : Answer) (s : State) : (post n a s).mbx[n].state = .ready ∧
    (post n a s).mbx[n].code = a.code % 256 ∧ (post n a s).mbx[n].res = a.res.take 30 ∧ n ∉ (post n a s).taken ∧
    (∀ m : Fin 4, m ≠ n → (post n a s).mbx[m] = { s.mbx[m] with accept := (post n a s).mbx[m].accept }) ∧
    (∀ m : Fin 4, m ≠ n → m ∉ s.taken → (post n a s).mbx[m] = s.mbx[m]) ∧
    (∀ m : Fin 4, m ≠ n → (s.taken.filter fun k => k ≠ n).head? = some m → mbxCore s m = mbxCore s n →
      s.sys.cores.getLsbD (mbxCore s n).val = true → (post n a s).mbx[m].accept = 1) := by
  obtain ⟨u, hu⟩ : ∃ u, u = posted n a s := ⟨_, rfl⟩
  obtain ⟨htaken, hmbx, hout, hnext⟩ := promote_shows (mbxCore s n) u
  rw [post_eq, ← hu]
  have left : u.taken = s.taken.filter fun k => k ≠ n := by rw [hu]; rfl
  have gone : n ∉ u.taken := by simp [left]
  have own : u.mbx[n] = { s.mbx[n] with state := .ready, code := a.code % 256, res := a.res.take 30, answer := none } := by
    rw [hu, posted_mbx, if_pos rfl]
  have others (m : Fin 4) (h : m ≠ n) : u.mbx[m] = s.mbx[m] := by
    rw [hu, posted_mbx, if_neg h]
  rw [hout n gone, own]
  refine ⟨rfl, rfl, rfl, htaken ▸ gone, fun m hm => ?_, fun m hm hmem => ?_, fun m hm hhead hcore hup => ?_⟩
  · rw [hmbx m, others m hm]
  · rw [hout m fun h => hmem (List.mem_of_mem_filter (left ▸ h)), others m hm]
  · have same : u.sys = s.sys := by rw [hu]; rfl
    refine hnext m (left ▸ hhead) ?_ (same ▸ hup)
    rw [← hcore]
    exact mbxCore_congr (by rw [same]) (by rw [others m hm]) (by rw [others m hm])

theorem post_posts (n a s) : Posts s (post n a s) :=
  Posts.trans (t := posted n a s) rfl (promote_posts _ _)

theorem postLost_taken {n : Fin 4} {s : State} (h : s.mbx[n].state = .taken) : postLost n s = post n { code := 0xFF, res := [] } s := if_pos h

/-! ### Taking a command -/

/-- A mailbox after a taking (R244): refused with its code, or in flight. -/
def Mailbox.tookBy (code : Option Nat) (busy : Bool) (m : Mailbox) : Mailbox := match code with
  | some c => { m with state := .ready, accept := 3, seq := m.seq + 1, code := c % 256, res := [], answer := none }
  | none => { m with state := .taken, accept := if busy then 2 else 1, seq := m.seq + 1, answer := none }

theorem gate_bells (op s l) : gate op { s with bells := l } = gate op s := rfl

/-- The command that a taking serves waits: for an earlier one of its core, or for its core (R245, R251). -/
def behindCore (n : Fin 4) (s : State) : Bool :=
  (s.taken.any fun k => decide (mbxCore s k = mbxCore s n)) || !ownerUp s.mbx[n].opcode.toNat s.mbx[n].args.toList s

theorem take_eq (n s) : take n s = { s.modMbx n (Mailbox.tookBy (gate s.mbx[n].opcode.toNat s) (behindCore n s)) with
    bells := s.bells.drop 1
    taken := if (gate s.mbx[n].opcode.toNat s).isSome then s.taken else s.taken ++ [n] } := by
  unfold take
  dsimp only
  rw [gate_bells]
  split
  · next h => rw [h]; rfl
  · next h => rw [h]; rfl

/-! ### The internal mailboxes -/

theorem perfCount_outside (c code k s) : perfCount c code k s = { s with perf := (perfCount c code k s).perf } := by
  unfold perfCount
  dsimp only
  split <;> rfl

theorem deliverMsg_room {b : CoreBox} (h : b.msgs.length < 8) (m) : deliverMsg m b = { b with msgs := b.msgs ++ [m] } := by
  unfold deliverMsg
  split
  · next hnil => rw [hnil]; rfl
  · exact if_pos h

theorem deliverMsg_full {b : CoreBox} {old rest} (h : b.msgs = old :: rest) (hlen : 7 ≤ rest.length) (m) :
    deliverMsg m b = { msgs := rest ++ [m], collision := true, lostSeqs := b.lostSeqs ++ [old.seq.toNat] } := by
  unfold deliverMsg
  rw [h]
  exact if_neg (by rw [List.length_cons]; omega)

theorem alertRec_outside (key payload cls kind reason inst param s) :
    let t := alertRec (recordKeyed key payload) cls kind reason inst param s
    t = { s with bbx := t.bbx, alr := t.alr, bus := t.bus } := by
  apply State.ext_parts <;> simp

/-- The message as it arrives (R249). -/
def boxMsg (m : IntMsg) (s : State) : BoxMsg := ⟨m.sender, s.sys.boxSeq[m.sender] + 1, hostTag s m.host, m.words⟩

/-- A message in its box, counted by the performance unit (R249, R384). -/
def delivered (dst : Fin 8) (m : IntMsg) (s : State) : State :=
  perfCount dst 0x0E 1 { s.modSys (fun y => { y with boxSeq := y.boxSeq.set m.sender (boxMsg m s).seq }) with
    boxes := s.boxes.set dst (deliverMsg (boxMsg m s) s.boxes[dst]) }

/-- The overwritten message is reported (R249). -/
def reported (dst : Fin 8) (o : BoxMsg) (s : State) : State :=
  perfCount dst 0x0F 1 (alertRec (event .boxCollision [dst.val, o.sender.val, o.seq.toNat]) 3 0xA 7 0xFF 0 s)

theorem delivered_shows (dst m s) : (delivered dst m s).boxes[dst] = deliverMsg (boxMsg m s) s.boxes[dst] ∧
    (∀ c : Fin 8, c ≠ dst → (delivered dst m s).boxes[c] = s.boxes[c]) ∧
    (delivered dst m s).sys = { s.sys with boxSeq := s.sys.boxSeq.set m.sender (boxMsg m s).seq } ∧
    delivered dst m s = { s with
      boxes := (delivered dst m s).boxes, sys := (delivered dst m s).sys, perf := (delivered dst m s).perf } := by
  unfold delivered
  rw [perfCount_outside]
  refine ⟨?_, fun c hc => ?_, rfl, rfl⟩
  · rw [getElem_set_fin, if_pos rfl]
  · rw [getElem_set_fin, if_neg hc]

theorem reported_outside (dst o s) : reported dst o s = { s with
    bbx := (reported dst o s).bbx, alr := (reported dst o s).alr, bus := (reported dst o s).bus
    perf := (reported dst o s).perf } := by
  unfold reported
  rw [perfCount_outside]
  have told := alertRec_outside (0x0D, EvCode.boxCollision.num, 0)
    (word EvCode.boxCollision.num :: [(dst.val : Int), o.sender.val, o.seq.toNat].map fun p => BitVec.ofInt 16 p) 3 0xA 7 0xFF 0 s
  change (let t := alertRec (event .boxCollision [dst.val, o.sender.val, o.seq.toNat]) 3 0xA 7 0xFF 0 s
    t = { s with bbx := t.bbx, alr := t.alr, bus := t.bus }) at told
  generalize alertRec (event .boxCollision [dst.val, o.sender.val, o.seq.toNat]) 3 0xA 7 0xFF 0 s = t at told ⊢
  dsimp only at told
  rw [told]

theorem tagged_congr {s t : State} (h : t.mbx = s.mbx) (tag) : tagged t tag = tagged s tag := by
  simp only [tagged]
  congr
  funext n
  rw [hostTag, hostTag, h]

theorem internal_runs {s m} (hp : s.powered = true) (hc : s.sys.cores.getLsbD m.sender.val = true) {dst : Fin 8} :
    exec (.internalMailboxMessage dst m) s = .next (if islandOff s dst then
        perfCount m.sender 0x10 1 (s.modSys fun y => { y with accessFault := y.accessFault ++ [(m.sender.val, dst.val)] })
      else match overwritten s.boxes[dst] with
        | none => delivered dst m s
        | some o => match tagged (reported dst o (delivered dst m s)) o.tag with
          | none => reported dst o (delivered dst m s)
          | some n => postLost n (reported dst o (delivered dst m s))) := by
  show execInternalMailboxMessage dst m s = _
  unfold execInternalMailboxMessage
  rw [hp, hc, if_neg (by decide)]
  by_cases off : islandOff s dst = true
  · rw [if_pos off, if_pos off]
  · rw [if_neg off, if_neg off]
    rfl

/-- Settles O29, event by event. -/
theorem mailboxesGoThroughTheirStates : Obligations.MailboxesGoThroughTheirStates := by
  unfold Obligations.MailboxesGoThroughTheirStates
  refine ⟨fun n s hp => ⟨fun op args he => ?_, fun op args he => ?_, fun hst hup hb hs => ?_, fun hacc => ?_,
    fun a hst hup hs hacc ha => ?_, fun hs => ?_, fun hs => ?_, fun k hs => ?_⟩,
    fun dst m s hp hc => ⟨fun h4 hoff => ?_, fun hon => ⟨fun hlen => ?_, fun old rest hmsgs hlen => ?_⟩⟩⟩
  · refine ⟨ring n op (s.modMbx n (setArgs args)), ?_, ?_⟩
    · show execDoorbell n op args s = _
      rw [execDoorbell, hp, decide_eq_true he]
      rfl
    · have empty : (s.modMbx n (setArgs args)).mbx[n].state = .empty := by
        rw [modMbx_same]
        exact he
      have rung : ring n op (s.modMbx n (setArgs args)) = { (s.modMbx n (setArgs args)).modMbx n (fun m =>
          { m with state := .pending, accept := 0, opcode := op }) with bells := s.bells ++ [n] } := if_pos empty
      rw [rung]
      refine ⟨?_, ?_, ?_, rfl, fun k => ?_, fun m hm => ?_, rfl⟩
      · rw [modMbx_same]
      · rw [modMbx_same]
      · rw [modMbx_same]
      · rw [modMbx_same, modMbx_same]
        exact vec_get ..
      · rw [modMbx_other _ _ hm, modMbx_other _ _ hm]
  · show execDoorbell n op args s = _
    rw [execDoorbell, decide_eq_false he, Bool.and_false]
    rfl
  · have run : exec (.commandTake n) s = .next (take n (newPeriod s)) := by
      show execCommandTake n s = _
      rw [execCommandTake, hp, decide_eq_true hst, hup, decide_eq_true hb, decide_eq_true hs]
      rfl
    refine ⟨_, run, ?_⟩
    have took : (take n (newPeriod s)).mbx[n] =
        s.mbx[n].tookBy (gate s.mbx[n].opcode.toNat (newPeriod s)) (behindCore n s) := by
      rw [take_eq]
      exact modMbx_same ..
    have inFlight : (take n (newPeriod s)).taken =
        if (gate s.mbx[n].opcode.toNat (newPeriod s)).isSome then s.taken else s.taken ++ [n] := by rw [take_eq]; rfl
    rw [took, inFlight]
    refine ⟨?_, by rw [take_eq]; rfl, fun code hgate => ?_, fun hgate => ?_, fun m hm => ?_, ?_⟩
    · unfold Mailbox.tookBy
      split <;> rfl
    · rw [hgate]
      exact ⟨rfl, rfl, rfl, rfl⟩
    · rw [hgate]
      exact ⟨rfl, rfl, rfl⟩
    · rw [take_eq]
      exact modMbx_other _ _ hm
    · rw [take_eq]
      rfl
  · have queued : decide (s.mbx[n].state = .taken ∧ s.mbx[n].accept ≠ 2) = false :=
      decide_eq_false fun ⟨_, h⟩ => h hacc
    show execResultPost n s = _
    unfold execResultPost
    split
    · rfl
    · rw [queued, Bool.and_false]
      rfl
  · obtain ⟨hstate, hcode, hres, hgone, hothers, hout, hnext⟩ := post_shows n a s
    refine ⟨post n a s, ?_, hstate, hcode, hres, hgone, hothers, hout, hnext, post_posts n a s⟩
    show execResultPost n s = _
    rw [execResultPost, ha]
    dsimp only
    rw [hp, decide_eq_true hst, hup, decide_eq_true ⟨hs, hacc⟩]
    rfl
  · refine ⟨s.modMbx n fun m => { m with state := .empty, accept := 0, code := 0, res := [] }, ?_, modMbx_same ..,
      fun m hm => modMbx_other _ _ hm, rfl⟩
    show execMbxRelease n s = _
    rw [execMbxRelease, hp, release, if_pos rfl, if_pos hs]
  · show execMbxRelease n s = _
    rw [execMbxRelease, hp, release, if_pos rfl, if_neg hs]
  · refine ⟨s.modMbx n fun m => { m with early := true }, ?_, modMbx_same .., fun m hm => modMbx_other _ _ hm, rfl⟩
    show execEarlyRead n k s = _
    rw [execEarlyRead, hp, readEarly, if_pos rfl, if_neg hs]
  · have off : islandOff s dst = true := by simp [islandOff, h4, hoff]
    refine ⟨_, (internal_runs hp hc).trans (congrArg _ (if_pos off)), ?_⟩
    rw [perfCount_outside]
    rfl
  · have up : islandOff s dst = false := by simpa [islandOff] using hon
    have room : overwritten s.boxes[dst] = none := if_pos hlen
    obtain ⟨hbox, hothers, hsys, hrest⟩ := delivered_shows dst m s
    refine ⟨delivered dst m s, (internal_runs hp hc).trans ?_, ?_, hothers, hsys, hrest⟩
    · rw [up, room]
      rfl
    · rw [hbox, deliverMsg_room hlen]
      rfl
  · have up : islandOff s dst = false := by simpa [islandOff] using hon
    have full : overwritten s.boxes[dst] = some old := by
      rw [overwritten, hmsgs]
      exact if_neg (by rw [List.length_cons]; omega)
    obtain ⟨hbox, hothers, -, hrest⟩ := delivered_shows dst m s
    rw [deliverMsg_full hmsgs hlen] at hbox
    have told := reported_outside dst old (delivered dst m s)
    obtain ⟨v, hv⟩ : ∃ v, v = reported dst old (delivered dst m s) := ⟨_, rfl⟩
    have boxes : v.boxes = (delivered dst m s).boxes := by rw [hv, told]
    have mbx : v.mbx = s.mbx := by
      rw [hv, told]
      change (delivered dst m s).mbx = _
      rw [hrest]
    have tag : tagged v old.tag = tagged s old.tag := tagged_congr mbx _
    have run := internal_runs hp hc (dst := dst)
    rw [up, full, if_neg (by decide)] at run
    dsimp only at run
    rw [← hv, tag] at run
    cases hn : tagged s old.tag with
    | none =>
      rw [hn] at run
      refine ⟨v, run, by rw [boxes, hbox]; rfl, by rw [boxes, hbox], by rw [boxes, hbox], fun c hne => ?_, fun _ => ⟨mbx, ?_⟩,
        fun n hsome => absurd hsome nofun⟩
      · rw [boxes]
        exact hothers c hne
      · rw [← hv] at told
        rw [told]
        generalize delivered dst m s = u at hrest ⊢
        rw [hrest]
    | some n =>
      rw [hn] at run
      have kept : (postLost n v).boxes = v.boxes := by
        have posts := postLost_posts n v
        unfold Posts at posts
        rw [posts]
      refine ⟨postLost n v, run, by rw [kept, boxes, hbox]; rfl, by rw [kept, boxes, hbox], by rw [kept, boxes, hbox],
        fun c hne => ?_, nofun, fun k hk hst => ?_⟩
      · rw [kept, boxes]
        exact hothers c hne
      · obtain rfl : n = k := Option.some.inj hk
        rw [postLost_taken (by rw [mbx]; exact hst)]
        obtain ⟨hstate, hcode, -⟩ := post_shows n { code := 0xFF, res := [] } v
        exact ⟨hstate, hcode⟩

end Sys2Proof.Machine
end

/-! ## SPI frames, and the latches of a bus -/

section
open Sys2Proof.Claims

namespace Sys2Proof.Machine

/-! ### Latches -/

/-- An address below every latch is not latched. -/
theorem latchGet_below : ∀ {l : Latches} {lo k : Nat}, latchWf lo l = true → k < lo → latchGet l k = 0
  | [], _, _, _, _ => rfl
  | (a, w) :: l, lo, k, h, hk => by
    simp only [latchWf, Bool.and_eq_true, decide_eq_true_eq] at h
    obtain ⟨⟨hlo, -⟩, hl⟩ := h
    rw [latchGet, if_neg (by omega)]
    exact latchGet_below hl (by omega)

theorem latchWf_mono : ∀ {l : Latches} {lo lo' : Nat}, latchWf lo l = true → lo' ≤ lo → latchWf lo' l = true
  | [], _, _, _, _ => rfl
  | (a, w) :: l, lo, lo', h, hle => by
    simp only [latchWf, Bool.and_eq_true, decide_eq_true_eq] at h ⊢
    exact ⟨⟨by omega, h.1.2⟩, h.2⟩

/-- A word latched keeps the canonical form and reads back, and every other latch reads as before. -/
theorem latchSet_spec : ∀ {l : Latches} {lo k : Nat}, latchWf lo l = true → lo ≤ k → ∀ v : Word,
    latchWf lo (latchSet l k v) = true ∧ ∀ j, latchGet (latchSet l k v) j = if j = k then v else latchGet l j
  | [], lo, k, _, hk, v => by
    by_cases hv : v = 0
    · rw [latchSet, if_pos hv, hv]
      exact ⟨rfl, fun j => (ite_self _).symm⟩
    · rw [latchSet, if_neg hv]
      refine ⟨?_, fun j => ?_⟩
      · simp only [latchWf, Bool.and_eq_true, decide_eq_true_eq]
        exact ⟨⟨hk, hv⟩, trivial⟩
      · rw [latchGet, latchGet]
        simp only [eq_comm]
        rfl
  | (a, w) :: l, lo, k, h, hk, v => by
    have h₀ := h
    simp only [latchWf, Bool.and_eq_true, decide_eq_true_eq] at h
    obtain ⟨⟨hlo, hw⟩, hl⟩ := h
    by_cases hlt : k < a
    · have below : latchGet l k = 0 := latchGet_below hl (by omega)
      have not : latchGet ((a, w) :: l) k = 0 := by rw [latchGet, if_neg (by omega), below]
      by_cases hv : v = 0
      · rw [latchSet, if_pos hlt, if_pos hv, hv]
        refine ⟨h₀, fun j => ?_⟩
        split
        · next hj => rw [hj, not]
        · rfl
      · rw [latchSet, if_pos hlt, if_neg hv]
        refine ⟨?_, fun j => ?_⟩
        · simp only [latchWf, Bool.and_eq_true, decide_eq_true_eq]
          exact ⟨⟨hk, hv⟩, ⟨hlt, hw⟩, hl⟩
        · rw [latchGet]
          simp only [eq_comm]
    · by_cases he : k = a
      · subst he
        have below : latchGet l k = 0 := latchGet_below hl (by omega)
        by_cases hv : v = 0
        · rw [latchSet, if_neg hlt, if_pos rfl, if_pos hv]
          refine ⟨latchWf_mono hl (by omega), fun j => ?_⟩
          split
          · next hj => rw [hj, below, hv]
          · next hj => rw [latchGet, if_neg fun e => hj e.symm]
        · rw [latchSet, if_neg hlt, if_pos rfl, if_neg hv]
          refine ⟨?_, fun j => ?_⟩
          · simp only [latchWf, Bool.and_eq_true, decide_eq_true_eq]
            exact ⟨⟨hlo, hv⟩, hl⟩
          · rw [latchGet, latchGet]
            split
            · next hj => rw [if_pos hj.symm]
            · next hj => rw [if_neg fun e => hj e.symm]
      · obtain ⟨wf, get⟩ := latchSet_spec hl (show a + 1 ≤ k by omega) v
        rw [latchSet, if_neg hlt, if_neg he]
        refine ⟨?_, fun j => ?_⟩
        · simp only [latchWf, Bool.and_eq_true, decide_eq_true_eq]
          exact ⟨⟨hlo, hw⟩, wf⟩
        · rw [latchGet, latchGet, get j]
          by_cases hj : a = j
          · rw [if_pos hj, if_neg (by omega), if_pos hj]
          · rw [if_neg hj, if_neg hj]

/-! ### A counter on a bus -/

theorem wordOf_natCast (n k : Nat) : wordOf n k = word (n / 2 ^ (16 * k)) := by
  have nat : (n : Int) / 2 ^ (16 * k) = ((n / 2 ^ (16 * k) : Nat) : Int) := by simp
  rw [wordOf, nat, BitVec.ofInt_natCast]
  rfl

theorem words_of_counter (n : Nat) : wordsOf 4 n = [wordOf n 0, wordOf n 1, wordOf n 2, wordOf n 3] := by
  simp only [wordOf_natCast, wordsOf, Nat.div_div_eq_div_mul, Nat.mul_zero, Nat.pow_zero, Nat.div_one, Nat.reduceMul,
    Nat.reducePow]

/-- Word `k` of counter `i` among the host registers (R194). -/
theorem hostReg_counter {s : State} (h : s.mtr.restored = true) (i : Fin 235) (k : Fin 4) :
    hostReg s (0x400 + 4 * i.val + k.val) = wordOf (mtrCtr s i.val).val.toNat k.val := by
  have live : hostReg s (0x400 + 4 * i.val + k.val) = mtrReg s (4 * i.val + k.val) := by
    unfold hostReg live
    rw [if_neg (by omega), if_neg (by omega), if_neg (by omega), if_neg (by omega), if_neg (by omega), if_neg (by omega),
      if_neg (by omega), if_neg (by omega), if_neg (by omega), if_neg (by omega), if_neg (by omega), if_neg (by omega),
      if_neg (by omega), if_pos (by omega)]
    exact congrArg (mtrReg s) (by omega)
  have word : mtrReg s (4 * i.val + k.val) =
      ctrWord s (mtrCtr s ((4 * i.val + k.val) / 4)) ((4 * i.val + k.val) % 4) := if_pos (by omega)
  rw [live, word, ctrWord, h, if_pos rfl, show (4 * i.val + k.val) / 4 = i.val by omega,
    show (4 * i.val + k.val) % 4 = k.val by omega]

theorem rsGroup_counter (i : Fin 235) (k : Fin 4) : rsGroup (0x400 + 4 * i.val + k.val) = some (0x400 + 4 * i.val, 4) := by
  unfold rsGroup
  rw [if_neg (by omega), if_neg (by omega), if_neg (by omega), if_neg (by omega), if_neg (by omega), if_neg (by omega),
    if_pos (by omega)]
  rw [show (0x400 + 4 * i.val + k.val) / 4 * 4 = 0x400 + 4 * i.val by omega]

theorem resAddr_high {a : Nat} (h : 0x200 ≤ a) : resAddr a = none := if_neg (by omega)

/-- The latches of a bus once word 0 of counter `i` is read (R184). -/
def counterLatches (i : Fin 235) (s : State) (l : Latches) : Latches := latchGroup s (0x400 + 4 * i.val) 4 l

theorem counterLatches_get {s : State} (h : s.mtr.restored = true) (i : Fin 235) {l : Latches} (hl : latchWf 0 l = true)
    {k : Fin 4} (hk : k.val ≠ 0) :
    latchGet (counterLatches i s l) (0x400 + 4 * i.val + k.val) = wordOf (mtrCtr s i.val).val.toNat k.val := by
  have w (k : Fin 4) := hostReg_counter h i k
  obtain ⟨wf₃, get₃⟩ := latchSet_spec hl (Nat.zero_le (0x400 + 4 * i.val + 3)) (hostReg s (0x400 + 4 * i.val + 3))
  obtain ⟨wf₂, get₂⟩ := latchSet_spec wf₃ (Nat.zero_le (0x400 + 4 * i.val + 2)) (hostReg s (0x400 + 4 * i.val + 2))
  obtain ⟨-, get₁⟩ := latchSet_spec wf₂ (Nat.zero_le (0x400 + 4 * i.val + 1)) (hostReg s (0x400 + 4 * i.val + 1))
  refine (get₁ _).trans ?_
  rw [get₂, get₃, ← w k]
  split
  · next e => rw [e]
  · split
    · next e => rw [e]
    · split
      · next e => rw [e]
      · omega

theorem regRead_base {s : State} (h : latchByp s = false) (b : BusId) (i : Fin 235) :
    regRead b (0x400 + 4 * i.val) s =
      (hostReg s (0x400 + 4 * i.val), setLatches b (counterLatches i s (latches b s)) s) := by
  have group := rsGroup_counter i 0
  rw [show ((0 : Fin 4).val) = 0 from rfl, Nat.add_zero] at group
  unfold regRead
  rw [group]
  dsimp only
  rw [h, if_neg (by simp), if_pos rfl]
  rfl

theorem regRead_latched {s : State} (h : latchByp s = false) (b : BusId) (i : Fin 235) {k : Fin 4} (hk : k.val ≠ 0) :
    regRead b (0x400 + 4 * i.val + k.val) s = (latchGet (latches b s) (0x400 + 4 * i.val + k.val), s) := by
  unfold regRead
  rw [rsGroup_counter]
  dsimp only
  rw [h, if_neg (by simp), if_neg (by omega)]

theorem nextAddr_counter (i : Fin 235) {k : Nat} (hk : k ≤ 2) :
    nextAddr false (0x400 + 4 * i.val + k) = 0x400 + 4 * i.val + (k + 1) := by
  rw [nextAddr, if_neg (by decide)]
  omega

/-- The four words of a counter in one frame (R184, R214). -/
theorem readRun_counter {s : State} (hr : s.mtr.restored = true) (hb : latchByp s = false)
    (hl : latchWf 0 s.bus.latchSpi = true) (i : Fin 235) : readRun .spi false 4 (0x400 + 4 * i.val) s =
      (wordsOf 4 (mtrCtr s i.val).val.toNat, setLatches .spi (counterLatches i s s.bus.latchSpi) s) := by
  have word (k : Nat) (hk : 1 ≤ k) (hk' : k ≤ 3) :
      regRead .spi (0x400 + 4 * i.val + k) (setLatches .spi (counterLatches i s s.bus.latchSpi) s) =
        (wordOf (mtrCtr s i.val).val.toNat k, setLatches .spi (counterLatches i s s.bus.latchSpi) s) := by
    have byp : latchByp (setLatches .spi (counterLatches i s s.bus.latchSpi) s) = false := hb
    have hk₀ : (⟨k, by omega⟩ : Fin 4).val ≠ 0 := Nat.ne_of_gt hk
    refine (regRead_latched byp .spi i hk₀).trans ?_
    exact congrArg (·, setLatches .spi (counterLatches i s s.bus.latchSpi) s) (counterLatches_get hr i hl hk₀)
  have first : regRead .spi (0x400 + 4 * i.val) s =
      (wordOf (mtrCtr s i.val).val.toNat 0, setLatches .spi (counterLatches i s s.bus.latchSpi) s) := by
    rw [regRead_base hb]
    exact congrArg (·, setLatches .spi (counterLatches i s s.bus.latchSpi) s) (hostReg_counter hr i 0)
  have next₀ : nextAddr false (0x400 + 4 * i.val) = 0x400 + 4 * i.val + 1 := nextAddr_counter i (k := 0) (by decide)
  rw [words_of_counter]
  simp only [readRun, first, next₀, word 1 (by decide) (by decide), nextAddr_counter i (k := 1) (by decide), word 2 (by decide) (by decide),
    nextAddr_counter i (k := 2) (by decide), word 3 (by decide) (by decide)]

/-! ### Write frames -/

theorem spiWrite_runs {s h ws c whole code} (hp : s.powered = true) (hcode : spiWriteCode h ws c whole s = code) :
    exec (.spiWriteFrame h ws c whole) s = .next (spiResult code (spiStatus s)
      (if code = 0 then applyWords (hdrFix h) (addressed (hdrFix h) (hdrAddr h) ws) s else s)) := by
  show execSpiWriteFrame h ws c whole s = _
  rw [execSpiWriteFrame, hp, hcode]
  rfl

/-- A write frame that is whole and well formed, but for its length and its check (R221). -/
theorem spiWriteCode_formed {s : State} {h : Word} {ws : List Word} {c : Option Byte} (hok : hdrOk h = true)
    (hrd : h.getLsbD 15 = false) (hne : ws ≠ []) (hc : c.isSome = s.bus.spiCrc) : spiWriteCode h ws c true s =
      if 64 < ws.length then 4
      else if c.isSome && decide (c ≠ some (crc8 ((h :: ws).flatMap bytesHL))) then 1
      else if hitsFull (addressed (hdrFix h) (hdrAddr h) ws) s then 2
      else 0 := by
  have formed : (!true || !hdrOk h || h.getLsbD 15 || ws.isEmpty || decide (c.isSome ≠ s.bus.spiCrc)) = false := by
    simp [hok, show h[15] = false from hrd, hne, hc]
  rw [spiWriteCode, formed, if_neg (by decide)]

/-! ### Read frames -/

theorem spiRead_runs {s h k r} (hp : s.powered = true) (hok : hdrOk h = true) (hrd : h.getLsbD 15 = true)
    (hread : readAccess .spi (hdrFix h) (k + 1) (hdrAddr h) s = r) : exec (.spiReadFrame h (k + 1)) s =
      .next ((spiResult 0 (spiStatus s) r.2).modBus fun b =>
        { b with outSpi := r.1, outChecks := if s.bus.spiCrc then checks (bytesHL h) r.1 else [] }) := by
  have ok : (hdrOk h && h.getLsbD 15 && decide (k + 1 ≠ 0)) = true := by rw [hok, hrd]; rfl
  show execSpiReadFrame h (k + 1) s = _
  rw [execSpiReadFrame, hp, ok, hread]
  rfl

/-- The header that reads from a counter (R220). -/
theorem counterHeader (i : Fin 235) : let h := word (0x8400 + 4 * i.val)
    hdrOk h = true ∧ h.getLsbD 15 = true ∧ hdrFix h = false ∧ hdrAddr h = 0x400 + 4 * i.val := by
  intro h
  have value : h.toNat = 0x8400 + 4 * i.val := by
    rw [show h = word (0x8400 + 4 * i.val) from rfl, word, BitVec.toNat_ofNat]
    omega
  have bit (k : Nat) : h.getLsbD k = decide (h.toNat / 2 ^ k % 2 = 1) := by
    rw [BitVec.getLsbD, Nat.testBit_eq_decide_div_mod_eq]
  refine ⟨decide_eq_true ?_, ?_, ?_, ?_⟩
  · unfold field
    omega
  · rw [bit, decide_eq_true]
    omega
  · rw [hdrFix, bit, decide_eq_false]
    omega
  · unfold hdrAddr field
    omega

/-- Settles O31, clause by clause. -/
theorem spiWritesWholeAndReadsConsistently : Obligations.SpiWritesWholeAndReadsConsistently := by
  unfold Obligations.SpiWritesWholeAndReadsConsistently
  refine ⟨fun w s hp => ⟨fun hcrc => ?_, fun h ws c hok hrd hne hlen hc hfull => ?_, fun h ws c hcrc hok hrd hne hlen hc => ?_,
    fun h ws hcrc hok hrd hlen => ?_, fun h ws hcrc hok hrd hne hlen hfull => ?_, fun h ws c => ?_⟩,
    fun i s hp hr hb hl => ⟨?_, ?_⟩⟩
  · have code : spiWriteCode 0x0032 [w] none true s = 0 := by
      rw [spiWriteCode_formed (c := none) (by decide) (by decide) (by simp) (by rw [hcrc]; rfl)]
      rfl
    exact ⟨_, spiWrite_runs hp code, rfl, rfl, rfl, rfl, rfl⟩
  · refine ⟨_, spiWrite_runs hp (code := 0) ?_, rfl⟩
    have crc : (c.isSome && decide (c ≠ some (crc8 ((h :: ws).flatMap bytesHL)))) = false := by
      rw [hc]
      cases s.bus.spiCrc <;> simp
    rw [spiWriteCode_formed hok hrd hne (by rw [hc]; cases s.bus.spiCrc <;> rfl), if_neg (by omega), crc, hfull]
    rfl
  · refine ⟨_, spiWrite_runs hp (code := 1) ?_, rfl, rfl, rfl⟩
    rw [spiWriteCode_formed hok hrd hne (by rw [hcrc]; rfl), if_neg (by omega), decide_eq_true (show some c ≠ _ from fun e => hc (Option.some.inj e))]
    rfl
  · refine ⟨_, spiWrite_runs hp (code := 4) ?_, rfl, rfl⟩
    rw [spiWriteCode_formed hok hrd (List.ne_nil_of_length_pos (Nat.zero_lt_of_lt hlen)) (by rw [hcrc]; rfl), if_pos hlen]
  · refine ⟨_, spiWrite_runs hp (code := 2) ?_, rfl, rfl⟩
    rw [spiWriteCode_formed hok hrd hne (by rw [hcrc]; rfl), if_neg (by omega), hfull]
    rfl
  · exact ⟨_, spiWrite_runs hp (code := 3) rfl, rfl, rfl⟩
  · obtain ⟨hok, hrd, hfix, haddr⟩ := counterHeader i
    have early : firstRes false 4 (0x400 + 4 * i.val) = none := by
      have next₀ : nextAddr false (0x400 + 4 * i.val) = 0x400 + 4 * i.val + 1 := nextAddr_counter i (k := 0) (by decide)
      have high (k : Nat) : resAddr (0x400 + 4 * i.val + k) = none := resAddr_high (by omega)
      simp only [firstRes, next₀, nextAddr_counter i (k := 1) (by decide), nextAddr_counter i (k := 2) (by decide),
        resAddr_high (show 0x200 ≤ 0x400 + 4 * i.val by omega), high]
      rfl
    have read : readAccess .spi false 4 (0x400 + 4 * i.val) s =
        (wordsOf 4 (mtrCtr s i.val).val.toNat, setLatches .spi (counterLatches i s s.bus.latchSpi) s) := by
      rw [readAccess, early, readRun_counter hr hb hl]
      rfl
    refine ⟨_, spiRead_runs hp hok hrd (by rw [hfix, haddr, read]), ?_, rfl, rfl, rfl, rfl⟩
    exact natOf_wordsOf_toNat _ (by decide)
  · have run : exec (.snapshotRead .spi (0x400 + 4 * i.val)) s =
        .next (setLatches .spi (counterLatches i s s.bus.latchSpi) s) := by
      show execSnapshotRead .spi (0x400 + 4 * i.val) s = _
      rw [execSnapshotRead, hp, decide_eq_true (by omega), regRead_base hb]
      rfl
    refine ⟨_, run, rfl, fun k u hk hlat hbyp => ?_⟩
    rw [regRead_latched hbyp .spi i hk]
    refine Eq.trans ?_ (counterLatches_get hr i hl hk)
    exact congrArg (latchGet · _) hlat

end Sys2Proof.Machine
end

/-! ## The two-wire bus, its alert response, and the module as controller -/

section
open Sys2Proof.Claims

namespace Sys2Proof.Machine

/-! ### Transfers to the module -/

/-- A target is addressed again: the bus is no longer ignored (R229). -/
def heeded (s : State) : State := { s with bus := { s.bus with twIgnore := false } }

theorem isTarget_of {s : State} (hp : s.powered = true) (hd : s.bp.addrDup = false) : isTarget s = true := by
  rw [isTarget, hp, hd]
  rfl

theorem twWrite_runs {s p ws pec ending code} (ht : isTarget s = true) (hcode : twWriteCode p ws pec ending (heeded s) = code) :
    exec (.writeTransfer p ws pec ending) s = .next ((twResult code (if code = 0 then
        leavePointer (hdrFix p) (hdrAddr p) ws.length
          (applyWords (hdrFix p) (addressed (hdrFix p) (hdrAddr p) ws) (heeded s))
      else heeded s)).modBus fun b =>
        { b with outNack := decide ((code = 2 ∧ ending.late = false) ∨ code = 4) }) := by
  show execWriteTransfer p ws pec ending s = _
  rw [execWriteTransfer, ht, ← hcode]
  rfl

/-- A write transfer that ends well (R213, R226). -/
theorem twWrite_ok {s p ws pec ending} (ht : isTarget s = true) (hcode : twWriteCode p ws pec ending (heeded s) = 0) {u}
    (hu : applyWords (hdrFix p) (addressed (hdrFix p) (hdrAddr p) ws) (heeded s) = u) :
    exec (.writeTransfer p ws pec ending) s = .next { u with bus := { u.bus with
      twLast := 0, outNack := false, pointerFix := hdrFix p, pointer := endAddr (hdrFix p) (hdrAddr p) ws.length } } := by
  rw [twWrite_runs ht hcode, if_pos rfl, hu]
  rfl

/-- A write transfer that writes nothing (R216). -/
theorem twWrite_refused {s p ws pec ending code} (ht : isTarget s = true) (h : code ≠ 0)
    (hcode : twWriteCode p ws pec ending (heeded s) = code) :
    exec (.writeTransfer p ws pec ending) s = .next ((twResult code (heeded s)).modBus fun b =>
      { b with outNack := decide ((code = 2 ∧ ending.late = false) ∨ code = 4) }) := by
  rw [twWrite_runs ht hcode, if_neg h]

/-- The code of a transfer of whole words, none of them for a mailbox that is full (R217, R226 to R228). -/
theorem twWriteCode_whole {s : State} {p : Word} {ws : List Word} {pec : Option Byte} {late : Bool} (hok : ptrOk p = true)
    (hlen : ws.length ≤ 64) (hpec : pec.isSome = true → s.bus.twPec = true)
    (hfull : hitsFull (addressed (hdrFix p) (hdrAddr p) ws) s = false) : twWriteCode p ws pec ⟨true, late⟩ s =
      if ws.isEmpty && pec.isNone then 0
      else if pec.isSome ≠ s.bus.twPec then 3
      else if pec.isSome && decide (pec ≠ some (crc8 (twByte s false :: (p :: ws).flatMap bytesHL))) then 1
      else 0 := by
  have whole : halfWord pec ⟨true, late⟩ s.bus.twPec = false := by
    cases hb : pec.isSome
    · simp [halfWord, hb]
    · simp [halfWord, hb, hpec hb]
  have short : overlong ws pec ⟨true, late⟩ s.bus.twPec = false := by
    rw [overlong, whole, decide_eq_false (by omega), Bool.and_false]
    rfl
  have begins : begun ws (!false) = ws := List.take_of_length_le hlen
  simp only [twWriteCode, whole, short, begins, hfull, hok]
  simp

/-- The first bytes of a read transfer (R226). -/
def readHead (p : Option Word) (s : State) : List Byte := (match p with
  | some p => twByte s false :: bytesHL p
  | none => []) ++ [twByte s true]

theorem leaveRead_eq (fix a count l) (r : List Word × State) :
    ((twResult 0 (leavePointer fix a count r.2)).modBus fun b => { b with outTw := r.1, outChecks := l }) =
      { r.2 with bus := { r.2.bus with
        twLast := 0, pointerFix := fix, pointer := endAddr fix a count, outTw := r.1, outChecks := l } } := rfl

theorem twRead_runs {s p count} (ht : isTarget s = true) (hok : p.all ptrOk = true) {fix a r}
    (hfix : (p.map hdrFix).getD s.bus.pointerFix = fix) (ha : (p.map hdrAddr).getD s.bus.pointer = a)
    (hr : readAccess .twoWire fix count a (heeded s) = r) : exec (.readTransfer p count) s =
      .next { r.2 with bus := { r.2.bus with
        twLast := 0, pointerFix := fix, pointer := endAddr fix a count, outTw := r.1
        outChecks := if s.bus.twPec then checks (readHead p s) r.1 else [] } } := by
  subst hfix ha hr
  rw [← leaveRead_eq]
  show execReadTransfer p count s = _
  rw [execReadTransfer, ht, hok]
  cases p <;> rfl

/-- One word to the site cap (R322). -/
theorem applyWords_cap (w : Word) (s : State) : applyWords false [(0x32, w)] s = { s with bp := { s.bp with cap := w.toNat } } := rfl

theorem endAddr_zero (p : Word) : endAddr (hdrFix p) (hdrAddr p) 0 = hdrAddr p := by
  have small : hdrAddr p < 4096 := Nat.mod_lt _ (by decide)
  unfold endAddr
  split
  · rfl
  · exact Nat.mod_eq_of_lt small

theorem applyWords_nil (fix : Bool) (s : State) : applyWords fix [] s = s := by
  cases fix <;> rfl

/-- A read of one word that no group latches and no mailbox gives. -/
theorem readAccess_plain {a : Nat} {s : State} (hg : rsGroup a = none) (hm : resAddr a = none) (b : BusId) :
    readAccess b false 1 a s = ([hostReg s a], s) := by
  have read : regRead b a s = (hostReg s a, s) := by
    rw [regRead, hg]
    simp only [hm]
  rw [readAccess, firstRes, hm, readRun, read]
  rfl

theorem hostReg_id (s) : hostReg s 0 = 0x5120 := rfl
theorem hostReg_cap (s) : hostReg s 0x32 = word s.bp.cap := rfl

/-! ### The alert response -/

theorem lineLevel_eq (b : Bus) :
    b.lineLevel = { b with level := if b.alertOut || b.alertOther then b.level else 0 } := by
  unfold Bus.lineLevel
  split <;> rfl

/-- The bus as an alert response read finds it (R232). -/
def calledBus (s : State) (other : Bool) : Bus := ({ s.bus with alertOther := other } : Bus).lineLevel

/-- The module would answer an alert response read (R231, R232, R310). -/
def answersAra (s : State) (other : Bool) : Bool := eligible { s with bus := calledBus s other } && !s.bp.addrDup

theorem calledBus_eq (s other) : calledBus s other = { s.bus with
    alertOther := other, level := if s.bus.alertOut || other then s.bus.level else 0 } := lineLevel_eq _

theorem answersAra_eq {s : State} {a other} (h : headAlert s.alr.queue = some a) : answersAra s other =
    (s.bus.alertOut && decide (a.cls ≤ (calledBus s other).level) && !s.bp.addrDup) := by
  have out : (calledBus s other).alertOut = s.bus.alertOut := by rw [calledBus_eq]
  rw [answersAra, eligible]
  simp only [h, out]

/-- A module that answers and wins lets go of ALERT# (R231). -/
theorem ara_answers {s : State} {other answered won : Bool} (hp : s.powered = true)
    (h : (answersAra s other && (!answered || won)) = true) : exec (.alertResponseRead ⟨other, answered⟩ won) s = .next { s with
      bus := ({ calledBus s other with
        ara := some (twByte s false), alertOut := false, repull := true, level := 0, twIgnore := false } : Bus).lineLevel } := by
  show execAlertResponseRead ⟨other, answered⟩ won s = _
  rw [execAlertResponseRead, hp]
  exact congrArg Host.Outcome.next (congrArg (fun b => { s with bus := Bus.lineLevel b }) (if_pos h))

/-- One that does not only observes the level (R232). -/
theorem ara_silent {s : State} {other answered won : Bool} (hp : s.powered = true)
    (h : (answersAra s other && (!answered || won)) = false) : exec (.alertResponseRead ⟨other, answered⟩ won) s = .next { s with
      bus := { s.bus with
        alertOther := other, ara := none
        level := if s.bus.alertOut || other then
          (if answersAra s other || answered then 0 else min 3 (s.bus.level + 1)) else 0 } } := by
  have run : exec (.alertResponseRead ⟨other, answered⟩ won) s = .next { s with bus := ({ calledBus s other with
      ara := none
      level := if answersAra s other || answered then 0 else min 3 ((calledBus s other).level + 1) } : Bus).lineLevel } := by
    show execAlertResponseRead ⟨other, answered⟩ won s = _
    rw [execAlertResponseRead, hp]
    exact congrArg Host.Outcome.next (congrArg (fun b => { s with bus := Bus.lineLevel b }) (if_neg (Bool.eq_false_iff.mp h)))
  rw [run, lineLevel_eq, calledBus_eq]
  cases s.bus.alertOut || other <;> rfl

/-! ### The module as controller -/

/-- An alert shows in its queue and on ALERT# alone (R436, R440). -/
theorem alert_shape (cls kind reason inst param) (s : State) : let t := alert cls kind reason inst param s
    t = { s with alr := t.alr, bus := { s.bus with alertOut := t.bus.alertOut } } := by
  dsimp only
  unfold alert alertAt
  dsimp only
  split <;> rfl

theorem recovery_runs {s : State} (hp : s.powered = true) (freed : Bool) : exec (.busRecovery freed) s = .next
    (let u := s.modBus fun b => { b with ctlRecover := sat 0xFF (b.ctlRecover + 1), twStuck := b.twStuck || !freed }
     if freed then u else alert 3 9 3 0xFF 0 u) := by
  show execBusRecovery freed s = _
  rw [execBusRecovery, hp]
  rfl

theorem controller_runs {s : State} {x rest} {got} (hp : s.powered = true) (hst : s.sys.st ≠ .hold)
    (hq : s.bus.ctlQueue = x :: rest) : exec (.controllerTransfer got) s = match got with
    | some got => .next (s.modBus fun b => { b with
      twLast := 0, ctlQueue := rest, ctlLosses := 0, outCtl := some x, inCtl := checkedWords b.twPec (ctlHead x) (got.words.take x.reads) got.pecs
      outCtlPec := if b.twPec && decide (x.reads = 0) then some (ctlPec x) else none })
    | none =>
      let drop := decide (7 ≤ s.bus.ctlLosses)
      let u := s.modBus fun b => { b with
        twLast := 7, arbLost := true, ctlArb := sat 0xFF (b.ctlArb + 1)
        ctlQueue := if drop then rest else b.ctlQueue, ctlLosses := if drop then 0 else b.ctlLosses + 1 }
      .next (if drop then alert 3 9 4 0xFF 0 u else u) := by
  show execControllerTransfer got s = _
  rw [execControllerTransfer, hq]
  exact if_neg (by simp [hp, hst])

theorem checkedWords_off : ∀ head ws ps, checkedWords false head ws ps = ws
  | _, [], _ => rfl
  | head, w :: ws, ps => by
    rw [checkedWords, checkedWords_off]
    rfl

/-- Settles O32, event by event. -/
theorem twoWireBusAndItsAlerts : Obligations.TwoWireBusAndItsAlerts := by
  unfold Obligations.TwoWireBusAndItsAlerts
  refine ⟨fun s hp hd => ?_, fun s hp => ?_, fun s hp => ?_⟩
  · have ht := isTarget_of hp hd
    refine ⟨fun w hpec => ?_, fun p ws pec late hok hne hlen hpec hfull => ?_, fun p late hok => ?_, fun p count hok => ?_,
      fun w => ?_, fun w hpec => ?_, ?_, fun hptr hfix => ?_, ?_, ?_⟩
    · have code : twWriteCode 0x0032 [w] none ⟨true, false⟩ (heeded s) = 0 := by
        rw [twWriteCode_whole (by decide) (by simp) (by simp) rfl]
        simp [heeded, hpec]
      have cap : applyWords (hdrFix 0x0032) (addressed (hdrFix 0x0032) (hdrAddr 0x0032) [w]) (heeded s) =
          { heeded s with bp := { s.bp with cap := w.toNat } } := applyWords_cap w (heeded s)
      exact ⟨_, twWrite_ok ht code cap, rfl, rfl, rfl, rfl, rfl⟩
    · have code : twWriteCode p ws pec ⟨true, late⟩ (heeded s) = 0 := by
        have pecOn : pec.isSome = (heeded s).bus.twPec := by
          rw [hpec]
          change _ = s.bus.twPec
          cases s.bus.twPec <;> rfl
        rw [twWriteCode_whole (s := heeded s) hok hlen (fun h => pecOn.symm.trans h) hfull]
        have right : (pec.isSome && decide (pec ≠ some (crc8 (twByte (heeded s) false :: (p :: ws).flatMap bytesHL)))) = false := by
          rw [hpec]
          cases s.bus.twPec
          · rfl
          · exact decide_eq_false (not_not_intro rfl)
        rw [if_neg (by simp [hne]), if_neg (not_not_intro pecOn), right]
        rfl
      exact ⟨_, twWrite_ok ht code rfl, rfl⟩
    · have code : twWriteCode p [] none ⟨true, late⟩ (heeded s) = 0 :=
        twWriteCode_whole hok (by decide) (by simp) rfl
      refine ⟨_, twWrite_ok ht code (applyWords_nil ..), endAddr_zero .., rfl, rfl, rfl⟩
    · have run := twRead_runs ht (p := p) (count := count) (by cases p with | none => rfl | some q => exact hok q rfl) rfl rfl rfl
      exact ⟨_, run, rfl, rfl, rfl, rfl, rfl, rfl⟩
    · exact ⟨_, twWrite_refused ht (code := 3) (by decide) rfl, rfl, rfl⟩
    · have code : twWriteCode 0x0032 [w] none ⟨true, false⟩ (heeded s) = 3 := by
        rw [twWriteCode_whole (by decide) (by simp) (by simp) rfl, if_neg (by simp), if_pos]
        simp [heeded, hpec]
      exact ⟨_, twWrite_refused ht (by decide) code, rfl, rfl, rfl⟩
    · have read : readAccess .twoWire false 1 0 (heeded s) = ([0x5120], heeded s) := by
        rw [readAccess_plain (by decide) (by decide), hostReg_id]
      exact ⟨_, twRead_runs ht (by decide) rfl rfl read, rfl, rfl, rfl, rfl⟩
    · have read : readAccess .twoWire false 1 0x32 (heeded s) = ([word s.bp.cap], heeded s) := by
        rw [readAccess_plain (by decide) (by decide), hostReg_cap]
        rfl
      exact ⟨_, twRead_runs ht (by decide) hfix hptr read, rfl, rfl, rfl⟩
    · have run : exec .busError s = .next ((twResult 5 s).modBus fun b => { b with busErr := true, twIgnore := true }) := by
        show execBusError s = _
        rw [execBusError, ht]
        rfl
      exact ⟨_, run, rfl, rfl, rfl, rfl, rfl⟩
    · have run : exec .smbusTimeout s = .next (twResult 6 s) := by
        show execSmbusTimeout s = _
        rw [execSmbusTimeout, ht]
        rfl
      exact ⟨_, run, rfl, rfl, rfl⟩
  · refine ⟨fun hd other answered won => ?_, fun hd => ⟨fun a other answered won ha hout hcls hwin => ?_,
      fun a other won ha hcls => ?_, fun other => ?_, fun hrep => ?_⟩⟩
    · have silent : answersAra s other = false := by
        rw [answersAra, hd]
        exact Bool.and_false _
      refine ⟨_, ara_silent hp (by rw [silent]; rfl), rfl, rfl, rfl, fun ha => ?_, fun ha _ => ?_, rfl⟩
      · simp [ha]
      · simp [ha, silent]
    · have called : answersAra s other = true := by
        rw [answersAra_eq ha, hd, hout, calledBus_eq]
        simp [hout, hcls]
      refine ⟨_, ara_answers hp (by rw [called]; rcases hwin with h | h <;> simp [h]), ?_⟩
      rw [lineLevel_eq]
      exact ⟨rfl, rfl, ite_self _, rfl, rfl, rfl⟩
    · have silent : answersAra s other = false := by
        rw [answersAra_eq ha, calledBus_eq]
        have low : (if s.bus.alertOut || other then s.bus.level else 0) ≤ s.bus.level := by split <;> omega
        simp only [Bool.and_eq_false_iff, decide_eq_false_iff_not]
        omega
      refine ⟨_, ara_silent hp (by rw [silent]; rfl), rfl, ?_, rfl, rfl, rfl⟩
      simp [silent]
    · refine ⟨_, ara_silent hp (by simp), rfl, ?_, rfl, rfl⟩
      simp
    · have run : exec .alertRepull s = .next (s.modBus fun b => { b with
          repull := false, alertOut := b.alertOut || (b.araEn && !s.alr.queue.isEmpty && !s.bp.addrDup) }) := by
        show execAlertRepull s = _
        rw [execAlertRepull, hp, hrep]
        rfl
      refine ⟨_, run, rfl, ?_, rfl⟩
      simp [hd]
  · refine ⟨?_, ?_, fun x rest hq => ⟨fun hst got => ?_, fun hst got => ?_, fun hst hl => ?_, fun hst hl => ?_⟩⟩
    · refine ⟨_, recovery_runs hp true, rfl, ?_, rfl⟩
      simp
    · refine ⟨_, recovery_runs hp false, ?_⟩
      simp only [Bool.false_eq_true, if_false]
      rw [alert_shape]
      exact ⟨rfl, Bool.or_true _, rfl⟩
    · show execControllerTransfer got s = _
      unfold execControllerTransfer
      rw [hq]
      exact if_pos (by simp [hst])
    · have run := controller_runs (got := some got) hp hst hq
      refine ⟨_, run, rfl, rfl, rfl, rfl, fun hoff => ?_, ?_, rfl⟩
      · exact (congrArg (checkedWords · _ _ _) hoff).trans (checkedWords_off ..)
      · change (if s.bus.twPec && decide (x.reads = 0) then some (ctlPec x) else none).isSome = _
        cases s.bus.twPec && decide (x.reads = 0) <;> rfl
    · have stays : decide (7 ≤ s.bus.ctlLosses) = false := decide_eq_false (by omega)
      have run := controller_runs (got := none) hp hst hq
      simp only [stays, Bool.false_eq_true, if_false] at run
      exact ⟨_, run, rfl, rfl, rfl, rfl, rfl⟩
    · have drops : decide (7 ≤ s.bus.ctlLosses) = true := decide_eq_true hl
      have run := controller_runs (got := none) hp hst hq
      simp only [drops, if_true] at run
      refine ⟨_, run, ?_⟩
      rw [alert_shape]
      exact ⟨rfl, rfl, rfl⟩

end Sys2Proof.Machine
end

/-! ## Register writes -/

section
open Sys2Proof.Claims

namespace Sys2Proof.Machine

/-! ### One word to one address -/

theorem wordAt_other {a b : Nat} (h : a ≠ b) (w) : wordAt [(a, w)] b = none := by
  simp [wordAt, h]

/-- An address whose word acts only as it is written (R213). -/
structure Plain (a : Nat) : Prop where
  small : a < 4096
  cmd : cmdAddr a = none
  seq : a ≠ 0x203
  cls : a ≠ 0x204
  pour : a ≠ 0x304

theorem accessEnd_plain {a : Nat} (h : Plain a) (w u) : accessEnd true [(a, w)] u = u := by
  have bell : [(a, w)].find? (fun p => (cmdAddr p.1).isSome) = none := by simp [h.cmd]
  unfold accessEnd
  rw [wordAt_other h.seq, wordAt_other h.cls, wordAt_other h.pour, if_pos rfl, bell]
  rfl

theorem registerWrite_plain {a : Nat} {w s} (hp : s.powered = true) (h : Plain a) :
    exec (.registerWrite a w) s = .next (regWrite a w s) := by
  have free : hitsFull [(a, w)] s = false := by simp [hitsFull, h.cmd]
  have ends : applyWords false [(a, w)] s = regWrite a w s := accessEnd_plain h w _
  show execRegisterWrite a w s = _
  rw [execRegisterWrite, hostWrite, hp, if_pos rfl, if_pos h.small, writeOne, free, ends]
  rfl

/-- A word cleared in a mirror by writing 1 (R10). -/
theorem clearShown_get (ws off w mask k) : (clearShown ws off w mask).getD k 0 =
    if k = off then ws.getD off 0 &&& ~~~(w &&& mask) else ws.getD k 0 := by
  unfold clearShown
  simp only [List.getD_eq_getElem?_getD, List.getElem?_set]
  by_cases hk : off = k
  · subst hk
    by_cases hlen : off < ws.length
    · simp [hlen]
    · simp [hlen]
  · simp [hk, Ne.symm hk]

/-! ### Shares -/

theorem field_eq (w : Word) (p k : Nat) : field w p k = w.toNat / 2 ^ p % 2 ^ k := rfl

/-- The state a tap is in and its settings. -/
def Tap.placed (t : Tap) : TapState × TapCfg := (t.state, t.cfg)

theorem ungovern_placed (n s) : Kept Tap.placed s (ungovern n s) := by
  have released (u) : Kept Tap.placed u (rcpRelease n u) := by
    unfold rcpRelease retarget
    dsimp only
    exact .ite (Kept.trans (.modTap (by exact fun _ => rfl) _) (.modTap (by exact fun _ => rfl) _))
      (.modTap (by exact fun _ => rfl) _)
  unfold ungovern
  split
  · refine Kept.trans ?_ (released _)
    exact .of_taps rfl
  · exact .refl _ _

/-- What a share written makes of a tap's settings (R314). -/
def TapCfg.shared (w : Word) (c : TapCfg) : TapCfg :=
  { c with share := field w 0 5, helper := w.getLsbD 5, partnerAddr := BitVec.ofNat 3 (field w 6 3)
           partnerTap := BitVec.ofNat 5 (field w 9 5) }

theorem writeShare_takes {n : Fin 32} {w : Word} {s : State} (hr : restful s.taps[n] = true) (hg : s.taps[n].cfg.gang = false)
    (hw : w.toNat % 32 ≤ 16) : writeShare n w s = if 0 < field w 0 5 ∧ w.getLsbD 5 then
      ungovern n (s.modCfg n (TapCfg.shared w)) else s.modCfg n (TapCfg.shared w) := by
  have small : field w 0 5 ≤ 16 := by
    rw [field_eq]
    omega
  have on : (restful s.taps[n] && !s.taps[n].cfg.gang && decide (field w 0 5 ≤ 16)) = true := by
    rw [hr, hg, decide_eq_true small]
    rfl
  exact if_pos on

theorem writeShare_shows {n : Fin 32} {w : Word} {s : State} (hr : restful s.taps[n] = true)
    (hg : s.taps[n].cfg.gang = false) (hw : w.toNat % 32 ≤ 16) : TapsBut n s (writeShare n w s) ∧
    (writeShare n w s).taps[n].state = s.taps[n].state ∧ (writeShare n w s).taps[n].cfg = s.taps[n].cfg.shared w ∧
    writeShare n w s = { s with taps := (writeShare n w s).taps, rcp := { s.rcp with mask := (writeShare n w s).rcp.mask } } ∧
    (w.getLsbD 5 = false → (writeShare n w s).rcp = s.rcp) := by
  rw [writeShare_takes hr hg hw]
  have own : (s.modCfg n (TapCfg.shared w)).taps[n] = { s.taps[n] with cfg := s.taps[n].cfg.shared w } := by
    rw [State.modCfg_taps, if_pos rfl]
  split
  · next h =>
    have kept := (ungovern_placed n (s.modCfg n (TapCfg.shared w))).same n
    rw [own] at kept
    simp only [Tap.placed, Prod.mk.injEq] at kept
    refine ⟨TapsBut.trans ?_ (ungovern_but _ _), kept.1, kept.2, ?_, fun h5 => by rw [h5] at h; exact absurd h.2 (by decide)⟩
    · exact fun m hm => State.modCfg_taps .. |>.trans (if_neg hm)
    · rw [ungovern_outside]
      rfl
  · rw [own]
    exact ⟨fun m hm => (State.modCfg_taps ..).trans (if_neg hm), rfl, rfl, rfl, fun _ => rfl⟩

/-! ### The module's latched faults -/

/-- The bits of `FLT_MODULE` (R442). -/
def moduleFaults (s : State) : Fin 7 → Bool :=
  ![s.hub.ov3, s.sys.selfTest, s.sys.shFault, s.sys.estop, s.taps.toList.any fun t => t.stake.withdrawn,
    !s.bbx.okA || !s.bbx.okB, s.bp.addrDup]

theorem fltModule_sum (s) : fltReg s 0 = word (tabulate 7 fun i => bit (moduleFaults s i) i.val).sum := by
  refine congrArg word ?_
  simp only [tabulate, List.sum_cons, List.sum_nil, Nat.add_assoc, Nat.add_zero]
  rfl

theorem fltModule_bit (s : State) (k : Fin 7) : (fltReg s 0).getLsbD k.val = moduleFaults s k := by
  rw [fltModule_sum]
  exact word_bits (by decide) _ k

/-- A latched fault that clears leaves `FLT_MODULE` at once (R442). -/
theorem fltSince_cleared {s t : State} {k : Fin 7} (hs : moduleFaults s k = true) (ht : moduleFaults t k = false) :
    ((fltSince s t).shown.flt.getD 0 0).getLsbD k.val = false := by
  have changed : fltReg s 0 ≠ fltReg t 0 := fun h => by
    have same := congrArg (BitVec.getLsbD · k.val) h
    simp only [fltModule_bit, hs, ht] at same
    exact absurd same (by decide)
  rw [fltSince, if_neg changed]
  exact (fltModule_bit t k).trans ht

theorem fltSince_same {s t : State} (h : moduleFaults t = moduleFaults s) : fltSince s t = t :=
  if_pos (by rw [fltModule_sum, fltModule_sum, h])

theorem fltSince_outside (s t : State) : fltSince s t = { t with shown := { t.shown with flt := (fltSince s t).shown.flt } } := by
  unfold fltSince
  split <;> rfl

theorem clearShFault_valid {s : State} (hv : s.sys.shValid = true) (hl : s.sys.shOkAt + 1000 ≤ s.sys.uptime) :
    clearShFault s = fltSince s { s with sys := { s.sys with shFault := false } } := by
  have on : (s.sys.shValid && decide (s.sys.shOkAt + 1000 ≤ s.sys.uptime)) = true := by rw [hv, decide_eq_true hl]; rfl
  exact congrArg (fltSince s) (if_pos on)

theorem clearShFault_early {s : State} (h : s.sys.shValid = false ∨ s.sys.uptime < s.sys.shOkAt + 1000) :
    clearShFault s = s := by
  have off : ¬(s.sys.shValid && decide (s.sys.shOkAt + 1000 ≤ s.sys.uptime)) = true := by
    rw [Bool.and_eq_true, decide_eq_true_eq]
    rintro ⟨hv, hl⟩
    rcases h with h | h
    · rw [h] at hv
      exact absurd hv (by decide)
    · omega
  exact (congrArg (fltSince s) (if_neg off)).trans (fltSince_same rfl)

theorem clearHubOv3_safe {s : State} (h : s.sys.st = .safe) :
    clearHubOv3 s = fltSince s { s with hub := { s.hub with ov3 := false, ovTimes := [] } } :=
  congrArg (fltSince s) (if_pos h)

theorem clearHubOv3_else {s : State} (h : s.sys.st ≠ .safe) : clearHubOv3 s = s :=
  (congrArg (fltSince s) (if_neg h)).trans (fltSince_same rfl)

/-! ### Gangs and shares -/

/-- A pair of which a tap has a share does not gang (R314). -/
theorem runSetGang_shared {a : List Word} {s : State} {n : Fin 32} (h0 : arg a 0 = n.val) (he : n.val % 2 = 0)
    (h1 : arg a 1 ≤ 1) (hs : s.taps[n].cfg.share ≠ 0 ∨ s.taps[partner n].cfg.share ≠ 0) : runSetGang a s = deny 0x21 s := by
  obtain rfl := tapOf_of_arg h0
  have words : wordsGang a = none := by
    rw [wordsGang, tapArg_ok h0, decide_eq_true (by rw [h0]; exact he), rng_ok (Nat.zero_le _) h1]
    rfl
  have shared : ¬(s.taps[tapOf (arg a 0)].cfg.share = 0 ∧ s.taps[partner (tapOf (arg a 0))].cfg.share = 0) := by
    rintro ⟨hn, hm⟩
    exact hs.elim (· hn) (· hm)
  unfold runSetGang
  dsimp only
  rw [words, decide_eq_false shared]
  rfl

/-- The states that a share is taken in (R314). -/
theorem restful_iff (t : Tap) : restful t = true ↔ t.state = .absent ∨ t.state = .suspended ∨ t.state = .faultTimer ∨
    t.state = .faultShort ∨ t.state = .faultOpen ∨ t.state = .faultOv ∨ t.state = .faultTherm ∨
    (t.state = .done ∧ TapState.converts t .done = false) := by
  unfold restful doneRest
  generalize TapState.converts t .done = conv
  cases t.state <;> simp [TapState.isFault]

/-! ### The words of the obligation -/

/-- A tap whose events are acknowledged by writing 1 (R160). -/
def Tap.acked (w : Word) (t : Tap) : Tap := { t with
  removed := t.removed && !w.getLsbD 5, inserted := t.inserted && !w.getLsbD 6, timerExp := t.timerExp && !w.getLsbD 7
  cupDone := t.cupDone && !w.getLsbD 8, eoc := t.eoc && !w.getLsbD 9, fallback := t.fallback && !w.getLsbD 10
  ntcSplit := t.ntcSplit && !w.getLsbD 11, pourSkip := t.pourSkip && !w.getLsbD 12 }

theorem regWrite_tapEvents (n : Fin 32) (w s) : regWrite (0x801 + 0x20 * n.val) w s =
    clearTapShown n 1 w 0x1FE0 (s.modTap n (Tap.acked w)) := by
  have tap : tapOf ((0x801 + 0x20 * n.val - 0x800) / 0x20) = n := Fin.ext (by
    change (0x801 + 0x20 * n.val - 0x800) / 0x20 % 32 = n.val
    omega)
  unfold regWrite
  rw [if_neg (by omega), if_neg (by omega), if_neg (by omega), if_neg (by omega), if_pos (by omega), tap,
    show (0x801 + 0x20 * n.val) % 0x20 = 1 by omega]
  rfl

theorem cmdAddr_mbx (n : Fin 4) : cmdAddr (0x103 + 0x40 * n.val) = some n := by
  have port : portOf ((0x103 + 0x40 * n.val - 0x100) / 0x40) = n := Fin.ext (by
    change (0x103 + 0x40 * n.val - 0x100) / 0x40 % 4 = n.val
    omega)
  rw [cmdAddr, if_pos (by omega), port]

/-- Settles O33, register by register. -/
theorem registerWritesFollowTheirKind : Obligations.RegisterWritesFollowTheirKind := by
  unfold Obligations.RegisterWritesFollowTheirKind
  refine ⟨fun w s hp => ⟨?_, ?_, ?_, ?_, fun a ha => ?_, fun n => ?_, fun n hn => ?_⟩,
    fun s hp => ⟨fun n w hr hg hw => ?_, fun n w hno => ?_, fun t => ?_, fun via args n ha h0 he h1 hup hshare => ?_,
      fun via args ha => ?_, fun hv hl => ?_, fun hno => ?_, fun hst => ?_, fun hst => ?_⟩⟩
  · exact registerWrite_plain hp ⟨by decide, by decide, by decide, by decide, by decide⟩
  · exact registerWrite_plain hp ⟨by decide, by decide, by decide, by decide, by decide⟩
  · refine ⟨_, registerWrite_plain hp ⟨by decide, by decide, by decide, by decide, by decide⟩, rfl, ?_, fun k hk => ?_, rfl⟩
    · exact (clearShown_get ..).trans (if_pos rfl)
    · exact (clearShown_get ..).trans (if_neg hk)
  · exact registerWrite_plain hp ⟨by decide, by decide, by decide, by decide, by decide⟩
  · show execRegisterWrite a w s = _
    rw [execRegisterWrite, hostWrite, hp, if_pos rfl, if_neg (by omega)]
  · have plain : Plain (0x801 + 0x20 * n.val) :=
      ⟨by omega, if_neg (by omega), by omega, by omega, by omega⟩
    refine ⟨_, registerWrite_plain hp plain, ?_⟩
    rw [regWrite_tapEvents]
    have own : (s.modTap n (Tap.acked w)).taps[n] = s.taps[n].acked w := (State.modTap_taps ..).trans (if_pos rfl)
    rw [show (clearTapShown n 1 w 0x1FE0 (s.modTap n (Tap.acked w))).taps[n] = s.taps[n].acked w from own]
    refine ⟨rfl, rfl, rfl, rfl, fun m hm => (State.modTap_taps ..).trans (if_neg hm), ?_, fun m hm => ?_, rfl⟩
    · refine (congrArg (List.getD · 1 0) ((getElem_set_fin ..).trans (if_pos rfl))).trans ?_
      exact (clearShown_get ..).trans (if_pos rfl)
    · exact (getElem_set_fin ..).trans (if_neg hm)
  · have full : hitsFull [(0x103 + 0x40 * n.val, w)] s = true := by
      simp only [hitsFull, List.any_cons, List.any_nil, cmdAddr_mbx, decide_eq_true hn, Bool.true_or]
    show execRegisterWrite _ w s = _
    rw [execRegisterWrite, hostWrite, hp, if_pos rfl, if_pos (by omega), writeOne, if_pos full]
  · obtain ⟨hbut, hstate, hcfg, hrest, hrcp⟩ := writeShare_shows hr hg hw
    have run : exec (.sysShareWrite n w) s = .next (writeShare n w s) := by
      show execSysShareWrite n w s = _
      rw [execSysShareWrite, hostWrite, hp, if_pos rfl]
    refine ⟨_, run, hbut, hstate, ?_, ?_, ?_, hrest, hrcp⟩
    · have share : (s.taps[n].cfg.shared w).share = w.toNat % 32 := by
        rw [TapCfg.shared, field_eq]
        exact congrArg (· % 32) (Nat.div_one _)
      rw [hcfg, ← share]
      rfl
    · rw [hcfg]
      exact (BitVec.toNat_ofNat ..).trans (Nat.mod_eq_of_lt (Nat.mod_lt _ (by decide)))
    · rw [hcfg]
      exact (BitVec.toNat_ofNat ..).trans (Nat.mod_eq_of_lt (Nat.mod_lt _ (by decide)))
  · have off : ¬(restful s.taps[n] && !s.taps[n].cfg.gang && decide (field w 0 5 ≤ 16)) = true := by
      have share : field w 0 5 = w.toNat % 32 := by
        rw [field_eq]
        omega
      rw [share]
      rcases hno with h | h | h
      · rw [h]
        simp
      · rw [h]
        simp
      · simp [h]
    show execSysShareWrite n w s = _
    rw [execSysShareWrite, hostWrite, hp, if_pos rfl]
    exact congrArg _ (if_neg off)
  · exact restful_iff t
  · obtain ⟨first, -⟩ := gangWords (via := via) (s := s) 1 (show arg args 1 < 2 by omega)
    have second : arg (withArg1 1 args) 1 = 1 := by
      rw [arg_withArg1 1 (by omega)]
      rfl
    exact gang_answers ha h0 hup (by omega) (runSetGang_shared (first.trans h0) he (by omega) hshare)
  · exact ⟨settingsOf s, hostCommand_stored ha (run := runSaveConfig) rfl rfl, fun n => by simp [settingsOf]⟩
  · have run : exec .shFaultClear s = .next (clearShFault s) := by
      show execShFaultClear s = _
      rw [execShFaultClear, hostWrite, hp, if_pos rfl]
    rw [clearShFault_valid hv hl] at run
    refine ⟨_, run, by rw [fltSince_outside], fun hf => ?_, fun hf => ?_, by rw [fltSince_outside]⟩
    · exact fltSince_cleared (k := 2) hf rfl
    · have same : { s.sys with shFault := false } = s.sys := by rw [← hf]
      rw [same]
      exact fltSince_same rfl
  · show execShFaultClear s = _
    rw [execShFaultClear, hostWrite, hp, if_pos rfl, clearShFault_early hno]
  · have run : exec .hubOv3Clear s = .next (clearHubOv3 s) := by
      show execHubOv3Clear s = _
      rw [execHubOv3Clear, hostWrite, hp, if_pos rfl]
    rw [clearHubOv3_safe hst] at run
    refine ⟨_, run, by rw [fltSince_outside], fun hf => ?_, fun hf => ?_, by rw [fltSince_outside]⟩
    · exact fltSince_cleared (k := 0) hf rfl
    · rw [fltSince_same]
      funext k
      unfold moduleFaults
      rw [hf]
  · show execHubOv3Clear s = _
    rw [execHubOv3Clear, hostWrite, hp, if_pos rfl, clearHubOv3_else hst]

end Sys2Proof.Machine
end

/-! ## Alarm timers, lease snapshots and statements -/

section
open Sys2Proof.Claims

namespace Sys2Proof.Machine

/-! ### Alarm timers -/

theorem modAlarm_same (k f) (s : State) : (modAlarm k f s).mtr.alarms[k] = f s.mtr.alarms[k] := by
  simp [modAlarm]

theorem modAlarm_other {k j : Fin 4} (h : j ≠ k) (f) (s : State) :
    (modAlarm k f s).mtr.alarms[j] = s.mtr.alarms[j] := by
  have hne : k.val ≠ j.val := fun e => h (Fin.ext e.symm)
  simp [modAlarm, hne]

/-- The alarm timer `k` at its expiry, its command done or waiting (R192). -/
def Alarm.ended (waits : Bool) (a : Alarm) : Alarm :=
  { a with remain := 0, running := false, expired := true, standbyWaits := a.standbyWaits || waits }

/-- A command of an expiry waits in HOLD and while C0 restarts. -/
def commandWaits (s : State) : Bool := decide (s.sys.st = .hold) || (decide (s.sys.st = .run) && !c0Up s)

theorem alarmExpire_stopped {k : Fin 4} {s : State} (h : s.mtr.alarms[k].running = false) : alarmExpire k s = s := by
  rw [alarmExpire, h]
  rfl

theorem alarmExpire_eq {k : Fin 4} {s : State} (h : s.mtr.alarms[k].running = true) : alarmExpire k s =
    let act := decide (s.mtr.alarms[k].action = 1)
    let t := alert 3 8 2 k.val 0 (modAlarm k (Alarm.ended (act && commandWaits s)) s)
    if act && !commandWaits s && decide (t.sys.st = .run) then issue 0x0103 runStandby .own [] t else t := by
  rw [alarmExpire, h]
  rfl

theorem alert_mtr (cls kind reason inst param) (s : State) : (alert cls kind reason inst param s).mtr = s.mtr := by
  rw [alert_shape]

theorem alert_sys (cls kind reason inst param) (s : State) : (alert cls kind reason inst param s).sys = s.sys := by
  rw [alert_shape]

/-- SYS_STANDBY by an alarm timer in RUN. -/
theorem issue_standby {s : State} (hp : s.powered = true) (hrun : s.sys.st = .run) (h0 : s.sys.cores.getLsbD 0 = true)
    (hdue : changeDue s = false) (hacted : s.sys.acted = 0) : issue 0x0103 runStandby .own [] s =
      answer .own 1 [] ((bypStandIns s).modSys fun y => { y with rampStandby := true, rampMs := y.rampFrom }) := by
  have up : c0Up s = true := by rw [c0Up, h0, Bool.or_true]
  have passes : gate 0x0103 s = none := by
    rw [gate_of_info (info := ⟨0x0103, [.run], false, 0, .c0⟩) rfl (by rw [hrun]; decide)]
    simp [hrun, hdue, hacted, lockedOut]
  have owned : ownerUp 0x0103 [] s = true := by rw [ownerUp, show ownerCore 0x0103 [] = 0 from rfl]; simp [h0]
  have ha : Accepts 0x0103 .own [] s := ⟨hp, by rw [hrun]; decide, up, rfl, passes, owned⟩
  have h := hostCommand_answers ha (run := runStandby) rfl
  exact Host.Outcome.next.inj h

/-! ### Lease snapshots -/

theorem nextSnap_above {k t : Nat} (h : k ≤ t) : t < nextSnap k t ∧ (nextSnap k t - k) % 900000 = 0 := by
  unfold nextSnap
  omega

/-- The clock of the snapshots after one that was due. -/
def snapTaken (s : State) : State :=
  { s with mtr := { s.mtr with snapNext := s.mtr.snapNext + 1, snapAt := s.mtr.snapAt.map fun k => nextSnap k s.stamp } }

theorem leaseSnapshot_waits {s : State} (h : snapDue s = false) : exec .leaseSnapshot s = .next s := by
  show execLeaseSnapshot s = _
  rw [execLeaseSnapshot, h]
  simp

/-- A snapshot that is due is written by C3, waits, or is missed (R186, R188). -/
theorem leaseSnapshot_runs {s : State} (hp : s.powered = true) (h : snapDue s = true) : exec .leaseSnapshot s =
    .next (if c3Up s then queueSnap (snapNow s) (snapTaken s)
      else if s.mtr.pending.length < 4 then
        { snapTaken s with mtr := { (snapTaken s).mtr with pending := s.mtr.pending ++ [snapNow s] } }
      else event .missedSnapshot ((wordsOf 2 s.mtr.snapNext).map fun w => (w.toNat : Int))
        { snapTaken s with mtr := { (snapTaken s).mtr with snapMissed := true } }) := by
  show execLeaseSnapshot s = _
  rw [execLeaseSnapshot, h, hp]
  rfl

theorem event_mtr (c params s) : (event c params s).mtr = s.mtr := by rw [event_eq]

/-! ### Statements -/

theorem stmtEntry_length (n serial c) : (stmtEntry n serial c).length = 66 := by
  have seven : (tapCtrs c).length = 7 := rfl
  simp [stmtEntry, bytesOf_length, List.length_flatMap, seven]

theorem stmtBody_length (s src lessee sel nonce) : (stmtBody s src lessee sel nonce).length = 40 + 66 * sel.length := by
  simp [stmtBody, bytesOf_length, List.length_flatMap, stmtEntry_length]
  omega

theorem stmtBody_version (s src lessee sel nonce) (r : List Byte) : (stmtBody s src lessee sel nonce ++ r).take 2 = [1, 0] := by
  unfold stmtBody
  simp only [List.append_assoc]
  rfl

/-- The statement of the taps `sel` over live counters. -/
def liveStmt (sel : List (Fin 32)) (nonce : Nat) (s : State) : List Byte :=
  stmtBody s none 0 sel nonce ++ (List.range 64).map (Config.signByte (stmtBody s none 0 sel nonce))

theorem liveStmt_length (sel nonce s) : (liveStmt sel nonce s).length = 104 + 66 * sel.length := by
  rw [liveStmt, List.length_append, stmtBody_length, List.length_map, List.length_range]
  omega

/-- A statement in its buffer, with its record (R190). -/
def signed (sel : List (Fin 32)) (nonce : Nat) (s : State) : State :=
  record 0x0A (wordsOf 2 s.mtr.stmtNext ++ pairs ((List.range 32).map (Config.sha256Byte (stmtBody s none 0 sel nonce))))
    { s with mtr := { s.mtr with
        stmt := liveStmt sel nonce s, stmtSeq := s.mtr.stmtNext, stmtNext := s.mtr.stmtNext + 1, gapSince := false } }

theorem buildStmt_live (sel nonce s) : buildStmt none 0 sel nonce s =
    .now 0 (wordsOf 2 s.mtr.stmtNext ++ [word (signed sel nonce s).mtr.stmt.length]) (signed sel nonce s) := rfl

/-- Some bit of a number is set below 32. -/
theorem some_selected {x : Nat} (h : x % 2 ^ 32 ≠ 0) : ((indices 32).filter fun n => x.testBit n.val).isEmpty = false := by
  obtain ⟨i, hi⟩ := Nat.exists_testBit_of_ne_zero h
  rw [Nat.testBit_mod_two_pow, Bool.and_eq_true, decide_eq_true_eq] at hi
  rw [List.isEmpty_eq_false_iff]
  exact List.ne_nil_of_mem (List.mem_filter.mpr ⟨mem_indices ⟨i, hi.1⟩, hi.2⟩)

theorem getStatement_live {args : List Word} (s : State) (h0 : arg args 0 = 0) (h3 : arg args 3 = 1)
    (hsel : arg2 args 5 % 2 ^ 32 ≠ 0) : runGetStatement args s =
      toFlash (buildStmt none 0 ((indices 32).filter fun n => (arg2 args 5).testBit n.val) (arg4 args 7)) s := by
  have some := some_selected hsel
  unfold runGetStatement
  rw [h0, h3]
  simp only [one_ne_zero, decide_false, decide_true]
  rw [checked_pass (by simp [rng, first])]
  simp [some]

/-- Settles O35: alarm timers, lease snapshots, statements. -/
theorem metersTimeSnapshotAndSign : Obligations.MetersTimeSnapshotAndSign := by
  unfold Obligations.MetersTimeSnapshotAndSign
  refine ⟨fun k s hp => ⟨?_, ?_, fun hrun hact => ?_, fun hrun hact hst h0 hdue hacted => ?_, fun hstop => ?_⟩,
    fun s hp => ⟨fun hnot => leaseSnapshot_waits ?_, fun k hat hle => ?_⟩, fun via args s ha h0 h3 hsel => ?_⟩
  · have run : exec (.alarmArm k) s = .next (modAlarm k Alarm.arm s) := congrArg _ (if_pos hp)
    exact ⟨_, run, modAlarm_same .., fun j hj => modAlarm_other hj .., rfl⟩
  · have run : exec (.alarmDisarm k) s = .next (modAlarm k Alarm.disarm s) := congrArg _ (if_pos hp)
    exact ⟨_, run, modAlarm_same .., fun j hj => modAlarm_other hj .., rfl⟩
  · have idle : decide (s.mtr.alarms[k].action = 1) = false := decide_eq_false hact
    have run : exec (.alarmExpiry k) s = .next (alert 3 8 2 k.val 0 (modAlarm k (Alarm.ended false) s)) := by
      refine congrArg _ ((if_pos hp).trans ((alarmExpire_eq hrun).trans ?_))
      simp only [idle, Bool.false_and]
      rfl
    have shown := modAlarm_same k (Alarm.ended false) s
    refine ⟨_, run, ?_, ?_, ?_, alert_sys .., fun j hj => ?_, ?_⟩
    · rw [alert_mtr, shown]; rfl
    · rw [alert_mtr, shown]; rfl
    · rw [alert_mtr, shown]; rfl
    · rw [alert_mtr, modAlarm_other hj]
    · rw [alert_shape]; rfl
  · have due : decide (s.mtr.alarms[k].action = 1) = true := decide_eq_true hact
    have now : commandWaits s = false := by simp [commandWaits, hst, c0Up, h0]
    have run : exec (.alarmExpiry k) s =
        .next (issue 0x0103 runStandby .own [] (alert 3 8 2 k.val 0 (modAlarm k (Alarm.ended false) s))) := by
      refine congrArg _ ((if_pos hp).trans ((alarmExpire_eq hrun).trans ?_))
      simp only [due, now, alert_sys]
      exact if_pos (decide_eq_true hst)
    rw [issue_standby (by rw [alert_shape]; exact hp) (by rw [alert_sys]; exact hst) (by rw [alert_sys]; exact h0)
      (by rw [changeDue, alert_sys]; exact hdue) (by rw [alert_sys]; exact hacted)] at run
    refine ⟨_, run, ?_, rfl, ?_⟩
    · show (alert 3 8 2 k.val 0 (modAlarm k (Alarm.ended false) s)).mtr.alarms[k].expired = true
      rw [alert_mtr, modAlarm_same]; rfl
    · show (alert 3 8 2 k.val 0 (modAlarm k (Alarm.ended false) s)).sys.st = .run
      rw [alert_sys]; exact hst
  · show execAlarmExpiry k s = _
    rw [execAlarmExpiry, alarmExpire_stopped hstop, ite_self]
  · obtain h | ⟨k, h, hlt⟩ := hnot
    · rw [snapDue, h]
    · rw [snapDue, h]
      exact decide_eq_false (by omega)
  · have due : snapDue s = true := by rw [snapDue, hat]; exact decide_eq_true hle
    have run := leaseSnapshot_runs hp due
    obtain ⟨above, quarter⟩ := nextSnap_above hle
    have clock : (snapTaken s).mtr.snapAt = some (nextSnap k s.stamp) := by
      show s.mtr.snapAt.map _ = _
      rw [hat]; rfl
    refine ⟨⟨_, nextSnap k s.stamp, run, ?_, above, quarter⟩, fun hup => ?_, fun hdown hroom => ?_, fun hdown hfull => ?_⟩
    · split
      · exact clock
      · split
        · exact clock
        · rw [event_mtr]; exact clock
    · rw [if_pos hup] at run
      exact ⟨_, _, run, rfl, rfl, rfl, rfl, by simp [snapNow, tabulate_eq_map], rfl, rfl, rfl, rfl, rfl⟩
    · rw [if_neg (Bool.eq_false_iff.mp hdown), if_pos hroom] at run
      exact ⟨_, _, run, rfl, rfl, rfl, rfl, rfl⟩
    · rw [if_neg (Bool.eq_false_iff.mp hdown), if_neg (by omega)] at run
      refine ⟨_, run, ?_, ?_, ?_, ?_⟩
      · rw [event_mtr]
      · rw [event_mtr]; rfl
      · rw [event_mtr]; rfl
      · rw [event_eq]; rfl
  · refine ⟨signed _ _ s, hostCommand_stored ha (getStatement_live s h0 h3 hsel) (buildStmt_live ..), rfl, rfl, rfl,
      liveStmt_length .., stmtBody_version .., ?_, rfl, rfl⟩
    show ((s.bbx.queue ++ [_]).getLast?.map _) = _
    rw [List.getLast?_concat]
    rfl

end Sys2Proof.Machine
end

/-! ## The ramp of housekeeping loss goes on -/

section
open Sys2Proof.Claims
namespace Sys2Proof.Machine

/-- Housekeeping loss, and how far the ramp of every stake has come, are as before. -/
@[simp, reducible] def Ramping (s t : State) : Prop := t.sys.hkLost = s.sys.hkLost ∧ t.sys.rampMs = s.sys.rampMs

theorem Ramping.of_sys {s t : State} (h : t.sys = s.sys) : Ramping s t := by rw [Ramping, h]; exact ⟨rfl, rfl⟩
theorem Ramping.trans {s t u} (h : Ramping s t) (k : Ramping t u) : Ramping s u := ⟨k.1.trans h.1, k.2.trans h.2⟩

@[simp] theorem ite_ramping (c : Prop) [Decidable c] (s t : State) :
    (if c then s else t).sys.hkLost = (if c then s.sys.hkLost else t.sys.hkLost) ∧
    (if c then s else t).sys.rampMs = (if c then s.sys.rampMs else t.sys.rampMs) :=
  ⟨apply_ite (fun s : State => s.sys.hkLost) .., apply_ite (fun s : State => s.sys.rampMs) ..⟩

theorem foldFin_ramping {k} (f : Fin k → State → State) (h : ∀ i s, Ramping s (f i s)) (s) : Ramping s (foldFin k f s) :=
  ⟨foldFin_keeps (fun s : State => s.sys.hkLost) _ (fun i s => (h i s).1) _,
    foldFin_keeps (fun s : State => s.sys.rampMs) _ (fun i s => (h i s).2) _⟩
@[simp] theorem foldFin_hkLost {k} (f : Fin k → State → State) (h : ∀ i s, (f i s).sys.hkLost = s.sys.hkLost) (s) :
    (foldFin k f s).sys.hkLost = s.sys.hkLost := foldFin_keeps (fun s : State => s.sys.hkLost) _ h _
@[simp] theorem foldFin_rampMs {k} (f : Fin k → State → State) (h : ∀ i s, (f i s).sys.rampMs = s.sys.rampMs) (s) :
    (foldFin k f s).sys.rampMs = s.sys.rampMs := foldFin_keeps (fun s : State => s.sys.rampMs) _ h _

@[simp] theorem resync_hkLost (y) : (resync y).hkLost = y.hkLost := by
  unfold resync
  (repeat' split) <;> rfl
@[simp] theorem resync_rampMs (y) : (resync y).rampMs = y.rampMs := by
  unfold resync
  (repeat' split) <;> rfl
@[simp] theorem wakeFor_ramping (n s) : Ramping s (wakeFor n s) := by simp [wakeFor]

/-! ### What a command may do to a tap or a port -/

@[simp] theorem byCommand_ramping (n f s) : Ramping (f s) (byCommand n f s) := by simp [byCommand]
@[simp] theorem waking_ramping (n f s) : Ramping (f s) (waking n f s) := by simp [waking]
@[simp] theorem rephase_ramping (n s0 s) : Ramping s (rephase n s0 s) := by
  unfold rephase
  dsimp only
  split
  · exact ⟨rfl, rfl⟩
  · exact .of_sys (foldl_keeps (fun s : State => s.sys) _ (by intros; rfl) _ _)
@[simp] theorem reactivate_ramping (n f s) : Ramping (f s) (reactivate n f s) := by simp [reactivate]
@[simp] theorem toDetect_ramping (n isNew s) : Ramping s (toDetect n isNew s) := by simp [toDetect]
@[simp] theorem addHist_ramping (h s) : Ramping s (addHist h s) := by simp [addHist]
@[simp] theorem voidHist_ramping (n s) : Ramping s (voidHist n s) := by simp [voidHist]
@[simp] theorem sensorSuspend_ramping (n s) : Ramping s (sensorSuspend n s) := by simp [sensorSuspend]
@[simp] theorem learn_ramping (n s) : Ramping s (learn n s) := by
  unfold learn
  split <;> simp
@[simp] theorem topOffEnd_ramping (n s) : Ramping s (topOffEnd n s) := by simp [topOffEnd]
@[simp] theorem endKeep_ramping (n s) : Ramping s (endKeep n s) := by
  unfold endKeep
  dsimp only
  (repeat' split) <;> simp
@[simp] theorem endHandOff_ramping (n s) : Ramping s (endHandOff n s) := by
  simp only [endHandOff, bypassNow]
  split <;> simp
@[simp] theorem startHandOff_ramping (n why s) : Ramping s (startHandOff n why s) := by simp [startHandOff, countReturn]
@[simp] theorem openFault_ramping (n s) : Ramping s (openFault n s) := by simp [openFault]
@[simp] theorem applyDescriptor_ramping (args s) : Ramping s (applyDescriptor args s).next := by
  simp [applyDescriptor, takeDescriptor]
@[simp] theorem runSetSupport_ramping (args s) : Ramping s (runSetSupport args s).next := by simp [runSetSupport]
@[simp] theorem runSetLimits_ramping (args s) : Ramping s (runSetLimits args s).next := by simp [runSetLimits]
@[simp] theorem runStop_ramping (args s) : Ramping s (runStop args s).next := by simp [runStop]
@[simp] theorem runResume_ramping (args s) : Ramping s (runResume args s).next := by simp [runResume]
@[simp] theorem runSetRamp_ramping (args s) : Ramping s (runSetRamp args s).next := by simp [runSetRamp]
@[simp] theorem refresh_ramping (n s) : Ramping s (refresh n s) := by simp [refresh]
@[simp] theorem runSetKeep_ramping (args s) : Ramping s (runSetKeep args s).next := by simp [runSetKeep]
@[simp] theorem runSetStandin_ramping (args s) : Ramping s (runSetStandin args s).next := by simp [runSetStandin]
@[simp] theorem refuseStart_ramping (n s) : Ramping s (refuseStart n s) := by simp [refuseStart]
@[simp] theorem requestStart_ramping (n s) : Ramping s (requestStart n s) := by simp [requestStart]
@[simp] theorem fromBypass_ramping (n auto s) : Ramping s (fromBypass n auto s) := by simp [fromBypass]
@[simp] theorem runSetTrack_ramping (args s) : Ramping s (runSetTrack args s).next := by simp [runSetTrack]
@[simp] theorem runSetCoeff_ramping (args s) : Ramping s (runSetCoeff args s).next := by
  unfold runSetCoeff
  (repeat' split) <;> simp
@[simp] theorem runLoadDefaultCoeff_ramping (args s) : Ramping s (runLoadDefaultCoeff args s).next := by
  simp [runLoadDefaultCoeff]
@[simp] theorem runSetSchedule_ramping (args s) : Ramping s (runSetSchedule args s).next := by simp [runSetSchedule]
@[simp] theorem runSetShed_ramping (args s) : Ramping s (runSetShed args s).next := by simp [runSetShed]
@[simp] theorem withdraw_ramping (n s) : Ramping s (withdraw n s) := by simp [withdraw]
@[simp] theorem runSetGang_ramping (args s) : Ramping s (runSetGang args s).next := by simp [runSetGang, withdrawUnrated]
@[simp] theorem runSetMin_ramping (args s) : Ramping s (runSetMin args s).next := by simp [runSetMin]
@[simp] theorem runSetLossCap_ramping (args s) : Ramping s (runSetLossCap args s).next := by simp [runSetLossCap]
@[simp] theorem checkNarrow_ramping (x s) : Ramping s (checkNarrow x s) := by simp [checkNarrow]
@[simp] theorem runSrcEnable_ramping (args s) : Ramping s (runSrcEnable args s).next := by simp [runSrcEnable]
@[simp] theorem runSrcDisable_ramping (args s) : Ramping s (runSrcDisable args s).next := by simp [runSrcDisable]
@[simp] theorem runSrcSetWindow_ramping (args s) : Ramping s (runSrcSetWindow args s).next := by simp [runSrcSetWindow]
@[simp] theorem runSrcSetLimit_ramping (args s) : Ramping s (runSrcSetLimit args s).next := by simp [runSrcSetLimit]
@[simp] theorem runSrcSetOv_ramping (args s) : Ramping s (runSrcSetOv args s).next := by simp [runSrcSetOv]
@[simp] theorem runSrcSetMode_ramping (args s) : Ramping s (runSrcSetMode args s).next := by simp [runSrcSetMode, swapRank]
@[simp] theorem runSetSync_ramping (args s) : Ramping s (runSetSync args s).next := by simp [runSetSync]

/-! ### The entries (R207) -/

theorem entryRun_ramping (op args s) : Ramping s (entryRun op args s).next := by
  unfold entryRun
  split <;> simp
theorem runEntry_ramping (e s) : Ramping s (runEntry e s).2 := by
  unfold runEntry
  have h := entryRun_ramping e.op.toNat e.args s
  split
  · simp
  · split <;> simp_all
theorem applyEntry_ramping (e s) : Ramping s (applyEntry e s).2 := by
  unfold applyEntry
  dsimp only
  (repeat' split) <;> simp [runEntry_ramping]
@[simp] theorem applyAll_ramping : ∀ es s, Ramping s (applyAll es s).2
  | [], s => by simp [applyAll]
  | e :: es, s => (applyEntry_ramping e s).trans (applyAll_ramping es (applyEntry e s).2)

/-! ### The commit of a pour -/

@[simp] theorem setStr_ramping (en y) : (setStr en y).hkLost = y.hkLost ∧ (setStr en y).rampMs = y.rampMs := by
  simp [setStr]
@[simp] theorem newPeriod_ramping (s) : Ramping s (newPeriod s) := by simp [newPeriod]
@[simp] theorem setState_ramping (st cause s) : Ramping s (setState st cause s) := by simp [setState]
@[simp] theorem enterRun_ramping (cause s) : Ramping s (enterRun cause s) := by simp [enterRun]
theorem profileCommit_ramping (k s) : Ramping s (profileCommit k s) := by
  unfold profileCommit
  extract_lets p applying s₁ s₂
  have entered : Ramping s s₂ := by simp [s₂, s₁]
  refine entered.trans ?_
  split
  · split
    · simp
    · simp
    · exact ⟨rfl, rfl⟩
  · exact ⟨rfl, rfl⟩
theorem commit_ramping (s) : Ramping s (commit s) := by
  unfold commit
  extract_lets profile es r s₀ _ s₁ s₂
  have applied : Ramping s s₂ := by simp [s₂, s₁, s₀, r]
  clear_value profile
  split
  · exact applied.trans (profileCommit_ramping ..)
  · exact applied
theorem edgeEnd_ramping (fits s) : Ramping s (edgeEnd fits s) := by
  unfold edgeEnd
  extract_lets known s₁
  have settled : Ramping s s₁ := ⟨rfl, rfl⟩
  split
  · exact settled.trans (commit_ramping _)
  · exact settled

/-! ### One millisecond -/

/-- The ramp of housekeeping loss has ended (R352). -/
def LossRamped (s : State) : Prop := s.sys.hkLost = true ∧ s.sys.rampMs = 20

theorem Ramping.ended {s t : State} (h : Ramping s t) (hs : LossRamped s) : LossRamped t :=
  ⟨h.1.trans hs.1, h.2.trans hs.2⟩

theorem foldFin_lossRamped {k} {f : Fin k → State → State} (h : ∀ i s, LossRamped s → LossRamped (f i s)) {s}
    (hs : LossRamped s) : LossRamped (foldFin k f s) := by
  have round : ∀ (l : List (Fin k)) s, LossRamped s → LossRamped (l.foldl (fun s i => f i s) s) := by
    intro l
    induction l with
    | nil => exact fun s hs => hs
    | cons i l ih => exact fun s hs => ih _ (h i s hs)
  exact round _ s hs

/-- A ramp that `SYS_STANDBY` asks for is the one that runs. -/
theorem issueStandby_lossRamped {s : State} (h : LossRamped s) : LossRamped (issue 0x0103 runStandby .own [] s) := by
  have ramped : LossRamped (runStandby [] s).next := ⟨h.1, by
    show s.sys.rampFrom = 20
    rw [Sys.rampFrom, h.1, Bool.or_true]
    exact h.2⟩
  unfold issue
  split
  · exact h
  · split
    · next taken => simp [isTaken] at taken
    · split
      · exact Ramping.ended (by simp) h
      · split
        · exact ramped
        · exact h

theorem alarmExpire_lossRamped (k) {s : State} (h : LossRamped s) : LossRamped (alarmExpire k s) := by
  by_cases run : s.mtr.alarms[k].running = true
  · rw [alarmExpire_eq run]
    dsimp only
    have told : LossRamped (alert 3 8 2 k.val 0
        (modAlarm k (Alarm.ended (decide (s.mtr.alarms[k].action = 1) && commandWaits s)) s)) :=
      Ramping.ended (.of_sys (alert_sys ..)) h
    split
    · exact issueStandby_lossRamped told
    · exact told
  · rwa [alarmExpire_stopped (Bool.eq_false_iff.mpr run)]

theorem tickAlarm_lossRamped (k) {s : State} (h : LossRamped s) : LossRamped (tickAlarm k s) := by
  unfold tickAlarm
  dsimp only
  split
  · exact h
  · split
    · exact alarmExpire_lossRamped k h
    · exact h

theorem tickKeepAlive_ramping (x s) : Ramping s (tickKeepAlive x s) := by
  unfold tickKeepAlive
  split
  · simp [keepAliveOut, linkActs]
  · exact ⟨rfl, rfl⟩

/-- At the end of the ramp of housekeeping loss every tap switch opens (R352). -/
theorem tick_lossEnds {s : State} (hp : s.powered = true) (hk : s.sys.hkLost = true) (hr : s.sys.rampMs = 19) (n : Fin 32) :
    (tick s).taps[n].stake.conv = false ∧ (tick s).taps[n].stake.sw = false := by
  unfold tick
  rw [if_neg (by simp [hp])]
  extract_lets s₁ s₂ s₃ s₄ hub bp s₅
  have began : Ramping s s₁ := by
    refine Ramping.trans ?_ (newPeriod_ramping _)
    split
    · exact edgeEnd_ramping ..
    · exact ⟨rfl, rfl⟩
  have counted : Ramping s₁ (meter (tickPerf (tickBoxes s₁))) := ⟨rfl, rfl⟩
  have metered : Ramping s₁ s₂ :=
    counted.trans (foldFin_ramping _ (fun i s => .of_sys (tickWear_onlyTaps i s).clocked.sys) _)
  clear_value s₂
  have moved : LossRamped s₅ := by
    have timed : Ramping s₂ s₃ := ⟨rfl, rfl⟩
    have still : Ramping s s₃ := (began.trans metered).trans timed
    have lost : s₃.sys.hkLost = true := still.1.trans hk
    refine ⟨lost, ?_⟩
    show (if s₃.sys.rampStandby || s₃.sys.rampHold || s₃.sys.hkLost then min 20 (s₃.sys.rampMs + 1) else s₃.sys.rampMs) = 20
    rw [lost, Bool.or_true, if_pos rfl, still.2, hr]
    rfl
  have expired : LossRamped (foldFin 32 tickExpire s₅) :=
    foldFin_lossRamped (fun i s => Ramping.ended (.of_sys (tickExpire_clocked i s).sys)) moved
  have told : LossRamped (foldFin 4 tickKeepAlive (foldFin 4 tickAlarm (foldFin 32 tickExpire s₅))) :=
    foldFin_lossRamped (fun x s => (tickKeepAlive_ramping x s).ended)
      (foldFin_lossRamped (fun k s => tickAlarm_lossRamped k) expired)
  generalize foldFin 4 tickKeepAlive (foldFin 4 tickAlarm (foldFin 32 tickExpire s₅)) = u at told ⊢
  show (tickLoss u).taps[n].stake.conv = false ∧ (tickLoss u).taps[n].stake.sw = false
  rw [tickLoss, if_pos (by rw [told.1, told.2]; rfl), State.mapTaps_taps]
  exact ⟨rfl, rfl⟩

end Sys2Proof.Machine
end

/-! ## Housekeeping: paths, loss, the end of the hold-up -/

section
open Sys2Proof.Claims

namespace Sys2Proof.Machine

/-! ### Starts -/

theorem setPath_outside (p ok) (s : State) : setPath p ok s =
    { s with sys := (setPath p ok s).sys, ports := (setPath p ok s).ports } := by
  cases p <;> rfl

theorem setPath_sys (p ok) (s : State) : (setPath p ok s).sys = { s.sys with
    auxOk := (setPath p ok s).sys.auxOk, auxV := (setPath p ok s).sys.auxV, srcOk := (setPath p ok s).sys.srcOk
    tapOk := (setPath p ok s).sys.tapOk } := by
  cases p <;> rfl

theorem enterBoot_shows (last cause low) (s : State) : (enterBoot true last cause low s).sys =
      { resetSys true s.sys with st := .boot, cause := cause, last := last, addr := s.sys.strap, cores := 1 } ∧
    (enterBoot true last cause low s).bbx.ring = s.bbx.ring ∧
    (enterBoot true last cause low s).wdg.challenge ≠ 0 ∧
    ∀ n : Fin 32, (enterBoot true last cause low s).taps[n].desc = s.taps[n].desc := by
  refine ⟨rfl, rfl, newChallenge_ne_zero _, fun n => ?_⟩
  simp [enterBoot, bootRecord, newChallenge, State.draw, resetState, resetTap]

theorem startUp_shows (p strap low last) (s : State) : (startUp p strap low last s).sys.st = .boot ∧
    (startUp p strap low last s).sys.cause = 0 ∧ (startUp p strap low last s).sys.last = last ∧
    (startUp p strap low last s).sys.addr = strap ∧ (startUp p strap low last s).sys.shipLatch = false ∧
    (startUp p strap low last s).sys.timeValid = false ∧ (startUp p strap low last s).wdg.challenge ≠ 0 ∧
    (startUp p strap low last s).bbx.ring = s.bbx.ring ∧
    ∀ n : Fin 32, (startUp p strap low last s).taps[n].desc = s.taps[n].desc := by
  unfold startUp
  extract_lets s₁
  obtain ⟨hsys, hring, hchal, hdesc⟩ := enterBoot_shows last 0 low s₁
  generalize enterBoot true last 0 low s₁ = u at *
  have sys := setPath_sys p true u
  rw [setPath_outside]
  rw [hsys] at sys
  generalize setPath p true u = v at *
  exact ⟨congrArg Sys.st sys, congrArg Sys.cause sys, congrArg Sys.last sys, congrArg Sys.addr sys,
    congrArg Sys.shipLatch sys, congrArg Sys.timeValid sys, hchal, hring, hdesc⟩

/-! ### A record written -/

theorem fit_getLast {α : Type} {cost : α → Nat} {cap : Nat} {r : α} (hr : cost r ≤ cap) :
    ∀ l : List α, (fit cost cap ((l.map cost).sum + cost r) (l ++ [r])).getLast? = some r
  | [] => by
    rw [List.map_nil, List.sum_nil, Nat.zero_add, List.nil_append, fit, if_pos hr]
    rfl
  | a :: l => by
    rw [List.cons_append, fit]
    split
    · exact List.getLast?_concat (l := a :: l)
    · rw [List.map_cons, List.sum_cons, show cost a + (l.map cost).sum + cost r - cost a = (l.map cost).sum + cost r by omega]
      exact fit_getLast hr l

/-- A flush of one event record writes it to the ring. -/
theorem drain_one {s : State} {r : BbxRec} (hq : s.bbx.queue = [.event r]) (hA : s.bbx.okA = true) (hB : s.bbx.okB = true) :
    (drain s).bbx = { addRing { r with okA := true, okB := true } { s.bbx with queue := [] } with new := true } := by
  unfold drain
  rw [hq]
  show (storeAll (.event r) (s.modBbx fun b => { b with queue := [] })).bbx = _
  unfold storeAll
  rw [if_pos (by rw [show (s.modBbx fun b => { b with queue := [] }).bbx.okA = true from hA]; rfl)]
  have copies : (BbxItem.event r).copies ((heldOf (.event r)).okA || (s.modBbx fun b => { b with queue := [] }).bbx.okA)
      ((heldOf (.event r)).okB || (s.modBbx fun b => { b with queue := [] }).bbx.okB) 0 =
        .event { r with okA := true, okB := true } := by
    simp [BbxItem.copies, hA, hB]
  rw [copies]
  unfold store
  dsimp only
  split <;> rfl

/-! ### Loss of housekeeping -/

/-- The types of the records that wait. -/
def queueTypes (s : State) : List Nat := s.bbx.queue.map (·.type)

theorem flushed_type (i : BbxItem) : i.flushed.type = i.type := by cases i <;> rfl

theorem writePending_shows (s) : queueTypes (writePending s) = queueTypes s ++ List.replicate s.mtr.pending.length 6 ∧
    (writePending s).bbx.lossDone = s.bbx.lossDone ∧ (writePending s).mtr.pending = [] := by
  have fold : ∀ (l : List SnapRec) (u : State), let v := l.foldl (fun s r => queueSnap r s) u
      queueTypes v = queueTypes u ++ List.replicate l.length 6 ∧ v.bbx.lossDone = u.bbx.lossDone ∧
        v.mtr.pending = u.mtr.pending := by
    intro l
    induction l with
    | nil => exact fun u => ⟨(List.append_nil _).symm, rfl, rfl⟩
    | cons r l ih =>
      intro u
      obtain ⟨htypes, hloss, hpend⟩ := ih (queueSnap r u)
      refine ⟨?_, hloss, hpend⟩
      rw [List.length_cons, List.replicate_succ, List.append_cons]
      refine Eq.trans htypes (congrArg (· ++ _) ?_)
      exact List.map_append ..
  exact fold s.mtr.pending _

theorem queueLoss_shows (s) : queueTypes (queueLoss s) = queueTypes s ++ List.replicate s.mtr.pending.length 6 ++ [5, 2] ∧
    (queueLoss s).bbx.lossDone = false ∧ (queueLoss s).mtr.pending = [] := by
  unfold queueLoss queueFlush
  obtain ⟨htypes, hloss, hpend⟩ := writePending_shows (s.modBbx fun b => { b with lossDone := false })
  generalize writePending (s.modBbx fun b => { b with lossDone := false }) = u at *
  refine ⟨?_, hloss, hpend⟩
  have types : (u.bbx.queue.map (·.type)) = queueTypes s ++ List.replicate s.mtr.pending.length 6 := htypes
  rw [← types, queueTypes]
  simp only [record, queueCounters, State.modBbx_bbx, List.map_append, List.map_map, Function.comp_def, flushed_type]
  simp [BbxItem.type]

/-- What ends with housekeeping but for the flush (R204, R352). -/
def lossBegun (s : State) : State :=
  let t := disablePorts (bypStandIns (s.modSys fun y => { y with
    hkLost := true, auxOk := false, srcOk := 0, tapOk := 0, acted := 1, rampMs := y.rampFrom }))
  stateRecord .off s.sys.cause (pourAbort { t with tie := { t.tie with en := false } })

theorem housekeepingLoss_runs {s : State} (hp : s.powered = true) (hk : s.sys.hkLost = false) :
    exec .housekeepingLoss s = .next (queueLoss (lossBegun s)) := by
  show execHousekeepingLoss s = _
  rw [execHousekeepingLoss, hp, hk]
  simp [lossBegun]

/-! ### The end of the hold-up -/

theorem cutFlush_shows (s : State) : cutFlush s = { s with
      bbx := (cutFlush s).bbx, mtr := (cutFlush s).mtr, mon := (cutFlush s).mon, shown := (cutFlush s).shown
      free := (cutFlush s).free } ∧ (cutFlush s).bbx.queue = [] ∧
    (s.bbx.queue = [] ∨ (∀ i ∈ s.bbx.queue, (heldOf i).okA = false ∧ (heldOf i).okB = false) ∧
      Config.flashFails s.free = false → (cutFlush s).bbx.ring = s.bbx.ring ∧ (cutFlush s).bbx.snaps = s.bbx.snaps) := by
  unfold cutFlush
  split
  · next hq => exact ⟨rfl, hq, fun _ => ⟨rfl, rfl⟩⟩
  · next i rest hq =>
    dsimp only [State.draw]
    split
    · next written =>
      refine ⟨?_, (store_stores ..).2, fun h => ?_⟩
      · have stores := (store_stores i ((s.modBbx fun b => { b with queue := [] }).draw.2)).1
        dsimp only [State.draw] at stores
        generalize store i _ = w at stores ⊢
        rw [stores]
        rfl
      · obtain hnone | ⟨hheld, hfree⟩ := h
        · rw [hq] at hnone
          cases hnone
        · obtain ⟨hA, hB⟩ := hheld i (by rw [hq]; exact List.mem_cons_self)
          simp [hA, hB, hfree] at written
    · exact ⟨rfl, rfl, fun _ => ⟨rfl, rfl⟩⟩

/-! ### The obligation -/

/-- A list that begins with another and ends with a third. -/
theorem types_parts {a b c t : List Nat} (h : t = a ++ b ++ c) : t.take a.length = a ∧ t.drop (t.length - c.length) = c ∧
    ∀ x ∈ b, x ∈ t.drop a.length := by
  subst h
  refine ⟨?_, ?_, fun x hx => ?_⟩
  · simp [List.append_assoc]
  · rw [List.length_append, Nat.add_sub_cancel]
    exact List.drop_left
  · simp [List.append_assoc, hx]

/-- The STATE record of the change to SHIP. -/
def shipRecord (s : State) : BbxRec :=
  { seq := s.bbx.nextSeq, type := 3, timeValid := s.sys.timeValid, inHold := false, time := s.stamp
    payload := [word (modCode s.sys.st), word (modCode .ship), word s.sys.cause], okA := false, okB := false }

theorem auxRated {v : Int} (hlo : -125000 ≤ v) (hhi : v ≤ 125000) : pathRated (.aux v) = true :=
  decide_eq_true ⟨hlo, hhi⟩

/-- The open pour ends with a record of its own (R203, R340). -/
theorem pourAbort_types (s) : ∃ l, queueTypes (pourAbort s) = queueTypes s ++ l := by
  unfold pourAbort pourEnd
  dsimp only
  split
  · exact ⟨[], (List.append_nil _).symm⟩
  · rw [answerOpt_outside]
    exact ⟨[0x0B], List.map_append ..⟩

theorem lossBegun_types (s) : ∃ l, queueTypes (lossBegun s) = queueTypes s ++ l ++ [3] := by
  unfold lossBegun
  extract_lets t
  obtain ⟨l, hl⟩ := pourAbort_types { t with tie := { t.tie with en := false } }
  refine ⟨l, Eq.trans (List.map_append ..) ?_⟩
  exact congrArg (· ++ [3]) hl

theorem lossBegun_shows (s : State) : (lossBegun s).sys = { s.sys with
      hkLost := true, auxOk := false, srcOk := 0, tapOk := 0, acted := 1, rampMs := s.sys.rampFrom } ∧
    (lossBegun s).pour.state = .idle ∧ (lossBegun s).tie.en = false ∧ (lossBegun s).ctrs = s.ctrs ∧
    (∀ x : Fin 4, (lossBegun s).ports[x].state = .disabled) ∧ (lossBegun s).taps = (bypStandIns s).taps := by
  unfold lossBegun stateRecord
  extract_lets t
  refine ⟨?_, pourEnd_idle .., ?_, ?_, fun x => ?_, ?_⟩
  · simp only [record_keeps, pourAbort_keeps]
    rfl
  · simp
  · simp [t, disablePorts]
  · simp [t, disablePorts, Port.disable_state]
  · simp only [record_keeps, pourAbort_keeps]
    rfl

/-- Settles O36: starts on a path, moves between paths, loss of housekeeping and the end of the hold-up. -/
theorem housekeepingStartsAndEndsTheModule : Obligations.HousekeepingStartsAndEndsTheModule := by
  unfold Obligations.HousekeepingStartsAndEndsTheModule
  refine ⟨fun strap low s => ⟨fun p hoff hr hu hstart => ?_, fun p hoff hr hu htap hlatch => ?_, fun v => ?_,
      fun p hr hu => ?_, fun v hlo hhi hst => ?_, fun v hlo hhi hst hk hsrc => ?_, fun v hlo hhi hp hk hsrc hok => ?_⟩,
    fun s hp => ⟨fun hk => ?_, fun hk hr hq => ⟨tick s, ?_, tick_lossEnds hp hk hr⟩, fun hk => ?_⟩⟩
  · have run : exec (.hkPathQualify p strap low) s = .next (startUp p strap low 0 s) := by
      show execHkPathQualify p strap low s = _
      have free : (tapPath p && s.sys.shipLatch) = false := by
        obtain h | h := hstart <;> simp [h]
      simp [execHkPathQualify, hr, hu, hoff, free]
    obtain ⟨hst, hcause, hlast, haddr, hlatch, htime, hchal, hring, hdesc⟩ := startUp_shows p strap low 0 s
    exact ⟨_, run, hst, hcause, hlast, haddr, hlatch, htime, hchal, hring, hdesc⟩
  · have run : exec (.hkPathQualify p strap low) s = .next (drain (setState .ship s.sys.cause s)) := by
      show execHkPathQualify p strap low s = _
      simp [execHkPathQualify, hr, hu, hoff, htap, hlatch]
    have flushed := (drain_stores (setState .ship s.sys.cause s)).1
    refine ⟨_, run, ?_, ?_, ?_, drain_queue _, ?_, ?_, ?_, fun hq hA hB => ?_⟩
    · rw [flushed]; rfl
    · rw [flushed]; rfl
    · rw [flushed]; exact hlatch
    · rw [flushed]; rfl
    · rw [flushed]; rfl
    · rw [flushed]; rfl
    · refine ⟨{ (shipRecord s) with okA := true, okB := true }, ?_⟩
      have one : (setState .ship s.sys.cause s).bbx.queue = [.event (shipRecord s)] := by
        show s.bbx.queue ++ _ = _
        rw [hq]; rfl
      rw [drain_one one hA hB]
      refine ⟨fit_getLast (l := s.bbx.ring) (cost := eventCost) (by show 13 ≤ 163840; decide), rfl, rfl, rfl, rfl⟩
  · refine ⟨rfl, fun _ => rfl, fun _ => rfl, ?_, fun _ => ?_, fun _ => ?_⟩ <;> exact decide_eq_true_iff
  · show execHkPathQualify p strap low s = _
    simp [execHkPathQualify, hr, hu]
  · have rated : pathRated (.aux v) = true := auxRated (by omega) hhi
    have up : pathUp (.aux v) = true := decide_eq_true hlo
    have run : ∃ last, exec (.hkPathQualify (.aux v) strap low) s = .next (startUp (.aux v) strap low last s) := by
      show ∃ last, execHkPathQualify (.aux v) strap low s = _
      obtain h | h := hst
      · exact ⟨0, by simp [execHkPathQualify, rated, up, h, tapPath]⟩
      · exact ⟨1, by simp [execHkPathQualify, rated, up, h, tapPath]⟩
    obtain ⟨last, run⟩ := run
    obtain ⟨hst, -, -, haddr, hlatch, -⟩ := startUp_shows (.aux v) strap low last s
    exact ⟨_, run, hst, rfl, hlatch, haddr⟩
  · have rated : pathRated (.aux v) = true := auxRated (by omega) hhi
    have up : pathUp (.aux v) = true := decide_eq_true hlo
    have run : exec (.hkPathQualify (.aux v) strap low) s = .next (event .hkMove (moveWords (setPath (.aux v) true s) 1)
        ((setPath (.aux v) true s).modSys fun y => { y with hkSrc := 1, hkChanged := true })) := by
      show execHkPathQualify (.aux v) strap low s = _
      simp [execHkPathQualify, rated, up, hst, hk, hsrc, setPath, movePath, bestPath]
    refine ⟨_, run, ?_⟩
    rw [event_eq]
    exact ⟨rfl, rfl, rfl, rfl, hst, rfl⟩
  · have rated : pathRated (.aux v) = true := auxRated hlo (by omega)
    have down : pathUp (.aux v) = false := decide_eq_false (by omega)
    have run : exec (.hkPathLost (.aux v)) s = .next (event .hkMove (moveWords (setPath (.aux v) false s) 2)
        ((setPath (.aux v) false s).modSys fun y => { y with hkSrc := 2, hkChanged := true })) := by
      show execHkPathLost (.aux v) s = _
      simp [execHkPathLost, rated, down, hp, hk, hsrc, hok, setPath, movePath, bestPath]
    refine ⟨_, run, ?_⟩
    rw [event_eq]
    exact ⟨rfl, rfl, rfl, rfl, rfl⟩
  · obtain ⟨hsys, hpour, htie, hctrs, hports, htaps⟩ := lossBegun_shows s
    obtain ⟨l, begun⟩ := lossBegun_types s
    obtain ⟨types, hloss, hpend⟩ := queueLoss_shows (lossBegun s)
    have outside := queueLoss_flushes (lossBegun s)
    refine ⟨_, housekeepingLoss_runs hp hk, ?_⟩
    generalize lossBegun s = u at *
    rw [begun] at types
    obtain ⟨front, rear, middle⟩ := types_parts (a := queueTypes s) (c := [5, 2])
      (b := l ++ [3] ++ List.replicate u.mtr.pending.length 6) (types.trans (by simp only [List.append_assoc]))
    have sys : (queueLoss u).sys = u.sys := by rw [outside]
    have ports : (queueLoss u).ports = u.ports := by rw [outside]
    have pour : (queueLoss u).pour = u.pour := by rw [outside]
    have tie : (queueLoss u).tie = u.tie := by rw [outside]
    have ctrs : (queueLoss u).ctrs = u.ctrs := by rw [outside]
    have taps : (queueLoss u).taps = u.taps := by rw [outside]
    generalize queueLoss u = t at *
    refine ⟨by rw [sys, hsys], fun x => by rw [ports, hports], by rw [pour, hpour], fun hs hh => ?_, by rw [tie, htie],
      by rw [sys, hsys], hloss, hpend, ?_, ?_, ?_, ctrs.trans hctrs, fun n => ?_⟩
    · rw [sys, hsys]
      show s.sys.rampFrom = 0
      rw [Sys.rampFrom, hs, hh, hk]
      rfl
    · rw [← List.length_map (f := BbxItem.type)]
      exact front
    · rw [← List.length_map (f := BbxItem.type)]
      exact rear
    · rw [← List.length_map (as := s.bbx.queue) (f := BbxItem.type)]
      exact middle 3 (by simp)
    · rw [taps, htaps, bypStandIns_taps]
      refine ⟨fun hst => ?_, ?_⟩
      · rw [if_pos hst]
      · split <;> rfl
  · show step s = _
    rw [step, hq]
  · have run : exec .holdUpEnd s = .next (unpower .off (cutFlush s)) := by
      show execHoldUpEnd s = _
      rw [execHoldUpEnd, hp, hk]
      rfl
    obtain ⟨outside, hqueue, hring⟩ := cutFlush_shows s
    generalize cutFlush s = u at *
    refine ⟨_, run, rfl, rfl, ?_, hqueue, hring, ?_, ?_, ?_, rfl, fun n => ?_⟩
    · rw [outside]; rfl
    · rw [outside]; rfl
    · rw [outside]; rfl
    · rw [outside]; rfl
    · rw [outside]
      simp [unpower, resetState, resetTap, Tap.reset]

end Sys2Proof.Machine
end

/-! ## The end of BOOT -/

section
open Sys2Proof.Claims

namespace Sys2Proof.Machine

/-! ### Entry to STANDBY, part by part -/

theorem portsToIdle_port (s : State) (x : Fin 4) : (portsToIdle s).ports[x] =
    if s.ports[x].enabled && decide (s.ports[x].state = .disabled) && !s.links[x].asSource then
      { s.ports[x] with state := .idle } else s.ports[x] := State.mapPorts_ports ..

theorem startSnaps_outside (s : State) : startSnaps s = { s with mtr := { s.mtr with snapAt := (startSnaps s).mtr.snapAt } } := by
  unfold startSnaps
  split <;> rfl

theorem standbyAlerts_outside (s : State) : let t := standbyAlerts s
    t = { s with sys := { s.sys with bootAlerts := t.sys.bootAlerts }, bp := { s.bp with dupAlert := t.bp.dupAlert }
                 alr := t.alr, bus := { s.bus with alertOut := t.bus.alertOut } } := by
  unfold standbyAlerts
  dsimp only
  split_ifs
  · rw [alert_shape, alert_shape]; rfl
  · rw [alert_shape]
  · rw [alert_shape]; rfl
  · rfl

theorem fallBack_outside (s : State) : let t := fallBack s
    t = { s with hub := { s.hub with siteCap := t.hub.siteCap }, bp := { s.bp with fallback := t.bp.fallback } } := by
  unfold fallBack
  dsimp only
  split <;> rfl

/-- Entry to STANDBY with nothing that leads on to SAFE changes the state, the ports, and what waited for it. -/
theorem enterStandby_outside {s : State} (hes : s.sys.estop = false) (hsh : s.sys.shFault = false) (cause) :
    let t := enterStandby cause s
    t = { s with
      sys := { s.sys with
        st := .standby, cause := cause, rampStandby := false, rampHold := false, bootAlerts := t.sys.bootAlerts }
      ports := (portsToIdle s).ports, hub := { s.hub with siteCap := t.hub.siteCap }
      mtr := { s.mtr with snapAt := t.mtr.snapAt }, alr := t.alr, bus := { s.bus with alertOut := t.bus.alertOut }
      bp := { s.bp with fallback := t.bp.fallback, dupAlert := t.bp.dupAlert }, bbx := t.bbx } := by
  unfold enterStandby
  extract_lets s₁ s₂ t
  have alerts := standbyAlerts_outside (fallBack (portsToIdle (setState .standby cause s₁)))
  have cap := fallBack_outside (portsToIdle (setState .standby cause s₁))
  have snaps : s₁ = _ := startSnaps_outside s
  dsimp only at alerts cap
  change s₂ = _ at alerts
  change s₁ = { s with mtr := { s.mtr with snapAt := s₁.mtr.snapAt } } at snaps
  clear_value s₂
  generalize fallBack (portsToIdle (setState .standby cause s₁)) = u at *
  clear_value s₁
  have settled : s₂.sys.estop = false ∧ s₂.sys.shFault = false := by
    rw [alerts, cap, snaps]
    exact ⟨hes, hsh⟩
  have calm : t = s₂ :=
    (if_neg (Bool.eq_false_iff.mp settled.1)).trans (if_neg (Bool.eq_false_iff.mp settled.2))
  clear_value t
  rw [calm, alerts, cap, snaps]
  rfl

/-! ### The checks of BOOT -/

/-- A restore from COUNTERS records or a snapshot (R183). -/
def Restores (s t : State) : Prop :=
  t = { s with ctrs := t.ctrs, mtr := t.mtr, alr := t.alr, bus := t.bus, bbx := t.bbx } ∧ t.mtr.restored = true

theorem restoreFrom_restores (c s) : Restores s (restoreFrom c s) := ⟨rfl, rfl⟩

theorem restoreGap_restores {s t} (seq) (h : Restores s t) : Restores s (restoreGap seq t) := by
  obtain ⟨outside, done⟩ := h
  have gap : restoreGap seq t = _ := alertRec_outside (0x0D, EvCode.restoreGap.num, 0) _ 1 8 1 0 seq _
  constructor
  · rw [gap, outside]
  · rw [gap]
    exact done

theorem restore_restores (s) : Restores s (restore s) := by
  unfold restore
  split
  · exact restoreFrom_restores ..
  · split
    · exact restoreFrom_restores ..
    · dsimp only
      split
      · split <;> exact restoreGap_restores _ (restoreFrom_restores ..)
      all_goals exact restoreGap_restores _ (restoreFrom_restores ..)

/-- What BOOT does before it leaves for another state (R88, R232, R256). -/
def bootFinish (ok : Bool) (s : State) : State := newPeriod (grace (markWithdrawn (loadConfig (restore
  ((s.modSys fun y => { y with selfTest := !ok }).modBus fun b => { b with level := 0 })))))

theorem resync_sys (y) : resync y = { y with syncSrc := (resync y).syncSrc } := by
  unfold resync
  (repeat' split) <;> rfl

/-- What BOOT leaves of the state, with the stored configuration in force. -/
theorem bootFinish_shows (ok s) : let t := bootFinish ok s
    t.sys = { s.sys with
      selfTest := !ok, ownFsw := s.stored.ownFsw, syncDis := s.stored.syncDis, slotAddr := s.sys.addr, acted := 0
      syncSrc := t.sys.syncSrc } ∧
    t.mtr.restored = true ∧ t.fw = s.fw ∧ t.wdg.grace = true ∧ t.wdg.n = s.stored.n ∧ t.arb.lossCap = s.stored.lossCap ∧
    t.hub.mode = s.stored.mode ∧ t.hub.modeIn = s.stored.mode ∧ t.bp = s.bp := by
  obtain ⟨outside, done⟩ := restore_restores ((s.modSys fun y => { y with selfTest := !ok }).modBus fun b => { b with level := 0 })
  unfold bootFinish
  generalize restore _ = u at *
  intro t
  have sys : t.sys = { resync { u.sys with
      ownFsw := u.stored.ownFsw, syncDis := u.stored.syncDis, slotAddr := u.sys.addr } with acted := 0 } := rfl
  refine ⟨?_, done, ?_, rfl, ?_, ?_, ?_, ?_, ?_⟩
  · rw [sys, resync_sys, outside]
    rfl
  · show u.fw = _
    rw [outside]; rfl
  · show u.stored.n = _
    rw [outside]; rfl
  · show u.stored.lossCap = _
    rw [outside]; rfl
  · show u.stored.mode = _
    rw [outside]; rfl
  · show u.stored.mode = _
    rw [outside]; rfl
  · show u.bp = _
    rw [outside]; rfl

theorem bootFinish_ports (ok s) (x : Fin 4) : (bootFinish ok s).ports[x] = (let q := s.stored.ports[x]
    { s.ports[x] with
      enabled := q.enabled, vMin := q.vMin, vMax := q.vMax, ovLevel := q.ovLevel, iLim := q.iLim, rank := q.rank
      limIn := q.iLim, weight := q.weight, cap := q.cap }) := by
  obtain ⟨outside, -⟩ := restore_restores ((s.modSys fun y => { y with selfTest := !ok }).modBus fun b => { b with level := 0 })
  unfold bootFinish
  generalize restore _ = u at *
  have ports : u.ports = s.ports ∧ u.stored = s.stored := by rw [outside]; exact ⟨rfl, rfl⟩
  obtain ⟨hports, hstored⟩ := ports
  simp [loadConfig, markWithdrawn, grace, hports, hstored]

theorem bootFinish_links (ok s) (x : Fin 4) : (bootFinish ok s).links[x].asSource = s.links[x].asSource := by
  obtain ⟨outside, -⟩ := restore_restores ((s.modSys fun y => { y with selfTest := !ok }).modBus fun b => { b with level := 0 })
  unfold bootFinish
  generalize restore _ = u at *
  have links : u.links = s.links := by rw [outside]; rfl
  simp [newPeriod, loadConfig, markWithdrawn, grace, links, LinkPort.asSource, LinkPort.attached]

theorem bootFinish_taps (ok s) (n : Fin 32) : (bootFinish ok s).taps[n].cfg = s.stored.taps[n] ∧
    (s.stored.taps[n].gang = false → s.taps[n].stake.healthy < 4 → (bootFinish ok s).taps[n].stake.withdrawn = true) := by
  obtain ⟨outside, -⟩ := restore_restores ((s.modSys fun y => { y with selfTest := !ok }).modBus fun b => { b with level := 0 })
  unfold bootFinish
  generalize restore _ = u at *
  have taps : u.taps = s.taps ∧ u.stored = s.stored := by rw [outside]; exact ⟨rfl, rfl⟩
  obtain ⟨htaps, hstored⟩ := taps
  have tap : (loadConfig u).taps[n] = { s.taps[n] with cfg := s.stored.taps[n] } := by
    simp [loadConfig, htaps, hstored]
  have final : (newPeriod (grace (markWithdrawn (loadConfig u)))).taps[n] =
      { (markWithdrawn (loadConfig u)).taps[n] with acted := 0 } := by simp [newPeriod, grace]
  have marked : (markWithdrawn (loadConfig u)).taps[n] = _ := State.mapTaps_taps ..
  rw [final, marked, tap]
  constructor
  · split <;> rfl
  · intro hgang hfew
    have short : unrated (loadConfig u) n = true := by
      rw [unrated, tap]
      show (if s.stored.taps[n].gang = true then _ else decide (s.taps[n].stake.healthy < 4)) = true
      rw [if_neg (Bool.eq_false_iff.mp hgang)]
      exact decide_eq_true hfew
    rw [if_pos short]

/-- The choice of bank leaves all but the image store (R354, R370). -/
theorem bootBank_outside (b s) : let t := bootBank b s
    t = { s with
      fw := t.fw, sys := { s.sys with fallback := t.sys.fallback, bootAlerts := t.sys.bootAlerts, trial := t.sys.trial } } ∧
    t.fw.active = b := by
  unfold bootBank
  dsimp only
  split <;> exact ⟨rfl, rfl⟩

/-- The images that pass their check, by the outcomes of a `BOOT_COMPLETE`. -/
def passing (b0 b1 : Bool) (k : Nat) : Bool := if k = 0 then b0 else b1

/-- BOOT with its self-test passed (R26, R354). -/
def bootPassed (b0 b1 : Bool) (s : State) : State := match pickBank (passing b0 b1) s with
  | none => bootToRecovery 8 (bootFinish true s)
  | some b =>
    let t := bootFinish true (bootBank b s)
    if t.sys.recReq then bootToRecovery t.sys.cause t
    else vselOccasion true (decideRole (enterStandby t.sys.cause (t.modSys fun y => { y with cores := 0xFF, clOn := 0xF, clWaking := 0 })))

/-- BOOT with its self-test failed (R26). -/
def bootFailed (b0 b1 : Bool) (s : State) : State := match pickBank (passing b0 b1) s with
  | none => (enterSafe 7 (bootFinish false s)).modSys fun y => { y with cores := 1, clOn := 0xF, clWaking := 0 }
  | some b => (enterSafe 7 (bootFinish false (bootBank b s))).modSys fun y => { y with cores := 0xFF, clOn := 0xF, clWaking := 0 }

theorem bootComplete_passed {s : State} (h : s.sys.st = .boot) (b0 b1) :
    exec (.bootComplete true b0 b1) s = .next (withFlt (bootPassed b0 b1) s) := if_neg (not_not.mpr h)

theorem bootComplete_failed {s : State} (h : s.sys.st = .boot) (b0 b1) :
    exec (.bootComplete false b0 b1) s = .next (withFlt (bootFailed b0 b1) s) := if_neg (not_not.mpr h)

theorem withFlt_outside (f : State → State) (s : State) : withFlt f s = { f s with shown := (withFlt f s).shown } := by
  apply State.ext_parts <;> simp

theorem enterSafe_selfTest (cause s) : (enterSafe cause s).sys.selfTest = s.sys.selfTest := by
  simp [enterSafe, setState_sys]

theorem pickBank_active {ok : Nat → Bool} {s : State} (hok : ok s.fw.active = true) (hgood : bankGood s s.fw.active = true) :
    pickBank ok s = some s.fw.active :=
  if_pos (show (ok s.fw.active && bankGood s s.fw.active) = true by rw [hok, hgood]; rfl)

theorem pickBank_none {ok : Nat → Bool} {s : State} (hact : s.fw.active ≤ 1) (h0 : ok 0 = true → bankGood s 0 = false)
    (h1 : ok 1 = true → bankGood s 1 = false) : pickBank ok s = none := by
  have no (k : Nat) (hk : k ≤ 1) : ¬ (ok k && bankGood s k) = true := by
    rw [Bool.and_eq_true]
    rintro ⟨hok, hgood⟩
    obtain rfl | rfl : k = 0 ∨ k = 1 := by omega
    · rw [h0 hok] at hgood; cases hgood
    · rw [h1 hok] at hgood; cases hgood
  exact (if_neg (no _ hact)).trans (if_neg (no (inactive s) (Nat.sub_le ..)))

theorem pickBank_some {ok : Nat → Bool} {s : State} (hact : s.fw.active ≤ 1) (h0 : ok 0 = true) (h1 : ok 1 = true)
    (hgood : bankGood s 0 = true ∨ bankGood s 1 = true) : ∃ b, pickBank ok s = some b := by
  by_cases active : (ok s.fw.active && bankGood s s.fw.active) = true
  · exact ⟨_, if_pos active⟩
  · refine ⟨inactive s, (if_neg active).trans (if_pos ?_)⟩
    show (ok (inactive s) && bankGood s (inactive s)) = true
    obtain h | h : s.fw.active = 0 ∨ s.fw.active = 1 := by omega
    · rw [h, h0] at active
      rw [inactive, h, h1]
      exact hgood.resolve_left active
    · rw [h, h1] at active
      rw [inactive, h, h0]
      exact hgood.resolve_right active

/-- SAFE after a failed self-test (R26). -/
theorem enterSafe_failed {u : State} (h : u.sys.selfTest = true) (f : Sys → Sys)
    (hf : ∀ y, (f y).st = y.st ∧ (f y).cause = y.cause ∧ (f y).selfTest = y.selfTest) :
    ((enterSafe 7 u).modSys f).sys.st = .safe ∧ ((enterSafe 7 u).modSys f).sys.cause = 7 ∧
      ((enterSafe 7 u).modSys f).sys.selfTest = true ∧ AllStopped ((enterSafe 7 u).modSys f) := by
  obtain ⟨hcause, -, -, hports, htaps⟩ := enterSafe_stops 7 u
  have hst := enterSafe_st 7 u
  have hself := (enterSafe_selfTest 7 u).trans h
  generalize enterSafe 7 u = v at *
  obtain ⟨fst, fcause, fself⟩ := hf v.sys
  exact ⟨fst.trans hst, fcause.trans hcause, fself.trans hself, htaps, fun x => (hports x).1⟩

theorem bootFailed_shows (b0 b1 s) : (bootFailed b0 b1 s).sys.st = .safe ∧ (bootFailed b0 b1 s).sys.cause = 7 ∧
    (bootFailed b0 b1 s).sys.selfTest = true ∧ AllStopped (bootFailed b0 b1 s) := by
  have self (u) : (bootFinish false u).sys.selfTest = true := congrArg Sys.selfTest (bootFinish_shows false u).1
  unfold bootFailed
  split
  · have known := self s
    generalize bootFinish false s = u at *
    exact enterSafe_failed known _ fun y => ⟨rfl, rfl, rfl⟩
  · next b _ =>
    have known := self (bootBank b s)
    generalize bootFinish false (bootBank b s) = u at *
    exact enterSafe_failed known _ fun y => ⟨rfl, rfl, rfl⟩

theorem decideRole_outside (s : State) : decideRole s = { s with bp := (decideRole s).bp } := by
  unfold decideRole
  split <;> rfl

theorem decideRole_leads {s : State} (ha : s.sys.addr = 0) (hs : s.bp.standalone = true) (hd : s.bp.addrDup = false)
    (hst : s.sys.st = .standby ∨ s.sys.st = .run) :
    (decideRole s).bp.leader = true ∧ (decideRole s).bp.leaderAddr = 0 := by
  rw [decideRole, if_pos (by simp [ha, hs, hd, hst])]
  exact ⟨rfl, rfl⟩

theorem vselOccasion_outside (always) (s : State) : vselOccasion always s = { s with vsel := (vselOccasion always s).vsel } := by
  unfold vselOccasion
  dsimp only
  split <;> rfl

/-- BOOT ends in STANDBY (R26, R319). -/
def bootStandby (u : State) : State :=
  vselOccasion true (decideRole (enterStandby u.sys.cause (u.modSys fun y => { y with cores := 0xFF, clOn := 0xF, clWaking := 0 })))

theorem bootStandby_shows {u : State} (hes : u.sys.estop = false) (hsh : u.sys.shFault = false) : let t := bootStandby u
    t.sys.st = .standby ∧ t.sys.cause = u.sys.cause ∧ t.sys.cores = 0xFF ∧ t.mtr.restored = u.mtr.restored ∧ t.fw = u.fw ∧
    t.wdg = u.wdg ∧ t.arb = u.arb ∧ t.hub.mode = u.hub.mode ∧ t.hub.modeIn = u.hub.modeIn ∧
    t.sys.slotAddr = u.sys.slotAddr ∧ t.taps = u.taps ∧ t.ports = (portsToIdle u).ports ∧
    (u.sys.addr = 0 → u.bp.standalone = true → u.bp.addrDup = false → t.bp.leader = true ∧ t.bp.leaderAddr = 0) := by
  unfold bootStandby
  have outside := enterStandby_outside (s := u.modSys fun y => { y with cores := 0xFF, clOn := 0xF, clWaking := 0 }) hes hsh
    u.sys.cause
  dsimp only at outside
  generalize enterStandby u.sys.cause _ = v at *
  intro t
  have role := decideRole_outside v
  have leads := decideRole_leads (s := v)
  have occasion : t = { decideRole v with vsel := t.vsel } := vselOccasion_outside true (decideRole v)
  clear_value t
  generalize decideRole v = w at *
  rw [occasion]
  refine ⟨by rw [role, outside], by rw [role, outside], by rw [role, outside]; rfl, by rw [role, outside]; rfl,
    by rw [role, outside]; rfl, by rw [role, outside]; rfl, by rw [role, outside]; rfl, by rw [role, outside]; rfl,
    by rw [role, outside]; rfl, by rw [role, outside]; rfl, by rw [role, outside]; rfl, by rw [role, outside]; rfl,
    fun ha hs hd => leads ?_ ?_ ?_ ?_⟩
  · rw [outside]; exact ha
  · rw [outside]; exact hs
  · rw [outside]; exact hd
  · rw [outside]; exact .inl rfl

/-- Settles O37: the choice of the bank, then what BOOT leaves, then the state it leads to. -/
theorem bootEndsByItsChecks : Obligations.BootEndsByItsChecks := by
  unfold Obligations.BootEndsByItsChecks
  refine fun s hst hact => ⟨fun hrec hes hsh b0 b1 hpass hgood => ?_, fun b0 b1 h0 h1 => ?_, fun b0 b1 => ?_,
    fun hrec hgood => ?_, congrArg _ (if_pos hst)⟩
  · have pick := pickBank_active (ok := passing b0 b1) hpass hgood
    obtain ⟨bank, hactive⟩ := bootBank_outside s.fw.active s
    obtain ⟨hsys, hrest, hfw, hgrace, hn, hloss, hmode, hmodeIn, hbp⟩ := bootFinish_shows true (bootBank s.fw.active s)
    have hports := bootFinish_ports true (bootBank s.fw.active s)
    have hlinks := bootFinish_links true (bootBank s.fw.active s)
    have htaps := bootFinish_taps true (bootBank s.fw.active s)
    have stays : (bootFinish true (bootBank s.fw.active s)).sys.recReq = false := by rw [hsys, bank]; exact hrec
    have left : bootPassed b0 b1 s = bootStandby (bootFinish true (bootBank s.fw.active s)) := by
      rw [bootPassed, pick]
      exact if_neg (Bool.eq_false_iff.mp stays)
    have estop : (bootFinish true (bootBank s.fw.active s)).sys.estop = false := by rw [hsys, bank]; exact hes
    have shunt : (bootFinish true (bootBank s.fw.active s)).sys.shFault = false := by rw [hsys, bank]; exact hsh
    have shows := bootStandby_shows estop shunt
    refine ⟨_, bootComplete_passed hst b0 b1, ?_⟩
    rw [withFlt_outside]
    generalize (withFlt (bootPassed b0 b1) s).shown = mirror
    rw [left]
    dsimp only at bank hactive
    generalize bootBank s.fw.active s = r at *
    generalize bootFinish true r = u at *
    dsimp only at shows hsys hrest hfw hgrace hn hloss hmode hmodeIn hbp
    generalize bootStandby u = t at *
    obtain ⟨tst, tcause, tcores, trest, tfw, twdg, tarb, tmode, tmodeIn, tslot, ttaps, tports, tlead⟩ := shows
    have rstored : r.stored = s.stored := by rw [bank]
    have rports : r.ports = s.ports := by rw [bank]
    have rlinks : r.links = s.links := by rw [bank]
    have rtaps : r.taps = s.taps := by rw [bank]
    have rbp : r.bp = s.bp := by rw [bank]
    rw [rstored] at hn hloss hmode hmodeIn hports htaps
    rw [rports] at hports
    rw [rlinks] at hlinks
    rw [rtaps] at htaps
    refine ⟨tst, ?_, tcores, trest.trans hrest, by rw [tfw, hfw, hactive], by rw [twdg, hgrace], by rw [twdg, hn],
      by rw [tarb, hloss], by rw [tmode, hmode], by rw [tmodeIn, hmodeIn], ?_, fun ha hs hd => tlead ?_ ?_ ?_,
      fun n => ⟨?_, fun h => ?_⟩, fun x => ?_⟩
    · rw [tcause, hsys, bank]
    · rw [tslot, hsys, bank]
    · rw [hsys, bank]; exact ha
    · rw [hbp, rbp]; exact hs
    · rw [hbp, rbp]; exact hd
    · rw [ttaps]; exact (htaps n).1
    · rw [ttaps]; exact (htaps n).2 h.1 h.2
    · rw [tports, portsToIdle_port, hlinks, hports]
      dsimp only
      split
      · next idles =>
        simp only [Bool.and_eq_true] at idles
        exact ⟨rfl, rfl, rfl, fun _ _ => (if_pos idles.1.1).symm⟩
      · next stays =>
        refine ⟨rfl, rfl, rfl, fun hd hl => ?_⟩
        rw [if_neg fun h => stays (by rw [h, hd, hl]; rfl)]
        exact hd
  · refine ⟨_, bootComplete_passed hst b0 b1, ?_⟩
    have left : bootPassed b0 b1 s = bootToRecovery 8 (bootFinish true s) := by
      rw [bootPassed, pickBank_none (ok := passing b0 b1) hact h0 h1]
    rw [(withFlt_keeps ..).1, left]
    exact ⟨rfl, rfl, rfl⟩
  · obtain ⟨tst, tcause, tself, tstop⟩ := bootFailed_shows b0 b1 s
    refine ⟨_, bootComplete_failed hst b0 b1, ?_⟩
    rw [withFlt_outside]
    generalize (withFlt (bootFailed b0 b1) s).shown = mirror
    generalize bootFailed b0 b1 s = t at *
    exact ⟨tst, tcause, tself, tstop⟩
  · obtain ⟨b, pick⟩ := pickBank_some (ok := passing true true) hact rfl rfl hgood
    obtain ⟨bank, -⟩ := bootBank_outside b s
    have hsys := (bootFinish_shows true (bootBank b s)).1
    have asks : (bootFinish true (bootBank b s)).sys.recReq = true := by rw [hsys, bank]; exact hrec
    have left : bootPassed true true s = bootToRecovery s.sys.cause (bootFinish true (bootBank b s)) := by
      rw [bootPassed, pick]
      refine (if_pos asks).trans (congrArg (bootToRecovery · _) ?_)
      rw [hsys, bank]
    refine ⟨_, bootComplete_passed hst true true, ?_⟩
    rw [(withFlt_keeps ..).1, left]
    exact ⟨rfl, rfl, rfl⟩

end Sys2Proof.Machine
end

/-! ## KEY# and ESTOP# -/

section
open Sys2Proof.Claims

namespace Sys2Proof.Machine

/-! ### Every stake and port stopped -/

theorem stopAll_outside (s : State) : stopAll s = { s with taps := (stopAll s).taps, ports := (stopAll s).ports } := rfl

theorem stopAll_tap (s : State) (n : Fin 32) : (stopAll s).taps[n] =
    { (bypStandIns s).taps[n] with stake := (bypStandIns s).taps[n].stake.halt } :=
  State.mapTaps_taps (bypStandIns s) (fun _ t => { t with stake := t.stake.halt }) n

theorem stopAll_stops (s : State) : AllStopped (stopAll s) := by
  refine ⟨fun n => ?_, fun x => ?_⟩
  · rw [stopAll_tap]
    exact ⟨rfl, rfl⟩
  · simp [stopAll, disablePorts, Port.disable_state]

theorem stopAll_bypasses {s : State} {n : Fin 32} (h : s.taps[n].state = .standIn) :
    (stopAll s).taps[n].stake.slotByp = true := by
  rw [stopAll_tap, bypStandIns_taps, if_pos h]
  rfl

theorem dropTie_state (s) (n : Fin 32) : (dropTie s).taps[n].state = s.taps[n].state := by
  obtain h | h := dropTie_taps s
  · rw [h]
  · rw [h, bypStandIns_taps]
    split <;> rfl

/-! ### ESTOP# -/

theorem enterSafe_estop (cause s) : (enterSafe cause s).sys.estop = s.sys.estop := by
  simp [enterSafe, setState_sys]

/-- ESTOP# with the hardware's own action (R364). -/
def estopped (s : State) : State :=
  let t := stopAll (s.modSys fun y => { y with estop := true })
  match t.sys.st with
  | .standby | .run | .hold => ranked 3 (enterSafe 5) t
  | .recovery => alert 0 0xA 10 0xFF 0 { t with tie := { t.tie with en := false } }
  | _ => { t with tie := { t.tie with en := false } }

theorem estop_runs {s : State} (hp : s.powered = true) : exec .estop s = .next (withFlt estopped s) := by
  show execEstop s = _
  rw [execEstop, hp]
  rfl

theorem ranked_first {r f} {s : State} (h : s.sys.acted = 0 ∨ r < s.sys.acted) :
    ranked r f s = (f s).modSys fun y => { y with acted := r } := if_neg (by omega)

/-- Settles O38, input by input. -/
theorem keyAndEstopAct : Obligations.KeyAndEstopAct := by
  unfold Obligations.KeyAndEstopAct
  refine fun s => ⟨fun h => ⟨congrArg _ (if_pos h), congrArg _ (if_pos h)⟩, fun hp hs => ?_, fun hp hs => ⟨?_, ?_⟩,
    fun hp hk hs => ?_, fun hp hl hk strap => ?_, fun hst hact => ?_, fun hst => ?_, fun hp => ?_⟩
  · have run : exec .keyShortPress s = .next (alert 3 0xA 1 0xFF 0
        (s.modSys fun y => { y with keyLow := false, keyHigh := 0, keyShort := true })) := by
      show execKeyShortPress s = _
      simp [execKeyShortPress, hp, hs, State.modSys]
    refine ⟨_, run, alert_sys .., ?_⟩
    rw [alert_shape]
    rfl
  · show execKeyShortPress s = _
    simp [execKeyShortPress, hp, hs, State.modSys]
  · show execLongPress s = _
    simp [execLongPress, hs]
  · have run : exec .longPress s = .next (event .longPress [] (stopAll (dropTie
        (s.modSys fun y => { setStr false y with longPress := true, keyLow := true, acted := 2 })))) := by
      show execLongPress s = _
      simp [execLongPress, hp, hk, hs]
    refine ⟨_, run, ?_⟩
    rw [event_eq, stopAll_outside]
    have sys := (dropTie_keeps (s.modSys fun y => { setStr false y with longPress := true, keyLow := true, acted := 2 })).1
    obtain ⟨-, -, tie⟩ := dropTie_outside (s.modSys fun y => { setStr false y with longPress := true, keyLow := true, acted := 2 })
    have state := dropTie_state (s.modSys fun y => { setStr false y with longPress := true, keyLow := true, acted := 2 })
    generalize dropTie _ = u at *
    refine ⟨by rw [sys]; rfl, by rw [sys]; rfl, by rw [sys]; rfl, tie, stopAll_stops u, by rw [sys]; rfl, fun n hn => ?_⟩
    exact stopAll_bypasses ((state n).trans hn)
  · have run : exec (.longPressReset strap) s = .next (moduleReset 3 6 (s.modSys fun y => { y with strap := strap })) := by
      show execLongPressReset strap s = _
      simp [execLongPressReset, hp, hl, hk]
    obtain ⟨hsys, -, -, hlock, -⟩ := moduleReset_shows 3 6 (s.modSys fun y => { y with strap := strap })
    exact ⟨_, run, by rw [hsys], by rw [hsys], by rw [hsys], by rw [hsys]; rfl, hlock⟩
  · have hp : s.powered = true := by obtain h | h | h := hst <;> simp [State.powered, h]
    have left : estopped s = (enterSafe 5 (stopAll (s.modSys fun y => { y with estop := true }))).modSys
        fun y => { y with acted := 3 } := by
      refine Eq.trans ?_ (ranked_first (f := enterSafe 5) (s := stopAll (s.modSys fun y => { y with estop := true })) hact)
      have state : (stopAll (s.modSys fun y => { y with estop := true })).sys.st = s.sys.st := rfl
      unfold estopped
      obtain h | h | h := hst <;> simp only [state, h]
    refine ⟨_, estop_runs hp, ?_⟩
    rw [withFlt_outside]
    generalize (withFlt estopped s).shown = mirror
    rw [left]
    have estop : (enterSafe 5 (stopAll (s.modSys fun y => { y with estop := true }))).sys.estop = true := enterSafe_estop ..
    have state := enterSafe_st 5 (stopAll (s.modSys fun y => { y with estop := true }))
    obtain ⟨cause, -, tie, ports, taps⟩ := enterSafe_stops 5 (stopAll (s.modSys fun y => { y with estop := true }))
    generalize enterSafe 5 _ = u at *
    exact ⟨rfl, state, cause, estop, tie, taps, fun x => (ports x).1⟩
  · have hp : s.powered = true := by simp [State.powered, hst]
    have left : estopped s = alert 0 0xA 10 0xFF 0 (let t := stopAll (s.modSys fun y => { y with estop := true })
        { t with tie := { t.tie with en := false } }) := by
      have state : (stopAll (s.modSys fun y => { y with estop := true })).sys.st = s.sys.st := rfl
      simp only [estopped, state, hst]
    refine ⟨_, estop_runs hp, ?_⟩
    rw [withFlt_outside]
    generalize (withFlt estopped s).shown = mirror
    rw [left, alert_shape]
    exact ⟨hst, rfl, rfl, stopAll_stops _⟩
  · have run : exec .estopRelease s = .next (fltSince s (newPeriod (s.modSys fun y => { y with estop := false }))) :=
      congrArg _ (if_pos hp)
    refine ⟨_, run, ?_, fun n => ?_, ?_, fun hes => fltSince_cleared (k := 3) hes rfl⟩
    · rw [fltSince_outside]; rfl
    · rw [fltSince_outside]
      exact State.mapTaps_taps s (fun _ t => { t with acted := 0 }) n
    · rw [fltSince_outside]; rfl

end Sys2Proof.Machine
end

/-! ## HOLD with SAFE as the state before it (O39) -/

section
open Sys2Proof.Claims
namespace Sys2Proof.Machine

/-- HOLD that shows SAFE as the state before it, with `CMD SYS_LEAVE_SAFE` of the monitor waiting for C0 to take it. -/
def heldFromSafe : State :=
  { State.reset with
    sys := { State.reset.sys with st := .hold, before := .safe, beforeCause := 1 }
    mon := { State.reset.mon with cmdWait := some (0x0105, []) } }

/-- The ready plane takes the command, which leads from SAFE to STANDBY (R26, R251, R397). -/
theorem heldFromSafe_leaves : ∃ t, exec .controlPlaneReady heldFromSafe = .next t ∧ t.sys.st = .standby :=
  ⟨_, rfl, by decide +kernel⟩

/-- Refutes O39: the statement has the ready plane lead to the state before HOLD whatever that state is, but with SAFE before
(which no run reaches: HOLD is entered from STANDBY and RUN) a `SYS_LEAVE_SAFE` that the monitor has waiting acts at once. -/
theorem not_holdKeepsTheStateBefore : ¬ Obligations.HoldKeepsTheStateBefore := by
  unfold Obligations.HoldKeepsTheStateBefore
  intro h
  obtain ⟨-, -, -, hready, -⟩ := h heldFromSafe
  obtain ⟨t, ht, hst, -⟩ := hready rfl rfl rfl nofun (by decide)
  obtain ⟨u, hu, hleft⟩ := heldFromSafe_leaves
  rw [hu] at ht
  injection ht with ht
  rw [ht, hst] at hleft
  cases hleft

end Sys2Proof.Machine
end

/-! ## The monitor in VIEW -/

section
open Sys2Proof.Claims

namespace Sys2Proof.Machine

/-! ### Reads on the monitor's bus -/

/-- What a read on the monitor's bus may change: the monitor's part, EARLY flags, the monitor's latches (R246, R391). -/
structure Watches (s t : State) : Prop where
  outside : t = { s with mon := t.mon, mbx := t.mbx, bus := { s.bus with latchMon := t.bus.latchMon } }
  test : t.mon.testLatch = s.mon.testLatch
  early : ∀ n : Fin 4, t.mbx[n] = { s.mbx[n] with early := t.mbx[n].early }

/-- A register whose value the monitor's own part, latches and EARLY flags do not change. -/
theorem mtrReg_watched {s : State} {m : Mon} (hm : m.testLatch = s.mon.testLatch) (b l) (off : Nat) :
    mtrReg { s with mon := m, mbx := b, bus := { s.bus with latchMon := l } } off = mtrReg s off := by
  have byp : latchByp { s with mon := m, mbx := b, bus := { s.bus with latchMon := l } } = latchByp s := by
    unfold latchByp
    rw [hm]
  unfold mtrReg
  rw [byp]
  rfl

theorem sysReg_watched (s : State) (m b l) (a : Nat) :
    sysReg { s with mon := m, mbx := b, bus := { s.bus with latchMon := l } } a = sysReg s a := by
  unfold sysReg
  rfl

theorem pourReg_watched (s : State) (m b l) (off : Nat) :
    pourReg { s with mon := m, mbx := b, bus := { s.bus with latchMon := l } } off = pourReg s off := rfl

theorem tapReg_watched (s : State) (m b l n) (off : Nat) :
    tapReg { s with mon := m, mbx := b, bus := { s.bus with latchMon := l } } n off = tapReg s n off := rfl

theorem srcReg_watched (s : State) (m b l x) (off : Nat) :
    srcReg { s with mon := m, mbx := b, bus := { s.bus with latchMon := l } } x off = srcReg s x off := rfl

theorem hubReg_watched (s : State) (m b l) (off : Nat) :
    hubReg { s with mon := m, mbx := b, bus := { s.bus with latchMon := l } } off = hubReg s off := rfl

theorem wdgReg_watched (s : State) (m b l) (off : Nat) :
    wdgReg { s with mon := m, mbx := b, bus := { s.bus with latchMon := l } } off = wdgReg s off := rfl

theorem tieReg_watched (s : State) (m b l) (off : Nat) :
    tieReg { s with mon := m, mbx := b, bus := { s.bus with latchMon := l } } off = tieReg s off := rfl

theorem live_watched {s : State} {m : Mon} (hm : m.testLatch = s.mon.testLatch) {b l} {a : Nat}
    (hb : 0x100 ≤ a → a < 0x200 → mbxReg b[portOf ((a - 0x100) / 0x40)] (a % 0x40) =
      mbxReg s.mbx[portOf ((a - 0x100) / 0x40)] (a % 0x40)) :
    live { s with mon := m, mbx := b, bus := { s.bus with latchMon := l } } a = live s a := by
  unfold live
  refine ite_congr rfl (fun _ => sysReg_watched ..) fun _ => ite_congr rfl (fun _ => rfl) fun _ =>
    ite_congr rfl (fun _ => rfl) fun hlo => ite_congr rfl (fun hhi => hb (by omega) hhi) fun _ => ite_congr rfl (fun _ => rfl)
      fun _ => ite_congr rfl (fun _ => rfl) fun _ => ite_congr rfl (fun _ => pourReg_watched ..) fun _ =>
      ite_congr rfl (fun _ => mtrReg_watched hm ..) fun _ => ite_congr rfl (fun _ => tapReg_watched ..) fun _ =>
      ite_congr rfl (fun _ => srcReg_watched ..) fun _ => ite_congr rfl (fun _ => rfl) fun _ =>
      ite_congr rfl (fun _ => hubReg_watched ..) fun _ => ite_congr rfl (fun _ => wdgReg_watched ..) fun _ =>
      ite_congr rfl (fun _ => rfl) fun _ => ite_congr rfl (fun _ => tieReg_watched ..) fun _ => rfl

/-- An address in the status word of a mailbox, which shows its EARLY flag. -/
def showsEarly (a : Nat) (n : Fin 4) : Prop := 0x100 ≤ a ∧ a < 0x200 ∧ portOf ((a - 0x100) / 0x40) = n ∧ a % 0x40 = 0

theorem mbxReg_watched {m m' : Mailbox} (h : m' = { m with early := m'.early }) {off : Nat} (ho : off ≠ 0) :
    mbxReg m' off = mbxReg m off := by
  rw [h]
  unfold mbxReg
  rw [if_neg ho, if_neg ho]

theorem hostReg_watched {s t : State} (h : Watches s t) {a : Nat} (ha : ∀ n, showsEarly a n → t.mbx[n] = s.mbx[n]) :
    hostReg t a = hostReg s a := by
  obtain ⟨outside, test, early⟩ := h
  have same := live_watched (s := s) (b := t.mbx) (l := t.bus.latchMon) (a := a) test fun hlo hhi => by
    by_cases h0 : a % 0x40 = 0
    · rw [ha _ ⟨hlo, hhi, rfl, h0⟩]
    · exact mbxReg_watched (early _) h0
  rw [← outside] at same
  have shown : t.shown = s.shown := by rw [outside]
  unfold hostReg
  rw [same, shown]

theorem Watches.refl (s) : Watches s s := ⟨rfl, rfl, fun _ => rfl⟩

theorem Watches.trans {s t u} (h : Watches s t) (k : Watches t u) : Watches s u := by
  refine ⟨?_, k.test.trans h.test, fun n => ?_⟩
  · rw [k.outside, h.outside]
  · rw [k.early n, h.early n]

theorem readEarly_watches (n s) : Watches s (readEarly n s) := by
  unfold readEarly
  split
  · exact .refl s
  · refine ⟨rfl, rfl, fun m => ?_⟩
    rw [State.modMbx_mbx]
    split
    · next h => rw [h]
    · rfl

theorem readEarly_other {n m : Fin 4} (h : m ≠ n) (s) : (readEarly n s).mbx[m] = s.mbx[m] := by
  unfold readEarly
  split
  · rfl
  · exact modMbx_other _ _ h

theorem regRead_watches (a s) : Watches s (regRead .monitor a s).2 := by
  unfold regRead
  split
  · split
    · exact .refl s
    · split
      · exact ⟨rfl, rfl, fun _ => rfl⟩
      · exact .refl s
  · split
    · exact readEarly_watches ..
    · exact .refl s

/-- A read of a word touches only the mailbox whose result word it is. -/
theorem regRead_mbx {a : Nat} {n : Fin 4} (h : resAddr a ≠ some n) (s) : (regRead .monitor a s).2.mbx[n] = s.mbx[n] := by
  unfold regRead
  split
  · split
    · rfl
    · split <;> rfl
  · split
    · next m hm => exact readEarly_other (fun e => h (by rw [hm, e])) s
    · rfl

theorem regRead_word {a : Nat} (hg : rsGroup a = none) (b s) : (regRead b a s).1 = hostReg s a := by
  unfold regRead
  rw [hg]
  dsimp only
  split <;> rfl

theorem readRun_watches : ∀ (k a : Nat) (s : State), Watches s (readRun .monitor false k a s).2
  | 0, _, s => .refl s
  | k + 1, a, s => (regRead_watches a s).trans (readRun_watches k _ _)

theorem readRun_length (b fix) : ∀ k (a : Nat) (s : State), (readRun b fix k a s).1.length = k
  | 0, _, _ => rfl
  | k + 1, _, _ => congrArg (· + 1) (readRun_length b fix k _ _)

theorem readRun_mbx {n : Fin 4} : ∀ {k a : Nat} (s : State), (∀ j, j < k → resAddr ((a + j) % 4096) ≠ some n) → a < 4096 →
    (readRun .monitor false k a s).2.mbx[n] = s.mbx[n]
  | 0, _, _, _, _ => rfl
  | k + 1, a, s, h, ha => by
    have first : resAddr a ≠ some n := by
      have := h 0 (by omega)
      rwa [Nat.add_zero, Nat.mod_eq_of_lt ha] at this
    refine (readRun_mbx (k := k) (a := (a + 1) % 4096) _ (fun j hj => ?_) (Nat.mod_lt _ (by omega))).trans (regRead_mbx first s)
    have := h (j + 1) (by omega)
    rwa [show ((a + 1) % 4096 + j) % 4096 = (a + (j + 1)) % 4096 by omega]

/-- Of a run of at most 64 words each shows the register as it stood before the access, but for result words and groups. -/
theorem readRun_word (s : State) {a₀ : Nat} (ha₀ : a₀ < 4096) : ∀ {k i : Nat} {t : State}, i + k ≤ 64 → Watches s t →
    (∀ n : Fin 4, (∀ j, j < i → resAddr ((a₀ + j) % 4096) ≠ some n) → t.mbx[n] = s.mbx[n]) →
    ∀ j, j < k → resAddr ((a₀ + i + j) % 4096) = none → rsGroup ((a₀ + i + j) % 4096) = none →
      (readRun .monitor false k ((a₀ + i) % 4096) t).1.getD j 0 = hostReg s ((a₀ + i + j) % 4096)
  | 0, _, _, _, _, _, _, hj, _, _ => absurd hj (by omega)
  | k + 1, i, t, hik, hw, hm, 0, _, hr, hg => by
    rw [Nat.add_zero] at hr hg ⊢
    refine (regRead_word hg ..).trans (hostReg_watched hw fun n hn => hm n fun j hj hres => ?_)
    obtain ⟨hlo, hhi, hport, hoff⟩ := hn
    unfold resAddr at hres
    split at hres
    · next hin =>
      have ports := congrArg Fin.val ((Option.some.inj hres).trans hport.symm)
      simp only [portOf] at ports
      omega
    · cases hres
  | k + 1, i, t, hik, hw, hm, j + 1, hj, hr, hg => by
    have next : nextAddr false ((a₀ + i) % 4096) = (a₀ + (i + 1)) % 4096 := by
      show ((a₀ + i) % 4096 + 1) % 4096 = _
      omega
    have shift : a₀ + i + (j + 1) = a₀ + (i + 1) + j := by omega
    rw [shift] at hr hg ⊢
    rw [readRun, next]
    refine readRun_word s ha₀ (k := k) (i := i + 1) (by omega) (hw.trans (regRead_watches ..)) (fun n hn => ?_) j (by omega) hr hg
    exact (regRead_mbx (hn i (by omega)) t).trans (hm n fun j hj => hn j (by omega))

/-! ### The line does not matter to what is read -/

theorem Watches.mon {s : State} {m : Mon} (h : m.testLatch = s.mon.testLatch) : Watches s { s with mon := m } :=
  ⟨rfl, h, fun _ => rfl⟩

theorem hostReg_mon {s : State} {m : Mon} (h : m.testLatch = s.mon.testLatch) (a) :
    hostReg { s with mon := m } a = hostReg s a := hostReg_watched (.mon h) fun _ _ => rfl

theorem latchGroup_mon {s : State} {m : Mon} (h : m.testLatch = s.mon.testLatch) (base) :
    ∀ k l, latchGroup { s with mon := m } base k l = latchGroup s base k l
  | 0, _ => rfl
  | k + 1, l => by
    rw [latchGroup, latchGroup, latchGroup_mon h, hostReg_mon h]

theorem regRead_mon {s : State} {m : Mon} (h : m.testLatch = s.mon.testLatch) (a) : regRead .monitor a { s with mon := m } =
    ((regRead .monitor a s).1, { (regRead .monitor a s).2 with mon := m }) := by
  have byp : latchByp { s with mon := m } = latchByp s := by rw [latchByp, latchByp, h]
  unfold regRead
  rw [hostReg_mon h, byp]
  split
  · dsimp only
    split
    · rfl
    · split
      · rw [latchGroup_mon h]; rfl
      · rfl
  · split
    · unfold readEarly
      dsimp only
      split <;> rfl
    · rfl

theorem readRun_mon : ∀ {k a : Nat} {s : State} {m : Mon}, m.testLatch = s.mon.testLatch →
    readRun .monitor false k a { s with mon := m } =
      ((readRun .monitor false k a s).1, { (readRun .monitor false k a s).2 with mon := m })
  | 0, _, _, _, _ => rfl
  | k + 1, a, s, m, h => by
    rw [readRun, readRun, regRead_mon h]
    dsimp only
    rw [readRun_mon (h.trans (regRead_watches a s).test.symm)]

theorem readAccess_mon {s : State} {m : Mon} (h : m.testLatch = s.mon.testLatch) (k a : Nat) :
    readAccess .monitor false k a { s with mon := m } =
      ((readAccess .monitor false k a s).1, { (readAccess .monitor false k a s).2 with mon := m }) := by
  unfold readAccess
  rw [readRun_mon h]
  dsimp only
  split <;> rfl

theorem readAccess_state (b fix k a) (s : State) : (readAccess b fix k a s).2 = (readRun b fix k a s).2 := by
  unfold readAccess
  dsimp only
  split <;> rfl

theorem dropRes_length (fix) : ∀ (a : Nat) (ws : List Word), (dropRes fix a ws).length = ws.length
  | _, [] => rfl
  | _, _ :: ws => congrArg (· + 1) (dropRes_length fix _ ws)

theorem readAccess_length (b fix k a) (s : State) : (readAccess b fix k a s).1.length = k := by
  unfold readAccess
  dsimp only
  split
  · rw [dropRes_length, readRun_length]
  · exact readRun_length ..

/-- Only result words are left out of an access. -/
theorem dropRes_word : ∀ {a : Nat} {ws : List Word} {j : Nat}, a < 4096 → resAddr ((a + j) % 4096) = none →
    (dropRes false a ws).getD j 0 = ws.getD j 0
  | _, [], _, _, _ => rfl
  | a, w :: ws, 0, ha, h => by
    rw [Nat.add_zero, Nat.mod_eq_of_lt ha] at h
    simp [dropRes, h]
  | a, w :: ws, j + 1, ha, h => by
    have next : ((a + 1) % 4096 + j) % 4096 = (a + (j + 1)) % 4096 := by omega
    exact dropRes_word (a := (a + 1) % 4096) (ws := ws) (Nat.mod_lt _ (by omega)) (by rw [next]; exact h)

theorem readAccess_word (s : State) {a k j : Nat} (ha : a < 4096) (hk : k ≤ 64) (hj : j < k)
    (hr : resAddr ((a + j) % 4096) = none) (hg : rsGroup ((a + j) % 4096) = none) :
    (readAccess .monitor false k a s).1.getD j 0 = hostReg s ((a + j) % 4096) := by
  have run := readRun_word s ha (k := k) (i := 0) (by omega) (.refl s) (fun _ _ => rfl) j hj hr hg
  rw [Nat.add_zero, Nat.mod_eq_of_lt ha] at run
  unfold readAccess
  dsimp only
  split
  · exact (dropRes_word ha hr).trans run
  · exact run

/-! ### Lines -/

theorem monLine_runs {s : State} {line : List Byte} (hp : s.powered = true) (hi : idleCr line = false)
    (hl : (typed line).length ≤ 128) (f) : monLine line f s = .next (f (echoLine line s)) := by
  refine congrArg _ ((if_neg (by simp [hp])).trans ((if_neg (by simp [hi])).trans (if_neg ?_)))
  omega

theorem long_not_idle {line : List Byte} (h : 128 < (typed line).length) : idleCr line = false := by
  refine decide_eq_false fun e => ?_
  have none : typed line = [] := by
    refine List.eq_nil_iff_forall_not_mem.mpr fun c hc => ?_
    obtain ⟨htake, hlf⟩ := List.mem_filter.mp hc
    have cr : c ∈ [0x0D] := e ▸ List.mem_filter.mpr ⟨(List.takeWhile_sublist _).mem htake, hlf⟩
    have before := List.mem_takeWhile_imp htake
    rw [List.mem_singleton.mp cr] at before
    exact absurd before (by decide)
  rw [none] at h
  exact absurd h (by decide)

theorem monLine_long {s : State} {line : List Byte} (hp : s.powered = true) (hl : 128 < (typed line).length) (f) :
    monLine line f s = .next (monErr 7 (echoLine line s)) :=
  congrArg _ ((if_neg (by simp [hp])).trans ((if_neg (by simp [long_not_idle hl])).trans (if_pos hl)))

/-- A read of registers by the monitor (R395). -/
theorem rd_runs {s : State} {line : List Byte} {addr count : Nat} (hp : s.powered = true) (hsays : Says line addr count)
    (hl : (typed line).length ≤ 128) (hlo : 1 ≤ count) (hhi : count ≤ 64) (ha : addr < 4096) (stop) :
    exec (.rd addr ⟨count, line, stop⟩) s = .next (listed stop (monShow (.rows 8 (some addr))
      (readAccess .monitor false count addr s).1
      { (readAccess .monitor false count addr s).2 with mon := (echoLine line s).mon })) := by
  obtain ⟨hi, h1, h2⟩ := hsays
  show execRd addr ⟨count, line, stop⟩ s = _
  refine (monLine_runs hp hi hl _).trans (congrArg _ ?_)
  dsimp only
  rw [h1, h2]
  refine (if_pos ⟨hlo, hhi, ha⟩).trans ?_
  have read := readAccess_mon (s := s) (m := (echoLine line s).mon) rfl count addr
  rw [show readAccess .monitor false count addr (echoLine line s) = _ from read]

/-- The words of `ST` (R395). -/
def stateWords (s : State) : List Word :=
  [word (modCode s.sys.st)] ++ (s.taps.toList.map fun t => word (tapCode t.state))
    ++ (s.ports.toList.map fun p => word (portCode p.state)) ++ (s.links.toList.map fun l => word (linkCode l.state))

theorem stateWords_length (s) : (stateWords s).length = 41 := by simp [stateWords]

theorem stateWords_tap (s) (n : Fin 32) : (stateWords s).getD (1 + n.val) 0 = word (tapCode s.taps[n].state) := by
  rw [Nat.add_comm, stateWords]
  simp [List.getElem?_append]

theorem stateWords_port (s) (x : Fin 4) : (stateWords s).getD (33 + x.val) 0 = word (portCode s.ports[x].state) := by
  rw [show 33 + x.val = 32 + x.val + 1 by omega, stateWords]
  simp [List.getElem?_append]

theorem stateWords_link (s) (x : Fin 4) : (stateWords s).getD (37 + x.val) 0 = word (linkCode s.links[x].state) := by
  rw [show 37 + x.val = 32 + (4 + x.val) + 1 by omega, stateWords]
  simp [List.getElem?_append]

/-- What `ST` shows (R395). -/
def showStates (s : State) : State :=
  let (k, s) := s.draw
  listed (some (Config.freeValue k)) (monShow (.rows 1 none) (stateWords s) s)

/-- Settles O40, function by function. -/
theorem monitorViewOnlyShows : Obligations.MonitorViewOnlyShows := by
  unfold Obligations.MonitorViewOnlyShows
  refine fun line stop s hp => ⟨fun hl a k => ⟨?_, ?_⟩, fun a k => ?_, fun hl => ⟨fun hs => ?_, fun hs => ?_,
    fun addr count hs hlo hhi ha => ?_, fun addr count hs hbad => ?_, ?_, fun seq h hs hh => ?_, fun seq c hs hh => ?_,
    fun hi => ?_, fun hi => ?_, ?_⟩⟩
  · have run : exec (.rd a ⟨k, line, stop⟩) s = .next (monErr 7 (echoLine line s)) := by
      show execRd a ⟨k, line, stop⟩ s = _
      exact monLine_long hp hl _
    exact ⟨_, run, rfl, rfl, rfl⟩
  · have run : exec (.bbRecord a ⟨none, line, stop⟩) s = .next (monErr 7 (echoLine line s)) := by
      show execBbRecord a ⟨none, line, stop⟩ s = _
      exact monLine_long hp hl _
    exact ⟨_, run, rfl, rfl⟩
  · have run : exec (.rd a ⟨k, [0x0D], stop⟩) s = .next (monShow .prompt [] (echoLine [0x0D] s)) := by
      show execRd a ⟨k, [0x0D], stop⟩ s = _
      exact congrArg _ ((if_neg (by simp [hp])).trans (if_pos rfl))
    refine ⟨_, run, rfl, rfl, ?_, rfl⟩
    simp [monText, monShow, echoLine, State.modMon, typed, prompt]
  · have run := rd_runs hp hs hl (by omega) (by omega) (by omega) stop
    rw [readAccess_plain rfl rfl, hostReg_id] at run
    exact ⟨_, run, rfl, rfl, rfl, rfl⟩
  · have run := rd_runs hp hs hl (by omega) (by omega) (by omega) stop
    rw [readAccess_plain rfl rfl, hostReg_cap] at run
    exact ⟨_, run, rfl, rfl⟩
  · obtain ⟨outside, -, early⟩ := readRun_watches count addr s
    have quiet (n : Fin 4) (h : ∀ j, j < count → resAddr ((addr + j) % 4096) = none) :=
      readRun_mbx (n := n) s (fun j hj => by rw [h j hj]; nofun) ha
    have word (j) (hj : j < count) := readAccess_word s ha hhi hj
    have len := readAccess_length .monitor false count addr s
    have run := rd_runs hp hs hl hlo hhi ha stop
    rw [← readAccess_state] at outside early quiet
    dsimp only
    generalize readAccess .monitor false count addr s = r at *
    refine ⟨_, run, rfl, len, rfl, rfl, rfl, word, rfl, early, fun h => Vector.ext fun n hn => quiet ⟨n, hn⟩ h, ?_⟩
    rw [outside]
    rfl
  · have run : exec (.rd addr ⟨count, line, stop⟩) s = .next (monErr 1 (echoLine line s)) := by
      obtain ⟨hi, h1, h2⟩ := hs
      show execRd addr ⟨count, line, stop⟩ s = _
      refine (monLine_runs hp hi hl _).trans (congrArg _ ?_)
      dsimp only
      rw [h1, h2]
      exact if_neg (by omega)
    exact ⟨_, run, rfl, rfl, rfl⟩
  · have run := monLine_runs hp (line := chars "BB") (by decide) (by decide) fun s =>
      monOk (wordsOf 2 (oldest s.bbx) ++ wordsOf 2 (newest s.bbx) ++ [word (bit s.bbx.okA 0 + bit s.bbx.okB 1)]) s
    exact ⟨_, show execBb s = _ from run, rfl, rfl⟩
  · have run : exec (.bbRecord seq ⟨none, line, stop⟩) s = .next (listed stop (monShow (.rows 8 none)
        (if 2 < (lineWords (typed line)).length then h.words.take 64 else h.words) (echoLine line s))) := by
      obtain ⟨hi, h1, h2⟩ := hs
      show execBbRecord seq ⟨none, line, stop⟩ s = _
      refine (monLine_runs hp hi hl _).trans (congrArg _ ?_)
      dsimp only [Option.getD]
      rw [h1, h2]
      have held : heldRec (echoLine line s).bbx seq = some h := hh
      simp [held]
    exact ⟨_, run, rfl, rfl, rfl⟩
  · have run : exec (.bbRecord seq ⟨c, line, stop⟩) s = .next (monErr 6 (echoLine line s)) := by
      obtain ⟨hi, h1, h2⟩ := hs
      show execBbRecord seq ⟨c, line, stop⟩ s = _
      refine (monLine_runs hp hi hl _).trans (congrArg _ ?_)
      dsimp only
      rw [h1, h2]
      have held : heldRec (echoLine line s).bbx seq = none := hh
      simp [held]
    exact ⟨_, run, rfl, rfl⟩
  · have run := monLine_runs hp hi hl fun s => (monShow (.rows 8 none) [] s).modMon fun m => { m with listing := true }
    exact ⟨_, show execBbNew ⟨false, line, stop⟩ s = _ from run, rfl, rfl⟩
  · exact show execBbNew ⟨true, line, stop⟩ s = _ from monLine_runs hp hi hl fun s => s
  · have run := monLine_runs hp (line := chars "ST") (by decide) (by decide) fun s => showStates s
    exact ⟨_, show execSt s = _ from run, stateWords_length _, rfl, stateWords_tap s, stateWords_port s, stateWords_link s,
      rfl, rfl⟩

end Sys2Proof.Machine
end

/-! ## The service console -/

section
open Sys2Proof.Claims

namespace Sys2Proof.Machine

/-! ### Commands that the monitor's own part does not matter to -/

/-- The state with the monitor's part put in. -/
def State.withMon (m : Mon) (s : State) : State := { s with mon := m }

/-- A reply with the monitor's part put in. -/
def Reply.withMon (m : Mon) : Reply → Reply
  | .now c res t => .now c res (t.withMon m)
  | .later t => .later (t.withMon m)

/-- What a command does does not depend on the monitor's part, and leaves it. -/
def MonBlind (run : List Word → State → Reply) : Prop := ∀ args s m, run args (s.withMon m) = (run args s).withMon m

theorem checked_withMon {cs : List (Option Nat)} {s : State} {r r' : Reply} (m) (h : r = r'.withMon m) :
    checked cs (s.withMon m) r = (checked cs s r').withMon m := by
  unfold checked
  split
  · rfl
  · exact h

theorem toFlash_withMon {f : State → Reply} {s : State} (m) (h : f (s.withMon m) = (f s).withMon m) :
    toFlash f (s.withMon m) = (toFlash f s).withMon m := by
  cases hr : f s with
  | later t =>
    unfold toFlash
    rw [h, hr]
    rfl
  | now c res t =>
    cases c with
    | zero =>
      rw [toFlash_done hr, toFlash_done (h.trans (congrArg (Reply.withMon m) hr))]
      exact (apply_ite (Reply.withMon m) (Config.flashFails s.free = true) (.now 0x60 [] { s with free := s.free + 1 })
        (.now 0 res { t with free := t.free + 1 })).symm
    | succ c =>
      unfold toFlash
      rw [h, hr]
      rfl

theorem runGetInfo_blind : MonBlind runGetInfo := fun _ _ _ => rfl
theorem runEnterRecovery_blind : MonBlind runEnterRecovery := fun _ _ _ => rfl
theorem runReset_blind : MonBlind runReset := fun _ _ _ => rfl
theorem runFwInfo_blind : MonBlind runFwInfo := fun _ _ _ => rfl
theorem runGetHistory_blind : MonBlind runGetHistory := fun args s m => by
  unfold runGetHistory
  refine checked_withMon m ?_
  rw [show (s.withMon m).bbx = s.bbx from rfl]
  split <;> rfl
theorem runGetRods_blind : MonBlind runGetRods := fun args s m => by
  unfold runGetRods
  dsimp only
  split
  · rfl
  · rw [apply_ite (Reply.withMon m)]
    exact ite_congr rfl (fun _ => rfl) fun _ => checked_withMon m rfl
theorem runLnkStatus_blind : MonBlind runLnkStatus := fun args s m => by
  unfold runLnkStatus
  exact checked_withMon m rfl
theorem runEvidence_blind : MonBlind runEvidence := fun args s m => by
  unfold runEvidence
  refine checked_withMon m ?_
  rw [show (s.withMon m).wdg = s.wdg from rfl]
  split <;> rfl
theorem runStageBegin_blind : MonBlind runStageBegin := fun args s m => by
  unfold runStageBegin
  exact checked_withMon m rfl
theorem runStageWrite_blind : MonBlind runStageWrite := fun args s m => by
  unfold runStageWrite
  exact checked_withMon m (toFlash_withMon m rfl)
theorem runStageVerify_blind : MonBlind runStageVerify := fun args s m => by
  unfold runStageVerify
  exact checked_withMon m rfl
theorem runActivate_blind : MonBlind runActivate := fun args s m => by
  unfold runActivate
  exact checked_withMon m rfl

theorem alert_withMon (cls kind reason inst param) (s : State) (m) :
    alert cls kind reason inst param (s.withMon m) = (alert cls kind reason inst param s).withMon m := by
  unfold alert alertAt
  dsimp only
  rw [apply_ite (State.withMon m)]
  exact ite_congr rfl (fun _ => rfl) fun _ => rfl

/-- The alert of a duplicate address that waits for STANDBY (R310). -/
def dupTold (s : State) : State :=
  if s.bp.dupAlert then alert 0 9 1 0xFF 0 { s with bp := { s.bp with dupAlert := false } } else s

theorem dupTold_withMon (s : State) (m) : dupTold (s.withMon m) = (dupTold s).withMon m := by
  unfold dupTold
  rw [apply_ite (State.withMon m)]
  exact ite_congr rfl (fun _ => alert_withMon (s := { s with bp := { s.bp with dupAlert := false } }) ..) fun _ => rfl

theorem standbyAlerts_eq (s : State) : standbyAlerts s =
    if (dupTold s).sys.bootAlerts then alert 1 0xA 2 0xFF 0 ((dupTold s).modSys fun y => { y with bootAlerts := false })
    else dupTold s := rfl

theorem standbyAlerts_withMon (s : State) (m) : standbyAlerts (s.withMon m) = (standbyAlerts s).withMon m := by
  rw [standbyAlerts_eq, standbyAlerts_eq, dupTold_withMon, apply_ite (State.withMon m)]
  exact ite_congr rfl (fun _ => alert_withMon (s := (dupTold s).modSys fun y => { y with bootAlerts := false }) ..) fun _ => rfl

theorem fallBack_withMon (s : State) (m) : fallBack (s.withMon m) = (fallBack s).withMon m := by
  unfold fallBack
  rw [apply_ite (State.withMon m)]
  exact ite_congr rfl (fun _ => rfl) fun _ => rfl

theorem startSnaps_withMon (s : State) (m) : startSnaps (s.withMon m) = (startSnaps s).withMon m := by
  unfold startSnaps
  rw [show (s.withMon m).mtr = s.mtr from rfl]
  split <;> rfl

theorem vselOccasion_withMon (always) (s : State) (m) :
    vselOccasion always (s.withMon m) = (vselOccasion always s).withMon m := by
  unfold vselOccasion
  rw [apply_ite (State.withMon m)]
  exact ite_congr rfl (fun _ => rfl) fun _ => rfl

/-- Entry to STANDBY with nothing that leads on to SAFE. -/
theorem enterStandby_eq {s : State} (hes : s.sys.estop = false) (hsh : s.sys.shFault = false) (cause) :
    enterStandby cause s = standbyAlerts (fallBack (portsToIdle (setState .standby cause (startSnaps s)))) := by
  have alerts := standbyAlerts_outside (fallBack (portsToIdle (setState .standby cause (startSnaps s))))
  have cap := fallBack_outside (portsToIdle (setState .standby cause (startSnaps s)))
  have snaps := startSnaps_outside s
  unfold enterStandby
  dsimp only at *
  generalize standbyAlerts _ = u at *
  generalize fallBack _ = v at *
  generalize startSnaps s = w at *
  have settled : u.sys.estop = false ∧ u.sys.shFault = false := by
    rw [alerts, cap, snaps]
    exact ⟨hes, hsh⟩
  rw [if_neg (Bool.eq_false_iff.mp settled.1), if_neg (Bool.eq_false_iff.mp settled.2)]

theorem runLeaveSafe_blind : MonBlind runLeaveSafe := fun args s m => by
  have fault : latchedFault (s.withMon m) = latchedFault s := rfl
  unfold runLeaveSafe
  rw [apply_ite (Reply.withMon m)]
  refine ite_congr rfl (fun _ => rfl) fun calm => ?_
  simp only [Bool.or_eq_true, not_or, Bool.not_eq_true] at calm
  obtain ⟨hes, hfault⟩ := calm
  have hsh : s.sys.shFault = false := by
    simp only [latchedFault, Bool.or_eq_false_iff] at hfault
    exact hfault.2
  rw [enterStandby_eq (s := (s.withMon m)) hes hsh, enterStandby_eq hes hsh]
  refine congrArg done ?_
  rw [startSnaps_withMon]
  generalize startSnaps s = u
  have cap := fallBack_withMon (portsToIdle (setState .standby 1 u)) m
  exact (congrArg (vselOccasion false) ((congrArg standbyAlerts cap).trans (standbyAlerts_withMon ..))).trans
    (vselOccasion_withMon ..)

/-- Whatever `CMD` may pass does not depend on the monitor's part. -/
theorem monRunOf_blind {op run} (h : monRunOf op = some run) : MonBlind run := by
  unfold monRunOf at h
  split at h <;> simp only [Option.some.injEq, reduceCtorEq] at h <;> subst h
  exacts [runGetInfo_blind, runLeaveSafe_blind, runEnterRecovery_blind, runReset_blind, runGetHistory_blind, runGetRods_blind,
    runLnkStatus_blind, runEvidence_blind, runFwInfo_blind, runStageBegin_blind, runStageWrite_blind, runStageVerify_blind,
    runActivate_blind]

theorem lateReply_withMon (op) (s : State) (m) (r : Reply) :
    lateReply op (s.withMon m) (r.withMon m) = (lateReply op s r).withMon m := by
  have check : recheck op (s.withMon m) = recheck op s := rfl
  cases r with
  | later t =>
    unfold lateReply
    dsimp only [Reply.withMon]
    rw [check]
    split <;> rfl
  | now c res t =>
    unfold lateReply
    dsimp only [Reply.withMon]
    rw [check]
    by_cases h : c = 0 ∨ c = 1 ∨ c = 0x60
    · rw [if_pos h, if_pos h]
      split <;> rfl
    · rw [if_neg h, if_neg h]

/-- A command from the monitor does not depend on its part but for what was taken. -/
theorem issue_withMon {run} (h : MonBlind run) (op args) {s : State} {m : Mon} (hm : m.cmdTaken = s.mon.cmdTaken) :
    issue op run .monitor args (s.withMon m) = (issue op run .monitor args s).withMon m := by
  have taken : isTaken .monitor (s.withMon m) = isTaken .monitor s :=
    congrArg (decide (s.sys.st ≠ .boot) && ·) hm
  have told (r : Reply) : deliver .monitor (r.withMon m) = (deliver .monitor r).withMon m := by
    cases r <;> rfl
  unfold issue
  rw [taken, h args s m, apply_ite (State.withMon m)]
  refine ite_congr rfl (fun _ => rfl) fun _ => ?_
  rw [apply_ite (State.withMon m)]
  refine ite_congr rfl (fun _ => ?_) fun _ => ?_
  · rw [apply_ite (State.withMon m)]
    exact ite_congr rfl (fun _ => (congrArg (deliver .monitor) (lateReply_withMon ..)).trans (told _)) fun _ => rfl
  · have gates : gate op (s.withMon m) = gate op s := rfl
    rw [gates]
    split
    · rfl
    · rw [apply_ite (State.withMon m)]
      exact ite_congr rfl (fun _ => told _) fun _ => rfl

/-! ### What `CMD` may pass -/

theorem passed_none {op args} (h : passed op args = none) : monRunOf op = none := by
  unfold passed at h
  split at h
  case h_14 =>
    unfold monRunOf
    split <;> simp_all
  all_goals cases h

/-- A row that `CMD` may pass is the command itself, where no island holds an earlier one (R397). -/
theorem passed_some {op args i} (h : passed op args = some i) : ∃ run, monRunOf op = some run ∧
    ∀ s : State, s.held = [] → exec i s = .next (issue op run .monitor args s) := by
  unfold passed at h
  split at h <;> simp only [Option.some.injEq, reduceCtorEq] at h <;> subst h
  case h_6 =>
    refine ⟨_, rfl, fun s hs => ?_⟩
    show afterHeld 0x0315 runGetRods .monitor args s = _
    have alone : behind (0x0315, .monitor, args) s = false := by rw [behind, hs]; rfl
    exact if_neg fun h => by rw [alone] at h; exact Bool.false_ne_true h.2.2
  all_goals exact ⟨_, rfl, fun s _ => rfl⟩

theorem word_toNat (args : List Word) : (args.map (·.toNat)).map word = args := by
  rw [List.map_map]
  exact (List.map_congr_left fun w _ => BitVec.ofNat_toNat 16 w).trans ((List.map_congr_left fun w _ => BitVec.setWidth_eq w).trans
    (List.map_id args))

/-- The state in which `CMD` passes its command. -/
def cmdAsked (line : List Byte) (s : State) : State := (echoLine line s).modMon fun m => { m with cmdTaken := false }

theorem svcRun_view {s : State} {line : List Byte} (hp : s.powered = true) (hl : (typed line).length ≤ 128)
    (hi : idleCr line = false) (hv : s.mon.service = false) (f) : svcRun line f s = .next (monErr 5 (echoLine line s)) :=
  (monLine_runs hp hi hl fun s => if s.mon.service then f s else monErr 5 s).trans
    (congrArg _ (if_neg (Bool.eq_false_iff.mp hv)))

theorem svcRun_runs {s : State} {line : List Byte} (hp : s.powered = true) (hl : (typed line).length ≤ 128)
    (hi : idleCr line = false) (hv : s.mon.service = true) (f) : svcRun line f s = .next (f (echoLine line s)) :=
  (monLine_runs hp hi hl fun s => if s.mon.service then f s else monErr 5 s).trans (congrArg _ (if_pos hv))

theorem cmd_runs {s : State} {line : List Byte} {op : Word} {args : List Word} (hp : s.powered = true)
    (hl : (typed line).length ≤ 128) (hi : idleCr line = false) (hv : s.mon.service = true)
    (hop : numAt line 1 op.toNat = some op.toNat)
    (hargs : numsFrom line 2 (args.map (·.toNat)) = some (args.map (·.toNat))) :
    exec (.cmd op ⟨args, line, none⟩) s = .next (match monRunOf op.toNat with
      | none => monErr 0x20 (echoLine line s)
      | some run =>
        if s.sys.st = .boot ∨ s.sys.st = .hold ∨ s.mon.inFlight = true then monErr 4 (echoLine line s)
        else passCmd op.toNat run args (cmdAsked line s)) := by
  show execCmd op ⟨args, line, none⟩ s = _
  refine (svcRun_runs hp hl hi hv _).trans (congrArg _ ?_)
  dsimp only
  rw [hop, hargs]
  dsimp only
  cases monRunOf op.toNat with
  | none => rfl
  | some run =>
    rw [word_toNat]
    refine ite_congr ?_ (fun _ => rfl) fun _ => rfl
    show ((decide (s.sys.st = .boot ∨ s.sys.st = .hold) || s.mon.inFlight) = true) = _
    simp [or_assoc]

/-- A failed answer (R393). -/
theorem authFail_shows (s : State) : (authFail s).mon.service = s.mon.service ∧ (authFail s).mon.nonce = none ∧
    (authFail s).mon.outErr = some 2 ∧
    (s.mon.blocked = false → (authFail s).mon.blocked = decide (2 ≤ (recent s.sys.uptime 600000 s.mon.fails).length)) := by
  unfold authFail
  extract_lets fs s₁
  have len : fs.length = (recent s.sys.uptime 600000 s.mon.fails).length + 1 := List.length_append
  split
  · next h =>
    rw [alert_shape]
    refine ⟨rfl, rfl, rfl, fun _ => (decide_eq_true ?_).symm⟩
    omega
  · next h =>
    refine ⟨rfl, rfl, rfl, fun hb => Eq.trans hb (decide_eq_false ?_).symm⟩
    omega

theorem auth_runs {s : State} {line : List Byte} {a : Option (List Byte)} (hp : s.powered = true) (hi : idleCr line = false)
    (hl : (typed line).length ≤ 128) : exec (.auth ⟨a, line, none⟩) s = .next (let e := echoLine line s
      if e.mon.blocked then monErr 2 e else match a with
      | none =>
        let (k, u) := e.draw
        monShow .nonce (nonceWords (Config.nonce k)) (u.modMon fun m => { m with nonce := some (k, u.sys.uptime) })
      | some sig => match e.mon.nonce with
        | none => authFail e
        | some (k, t0) =>
          let key := authKey e (Config.nonce k) sig
          if sig.length ≠ 64 ∨ key = 0 ∨ t0 + 60000 < e.sys.uptime then authFail e
          else monShow .key [word key] (event .authDone [key] (e.modMon fun m => { m with nonce := none, service := true }))) := by
  refine congrArg _ ((if_neg (by simp [hp])).trans ((if_neg (by simp [hi])).trans (if_neg ?_)))
  show ¬ (if a.isSome then 133 else 128) < (typed line).length
  split <;> omega

/-- A command that `CMD` passes does from the monitor's channel what its own row does (R397). -/
theorem passCmd_shows {op run args} (h : MonBlind run) (line : List Byte) (s : State) :
    let u := issue op run .monitor args { s with monAnswer := none, mon := { s.mon with cmdTaken := false } }
    let t := passCmd op run args (cmdAsked line s)
    t.mon.outErr = none ∧ (∀ r : Answer, u.monAnswer = some r → t.mon.out = word r.code :: r.res ∧ t.mon.inFlight = false) ∧
      (u.monAnswer = none → t.mon.out = [] ∧ t.mon.inFlight = true ∧ t.mon.cmdWait = some (op, args)) ∧
      t = { u with mon := t.mon, monAnswer := none } := by
  have blind := issue_withMon h op args (s := { s with monAnswer := none, mon := { s.mon with cmdTaken := false } })
    (m := (cmdAsked line s).mon) rfl
  intro u t
  have pass : t = match u.monAnswer with
      | some r => (monShow .command (word r.code :: r.res) { u.withMon (cmdAsked line s).mon with monAnswer := none }).modMon
          fun m => { m with inFlight := false, cmdWait := none, cmdTaken := false }
      | none => (monShow .command [] (u.withMon (cmdAsked line s).mon)).modMon fun m =>
          { m with inFlight := true, cmdWait := some (op, args), cmdTaken := m.cmdTaken || c0Up (cmdAsked line s) } := by
    show passCmd op run args (cmdAsked line s) = _
    unfold passCmd
    rw [show issue op run .monitor args { cmdAsked line s with monAnswer := none } = _ from blind]
    rfl
  clear_value t
  clear_value u
  subst pass
  cases hu : u.monAnswer with
  | none =>
    refine ⟨rfl, nofun, fun _ => ⟨rfl, rfl, rfl⟩, ?_⟩
    cases u
    cases hu
    rfl
  | some r =>
    refine ⟨rfl, fun q hq => ?_, nofun, rfl⟩
    obtain rfl := Option.some.inj hq
    exact ⟨rfl, rfl⟩

/-- The last records of a core's ring as they are listed (R386). -/
def ringShown (c : Fin 8) (k : Nat) (s : State) : State :=
  listed none (monShow (.rows 16 none) ((s.perf[c].ring.drop (s.perf[c].ring.length - k)).flatMap fun e =>
    e.2.map fun b => word b.toNat) s)

theorem pr_runs {s : State} {line : List Byte} {c : Fin 8} (hp : s.powered = true) (hl : (typed line).length ≤ 128)
    (hi : idleCr line = false) (hv : s.mon.service = true) (h1 : numAt line 1 c.val = some c.val)
    (h2 : numAt line 2 64 = some 64) : exec (.pr c ⟨64, line, none⟩) s = .next (ringShown c 64 (echoLine line s)) := by
  show execPr c ⟨64, line, none⟩ s = _
  refine (svcRun_runs hp hl hi hv _).trans (congrArg _ ?_)
  dsimp only
  rw [h1, h2]
  have core : coreOf c.val = c := Fin.ext (Nat.mod_eq_of_lt c.isLt)
  exact (if_pos ⟨c.isLt, by decide, by decide⟩).trans (congrArg (ringShown · 64 (echoLine line s)) core)

theorem nonceWords_length (nonce) : (nonceWords nonce).length = 8 := by
  rw [nonceWords, List.length_reverse, wordsOf_length]

/-- `AUTH` alone asks for a nonce (R393). -/
theorem auth_asks {s : State} {line : List Byte} (hp : s.powered = true) (hi : idleCr line = false)
    (hl : (typed line).length ≤ 128) (hb : s.mon.blocked = false) : ∃ t, exec (.auth ⟨none, line, none⟩) s = .next t ∧
      t.mon.nonce = some (s.free, s.sys.uptime) ∧ t.free = s.free + 1 ∧ t.mon.service = s.mon.service ∧
      t.mon.out.length = 8 ∧ t = { s with mon := t.mon, free := t.free } := by
  have run := auth_runs (a := none) hp hi hl
  obtain ⟨mon, echoed⟩ : ∃ mon, echoLine line s = { s with mon := mon } := ⟨_, rfl⟩
  have service : mon.service = s.mon.service := congrArg (·.mon.service) echoed.symm
  have free : mon.blocked = false := (congrArg (·.mon.blocked) echoed.symm).trans hb
  rw [echoed] at run
  dsimp only at run
  rw [free, if_neg Bool.false_ne_true] at run
  exact ⟨_, run, rfl, rfl, service, nonceWords_length _, rfl⟩

/-- `SYS_RESET` from the monitor, which keeps nothing waiting, is taken once no other change is due (R357, R397). -/
theorem reset_issued {u : State} {args : List Word} (hp : u.powered = true) (hst : u.sys.st = .standby)
    (hact : u.sys.acted = 0) (h0 : u.sys.cores.getLsbD 0 = true) (hw : waits .monitor u = false)
    (ht : isTaken .monitor u = false) : issue 0x0107 runReset .monitor args u =
      if changeDue u then answer .monitor 0x30 [] u
      else answer .monitor 1 [] { u with sys := { u.sys with chg := u.sys.chg ++ [.reset] } } := by
  have up : c0Up u = true := by rw [c0Up, h0, Bool.or_true]
  have notHold : u.sys.st ≠ .hold := by rw [hst]; decide
  have gates := gate_of_info (op := 0x0107) (s := u) (info := ⟨0x0107, [.standby, .safe, .recovery], false, 0, .c0⟩) rfl
    (by rw [hst]; decide)
  cases hdue : changeDue u
  · have ha : Accepts 0x0107 .monitor args u := by
      refine ⟨hp, notHold, up, hw, ?_, ?_⟩
      · rw [gates]
        simp [hst, hact, lockedOut, hdue]
      · rw [ownerUp, show ownerCore 0x0107 args = 0 from rfl]
        simp [h0]
    exact Host.Outcome.next.inj (hostCommand_answers ha (run := runReset) rfl)
  · have denied : gate 0x0107 u = some 0x30 := by
      rw [gates]
      simp [hdue, changesState]
    exact Host.Outcome.next.inj (hostCommand_denied hp notHold up hw ht denied runReset)

/-- Settles O41: `AUTH`, the way back to VIEW, and the functions of SERVICE. -/
theorem serviceNeedsAVerifiedAnswer : Obligations.ServiceNeedsAVerifiedAnswer := by
  unfold Obligations.ServiceNeedsAVerifiedAnswer
  refine ⟨fun line s hp hi hl => ⟨fun hb => ?_, fun hb a => ?_, fun sig k t0 hb hn hlen hin => ?_, fun sig hb hn => ?_,
      congrArg _ (if_pos hp), ?_, congrArg _ (if_pos hp), congrArg _ (if_pos hp)⟩,
    fun line s hp hl hi => ⟨fun hv c n op args => ⟨?_, ?_, ?_⟩, fun hv => ⟨fun c hs => ?_, fun hst => ?_, fun hst => ?_, ?_,
      fun op args hop hargs => ⟨fun hno => ?_, fun i hpass => ⟨fun hbusy => ?_, fun hboot hhold hfree hheld => ?_⟩⟩,
      fun args hop hargs hst hact h0 hfree => ?_, fun args hop hargs => ?_⟩⟩⟩
  · exact auth_asks hp hi hl hb
  · have run := auth_runs (a := a) hp hi hl
    dsimp only at run
    rw [if_pos (show (echoLine line s).mon.blocked = true from hb)] at run
    exact ⟨_, run, rfl, rfl, rfl⟩
  · have run := auth_runs (a := some sig) hp hi hl
    dsimp only at run
    rw [if_neg (Bool.eq_false_iff.mp (show (echoLine line s).mon.blocked = false from hb)),
      show (echoLine line s).mon.nonce = some (k, t0) from hn] at run
    dsimp only at run
    rw [show authKey (echoLine line s) (Config.nonce k) sig = authKey s (Config.nonce k) sig from rfl] at run
    by_cases hk : authKey s (Config.nonce k) sig = 0
    · rw [if_pos (.inr (.inl hk))] at run
      obtain ⟨hservice, hnonce, herr, -⟩ := authFail_shows (echoLine line s)
      exact ⟨_, run, hnonce, fun _ => ⟨hservice, herr⟩, fun h => absurd hk h⟩
    · have holds : ¬ (sig.length ≠ 64 ∨ authKey s (Config.nonce k) sig = 0 ∨ t0 + 60000 < (echoLine line s).sys.uptime) := by
        rintro (h | h | h)
        · exact h hlen
        · exact hk h
        · exact absurd hin (Nat.not_le.mpr h)
      rw [if_neg holds, event_eq] at run
      exact ⟨_, run, rfl, fun h => absurd h hk, fun _ => ⟨rfl, rfl⟩⟩
  · have run := auth_runs (a := some sig) hp hi hl
    dsimp only at run
    rw [if_neg (Bool.eq_false_iff.mp (show (echoLine line s).mon.blocked = false from hb)),
      show (echoLine line s).mon.nonce = none from hn] at run
    obtain ⟨hservice, -, -, hblocked⟩ := authFail_shows (echoLine line s)
    exact ⟨_, run, hservice, hblocked hb⟩
  · exact ⟨_, show execBye s = _ from monLine_runs hp (by decide) (by decide) fun s => monOk [] (toView s), rfl, rfl, rfl⟩
  · exact ⟨_, show execPr c ⟨n, line, none⟩ s = _ from svcRun_view hp hl hi hv _, rfl, rfl⟩
  · exact ⟨_, show execTestLatchOn s = _ from svcRun_view hp (by decide) (by decide) hv _, rfl, rfl⟩
  · exact ⟨_, show execCmd op ⟨args, line, none⟩ s = _ from svcRun_view hp hl hi hv _, rfl, rfl⟩
  · obtain ⟨-, h1, h2⟩ := hs
    exact ⟨_, pr_runs hp hl hi hv h1 h2, rfl, rfl, rfl⟩
  · have run : exec .testLatchOn s = .next (monOk [] ((echoLine (chars "TEST LATCH ON") s).modMon fun m =>
        { m with testLatch := true })) := by
      show execTestLatchOn s = _
      refine (svcRun_runs hp (by decide) (by decide) hv _).trans (congrArg _ (if_pos ?_))
      exact hst
    exact ⟨_, run, rfl, rfl, rfl⟩
  · have run : exec .testLatchOn s = .next (monErr 3 (echoLine (chars "TEST LATCH ON") s)) := by
      show execTestLatchOn s = _
      refine (svcRun_runs hp (by decide) (by decide) hv _).trans (congrArg _ (if_neg ?_))
      show ¬ (s.sys.st = .standby ∨ s.sys.st = .safe ∨ s.sys.st = .recovery)
      rw [hst]
      decide
    exact ⟨_, run, rfl, rfl⟩
  · exact ⟨_, show execTestLatchOff s = _ from svcRun_runs hp (by decide) (by decide) hv _, rfl, rfl⟩
  · have run := cmd_runs hp hl hi hv hop hargs
    rw [passed_none hno] at run
    exact ⟨_, run, rfl, rfl, rfl⟩
  · obtain ⟨f, hf, -⟩ := passed_some hpass
    have run := cmd_runs hp hl hi hv hop hargs
    rw [hf] at run
    dsimp only at run
    rw [if_pos hbusy] at run
    exact ⟨_, run, rfl, rfl, rfl⟩
  · obtain ⟨f, hf, hexec⟩ := passed_some hpass
    have run := cmd_runs hp hl hi hv hop hargs
    rw [hf] at run
    dsimp only at run
    rw [if_neg (by simp [hboot, hhold, hfree])] at run
    have shows := passCmd_shows (op := op.toNat) (args := args) (monRunOf_blind hf) line s
    exact ⟨_, hexec _ hheld, _, run, shows⟩
  · have run := cmd_runs (op := 0x0107) hp hl hi hv hop hargs
    rw [show monRunOf (0x0107 : Word).toNat = some runReset from rfl] at run
    dsimp only at run
    rw [if_neg (by simp [hst, hfree])] at run
    obtain ⟨herr, hsome, -, hstate⟩ := passCmd_shows (op := (0x0107 : Word).toNat) (args := args) runReset_blind line s
    have issued := reset_issued (u := { s with monAnswer := none, mon := { s.mon with cmdTaken := false } }) (args := args)
      hp hst hact h0 rfl (Bool.and_false _)
    rw [show issue (0x0107 : Word).toNat runReset .monitor args _ = _ from issued] at hsome hstate
    refine ⟨_, run, herr, fun hdue => ?_, fun hdue => ?_⟩
    · rw [if_neg (Bool.eq_false_iff.mp (show changeDue { s with
        monAnswer := none, mon := { s.mon with cmdTaken := false } } = false from hdue))] at hsome hstate
      obtain ⟨out, -⟩ := hsome _ rfl
      exact ⟨out, by rw [hstate]; rfl⟩
    · rw [if_pos (show changeDue { s with monAnswer := none, mon := { s.mon with cmdTaken := false } } = true from hdue)]
        at hsome hstate
      obtain ⟨out, -⟩ := hsome _ rfl
      exact ⟨out, by rw [hstate]; rfl⟩
  · have run := cmd_runs (op := 0x0102) hp hl hi hv hop hargs
    exact ⟨_, run, rfl, rfl⟩

end Sys2Proof.Machine
end

/-! ## The ports' own events -/

section
open Sys2Proof.Claims

namespace Sys2Proof.Machine

theorem modPort_modPort (x) (f g : Port → Port) (s : State) :
    (s.modPort x f).modPort x g = s.modPort x fun p => g (f p) := by
  simp [State.modPort]

/-- An event that changes one port alone. -/
theorem portChange {o : Host.Outcome State Fault Refusal} {x f s p} (h : o = .next (s.modPort x f)) (hp : f s.ports[x] = p) :
    ∃ t, o = .next t ∧ t.ports[x] = p ∧ PortsBut x s t ∧ t = { s with ports := t.ports } :=
  ⟨_, h, (modPort_same ..).trans hp, PortsBut.modPort x f s, rfl⟩

/-- An event that carries a port voltage acts after it is taken. -/
theorem portEvent_acts {v s} (hp : s.powered = true) (hv : portRated v = true) (x f) :
    portEvent x v f s = .next (f (s.modPort x fun p => { p with vin := v })) := by
  unfold portEvent
  rw [hv, hp]
  rfl

/-- The window of a port does not look at its voltage (R35, R48). -/
theorem window_vin (x v) (s : State) : window (s.modPort x fun p => { p with vin := v }) x = window s x := by
  unfold window
  rw [modPort_same]
  rfl

theorem inWindow_vin (x v w) (s : State) : inWindow (s.modPort x fun p => { p with vin := v }) x w = inWindow s x w := by
  unfold inWindow
  rw [window_vin]

theorem mayQualify_vin (x v) (s : State) : mayQualify (s.modPort x fun p => { p with vin := v }) x = mayQualify s x := by
  unfold mayQualify
  rw [window_vin]
  rfl

theorem outside_vin (x v w) (s : State) : outside (s.modPort x fun p => { p with vin := v }) x w = outside s x w := by
  unfold outside
  rw [window_vin]

theorem enterQualify_acts {x} {s : State} (hi : s.ports[x].state = .idle) (hw : inWindow s x s.ports[x].vin = true)
    (hm : mayQualify s x = true) : enterQualify x s = s.modPort x fun p =>
      { p with state := if s.hub.handover then .idle else .qualify, handoverWait := s.hub.handover } := by
  unfold enterQualify
  dsimp only
  rw [hw, hm, decide_eq_true hi]
  cases hh : s.hub.handover
  · rfl
  · have own : { s.ports[x] with handoverWait := true } =
        { s.ports[x] with state := .idle, handoverWait := true } := by rw [← hi]
    exact congrArg (fun p => { s with ports := s.ports.set x p }) own

theorem leaveQualify_acts {x} {s : State} (hq : s.ports[x].state = .qualify) (hw : inWindow s x s.ports[x].vin = false) :
    leaveQualify x s = s.modPort x fun p => { p with state := .idle } := by
  unfold leaveQualify
  rw [hw, hq]
  rfl

/-! ### Trips and the hand-over they begin -/

theorem anyOnline_iff (s : State) : anyOnline s = true ↔ ∃ y : Fin 4, s.ports[y].state = .online := by
  unfold anyOnline
  rw [List.any_eq_true]
  constructor
  · rintro ⟨p, hp, ho⟩
    obtain ⟨i, hi, rfl⟩ := List.mem_iff_getElem.mp hp
    exact ⟨⟨i, by simpa using hi⟩, by simpa using ho⟩
  · rintro ⟨y, hy⟩
    exact ⟨s.ports[y], Vector.mem_toList_iff.mpr (Vector.getElem_mem y.isLt), decide_eq_true hy⟩

/-- The record of a trip is written and its alert queued before the port changes (R42). -/
def tripNoted (x : Fin 4) (cause : Nat) (s : State) : State :=
  alertRec (event .portTrip [x.val, cause, s.ports[x].vin, s.ports[x].vin / 65536, s.ports[x].iin]) 0 4 cause x.val
    s.ports[x].iin s

theorem tripPort_eq (x cause s) :
    tripPort x cause s = changePort x (Port.trip s.sys.uptime cause) (tripNoted x cause s) := by
  simp [tripPort, tripNoted]

theorem tripNoted_outside (x cause s) : tripNoted x cause s = { s with
    bbx := (tripNoted x cause s).bbx, alr := (tripNoted x cause s).alr, bus := (tripNoted x cause s).bus } :=
  alertRec_outside ..

theorem tripNoted_nextSeq {s} (h : planeDown s = false) (x cause) :
    (tripNoted x cause s).alr.nextSeq = s.alr.nextSeq + 1 := by
  obtain ⟨a, -, ha⟩ := alertRec_eq_enqueue (f := event .portTrip
    [x.val, cause, s.ports[x].vin, s.ports[x].vin / 65536, s.ports[x].iin]) (s := s) (by rw [planeDown_event, h])
    0 4 cause x.val s.ports[x].iin
  rw [tripNoted, ha, enqueue_nextSeq, event_eq]

theorem tripPort_same (x cause s) : (tripPort x cause s).ports[x] = Port.trip s.sys.uptime cause s.ports[x] := by
  rw [tripPort_eq, changePort_same, tripNoted_outside]

theorem tripPort_tripped (x cause s) : Tripped x cause s (tripPort x cause s) := by
  unfold Tripped
  rw [tripPort_same]
  refine ⟨rfl, rfl, rfl, rfl, rfl, rfl, rfl, fun y hy => ?_, fun h => ?_, ?_, ?_, ?_⟩
  · rw [tripPort_eq, changePort_but _ _ _ y hy, tripNoted_outside]
  · rw [tripPort_eq, changePort_outside]
    exact tripNoted_nextSeq h x cause
  all_goals rw [tripPort_eq, changePort_outside, tripNoted_outside]

/-- A trip of port `x` counts from the state before a reading of that port. -/
theorem Tripped_of_reading {x cause f t} {s : State} (h : Tripped x cause (s.modPort x f) t)
    (hf : (f s.ports[x]).trips = s.ports[x].trips ∧ (f s.ports[x]).tripTotal = s.ports[x].tripTotal ∧
      (f s.ports[x]).enabled = s.ports[x].enabled) : Tripped x cause s t := by
  obtain ⟨h1, h2, h3, h4, h5, h6, h7, hbut, h9⟩ := h
  rw [modPort_same] at h5 h6 h7
  obtain ⟨e1, e2, e3⟩ := hf
  rw [e1] at h5
  rw [e2] at h6
  rw [e3] at h7
  exact ⟨h1, h2, h3, h4, h5, h6, h7, fun y hy => (hbut y hy).trans (PortsBut.modPort x f s y hy), h9⟩

/-- A hand-over begins with the loss of the last ONLINE port in RUN (R51, R52). -/
theorem handOver_begins {s} (hrun : s.sys.st = .run) (hno : s.hub.handover = false) (hoff : anyOnline s = false) :
    handOver true s = bypStandIns { s with hub := { s.hub with handover := true } } := by
  unfold handOver
  rw [hoff, hno, decide_eq_true (Or.inl hrun)]
  rfl

theorem handOver_rests {s} (was) (hon : anyOnline s = true) : handOver was s = s := by
  unfold handOver
  rw [hon]
  simp

theorem currentEvent_acts {s} (hp : s.powered = true) (x i cause hit) : currentEvent x i cause hit s = .next
    (if PortState.guarded s.ports[x].state && hit then tripPort x cause (s.modPort x fun p => { p with iin := i })
     else s.modPort x fun p => { p with iin := i }) := by
  unfold currentEvent
  dsimp only
  rw [hp, modPort_same]
  rfl

theorem currentEvent_trips {s} (hp : s.powered = true) {x} (hg : PortState.guarded s.ports[x].state = true)
    (i cause) {hit} (hh : hit = true) : ∃ t, currentEvent x i cause hit s = .next t ∧
      t = tripPort x cause (s.modPort x fun p => { p with iin := i }) ∧ Tripped x cause s t ∧ t.ports[x].iin = i := by
  refine ⟨_, (currentEvent_acts hp ..).trans (congrArg _ (if_pos (by rw [hg, hh]; rfl))), rfl,
    Tripped_of_reading (tripPort_tripped ..) ⟨rfl, rfl, rfl⟩, ?_⟩
  rw [tripPort_same, modPort_same]
  rfl

theorem ocLevel_below {s : State} {x i} (h : 22000 < i ∨
    ((5 * s.ports[x].limIn : Nat) : Int) < 4 * i ∧ ((s.ports[x].limIn + 500 : Nat) : Int) < i) : (ocLevel s x : Int) < i := by
  unfold ocLevel
  dsimp only
  omega

theorem ocLevel_above {s : State} {x i} (h1 : i ≤ 22000)
    (h2 : 4 * i ≤ ((5 * s.ports[x].limIn : Nat) : Int) ∨ i ≤ ((s.ports[x].limIn + 500 : Nat) : Int)) :
    ¬(ocLevel s x : Int) < i := by
  unfold ocLevel
  dsimp only
  omega

/-- What a trip of the last ONLINE port makes of the hub and the stand-ins (R51, R52). -/
theorem tripPort_handsOver {x cause s} (hon : s.ports[x].state = .online)
    (hlast : ∀ y : Fin 4, y ≠ x → s.ports[y].state ≠ .online) (hrun : s.sys.st = .run) (hno : s.hub.handover = false) :
    (tripPort x cause s).hub = { s.hub with handover := true } ∧ (tripPort x cause s).taps = (bypStandIns s).taps := by
  have noted := tripNoted_outside x cause s
  have was : anyOnline (tripNoted x cause s) = true := (anyOnline_iff _).mpr ⟨x, by rw [noted]; exact hon⟩
  have off : anyOnline ((tripNoted x cause s).modPort x (Port.trip s.sys.uptime cause)) = false := by
    rw [Bool.eq_false_iff, Ne, anyOnline_iff]
    rintro ⟨y, hy⟩
    rw [State.modPort_ports] at hy
    by_cases hyx : y = x
    · rw [if_pos hyx] at hy
      exact nomatch hy
    · rw [if_neg hyx, noted] at hy
      exact hlast y hyx hy
  rw [tripPort_eq, changePort, was, handOver_begins (by rw [noted]; exact hrun) (by rw [noted]; exact hno) off, noted]
  exact ⟨rfl, rfl⟩

theorem tripPort_online {x y cause s} (hyx : y ≠ x) (hy : s.ports[y].state = .online) :
    (tripPort x cause s).hub = s.hub ∧ (tripPort x cause s).taps = s.taps := by
  have noted := tripNoted_outside x cause s
  rw [tripPort_eq, changePort, handOver_rests _ ((anyOnline_iff _).mpr ⟨y, by
    rw [State.modPort_ports, if_neg hyx, noted]; exact hy⟩), noted]
  exact ⟨rfl, rfl⟩

/-- Settles O42, event by event. -/
theorem portsComeOnlineAndTrip : Obligations.PortsComeOnlineAndTrip := by
  unfold Obligations.PortsComeOnlineAndTrip
  refine ⟨fun x v s hp hv => ⟨fun hi hw hm => ?_, fun hq hw => ?_, fun hq hw => ?_, fun hq hw => ?_, fun hpre h1 h2 => ?_,
      fun hsoft => ?_, fun hon hout => ?_, fun hb => ?_⟩,
    fun x s hp => ⟨fun hpre => ?_, fun v hv hon hov => ?_, fun v hv hok => ?_, fun i hg hi => ?_, fun i h1 h2 => ?_,
      fun i hon hi => ?_⟩⟩
  · refine portChange (f := fun p => { p with
      vin := v, state := if s.hub.handover then .idle else .qualify, handoverWait := s.hub.handover })
      ((portEvent_acts hp hv ..).trans ?_) rfl
    rw [enterQualify_acts (by rw [modPort_same]; exact hi) (by rw [inWindow_vin, modPort_same]; exact hw)
      (by rw [mayQualify_vin]; exact hm), modPort_modPort]
    rfl
  · refine portChange (f := fun p => { p with vin := v, state := .idle }) ((portEvent_acts hp hv ..).trans ?_) rfl
    rw [leaveQualify_acts (by rw [modPort_same]; exact hq) (by rw [inWindow_vin, modPort_same]; exact hw),
      modPort_modPort]
  · exact portChange (congrArg _ (if_pos (by rw [decide_eq_true hq, hw]; rfl))) rfl
  · exact congrArg _ (if_neg (by rw [hw, Bool.and_false]; exact Bool.false_ne_true))
  · exact portChange (congrArg _ (if_pos ⟨hpre, by omega, by omega⟩)) rfl
  · exact portChange (congrArg _ (if_pos hsoft)) rfl
  · have run : exec (.portLoss x v) s = .next (changePort x Port.lose (s.modPort x fun p => { p with vin := v })) :=
      (portEvent_acts hp hv ..).trans (congrArg _ (if_pos (by
        rw [modPort_same, decide_eq_true hon, outside_vin, outside, decide_eq_true hout]
        rfl)))
    refine ⟨_, run, ?_, fun y hy => ?_, ?_⟩
    · rw [changePort_same, modPort_same]
      rfl
    · rw [changePort_but _ _ _ y hy]
      exact PortsBut.modPort _ _ _ y hy
    · rw [changePort_outside]
      rfl
  · exact portChange (congrArg _ (if_pos hb)) rfl
  · exact ⟨_, execPrechargeTrip_eq hpre, tripPort_tripped ..⟩
  · have run : exec (.sourceOv x v) s = .next (tripPort x 1 (s.modPort x fun p => { p with vin := v })) :=
      (portEvent_acts hp hv ..).trans (congrArg _ (if_pos (by
        rw [modPort_same]
        exact ⟨by rw [hon]; rfl, hov⟩)))
    refine ⟨_, run, Tripped_of_reading (tripPort_tripped ..) ⟨rfl, rfl, rfl⟩, ?_⟩
    rw [tripPort_same, modPort_same]
    rfl
  · refine portChange ((portEvent_acts hp hv ..).trans (congrArg _ (if_neg ?_))) rfl
    rw [modPort_same]
    exact fun h => absurd h.2 (not_lt.mpr hok)
  · obtain ⟨t, ht, -, htrip, hin⟩ := currentEvent_trips hp (x := x) (by obtain h | h | h := hg <;> rw [h] <;> rfl) i 2
      (decide_eq_true (ocLevel_below hi))
    exact ⟨t, ht, htrip, hin⟩
  · refine portChange ((currentEvent_acts hp ..).trans (congrArg _ (if_neg ?_))) rfl
    rw [decide_eq_false (ocLevel_above h1 h2), Bool.and_false]
    exact Bool.false_ne_true
  · obtain ⟨t, ht, ht', htrip, hin⟩ := currentEvent_trips hp (x := x) (by rw [hon]; rfl) i 3 (decide_eq_true hi)
    refine ⟨t, ht, htrip, hin, fun hlast hrun hno => ?_, fun hy => ?_⟩
    · obtain ⟨hub, taps⟩ := tripPort_handsOver (s := s.modPort x fun p => { p with iin := i }) (cause := 3)
        (by rw [modPort_same]; exact hon) (fun y hyx => by rw [State.modPort_ports, if_neg hyx]; exact hlast y hyx) hrun hno
      rw [ht', hub, taps]
      exact ⟨rfl, fun n => bypStandIns_taps (s.modPort x _) n⟩
    · obtain ⟨y, hyx, hy⟩ := hy
      rw [ht']
      exact tripPort_online (s := s.modPort x _) hyx (by rw [State.modPort_ports, if_neg hyx]; exact hy)

end Sys2Proof.Machine
end

/-! ## What the loops leave as it is -/

section
open Sys2Proof.Claims

namespace Sys2Proof.Machine

/-- A loop sample moves the stake's loop values and its rods' duties and rails, nothing else (R66 to R70). -/
def StakeKept (k k' : Stake) : Prop :=
  k' = { k with uV := k'.uV, eV := k'.eV, uC := k'.uC, eC := k'.eC, ist := k'.ist, rodRef := k'.rodRef
                ilimRun := k'.ilimRun, hv := k'.hv, many := k'.many, bank := k'.bank, buckOff := k'.buckOff
                rods := k'.rods, droopSi := k'.droopSi } ∧
  ∀ p : Fin 16, k'.rods[p] = { k.rods[p] with vInt := k'.rods[p].vInt, duty := k'.rods[p].duty }

theorem StakeKept.refl (k : Stake) : StakeKept k k := ⟨rfl, fun _ => rfl⟩

theorem StakeKept.trans {k k' k''} (h : StakeKept k k') (h' : StakeKept k' k'') : StakeKept k k'' :=
  ⟨by rw [h'.1, h.1], fun p => by rw [h'.2 p, h.2 p]⟩

theorem outerLoop_kept (s n) : StakeKept s.taps[n].stake (outerLoop s n) := by
  unfold outerLoop
  dsimp only
  split
  · exact .refl _
  · split <;> exact ⟨rfl, fun _ => rfl⟩

theorem rodLoop_kept (h banks hub k) : StakeKept k (rodLoop h banks hub k) := by
  unfold rodLoop
  split
  · exact .refl _
  · refine ⟨rfl, fun p => ?_⟩
    simp only [Fin.getElem_fin, Vector.getElem_map]
    split <;> rfl

/-- The tap that serves a tap whose loop it runs itself is that tap. -/
theorem headTap_self {s : State} {n : Fin 32} (h : gangedOdd s n = false) : headTap s n = n := by
  cases hg : s.taps[n].cfg.gang
  · exact headTap_single hg
  · rw [gangedOdd, hg] at h
    exact headTap_head (by have : ¬ n.val % 2 = 1 := by simpa using h
                           omega) hg

theorem loopTap_kept (s n) : StakeKept s.taps[n].stake (loopTap s n s.taps[n]).stake ∧
    loopTap s n s.taps[n] = { s.taps[n] with
      limit := (loopTap s n s.taps[n]).limit, seen := (loopTap s n s.taps[n]).seen
      keepLow := (loopTap s n s.taps[n]).keepLow, overcharge := (loopTap s n s.taps[n]).overcharge
      stake := (loopTap s n s.taps[n]).stake } := by
  unfold loopTap
  dsimp only
  split
  next => exact ⟨rodLoop_kept .., rfl⟩
  next hodd =>
    have served (h : Fin 32) (e : h = n) (banks hub) :
        StakeKept s.taps[n].stake (rodLoop (headStake s h) banks hub (headStake s h)) := by
      subst e
      exact ((outerLoop_kept s h).trans ⟨rfl, fun _ => rfl⟩ : StakeKept _ (headStake s h)).trans (rodLoop_kept ..)
    exact ⟨(served _ (headTap_self (by simpa using hodd)) _ _).trans ⟨rfl, fun _ => rfl⟩, rfl⟩

theorem healthy_of_rods {k k' : Stake} (h : ∀ p : Fin 16, k'.rods[p].healthy = k.rods[p].healthy) :
    k'.healthy = k.healthy := by
  have same : k'.rods.map Rod.healthy = k.rods.map Rod.healthy := by
    ext i hi
    simpa using h ⟨i, hi⟩
  have count (k : Stake) : k.healthy = (k.rods.map Rod.healthy).toList.countP id := by
    rw [Vector.toList_map, List.countP_map]
    exact List.countP_eq_length_filter.symm
  rw [count, count, same]

/-- What the loops make of the taps (R66 to R70). -/
def Looped (s t : State) : Prop := ∀ n : Fin 32, StakeKept s.taps[n].stake t.taps[n].stake ∧
  t.taps[n] = { s.taps[n] with limit := t.taps[n].limit, seen := t.taps[n].seen, keepLow := t.taps[n].keepLow
                               overcharge := t.taps[n].overcharge, stake := t.taps[n].stake }

theorem loops_looped (s) : Looped s (loops s) := fun n => by
  rw [loops, State.mapTaps_taps]
  exact loopTap_kept s n

section
variable {s t : State} (h : Looped s t) (n : Fin 32)
include h

theorem Looped.tap : t.taps[n].state = s.taps[n].state ∧ t.taps[n].cfg = s.taps[n].cfg ∧
    t.taps[n].dose = s.taps[n].dose ∧ t.taps[n].vKel = s.taps[n].vKel := by
  rw [(h n).2]
  exact ⟨rfl, rfl, rfl, rfl⟩

theorem Looped.stake : t.taps[n].stake.bypRamp = s.taps[n].stake.bypRamp ∧
    t.taps[n].stake.withdrawn = s.taps[n].stake.withdrawn ∧ t.taps[n].stake.healthy = s.taps[n].stake.healthy := by
  obtain ⟨shape, rods⟩ := (h n).1
  refine ⟨?_, ?_, healthy_of_rods fun p => by rw [rods p]⟩
  all_goals rw [shape]

end

/-- The rating of a tap looks at its gang, its rods' health and its withdrawal (R88, R89). -/
theorem rating_congr {s t : State} (hg : ∀ n : Fin 32, t.taps[n].cfg = s.taps[n].cfg)
    (hw : ∀ n : Fin 32, t.taps[n].stake.withdrawn = s.taps[n].stake.withdrawn)
    (hh : ∀ n : Fin 32, t.taps[n].stake.healthy = s.taps[n].stake.healthy) (n) : rating t n = rating s n := by
  have same : mates t n = mates s n := mates_congr (hg n)
  unfold rating pairSum
  rw [same, hg n, hh n]
  simp only [hw, hh]

theorem Looped.base {s t : State} (h : Looped s t) (n : Fin 32) : baseLimit t n = baseLimit s n := by
  obtain ⟨-, hcfg, hdose, hvolt⟩ := h.tap n
  have rated : rating t n = rating s n := rating_congr (fun m => (h.tap m).2.1) (fun m => (h.stake m).2.1)
    (fun m => (h.stake m).2.2) n
  unfold baseLimit stakeLimit
  dsimp only
  rw [rated, hcfg, hdose, hvolt]

theorem loops_outside (s) : loops s = { s with taps := (loops s).taps } := rfl

/-! ### The current limit of a stake -/

theorem iLim_undervoltage {s} (h : s.hub.uv = true) (n) : iLim s n = 0 := by
  rw [iLim, show droopFactor s.hub = 0 from if_pos h]
  simp

theorem iLim_ramped {s} (h : s.hub.ramp0 = 20) (n) : iLim s n = 0 := by
  rw [iLim, show rampFactor s.hub = 0 by rw [rampFactor, h]]
  simp

/-- With nothing but the droop scaling at work, the limit falls with the hub voltage (R33). -/
theorem iLim_droop {s : State} {n : Fin 32} {v} (huv : s.hub.uv = false) (hd : s.hub.droop = true) (hv : s.hub.v = v)
    (hlo : 360000 ≤ v) (hhi : v < 390000) (hr : s.hub.ramp0 = 0) (hm : moduleFactor s.sys = 20)
    (hb : s.taps[n].stake.bypRamp = false) : iLim s n = (baseLimit s n).1 * (v - 360000) / 30000 := by
  have low : v - Config.hubUv ≤ 30000 := by
    unfold Config.hubUv
    omega
  have droop : droopFactor s.hub = v - Config.hubUv := by
    unfold droopFactor
    simp only [huv, hd, hv, Bool.false_eq_true, if_false, if_true]
    exact Nat.min_eq_right low
  have byp : bypassFactor s n = 20 := by rw [bypassFactor, hb]; rfl
  unfold iLim rampFactor
  simp only [droop, hr, hm, byp, Config.hubUv]
  generalize (baseLimit s n).1 * (v - 360000) = w
  omega

/-! ### The hub's events -/

theorem hubAt_outside (v f s) : hubAt v f s = { s with hub := f { s.hub with v := v }, taps := (hubAt v f s).taps } := rfl

theorem hubAt_looped (v f) (s : State) : Looped s (hubAt v f s) := loops_looped { s with hub := f { s.hub with v := v } }

theorem execHubDroop_acts {s v} (hp : s.powered = true) (hv : v < 390000) : execHubDroop v s = .next
    (hubAt v (fun h => { h with droop := true, uv := h.uv || decide (v < 360000) }) s) := by
  unfold execHubDroop Config.hubDroop Config.hubUv
  rw [if_pos ⟨hp, hv⟩]

theorem execHubUndervoltage_acts {s v} (hp : s.powered = true) (hv : v < 360000) : execHubUndervoltage v s = .next
    (hubAt v (fun h => { h with droop := true, uv := true }) s) := by
  unfold execHubUndervoltage Config.hubUv
  rw [if_pos ⟨hp, hv⟩]

theorem execHubRecovery_acts {s} (hp : s.powered = true) (v) : execHubRecovery v s = .next (hubAt v (fun h =>
    { h with droop := h.droop && decide (v < 390000), uv := h.uv && decide (v ≤ 380000) }) s) := by
  unfold execHubRecovery Config.hubDroop Config.hubUvEnd
  rw [if_pos hp]

/-- The hub's over-voltage is noted, every switching port stops, and the last to leave ONLINE begins a hand-over (R33). -/
def hubOvSeen (s : State) : State :=
  let times := recent s.sys.uptime 60000 s.hub.ovTimes ++ [s.sys.uptime]
  withFlt (fun s =>
    { s with hub := { s.hub with ov := true, ovTimes := times, ov3 := s.hub.ov3 || decide (3 ≤ times.length) } })
    (handOver (anyOnline s) ((event .hubOv [times.length] s).mapPorts fun _ p => p.hubOv))

theorem execHubOv_acts {s} (h : s.powered = true) : execHubOv s = .next
    (if 2 ≤ (recent s.sys.uptime 60000 s.hub.ovTimes).length then hardwareFault (hubOvSeen s) else hubOvSeen s) := by
  unfold execHubOv
  rw [h]
  have third : 3 ≤ (recent s.sys.uptime 60000 s.hub.ovTimes ++ [s.sys.uptime]).length ↔
      2 ≤ (recent s.sys.uptime 60000 s.hub.ovTimes).length := by
    rw [List.length_append, List.length_singleton]
    omega
  exact congrArg Host.Outcome.next (ite_congr (propext third) (fun _ => rfl) fun _ => rfl)

theorem Port.hubOv_eq (p : Port) : p.hubOv = match p.state with
    | .precharge | .softstart | .online =>
      { p with state := .backoff, lastTrip := 6, allow := 0, allowFrom := 0, allowTo := 0, allowMs := 5, softMs := 0 }
    | _ => if p.stopping then { p with allow := 0, allowFrom := 0, allowTo := 0, allowMs := 5, stopping := false } else p := by
  unfold Port.hubOv
  cases p.state <;> rfl

theorem handOver_ov3 (was s) : (handOver was s).hub.ov3 = s.hub.ov3 := by
  unfold handOver
  dsimp only
  split_ifs <;> rfl

theorem hubOvSeen_shows (s) : (hubOvSeen s).sys = s.sys ∧ (hubOvSeen s).ctrs = s.ctrs ∧ (hubOvSeen s).hub.ov = true ∧
    (hubOvSeen s).hub.ovTimes = recent s.sys.uptime 60000 s.hub.ovTimes ++ [s.sys.uptime] ∧
    (hubOvSeen s).hub.ov3 = (s.hub.ov3 || decide (2 ≤ (recent s.sys.uptime 60000 s.hub.ovTimes).length)) ∧
    ∀ x : Fin 4, (hubOvSeen s).ports[x] = s.ports[x].hubOv := by
  have third : decide (3 ≤ (recent s.sys.uptime 60000 s.hub.ovTimes ++ [s.sys.uptime]).length) =
      decide (2 ≤ (recent s.sys.uptime 60000 s.hub.ovTimes).length) := by
    rw [List.length_append, List.length_singleton]
    exact decide_eq_decide.mpr (by omega)
  unfold hubOvSeen
  rw [withFlt_outside, third]
  refine ⟨?_, ?_, rfl, rfl, ?_, fun x => ?_⟩
  · rw [handOver_outside, event_eq]
    rfl
  · rw [handOver_outside, event_eq]
    rfl
  · show ((handOver _ _).hub.ov3 || _) = _
    rw [handOver_ov3, event_eq]
    rfl
  · rw [handOver_outside, event_eq]
    exact State.mapPorts_ports ..

theorem voidLink_ov3 (x cause tell s) : (voidLink x cause tell s).hub.ov3 = s.hub.ov3 := by
  unfold voidLink
  extract_lets l bbx s₁ s₂ s₃ tie s₄ s₅ s₆
  split
  · rfl
  · have opened : s₄.hub = s.hub := by
      have before : s₃.hub = s.hub := by simp [s₃, s₂, s₁]
      by_cases h : (l.role && decide (x.val = 3)) = true
      · exact (congrArg State.hub (if_pos h)).trans before
      · exact (congrArg State.hub (if_neg h)).trans before
    have lost : s₅.hub.ov3 = s.hub.ov3 := by
      obtain h | h : s₅ = changePort x Port.lose s₄ ∨ s₅ = s₄ := ite_eq_or_eq ..
      · rw [h, changePort, handOver_ov3, ← opened]
        rfl
      · rw [h, opened]
    simp only [s₆]
    split <;> simpa using lost

theorem dropTie_ov3 (s) : (dropTie s).hub.ov3 = s.hub.ov3 := by
  unfold dropTie
  dsimp only
  split
  · exact voidLink_ov3 ..
  · rfl

theorem enterSafe_ov3 (cause s) : (enterSafe cause s).hub.ov3 = s.hub.ov3 := by
  simp [enterSafe, dropTie_ov3]

theorem hardwareFault_run {s : State} (hrun : s.sys.st = .run) (hacted : s.sys.acted = 0 ∨ 5 < s.sys.acted) :
    hardwareFault s = (enterSafe 7 s).modSys fun y => { y with acted := 5 } := by
  unfold hardwareFault
  rw [hrun]
  exact ranked_first hacted

/-- The ports and alerts of the end of a hand-over (R51, R54). -/
def handedOver (s : State) : State :=
  foldFin 32 (fun n s => if s.taps[n].state = .standIn ∧ !s.taps[n].stake.slotFb then alert 0 3 5 n.val 0 s else s)
    { s.mapPorts (releasePort s) with hub := { s.hub with handover := false, ramp0 := 20 } }

/-- Alerts of the taps change nothing but the alerts. -/
theorem foldAlerts_outside (c : Fin 32 → State → Prop) [∀ n s, Decidable (c n s)] (a b d : Nat) (s : State) :
    let t := foldFin 32 (fun n s => if c n s then alert a b d n.val 0 s else s) s
    t = { s with alr := t.alr, bus := t.bus } := by
  have each : ∀ (l : List (Fin 32)) (s : State), ∃ alr bus,
      l.foldl (fun s n => if c n s then alert a b d n.val 0 s else s) s = { s with alr := alr, bus := bus } := by
    intro l
    induction l with
    | nil => exact fun s => ⟨_, _, rfl⟩
    | cons n l ih =>
      intro s
      rw [List.foldl_cons]
      split
      · obtain ⟨alr, bus, h⟩ := ih (alert a b d n.val 0 s)
        exact ⟨alr, bus, by rw [h, alert_shape]⟩
      · exact ih s
  obtain ⟨alr, bus, h⟩ := each (indices 32) s
  have h' : foldFin 32 (fun n s => if c n s then alert a b d n.val 0 s else s) s = { s with alr := alr, bus := bus } := h
  dsimp only
  rw [h']

/-- Settles O43, event by event. -/
theorem hubLimitsActOnEveryStake : Obligations.HubLimitsActOnEveryStake := by
  unfold Obligations.HubLimitsActOnEveryStake
  refine fun s hp => ⟨fun h2 => ?_, fun h2 hrun hacted => ?_, fun v hv => ?_, fun v hv => ?_, fun v => ?_, fun hh => ?_⟩
  · obtain ⟨hsys, hctrs, hov, htimes, hov3, hports⟩ := hubOvSeen_shows s
    refine ⟨_, (execHubOv_acts hp).trans (congrArg _ (if_neg (not_le.mpr h2))), hov, htimes, ?_, hsys, hctrs, fun x =>
      (hports x).trans (Port.hubOv_eq _)⟩
    rw [hov3, decide_eq_false (not_le.mpr h2), Bool.or_false]
  · obtain ⟨hsys, -, -, -, hov3, -⟩ := hubOvSeen_shows s
    obtain ⟨hcause, -, -, hports, -⟩ := enterSafe_stops 7 (hubOvSeen s)
    have hst := enterSafe_st 7 (hubOvSeen s)
    have hov := enterSafe_ov3 7 (hubOvSeen s)
    rw [hov3, decide_eq_true h2, Bool.or_true] at hov
    have run : exec .hubOv s = .next ((enterSafe 7 (hubOvSeen s)).modSys fun y => { y with acted := 5 }) := by
      refine (execHubOv_acts hp).trans ((congrArg _ (if_pos h2)).trans ?_)
      rw [hardwareFault_run (by rw [hsys]; exact hrun) (by rw [hsys]; exact hacted)]
    generalize enterSafe 7 (hubOvSeen s) = t at *
    exact ⟨_, run, rfl, hov, hst, hcause, fun x => (hports x).1⟩
  · have looped := hubAt_looped v (fun h => { h with droop := true, uv := h.uv || decide (v < 360000) }) s
    refine ⟨_, execHubDroop_acts hp hv, rfl, rfl, rfl, rfl, fun n => (looped.tap n).1, fun huv hlo hr hm n hb => ?_⟩
    rw [← looped.base n]
    exact iLim_droop (by rw [hubAt_outside]; exact Bool.or_eq_false_iff.mpr ⟨huv, decide_eq_false (not_lt.mpr hlo)⟩)
      rfl rfl hlo hv hr hm ((looped.stake n).1.trans hb)
  · exact ⟨_, execHubUndervoltage_acts hp hv, rfl, rfl, iLim_undervoltage rfl, rfl⟩
  · exact ⟨_, execHubRecovery_acts hp v, rfl, rfl, rfl, rfl⟩
  · have alerts : handedOver s = { s.mapPorts (releasePort s) with
        hub := { s.hub with handover := false, ramp0 := 20 }, alr := (handedOver s).alr, bus := (handedOver s).bus } :=
      foldAlerts_outside (fun n s => s.taps[n].state = .standIn ∧ (!s.taps[n].stake.slotFb) = true) 0 3 5 _
    have run : exec .handOverEnd s = .next (loops (handedOver s)) := by
      show execHandOverEnd s = _
      unfold execHandOverEnd
      rw [hh]
      rfl
    have hub : (loops (handedOver s)).hub = { s.hub with handover := false, ramp0 := 20 } := by
      rw [loops_outside, alerts]
    refine ⟨_, run, by rw [hub], by rw [hub], iLim_ramped (by rw [hub]), fun x => ?_, ?_⟩
    · rw [loops_outside, alerts]
      refine (State.mapPorts_ports ..).trans ?_
      unfold releasePort
      generalize s.ports[x] = p
      cases hw : p.handoverWait
      · rw [if_neg (by simp), if_neg (by simp), ← hw]
      · simp [and_assoc]
    · have frame := loops_outside (handedOver s)
      generalize loops (handedOver s) = t at frame
      generalize handedOver s = u at alerts frame
      rw [frame, alerts]
      rfl

end Sys2Proof.Machine
end

/-! ## An allocation stays within its budget -/

section
open Sys2Proof.Claims

namespace Sys2Proof.Machine

/-! ### Shares -/

/-- Rounding every share down keeps their sum (R45). -/
theorem shares_sum {α : Type} (f : α → Nat) (d b : Nat) (l : List α) (h : (l.map f).sum ≤ d) :
    (l.map fun a => f a * b / d).sum ≤ b := by
  have down : (l.map fun a => f a * b / d).sum ≤ (l.map f).sum * b / d := by
    clear h
    induction l with
    | nil => simp
    | cons a l ih =>
      rw [List.map_cons, List.sum_cons, List.map_cons, List.sum_cons, Nat.add_mul]
      exact (Nat.add_le_add_left ih _).trans (Nat.div_add_div_le_add_div ..)
  refine down.trans ?_
  obtain rfl | pos := Nat.eq_zero_or_pos d
  · simp
  · exact Nat.div_le_of_le_mul (Nat.mul_le_mul_right b h)

/-- What the members that are held at their wants take together. -/
theorem wants_sum {b d : Nat} : ∀ (l : List Want), (∀ w ∈ l, w.want * d ≤ b * w.weight) →
    (l.map (·.want)).sum * d ≤ b * (l.map (·.weight)).sum
  | [], _ => by simp
  | w :: l, h => by
    rw [List.map_cons, List.map_cons, List.sum_cons, List.sum_cons, Nat.add_mul, Nat.mul_add]
    exact Nat.add_le_add (h w (List.mem_cons_self ..)) (wants_sum l fun v hv => h v (List.mem_cons_of_mem _ hv))

theorem filter_weights (p : Want → Bool) (ws : List Want) :
    ((ws.filter p).map (·.weight)).sum ≤ (ws.map (·.weight)).sum :=
  ((List.filter_sublist ..).map _).sum_le_sum fun _ _ => Nat.zero_le _

/-- What is shared out is at most what there is (R45, R167). -/
theorem shareOut_sum : ∀ (fuel b : Nat) (ws : List Want), (∀ w ∈ ws, 0 < w.weight) →
    ((shareOut fuel b ws).map (·.2)).sum ≤ b
  | 0, _, _, _ => Nat.zero_le _
  | fuel + 1, b, ws, hw => by
    unfold shareOut
    extract_lets total full
    split
    · rw [List.map_map]
      have shares := shares_sum (fun w : Want => w.weight) total b ws le_rfl
      simpa only [Function.comp_def, Nat.mul_comm b] using shares
    · have held : (full.map (·.want)).sum * total ≤ b * total :=
        (wants_sum full fun w hf => by simpa using (List.mem_filter.mp hf).2).trans
          (Nat.mul_le_mul_left b (filter_weights _ ws))
      have rest := shareOut_sum fuel (b - (full.map (·.want)).sum)
        (ws.filter fun w => !decide (w.want * total ≤ b * w.weight)) fun w hf => hw w (List.mem_filter.mp hf).1
      have within : (full.map (·.want)).sum ≤ b := by
        obtain h0 | pos := Nat.eq_zero_or_pos total
        · have empty : full = [] := by
            cases hfull : full with
            | nil => rfl
            | cons w l =>
              have mem : w ∈ ws := (List.mem_filter.mp (show w ∈ full by rw [hfull]; exact List.mem_cons_self ..)).1
              have : w.weight ≤ total := List.single_le_sum (fun _ _ => Nat.zero_le _) _ (List.mem_map_of_mem mem)
              have := hw w mem
              omega
          rw [empty]
          exact Nat.zero_le _
        · exact Nat.le_of_mul_le_mul_right held pos
      rw [List.map_append, List.sum_append, List.map_map]
      have same : ((fun p : Nat × Nat => p.2) ∘ fun w : Want => (w.id, w.want)) = fun w => w.want := rfl
      rw [same]
      omega

/-- Members of different names receive together at most the sum of a list of shares. -/
theorem got_sum {k : Nat} : ∀ l : List (Nat × Nat), (∑ n : Fin k, got l n.val) ≤ (l.map (·.2)).sum
  | [] => by simp [got]
  | p :: l => by
    have each (n : Fin k) : got (p :: l) n.val ≤ (if p.1 = n.val then p.2 else 0) + got l n.val := by
      unfold got
      by_cases h : p.1 = n.val <;> simp [h]
    have one : (∑ n : Fin k, if p.1 = n.val then p.2 else 0) ≤ p.2 := by
      rw [Finset.sum_ite, Finset.sum_const_zero, Nat.add_zero, Finset.sum_const, smul_eq_mul]
      have single : (Finset.univ.filter fun n : Fin k => p.1 = n.val).card ≤ 1 :=
        Finset.card_le_one.mpr fun a ha b hb => Fin.ext
          ((Finset.mem_filter.mp ha).2.symm.trans (Finset.mem_filter.mp hb).2)
      calc _ ≤ 1 * p.2 := Nat.mul_le_mul_right _ single
        _ = p.2 := Nat.one_mul _
    calc ∑ n : Fin k, got (p :: l) n.val
        ≤ ∑ n : Fin k, ((if p.1 = n.val then p.2 else 0) + got l n.val) := Finset.sum_le_sum fun n _ => each n
      _ = (∑ n : Fin k, if p.1 = n.val then p.2 else 0) + ∑ n : Fin k, got l n.val := Finset.sum_add_distrib
      _ ≤ p.2 + (l.map (·.2)).sum := Nat.add_le_add one (got_sum l)
      _ = ((p :: l).map (·.2)).sum := by rw [List.map_cons, List.sum_cons]

theorem greatest_le (p : Nat → Bool) : ∀ k, greatest p k ≤ k
  | 0 => le_rfl
  | k + 1 => by
    unfold greatest
    split
    · exact le_rfl
    · exact (greatest_le p k).trans (Nat.le_succ k)

theorem greatest_holds {p : Nat → Bool} (h0 : p 0 = true) : ∀ k, p (greatest p k) = true
  | 0 => h0
  | k + 1 => by
    unfold greatest
    split
    · assumption
    · exact greatest_holds h0 k

theorem indices_sum {k : Nat} (f : Fin k → Nat) : ((indices k).map f).sum = ∑ n, f n := by
  rw [indices, tabulate_eq_map, List.map_id, ← List.ofFn_eq_map, List.sum_ofFn]

theorem vec_sum {k : Nat} (f : Fin k → Nat) : (vec f).toList.sum = ∑ n, f n := by
  rw [show (vec f).toList = (List.finRange k).map f from tabulate_eq_map k f, ← List.ofFn_eq_map, List.sum_ofFn]

/-! ### One class -/

/-- Hub power of the grants of an allocation (R163). -/
def spent (s : State) (a : Alloc) : Nat := ∑ n : Fin 32, hubPower s n a.g[n]

/-- What a class may make of an allocation: no grant beyond its tap's ceiling, no more hub power than the budget. -/
structure Raised (s : State) (a a' : Alloc) : Prop where
  capped : (∀ n : Fin 32, a.g[n] ≤ tapCeiling s n) → ∀ n : Fin 32, a'.g[n] ≤ tapCeiling s n
  within : spent s a' + a'.b ≤ spent s a + a.b

/-- What a class lacks of its level at a tap. -/
def lacks (s : State) (c : Fin 5) (a : Alloc) (n : Fin 32) : Nat := match level s n c with
  | none => 0
  | some l => l - a.g[n]

theorem lacks_capped {s c a} {n : Fin 32} {d : Nat} (h : a.g[n] ≤ tapCeiling s n) (hd : d ≤ lacks s c a n) :
    a.g[n] + d ≤ tapCeiling s n := by
  unfold lacks at hd
  cases hl : level s n c with
  | none =>
    rw [hl] at hd
    dsimp only at hd
    omega
  | some l =>
    rw [hl] at hd
    dsimp only at hd
    have capped : l ≤ tapCeiling s n := by
      unfold level at hl
      obtain ⟨k, -, rfl⟩ := Option.map_eq_some_iff.mp hl
      exact min_le_right ..
    omega

/-- Raising every grant by no more than the class lacks, at no more than the budget left. -/
theorem raised_of {s c a a'} (f : Fin 32 → Nat) (hg : ∀ n : Fin 32, a'.g[n] = a.g[n] + f n)
    (hf : ∀ n, f n ≤ lacks s c a n)
    (hb : (∑ n : Fin 32, (hubPower s n (a.g[n] + f n) - hubPower s n a.g[n])) + a'.b ≤ a.b) : Raised s a a' where
  capped h n := by
    rw [hg n]
    exact lacks_capped (h n) (hf n)
  within := by
    have each : spent s a' ≤ spent s a + ∑ n : Fin 32, (hubPower s n (a.g[n] + f n) - hubPower s n a.g[n]) := by
      unfold spent
      rw [← Finset.sum_add_distrib]
      refine Finset.sum_le_sum fun n _ => ?_
      rw [hg n]
      omega
    omega

/-- What the level of a class would cost at a tap (R166). -/
def costs (s : State) (c : Fin 5) (a : Alloc) (n : Fin 32) : Nat :=
  hubPower s n (a.g[n] + lacks s c a n) - hubPower s n a.g[n]

/-- What a class that finds too little left gives each tap at most (R166, R167). -/
def classParts (s : State) (c : Fin 5) (a : Alloc) : List (Nat × Nat) :=
  if c = 4 then
    shareOut 33 a.b ((indices 32).filterMap fun n =>
      if 0 < lacks s c a n then some { id := n.val, weight := max 1 (energyLeft s n), want := costs s c a n } else none)
  else (indices 32).map fun n => (n.val, costs s c a n * a.b / ∑ n, costs s c a n)

theorem classParts_sum (s c a) : (∑ n : Fin 32, got (classParts s c a) n.val) ≤ a.b := by
  refine (got_sum _).trans ?_
  unfold classParts
  split
  · refine shareOut_sum _ _ _ fun w hw => ?_
    obtain ⟨n, -, hn⟩ := List.mem_filterMap.mp hw
    split at hn
    · obtain rfl := Option.some.inj hn
      exact lt_of_lt_of_le Nat.zero_lt_one (le_max_left ..)
    · exact nomatch hn
  · rw [List.map_map]
    exact shares_sum (costs s c a) _ a.b (indices 32) (indices_sum _).le

/-- The greatest raise up to a bound whose cost is within a share. -/
def raiseWithin (s : State) (a : Alloc) (n : Fin 32) (share most : Nat) : Nat :=
  greatest (fun i => decide (hubPower s n (a.g[n] + i) - hubPower s n a.g[n] ≤ share)) most

theorem raiseWithin_cost (s a n share most) :
    hubPower s n (a.g[n] + raiseWithin s a n share most) - hubPower s n a.g[n] ≤ share := by
  have holds := greatest_holds (p := fun i => decide (hubPower s n (a.g[n] + i) - hubPower s n a.g[n] ≤ share))
    (decide_eq_true (by rw [Nat.add_zero, Nat.sub_self]; exact Nat.zero_le _)) most
  exact of_decide_eq_true holds

/-- What one class adds to the grants, and what it leaves of the budget (R165 to R167). -/
def classStep (s : State) (c : Fin 5) (a : Alloc) : (Fin 32 → Nat) × Nat :=
  if a.b = 0 then (fun _ => 0, 0)
  else if ∑ n, costs s c a n ≤ a.b then (lacks s c a, a.b - ∑ n, costs s c a n)
  else (fun n => raiseWithin s a n (got (classParts s c a) n.val) (lacks s c a n), 0)

theorem allocClass_step (s c a) : (allocClass s c a).b = (classStep s c a).2 ∧
    ∀ n : Fin 32, (allocClass s c a).g[n] = a.g[n] + (classStep s c a).1 n := by
  unfold allocClass classStep
  extract_lets want cost total raise part
  have wants (n : Fin 32) : want[n] = lacks s c a n := vec_get ..
  have each (n : Fin 32) : cost[n] = costs s c a n := by
    rw [costs, ← wants n]
    exact vec_get ..
  have totals : total = ∑ n, costs s c a n := by
    rw [← Finset.sum_congr rfl fun n _ => each n]
    exact vec_sum ..
  have parts : part = classParts s c a := by
    simp only [part, classParts, wants, each, totals]
  have grants (f b short) (n : Fin 32) : (raise f b short).g[n] = a.g[n] + f n := vec_get ..
  rw [totals, parts]
  split_ifs
  · exact ⟨rfl, grants _ _ _⟩
  · exact ⟨rfl, fun n => by rw [grants, wants]⟩
  · exact ⟨rfl, fun n => by rw [grants, wants]; rfl⟩

theorem allocClass_raised (s c a) : Raised s a (allocClass s c a) := by
  obtain ⟨hb, hg⟩ := allocClass_step s c a
  generalize allocClass s c a = a' at hb hg
  revert hb hg
  unfold classStep
  split_ifs with h0 hall
  · refine fun hb hg => raised_of (c := c) (fun _ => 0) hg (fun _ => Nat.zero_le _) ?_
    rw [hb]
    simp
  · refine fun hb hg => raised_of (c := c) (lacks s c a) hg (fun _ => le_rfl) ?_
    rw [hb]
    exact (Nat.add_sub_cancel' hall).le
  · refine fun hb hg => raised_of (c := c) _ hg (fun n => greatest_le _ _) ?_
    rw [hb, Nat.add_zero]
    exact (Finset.sum_le_sum fun n _ => raiseWithin_cost ..).trans (classParts_sum s c a)

/-! ### The allocation -/

theorem Raised.trans {s a b c} (h : Raised s a b) (k : Raised s b c) : Raised s a c :=
  ⟨fun hc => k.capped (h.capped hc), k.within.trans h.within⟩

/-- What an allocation starts from. -/
def noGrants (budget : Nat) : Alloc :=
  { g := .replicate 32 0, b := budget * 100000, cls := .replicate 32 0, short := [], cost := [] }

theorem noGrants_get (budget) (n : Fin 32) : (noGrants budget).g[n] = 0 := by
  show (Vector.replicate 32 0)[n] = 0
  simp

theorem noGrants_spent (s budget) : spent s (noGrants budget) = 0 := by
  refine Finset.sum_eq_zero fun n _ => ?_
  rw [noGrants_get, hubPower]
  simp

theorem allocate_raised (s budget) : Raised s (noGrants budget) (allocate s budget) := by
  have classes : ∀ (l : List (Fin 5)) (a : Alloc), Raised s a (l.foldl (fun a c => allocClass s c a) a) := by
    intro l
    induction l with
    | nil => exact fun a => ⟨id, le_rfl⟩
    | cons c l ih => exact fun a => (allocClass_raised s c a).trans (ih _)
  exact classes (indices 5) (noGrants budget)

/-- Grants keep to the ceilings, and their hub power to the budget (R165, R166). -/
theorem allocate_within (s budget) : (∀ n : Fin 32, (allocate s budget).g[n] ≤ tapCeiling s n) ∧
    spent s (allocate s budget) ≤ budget * 100000 := by
  obtain ⟨capped, within⟩ := allocate_raised s budget
  refine ⟨capped fun n => ?_, ?_⟩
  · rw [noGrants_get]
    exact Nat.zero_le _
  · rw [noGrants_spent, Nat.zero_add] at within
    exact (Nat.le_add_right ..).trans within

end Sys2Proof.Machine
end

/-! ## An arbiter period -/

section
open Sys2Proof.Claims

namespace Sys2Proof.Machine

/-! ### What the metering of a period leaves as it is -/

/-- The parts of a tap that no metering, loop or start of a period touches. -/
def Tap.core (t : Tap) : TapState × Nat × TapCfg × Nat × Nat × Nat × Int × Int :=
  (t.state, t.dose, t.cfg, t.grant, t.entSup, t.entCon, t.vKel, t.iStk)

/-- The parts of a state that no metering, loop or wake of a cluster touches. -/
def State.core (s : State) : Hub × Vector Port 4 × Rcp × Arb × Sys ×
    Vector (TapState × Nat × TapCfg × Nat × Nat × Nat × Int × Int) 32 :=
  (s.hub, s.ports, s.rcp, { s.arb with cutSeen := false }, { s.sys with clWaking := 0 }, s.taps.map Tap.core)

theorem core_taps {s t : State} (h : ∀ n : Fin 32, t.taps[n].core = s.taps[n].core) :
    t.taps.map Tap.core = s.taps.map Tap.core := by
  ext i hi : 1
  simpa using h ⟨i, hi⟩

theorem core_of {s t : State} (hub : t.hub = s.hub) (ports : t.ports = s.ports) (rcp : t.rcp = s.rcp)
    (arb : t.arb = { s.arb with cutSeen := t.arb.cutSeen }) (sys : t.sys = { s.sys with clWaking := t.sys.clWaking })
    (taps : ∀ n : Fin 32, t.taps[n].core = s.taps[n].core) : t.core = s.core := by
  unfold State.core
  rw [hub, ports, rcp, arb, sys, core_taps taps]

theorem core_shows {s t : State} (h : t.core = s.core) : t.hub = s.hub ∧ t.ports = s.ports ∧ t.rcp = s.rcp ∧
    t.arb = { s.arb with cutSeen := t.arb.cutSeen } ∧ t.sys = { s.sys with clWaking := t.sys.clWaking } ∧
    ∀ n : Fin 32, t.taps[n].core = s.taps[n].core := by
  unfold State.core at h
  simp only [Prod.mk.injEq] at h
  obtain ⟨hub, ports, rcp, arb, sys, taps⟩ := h
  refine ⟨hub, ports, rcp, ?_, ?_, fun n => ?_⟩
  · exact congrArg (fun a : Arb => { a with cutSeen := t.arb.cutSeen }) arb
  · exact congrArg (fun y : Sys => { y with clWaking := t.sys.clWaking }) sys
  · have at_n := congrArg (·[n.val]) taps
    simpa using at_n

theorem modTap_core {f : Tap → Tap} (h : ∀ t, (f t).core = t.core) (n) (s : State) : (s.modTap n f).core = s.core :=
  core_of rfl rfl rfl rfl rfl fun m => by
    rw [State.modTap_taps]
    split
    next e => rw [h, e]
    next => rfl

theorem mapTaps_core {f : Fin 32 → Tap → Tap} {s : State} (h : ∀ n : Fin 32, (f n s.taps[n]).core = s.taps[n].core) :
    (s.mapTaps f).core = s.core :=
  core_of rfl rfl rfl rfl rfl fun n => by rw [State.mapTaps_taps, h]

theorem wakeFor_core (n s) : (wakeFor n s).core = s.core := by
  unfold wakeFor
  split
  · rfl
  · exact core_of rfl rfl rfl rfl rfl fun _ => rfl

theorem retarget_core (n s) : (retarget n s).core = s.core := by
  unfold retarget
  exact modTap_core (by exact fun _ => rfl) _ _

theorem stopStake_core (n s) : (stopStake n s).core = s.core :=
  core_of (by simp) (by simp) (by simp) (by simp) (by simp) fun m => by
    rw [stopStake_taps]
    split_ifs with h
    · rw [h]
      rfl
    · rfl
    · rfl

theorem refresh_core (n s) : (refresh n s).core = s.core := by
  unfold refresh
  split
  · exact retarget_core ..
  · rfl

theorem bandTargets_core (n s) : (bandTargets n s).core = s.core := by
  unfold bandTargets
  dsimp only
  split
  · exact retarget_core ..
  · rfl

theorem lostNtc_core (n s) : (lostNtc n s).core = s.core := by
  unfold lostNtc
  split
  · rw [wakeFor_core, bandTargets_core]
    exact modTap_core (by exact fun _ => rfl) _ _
  · rfl

theorem reverseSeen_core (was n s) : (reverseSeen was n s).core = s.core := by
  have turned : (turnBack (headTap s n) s).core = s.core := by
    unfold turnBack
    dsimp only
    split
    · exact stopStake_core ..
    · rfl
  unfold reverseSeen
  dsimp only
  split_ifs
  · rfl
  · exact turned
  · rw [wakeFor_core, turned]

theorem loops_core (s) : (loops s).core = s.core :=
  core_of rfl rfl rfl rfl rfl fun n => by
    rw [((loops_looped s) n).2]
    rfl

/-! ### Cut episodes -/

theorem setEpisode_core (n contract e) (s : State) : (setEpisode n contract e s).core = s.core := by
  unfold setEpisode
  exact modTap_core (fun t => by split <;> rfl) _ _

theorem cutNotice_outside (n contract cause fin mwh time valid payload) (s : State) :
    let t := cutNotice n contract cause fin mwh time valid payload s
    t = { s with bbx := t.bbx, alr := t.alr, bus := t.bus } := rfl

theorem cutNotice_core (n contract cause fin mwh time valid payload) (s : State) :
    (cutNotice n contract cause fin mwh time valid payload s).core = s.core := by
  rw [cutNotice_outside]
  rfl

theorem issueCut_core (n contract e s) : (issueCut n contract e s).core = s.core := by
  unfold issueCut
  dsimp only
  split
  · rfl
  · rw [cutNotice_core, setEpisode_core]

theorem meterCut_core (n contract s) : (meterCut n contract s).core = s.core := by
  unfold meterCut
  extract_lets sf e c ctrs u e' arb v
  split_ifs with h0 h1
  · rw [issueCut_core, setEpisode_core]
  · rfl
  · have seen : v.core = s.core := by
      have counts : u.core = s.core := rfl
      refine Eq.trans ?_ counts
      simp only [v]
      split
      · rfl
      · exact core_of rfl rfl rfl rfl rfl fun _ => rfl
    rw [issueCut_core, setEpisode_core, seen]

theorem endCut_core (n contract s) : (endCut n contract s).core = s.core := by
  unfold endCut
  dsimp only
  rw [cutNotice_core, setEpisode_core, issueCut_core]

theorem meterCuts_core (s) : (meterCuts s).core = s.core :=
  foldFin_keeps State.core _ (fun _ _ => by rw [meterCut_core, meterCut_core]) s

theorem endCuts_core (s) : (endCuts s).core = s.core := by
  unfold endCuts
  split
  · rfl
  · refine foldFin_keeps State.core _ (fun n u => ?_) s
    have each (contract : Bool) (u : State) : (if (episodeOf u.taps[n] contract).running &&
        decide (200 ≤ (episodeOf u.taps[n] contract).quiet) then endCut n contract u else u).core = u.core := by
      split
      · exact endCut_core ..
      · rfl
    exact (each true _).trans (each false u)

theorem resetSeen_core (s) : (resetSeen s).core = s.core := mapTaps_core fun _ => rfl

/-! ### The sample -/

/-- A sample enters the state, before what it shows has its effect (R57). -/
def sampled (m : Sample) (s : State) : State :=
  let s := ((s.mapPorts (samplePort m)).mapTaps (sampleTap m)).modSys fun y => sampleKey m (sampleAux m (sampleString m y))
  let s := { s with
    tie := { s.tie with cur := m.tie }
    bus := ({ s.bus with alertOther := m.alertLow } : Bus).lineLevel
    links := vec fun x => { s.links[x] with pilot := m.pilots.getD x.val s.links[x].pilot } }
  { s with hub := sampleHub m s.hub }

theorem absorb_eq (m s) : absorb m s =
    loops (retrack (foldFin 32 lostNtc <| foldFin 32 (reverseSeen s.taps) (sampled m s))) := rfl

theorem absorb_core (m s) : (absorb m s).core = (sampled m s).core := by
  rw [absorb_eq, loops_core, retrack, foldFin_keeps State.core _ refresh_core, foldFin_keeps State.core _ lostNtc_core,
    foldFin_keeps State.core _ (reverseSeen_core s.taps)]

/-- A period begins: the sample is taken, and the shortfalls of the period that ends are counted (R57, R172). -/
def measured (m : Sample) (s : State) : State := resetSeen (endCuts (meterCuts (absorb m (newPeriod s))))

theorem measured_core (m s) : (measured m s).core = (sampled m (newPeriod s)).core := by
  rw [measured, resetSeen_core, endCuts_core, meterCuts_core, absorb_core]

theorem samplePort_shows (m x p) : (samplePort m x p).iLim = p.iLim ∧ (∀ v i : Int, m.ports[x.val]? = some (v, i) →
    (samplePort m x p).vin = v ∧ (samplePort m x p).iin = i) := by
  unfold samplePort
  split
  next h => exact ⟨rfl, fun v i hv => by rw [h] at hv; exact nomatch hv⟩
  next v i h => exact ⟨rfl, fun v' i' hv => by
    rw [h] at hv
    obtain ⟨rfl, rfl⟩ := Prod.mk.inj (Option.some.inj hv)
    exact ⟨rfl, rfl⟩⟩

theorem ntcAverage_core (a b t) : (ntcAverage a b t).core = t.core := by
  unfold ntcAverage
  dsimp only
  split_ifs <;> rfl

theorem sampleTap_shows (m n t) : (sampleTap m n t).core =
    ({ t with vKel := (sampleTap m n t).vKel, iStk := (sampleTap m n t).iStk } : Tap).core ∧
    ∀ a, m.taps[n.val]? = some a → (sampleTap m n t).vKel = a.vKel ∧ (sampleTap m n t).iStk = a.iStk := by
  unfold sampleTap
  split
  next h => exact ⟨rfl, fun a ha => by rw [h] at ha; exact nomatch ha⟩
  next b h =>
    have averaged (t) := ntcAverage_core b.ntcA b.ntcB t
    have volts (t) : (ntcAverage b.ntcA b.ntcB t).vKel = t.vKel := congrArg (fun c => c.2.2.2.2.2.2.1) (averaged t)
    have amps (t) : (ntcAverage b.ntcA b.ntcB t).iStk = t.iStk := congrArg (fun c => c.2.2.2.2.2.2.2) (averaged t)
    refine ⟨by rw [averaged, volts, amps]; rfl, fun a ha => ?_⟩
    rw [h] at ha
    obtain rfl := Option.some.inj ha
    exact ⟨volts _, amps _⟩

theorem sampleSys_shows (m y) : let z := sampleKey m (sampleAux m (sampleString m y))
    z.inlet = m.inlet ∧ z.st = y.st ∧ z.cores = y.cores := by
  unfold sampleKey sampleAux sampleString
  dsimp only
  split_ifs <;> exact ⟨rfl, rfl, rfl⟩

/-- What the sample and the metering of a period leave of the state, and what they show (R57). -/
structure Measured (m : Sample) (s u : State) : Prop where
  hub : u.hub = sampleHub m s.hub
  rcp : u.rcp = s.rcp
  arb : u.arb = { s.arb with cutSeen := u.arb.cutSeen }
  inlet : u.sys.inlet = m.inlet
  st : u.sys.st = s.sys.st
  cores : u.sys.cores = s.sys.cores
  ports : ∀ x : Fin 4, u.ports[x] = samplePort m x s.ports[x]
  taps : ∀ n : Fin 32, u.taps[n].core =
    ({ s.taps[n] with vKel := u.taps[n].vKel, iStk := u.taps[n].iStk } : Tap).core
  read : ∀ (n : Fin 32) a, m.taps[n.val]? = some a → u.taps[n].vKel = a.vKel ∧ u.taps[n].iStk = a.iStk

theorem measured_shows (m s) : Measured m s (measured m s) := by
  obtain ⟨hub, ports, rcp, arb, sys, taps⟩ := core_shows (measured_core m s)
  obtain ⟨inlet, st, cores⟩ := sampleSys_shows m (newPeriod s).sys
  have tap (n : Fin 32) : (sampled m (newPeriod s)).taps[n] = sampleTap m n { s.taps[n] with acted := 0 } := by
    refine (State.mapTaps_taps ..).trans (congrArg (sampleTap m n) ?_)
    show (s.mapTaps fun _ t => { t with acted := 0 }).taps[n] = _
    exact State.mapTaps_taps ..
  have volts (n : Fin 32) : (measured m s).taps[n].vKel = (sampleTap m n { s.taps[n] with acted := 0 }).vKel :=
    congrArg (fun c => c.2.2.2.2.2.2.1) ((taps n).trans (congrArg Tap.core (tap n)))
  have amps (n : Fin 32) : (measured m s).taps[n].iStk = (sampleTap m n { s.taps[n] with acted := 0 }).iStk :=
    congrArg (fun c => c.2.2.2.2.2.2.2) ((taps n).trans (congrArg Tap.core (tap n)))
  refine ⟨hub, rcp, arb, ?_, ?_, ?_, fun x => ?_, fun n => ?_, fun n a ha => ?_⟩
  · rw [sys]
    exact inlet
  · rw [sys]
    exact st
  · rw [sys]
    exact cores
  · rw [ports]
    exact State.mapPorts_ports ..
  · rw [taps n, tap n, (sampleTap_shows m n _).1, volts, amps]
    rfl
  · rw [volts, amps]
    exact (sampleTap_shows m n _).2 a ha

end Sys2Proof.Machine
end

/-! ## Grants and doses -/

section
open Sys2Proof.Claims

namespace Sys2Proof.Machine

/-! ### The output page of the recipe -/

theorem takeOut_core (n o s) : (takeOut n o s).core = s.core := by
  have taken : (s.modTap n fun t => if decide (s.taps[n].state = .precharge ∨ s.taps[n].state = .cc ∨
      s.taps[n].state = .cv ∨ s.taps[n].state = .topoff) && o.flags.getLsbD 0 then
        { t with rcpReq := if o.cur = 0xFFFF then none else some o.cur.toNat
                 rcpCeil := if o.ceil.toNat < 18000 then 0 else o.ceil.toNat }
      else { t with rcpReq := none, rcpCeil := 0 }).core = s.core := modTap_core (fun t => by split <;> rfl) _ _
  unfold takeOut
  split
  · rfl
  · dsimp only
    split
    · rw [retarget_core, taken]
    · exact taken

/-- The phase in which an arbiter period leaves a recipe that waits for one (R383). -/
def nextPhase (r : Rcp) : RcpPhase :=
  if r.phase = .starting then .alone
  else if r.phase = .alone ∧ r.running.isSome = true then .init else r.phase

theorem callEntry_shows (off a0 s) : (callEntry off .init a0 s).rcp.out = s.rcp.out ∧
    (callEntry off .init a0 s).rcp.phase = (if s.rcp.running.isSome then .init else s.rcp.phase) ∧
    callEntry off .init a0 s = { s with rcp := (callEntry off .init a0 s).rcp } := by
  unfold callEntry
  cases s.rcp.running <;> exact ⟨rfl, rfl, rfl⟩

theorem takeOutputs_shows (s) : (takeOutputs s).rcp.out = [] ∧ (takeOutputs s).rcp.phase = nextPhase s.rcp ∧
    (takeOutputs s).core = ({ s with rcp := (takeOutputs s).rcp } : State).core := by
  have called : ∃ r : Rcp, r.out = [] ∧ r.phase = nextPhase s.rcp ∧
      (match ({ s with rcp := { s.rcp with out := [] } } : State).rcp.phase with
        | .starting => ({ s with rcp := { s.rcp with out := [], phase := .alone } } : State)
        | .alone => callEntry 0 .init 0 { s with rcp := { s.rcp with out := [] } }
        | _ => { s with rcp := { s.rcp with out := [] } }) = { s with rcp := r } := by
    unfold nextPhase
    cases hp : s.rcp.phase
    case alone =>
      obtain ⟨out, phase, frame⟩ := callEntry_shows 0 0 { s with rcp := { s.rcp with out := [] } }
      refine ⟨_, out, phase.trans ?_, frame⟩
      cases s.rcp.running <;> simp [hp]
    case starting => exact ⟨_, rfl, rfl, rfl⟩
    all_goals exact ⟨_, rfl, by simpa using hp, rfl⟩
  obtain ⟨r, out, phase, started⟩ := called
  have core : (takeOutputs s).core = ({ s with rcp := r } : State).core := by
    unfold takeOutputs
    extract_lets out u v
    rw [← started]
    split
    · rfl
    · exact (foldFin_keeps State.core _ (fun _ _ => takeOut_core ..) _).trans rfl
  obtain ⟨-, -, rcp, -, -, -⟩ := core_shows core
  exact ⟨rcp ▸ out, rcp ▸ phase, rcp ▸ core⟩

/-! ### The computation -/

/-- A bad inlet sensor raises its alert when it turns bad (R162). -/
def noteInlet (s : State) : State :=
  if inletBad s.sys.inlet && !s.arb.inletBad then alert 3 0xA 6 0xFF 0 s else s

/-- The budget of a period, W (R161, R162). -/
def periodBudget (s : State) : Nat := min (intakeBudget s) (coolantPower s)

/-- What grants make of a tap (R165, R171, R179). -/
def grantedBy (s : State) (a : Alloc) (n : Fin 32) : Tap := entitle s n (showGrant s a n s.taps[n])

theorem grantedBy_shows (s a n) : grantedBy s a n = { s.taps[n] with
      nextDose := (grantedBy s a n).grant, grant := (grantedBy s a n).grant, request := (grantedBy s a n).request
      cls := (grantedBy s a n).cls, fill := (grantedBy s a n).fill, levels := (grantedBy s a n).levels
      eRem := (grantedBy s a n).eRem, entSup := (grantedBy s a n).entSup, entCon := (grantedBy s a n).entCon } ∧
    (grantedBy s a n).grant = a.g[n] := ⟨rfl, rfl⟩

theorem noteInlet_outside (s) : noteInlet s = { s with alr := (noteInlet s).alr, bus := (noteInlet s).bus } := by
  unfold noteInlet
  split
  · rw [alert_shape]
  · rfl

/-- What the computation of a period shows (R161 to R168). -/
structure Computed (v c : State) : Prop where
  taps : ∀ n : Fin 32, c.taps[n] = grantedBy v (allocate v (periodBudget v)) n
  limIn : ∀ x : Fin 4, c.ports[x].limIn = v.ports[x].limIn ∧ c.ports[x].vin = v.ports[x].vin ∧ c.ports[x].iin = v.ports[x].iin
  hub : c.hub = { v.hub with pavail := c.hub.pavail }
  sys : c.sys = v.sys
  rcp : c.rcp = v.rcp
  grant : c.arb.grant = spent v (allocate v (periodBudget v)) / 100000
  budget : c.arb.budget = periodBudget v
  periods : c.arb.periods = (v.arb.periods + 1) % 65536
  fresh : c.arb.fresh = true
  higherDue : c.arb.higherDue = false
  inletBad : c.arb.inletBad = inletBad v.sys.inlet

theorem Port.moveTo_shows (w p) : (Port.moveTo w p).limIn = p.limIn ∧ (Port.moveTo w p).vin = p.vin ∧
    (Port.moveTo w p).iin = p.iin := by
  unfold Port.moveTo
  split <;> exact ⟨rfl, rfl, rfl⟩

theorem computePeriod_shows (u) : Computed (noteInlet (takeOutputs (takeSettings u))) (computePeriod u) := by
  have noted := noteInlet_outside (takeOutputs (takeSettings u))
  unfold computePeriod
  extract_lets v bad w intake pq a cost hub allow s₁ s₂
  have hw : w = noteInlet v := rfl
  have sys : v.sys = w.sys := by rw [hw, noted]
  have hbad : bad = Machine.inletBad w.sys.inlet := congrArg (fun y : Sys => Machine.inletBad y.inlet) sys
  have budget : min intake pq = periodBudget w := rfl
  have ha : a = allocate w (periodBudget w) := rfl
  have hcost : cost = spent w a / 100000 := by
    simp only [cost, spent, indices_sum]
  clear_value a
  rw [← hw, budget]
  have ports (x : Fin 4) : s₂.ports[x] = Port.moveTo (got allow x.val) w.ports[x] := State.mapPorts_ports ..
  have taps (n : Fin 32) : s₁.taps[n] = grantedBy w a n :=
    State.mapTaps_taps w (fun n t => entitle w n (showGrant w a n t)) n
  have kept : s₂.taps = s₁.taps := rfl
  have hsys : s₂.sys = w.sys := rfl
  have hrcp : s₂.rcp = w.rcp := rfl
  clear_value s₂ cost allow
  rw [← kept] at taps
  clear kept
  clear s₁ hub
  rw [ha] at taps hcost
  clear_value pq intake bad
  exact ⟨taps, fun x => by rw [ports]; exact Port.moveTo_shows .., rfl, hsys, hrcp, hcost, rfl, rfl, rfl, rfl, hbad⟩

/-- A tap asks and has its ceiling by its state, settings and stake alone (R164). -/
theorem ceiling_congr {v c : State} {a} (taps : ∀ n : Fin 32, c.taps[n] = grantedBy v a n) (n : Fin 32) : stakeLimit c n = stakeLimit v n ∧ asks c n = asks v n := by
  have shape (n : Fin 32) := (taps n).trans (grantedBy_shows v a n).1
  generalize grantedBy v a = t at shape
  have rated : rating c n = rating v n := rating_congr (fun m => by rw [shape m]) (fun m => by rw [shape m])
    (fun m => by rw [shape m]) n
  refine ⟨?_, ?_⟩
  · unfold stakeLimit
    rw [rated, shape n]
  · unfold asks gangedOdd
    rw [shape n]
    rfl

theorem Computed.capped {v c : State} (h : Computed v c) (n : Fin 32) : c.taps[n].grant ≤ stakeLimit c n ∧
    (∀ k, c.taps[n].cfg.cmdLim = some k → c.taps[n].grant ≤ k) ∧ (asks c n = false → c.taps[n].grant = 0) := by
  have cap := (allocate_within v (periodBudget v)).1 n
  have taps := h.taps
  generalize allocate v (periodBudget v) = a at cap taps
  obtain ⟨limit, asked⟩ := ceiling_congr taps n
  have grant : c.taps[n].grant = a.g[n] := by
    rw [taps n]
    exact (grantedBy_shows ..).2
  have cfg : c.taps[n].cfg = v.taps[n].cfg := by
    rw [taps n, (grantedBy_shows ..).1]
  rw [limit, asked, grant, cfg]
  generalize a.g[n] = g at cap
  unfold tapCeiling at cap
  cases ha : asks v n
  · rw [ha, if_neg Bool.false_ne_true] at cap
    have zero : g = 0 := by omega
    rw [zero]
    exact ⟨Nat.zero_le _, fun _ _ => Nat.zero_le _, fun _ => rfl⟩
  · rw [ha, if_pos rfl] at cap
    refine ⟨cap.trans (min_le_left ..), fun k hk => ?_, nofun⟩
    rw [hk] at cap
    exact cap.trans (min_le_right ..)

theorem Computed.within {v c : State} (h : Computed v c) : c.arb.grant ≤ c.arb.budget := by
  rw [h.grant, h.budget]
  have spends := (allocate_within v (periodBudget v)).2
  generalize spent v (allocate v (periodBudget v)) = w at spends
  omega

/-! ### What a period shows -/

theorem tapReg_shown (s : State) (m n off) : tapReg { s with shown := m } n off = tapReg s n off := rfl
theorem srcReg_shown (s : State) (m x off) : srcReg { s with shown := m } x off = srcReg s x off := rfl
theorem hubReg_shown (s : State) (m off) : hubReg { s with shown := m } off = hubReg s off := rfl
theorem sysReg_shown (s : State) (m off) : sysReg { s with shown := m } off = sysReg s off := rfl

/-- The registers updated once per period do not look at what they showed (R57). -/
theorem refreshShown_again (s) : (refreshShown (refreshShown s)).shown = (refreshShown s).shown := by
  have shape : ∃ m, refreshShown s = { s with shown := m } := ⟨_, rfl⟩
  unfold refreshShown
  generalize hm : ({ s.shown with
      taps := vec fun n => (indices 28).map fun o => tapReg s n o.val
      ports := vec fun x => (indices 10).map fun o => srcReg s x o.val
      hub := (indices 73).map fun o => hubReg s o.val
      flt := fltWords s
      vsel := sysReg s 0x13 } : Shown) = m
  dsimp only
  simp only [tapReg_shown, srcReg_shown, hubReg_shown, sysReg_shown]
  rw [← hm]
  rfl

/-! ### Doses -/

/-- One tap of the application of doses (R168). -/
def doseRound (higher : Bool) (n : Fin 32) (s : State) : State :=
  let t := s.taps[n]
  if (higher && decide (t.dose < t.nextDose)) || (!higher && decide (t.nextDose < t.dose)) then
    let s := s.modTap n fun t =>
      { t with dose := t.nextDose, stake := { t.stake with ilimRun := min (t.cfg.cmdLim.getD 0xFFFF) t.nextDose } }
    if 0 < t.nextDose then wakeFor n s else s
  else s

theorem applyDoses_eq (higher s) : applyDoses higher s = foldFin 32 (doseRound higher) s := rfl

theorem doseRound_taps (higher n s) : (doseRound higher n s).taps =
    if (higher && decide (s.taps[n].dose < s.taps[n].nextDose)) || (!higher && decide (s.taps[n].nextDose < s.taps[n].dose)) then
      (s.modTap n fun t =>
        { t with dose := t.nextDose, stake := { t.stake with ilimRun := min (t.cfg.cmdLim.getD 0xFFFF) t.nextDose } }).taps
    else s.taps := by
  unfold doseRound
  dsimp only
  split
  · split <;> simp
  · rfl

theorem doseRound_tap (higher n s) : (doseRound higher n s).taps[n].dose =
      (if higher then max s.taps[n].dose s.taps[n].nextDose else min s.taps[n].dose s.taps[n].nextDose) ∧
    (doseRound higher n s).taps[n].state = s.taps[n].state ∧
    (∀ m : Fin 32, m ≠ n → (doseRound higher n s).taps[m] = s.taps[m]) := by
  rw [doseRound_taps]
  split
  next h =>
    refine ⟨?_, ?_, fun m hm => ?_⟩
    · rw [State.modTap_taps, if_pos rfl]
      generalize s.taps[n] = t at h ⊢
      cases higher <;> simp at h ⊢ <;> omega
    · rw [State.modTap_taps, if_pos rfl]
    · rw [State.modTap_taps, if_neg hm]
  next h =>
    refine ⟨?_, rfl, fun _ _ => rfl⟩
    show s.taps[n].dose = _
    generalize s.taps[n] = t at h ⊢
    cases higher <;> simp at h ⊢ <;> omega

theorem applyDoses_taps (higher s) (n : Fin 32) : (applyDoses higher s).taps[n].dose =
      (if higher then max s.taps[n].dose s.taps[n].nextDose else min s.taps[n].dose s.taps[n].nextDose) ∧
    (applyDoses higher s).taps[n].state = s.taps[n].state := by
  obtain ⟨u, hu, -, round⟩ := foldFin_at (fun m (s : State) => s.taps[m]) (fun _ => ())
    (fun i m s hm => (doseRound_tap higher i s).2.2 m hm) (fun _ _ => rfl) n s
  obtain ⟨dose, state, -⟩ := doseRound_tap higher n u
  rw [applyDoses_eq, round, dose, state, hu]
  exact ⟨rfl, rfl⟩

theorem applyDoses_outside (higher s) :
    applyDoses higher s = { s with taps := (applyDoses higher s).taps, sys := (applyDoses higher s).sys } := by
  have rest := foldFin_keeps (fun u : State => ({ u with taps := s.taps, sys := s.sys } : State)) (doseRound higher)
    (fun n u => by
      unfold doseRound wakeFor
      dsimp only
      split_ifs <;> rfl) s
  rw [← applyDoses_eq] at rest
  generalize applyDoses higher s = t at rest
  have restored := congrArg (fun u : State => ({ u with taps := t.taps, sys := t.sys } : State)) rest
  exact restored

/-! ### The end of a cut episode -/

theorem record_last (type payload) (s : State) : (record type payload s).bbx.queue.getLast?.map (·.type) = some type := by
  simp [record, BbxItem.type]

theorem cutNotice_shows (n contract cause fin mwh time valid payload) (s : State) :
    let t := cutNotice n contract cause fin mwh time valid payload s
    t.bbx.nextSeq = s.bbx.nextSeq + 1 ∧ t.alr.nextSeq = s.alr.nextSeq + 1 ∧
      t.bbx.queue.getLast?.map (·.type) = some 0x09 ∧ t.taps = s.taps := by
  refine ⟨?_, ?_, ?_, rfl⟩
  · unfold cutNotice
    rw [enqueue_eq]
    rfl
  · unfold cutNotice
    rw [enqueue_nextSeq]
    rfl
  · unfold cutNotice
    rw [enqueue_eq]
    exact record_last ..

theorem issueCut_shows {n e s} (hc : c3Up s = true) : let t := issueCut n false e s
    t.bbx.nextSeq = s.bbx.nextSeq + (if e.told then 0 else 1) ∧ t.alr.nextSeq = s.alr.nextSeq + (if e.told then 0 else 1) ∧
      (∃ e', t.taps = (if e.told then s else setEpisode n false e' s).taps) ∧
      t = { s with taps := t.taps, bbx := t.bbx, alr := t.alr, bus := t.bus } := by
  unfold issueCut
  rw [hc]
  cases e.told
  · obtain ⟨seq, alr, -, taps⟩ := cutNotice_shows n false e.cause false 0 e.since e.sinceValid
      (wordsOf 4 e.since ++ demandWords (setEpisode n false { e with told := true } s)) (setEpisode n false { e with told := true } s)
    refine ⟨seq, alr, ⟨_, taps⟩, ?_⟩
    have frame := cutNotice_outside n false e.cause false 0 e.since e.sinceValid
      (wordsOf 4 e.since ++ demandWords (setEpisode n false { e with told := true } s)) (setEpisode n false { e with told := true } s)
    exact frame
  · exact ⟨rfl, rfl, ⟨e, rfl⟩, rfl⟩

theorem endCut_shows {n : Fin 32} {s} (hc : c3Up s = true) : let t := endCut n false s
    t.taps[n] = { s.taps[n] with cutSup := .reset } ∧ TapsBut n s t ∧
      t.bbx.nextSeq = s.bbx.nextSeq + (if s.taps[n].cutSup.told then 1 else 2) ∧
      t.bbx.queue.getLast?.map (·.type) = some 0x09 ∧
      t.alr.nextSeq = s.alr.nextSeq + (if s.taps[n].cutSup.told then 1 else 2) ∧
      t = { s with taps := t.taps, bbx := t.bbx, alr := t.alr, bus := t.bus } := by
  unfold endCut
  extract_lets u e mwh v t
  obtain ⟨useq, ualr, ⟨e', utaps⟩, uframe⟩ := issueCut_shows (n := n) (e := episodeOf s.taps[n] false) hc
  have hu : u = issueCut n false (episodeOf s.taps[n] false) s := rfl
  rw [← hu] at useq ualr utaps uframe
  obtain ⟨seq, alr, last, taps⟩ := cutNotice_shows n false e.cause true mwh v.stamp v.sys.timeValid
    (wordsOf 4 (v.stamp - e.since) ++ wordsOf 2 mwh) v
  have frame := cutNotice_outside n false e.cause true mwh v.stamp v.sys.timeValid
    (wordsOf 4 (v.stamp - e.since) ++ wordsOf 2 mwh) v
  have hv : v = { s with taps := v.taps, bbx := u.bbx, alr := u.alr, bus := u.bus } := by
    show setEpisode n false .reset u = _
    rw [uframe]
    rfl
  have tap (m : Fin 32) : v.taps[m] = if m = n then { s.taps[n] with cutSup := .reset } else s.taps[m] := by
    show ((u.modTap n fun t => { t with cutSup := .reset }).taps)[m] = _
    rw [State.modTap_taps, utaps]
    have set (m : Fin 32) : (setEpisode n false e' s).taps[m] =
        if m = n then { s.taps[n] with cutSup := e' } else s.taps[m] := State.modTap_taps ..
    cases (episodeOf s.taps[n] false).told
    · simp only [Bool.false_eq_true, if_false]
      rw [set n, set m, if_pos rfl]
      split <;> rfl
    · rfl
  generalize ht : cutNotice n false e.cause true mwh v.stamp v.sys.timeValid
    (wordsOf 4 (v.stamp - e.since) ++ wordsOf 2 mwh) v = t' at seq alr last taps frame
  have same : t = t' := ht
  have count (k : Nat) : k + (if (episodeOf s.taps[n] false).told then 0 else 1) + 1 =
      k + (if s.taps[n].cutSup.told then 1 else 2) := by
    show k + (if s.taps[n].cutSup.told then 0 else 1) + 1 = _
    split <;> rfl
  have vseq : v.bbx.nextSeq = u.bbx.nextSeq := rfl
  have valr : v.alr.nextSeq = u.alr.nextSeq := rfl
  clear_value t v u
  subst same
  refine ⟨?_, fun m hm => ?_, ?_, last, ?_, ?_⟩
  · rw [taps, tap, if_pos rfl]
  · rw [taps, tap, if_neg hm]
  · rw [seq, vseq, useq, count]
  · rw [alr, valr, ualr, count]
  · rw [frame, hv]

/-! ### The period as a whole -/

theorem execArbPeriod_acts {m s} (hm : rated m = true) (hp : s.powered = true) : execArbPeriod m s = .next (refreshShown
    (if c3Up (measured m s) && !(measured m s).arb.frozen && decide ((measured m s).sys.st ≠ .recovery) then
      recipeSees (computePeriod (measured m s)) else measured m s)) := by
  unfold execArbPeriod
  rw [hm, hp]
  rfl

theorem Measured.c3Up {m s u} (h : Measured m s u) : Machine.c3Up u = Machine.c3Up s := by
  unfold Machine.c3Up
  rw [h.st, h.cores]

theorem Measured.frozen {m s u} (h : Measured m s u) : u.arb.frozen = s.arb.frozen := by rw [h.arb]

theorem Measured.kept {m s u} (h : Measured m s u) (n : Fin 32) : u.taps[n].state = s.taps[n].state ∧
    u.taps[n].dose = s.taps[n].dose ∧ u.taps[n].cfg = s.taps[n].cfg ∧ u.taps[n].grant = s.taps[n].grant ∧
    u.taps[n].entSup = s.taps[n].entSup ∧ u.taps[n].entCon = s.taps[n].entCon := by
  have core := h.taps n
  simp only [Tap.core, Prod.mk.injEq] at core
  obtain ⟨state, dose, cfg, grant, sup, con, -⟩ := core
  exact ⟨state, dose, cfg, grant, sup, con⟩

/-- What a period's settings and outputs leave for its computation (R43, R47, R376). -/
structure Prepared (u v : State) : Prop where
  hub : v.hub = { u.hub with modeIn := u.hub.mode }
  sys : v.sys.inlet = u.sys.inlet
  periods : v.arb.periods = u.arb.periods
  out : v.rcp.out = []
  phase : v.rcp.phase = nextPhase u.rcp
  ports : ∀ x : Fin 4, v.ports[x] = { u.ports[x] with limIn := u.ports[x].iLim }
  taps : ∀ n : Fin 32, v.taps[n].core = u.taps[n].core

theorem prepared_shows (u) : Prepared u (noteInlet (takeOutputs (takeSettings u))) := by
  obtain ⟨out, phase, core⟩ := takeOutputs_shows (takeSettings u)
  obtain ⟨hub, ports, -, arb, sys, taps⟩ := core_shows core
  rw [noteInlet_outside]
  refine ⟨hub, ?_, ?_, out, phase, fun x => ?_, taps⟩
  · show (takeOutputs (takeSettings u)).sys.inlet = _
    rw [sys]
    rfl
  · show (takeOutputs (takeSettings u)).arb.periods = _
    rw [arb]
    rfl
  · show (takeOutputs (takeSettings u)).ports[x] = _
    rw [ports]
    show (u.mapPorts fun _ p => { p with limIn := p.iLim }).ports[x] = _
    exact State.mapPorts_ports ..

/-- What a computed period leaves of each tap, and how it bounds its grant (R165, R168). -/
theorem period_tap {m s u v c} (meas : Measured m s u) (prep : Prepared u v) (comp : Computed v c) (n : Fin 32) :
    c.taps[n].nextDose = c.taps[n].grant ∧ c.taps[n].dose = s.taps[n].dose ∧ c.taps[n].grant ≤ stakeLimit c n ∧
      (∀ k, s.taps[n].cfg.cmdLim = some k → c.taps[n].grant ≤ k) ∧ (asks c n = false → c.taps[n].grant = 0) ∧
      c.taps[n].state = s.taps[n].state ∧
      ∀ a, m.taps[n.val]? = some a → c.taps[n].vKel = a.vKel ∧ c.taps[n].iStk = a.iStk := by
  obtain ⟨stake, lim, none⟩ := comp.capped n
  obtain ⟨state, dose, cfg, -⟩ := meas.kept n
  have core := prep.taps n
  simp only [Tap.core, Prod.mk.injEq] at core
  obtain ⟨vstate, vdose, vcfg, -, -, -, vvolt, vamp⟩ := core
  have taps := comp.taps n
  generalize allocate v (periodBudget v) = a at taps
  obtain ⟨shape, -⟩ := grantedBy_shows v a n
  rw [← taps] at shape
  refine ⟨?_, ?_, stake, fun k hk => lim k ?_, none, ?_, fun b hb => ?_⟩
  · rw [shape]
  · rw [shape]
    exact vdose.trans dose
  · rw [shape]
    exact (congrArg TapCfg.cmdLim (vcfg.trans cfg)).trans hk
  · rw [shape]
    exact vstate.trans state
  · obtain ⟨volt, amp⟩ := meas.read n b hb
    rw [shape]
    exact ⟨vvolt.trans volt, vamp.trans amp⟩

/-- The registers shown change nothing a tap's grant is judged by. -/
theorem seen_again (c : State) : (refreshShown (recipeSees c)).rcp.seen = (recipeSees (refreshShown (recipeSees c))).rcp.seen :=
  rfl

/-- Settles O44, event by event. -/
theorem grantsKeepWithinTheBudget : Obligations.GrantsKeepWithinTheBudget := by
  unfold Obligations.GrantsKeepWithinTheBudget
  refine ⟨fun m s hp hm => ⟨fun hc hf hst => ?_, fun hoff => ?_⟩, fun s hp => ⟨fun hf hfresh hh hd => ?_,
    fun hf hfresh hh hd => ?_, fun hoff => ?_, fun n hc hrun => ?_, fun n hrun => ?_⟩⟩
  · have meas := measured_shows m s
    have prep := prepared_shows (measured m s)
    have comp := computePeriod_shows (measured m s)
    have run : exec (.arbPeriod m) s = .next (refreshShown (recipeSees (computePeriod (measured m s)))) := by
      refine (execArbPeriod_acts hm hp).trans (congrArg (fun t => Host.Outcome.next (refreshShown t)) (if_pos ?_))
      rw [meas.c3Up, meas.frozen, meas.st, hc, hf, decide_eq_true hst]
      rfl
    generalize measured m s = u at meas prep comp run
    generalize noteInlet (takeOutputs (takeSettings u)) = v at prep comp
    generalize computePeriod u = c at comp run
    have hub : c.hub = { sampleHub m s.hub with modeIn := s.hub.mode, pavail := c.hub.pavail } := by
      rw [comp.hub, prep.hub, meas.hub]
      rfl
    have inlet : v.sys.inlet = m.inlet := prep.sys.trans meas.inlet
    refine ⟨_, run, comp.within, ?_, comp.fresh, comp.higherDue, ?_, ?_, ?_, (refreshShown_again _).symm, ?_,
      seen_again c, ?_, ?_, fun n => ?_, fun x => ?_⟩
    · show c.arb.periods = _
      rw [comp.periods, prep.periods, meas.arb]
    · show c.hub.v = _
      rw [hub]
      rfl
    · show c.sys.inlet = _
      rw [comp.sys, inlet]
    · show c.arb.inletBad = _
      rw [comp.inletBad, inlet]
      rfl
    · show c.rcp.out = []
      rw [comp.rcp, prep.out]
    · show c.rcp.phase = _
      rw [comp.rcp, prep.phase, meas.rcp]
      rfl
    · show c.hub.modeIn = _
      rw [hub]
    · exact period_tap meas prep comp n
    · obtain ⟨lim, vin, iin⟩ := comp.limIn x
      obtain ⟨kept, read⟩ := samplePort_shows m x s.ports[x]
      show c.ports[x].limIn = _ ∧ ∀ v i : Int, _ → c.ports[x].vin = v ∧ c.ports[x].iin = i
      rw [lim, vin, iin, prep.ports x, meas.ports x]
      exact ⟨kept, read⟩
  · have meas := measured_shows m s
    have run : exec (.arbPeriod m) s = .next (refreshShown (measured m s)) := by
      refine (execArbPeriod_acts hm hp).trans (congrArg (fun t => Host.Outcome.next (refreshShown t)) (if_neg ?_))
      rw [meas.c3Up, meas.frozen]
      obtain h | h := hoff
      · rw [h]
        exact Bool.false_ne_true
      · rw [h]
        simp
    generalize measured m s = u at meas run
    refine ⟨_, run, ?_, ?_, (refreshShown_again u).symm, fun n => ?_⟩
    · show u.arb.periods = _
      rw [meas.arb]
    · show u.arb.budget = _
      rw [meas.arb]
    · obtain ⟨-, dose, -, grant, sup, con⟩ := meas.kept n
      exact ⟨dose, grant, sup, con⟩
  · have run : exec .doseApply s = .next { applyDoses false s with
        arb := { (applyDoses false s).arb with higherDue := true }
        hub := { (applyDoses false s).hub with ramp0 := 0, droop := false } } := by
      show execDoseApply s = _
      unfold execDoseApply
      rw [hp, hf, hfresh, hh, hd]
      rfl
    have frame := applyDoses_outside false s
    have taps := applyDoses_taps false s
    generalize applyDoses false s = t at frame taps run
    refine ⟨_, run, rfl, ?_, taps, ?_⟩
    all_goals
      rw [frame]
  · have run : exec .doseApply s = .next (applyDoses true { s with arb := { s.arb with higherDue := false } }) := by
      show execDoseApply s = _
      unfold execDoseApply
      rw [hp, hf, hfresh, hh, hd]
      rfl
    have frame := applyDoses_outside true { s with arb := { s.arb with higherDue := false } }
    have taps := applyDoses_taps true { s with arb := { s.arb with higherDue := false } }
    generalize applyDoses true { s with arb := { s.arb with higherDue := false } } = t at frame taps run
    refine ⟨_, run, by rw [frame], taps, by rw [frame]⟩
  · show execDoseApply s = _
    exact if_pos (by obtain h | h := hoff <;> simp [h])
  · have run : exec (.cutEpisodeEnd n false) s = .next (endCut n false s) :=
      congrArg Host.Outcome.next (if_pos (by rw [hc, show (episodeOf s.taps[n] false).running = true from hrun]; rfl))
    exact ⟨_, run, endCut_shows hc⟩
  · exact congrArg Host.Outcome.next (if_neg (by
      rw [show (episodeOf s.taps[n] true).running = false from hrun, Bool.and_false]
      exact Bool.false_ne_true))

end Sys2Proof.Machine
end

/-! ## Rods that join and leave -/

section
open Sys2Proof.Claims

namespace Sys2Proof.Machine

/-! ### Choosing a rod -/

/-- A step of a choice: the element held gives way to one that ranks before it. -/
def keepBest {α : Type} (R : α → α → Prop) [DecidableRel R] (m : Option α) (r : α) : Option α :=
  some (match m with
    | none => r
    | some q => if R r q then r else q)

/-- What a choice holds at its end ranks before nothing (R79). -/
theorem foldBest {α : Type} {R : α → α → Prop} [DecidableRel R] {key : α → Int} (hR : ∀ a b, R a b ↔ key a < key b) :
    ∀ (l : List α) (m : α), ∃ q, l.foldl (keepBest R) (some m) = some q ∧ (q = m ∨ q ∈ l) ∧ key q ≤ key m ∧
      ∀ r ∈ l, key q ≤ key r
  | [], m => ⟨m, rfl, .inl rfl, le_rfl, nofun⟩
  | a :: l, m => by
    obtain ⟨q, hq, mem, first, best⟩ := foldBest hR l (if R a m then a else m)
    have low : key (if R a m then a else m) ≤ key m ∧ key (if R a m then a else m) ≤ key a := by
      have before := hR a m
      by_cases h : R a m
      · rw [if_pos h]
        exact ⟨(before.mp h).le, le_rfl⟩
      · rw [if_neg h]
        exact ⟨le_rfl, not_lt.mp fun hlt => h (before.mpr hlt)⟩
    refine ⟨q, hq, ?_, first.trans low.1, fun r hr => ?_⟩
    · obtain h | hm := mem
      · split at h
        · exact .inr (h ▸ List.mem_cons_self ..)
        · exact .inl h
      · exact .inr (List.mem_cons_of_mem _ hm)
    · obtain rfl | hr := List.mem_cons.mp hr
      · exact first.trans low.2
      · exact best r hr

theorem chosen {α : Type} {R : α → α → Prop} [DecidableRel R] {key : α → Int} (hR : ∀ a b, R a b ↔ key a < key b)
    {l : List α} (h : l ≠ []) : ∃ q, l.foldl (keepBest R) none = some q ∧ q ∈ l ∧ ∀ r ∈ l, key q ≤ key r := by
  cases l with
  | nil => exact absurd rfl h
  | cons a l =>
    obtain ⟨q, hq, mem, first, best⟩ := foldBest hR l a
    refine ⟨q, hq, ?_, fun r hr => ?_⟩
    · obtain rfl | hm := mem
      · exact List.mem_cons_self ..
      · exact List.mem_cons_of_mem _ hm
    · obtain rfl | hr := List.mem_cons.mp hr
      · exact first
      · exact best r hr

theorem leastWorn_eq (s l) : leastWorn s l = l.foldl (keepBest fun r q => (rodAt s r).runTime < (rodAt s q).runTime) none := by
  unfold leastWorn
  congr 1
  funext m r
  cases m with
  | none => rfl
  | some q =>
    dsimp only [keepBest]
    split <;> rfl

theorem mostWorn_eq (s l) : mostWorn s l = l.foldl (keepBest fun r q => (rodAt s q).runTime < (rodAt s r).runTime) none := by
  unfold mostWorn
  congr 1
  funext m r
  cases m with
  | none => rfl
  | some q =>
    dsimp only [keepBest]
    split <;> rfl

theorem leastWorn_of_ne {s l} (h : l ≠ []) : ∃ q, leastWorn s l = some q ∧ q ∈ l ∧
    ∀ r ∈ l, (rodAt s q).runTime ≤ (rodAt s r).runTime := by
  obtain ⟨q, hq, mem, best⟩ := chosen (key := fun r => ((rodAt s r).runTime : Int)) (fun _ _ => Int.ofNat_lt.symm) h
  exact ⟨q, (leastWorn_eq s l).trans hq, mem, fun r hr => Int.ofNat_le.mp (best r hr)⟩

theorem mostWorn_of_ne {s l} (h : l ≠ []) : ∃ q, mostWorn s l = some q ∧ q ∈ l ∧
    ∀ r ∈ l, (rodAt s r).runTime ≤ (rodAt s q).runTime := by
  obtain ⟨q, hq, mem, best⟩ := chosen (R := fun r q => (rodAt s q).runTime < (rodAt s r).runTime)
    (key := fun r => -((rodAt s r).runTime : Int)) (fun _ _ => by omega) h
  exact ⟨q, (mostWorn_eq s l).trans hq, mem, fun r hr => by have := best r hr; omega⟩

theorem leastWorn_some {s l q} (h : leastWorn s l = some q) : q ∈ l := by
  obtain ⟨q', hq', mem, -⟩ := leastWorn_of_ne (s := s) (l := l) (by rintro rfl; exact nomatch h)
  exact Option.some.inj (hq'.symm.trans h) ▸ mem

theorem mostWorn_some {s l q} (h : mostWorn s l = some q) : q ∈ l := by
  obtain ⟨q', hq', mem, -⟩ := mostWorn_of_ne (s := s) (l := l) (by rintro rfl; exact nomatch h)
  exact Option.some.inj (hq'.symm.trans h) ▸ mem

/-! ### The rods of a pair -/

theorem mem_pairRods {s n r} : r ∈ pairRods s n ↔ r.1 ∈ mates s n := by
  unfold pairRods
  simp only [List.mem_flatMap, List.mem_map]
  constructor
  · rintro ⟨m, hm, p, -, rfl⟩
    exact hm
  · exact fun h => ⟨r.1, h, r.2, mem_indices .., rfl⟩

theorem mem_activeRods {s n r} : r ∈ activeRods s n ↔ r.1 ∈ mates s n ∧ (rodAt s r).active = true := by
  rw [activeRods, List.mem_filter, mem_pairRods]

theorem mem_spareRods {s n r} : r ∈ spareRods s n ↔ r.1 ∈ mates s n ∧ (rodAt s r).avail = true ∧ (rodAt s r).active = false := by
  rw [spareRods, List.mem_filter, mem_pairRods]
  simp

theorem rodAt_modRod (q f) (s : State) (r) : rodAt (modRod q f s) r = if r = q then f (rodAt s q) else rodAt s r := by
  unfold rodAt modRod
  rw [State.modStake_taps]
  obtain ⟨m, p⟩ := r
  obtain ⟨m', p'⟩ := q
  dsimp only
  by_cases hm : m = m'
  · subst hm
    rw [if_pos rfl]
    dsimp only
    rw [getElem_set_fin]
    by_cases hp : p = p'
    · subst hp
      rw [if_pos rfl, if_pos rfl]
    · rw [if_neg hp, if_neg (by simp [hp])]
  · rw [if_neg hm, if_neg (by simp [hm])]

/-! ### What joins of rods may change -/

/-- A rod as it was, or one that switches now: it did before, or was available (R78, R79). -/
def Joined (r r' : Rod) : Prop :=
  r' = r ∨ r' = { r with active := true, phase := r'.phase, phaseTo := r'.phaseTo } ∧ (r.active = true ∨ r.avail = true)

theorem Joined.trans {r r' r''} (h : Joined r r') (k : Joined r' r'') : Joined r r'' := by
  obtain rfl | ⟨h, hr⟩ := h
  · exact k
  · obtain rfl | ⟨k, -⟩ := k
    · exact .inr ⟨h, hr⟩
    · refine .inr ⟨?_, hr⟩
      rw [k, h]

/-- A rod that neither switches nor is available stays as it is. -/
theorem Joined.rests {r r'} (h : Joined r r') (ha : r.active = false) (hv : r.avail = false) : r' = r := by
  obtain rfl | ⟨-, h | h⟩ := h
  · rfl
  · exact absurd h (by rw [ha]; exact Bool.false_ne_true)
  · exact absurd h (by rw [hv]; exact Bool.false_ne_true)

theorem Joined.of_active {r r'} (h : Joined r r') (ha : r.active = true) : r'.active = true := by
  obtain rfl | ⟨h, -⟩ := h
  · exact ha
  · rw [h]

/-- What a join leaves of a rod. -/
theorem Joined.kept {r r'} (h : Joined r r') : r' = { r with active := r'.active, phase := r'.phase, phaseTo := r'.phaseTo } := by
  obtain rfl | ⟨h, -⟩ := h
  · rfl
  · rw [h]

/-- The stakes that act together with a tap change in their rods and a phase step only. -/
structure RodMove (n : Fin 32) (s t : State) : Prop where
  frame : t = { s with taps := t.taps }
  stake : ∀ m : Fin 32, t.taps[m] = { s.taps[m] with stake :=
    { s.taps[m].stake with rods := t.taps[m].stake.rods, phaseStep := t.taps[m].stake.phaseStep } }
  others : ∀ m : Fin 32, m ∉ mates s n → t.taps[m] = s.taps[m]

/-- Rods of a stake or pair join; none leaves. -/
structure Joins (n : Fin 32) (s t : State) : Prop extends RodMove n s t where
  rods : ∀ r, Joined (rodAt s r) (rodAt t r)

theorem RodMove.cfg {n s t} (h : RodMove n s t) (m : Fin 32) : t.taps[m].cfg = s.taps[m].cfg := by rw [h.stake m]

theorem RodMove.mates {n s t} (h : RodMove n s t) (m : Fin 32) : mates t m = mates s m := mates_congr (h.cfg m)

theorem RodMove.refl (n s) : RodMove n s s := ⟨rfl, fun _ => rfl, fun _ _ => rfl⟩

theorem RodMove.trans {n s t u} (h : RodMove n s t) (k : RodMove n t u) : RodMove n s u := by
  refine ⟨by rw [k.frame, h.frame], fun m => by rw [k.stake m, h.stake m], fun m hm => ?_⟩
  rw [k.others m (by rw [h.mates]; exact hm), h.others m hm]

theorem RodMove.only {n s t} (h : RodMove n s t) : StakesOnly n s t :=
  ⟨h.others, h.frame, fun m => by rw [h.stake m]⟩

theorem Joins.refl (n s) : Joins n s s := ⟨.refl n s, fun _ => .inl rfl⟩

theorem Joins.trans {n s t u} (h : Joins n s t) (k : Joins n t u) : Joins n s u :=
  ⟨h.toRodMove.trans k.toRodMove, fun r => (h.rods r).trans (k.rods r)⟩

theorem RodMove.modRod {n q} {s : State} (hq : q.1 ∈ Machine.mates s n) (f) : RodMove n s (modRod q f s) := by
  refine ⟨rfl, fun m => ?_, fun m hm => ?_⟩
  · unfold Machine.modRod
    rw [State.modStake_taps]
    split
    next h => rw [h]
    next => rfl
  · unfold Machine.modRod
    rw [State.modStake_taps, if_neg (by rintro rfl; exact hm hq)]

/-- Stakes of a list change, each by a function of its own. -/
theorem foldStakes_taps (F : Sys → Fin 32 → Stake → Stake) (i : Fin 32) : ∀ (l : List (Fin 32)) (s : State), l.Nodup →
    (l.foldl (fun s m => s.modStake m (F s.sys m)) s).taps[i] =
      if i ∈ l then { s.taps[i] with stake := F s.sys i s.taps[i].stake } else s.taps[i]
  | [], s, _ => by simp
  | m :: l, s, h => by
    obtain ⟨hm, hl⟩ := List.nodup_cons.mp h
    rw [List.foldl_cons, foldStakes_taps F i l _ hl, State.modStake_taps, State.modStake_sys]
    by_cases him : i = m
    · subst him
      rw [if_neg hm, if_pos rfl, if_pos (List.mem_cons_self ..)]
    · rw [if_neg him]
      simp [him]

/-- The rods of a stake after a change of the active set (R73). -/
def rephased (n : Fin 32) (s0 s : State) (y : Sys) (m : Fin 32) (k : Stake) : Stake :=
  { k with
    phaseStep := 0
    rods := vec fun p =>
      let r := k.rods[p]
      if r.active then
        let goal := phaseOf y.slotAddr.toNat (headTap s n).val ((activeRods s n).idxOf (m, p)) (activeRods s n).length
        { r with phase := if (rodAt s0 (m, p)).active then stepPhase k.phaseStep r else goal, phaseTo := goal }
      else r }

theorem rephase_eq (n s0 s) : rephase n s0 s = if activeRods s n = activeRods s0 n then s else
    (mates s n).foldl (fun t m => t.modStake m (rephased n s0 s t.sys m)) s := rfl

theorem rephase_taps {n s0 s} (h : activeRods s n ≠ activeRods s0 n) (m : Fin 32) : (rephase n s0 s).taps[m] =
    if m ∈ mates s n then { s.taps[m] with stake := rephased n s0 s s.sys m s.taps[m].stake } else s.taps[m] := by
  rw [rephase_eq, if_neg h]
  exact foldStakes_taps (rephased n s0 s) m (mates s n) s (mates_nodup s n)

theorem rephase_joins (n s0 s) : Joins n s (rephase n s0 s) := by
  by_cases h : activeRods s n = activeRods s0 n
  · rw [rephase_eq, if_pos h]
    exact .refl n s
  · refine ⟨⟨rephase_onlyTaps n s0 s, fun m => ?_, fun m hm => ?_⟩, fun r => ?_⟩
    · rw [rephase_taps h]
      split <;> rfl
    · rw [rephase_taps h, if_neg hm]
    · unfold rodAt
      rw [rephase_taps h]
      split
      · show Joined _ (rephased n s0 s s.sys r.1 s.taps[r.1].stake).rods[r.2]
        rw [show (rephased n s0 s s.sys r.1 s.taps[r.1].stake).rods[r.2] = _ from vec_get _ r.2]
        dsimp only
        split
        next ha =>
          refine .inr ⟨?_, .inl ha⟩
          rw [← ha]
        next => exact .inl rfl
      · exact .inl rfl

theorem joinOne_joins (n s) : Joins n s (joinOne n s) := by
  unfold joinOne
  cases hq : leastWorn s (spareRods s n) with
  | none => exact .refl n s
  | some q =>
    obtain ⟨hm, avail, -⟩ := mem_spareRods.mp (leastWorn_some hq)
    refine ⟨.modRod hm _, fun r => ?_⟩
    rw [rodAt_modRod]
    split
    next h => exact .inr ⟨h ▸ rfl, .inr (h ▸ avail)⟩
    next => exact .inl rfl

theorem joinMany_joins (n) : ∀ k s, Joins n s (joinMany n k s)
  | 0, s => .refl n s
  | k + 1, s => (joinOne_joins n s).trans (joinMany_joins n k _)

theorem replaceRod_joins (n s) : Joins n s (replaceRod n s) := by
  unfold replaceRod
  split
  · exact joinOne_joins n s
  · exact .refl n s

theorem keepMinimum_joins (n s) : Joins n s (keepMinimum n s) := by
  unfold keepMinimum
  split
  · exact (joinMany_joins n _ s).trans (rephase_joins ..)
  · exact .refl n s

/-- A rod that leaves for a rest keeps it whatever joins in its place (R78). -/
theorem leaveRod_shows {n p f} {s : State} (hr : (f { rodAt s (n, p) with active := false, duty := 0 }).active = false)
    (hv : (f { rodAt s (n, p) with active := false, duty := 0 }).avail = false) :
    rodAt (leaveRod n p f s) (n, p) = f { rodAt s (n, p) with active := false, duty := 0 } ∧
      StakesOnly n s (leaveRod n p f s) := by
  have left : RodMove n s (modRod (n, p) (fun r => f { r with active := false, duty := 0 }) s) :=
    .modRod (mem_mates_self s n) _
  have own := rodAt_modRod (n, p) (fun r => f { r with active := false, duty := 0 }) s (n, p)
  rw [if_pos rfl] at own
  have joins : Joins n (modRod (n, p) (fun r => f { r with active := false, duty := 0 }) s) (leaveRod n p f s) := by
    unfold leaveRod reactivate
    dsimp only
    refine Joins.trans ?_ (rephase_joins ..)
    split
    · exact replaceRod_joins ..
    · exact .refl ..
  have rests := (joins.rods (n, p)).rests (by rw [own]; exact hr) (by rw [own]; exact hv)
  exact ⟨rests.trans own, (left.trans joins.toRodMove).only⟩

end Sys2Proof.Machine
end

/-! ## Rods that rest, fuse out, join and leave -/

section
open Sys2Proof.Claims

namespace Sys2Proof.Claims
open Sys2Proof.Machine

theorem StakesOnly.refl (n) (s : State) : StakesOnly n s s := ⟨fun _ _ => rfl, rfl, fun _ => rfl⟩

theorem StakesOnly.cfg {n s t} (h : StakesOnly n s t) (m : Fin 32) : t.taps[m].cfg = s.taps[m].cfg := by rw [h.2.2 m]

theorem StakesOnly.trans {n s t u} (h : StakesOnly n s t) (k : StakesOnly n t u) : StakesOnly n s u := by
  have mates : mates t n = mates s n := mates_congr (h.cfg n)
  obtain ⟨hothers, hframe, hstake⟩ := h
  obtain ⟨kothers, kframe, kstake⟩ := k
  exact ⟨fun m hm => (kothers m (by rw [mates]; exact hm)).trans (hothers m hm), by rw [kframe, hframe],
    fun m => by rw [kstake m, hstake m]⟩

theorem StakesOnly.modMate {n m} {s : State} (hm : m ∈ mates s n) (f) : StakesOnly n s (s.modStake m f) := by
  refine ⟨fun i hi => ?_, rfl, fun i => ?_⟩
  · rw [State.modStake_taps, if_neg (by rintro rfl; exact hi hm)]
  · rw [State.modStake_taps]
    split
    next h => rw [h]
    next => rfl

theorem StakesOnly.modStake (n f) (s : State) : StakesOnly n s (s.modStake n f) := .modMate (mem_mates_self s n) f

theorem StakesOnly.onMates (n f) (s : State) : StakesOnly n s (onMates n f s) := by
  refine ⟨fun i hi => ?_, by apply State.ext_parts <;> simp, fun i => ?_⟩
  · rw [onMates_taps, if_neg hi]
  · rw [onMates_taps]
    split <;> rfl

end Sys2Proof.Claims

namespace Sys2Proof.Machine

/-! ### Fuse-out -/

/-- A rod as it was, or with its switches off. -/
def Halted (r r' : Rod) : Prop := r' = r ∨ r' = { r with active := false, duty := 0, iRod := 0 }

theorem halt_rods (k : Stake) (p : Fin 16) : k.halt.rods[p] = { k.rods[p] with active := false, duty := 0, iRod := 0 } := by
  simp [Stake.halt, rodsOff]

theorem stopStake_rods (n s r) : Halted (rodAt s r) (rodAt (stopStake n s) r) := by
  obtain ⟨m, p⟩ := r
  unfold rodAt
  dsimp only
  rw [stopStake_taps]
  split_ifs with h
  · subst h
    exact .inr (halt_rods ..)
  · exact .inr (halt_rods ..)
  · exact .inl rfl

theorem rodAt_taps {s t : State} (h : t.taps = s.taps) (r) : rodAt t r = rodAt s r := by
  unfold rodAt
  rw [h]

theorem suspend_rods (n cause s r) : Halted (rodAt s r) (rodAt (suspend n cause s) r) := by
  have kept : rodAt (suspend n cause s) r = rodAt (stopStake n s) r := by
    rw [rodAt_taps (suspend_taps n cause s)]
    obtain ⟨m, p⟩ := r
    unfold rodAt
    dsimp only
    rw [State.modTap_taps]
    split
    next h => subst h; rfl
    next => rfl
  rw [kept]
  exact stopStake_rods ..

theorem withdraw_rods (n s r) : Halted (rodAt s r) (rodAt (withdraw n s) r) := by
  cases h : goneAll s n with
  | true =>
    rw [withdraw_gone h]
    exact .inl rfl
  | false =>
    have mark : rodAt (marked (headTap s n) s) r = rodAt s r := by
      unfold rodAt marked
      rw [onMates_taps]
      split <;> rfl
    rw [rodAt_taps (withdraw_taps h), ← mark]
    split
    · exact suspend_rods ..
    · exact stopStake_rods ..

theorem withdraw_stopped {s n} (h : goneAll s n = false) : Stopped (headTap s n) s (withdraw n s) := by
  have mates : mates (marked (headTap s n) s) (headTap s n) = mates s (headTap s n) := (marked_tapOp ..).mates
  intro m hm
  rw [withdraw_taps h]
  split
  · exact suspend_stopped _ 6 _ m (by rw [mates]; exact hm)
  · exact stopStake_stopped _ _ m (by rw [mates]; exact hm)

/-- The tap that serves a pair acts with no stake outside it. -/
theorem mates_headTap {s n m} (h : m ∈ mates s (headTap s n)) : m ∈ mates s n := by
  cases hg : s.taps[n].cfg.gang
  · rwa [headTap_single hg] at h
  · unfold headTap at h
    rw [hg, if_pos rfl] at h
    unfold mates at h ⊢
    rw [hg, if_pos rfl]
    split at h
    · simp only [List.mem_cons, Fin.ext_iff, List.not_mem_nil, or_false] at h ⊢
      omega
    · rw [List.mem_singleton] at h
      rw [h]
      exact List.mem_cons_self ..

theorem event_nextSeq_le (c params) (s : State) : s.bbx.nextSeq ≤ (event c params s).bbx.nextSeq := by
  unfold event recordKeyed
  split
  · exact Nat.le_succ _
  · dsimp only
    split
    · exact Nat.le_succ _
    · exact le_rfl

/-- A fused rod is failed and off, its record in the ring and its alert queued (R87). -/
def fuseNoted (n : Fin 32) (p : Fin 16) (cause : Nat) (ok : Bool) (s : State) : State :=
  let rod := 16 * n.val + p.val
  let s := saveTimes (modRod (n, p) (fun r =>
    { r with active := false, duty := 0, healthy := false, rest := .none, susp := false, overTemp := false
             cause := if ok then cause else 6 }) s)
  alertRec (event .fuseOut [rod, cause, if ok then 1 else 0]) (if ok then 3 else 0) 3 (if ok then 7 else 8) n.val rod s

theorem fuseRod_eq (n p cause ok s) : fuseRod n p cause ok s =
    if !ok || decide ((rating (fuseNoted n p cause ok s) (headTap (fuseNoted n p cause ok s) n)).1 = 0) then
      withdraw n (fuseNoted n p cause ok s)
    else rephase n s (replaceRod n (fuseNoted n p cause ok s)) := rfl

theorem saveTimes_taps (s : State) (m : Fin 32) : (saveTimes s).taps[m] = { s.taps[m] with
    stake := { s.taps[m].stake with rods := s.taps[m].stake.rods.map fun r => { r with savedTime := r.runTime } } } :=
  State.mapTaps_taps ..

theorem rodAt_saveTimes (s r) : rodAt (saveTimes s) r = { rodAt s r with savedTime := (rodAt s r).runTime } := by
  unfold rodAt
  rw [saveTimes_taps]
  simp

/-- What a fuse-out has changed before its consequences (R87). -/
structure FuseNoted (n : Fin 32) (p : Fin 16) (cause : Nat) (ok : Bool) (s u : State) : Prop where
  frame : u = { s with taps := u.taps, bbx := u.bbx, alr := u.alr, bus := u.bus }
  seq : s.bbx.nextSeq ≤ u.bbx.nextSeq
  rod : (rodAt u (n, p)).healthy = false ∧ (rodAt u (n, p)).active = false ∧
    (rodAt u (n, p)).cause = if ok then cause else 6
  taps : ∀ m : Fin 32, u.taps[m] = { s.taps[m] with stake := { s.taps[m].stake with rods := u.taps[m].stake.rods } }

theorem fuseNoted_shows (n p cause ok s) : FuseNoted n p cause ok s (fuseNoted n p cause ok s) := by
  generalize hu : modRod (n, p) (fun r =>
    { r with active := false, duty := 0, healthy := false, rest := .none, susp := false, overTemp := false
             cause := if ok then cause else 6 }) s = u
  have noted : fuseNoted n p cause ok s = { s with taps := (saveTimes u).taps, bbx := (fuseNoted n p cause ok s).bbx
                                                   alr := (fuseNoted n p cause ok s).alr, bus := (fuseNoted n p cause ok s).bus } := by
    subst hu
    exact (alertRec_outside ..).trans rfl
  have own := rodAt_modRod (n, p) (fun r => { r with active := false, duty := 0, healthy := false, rest := .none, susp := false, overTemp := false, cause := if ok then cause else 6 }) s (n, p)
  rw [if_pos rfl, hu] at own
  have taps : (fuseNoted n p cause ok s).taps = (saveTimes u).taps := by rw [noted]
  refine ⟨?_, ?_, ?_, fun m => ?_⟩
  · rw [noted]
  · have bbx : (fuseNoted n p cause ok s).bbx = (event .fuseOut [16 * n.val + p.val, cause, if ok then 1 else 0] (saveTimes u)).bbx := by
      subst hu
      simp [fuseNoted]
    rw [bbx]
    refine le_trans ?_ (event_nextSeq_le ..)
    subst hu
    exact le_rfl
  · rw [rodAt_taps taps, rodAt_saveTimes, own]
    exact ⟨rfl, rfl, rfl⟩
  · rw [taps, saveTimes_taps, ← hu]
    unfold modRod
    rw [State.modStake_taps]
    split
    next h => rw [h]
    next => rfl

/-- What a fuse-out comes to (R87, R88, R90). -/
structure Fused (n : Fin 32) (p : Fin 16) (cause : Nat) (ok : Bool) (s t : State) : Prop where
  rod : (rodAt t (n, p)).healthy = false ∧ (rodAt t (n, p)).active = false ∧ (rodAt t (n, p)).cause = if ok then cause else 6
  seq : s.bbx.nextSeq ≤ t.bbx.nextSeq
  gone : ok = false → s.taps[headTap s n].stake.withdrawn = false → t.taps[headTap s n].stake.withdrawn = true ∧
    t.taps[headTap s n].stake.conv = false ∧ t.taps[headTap s n].stake.sw = false
  kept : t.ports = s.ports ∧ t.sys = s.sys ∧ t.ctrs = s.ctrs
  others : ∀ m : Fin 32, m ∉ mates s n → t.taps[m].state = s.taps[m].state ∧ t.taps[m].stake.conv = s.taps[m].stake.conv

theorem fuseRod_fused (n p cause ok s) : Fused n p cause ok s (fuseRod n p cause ok s) := by
  have noted := fuseNoted_shows n p cause ok s
  rw [fuseRod_eq]
  generalize fuseNoted n p cause ok s = u at noted
  obtain ⟨frame, seq, ⟨health, off, why⟩, taps⟩ := noted
  have head : headTap u n = headTap s n := by
    unfold headTap
    rw [taps n]
  have mates (m : Fin 32) : mates u m = mates s m := mates_congr (by rw [taps m])
  have tap (m : Fin 32) : u.taps[m].state = s.taps[m].state ∧ u.taps[m].stake.conv = s.taps[m].stake.conv ∧
      u.taps[m].stake.withdrawn = s.taps[m].stake.withdrawn := by
    rw [taps m]
    exact ⟨rfl, rfl, rfl⟩
  split
  next hbad =>
    have rest := withdraw_outside n u
    refine ⟨?_, ?_, fun _ hw => ?_, ?_, fun m hm => ?_⟩
    · obtain h | h := withdraw_rods n u (n, p)
      all_goals rw [h]
      · exact ⟨health, off, why⟩
      · exact ⟨health, rfl, why⟩
    · rw [rest]
      exact seq
    · have left : goneAll u n = false := by
        refine List.all_eq_false.mpr ⟨headTap u n, mem_mates_self .., ?_⟩
        rw [head, (tap _).2.2, hw]
        exact Bool.false_ne_true
      have marks := withdraw_marks left (headTap u n) (mem_mates_self ..)
      obtain ⟨conv, sw⟩ := withdraw_stopped left (headTap u n) (mem_mates_self ..)
      rw [head] at marks conv sw
      exact ⟨marks, conv, sw⟩
    · rw [rest, frame]
      exact ⟨rfl, rfl, rfl⟩
    · have out : m ∉ Machine.mates u (headTap u n) := fun h => hm (by rw [← mates]; exact mates_headTap h)
      rw [(withdraw_tapOp (n := n) (s := u)).frame.1 m out]
      exact ⟨(tap m).1, (tap m).2.1⟩
  next hok =>
    have joins : Joins n u (rephase n s (replaceRod n u)) := (replaceRod_joins n u).trans (rephase_joins ..)
    generalize rephase n s (replaceRod n u) = t at joins
    have rests := (joins.rods (n, p)).rests off (by rw [Rod.avail, health]; rfl)
    refine ⟨by rw [rests]; exact ⟨health, off, why⟩, by rw [joins.frame]; exact seq, fun h => ?_, ?_, fun m hm => ?_⟩
    · rw [h] at hok
      exact absurd rfl hok
    · rw [joins.frame, frame]
      exact ⟨rfl, rfl, rfl⟩
    · rw [joins.others m (by rw [mates]; exact hm)]
      exact ⟨(tap m).1, (tap m).2.1⟩

end Sys2Proof.Machine
end

/-! ## The rods' events -/

section
open Sys2Proof.Claims

namespace Sys2Proof.Machine

/-! ### Trips -/

theorem tripRod_rests {n p cause ok times f} {s : State} (ht : times.length ≤ 2)
    (hr : (f { rodAt s (n, p) with active := false, duty := 0 }).active = false)
    (hv : (f { rodAt s (n, p) with active := false, duty := 0 }).avail = false) :
    rodAt (tripRod n p cause ok times f s) (n, p) = f { rodAt s (n, p) with active := false, duty := 0 } ∧
      StakesOnly n s (tripRod n p cause ok times f s) := by
  unfold tripRod
  rw [if_neg (by omega)]
  exact leaveRod_shows hr hv

theorem counted_times (l : List Nat) (t : Nat) : (l ++ [t]).length = l.length + 1 := by simp

/-- The third trip fuses the rod out, from the state in which it is counted (R86). -/
theorem tripRod_fuses {n p cause ok times f} {s : State} (ht : 3 ≤ times.length) :
    Fused n p cause ok s (tripRod n p cause ok times f s) := by
  unfold tripRod
  rw [if_pos ht]
  have fused := fuseRod_fused n p cause ok (modRod (n, p) f s)
  have move : RodMove n s (modRod (n, p) f s) := .modRod (mem_mates_self s n) f
  generalize modRod (n, p) f s = u at fused move
  have head : headTap u n = headTap s n := by
    unfold headTap
    rw [move.cfg]
  have tap (m : Fin 32) : u.taps[m].state = s.taps[m].state ∧ u.taps[m].stake.conv = s.taps[m].stake.conv ∧
      u.taps[m].stake.withdrawn = s.taps[m].stake.withdrawn := by
    rw [move.stake m]
    exact ⟨rfl, rfl, rfl⟩
  obtain ⟨rod, seq, gone, ⟨ports, sys, ctrs⟩, others⟩ := fused
  have same : u.bbx = s.bbx ∧ u.ports = s.ports ∧ u.sys = s.sys ∧ u.ctrs = s.ctrs := by
    rw [move.frame]
    exact ⟨rfl, rfl, rfl, rfl⟩
  obtain ⟨hbbx, hports, hsys, hctrs⟩ := same
  have gone' (h : Fin 32) (e : headTap u n = h) : ok = false → u.taps[h].stake.withdrawn = false →
      (fuseRod n p cause ok u).taps[h].stake.withdrawn = true ∧ (fuseRod n p cause ok u).taps[h].stake.conv = false ∧
        (fuseRod n p cause ok u).taps[h].stake.sw = false := by
    subst e
    exact gone
  refine ⟨rod, hbbx ▸ seq, fun hok hw => gone' _ head hok ((tap _).2.2.trans hw),
    ⟨ports.trans hports, sys.trans hsys, ctrs.trans hctrs⟩, fun m hm => ?_⟩
  · obtain ⟨state, conv⟩ := others m (by rw [move.mates]; exact hm)
    exact ⟨state.trans (tap m).1, conv.trans (tap m).2.1⟩

/-! ### The active set -/

theorem activeRods_congr {s t n} (hm : mates t n = mates s n) (ha : ∀ r, (rodAt t r).active = (rodAt s r).active) :
    activeRods t n = activeRods s n := by
  unfold activeRods pairRods
  simp only [hm, ha]

theorem rephase_rod {n s0 s} (h : activeRods s n ≠ activeRods s0 n) {r} (hr : r.1 ∈ mates s n) :
    rodAt (rephase n s0 s) r = if (rodAt s r).active then
        { rodAt s r with
          phase := if (rodAt s0 r).active then stepPhase s.taps[r.1].stake.phaseStep (rodAt s r)
            else phaseOf s.sys.slotAddr.toNat (headTap s n).val ((activeRods s n).idxOf r) (activeRods s n).length
          phaseTo := phaseOf s.sys.slotAddr.toNat (headTap s n).val ((activeRods s n).idxOf r) (activeRods s n).length }
      else rodAt s r := by
  obtain ⟨m, p⟩ := r
  unfold rodAt
  dsimp only at hr ⊢
  rw [rephase_taps h, if_pos hr]
  exact vec_get ..

theorem rephase_active (n s0 s r) : (rodAt (rephase n s0 s) r).active = (rodAt s r).active := by
  have joins := rephase_joins n s0 s
  by_cases h : activeRods s n = activeRods s0 n
  · rw [rephase_eq, if_pos h]
  · by_cases hr : r.1 ∈ mates s n
    · rw [rephase_rod h hr]
      split <;> rfl
    · unfold rodAt
      rw [joins.others _ hr]

theorem rephase_activeRods (n s0 s) : activeRods (rephase n s0 s) n = activeRods s n :=
  activeRods_congr ((rephase_joins n s0 s).toRodMove.mates n) (rephase_active n s0 s)

theorem modRod_cfg (q f) (s : State) (n : Fin 32) : (modRod q f s).taps[n].cfg = s.taps[n].cfg := by
  unfold modRod
  rw [State.modStake_taps]
  split
  next h => rw [h]
  next => rfl

theorem mates_modRod (q f) (s : State) (n) : mates (modRod q f s) n = mates s n := mates_congr (modRod_cfg q f s n)

theorem headTap_modRod (q f) (s : State) (n) : headTap (modRod q f s) n = headTap s n := by
  unfold headTap
  rw [modRod_cfg]

/-- A rod that joins switches, at its own phase (R73). -/
theorem joined_phase {n q} {s : State} (hq : q ∈ spareRods s n) :
    let t := rephase n s (modRod q (fun r => { r with active := true }) s)
    (rodAt t q).active = true ∧ (rodAt t q).phase =
        phaseOf s.sys.slotAddr.toNat (headTap s n).val ((activeRods t n).idxOf q) (activeRods t n).length ∧
      StakesOnly n s t := by
  obtain ⟨hm, -, hoff⟩ := mem_spareRods.mp hq
  have own : rodAt (modRod q (fun r => { r with active := true }) s) q = { rodAt s q with active := true } := by
    rw [rodAt_modRod, if_pos rfl]
  have move : RodMove n s (modRod q (fun r => { r with active := true }) s) := .modRod hm _
  have mates := mates_modRod q (fun r => { r with active := true }) s n
  have head := headTap_modRod q (fun r => { r with active := true }) s n
  generalize hu : modRod q (fun r => { r with active := true }) s = u at own move mates head
  have new : activeRods u n ≠ activeRods s n := fun h => by
    have mem : q ∈ activeRods u n := mem_activeRods.mpr ⟨by rw [mates]; exact hm, by rw [own]⟩
    rw [h] at mem
    rw [(mem_activeRods.mp mem).2] at hoff
    exact nomatch hoff
  dsimp only
  have rod := rephase_rod new (r := q) (by rw [mates]; exact hm)
  rw [own, if_pos rfl, if_neg (by rw [hoff]; exact Bool.false_ne_true), head] at rod
  rw [rephase_activeRods, rod]
  have sys : u.sys = s.sys := by rw [move.frame]
  rw [sys]
  exact ⟨rfl, rfl, (move.trans (rephase_joins ..).toRodMove).only⟩

/-- A rod that is shed switches no more (R79). -/
theorem shed_rests {n q} {s : State} (hq : q ∈ activeRods s n) :
    let t := rephase n s (modRod q (fun r => { r with active := false, duty := 0 }) s)
    (rodAt t q).active = false ∧ StakesOnly n s t := by
  obtain ⟨hm, -⟩ := mem_activeRods.mp hq
  have move : RodMove n s (modRod q (fun r => { r with active := false, duty := 0 }) s) := .modRod hm _
  refine ⟨?_, (move.trans (rephase_joins ..).toRodMove).only⟩
  rw [rephase_active, rodAt_modRod, if_pos rfl]

theorem addDue_of {s n} (hne : spareRods s n ≠ [])
    (hd : (activeRods s n).length * (s.taps[headTap s n].cfg.addPct * 550) < demandOf s n * 100) : addDue s n = true := by
  unfold addDue addAt
  rw [List.isEmpty_eq_false_iff.mpr hne, decide_eq_true (by push_cast; exact hd)]
  rfl

theorem shedDue_of {s n} (h2 : 2 < (activeRods s n).length) (hd : demandOf s n * 100 <
    (((activeRods s n).length - 1 : Nat) : Int) * (s.taps[headTap s n].cfg.shedPct * 550)) : shedDue s n = true := by
  unfold shedDue shedAt
  rw [decide_eq_true h2, decide_eq_true]
  · rfl
  · rw [Nat.cast_sub (by omega)] at hd
    push_cast at hd ⊢
    exact hd

/-! ### The wear swap -/

theorem stakeOf_half {s n m} (h : m ∈ mates s n) : stakeOf s n (halfOf m) = m := by
  unfold mates at h
  unfold stakeOf halfOf
  split at h
  next hg =>
    rw [if_pos hg]
    simp only [List.mem_cons, Fin.ext_iff, List.not_mem_nil, or_false] at h ⊢
    omega
  next hg =>
    rw [if_neg hg]
    exact (List.mem_singleton.mp h).symm

theorem rodAt_modStake {n f} (hf : ∀ k : Stake, (f k).rods = k.rods) (s : State) (r) : rodAt (s.modStake n f) r = rodAt s r := by
  have rods (m : Fin 32) : (s.modStake n f).taps[m].stake.rods = s.taps[m].stake.rods := by
    rw [State.modStake_taps]
    split
    next h =>
      subst h
      exact hf _
    next => rfl
  exact congrArg (·[r.2]) (rods r.1)

theorem leastWorn_congr {s t l} (h : ∀ r, rodAt t r = rodAt s r) : leastWorn t l = leastWorn s l := by
  unfold leastWorn
  simp only [h]

theorem mostWorn_congr {s t l} (h : ∀ r, rodAt t r = rodAt s r) : mostWorn t l = mostWorn s l := by
  unfold mostWorn
  simp only [h]

theorem activeRods_same {s t n} (hm : mates t n = mates s n) (h : ∀ r, rodAt t r = rodAt s r) :
    activeRods t n = activeRods s n := activeRods_congr hm fun r => by rw [h]

theorem spareRods_same {s t n} (hm : mates t n = mates s n) (h : ∀ r, rodAt t r = rodAt s r) :
    spareRods t n = spareRods s n := by
  unfold spareRods pairRods
  simp only [hm, h]

/-- The rested rod of a swap joins and the worn one is due to leave, where they lie far enough apart (R79). -/
theorem swapRods_shows {n a b} {s : State} (ha : leastWorn s (spareRods s n) = some a)
    (hb : mostWorn s (activeRods s n) = some b) : (swapRods n s).taps[n].stake.wearDue = false ∧
      StakesOnly n s (swapRods n s) ∧
      ((rodAt s a).runTime + 3600 ≤ (rodAt s b).runTime → (rodAt (swapRods n s) a).active = true ∧
        (rodAt (swapRods n s) b).active = true ∧
        ∃ q, (swapRods n s).taps[n].stake.swapOut = some q ∧ (stakeOf s n q.2, q.1) = b) ∧
      ((rodAt s b).runTime < (rodAt s a).runTime + 3600 → ∀ r, rodAt (swapRods n s) r = rodAt s r) := by
  have same (r) : rodAt (s.modStake n fun k => { k with wearDue := false }) r = rodAt s r := rodAt_modStake (by exact fun _ => rfl) s r
  have only : StakesOnly n s (s.modStake n fun k => { k with wearDue := false }) := .modStake n _ s
  have due : (s.modStake n fun k => { k with wearDue := false }).taps[n].stake.wearDue = false := by
    rw [State.modStake_taps, if_pos rfl]
  unfold swapRods
  dsimp only
  generalize s.modStake n (fun k => { k with wearDue := false }) = u at same only due
  have mates : mates u n = mates s n := mates_congr (only.cfg n)
  have memA : a ∈ spareRods u n := by
    rw [spareRods_same mates same]
    exact leastWorn_some ha
  have memB : b ∈ activeRods u n := by
    rw [activeRods_same mates same]
    exact mostWorn_some hb
  rw [spareRods_same mates same, activeRods_same mates same, leastWorn_congr same, mostWorn_congr same, ha, hb]
  dsimp only
  rw [same a, same b]
  split
  next hfar =>
    obtain ⟨onA, -, ronly⟩ := joined_phase memA
    have move : RodMove n u (rephase n u (modRod a (fun r => { r with active := true }) u)) :=
      (RodMove.modRod (mem_spareRods.mp memA).1 _).trans (rephase_joins ..).toRodMove
    have onB : (rodAt (rephase n u (modRod a (fun r => { r with active := true }) u)) b).active = true := by
      rw [rephase_active, rodAt_modRod]
      split
      · rfl
      · exact (mem_activeRods.mp memB).2
    unfold reactivate
    generalize rephase n u (modRod a (fun r => { r with active := true }) u) = v at onA onB ronly move
    have kept (r) : rodAt (v.modStake n fun k => { k with swapOut := some (b.2, halfOf b.1) }) r = rodAt v r :=
      rodAt_modStake (by exact fun _ => rfl) v r
    refine ⟨?_, (only.trans ronly).trans (.modStake n _ v), fun _ => ⟨?_, ?_, (b.2, halfOf b.1), ?_, ?_⟩, fun h => absurd hfar (by omega)⟩
    · rw [State.modStake_taps, if_pos rfl]
      show v.taps[n].stake.wearDue = false
      rw [move.stake n]
      exact due
    · rw [kept, onA]
    · rw [kept, onB]
    · rw [State.modStake_taps, if_pos rfl]
    · rw [stakeOf_half]
      rw [← mates]
      exact (mem_activeRods.mp memB).1
  next hnear => exact ⟨due, only, fun h => absurd h hnear, fun _ => same⟩

/-! ### Balancing and braking -/

theorem balanceStake_trims (iAvg temps k) (p : Fin 16) :
    (k.rods[p].active = true → -655 ≤ (balanceStake iAvg temps k).rods[p].trim ∧ (balanceStake iAvg temps k).rods[p].trim ≤ 655) ∧
    (k.rods[p].active = false → (balanceStake iAvg temps k).rods[p].trim = k.rods[p].trim) := by
  unfold balanceStake
  dsimp only
  rw [vec_get]
  constructor
  · intro h
    rw [if_pos (show k.rods[p].active = true from h)]
    dsimp only [clamp, trimMax]
    omega
  · intro h
    rw [if_neg (by rw [show ({ k.rods[p] with temp := _ } : Rod).active = k.rods[p].active from rfl, h]; exact Bool.false_ne_true)]

theorem brakeOn_shows (k : Stake) : k.brakeOn.braking = true ∧ k.brakeOn.brake = true ∧ k.brakeOn.buckOff = true ∧
    ∀ p : Fin 16, k.brakeOn.rods[p] = { k.rods[p] with duty := 0 } := by
  refine ⟨rfl, rfl, rfl, fun p => ?_⟩
  simp [Stake.brakeOn]

theorem execBrake_acts {n : Fin 32} {seen : BrakeSeen} {s} (hv : tapRated seen.v = true) (ho : gangedOdd s n = false)
    (hc : converting s n = true) : execBrake n seen s = .next
      (if seen.ended then onMates n (fun k => { k with braking := false }) s
      else if s.taps[n].stake.buckOff || !brakeDue s.taps[n] seen.ist seen.v then s
      else (onMates n Stake.brakeOn s).modTap n fun t => { t with vKel := seen.v, stake := { t.stake with ist := seen.ist } }) := by
  unfold execBrake atVolt
  dsimp only
  rw [hv, ho, hc]
  rfl

/-- Braking takes the duty from every rod of the pair (R84). -/
theorem braked_shows (n : Fin 32) (ist v : Int) (s : State) :
    let t := (onMates n Stake.brakeOn s).modTap n fun t => { t with vKel := v, stake := { t.stake with ist := ist } }
    t.taps[n].vKel = v ∧ t.taps[n].stake.ist = ist ∧ TapsButMates n s t ∧ t = { s with taps := t.taps } ∧
      ∀ m ∈ mates s n, t.taps[m].state = s.taps[m].state ∧ t.taps[m].stake.braking = true ∧ t.taps[m].stake.brake = true ∧
        t.taps[m].stake.buckOff = true ∧ ∀ p : Fin 16, t.taps[m].stake.rods[p] = { s.taps[m].stake.rods[p] with duty := 0 } := by
  have frame : onMates n Stake.brakeOn s = { s with taps := (onMates n Stake.brakeOn s).taps } :=
    (StakesOnly.onMates n Stake.brakeOn s).2.1
  have taps := onMates_taps n Stake.brakeOn s
  generalize onMates n Stake.brakeOn s = u at frame taps
  refine ⟨?_, ?_, fun m hm => ?_, ?_, fun m hm => ?_⟩
  · rw [State.modTap_taps, if_pos rfl]
  · rw [State.modTap_taps, if_pos rfl]
  · rw [State.modTap_taps, if_neg (by rintro rfl; exact hm (mem_mates_self s m)), taps m, if_neg hm]
  · rw [frame]
    rfl
  · have own := taps m
    rw [if_pos hm] at own
    rw [State.modTap_taps]
    split
    next h =>
      subst h
      rw [own]
      exact ⟨rfl, brakeOn_shows _⟩
    next =>
      rw [own]
      exact ⟨rfl, brakeOn_shows _⟩

/-! ### Service -/

theorem answerOf_doneWith {op via args s run res u} (ha : Accepts op via args s) (hr : run args s = doneWith res u) :
    ∃ t, hostCommand op run via args s = .next t ∧ answerOf via t = some ⟨0, res⟩ ∧ t.taps = u.taps :=
  ⟨_, hostCommand_answers ha hr, answerOf_answer .., answer_taps ..⟩

theorem fuseService_runs {n : Fin 32} {p : Fin 16} {via args} {s : State} (ha : Accepts 0x0C01 via args s)
    (h0 : arg args 0 = 16 * n.val + p.val) (h1 : arg args 1 = 0xF05E) (hup : clUp s n = true)
    (hh : (rodAt s (n, p)).healthy = true) (hrest : ∀ m ∈ mates s n, s.taps[m].stake.conv = false) :
    ∃ t ok, exec (.serviceFuseRod via args) s = .next t ∧ answerOf via t = some ⟨0, [if ok = true then 1 else 0]⟩ ∧
      (rodAt t (n, p)).healthy = false ∧ (rodAt t (n, p)).cause = (if ok = true then 5 else 6) := by
  have tap : tapOf (arg args 0 / 16) = n := tapOf_of_arg (by omega)
  have rod : rodOf (arg args 0) = p := Fin.ext (by
    unfold rodOf
    dsimp only
    omega)
  have busy : ((mates s n).any fun m => s.taps[m].stake.conv) = false :=
    List.any_eq_false.mpr fun m hm => by rw [hrest m hm]; exact Bool.false_ne_true
  have run : runFuseRod args s = doneWith [if decide (Config.freeValue s.free % 2 = 1) = true then 1 else 0]
      (fuseRod n p 5 (decide (Config.freeValue s.free % 2 = 1)) s.draw.2) := by
    unfold runFuseRod
    rw [tap, rod]
    dsimp only
    rw [checked_pass]
    · rfl
    · rw [rng_ok (Nat.zero_le _) (by omega), decide_eq_true h1, hh, busy]
      rfl
  obtain ⟨t, ht, answers, taps⟩ := answerOf_doneWith ha run
  obtain ⟨⟨health, -, why⟩, -⟩ := fuseRod_fused n p 5 (decide (Config.freeValue s.free % 2 = 1)) s.draw.2
  have direct : exec (.serviceFuseRod via args) s = hostCommand 0x0C01 runFuseRod via args s := by
    show execServiceFuseRod via args s = _
    unfold execServiceFuseRod
    dsimp only
    rw [tap, hup]
    exact if_neg (by simp)
  exact ⟨t, _, direct.trans ht, answers, by rw [rodAt_taps taps, health], by rw [rodAt_taps taps, why]⟩

/-! ### Each event where its conditions hold -/

section
variable {n : Fin 32} {p : Fin 16} {s : State}

theorem rodCurrentTrip_runs (hc : s.taps[n].stake.conv = true) (hh : (rodAt s (n, p)).healthy = true)
    (ha : (rodAt s (n, p)).active = true) (ok) : exec (.rodCurrentTrip n p ok) s = .next
      (tripRod n p 2 ok (recent s.sys.uptime 10000 (rodAt s (n, p)).trips ++ [s.sys.uptime]) (fun r =>
        { r with trips := recent s.sys.uptime 10000 (rodAt s (n, p)).trips ++ [s.sys.uptime], rest := .trip }) s) :=
  congrArg Host.Outcome.next (if_pos (by rw [hc, hh, ha]; rfl))

theorem primaryTrip_runs (hc : s.taps[n].stake.conv = true) (hh : (rodAt s (n, p)).healthy = true)
    (hr : (rodAt s (n, p)).rest ≠ .primTrip) (ok) : exec (.transformerPrimaryOvercurrent n p ok) s = .next
      (tripRod n p 3 ok (recent s.sys.uptime 10000 (rodAt s (n, p)).primTrips ++ [s.sys.uptime]) (fun r =>
        { r with primTrips := recent s.sys.uptime 10000 (rodAt s (n, p)).primTrips ++ [s.sys.uptime], rest := .primTrip }) s) :=
  congrArg Host.Outcome.next (if_pos (by rw [hc, hh, decide_eq_true hr]; rfl))

theorem suspect_runs (hc : s.taps[n].stake.conv = true) (hh : (rodAt s (n, p)).healthy = true)
    (ha : (rodAt s (n, p)).active = true) (ht : (rodAt s (n, p)).trim = trimMax ∨ (rodAt s (n, p)).trim = -trimMax) (ok) :
    exec (.suspect n p ok) s = .next
      (tripRod n p 4 ok (recent s.sys.uptime 86400000 (rodAt s (n, p)).suspects ++ [s.sys.uptime]) (fun r =>
        { r with suspects := recent s.sys.uptime 86400000 (rodAt s (n, p)).suspects ++ [s.sys.uptime], susp := true }) s) :=
  congrArg Host.Outcome.next (if_pos (by rw [hc, hh, ha, decide_eq_true ht]; rfl))

theorem rodHot_runs (hp : s.powered = true) (hh : (rodAt s (n, p)).healthy = true) {c : Int} (hc : 1150 < c) :
    exec (.rodOverTemperature n p c) s = .next (leaveRod n p (fun r => { r with overTemp := true, temp := c }) s) :=
  congrArg Host.Outcome.next (if_pos (by rw [hp, hh, decide_eq_true (show Config.rodHot < c from hc)]; rfl))

theorem rodCooled_runs (hp : s.powered = true) (hh : (rodAt s (n, p)).overTemp = true) {c : Int} (hc : c < 950) :
    exec (.rodCooled n p c) s = .next
      (keepMinimum n (modRod (n, p) (fun r => { r with overTemp := false, temp := c }) s)) :=
  congrArg Host.Outcome.next (if_pos (by rw [hp, hh, decide_eq_true (show c < Config.rodCool from hc)]; rfl))

theorem restEnd_runs (hp : s.powered = true) (hr : (rodAt s (n, p)).rest ≠ .none ∨ (rodAt s (n, p)).susp = true) :
    exec (.rodRestEnd n p) s = .next (keepMinimum n (modRod (n, p) (Rod.restOver s.sys.uptime) s)) :=
  congrArg Host.Outcome.next (if_pos (by
    rw [hp]
    obtain h | h := hr
    · rw [decide_eq_true h]
      rfl
    · rw [h, Bool.or_true]
      rfl))

/-- A rod that changes, before the stake keeps its minimum of rods (R78). -/
theorem changedRod_kept (f : Rod → Rod) : let t := keepMinimum n (modRod (n, p) f s)
    rodAt t (n, p) = { f (rodAt s (n, p)) with active := (rodAt t (n, p)).active, phase := (rodAt t (n, p)).phase
                                               phaseTo := (rodAt t (n, p)).phaseTo } ∧ StakesOnly n s t := by
  have joins := keepMinimum_joins n (modRod (n, p) f s)
  have kept := (joins.rods (n, p)).kept
  have own := rodAt_modRod (n, p) f s (n, p)
  rw [if_pos rfl] at own
  rw [own] at kept
  exact ⟨kept, ((RodMove.modRod (mem_mates_self s n) f).trans joins.toRodMove).only⟩

theorem addRod_runs (ho : gangedOdd s n = false) (hc : converting s n = true) (hd : addDue s n = true) {q}
    (hq : leastWorn s (spareRods s n) = some q) :
    exec (.addRod n) s = .next (rephase n s (modRod q (fun r => { r with active := true }) s)) := by
  refine congrArg Host.Outcome.next ((if_pos (by rw [ho, hc, hd]; rfl)).trans ?_)
  show rephase n s (joinOne n s) = _
  unfold joinOne
  rw [hq]

theorem shedRod_runs (ho : gangedOdd s n = false) (hc : converting s n = true) (hd : shedDue s n = true)
    (hb : isBraking s n = false) {q} (hq : mostWorn s (activeRods s n) = some q) :
    exec (.shedRod n) s = .next (rephase n s (modRod q (fun r => { r with active := false, duty := 0 }) s)) := by
  refine congrArg Host.Outcome.next ((if_pos (by rw [ho, hc, hd, hb]; rfl)).trans ?_)
  show rephase n s (shedOne n s) = _
  unfold shedOne
  rw [hq]

theorem wearSwap_runs (ho : gangedOdd s n = false) (hc : converting s n = true) : exec (.wearSwap n) s = .next
    (if rodsBusy s n then s.modStake n fun k => { k with wearDue := true } else swapRods n s) :=
  congrArg Host.Outcome.next (if_neg (by rw [ho, hc]; exact Bool.false_ne_true))

end

theorem suspectOver_young {now : Nat} {r : Rod} (h : ∀ x ∈ r.suspects, now < x + 60000) (hne : r.suspects ≠ []) :
    suspectOver now r = false := by
  obtain ⟨x, l, hl⟩ := List.exists_cons_of_ne_nil hne
  refine List.all_eq_false.mpr ⟨x, by rw [hl]; exact List.mem_cons_self .., ?_⟩
  have := h x (by rw [hl]; exact List.mem_cons_self ..)
  simp only [decide_eq_true_eq]
  omega

/-- Settles O45, event by event. -/
theorem rodsRestFuseJoinAndLeave : Obligations.RodsRestFuseJoinAndLeave := by
  unfold Obligations.RodsRestFuseJoinAndLeave
  refine ⟨fun n p s hp => ⟨fun hc hh ha hfew ok => ?_, fun hc hh ha hmany ok => ?_, fun hc hh hr hfew ok => ?_,
      fun hc hh ha htrim hfew ok => ?_, fun c hh hhot => ?_, fun c hover hcool => ?_, fun hr => ?_, fun hr hsusp => ?_,
      fun via args hacc h0 h1 hup hh hrest => fuseService_runs hacc h0 h1 hup hh hrest⟩,
    fun n s hp hodd => ⟨fun hc hne hd => ?_, fun hc hb h2 hd => ?_, fun hc ha hs hb a b hla hmb => ?_, fun hc hbusy => ?_,
      fun hup => ?_, fun iAvg temps hc => ?_, fun ist v hc hv => ⟨fun hbuck hdue => ?_, fun hlo hhi => ?_, ?_⟩⟩⟩
  · exact ⟨_, rodCurrentTrip_runs hc hh ha ok, tripRod_rests (by rw [counted_times]; omega) rfl (by simp [Rod.avail])⟩
  · obtain ⟨⟨health, off, why⟩, seq, gone, ⟨ports, sys, ctrs⟩, others⟩ := tripRod_fuses (n := n) (p := p) (cause := 2)
      (ok := ok) (s := s) (times := recent s.sys.uptime 10000 (rodAt s (n, p)).trips ++ [s.sys.uptime])
      (f := fun r => { r with trips := recent s.sys.uptime 10000 (rodAt s (n, p)).trips ++ [s.sys.uptime], rest := .trip })
      (by rw [counted_times]; exact Nat.succ_le_succ hmany)
    exact ⟨_, rodCurrentTrip_runs hc hh ha ok, health, off, why, seq, gone, ports, sys, ctrs, others⟩
  · exact ⟨_, primaryTrip_runs hc hh hr ok, tripRod_rests (by rw [counted_times]; omega) rfl (by simp [Rod.avail])⟩
  · exact ⟨_, suspect_runs hc hh ha htrim ok, tripRod_rests (by rw [counted_times]; omega) rfl (by simp [Rod.avail])⟩
  · exact ⟨_, rodHot_runs hp hh hhot, leaveRod_shows rfl (by simp [Rod.avail])⟩
  · obtain ⟨rod, only⟩ := changedRod_kept (n := n) (p := p) (s := s) fun r => { r with overTemp := false, temp := c }
    exact ⟨_, rodCooled_runs hp hover hcool, by rw [rod], by rw [rod], only⟩
  · obtain ⟨rod, only⟩ := changedRod_kept (n := n) (p := p) (s := s) (Rod.restOver s.sys.uptime)
    have ended : Rod.restOver s.sys.uptime (rodAt s (n, p)) = { rodAt s (n, p) with
        rest := .none, susp := (rodAt s (n, p)).susp && !suspectOver s.sys.uptime (rodAt s (n, p)) } := if_pos hr
    rw [ended] at rod
    refine ⟨_, restEnd_runs hp (.inl hr), by rw [rod], fun hyoung hne => ?_, by rw [rod], only⟩
    rw [rod, suspectOver_young hyoung hne]
    exact Bool.and_true _
  · obtain ⟨rod, only⟩ := changedRod_kept (n := n) (p := p) (s := s) (Rod.restOver s.sys.uptime)
    have ended : Rod.restOver s.sys.uptime (rodAt s (n, p)) = { rodAt s (n, p) with susp := false } :=
      if_neg (not_not.mpr hr)
    rw [ended] at rod
    exact ⟨_, restEnd_runs hp (.inr hsusp), by rw [rod], only⟩
  · obtain ⟨q, hq, mem, best⟩ := leastWorn_of_ne (s := s) hne
    obtain ⟨on, phase, only⟩ := joined_phase mem
    exact ⟨_, q, addRod_runs hodd hc (addDue_of hne hd) hq, mem, rfl, on, phase, only, best⟩
  · have ne : activeRods s n ≠ [] := fun h => by
      rw [h] at h2
      exact absurd h2 (Nat.not_lt_zero 2)
    obtain ⟨q, hq, mem, best⟩ := mostWorn_of_ne (s := s) ne
    obtain ⟨off, only⟩ := shed_rests mem
    exact ⟨_, q, shedRod_runs hodd hc (shedDue_of h2 hd) hb hq, mem, rfl, off, only, best⟩
  · have idle : rodsBusy s n = false := by rw [rodsBusy, ha, hs, hb]; rfl
    exact ⟨_, (wearSwap_runs hodd hc).trans (congrArg _ (if_neg (Bool.eq_false_iff.mp idle))), swapRods_shows hla hmb⟩
  · have busy : rodsBusy s n = true := by
      rw [rodsBusy]
      obtain h | h | h := hbusy <;> simp [h]
    refine ⟨_, (wearSwap_runs hodd hc).trans (congrArg _ (if_pos busy)), ?_, fun m hm => ?_, rfl⟩
    · rw [State.modStake_taps, if_pos rfl]
    · rw [State.modStake_taps, if_neg hm]
  · have run : exec .runningTimeSave s = .next (saveTimes s) := congrArg Host.Outcome.next (if_pos (by rw [hp, hup]; rfl))
    exact ⟨_, run, rfl, fun m p => rodAt_saveTimes s (m, p)⟩
  · have run : exec (.balancingStep n iAvg temps) s = .next (s.modStake n (balanceStake iAvg temps)) :=
      congrArg Host.Outcome.next (if_pos hc)
    have own : (s.modStake n (balanceStake iAvg temps)).taps[n].stake = balanceStake iAvg temps s.taps[n].stake := by
      rw [State.modStake_taps, if_pos rfl]
    refine ⟨_, run, fun m hm => ?_, rfl, fun p => ?_⟩
    · rw [State.modStake_taps, if_neg hm]
    · rw [own]
      exact balanceStake_trims iAvg temps s.taps[n].stake p
  · have due : brakeDue s.taps[n] ist v = true := by
      unfold brakeDue
      obtain h | ⟨h1, h2⟩ := hdue
      · rw [decide_eq_true h]
        rfl
      · rw [decide_eq_true h1, decide_eq_true h2, Bool.and_true, Bool.or_true]
    exact ⟨_, (execBrake_acts (seen := ⟨false, ist, v⟩) hv hodd hc).trans (congrArg _ ((if_neg Bool.false_ne_true).trans
      (if_neg (by rw [hbuck, due]; exact Bool.false_ne_true)))), braked_shows n ist v s⟩
  · have none : brakeDue s.taps[n] ist v = false := by
      unfold brakeDue
      rw [decide_eq_false (by omega), decide_eq_false (p := (s.taps[n].stake.vref / 1000 : Int) + 500 ≤ v) (by omega),
        Bool.and_false]
      rfl
    exact (execBrake_acts (seen := ⟨false, ist, v⟩) hv hodd hc).trans (congrArg _ ((if_neg Bool.false_ne_true).trans
      (if_pos (by rw [none]; exact Bool.or_true _))))
  · refine ⟨_, (execBrake_acts (seen := ⟨true, ist, v⟩) hv hodd hc).trans (congrArg _ (if_pos rfl)), .onMates .., fun m hm => ?_⟩
    rw [onMates_taps, if_pos hm]

end Sys2Proof.Machine
end

/-! ## SYNC_IN, the cluster islands and the shunt -/

section
open Sys2Proof.Claims

namespace Sys2Proof.Machine

/-! ### A bit per island -/

theorem island_off (v : BitVec 4) (m k : Fin 4) :
    (v &&& ~~~(1#4 <<< m.val)).getLsbD k.val = (v.getLsbD k.val && decide (k ≠ m)) := by
  revert v m k
  decide

theorem island_on (v : BitVec 4) (m : Fin 4) : (v ||| (1#4 <<< m.val)).getLsbD m.val = true := by
  revert v m
  decide

/-- An alert raised with the change of a setting of the module that leaves the control plane's state. -/
theorem alert_nextSeq {s : State} (h : planeDown s = false) (cls kind reason inst param) :
    (alert cls kind reason inst param s).alr.nextSeq = s.alr.nextSeq + 1 := by
  unfold alert alertAt
  rw [h]
  exact enqueue_nextSeq _ s

/-! ### A command that waited for its island -/

theorem runSetLimits_done {a : List Word} {s : State} {n : Fin 32} (h0 : arg a 0 = n.val) (h1 : arg a 1 ≤ 16000)
    (hodd : gangedOdd s n = false) : runSetLimits a s = done (s.modCfg n fun c => { c with cmdLim := some (arg a 1) }) := by
  obtain rfl := tapOf_of_arg h0
  have given : argD a 1 = some (arg a 1) := if_neg (by omega)
  refine (checked_pass ?_).trans (by rw [given])
  have words : wordsLimits a = none := by
    rw [wordsLimits, tapArg_ok h0, wordsLimits.rngOr', if_neg (by omega), rng_ok (Nat.zero_le _) h1]
    rfl
  rw [words, notOdd_ok hodd]
  rfl

/-- The island of a cluster is up and its commands are due. -/
def clusterUp (m : Fin 4) (s : State) : State :=
  { s.modSys (fun y =>
      { y with clOn := y.clOn ||| (1#4 <<< m.val), clWaking := y.clWaking &&& ~~~(1#4 <<< m.val) }) with held := [] }

theorem execClusterWakeDone_single {m : Fin 4} {s : State} {op via args} (hp : s.powered = true) (hst : s.sys.st ≠ .recovery)
    (hw : s.sys.clWaking.getLsbD m.val = true) (hc : s.sys.cores.getLsbD (4 + m.val) = true)
    (hh : s.held = [(op, via, args)]) (hm : heldCluster (op, via, args) = m.val) : execClusterWakeDone m s =
      .next (deliver via (lateReply op (clusterUp m s) (heldRun op via args (clusterUp m s)))) := by
  unfold execClusterWakeDone
  have due : ([(op, via, args)].filter fun c => decide (heldCluster c = m.val)) = [(op, via, args)] := by simp [hm]
  have rest : ([(op, via, args)].filter fun c => decide (heldCluster c ≠ m.val)) = [] := by simp [hm]
  rw [hp, hw, hc, decide_eq_false hst, hh]
  dsimp only
  rw [due, rest]
  rfl

theorem lateReply_limits {op s t} : lateReply op s (done t) = match recheck op s with
    | some k => deny k s
    | none => done t := rfl

theorem deliver_deny (via k s) : deliver via (deny k s) = answer via k [] s := rfl
theorem deliver_done (via s) : deliver via (done s) = answer via 0 [] s := rfl
theorem answer_held (via code res s) : (answer via code res s).held = s.held := by simp only [answer_keeps]
theorem answer_sys (via code res s) : (answer via code res s).sys = s.sys := by simp only [answer_keeps]

theorem held_at {op via} {args : List Word} {n : Fin 32} {m : Fin 4} (h0 : arg args 0 = n.val) (hm : clusterOf n = m)
    (hop : op = 0x0304 := by rfl) : heldCluster (op, via, args) = m.val := by
  subst hop hm
  show arg args 0 / 8 % 4 = n.val / 8
  omega

/-! ### The shunt -/

theorem enterSafe_shFault (cause s) : (enterSafe cause s).sys.shFault = s.sys.shFault := by
  simp [enterSafe, setState_sys]

theorem hardwareFault_rests {s : State} (h : s.sys.st = .boot ∨ s.sys.st = .recovery ∨ s.sys.st = .safe) :
    hardwareFault s = s := by
  unfold hardwareFault
  obtain h | h | h := h <;> rw [h]

theorem hardwareFault_shFault (s : State) : (hardwareFault s).sys.shFault = s.sys.shFault := by
  have safe : (ranked 5 (enterSafe 7) s).sys.shFault = s.sys.shFault := by
    unfold ranked
    split
    · rfl
    · rw [State.modSys_sys]
      dsimp only
      rw [enterSafe_shFault]
  unfold hardwareFault
  split
  · exact safe
  · exact safe
  · exact safe
  · rfl

/-- A latched fault that comes shows in the fault summary at once (R442). -/
theorem fltSince_set {s t : State} {k : Fin 7} (hs : moduleFaults s k = false) (ht : moduleFaults t k = true) :
    (fltSince s t).shown.flt = fltWords t := by
  have changed : fltReg s 0 ≠ fltReg t 0 := fun h => by
    have same := congrArg (BitVec.getLsbD · k.val) h
    simp only [fltModule_bit, hs, ht] at same
    exact absurd same (by decide)
  rw [fltSince, if_neg changed]

theorem stringMax_rated {v : Int} (h : Config.stringMax < v) (h' : v ≤ 1600000) : stringRated v = true := by
  have low : (1200000 : Int) ≤ Config.stringMax := by
    unfold Config.stringMax
    split <;> decide
  refine decide_eq_true ?_
  unfold Config.absStringMin Config.absString
  omega

theorem not_stringRated {v : Int} (h : 1600000 < v) : stringRated v = false := by
  refine decide_eq_false ?_
  unfold Config.absStringMin Config.absString
  omega

/-- Settles O46: SYNC_IN, the islands and the commands that wait for them, the shunt and the string. -/
theorem carrierClustersAndShuntAct : Obligations.CarrierClustersAndShuntAct := by
  unfold Obligations.CarrierClustersAndShuntAct
  refine ⟨fun s hp => ⟨fun f ph hlo hhi hd hsrc => ?_, fun f ph hf => ?_, fun hv hsrc hfsw hlo hhi => ?_, fun hno => ?_, ?_,
      fun hv hsrc => ?_, fun hsrc hf => ?_, fun hf => ?_⟩,
    fun m s hp => ⟨fun hst hc hon hidle => ?_, fun j hj => ?_, fun hst hoff => ?_, fun via args n ha h0 hm hoff => ?_,
      fun via args n hst hw hh h0 hm hc => ⟨fun k hk hodd h1 => ?_, fun hk hodd h1 => ?_⟩⟩,
    fun s hp => ⟨fun hv => ?_, fun i hv => ?_, fun hv hst => ?_, fun hv hst => ?_, fun fb => ?_, fun v hlo hhi => ?_,
      fun v hv => ?_⟩⟩
  · refine congrArg Host.Outcome.next ((if_pos ⟨hp, hlo, hhi⟩).trans ?_)
    have other : ¬(s.sys.syncDis = true ∨ s.sys.syncSrc = 2) := by rw [hd]; simp [hsrc]
    simp only [State.modSys, if_neg other]
  · refine congrArg Host.Outcome.next (if_neg ?_)
    dsimp only
    omega
  · exact congrArg Host.Outcome.next (if_pos ⟨hp, hv, hsrc, decide_eq_true ⟨hfsw, hlo, hhi⟩⟩)
  · refine congrArg Host.Outcome.next (if_neg ?_)
    rw [aligned, decide_eq_true_eq]
    omega
  · rw [syncOut, hp]
    rfl
  · have run : exec .syncInLoss s = .next (alert 3 9 5 0xFF 0 (s.modSys fun y => { y with
        syncValid := false, syncLoss := true, syncSrc := if y.fsw = y.ownFsw then 0 else 3 })) := by
      refine congrArg Host.Outcome.next ((if_pos ⟨hp, hv⟩).trans (congrArg (alert 3 9 5 0xFF 0) ?_))
      simp only [State.modSys, if_pos hsrc]
      rfl
    refine ⟨_, run, by exact alert_sys .., fun hd => alert_nextSeq (by exact hd) .., ?_⟩
    rw [alert_shape]
    rfl
  · exact congrArg Host.Outcome.next (if_pos ⟨hp, hsrc, hf⟩)
  · refine congrArg Host.Outcome.next (if_neg ?_)
    rintro ⟨-, -, h⟩
    exact hf h
  · have due : (s.powered && decide (s.sys.st ≠ .recovery) && s.sys.clOn.getLsbD m.val
        && (indices 8).all fun j => idleStake s.taps[tapAt m j]) = true := by
      have up : s.sys.st ≠ .recovery := by rintro h; rw [h] at hst; simp at hst
      rw [hp, hon, decide_eq_true up, List.all_eq_true.mpr fun j _ => hidle j]
      rfl
    refine ⟨_, congrArg Host.Outcome.next (if_pos due), ?_, fun k hk => ?_, rfl, rfl⟩
    · exact (island_off ..).trans (by rw [decide_eq_false (by simp), Bool.and_false])
    · exact (island_off ..).trans (by rw [decide_eq_true hk, Bool.and_true])
  · refine congrArg Host.Outcome.next (if_neg ?_)
    rw [Bool.and_eq_true, List.all_eq_true]
    rintro ⟨-, h⟩
    exact absurd (h j (mem_indices j)) (by rw [hj]; decide)
  · have due : (s.powered && decide (s.sys.st ≠ .recovery) && !s.sys.clOn.getLsbD m.val) = true := by
      rw [hp, hoff, decide_eq_true hst]
      rfl
    exact ⟨_, congrArg Host.Outcome.next (if_pos due), island_on .., rfl⟩
  · obtain rfl := tapOf_of_arg h0
    subst hm
    have run : exec (.tapSetLimits via args) s = .next (hold (0x0304, via, args) (s.modSys fun y =>
        { y with clWaking := y.clWaking ||| (1#4 <<< (clusterOf (tapOf (arg args 0))).val) })) := by
      show onCluster 0x0304 runSetLimits via args s = _
      refine if_pos ⟨accepts_of ha, by omega, ?_⟩
      rw [clUp, hoff]
      rfl
    refine ⟨_, run, rfl, island_on .., rfl, ?_⟩
    cases via <;> rfl
  · have run := (execClusterWakeDone_single hp hst hw hc hh (held_at h0 hm)).trans
      (congrArg (fun r => Host.Outcome.next (deliver via (lateReply 0x0304 (clusterUp m s) r)))
        (runSetLimits_done (s := clusterUp m s) h0 h1 hodd))
    rw [lateReply_limits, show recheck 0x0304 (clusterUp m s) = recheck 0x0304 s from rfl, hk] at run
    refine ⟨_, run, ?_, ?_, answer_taps .., answerOf_answer ..⟩
    · rw [deliver_deny, answer_held]
      rfl
    · rw [deliver_deny, answer_sys]
      exact island_on ..
  · have run := (execClusterWakeDone_single hp hst hw hc hh (held_at h0 hm)).trans
      (congrArg (fun r => Host.Outcome.next (deliver via (lateReply 0x0304 (clusterUp m s) r)))
        (runSetLimits_done (s := clusterUp m s) h0 h1 hodd))
    rw [lateReply_limits, show recheck 0x0304 (clusterUp m s) = recheck 0x0304 s from rfl, hk] at run
    obtain ⟨own, others⟩ := onlyCfg_answer (onlyCfg_modCfg n (fun c => { c with cmdLim := some (arg args 1) }) (clusterUp m s)) via 0 []
    refine ⟨_, run, ?_, ?_, ?_, by exact congrArg (·.cfg.cmdLim) own, others, answerOf_answer ..⟩
    · rw [deliver_done, answer_held]
      rfl
    · rw [deliver_done, answer_sys]
      exact island_on ..
    · rw [deliver_done, answer_sys]
      exact (island_off ..).trans (by rw [decide_eq_false (by simp), Bool.and_false])
  · have run : exec .shuntBitstreamInvalid s = .next (alert 0 0xA 4 0xFF 0 (s.modSys fun y => { y with
        shValid := false, shLost := true, shRange := false, shLostAt := some y.uptime })) :=
      congrArg Host.Outcome.next (if_pos (by rw [hp, hv]; rfl))
    refine ⟨_, run, by exact alert_sys .., fun hd => alert_nextSeq (by exact hd) .., ?_⟩
    rw [alert_shape]
    rfl
  · have run : exec (.shuntBitstreamValid i) s = .next ((match s.sys.shLostAt with
        | some t0 => if s.sys.uptime - t0 ≤ 10 then event .shuntHeld [((s.sys.uptime - t0 : Nat) : Int)] s else s
        | none => s).modSys fun y =>
          { y with shValid := true, shOkAt := y.uptime, iStr := i, shRange := decide (i < -32000 ∨ 32000 < i) }) := by
      show execShuntBitstreamValid i s = _
      rw [execShuntBitstreamValid, hp, hv]
      rfl
    have noted : ∃ b, (match s.sys.shLostAt with
        | some t0 => if s.sys.uptime - t0 ≤ 10 then event .shuntHeld [((s.sys.uptime - t0 : Nat) : Int)] s else s
        | none => s) = { s with bbx := b } := by
      split
      · split
        · exact ⟨_, event_eq ..⟩
        · exact ⟨_, rfl⟩
      · exact ⟨_, rfl⟩
    obtain ⟨b, hb⟩ := noted
    rw [hb] at run
    exact ⟨_, run, rfl, rfl, rfl, rfl, rfl⟩
  · have run : exec .shFault s = .next (withFlt (fun s => hardwareFault (s.modSys fun y =>
        { y with shFault := true, shLostAt := none })) s) := congrArg Host.Outcome.next (if_pos (by rw [hp, hv]; rfl))
    rw [withFlt_outside] at run
    refine ⟨_, run, hardwareFault_shFault _, fun hacted => ?_⟩
    dsimp only
    rw [hardwareFault_run (by exact hst) (by exact hacted)]
    rw [State.modSys_sys]
    dsimp only
    rw [enterSafe_st, (enterSafe_stops ..).1]
    exact ⟨rfl, rfl⟩
  · have run : exec .shFault s = .next (fltSince s (hardwareFault (s.modSys fun y =>
        { y with shFault := true, shLostAt := none }))) := congrArg Host.Outcome.next (if_pos (by rw [hp, hv]; rfl))
    rw [hardwareFault_rests (by exact hst)] at run
    refine ⟨_, run, by rw [fltSince_outside]; rfl, fun hf => ?_⟩
    have words (u : State) : fltWords (fltSince s u) = fltWords u := by
      rw [fltSince_outside]
      rfl
    rw [words]
    exact fltSince_set (k := 2) hf (by rfl)
  · refine ⟨_, congrArg Host.Outcome.next (if_pos hp), rfl, ?_, rfl⟩
    show (decide (fb ≠ s.sys.strEn) && decide (200 ≤ if fb = s.sys.strEn then 0 else 200)) = _
    split <;> simp [*]
  · have run : exec (.stringOver1500v v) s = .next (alertRec (event .stringOver [v, v / 65536]) 0 0xA 5 0xFF 0
        (s.modSys fun y => { y with vStr := v })) := by
      show execStringOver1500v v s = _
      rw [execStringOver1500v, stringMax_rated hlo hhi, hp, if_neg (by decide), if_neg (by decide), if_neg (by omega)]
    have shape : alertRec (event .stringOver [v, v / 65536]) 0 0xA 5 0xFF 0 (s.modSys fun y => { y with vStr := v }) = _ :=
      alertRec_outside ..
    refine ⟨_, run, congrArg (·.sys.vStr) shape, fun hd => ?_, shape⟩
    obtain ⟨a, -, ha⟩ := alertRec_eq_enqueue (f := event .stringOver [v, v / 65536])
      (s := s.modSys fun y => { y with vStr := v }) ((planeDown_event ..).trans hd) 0 0xA 5 0xFF 0
    rw [ha, enqueue_nextSeq, event_eq]
    rfl
  · show execStringOver1500v v s = _
    rw [execStringOver1500v, not_stringRated hv]
    rfl

end Sys2Proof.Machine
end

/-! ## Events of a tap -/

section
open Sys2Proof.Claims

namespace Sys2Proof.Machine

/-- What the tap-sense scanner watches of a tap is as before (R21). -/
def Unsensed (a b : Tap) : Prop := a.state = b.state ∧ a.cause = b.cause ∧ a.band = b.band ∧ a.kelvinBad = b.kelvinBad ∧
  a.ntcSplit = b.ntcSplit ∧ a.reverse = b.reverse

theorem Unsensed.of_stake {a b : Tap} (h : b = { a with stake := b.stake }) : Unsensed a b := by
  rw [h]
  exact ⟨rfl, rfl, rfl, rfl, rfl, rfl⟩

section
variable {n : Fin 32} {s : State} {f : State → State}

theorem waking_rests (h : Unsensed s.taps[n] (f s).taps[n]) : waking n f s = f s := if_pos h

theorem waking_outside (n f s) : waking n f s = { f s with sys := { (f s).sys with clWaking := (waking n f s).sys.clWaking } } := by
  unfold waking
  dsimp only
  split
  · rfl
  · unfold wakeFor
    split <;> rfl

theorem waking_taps (n f s) : (waking n f s).taps = (f s).taps := by rw [waking_outside]
theorem waking_bbx (n f s) : (waking n f s).bbx = (f s).bbx := by rw [waking_outside]

theorem waking_tapOp (h : TapOp n s (f s)) : TapOp n s (waking n f s) := by
  have woken := h.trans (.wakeFor n (f s))
  unfold waking
  dsimp only
  split
  · exact h
  · exact woken

theorem tapHw_acts (ha : Acts n s) : tapHw n f s = .next (waking n f s) := by
  obtain ⟨hp, hg⟩ := ha
  unfold tapHw
  rw [hp, hg]
  rfl

/-- An event that leaves what the scanner watches wakes nothing. -/
theorem tapHw_rests {t : State} (ha : Acts n s) (hf : f s = t) (h : Unsensed s.taps[n] t.taps[n]) : tapHw n f s = .next t := by
  rw [tapHw_acts ha, waking_rests (by rw [hf]; exact h), hf]

/-- An event that may wake its island. -/
theorem waking_woken {t : State} (hf : f s = t) (op : TapOp n s t) : (waking n f s).taps = t.taps ∧
    (waking n f s).bbx = t.bbx ∧ (waking n f s).alr = t.alr ∧ TapFrame n s (waking n f s) := by
  subst hf
  refine ⟨waking_taps .., waking_bbx .., ?_, (waking_tapOp op).frame⟩
  rw [waking_outside]

/-- An event whose condition fails changes nothing. -/
theorem tapHw_idle (h : f s = s) : tapHw n f s = .next s := by
  have rests : waking n f s = f s := waking_rests (by rw [h]; exact ⟨rfl, rfl, rfl, rfl, rfl, rfl⟩)
  unfold tapHw
  rw [rests, h]
  split <;> rfl

theorem tapFw_acts (hf : fwUp s n = true) (hg : gangedOdd s n = false) : tapFw n f s = .next (waking n f s) := by
  unfold tapFw
  rw [hf, hg]
  rfl

theorem tapFw_idle (h : f s = s) : tapFw n f s = .next s := by
  have rests : waking n f s = f s := waking_rests (by rw [h]; exact ⟨rfl, rfl, rfl, rfl, rfl, rfl⟩)
  unfold tapFw
  rw [rests, h]
  split <;> rfl

theorem atVolt_rated {v : Int} (h : tapRated v = true) (go) (s : State) : atVolt v go s = go s := by
  unfold atVolt
  rw [h]
  rfl

end

/-! ### Events by their rank -/

theorem modTap_self (s : State) (n : Fin 32) : s.modTap n id = s := by
  apply State.ext_parts <;> try rfl
  exact Vector.set_getElem_self ..

/-- What an event by its rank leads to from what it does (R133). -/
structure Follows (n : Fin 32) (s u t : State) : Prop where
  tap : t.taps[n] = { u.taps[n] with acted := t.taps[n].acted }
  others : TapsBut n u t
  bbx : t.bbx = u.bbx
  alr : t.alr = u.alr
  frame : TapFrame n s t

theorem rankTap_ranks {r top : Nat} {n : Fin 32} {f : State → State} {s : State}
    (h : s.taps[n].acted = 0 ∨ top < s.taps[n].acted) :
    ∃ k : Tap → Nat, rankTap r top n f s = (f s).modTap n fun t => { t with acted := k t } := by
  have due : ¬(s.taps[n].acted ≠ 0 ∧ s.taps[n].acted ≤ top) := by omega
  have shape : rankTap r top n f s = if tapMoved s.taps[n] (f s).taps[n] then
      (f s).modTap n (fun t => { t with acted := r }) else f s := if_neg due
  rw [shape]
  split
  · exact ⟨_, rfl⟩
  · exact ⟨Tap.acted, (modTap_self _ n).symm⟩

/-- An event that moves nothing of its tap keeps the rank it has acted on (R133). -/
theorem rankTap_unmoved {r top : Nat} {n : Fin 32} {f : State → State} {s : State}
    (h : tapMoved s.taps[n] (f s).taps[n] = false) (hacted : s.taps[n].acted = 0 ∨ top < s.taps[n].acted) :
    rankTap r top n f s = f s := by
  unfold rankTap
  dsimp only
  rw [if_neg (by omega), h]
  rfl

theorem tapMoved_self (t : Tap) : tapMoved t t = false := by simp [tapMoved]

theorem rankTap_idle {r top : Nat} {n : Fin 32} {f : State → State} {s : State} (h : f s = s) : rankTap r top n f s = s := by
  unfold rankTap
  dsimp only
  rw [h, tapMoved_self]
  split <;> rfl

theorem waking_follows {n : Fin 32} {s u : State} {f : State → State} {k : Tap → Nat}
    (hf : f s = u.modTap n fun t => { t with acted := k t }) (op : TapOp n s u) : Follows n s u (waking n f s) := by
  have ranked : TapOp n s (u.modTap n fun t => { t with acted := k t }) := op.trans .modTap
  obtain ⟨taps, bbx, alr, frame⟩ := waking_woken hf ranked
  refine ⟨?_, fun m hm => ?_, bbx, alr, frame⟩
  · rw [taps, State.modTap_taps, if_pos rfl]
  · rw [taps, State.modTap_taps, if_neg hm]

section
variable {r ms : Nat} {n : Fin 32} {f : State → State} {s u : State}

/-- A hardware transition takes effect (R132, R133). -/
theorem smHw_acts (h : HwActs r n s) (hf : f s = u) (op : TapOp n s u) : ∃ t, smHw r n f s = .next t ∧ Follows n s u t := by
  obtain ⟨hp, hg, hl, hacted⟩ := h
  obtain ⟨k, hk⟩ := rankTap_ranks (r := r) (f := f) hacted
  have free : (if leaving s.taps[n] then s else rankTap r r n f s) = u.modTap n fun t => { t with acted := k t } := by
    rw [hl, hk, hf]
    rfl
  exact ⟨_, tapHw_acts ⟨hp, hg⟩, waking_follows (f := fun s => if leaving s.taps[n] then s else rankTap r r n f s) free op⟩

theorem smHw_idle (h : f s = s) : smHw r n f s = .next s := by
  refine tapHw_idle ?_
  rw [rankTap_idle h]
  split <;> rfl

/-- A firmware transition takes effect (R132, R133, R159). -/
theorem smFw_acts (h : FwActs ms n s) (hf : f s = u) (op : TapOp n s u) : ∃ t, smFw ms n f s = .next t ∧ Follows n s u t := by
  obtain ⟨hup, hd, hg, hl, hacted⟩ := h
  obtain ⟨k, hk⟩ := rankTap_ranks (r := 9) (top := 9) (f := f) (.inl hacted)
  have free : (if leaving s.taps[n] || !dwelt s n ms then s else rankTap 9 9 n f s) = u.modTap n fun t => { t with acted := k t } := by
    rw [hl, hd, hk, hf]
    rfl
  exact ⟨_, tapFw_acts hup hg, waking_follows (f := fun s => if leaving s.taps[n] || !dwelt s n ms then s else rankTap 9 9 n f s) free op⟩

theorem smFw_idle (h : f s = s) : smFw ms n f s = .next s := by
  refine tapFw_idle ?_
  rw [rankTap_idle h]
  split <;> rfl

/-- A firmware transition of a state takes effect (R133, R159). -/
theorem smDwell_acts (h : FwActs ms n s) (hf : f s = u) (op : TapOp n s u) : ∃ t, smDwell ms n f s = .next t ∧ Follows n s u t := by
  obtain ⟨hup, hd, hg, hl, hacted⟩ := h
  obtain ⟨k, hk⟩ := rankTap_ranks (r := 9) (top := 7) (f := f) (.inl hacted)
  have free : (if leaving s.taps[n] || !dwelt s n ms then s else rankTap 9 7 n f s) = u.modTap n fun t => { t with acted := k t } := by
    rw [hl, hd, hk, hf]
    rfl
  exact ⟨_, tapFw_acts hup hg, waking_follows (f := fun s => if leaving s.taps[n] || !dwelt s n ms then s else rankTap 9 7 n f s) free op⟩

theorem smDwell_idle (h : f s = s) : smDwell ms n f s = .next s := by
  refine tapFw_idle ?_
  rw [rankTap_idle h]
  split <;> rfl

end

theorem Follows.switches {n s u t} (h : Follows n s u t) : SwitchesKept u t := fun m => by
  by_cases hm : m = n
  · subst hm
    rw [h.tap]
    exact ⟨rfl, rfl⟩
  · rw [h.others m hm]
    exact ⟨rfl, rfl⟩

theorem Follows.stopped {n s u t} (h : Follows n s u t) (hs : Stopped n s u) : Stopped n s t := hs.of_switches h.switches

/-! ### A fault with its record and alert -/

theorem planeDown_congr {s t : State} (hst : t.sys.st = s.sys.st) (hc : t.sys.cores = s.sys.cores) : planeDown t = planeDown s := by
  unfold planeDown
  rw [hst, hc]

theorem tapFault_reports (n st cause s) : (tapFault n st cause s).bbx.queue.getLast?.map (·.type) = some 0x08 ∧
    (tapFault n st cause s).bbx.nextSeq = s.bbx.nextSeq + 1 ∧
    (planeDown s = false → (tapFault n st cause s).alr.nextSeq = s.alr.nextSeq + 1) := by
  have stopped := (faultStop_tapOp n st cause s).frame
  obtain ⟨-, sys, -⟩ := stopped
  have bbx : (faultStop n st cause s).bbx = s.bbx := by
    unfold faultStop
    dsimp only
    split <;> simp
  have alr : (faultStop n st cause s).alr = s.alr := by
    unfold faultStop
    dsimp only
    split <;> simp
  have down : planeDown (faultStop n st cause s) = planeDown s := planeDown_congr (by rw [sys]) (by rw [sys])
  rw [tapFault_eq]
  generalize faultStop n st cause s = u at *
  generalize faultRecord n _ = w
  have noted : (alertRec (record 0x08 w) 0 2 (tapCode st) n.val u.taps[n].vKel u).bbx = (record 0x08 w u).bbx := by simp
  rw [noted]
  refine ⟨record_last .., congrArg (· + 1) (congrArg Bbx.nextSeq bbx), fun hd => ?_⟩
  obtain ⟨a, -, ha⟩ := alertRec_eq_enqueue (f := record 0x08 w) (s := u) (by exact down.trans hd) 0 2 (tapCode st) n.val u.taps[n].vKel
  rw [ha, enqueue_nextSeq, ← alr]
  rfl

theorem tapFault_faults (n st cause s) : Faults n st s (tapFault n st cause s) := by
  obtain ⟨last, seq, told⟩ := tapFault_reports n st cause s
  refine ⟨⟨?_, (tapFault_tapOp ..).frame⟩, tapFault_stopped n st cause s, last, seq, told, fun h => ?_⟩
  · rw [tapFault_tap, Tap.faulted_state]
  · rw [tapFault_tap]
    exact Tap.faulted_byp st cause _ h

/-- A fault that an event by its rank leads to. -/
theorem Follows.faults {n st s u t} (h : Follows n s u t) (hu : Faults n st s u) : Faults n st s t := by
  obtain ⟨⟨state, -⟩, stopped, last, seq, told, byp⟩ := hu
  have tap := h.tap
  refine ⟨⟨?_, h.frame⟩, h.stopped stopped, by rw [h.bbx]; exact last, by rw [h.bbx]; exact seq,
    fun hd => by rw [h.alr]; exact told hd, fun hb => ?_⟩
  · rw [tap]
    exact state
  · rw [tap]
    exact byp hb

/-- A suspension that an event by its rank leads to. -/
theorem Follows.suspends {n cause s u t} (h : Follows n s u t) (hu : Suspends n cause s u) : Suspends n cause s t := by
  obtain ⟨⟨state, -⟩, why, stopped, left⟩ := hu
  have tap := h.tap
  refine ⟨⟨?_, h.frame⟩, ?_, h.stopped stopped, fun hs => ?_⟩ <;> rw [tap]
  · exact state
  · exact why
  · exact left hs

end Sys2Proof.Machine
end

/-! ## The start sequence of a stake -/

section
open Sys2Proof.Claims

namespace Sys2Proof.Claims
open Sys2Proof.Machine

theorem StakesOnly.modTap {n f} {s : State} (hf : ∀ t : Tap, f t = { t with stake := (f t).stake }) :
    StakesOnly n s (s.modTap n f) := by
  refine ⟨fun i hi => ?_, rfl, fun i => ?_⟩
  · rw [State.modTap_taps, if_neg (by rintro rfl; exact hi (mem_mates_self ..))]
  · rw [State.modTap_taps]
    split
    next h => subst h; exact hf _
    next => rfl

end Sys2Proof.Claims

namespace Sys2Proof.Machine

/-! ### A start request -/

theorem reversed_congr {s t : State} {n : Fin 32} (hg : t.taps[n].cfg = s.taps[n].cfg)
    (hv : ∀ m : Fin 32, t.taps[m].vPair = s.taps[m].vPair) : reversed t n = reversed s n := by
  unfold reversed
  rw [mates_congr hg]
  exact congrArg (List.any _) (funext fun m => by rw [hv m])

theorem startDue_stopped {s n} (h : startDue s n = true) :
    mayStart s = true ∧ s.taps[n].stake.conv = false ∧ s.taps[n].stake.start = .off := by
  simp only [startDue, Bool.and_eq_true, Bool.not_eq_true', decide_eq_true_eq] at h
  obtain ⟨⟨⟨⟨may, -⟩, conv⟩, off⟩, -⟩ := h
  exact ⟨may, conv, off⟩

/-- The tap whose start is due, with the attempt count of a new sequence (R101). -/
theorem fresh_tap (n : Fin 32) (s : State) : (s.modStake n Stake.fresh).taps[n] =
    { s.taps[n] with stake := s.taps[n].stake.fresh } := by
  rw [State.modStake_taps, if_pos rfl]

theorem modStake_vPair (n f) (s : State) (m : Fin 32) : (s.modStake n f).taps[m].vPair = s.taps[m].vPair := by
  rw [State.modStake_taps]
  split
  next h => rw [h]
  next => rfl

theorem modStake_cfg (n f) (s : State) (m : Fin 32) : (s.modStake n f).taps[m].cfg = s.taps[m].cfg := by
  rw [State.modStake_taps]
  split
  next h => rw [h]
  next => rfl

theorem modStake_vKel (n f) (s : State) (m : Fin 32) : (s.modStake n f).taps[m].vKel = s.taps[m].vKel := by
  rw [State.modStake_taps]
  split
  next h => rw [h]
  next => rfl

/-- The start of a stake or pair begins with its tests (R101). -/
structure Begins (n : Fin 32) (s t : State) : Prop where
  tap : t.taps[n] = s.taps[n].pretests
  test : ∀ m ∈ mates s n, t.taps[m].stake.testing = true
  op : TapOp n s t

theorem requestStart_begins {n s} (hr : reversed s n = false) (hm : mayStart s = true)
    (hg : s.taps[n].cfg.gang = true → gangOk s n (partner n) = true) (hrate : (rating s n).1 ≠ 0) :
    Begins n s (requestStart n s) := by
  have tested : TapOp n s (onMates n (fun k => { k with testing := true }) s) := .onMates ..
  have asked : requestStart n s = wakeFor n ((onMates n (fun k => { k with testing := true }) s).modTap n Tap.pretests) := by
    have own : (onMates n (fun k => { k with testing := true }) s).taps[n].stake.testing = true := by
      rw [onMates_taps, if_pos (mem_mates_self s n)]
    have pair : (s.taps[n].cfg.gang && !gangOk s n (partner n)) = false := by
      cases h : s.taps[n].cfg.gang with
      | false => rfl
      | true => rw [hg h]; rfl
    unfold requestStart
    dsimp only
    rw [hr, hm, pair]
    refine (if_neg (by decide)).trans ((if_neg Bool.false_ne_true).trans ((if_neg hrate).trans (congrArg (wakeFor n) ?_)))
    generalize onMates n (fun k => { k with testing := true }) s = u at own
    apply State.ext_parts <;> try rfl
    unfold State.modTap
    dsimp only
    unfold Tap.pretests
    rw [own]
  have taps := wakeFor_taps n ((onMates n (fun k => { k with testing := true }) s).modTap n Tap.pretests)
  rw [asked]
  refine ⟨?_, fun m hm => ?_, (tested.trans .modTap).trans (.wakeFor ..)⟩
  · rw [taps, State.modTap_taps, if_pos rfl, onMates_taps, if_pos (mem_mates_self s n)]
    rfl
  · rw [taps, State.modTap_taps]
    split
    · rfl
    · rw [onMates_taps, if_pos hm]

theorem requestStart_unpaired {n s} (hr : reversed s n = false) (hm : mayStart s = true) (hg : s.taps[n].cfg.gang = true)
    (hok : gangOk s n (partner n) = false) : requestStart n s = alert 0 0xA 11 n.val 0 (suspend n 5 s) := by
  unfold requestStart
  dsimp only
  rw [hr, hm, hg, hok]
  rfl

theorem requestStart_unrated {n s} (hr : reversed s n = false) (hm : mayStart s = true) (hg : s.taps[n].cfg.gang = false)
    (h0 : (rating s n).1 = 0) : requestStart n s =
      withFlt (fun s => suspend n 6 (onMates n (fun k => { k with withdrawn := true }) s)) s := by
  unfold requestStart
  dsimp only
  rw [hr, hm, hg]
  exact (if_neg (by decide)).trans ((if_neg Bool.false_ne_true).trans (if_pos h0))

theorem requestStart_reversed {n s} (hr : reversed s n = true) : requestStart n s = s.modTap n Tap.refuses := by
  unfold requestStart
  dsimp only
  rw [hr]
  rfl

/-! ### Closing the switch -/

/-- The stake of a tap that begins to carry its stake current (R101, R109). -/
def Stake.closes (st : TapState) (mv : Int) (k : Stake) : Stake :=
  { k with
    conv := true, sw := true, start := .running, vref := min 96000 mv.toNat * 1000
    slotByp := k.slotByp && !decide (st = .standIn), fromBypass := k.fromBypass && k.slotFb }

/-- What a stake or pair shows as its switches close with `v_ref` at a voltage in mV (R97, R101, R109). -/
structure Closes (n : Fin 32) (mv : Int) (s t : State) : Prop where
  start : t.taps[n].stake.start = .running
  vref : t.taps[n].stake.vref = min 96000 mv.toNat * 1000
  slotByp : t.taps[n].stake.slotByp = (s.taps[n].stake.slotByp && !decide (s.taps[n].state = .standIn))
  switch : ∀ m ∈ mates s n, t.taps[m].stake.conv = true ∧ t.taps[m].stake.sw = true
  rods : ∀ r, rodAt t r = rodAt s r
  only : StakesOnly n s t

theorem arrive_only (n s) : StakesOnly n s (arrive n s) := .modTap fun _ => rfl

theorem rodAt_of_rods {s t : State} (h : ∀ m : Fin 32, t.taps[m].stake.rods = s.taps[m].stake.rods) (r) : rodAt t r = rodAt s r :=
  congrArg (·[r.2]) (h r.1)

theorem rodAt_onMates {n f} {s : State} (hf : ∀ k : Stake, (f k).rods = k.rods) (r) :
    rodAt (onMates n f s) r = rodAt s r := rodAt_of_rods (fun m => by
  rw [onMates_taps]
  split
  · exact hf _
  · rfl) r

theorem arrive_rods (n s r) : rodAt (arrive n s) r = rodAt s r := rodAt_of_rods (fun m => by
  rw [arrive, State.modTap_taps]
  split
  next h => rw [h]
  next => rfl) r

/-- The state in which the switches of a stake or pair have closed. -/
def closing (n : Fin 32) (mv : Int) (s : State) : State :=
  (onMates n (fun k => { k with conv := true, sw := true }) s).modStake n fun k =>
    { k with start := .running, vref := min 96000 mv.toNat * 1000
             slotByp := k.slotByp && !decide (s.taps[n].state = .standIn), fromBypass := k.fromBypass && k.slotFb }

theorem closeSwitch_eq (n mv s) : closeSwitch n mv s =
    if (closing n mv s).taps[n].stake.vref = (closing n mv s).taps[n].stake.vTarget * 1000 ∧
      !(closing n mv s).taps[n].stake.fromBypass then arrive n (closing n mv s) else closing n mv s := rfl

theorem closing_tap (n mv s) : (closing n mv s).taps[n] =
    { s.taps[n] with stake := s.taps[n].stake.closes s.taps[n].state mv } := by
  rw [closing, State.modStake_taps, if_pos rfl, onMates_taps, if_pos (mem_mates_self s n)]
  rfl

theorem closing_closes (n mv s) : Closes n mv s (closing n mv s) := by
  have tap := closing_tap n mv s
  refine ⟨by rw [tap]; rfl, by rw [tap]; rfl, by rw [tap]; rfl, fun m hm => ?_, fun r => ?_, ?_⟩
  · rw [closing, State.modStake_taps]
    split
    · rw [onMates_taps, if_pos (mem_mates_self s n)]
      exact ⟨rfl, rfl⟩
    · rw [onMates_taps, if_pos hm]
      exact ⟨rfl, rfl⟩
  · rw [closing, rodAt_modStake (by exact fun _ => rfl), rodAt_onMates (by exact fun _ => rfl)]
  · exact StakesOnly.trans (.onMates ..) (.modStake ..)

theorem closeSwitch_closes (n mv s) : Closes n mv s (closeSwitch n mv s) := by
  have closes := closing_closes n mv s
  rw [closeSwitch_eq]
  generalize closing n mv s = u at closes
  obtain ⟨start, vref, byp, switch, rods, only⟩ := closes
  split
  next h =>
    obtain ⟨hit, -⟩ := h
    have own : (arrive n u).taps[n].stake.start = u.taps[n].stake.start ∧
        (arrive n u).taps[n].stake.vref = u.taps[n].stake.vTarget * 1000 ∧
        (arrive n u).taps[n].stake.slotByp = u.taps[n].stake.slotByp := by
      rw [arrive, State.modTap_taps, if_pos rfl]
      exact ⟨rfl, rfl, rfl⟩
    obtain ⟨ostart, ovref, obyp⟩ := own
    refine ⟨ostart.trans start, (ovref.trans hit.symm).trans vref, obyp.trans byp, fun m hm => ?_,
      fun r => (arrive_rods n u r).trans (rods r), only.trans (arrive_only ..)⟩
    have kept : (arrive n u).taps[m].stake.conv = u.taps[m].stake.conv ∧ (arrive n u).taps[m].stake.sw = u.taps[m].stake.sw := by
      rw [arrive, State.modTap_taps]
      split
      next he => rw [he]; exact ⟨rfl, rfl⟩
      next => exact ⟨rfl, rfl⟩
    rw [kept.1, kept.2]
    exact switch m hm
  next => exact ⟨start, vref, byp, switch, rods, only⟩

/-! ### The rods that join -/

theorem activeRods_grow {n s t} (h : Joins n s t) : (activeRods s n).Sublist (activeRods t n) := by
  have same : pairRods t n = pairRods s n := by
    unfold pairRods
    rw [h.mates]
  unfold activeRods
  rw [same]
  exact List.monotone_filter_right _ fun r hr => (h.rods r).of_active hr

/-- The available rods of a stake or pair. -/
def availRods (s : State) (n : Fin 32) : List (Fin 32 × Fin 16) := (pairRods s n).filter fun r => (rodAt s r).avail

theorem availRods_joins {n s t} (h : Joins n s t) : availRods t n = availRods s n := by
  have same : pairRods t n = pairRods s n := by
    unfold pairRods
    rw [h.mates]
  unfold availRods
  rw [same]
  refine congrArg (List.filter · _) (funext fun r => ?_)
  rw [(h.rods r).kept]
  rfl

/-- With no rod to spare every available rod switches. -/
theorem availRods_active {s n} (h : spareRods s n = []) : (availRods s n).length ≤ (activeRods s n).length := by
  have both : availRods s n = (pairRods s n).filter fun r => (rodAt s r).avail && (rodAt s r).active := by
    refine List.filter_congr fun r hr => ?_
    cases ha : (rodAt s r).active with
    | true => rw [Bool.and_true]
    | false =>
      cases hv : (rodAt s r).avail with
      | false => rfl
      | true =>
        have spare : r ∈ spareRods s n := mem_spareRods.mpr ⟨mem_pairRods.mp hr, hv, ha⟩
        rw [h] at spare
        exact nomatch spare
  rw [both]
  exact (List.monotone_filter_right _ fun r hr => (Bool.and_eq_true _ _ ▸ hr : _ ∧ _).2).length_le

theorem joinOne_active {s n} (h : spareRods s n ≠ []) : (activeRods s n).length < (activeRods (joinOne n s) n).length := by
  obtain ⟨q, hq, mem, -⟩ := leastWorn_of_ne (s := s) h
  obtain ⟨hm, -, off⟩ := mem_spareRods.mp mem
  have joins := joinOne_joins n s
  have on : q ∈ activeRods (joinOne n s) n := by
    refine mem_activeRods.mpr ⟨by rw [joins.mates]; exact hm, ?_⟩
    rw [joinOne, hq]
    dsimp only
    rw [rodAt_modRod, if_pos rfl]
  have grow := activeRods_grow joins
  refine lt_of_le_of_ne grow.length_le fun he => ?_
  rw [← grow.eq_of_length he] at on
  exact absurd (mem_activeRods.mp on).2 (by rw [off]; exact Bool.false_ne_true)

theorem joinMany_active (n) : ∀ k s, min ((activeRods s n).length + k) (availRods s n).length ≤
    (activeRods (joinMany n k s) n).length
  | 0, s => Nat.min_le_left ..
  | k + 1, s => by
    by_cases h : spareRods s n = []
    · have grow := (activeRods_grow (joinMany_joins n (k + 1) s)).length_le
      have all := availRods_active h
      omega
    · have more := joinOne_active h
      have rest := joinMany_active n k (joinOne n s)
      rw [availRods_joins (joinOne_joins n s)] at rest
      rw [joinMany]
      omega

end Sys2Proof.Machine
end

/-! ## The pre-start test, failed attempts and the end of a ramp -/

section
open Sys2Proof.Claims

namespace Sys2Proof.Machine

/-! ### The test -/

theorem foldFin_id {α : Type} {k : Nat} {f : Fin k → α → α} {a : α} (h : ∀ i, f i a = a) : foldFin k f a = a := by
  unfold foldFin
  generalize indices k = l
  induction l with
  | nil => rfl
  | cons i l ih => rw [List.foldl_cons, h i]; exact ih

theorem fuseFailed_passes {v0 : Int} {l : List PreRod} (h : ∀ p : Fin 16, preFails v0 (l.getD p.val {}) = false)
    (n ok) (s : State) : fuseFailed n v0 l ok s = s := by
  refine foldFin_id fun p => ?_
  rw [h p]
  rfl

/-- The result of a stake's test is in (R82). -/
def tested (n : Fin 32) (v0 : Int) (s : State) : State := s.modStake n fun k => { k with testing := false, vNode := v0 }

/-- The other stake of a pair waits for its own result (R82). -/
def waitsOn (more : Bool) (n : Fin 32) (s : State) : State :=
  if more then (onMates n (fun k => { k with testing := true }) s).modStake n fun k => { k with testing := false } else s

/-- With the last result the start goes on (R82, R101). -/
def goesOn (more : Bool) (h : Fin 32) (s : State) : State :=
  if !more && decide (s.taps[h].stake.start = .pretest) then passPretest h s else s

theorem execPreStartResult_acts {n : Fin 32} {v0 : Int} {l s} (hp : s.powered = true) (hv : tapRated v0 = true)
    (ht : s.taps[n].stake.testing = true) (ok) : exec (.preStartResult n ⟨v0, l⟩ ok) s =
      .next (goesOn (testing (tested n v0 s) n) (headTap s n)
        (waitsOn (testing (tested n v0 s) n) n (fuseFailed n v0 l ok (tested n v0 s)))) := by
  show execPreStartResult n ⟨v0, l⟩ ok s = _
  unfold execPreStartResult
  rw [atVolt_rated hv, hp, ht]
  rfl

theorem preStart_passes {n v0 l s} (ha : Acts n s) (h : TestPasses n v0 l s) (ok) :
    exec (.preStartResult n ⟨v0, l⟩ ok) s = .next (passPretest n (tested n v0 s)) := by
  obtain ⟨hp, hg⟩ := ha
  obtain ⟨hv, hstart, htest, hmates, -, hpass⟩ := h
  have last : testing (tested n v0 s) n = false := by
    unfold testing
    rw [mates_congr (by exact modStake_cfg ..)]
    refine List.any_eq_false.mpr fun m hm => ?_
    rw [tested, State.modStake_taps]
    split
    · exact Bool.false_ne_true
    next hne =>
      rw [hmates m hm hne]
      exact Bool.false_ne_true
  have start : (tested n v0 s).taps[n].stake.start = .pretest := by
    rw [tested, State.modStake_taps, if_pos rfl]
    exact hstart
  rw [execPreStartResult_acts hp hv htest, last, headTap_self hg, fuseFailed_passes hpass]
  exact congrArg Host.Outcome.next (if_pos (decide_eq_true start))

theorem tested_only (n v0 s) : StakesOnly n s (tested n v0 s) := .modStake ..

theorem tested_tap (n v0) (s : State) : (tested n v0 s).taps[n] =
    { s.taps[n] with stake := { s.taps[n].stake with testing := false, vNode := v0 } } := by
  rw [tested, State.modStake_taps, if_pos rfl]

theorem reversed_tested (n v0 s) : reversed (tested n v0 s) n = reversed s n :=
  reversed_congr (modStake_cfg ..) fun _ => modStake_vPair ..

/-- The stake or pair with the rods its start asks for (R78, R101). -/
def joinedFor (n : Fin 32) (s : State) : State :=
  reactivate n (joinMany n (wanted s n (demand s n (loopAmps s.taps[n].stake.uV)))) s

theorem joinedFor_joins (n s) : Joins n s (joinedFor n s) := (joinMany_joins ..).trans (rephase_joins ..)

theorem joinedFor_active (n s) : min 2 (availRods s n).length ≤ (activeRods (joinedFor n s) n).length := by
  unfold joinedFor reactivate
  rw [rephase_activeRods]
  have two : 2 ≤ wanted s n (demand s n (loopAmps s.taps[n].stake.uV)) := Nat.le_max_left ..
  have join := joinMany_active n (wanted s n (demand s n (loopAmps s.taps[n].stake.uV))) s
  omega

theorem passPretest_refused {n s} (h : mayStart s = false) : passPretest n s = refuseStart n s := by
  unfold passPretest
  dsimp only
  rw [h]
  exact if_pos (by simp)

section
variable {n : Fin 32} {s : State} (hr : reversed s n = false) (hm : mayStart s = true)
include hr hm

theorem passPretest_allowed : passPretest n s = if s.taps[n].stake.fromBypass then closeSwitch n 0 (joinedFor n s)
    else if s.taps[n].vPair < 1000 then closeSwitch n (kelvin s.taps[n]) (joinedFor n s)
    else (onMates n (fun k => { k with conv := true }) (joinedFor n s)).modStake n fun k => { k with start := .prebias } := by
  unfold passPretest
  dsimp only
  rw [hr, hm]
  rfl

theorem passPretest_fromBypass (hf : s.taps[n].stake.fromBypass = true) : passPretest n s = closeSwitch n 0 (joinedFor n s) :=
  (passPretest_allowed hr hm).trans (if_pos hf)

theorem passPretest_closes (hf : s.taps[n].stake.fromBypass = false) (hv : s.taps[n].vPair < 1000) :
    passPretest n s = closeSwitch n (kelvin s.taps[n]) (joinedFor n s) :=
  ((passPretest_allowed hr hm).trans (if_neg (by rw [hf]; exact Bool.false_ne_true))).trans (if_pos hv)

theorem passPretest_prebiases (hf : s.taps[n].stake.fromBypass = false) (hv : 1000 ≤ s.taps[n].vPair) : passPretest n s =
    (onMates n (fun k => { k with conv := true }) (joinedFor n s)).modStake n fun k => { k with start := .prebias } :=
  ((passPretest_allowed hr hm).trans (if_neg (by rw [hf]; exact Bool.false_ne_true))).trans (if_neg (Int.not_lt.mpr hv))

end

/-! ### A failed attempt -/

/-- The tap after an attempt that failed and is not the third (R102, R104, R105). -/
def Tap.retries (was : Tap) (prebias : Bool) (t : Tap) : Tap :=
  { t with limit := 0, stake := { t.stake with
      attempts := was.stake.attempts + 1, caps := was.stake.caps ++ [(was.vKel, was.iStk, (was.stake.vref / 1000 : Int))]
      shortSeen := true, prebiasFail := t.stake.prebiasFail || prebias
      slotByp := t.stake.slotByp || decide (was.state = .standIn), handOff := was.stake.handOff
      start := if was.stake.attempts + 1 < 3 ∧ was.stake.handOff = .none then .hiccup else .off } }

/-- The stakes have halted after a failed attempt (R102). -/
def attemptFailed (n : Fin 32) (prebias : Bool) (s : State) : State :=
  (onMates n Stake.halt s).modTap n (Tap.retries s.taps[n] prebias)

theorem attemptFailed_tap (n prebias s) : (attemptFailed n prebias s).taps[n] =
    Tap.retries s.taps[n] prebias { s.taps[n] with stake := s.taps[n].stake.halt } := by
  rw [attemptFailed, State.modTap_taps, if_pos rfl, onMates_taps, if_pos (mem_mates_self s n)]

theorem attemptFailed_tapOp (n prebias s) : TapOp n s (attemptFailed n prebias s) := .trans (.onMates ..) .modTap

theorem attemptFailed_stopped (n prebias s) : Stopped n s (attemptFailed n prebias s) := fun m hm => by
  rw [attemptFailed, State.modTap_taps]
  split
  · rw [onMates_taps, if_pos (mem_mates_self s n)]
    exact ⟨rfl, rfl⟩
  · rw [onMates_taps, if_pos hm]
    exact ⟨rfl, rfl⟩

theorem attemptFailed_outside (n prebias s) : attemptFailed n prebias s = { s with taps := (attemptFailed n prebias s).taps } := by
  apply State.ext_parts <;> simp [attemptFailed]

theorem failAttempt_again {n prebias s} (h : s.taps[n].stake.attempts < 2)
    (hh : s.taps[n].stake.handOff = .none ∨ s.taps[n].stake.slotFb = false) :
    failAttempt n prebias s = attemptFailed n prebias s := by
  unfold failAttempt
  dsimp only
  rw [if_pos (by omega), if_neg]
  · rfl
  · rintro ⟨hn, hf⟩
    obtain hh | hh := hh
    · exact hn hh
    · rw [hh] at hf
      exact Bool.false_ne_true hf

theorem failAttempt_third {n prebias s} (h : 2 ≤ s.taps[n].stake.attempts) : failAttempt n prebias s =
    (tapFault n .faultShort 0 (attemptFailed n prebias s)).modTap n fun t =>
      { t with acted := 4, stake := { t.stake with attempts := 3 } } := by
  unfold failAttempt
  dsimp only
  rw [if_neg (by omega)]
  rfl

end Sys2Proof.Machine
end

/-! ## Rods that fail the pre-start test -/

section
open Sys2Proof.Claims

namespace Sys2Proof.Machine

/-- What a test has found at a stake: whether it failed, and the health of its rods with its cause (R82, R265). -/
def Tap.tests (t : Tap) : Bool × (Fin 16 → Bool × Nat) :=
  (t.stake.pretestFail, fun p => (t.stake.rods[p].healthy, t.stake.rods[p].cause))

theorem Kept.modStake {β : Type} {g : Tap → β} {n : Fin 32} {f : Stake → Stake} (h : ∀ t : Tap, g { t with stake := f t.stake } = g t)
    (s : State) : Kept g s (s.modStake n f) := .modTap h s

theorem halt_tests (t : Tap) : Tap.tests { t with stake := t.stake.halt } = t.tests := by
  refine Prod.ext rfl (funext fun p => ?_)
  show (t.stake.halt.rods[p].healthy, t.stake.halt.rods[p].cause) = _
  rw [halt_rods]
  rfl

theorem stopStake_tests (n s) : Kept Tap.tests s (stopStake n s) := ⟨fun m => by
  rw [stopStake_taps]
  split_ifs with h
  · rw [h]
    exact halt_tests _
  · exact halt_tests _
  · rfl⟩

theorem suspend_tests (n cause s) : Kept Tap.tests s (suspend n cause s) := by
  obtain ⟨u, hu, rfl⟩ := suspend_eq n cause s
  exact ((stopStake_tests n s).trans (.modTap (by exact fun _ => rfl) _)).trans (.of_reports hu)

theorem withdraw_tests (n s) : Kept Tap.tests s (withdraw n s) := by
  cases h : goneAll s n with
  | true =>
    rw [withdraw_gone h]
    exact .refl ..
  | false =>
    have mark : Kept Tap.tests s (marked (headTap s n) s) := .onMates (by exact fun _ => rfl) s
    refine .trans (mark.trans ?_) (.of_taps (withdraw_taps h))
    split
    · exact suspend_tests ..
    · exact stopStake_tests ..

theorem Joins.tests {n s t} (h : Joins n s t) : Kept Tap.tests s t := ⟨fun m => by
  refine Prod.ext (congrArg (·.stake.pretestFail) (h.stake m)) (funext fun p => ?_)
  have rod := (h.rods (m, p)).kept
  show ((rodAt t (m, p)).healthy, (rodAt t (m, p)).cause) = _
  rw [rod]
  rfl⟩

theorem closeSwitch_tests (n mv s) : Kept Tap.tests s (closeSwitch n mv s) := by
  have closing : Kept Tap.tests s (closing n mv s) := by
    unfold closing
    exact .trans (.onMates (by exact fun _ => rfl) s) (.modStake (by exact fun _ => rfl) _)
  have arrived : Kept Tap.tests (Machine.closing n mv s) (arrive n (Machine.closing n mv s)) := by
    unfold arrive
    exact .modTap (by exact fun _ => rfl) _
  rw [closeSwitch_eq]
  exact .ite (closing.trans arrived) closing

theorem passPretest_tests (n s) : Kept Tap.tests s (passPretest n s) := by
  have refused : Kept Tap.tests s (refuseStart n s) := by
    unfold refuseStart
    exact .modStake (by exact fun _ => rfl) s
  cases hm : mayStart s with
  | false =>
    rw [passPretest_refused hm]
    exact refused
  | true =>
    cases hr : reversed s n with
    | true =>
      have stays : passPretest n s = refuseStart n s := by
        unfold passPretest
        dsimp only
        rw [hr]
        rfl
      rw [stays]
      exact refused
    | false =>
      have joined := (joinedFor_joins n s).tests
      rw [passPretest_allowed hr hm]
      exact .ite (joined.trans (closeSwitch_tests ..)) (.ite (joined.trans (closeSwitch_tests ..))
        (joined.trans (.trans (.onMates (by exact fun _ => rfl) _) (.modStake (by exact fun _ => rfl) _))))

theorem goesOn_tests (more n s) : Kept Tap.tests s (goesOn more n s) := .ite (passPretest_tests ..) (.refl ..)

theorem waitsOn_tests (more n s) : Kept Tap.tests s (waitsOn more n s) := by
  unfold waitsOn
  exact .ite (.trans (.onMates (by exact fun _ => rfl) s) (.modStake (by exact fun _ => rfl) _)) (.refl ..)

/-- A fuse-out fails its rod and no other (R87). -/
theorem fuseRod_tests (n : Fin 32) (p : Fin 16) (cause : Nat) (s : State) :
    (fuseRod n p cause true s).taps[n].tests = (s.taps[n].stake.pretestFail, fun q =>
      if q = p then (false, cause) else (s.taps[n].stake.rods[q].healthy, s.taps[n].stake.rods[q].cause)) := by
  have noted : (fuseNoted n p cause true s).taps[n].tests = (s.taps[n].stake.pretestFail, fun q =>
      if q = p then (false, cause) else (s.taps[n].stake.rods[q].healthy, s.taps[n].stake.rods[q].cause)) := by
    refine Prod.ext (congrArg (·.stake.pretestFail) ((fuseNoted_shows n p cause true s).taps n)) (funext fun q => ?_)
    have rod : rodAt (fuseNoted n p cause true s) (n, q) = rodAt (saveTimes (modRod (n, p) (fun r =>
        { r with active := false, duty := 0, healthy := false, rest := .none, susp := false, overTemp := false
                 cause := cause }) s)) (n, q) := rodAt_taps (by simp [fuseNoted]) _
    show ((rodAt (fuseNoted n p cause true s) (n, q)).healthy, (rodAt (fuseNoted n p cause true s) (n, q)).cause) = _
    rw [rod, rodAt_saveTimes, rodAt_modRod]
    dsimp only
    by_cases h : q = p
    · subst h
      rw [if_pos rfl, if_pos rfl]
    · rw [if_neg (by simp [h]), if_neg h]
      rfl
  rw [← noted, fuseRod_eq]
  split
  · exact (withdraw_tests ..).same n
  · exact (Joins.tests ((replaceRod_joins ..).trans (rephase_joins ..))).same n

/-- Position `p` of a test: a healthy rod that fails it is fused out (R82). -/
def judge (n : Fin 32) (v0 : Int) (l : List PreRod) (p : Fin 16) (s : State) : State :=
  if preFails v0 (l.getD p.val {}) && (rodAt s (n, p)).healthy then
    fuseRod n p 1 true (s.modStake n fun k => { k with pretestFail := true }) else s

/-- What a test makes of a stake, position by position (R82, R87). -/
def proved (v0 : Int) (l : List PreRod) (p : Fin 16) (x : Bool × (Fin 16 → Bool × Nat)) : Bool × (Fin 16 → Bool × Nat) :=
  if preFails v0 (l.getD p.val {}) && (x.2 p).1 then (true, fun q => if q = p then (false, 1) else x.2 q) else x

theorem judge_tests (n v0 l p s) : (judge n v0 l p s).taps[n].tests = proved v0 l p s.taps[n].tests := by
  unfold judge proved
  show _ = if (preFails v0 (l.getD p.val {}) && (rodAt s (n, p)).healthy) = true then _ else _
  split
  · rw [fuseRod_tests, State.modStake_taps, if_pos rfl]
    rfl
  · rfl

/-- A test leaves the rods that pass it, and fails each healthy one that does not. -/
theorem judgeAll_tests (v0 : Int) (l : List PreRod) : ∀ (ps : List (Fin 16)) (x : Bool × (Fin 16 → Bool × Nat)),
    (∀ q, preFails v0 (l.getD q.val {}) = false → (ps.foldl (fun x p => proved v0 l p x) x).2 q = x.2 q) ∧
    (x.1 = true → (ps.foldl (fun x p => proved v0 l p x) x).1 = true) ∧
    (∀ q, x.2 q = (false, 1) → (ps.foldl (fun x p => proved v0 l p x) x).2 q = (false, 1)) ∧
    (∀ q ∈ ps, preFails v0 (l.getD q.val {}) = true → (x.2 q).1 = true →
      (ps.foldl (fun x p => proved v0 l p x) x).1 = true ∧ (ps.foldl (fun x p => proved v0 l p x) x).2 q = (false, 1))
  | [], x => ⟨fun _ _ => rfl, id, fun _ h => h, nofun⟩
  | p :: ps, x => by
    obtain ⟨passed, noted, failed, fails⟩ := judgeAll_tests v0 l ps (proved v0 l p x)
    have keeps (q) (h : preFails v0 (l.getD q.val {}) = false) : (proved v0 l p x).2 q = x.2 q := by
      unfold proved
      split
      next hp =>
        refine if_neg ?_
        rintro rfl
        rw [h] at hp
        exact Bool.false_ne_true hp
      next => rfl
    have notes (h : x.1 = true) : (proved v0 l p x).1 = true := by
      unfold proved
      split
      · rfl
      · exact h
    have stays (q) (h : x.2 q = (false, 1)) : (proved v0 l p x).2 q = (false, 1) := by
      unfold proved
      split
      · dsimp only
        split
        · rfl
        · exact h
      · exact h
    refine ⟨fun q h => (passed q h).trans (keeps q h), fun h => noted (notes h), fun q h => failed q (stays q h), ?_⟩
    intro q hq hf hh
    by_cases he : q = p
    · subst he
      have hit : proved v0 l q x = (true, fun i => if i = q then (false, 1) else x.2 i) :=
        if_pos (by rw [hf, hh]; rfl)
      exact ⟨noted (by rw [hit]), failed q (by rw [hit]; exact if_pos rfl)⟩
    · have same : ((proved v0 l p x).2 q).1 = true := by
        unfold proved
        split
        · dsimp only
          rw [if_neg he]
          exact hh
        · exact hh
      exact fails q ((List.mem_cons.mp hq).resolve_left he) hf same

theorem fuseFailed_tests (n v0 l) (s : State) : (fuseFailed n v0 l true s).taps[n].tests =
    (indices 16).foldl (fun x p => proved v0 l p x) s.taps[n].tests := by
  have fold : ∀ (ps : List (Fin 16)) (s : State), (ps.foldl (fun s p => judge n v0 l p s) s).taps[n].tests =
      ps.foldl (fun x p => proved v0 l p x) s.taps[n].tests := by
    intro ps
    induction ps with
    | nil => exact fun _ => rfl
    | cons p ps ih => exact fun s => (ih _).trans (by rw [judge_tests, List.foldl_cons])
  exact fold (indices 16) s

end Sys2Proof.Machine
end

/-! ## Stakes start by their sequence -/

section
open Sys2Proof.Claims

namespace Sys2Proof.Machine

theorem unsensed_of_only {n s t} (h : StakesOnly n s t) : Unsensed s.taps[n] t.taps[n] := .of_stake (h.2.2 n)

/-- A ramp that arrives (R97, R101). -/
theorem arrive_shows (n s) : (arrive n s).taps[n].stake.vref = s.taps[n].stake.vTarget * 1000 ∧
    (arrive n s).taps[n].stake.softStart = false ∧ (arrive n s).taps[n].stake.slewing = false ∧
    (s.taps[n].stake.softStart = true → (arrive n s).taps[n].stake.attempts = 0) := by
  rw [arrive, State.modTap_taps, if_pos rfl]
  exact ⟨rfl, rfl, rfl, fun h => if_pos h⟩

theorem arrive_but (n s) : TapsBut n s (arrive n s) := TapsBut.modTap _ _ _

theorem execSoftStartComplete_acts {n : Fin 32} {s : State} (ha : Acts n s) (h : (s.taps[n].stake.conv && s.taps[n].stake.sw &&
    s.taps[n].stake.softStart && !s.taps[n].stake.fromBypass && !refPaused s s.taps[n] &&
    nearTarget s.taps[n].cfg.softRate s.taps[n].stake) = true) : exec (.softStartComplete n) s = .next (arrive n s) :=
  tapHw_rests ha (if_pos h) (unsensed_of_only (arrive_only n s))

theorem execSlewComplete_acts {n : Fin 32} {s : State} (ha : Acts n s) (h : (s.taps[n].stake.conv && s.taps[n].stake.sw &&
    !s.taps[n].stake.softStart && !s.taps[n].stake.fromBypass && s.taps[n].stake.slewing &&
    nearTarget s.taps[n].cfg.slewRate s.taps[n].stake) = true) : exec (.slewComplete n) s = .next (arrive n s) :=
  tapHw_rests ha (if_pos h) (unsensed_of_only (arrive_only n s))

theorem fresh_rating (n : Fin 32) (s : State) : rating (s.modStake n Stake.fresh) n = rating s n :=
  rating_of_able (.modStake (by exact fun _ => rfl) s)

theorem fresh_gangOk (n m i : Fin 32) (s : State) : gangOk (s.modStake n Stake.fresh) m i = gangOk s m i := by
  unfold gangOk
  rw [modStake_vPair, modStake_vPair, modStake_vKel]

theorem fresh_reversed (n : Fin 32) (s : State) : reversed (s.modStake n Stake.fresh) n = reversed s n :=
  reversed_congr (modStake_cfg ..) fun _ => modStake_vPair ..

/-- A start that is due requests its start with a fresh attempt count (R101). -/
theorem stakeStart_acts {n s t} (ha : Acts n s) (hd : startDue s n = true)
    (ht : requestStart n (s.modStake n Stake.fresh) = t) (op : TapOp n (s.modStake n Stake.fresh) t) :
    ∃ u, exec (.stakeStart n) s = .next u ∧ u.taps = t.taps ∧ TapFrame n s u := by
  obtain ⟨taps, -, -, frame⟩ := waking_woken (f := fun s => if startDue s n then requestStart n (s.modStake n Stake.fresh) else s)
    ((if_pos hd).trans ht) (TapOp.trans (.modStake ..) op)
  exact ⟨_, tapHw_acts ha, taps, frame⟩

theorem Tap.faulted_start (st cause) (t : Tap) : (t.faulted st cause).stake.start = .off := by
  unfold Tap.faulted
  dsimp only
  split <;> rfl

theorem stopped_of_taps {n s t u} (h : Stopped n s t) (ht : u.taps = t.taps) : Stopped n s u := h.of_switches (.of_taps ht)

/-- No power pair has turned where the test passes (R61). -/
theorem untwisted {n v0 l s} (h : TestPasses n v0 l s) : reversed s n = false := by
  obtain ⟨-, -, -, -, straight, -⟩ := h
  exact straight

theorem kelvin_stake (t : Tap) (k : Stake) : kelvin { t with stake := k } = kelvin t := rfl

/-- The rods that join for the start change the stakes only (R78, R101). -/
theorem joinedFor_only (n v0 s) : StakesOnly n s (joinedFor n (tested n v0 s)) :=
  (tested_only n v0 s).trans (joinedFor_joins ..).only

theorem tested_switches (n v0 s) : SwitchesKept s (tested n v0 s) := by
  unfold tested State.modStake
  exact .modTap (by exact fun _ => ⟨rfl, rfl⟩) s

theorem joinedFor_switches (n v0 s) : SwitchesKept s (joinedFor n (tested n v0 s)) :=
  (tested_switches n v0 s).trans fun m => by
    rw [(joinedFor_joins n (tested n v0 s)).stake m]
    exact ⟨rfl, rfl⟩

theorem mates_of_only {n s t} (h : StakesOnly n s t) : mates t n = mates s n := mates_congr (h.cfg n)

/-- The rods that switch after a start that has passed its test (R78, R101). -/
theorem passed_active {n v0 s mv t} (h : Closes n mv (joinedFor n (tested n v0 s)) t) :
    min 2 ((pairRods s n).filter fun r => (rodAt s r).avail).length ≤ (activeRods t n).length := by
  have rods := joinedFor_active n (tested n v0 s)
  have before : availRods (tested n v0 s) n = (pairRods s n).filter fun r => (rodAt s r).avail := by
    unfold availRods pairRods
    rw [mates_of_only (tested_only n v0 s)]
    exact congrArg (List.filter · _) (funext fun r => congrArg Rod.avail (rodAt_modStake (by exact fun _ => rfl) s r))
  have after : activeRods t n = activeRods (joinedFor n (tested n v0 s)) n :=
    activeRods_congr (mates_of_only h.only) fun r => by rw [h.rods]
  rwa [before, ← after] at rods

/-- An attempt of a start that fails, but for the third, stops the stake (R102, R104). -/
structure Retries (n : Fin 32) (prebias : Bool) (s t : State) : Prop where
  tap : t.taps[n] = Tap.retries s.taps[n] prebias { s.taps[n] with stake := s.taps[n].stake.halt }
  stopped : Stopped n s t
  others : TapsButMates n s t
  outside : t = { s with taps := t.taps }

theorem attemptFailed_retries (n prebias s) : Retries n prebias s (attemptFailed n prebias s) :=
  ⟨attemptFailed_tap .., attemptFailed_stopped n prebias s, (attemptFailed_tapOp ..).frame.1, attemptFailed_outside ..⟩

theorem prebiasFail_acts {n s} (ha : Acts n s) (hst : s.taps[n].stake.start = .prebias) (h : s.taps[n].stake.attempts < 2)
    (hh : s.taps[n].stake.handOff = .none ∨ s.taps[n].stake.slotFb = false) :
    exec (.prebiasFail n) s = .next (attemptFailed n true s) := by
  refine tapHw_rests ha ((if_pos hst).trans (failAttempt_again h hh)) ?_
  rw [attemptFailed_tap]
  exact ⟨rfl, rfl, rfl, rfl, rfl, rfl⟩

/-- The Kelvin voltage of a short check (R104). -/
def readKelvin (n : Fin 32) (v : Int) (s : State) : State := s.modTap n fun t => { t with vKel := v }

theorem readKelvin_tap (n v) (s : State) : (readKelvin n v s).taps[n] = { s.taps[n] with vKel := v } := by
  rw [readKelvin, State.modTap_taps, if_pos rfl]

theorem shortCheckFail_acts {n s} {v : Int} (ha : Acts n s) (hv : tapRated v = true) (ho : checkOpen s s.taps[n] = true)
    (hlow : 4 * v ≤ (s.taps[n].stake.vTarget : Int)) (h : s.taps[n].stake.attempts < 2)
    (hh : s.taps[n].stake.handOff = .none ∨ s.taps[n].stake.slotFb = false) :
    exec (.shortCheckFail n v) s = .next (attemptFailed n false (readKelvin n v s)) := by
  show execShortCheckFail n v s = _
  unfold execShortCheckFail
  rw [atVolt_rated hv]
  have open' : (checkOpen s s.taps[n] && decide (v * 4 ≤ s.taps[n].stake.vTarget)) = true := by
    rw [ho, decide_eq_true (by omega)]
    rfl
  have again : failAttempt n false (readKelvin n v s) = attemptFailed n false (readKelvin n v s) :=
    failAttempt_again (by rw [readKelvin_tap]; exact h) (by rw [readKelvin_tap]; exact hh)
  refine tapHw_rests ha ((if_pos open').trans again) ?_
  rw [attemptFailed_tap, readKelvin_tap]
  exact ⟨rfl, rfl, rfl, rfl, rfl, rfl⟩

theorem shortCheckFail_retries (n : Fin 32) (v : Int) (s : State) : let t := attemptFailed n false (readKelvin n v s)
    t.taps[n] = Tap.retries { s.taps[n] with vKel := v } false { s.taps[n] with vKel := v, stake := s.taps[n].stake.halt } ∧
    Stopped n s t ∧ TapsButMates n s t ∧ t = { s with taps := t.taps } := by
  have read : TapOp n s (readKelvin n v s) := .modTap
  obtain ⟨tap, stopped, -, outside⟩ := attemptFailed_retries n false (readKelvin n v s)
  refine ⟨?_, stopped.after read.mates, (read.trans (attemptFailed_tapOp ..)).frame.1, ?_⟩
  · rw [tap, readKelvin_tap]
  · rw [outside]
    rfl

section
variable {n : Fin 32} {s : State}

/-- A start request begins with the test (R61, R101). -/
theorem startDue_tests (ha : Acts n s) (hd : startDue s n = true) (hr : reversed s n = false)
    (hg : s.taps[n].cfg.gang = true → gangOk s n (partner n) = true) (hrate : (rating s n).1 ≠ 0) : ∃ t, exec (.stakeStart n) s = .next t ∧
    t.taps[n].stake.start = .pretest ∧ t.taps[n].stake.softStart = true ∧ t.taps[n].stake.attempts = 0 ∧
    t.taps[n].stake.conv = false ∧ t.taps[n].stake.sw = s.taps[n].stake.sw ∧ t.taps[n].state = s.taps[n].state ∧
    (∀ m ∈ mates s n, t.taps[m].stake.testing = true) ∧ TapFrame n s t := by
  obtain ⟨hm, hconv, hoff⟩ := startDue_stopped hd
  have cfg : (s.modStake n Stake.fresh).taps[n].cfg = s.taps[n].cfg := modStake_cfg ..
  have begins := requestStart_begins (s := s.modStake n Stake.fresh) (by rw [fresh_reversed, hr]) hm
    (fun h => by rw [fresh_gangOk]; exact hg (by rw [← h, cfg])) (by rwa [fresh_rating])
  obtain ⟨t, run, taps, frame⟩ := stakeStart_acts ha hd rfl begins.op
  have tap := begins.tap
  rw [fresh_tap] at tap
  refine ⟨t, run, ?_, ?_, ?_, ?_, ?_, ?_, fun m hm' => ?_, frame⟩
  · rw [taps, tap]; rfl
  · rw [taps, tap]; rfl
  · rw [taps, tap]; rfl
  · rw [taps, tap]; exact hconv
  · rw [taps, tap]; rfl
  · rw [taps, tap]; rfl
  · rw [taps]
    exact begins.test m (by rw [mates_congr cfg]; exact hm')

/-- A reversed power pair refuses the start (R61). -/
theorem startDue_reversed (ha : Acts n s) (hd : startDue s n = true) (hr : reversed s n = true) : ∃ t, exec (.stakeStart n) s = .next t ∧
    t.taps[n].stake.start = .off ∧ t.taps[n].stake.conv = false ∧ t.taps[n].state = s.taps[n].state ∧
    TapsBut n s t ∧ t = { s with taps := t.taps } := by
  obtain ⟨-, hconv, -⟩ := startDue_stopped hd
  have refused : requestStart n (s.modStake n Stake.fresh) = (s.modStake n Stake.fresh).modTap n Tap.refuses :=
    requestStart_reversed (by rw [fresh_reversed, hr])
  have only : StakesOnly n s ((s.modStake n Stake.fresh).modTap n Tap.refuses) :=
    StakesOnly.trans (.modStake ..) (.modTap fun _ => rfl)
  have tap : ((s.modStake n Stake.fresh).modTap n Tap.refuses).taps[n] =
      Tap.refuses { s.taps[n] with stake := s.taps[n].stake.fresh } := by rw [State.modTap_taps, if_pos rfl, fresh_tap]
  have run : exec (.stakeStart n) s = _ := tapHw_rests ha ((if_pos hd).trans refused) (unsensed_of_only only)
  refine ⟨_, run, by rw [tap]; rfl, by rw [tap]; exact hconv, by rw [tap]; rfl,
    TapsBut.trans (.modTap _ _ _) (.modTap _ _ _), only.2.1⟩

/-- Voltages of a pair that disagree suspend it (R64). -/
theorem startDue_unpaired (ha : Acts n s) (hd : startDue s n = true) (hr : reversed s n = false)
    (hg : s.taps[n].cfg.gang = true) (hok : gangOk s n (partner n) = false) : ∃ t, exec (.stakeStart n) s = .next t ∧
    t.taps[n].state = .suspended ∧ t.taps[n].cause = 5 ∧ Stopped n s t ∧ TapFrame n s t := by
  obtain ⟨hm, -, -⟩ := startDue_stopped hd
  have cfg : (s.modStake n Stake.fresh).taps[n].cfg = s.taps[n].cfg := modStake_cfg ..
  have ended := requestStart_unpaired (s := s.modStake n Stake.fresh) (by rw [fresh_reversed, hr]) hm (by rw [cfg, hg])
    (by rw [fresh_gangOk, hok])
  obtain ⟨t, run, taps, frame⟩ := stakeStart_acts ha hd ended ((suspend_tapOp ..).trans (.alert ..))
  have suspended : t.taps = (suspend n 5 (s.modStake n Stake.fresh)).taps := taps.trans (by rw [alert_shape])
  obtain ⟨⟨state, -⟩, cause, stopped, -⟩ := suspend_suspends n 5 (s.modStake n Stake.fresh)
  exact ⟨t, run, by rw [suspended]; exact state, by rw [suspended]; exact cause,
    stopped_of_taps (stopped.after (mates_congr cfg)) suspended, frame⟩

/-- A stake without a rating is suspended (R88). -/
theorem startDue_unrated (ha : Acts n s) (hd : startDue s n = true) (hr : reversed s n = false)
    (hg : s.taps[n].cfg.gang = false) (h0 : (rating s n).1 = 0) : ∃ t, exec (.stakeStart n) s = .next t ∧
    t.taps[n].state = .suspended ∧ t.taps[n].cause = 6 ∧ Stopped n s t ∧ TapFrame n s t := by
  obtain ⟨hm, -, -⟩ := startDue_stopped hd
  have cfg : (s.modStake n Stake.fresh).taps[n].cfg = s.taps[n].cfg := modStake_cfg ..
  have ended := requestStart_unrated (s := s.modStake n Stake.fresh) (by rw [fresh_reversed, hr]) hm (by rw [cfg, hg])
    (by rw [fresh_rating, h0])
  have mark : TapOp n (s.modStake n Stake.fresh) (marked n (s.modStake n Stake.fresh)) := marked_tapOp ..
  obtain ⟨t, run, taps, frame⟩ := stakeStart_acts ha hd ended
    (.withFlt (TapOp.trans (.onMates ..) (suspend_tapOp ..)))
  have suspended : t.taps = (suspend n 6 (marked n (s.modStake n Stake.fresh))).taps := taps.trans (by rw [withFlt_outside]; rfl)
  obtain ⟨⟨state, -⟩, cause, stopped, -⟩ := suspend_suspends n 6 (marked n (s.modStake n Stake.fresh))
  exact ⟨t, run, by rw [suspended]; exact state, by rw [suspended]; exact cause,
    stopped_of_taps (stopped.after (mark.mates.trans (mates_congr cfg))) suspended, frame⟩

/-- Below 1 V at the power pair the switch closes with the test passed (R101). -/
theorem test_closes {v0 : Int} {l : List PreRod} (ha : Acts n s) (ht : TestPasses n v0 l s) (hm : mayStart s = true)
    (hfrom : s.taps[n].stake.fromBypass = false) (hv : s.taps[n].vPair < 1000) (ok) : ∃ t,
    exec (.preStartResult n ⟨v0, l⟩ ok) s = .next t ∧ t.taps[n].stake.start = .running ∧
    (∀ m ∈ mates s n, t.taps[m].stake.conv = true ∧ t.taps[m].stake.sw = true) ∧
    t.taps[n].stake.vref = min 96000 (kelvin s.taps[n]).toNat * 1000 ∧
    min 2 ((pairRods s n).filter fun r => (rodAt s r).avail).length ≤ (activeRods t n).length ∧ StakesOnly n s t := by
  have run := preStart_passes ha ht ok
  have tap := tested_tap n v0 s
  have same : kelvin (tested n v0 s).taps[n] = kelvin s.taps[n] := by rw [tap, kelvin_stake]
  rw [passPretest_closes ((reversed_tested ..).trans (untwisted ht)) hm (by rw [tap]; exact hfrom) (by rw [tap]; exact hv), same] at run
  have closes := closeSwitch_closes n (kelvin s.taps[n]) (joinedFor n (tested n v0 s))
  have active := passed_active closes
  have joined := joinedFor_only n v0 s
  generalize joinedFor n (tested n v0 s) = j at *
  generalize closeSwitch n (kelvin s.taps[n]) j = u at *
  obtain ⟨start, vref, -, switch, -, only⟩ := closes
  exact ⟨_, run, start, fun m hm' => switch m (by rw [mates_of_only joined]; exact hm'), vref, active, joined.trans only⟩

/-- From 1 V at the power pair pre-bias begins (R101). -/
theorem test_prebiases {v0 : Int} {l : List PreRod} (ha : Acts n s) (ht : TestPasses n v0 l s) (hm : mayStart s = true)
    (hfrom : s.taps[n].stake.fromBypass = false) (hv : 1000 ≤ s.taps[n].vPair) (ok) : ∃ t,
    exec (.preStartResult n ⟨v0, l⟩ ok) s = .next t ∧ t.taps[n].stake.start = .prebias ∧
    (∀ m ∈ mates s n, t.taps[m].stake.conv = true ∧ t.taps[m].stake.sw = s.taps[m].stake.sw) ∧ StakesOnly n s t := by
  have run := preStart_passes ha ht ok
  have tap := tested_tap n v0 s
  rw [passPretest_prebiases ((reversed_tested ..).trans (untwisted ht)) hm (by rw [tap]; exact hfrom) (by rw [tap]; exact hv)] at run
  have only := joinedFor_only n v0 s
  have mates := mates_of_only only
  have kept := joinedFor_switches n v0 s
  generalize joinedFor n (tested n v0 s) = j at *
  refine ⟨_, run, ?_, fun m hm' => ?_, only.trans (.trans (.onMates ..) (.modStake ..))⟩
  · rw [State.modStake_taps, if_pos rfl]
  · have conv : (onMates n (fun k => { k with conv := true }) j).taps[m].stake.conv = true ∧
        (onMates n (fun k => { k with conv := true }) j).taps[m].stake.sw = s.taps[m].stake.sw := by
      rw [onMates_taps, if_pos (by rw [mates]; exact hm')]
      exact ⟨rfl, (kept m).2⟩
    generalize onMates n (fun k => { k with conv := true }) j = u at *
    rw [State.modStake_taps]
    split
    next h => subst h; exact conv
    next => exact conv

/-- From the bypass the switch closes at 0 V (R109). -/
theorem test_fromBypass {v0 : Int} {l : List PreRod} (ha : Acts n s) (ht : TestPasses n v0 l s) (hm : mayStart s = true)
    (hfrom : s.taps[n].stake.fromBypass = true) (hst : s.taps[n].state = .standIn) (ok) : ∃ t,
    exec (.preStartResult n ⟨v0, l⟩ ok) s = .next t ∧ t.taps[n].stake.vref = 0 ∧ t.taps[n].stake.sw = true ∧
    t.taps[n].stake.slotByp = false ∧ StakesOnly n s t := by
  have run := preStart_passes ha ht ok
  rw [passPretest_fromBypass ((reversed_tested ..).trans (untwisted ht)) hm (by rw [tested_tap]; exact hfrom)] at run
  have only := joinedFor_only n v0 s
  have closes := closeSwitch_closes n 0 (joinedFor n (tested n v0 s))
  have state : (joinedFor n (tested n v0 s)).taps[n].state = .standIn := by rw [only.2.2 n]; exact hst
  generalize joinedFor n (tested n v0 s) = j at *
  generalize closeSwitch n 0 j = u at *
  obtain ⟨-, vref, byp, switch, -, closed⟩ := closes
  refine ⟨_, run, vref.trans (by simp), (switch n (mem_mates_self ..)).2, ?_, only.trans closed⟩
  rw [byp, state, decide_eq_true rfl]
  exact Bool.and_false _

/-- A start the module no longer allows ends with its test (R363). -/
theorem test_refused {v0 : Int} {l : List PreRod} (ha : Acts n s) (ht : TestPasses n v0 l s) (hm : mayStart s = false) (ok) : ∃ t,
    exec (.preStartResult n ⟨v0, l⟩ ok) s = .next t ∧ t.taps[n].stake.start = .off ∧
    (∀ m ∈ mates s n, t.taps[m].stake.conv = s.taps[m].stake.conv ∧ t.taps[m].stake.sw = s.taps[m].stake.sw) ∧
    StakesOnly n s t := by
  have run := preStart_passes ha ht ok
  rw [passPretest_refused (by exact hm)] at run
  have only : StakesOnly n s (refuseStart n (tested n v0 s)) := (tested_only n v0 s).trans (.modStake ..)
  refine ⟨_, run, ?_, fun m hm' => ?_, only⟩
  · rw [refuseStart, State.modStake_taps, if_pos rfl]
  · have kept : SwitchesKept s (refuseStart n (tested n v0 s)) := by
      unfold refuseStart State.modStake
      exact (tested_switches n v0 s).trans (.modTap (by exact fun _ => ⟨rfl, rfl⟩) _)
    exact kept m

/-- A rod that fails the test is fused out (R82, R83). -/
theorem test_fuses {m : Fin 32} {v0 : Int} {l : List PreRod} {p : Fin 16} (ha : Acts n s) (hv : tapRated v0 = true)
    (ht : s.taps[m].stake.testing = true) (hf : preFails v0 (l.getD p.val {}) = true) (hh : s.taps[m].stake.rods[p].healthy = true) : ∃ t,
    exec (.preStartResult m ⟨v0, l⟩ true) s = .next t ∧ t.taps[m].stake.rods[p].healthy = false ∧
    t.taps[m].stake.rods[p].cause = 1 ∧ t.taps[m].stake.pretestFail = true ∧
    ∀ q : Fin 16, preFails v0 (l.getD q.val {}) = false → t.taps[m].stake.rods[q].healthy = s.taps[m].stake.rods[q].healthy := by
  have run := execPreStartResult_acts (l := l) ha.1 hv ht true
  have tests := ((goesOn_tests (testing (tested m v0 s) m) (headTap s m) _).same m).trans (((waitsOn_tests (testing (tested m v0 s) m) m _).same m).trans
    (fuseFailed_tests m v0 l (tested m v0 s)))
  rw [tested_tap] at tests
  obtain ⟨passed, -, -, fails⟩ := judgeAll_tests v0 l (indices 16) s.taps[m].tests
  obtain ⟨noted, failed⟩ := fails p (mem_indices p) hf hh
  have after := tests.trans (show _ = (indices 16).foldl (fun x p => proved v0 l p x) s.taps[m].tests from rfl)
  have rod (q : Fin 16) := congrFun (congrArg Prod.snd after) q
  exact ⟨_, run, congrArg Prod.fst ((rod p).trans failed), congrArg Prod.snd ((rod p).trans failed),
    (congrArg Prod.fst after).trans noted, fun q hq => congrArg Prod.fst ((rod q).trans (passed q hq))⟩

/-- Pre-bias closes the switch (R101). -/
theorem preBias_closes {v : Int} (ha : Acts n s) (hv : tapRated v = true) (hst : s.taps[n].stake.start = .prebias)
    (hlo : s.taps[n].vPair - 500 ≤ v) (hhi : v ≤ s.taps[n].vPair) (hr : reversed s n = false) (hm : mayStart s = true) : ∃ t,
    exec (.preBiasComplete n v) s = .next t ∧ t.taps[n].stake.start = .running ∧
    (∀ m ∈ mates s n, t.taps[m].stake.conv = true ∧ t.taps[m].stake.sw = true) ∧
    t.taps[n].stake.vref = min 96000 (kelvin s.taps[n]).toNat * 1000 ∧ StakesOnly n s t := by
  have read : StakesOnly n s (s.modStake n fun k => { k with vNode := v }) := .modStake ..
  have closes := closeSwitch_closes n (kelvin s.taps[n]) (s.modStake n fun k => { k with vNode := v })
  obtain ⟨start, vref, -, switch, -, only⟩ := closes
  have run : exec (.preBiasComplete n v) s =
      .next (closeSwitch n (kelvin s.taps[n]) (s.modStake n fun k => { k with vNode := v })) := by
    show execPreBiasComplete n v s = _
    unfold execPreBiasComplete
    rw [atVolt_rated hv]
    refine tapHw_rests ha (if_pos ?_) (unsensed_of_only (read.trans only))
    rw [decide_eq_true ⟨hst, hlo, hhi⟩, hr, hm]
    rfl
  exact ⟨_, run, start, fun m hm' => switch m (by rw [mates_of_only read]; exact hm'), vref, read.trans only⟩

/-- The third attempt in a row that fails leads to FAULT-SHORT (R104). -/
theorem prebiasFail_third (ha : Acts n s) (hst : s.taps[n].stake.start = .prebias) (hat : 2 ≤ s.taps[n].stake.attempts) : ∃ t,
    exec (.prebiasFail n) s = .next t ∧ t.taps[n].state = .faultShort ∧ t.taps[n].stake.start = .off ∧
    (t.bbx.queue.getLast?.map (·.type)) = some 0x08 ∧ Stopped n s t ∧ TapFrame n s t := by
  have third := failAttempt_third (prebias := true) hat
  have op : TapOp n s _ := ((attemptFailed_tapOp n true s).trans (tapFault_tapOp n .faultShort 0 _)).trans
    (.modTap (f := fun t => { t with acted := 4, stake := { t.stake with attempts := 3 } }))
  obtain ⟨taps, bbx, -, frame⟩ := waking_woken (f := fun s => if s.taps[n].stake.start = .prebias then failAttempt n true s else s)
    ((if_pos hst).trans third) op
  have stopped := (tapFault_stopped n .faultShort 0 (attemptFailed n true s)).after (attemptFailed_tapOp n true s).mates
  have last := (tapFault_reports n .faultShort 0 (attemptFailed n true s)).1
  have tap := tapFault_tap n .faultShort 0 (attemptFailed n true s)
  refine ⟨_, tapHw_acts ha, ?_, ?_, by rw [bbx]; exact last, ?_, frame⟩
  · rw [taps, State.modTap_taps, if_pos rfl, tap]
    exact Tap.faulted_state ..
  · rw [taps, State.modTap_taps, if_pos rfl, tap]
    exact Tap.faulted_start ..
  · have kept : SwitchesKept (tapFault n .faultShort 0 (attemptFailed n true s)) _ :=
      .modTap (n := n) (f := fun t => { t with acted := 4, stake := { t.stake with attempts := 3 } }) (fun _ => ⟨rfl, rfl⟩) _
    exact stopped_of_taps (stopped.of_switches kept) taps

end

/-- Settles O47: the request, the test, the end of the ramp, the attempts that fail. -/
theorem stakesStartByTheirSequence : Obligations.StakesStartByTheirSequence := by
  unfold Obligations.StakesStartByTheirSequence
  refine ⟨fun n s ha => ⟨fun hd hr hg hrate => ?_, fun hd hr => ?_, fun hd hr hg hok => ?_, fun hd hr hg h0 => ?_,
      fun v0 l ok ht hm hfrom hv => ?_, fun v0 l ok ht hm hfrom hv => ?_, fun v0 l ok ht hm hfrom hst => ?_,
      fun v0 l ok ht hm => ?_, fun m hmate v0 l p hv ht hf hh => ?_, fun v hv hst hlo hhi hr hm => ?_,
      fun hc hsw hsoft hfrom hp hnear => ?_, fun hc hsw hslew hsoft hfrom hnear => ?_, fun hnear => ?_, fun hnear => ?_⟩,
    fun n s ha => ⟨fun hst hat hh => ?_, fun hst hat hh hfb => ?_, fun hst hat => ?_, fun v hv ho hlow hat hh => ?_,
      fun v hv ho hlow hat hh hfb => ?_, fun v hv hno => ?_, fun hst hm hv hg hrate => ?_⟩⟩
  · exact startDue_tests ha hd hr hg hrate
  · exact startDue_reversed ha hd hr
  · exact startDue_unpaired ha hd hr hg hok
  · exact startDue_unrated ha hd hr hg h0
  · exact test_closes ha ht hm hfrom hv ok
  · exact test_prebiases ha ht hm hfrom hv ok
  · exact test_fromBypass ha ht hm hfrom hst ok
  · exact test_refused ha ht hm ok
  · exact test_fuses ha hv ht hf hh
  · exact preBias_closes ha hv hst hlo hhi hr hm
  · obtain ⟨vref, soft, -, tries⟩ := arrive_shows n s
    have run := execSoftStartComplete_acts ha (by rw [hc, hsw, hsoft, hfrom, hp, hnear]; rfl)
    exact ⟨_, run, vref, soft, tries hsoft, arrive_but n s, arrive_only n s⟩
  · obtain ⟨vref, -, slewed, -⟩ := arrive_shows n s
    have run := execSlewComplete_acts ha (by rw [hc, hsw, hslew, hsoft, hfrom, hnear]; rfl)
    exact ⟨_, run, vref, slewed, arrive_but n s, arrive_only n s⟩
  · refine tapHw_idle (if_neg ?_)
    rw [hnear, Bool.and_false]
    exact Bool.false_ne_true
  · refine tapHw_idle (if_neg ?_)
    rw [hnear, Bool.and_false]
    exact Bool.false_ne_true
  · obtain ⟨tap, stopped, others, outside⟩ := attemptFailed_retries n true s
    have run := prebiasFail_acts ha hst hat (.inl hh)
    refine ⟨_, run, ?_, ?_, ?_, ?_, ?_, fun hsi => ?_, stopped, others, outside⟩ <;> rw [tap]
    · exact if_pos ⟨by omega, hh⟩
    · rfl
    · exact Bool.or_true _
    · rfl
    · rfl
    · show (_ || decide (s.taps[n].state = .standIn)) = true
      rw [decide_eq_true hsi, Bool.or_true]
  · obtain ⟨tap, stopped, others, outside⟩ := attemptFailed_retries n true s
    have run := prebiasFail_acts ha hst hat (.inr hfb)
    refine ⟨_, run, ?_, ?_, ?_, ?_, stopped, others, outside⟩ <;> rw [tap]
    · exact if_neg fun h => hh h.2
    · rfl
    · rfl
    · rfl
  · exact prebiasFail_third ha hst hat
  · obtain ⟨tap, stopped, others, outside⟩ := shortCheckFail_retries n v s
    have run := shortCheckFail_acts ha hv ho hlow hat (.inl hh)
    refine ⟨_, run, ?_, ?_, ?_, ?_, ?_, stopped, others, outside⟩ <;> rw [tap]
    · exact if_pos ⟨by exact Nat.succ_lt_succ hat, hh⟩
    · rfl
    · rfl
    · rfl
    · rfl
  · obtain ⟨tap, stopped, others, outside⟩ := shortCheckFail_retries n v s
    have run := shortCheckFail_acts ha hv ho hlow hat (.inr hfb)
    refine ⟨_, run, ?_, ?_, ?_, ?_, ?_, stopped, others, outside⟩ <;> rw [tap]
    · exact if_neg fun h => hh h.2
    · rfl
    · rfl
    · rfl
    · rfl
  · show execShortCheckFail n v s = _
    unfold execShortCheckFail
    rw [atVolt_rated hv]
    refine tapHw_idle (if_neg ?_)
    rw [Bool.and_eq_true, decide_eq_true_eq]
    rintro ⟨ho, hlow⟩
    obtain hno | hno := hno
    · exact absurd ho (by rw [hno]; exact Bool.false_ne_true)
    · omega
  · have begins := requestStart_begins (by rw [reversed_single hg, decide_eq_false (by omega)]) hm
      (fun h => by rw [hg] at h; exact absurd h Bool.false_ne_true) hrate
    obtain ⟨taps, -, -, frame⟩ := waking_woken (f := fun s => if s.taps[n].stake.start = .hiccup ∧ mayStart s then
      requestStart n s else s) (if_pos ⟨hst, hm⟩) begins.op
    refine ⟨_, tapHw_acts ha, ?_, ?_, ?_, frame⟩ <;> rw [taps, begins.tap]
    · rfl
    · rfl
    · rfl

end Sys2Proof.Machine
end

/-! ## Stand-in and its hand-off to the bypass -/

section
open Sys2Proof.Claims

namespace Sys2Proof.Machine

section
variable {n : Fin 32} {s : State}

/-- An event that changes one tap in nothing the scanner watches. -/
theorem tapHw_sets {f : State → State} {g : Tap → Tap} (ha : Acts n s) (hf : f s = s.modTap n g)
    (hg : Unsensed s.taps[n] (g s.taps[n])) : ∃ t, tapHw n f s = .next t ∧ t.taps[n] = g s.taps[n] ∧ TapsBut n s t ∧
      t = { s with taps := t.taps } := by
  have tap : (s.modTap n g).taps[n] = g s.taps[n] := by rw [State.modTap_taps, if_pos rfl]
  exact ⟨_, tapHw_rests ha hf (by rw [tap]; exact hg), tap, .modTap n g s, rfl⟩

/-! ### The hand-off begins -/

theorem standsIn_shows {t : Tap} (h : standsIn t = true) : t.state = .standIn ∧ t.stake.conv = true ∧ t.stake.sw = true ∧
    t.stake.handOff = .none := by
  simp only [standsIn, Bool.and_eq_true, Bool.not_eq_true', decide_eq_true_eq] at h
  obtain ⟨⟨⟨⟨st, conv⟩, sw⟩, -⟩, none⟩ := h
  exact ⟨st, conv, sw, none⟩

/-- A carrying stand-in whose hand-off has begun (R112). -/
def Tap.handsOff (t : Tap) : Tap := { t with stake := { t.stake.fresh with
  slotByp := true, handOff := .excess, fromBypass := false, bypRamp := t.stake.slotFb, bypMs := 0 } }

theorem startHandOff_carrying {u : State} (hu : countReturn n s = u) (hc : u.taps[n].stake.conv = true)
    (hsw : u.taps[n].stake.sw = true) : handOffNow n s = u.modTap n Tap.handsOff := by
  unfold handOffNow startHandOff
  rw [hu]
  dsimp only
  rw [hc, hsw]
  rfl

theorem countReturn_none (h : s.taps[n].stake.autoReturned = false) : countReturn n s = s := by
  unfold countReturn
  dsimp only
  rw [h]
  rfl

theorem handOffNow_acts (h : standsIn s.taps[n] = true) (ha : s.taps[n].stake.autoReturned = false) :
    handOffNow n s = s.modTap n Tap.handsOff := by
  obtain ⟨-, conv, sw, -⟩ := standsIn_shows h
  exact startHandOff_carrying (countReturn_none ha) conv sw

/-- The times of the returns with the one that a hand-off ends (R113). -/
def Stake.returned (k : Stake) : List Nat := recent k.returnAt 600000 k.returns ++ [k.returnAt]

/-- Auto-return stays on but for the third return within 10 min (R113). -/
def Tap.stillReturns (t : Tap) : Bool :=
  t.cfg.autoReturn && decide ((recent t.stake.returnAt 600000 t.stake.returns).length < 2)

/-- What a hand-off that ends an auto-return has counted (R113). -/
structure Counted (n : Fin 32) (s t : State) : Prop where
  tap : t.taps[n] = { s.taps[n] with
    cfg := { s.taps[n].cfg with autoReturn := s.taps[n].stillReturns }
    stake := { s.taps[n].stake with autoReturned := false, returns := s.taps[n].stake.returned } }
  others : TapsBut n s t
  outside : t = { s with taps := t.taps, alr := t.alr, bus := t.bus }

theorem countReturn_counts (h : s.taps[n].stake.autoReturned = true) : Counted n s (countReturn n s) := by
  have count : s.taps[n].stake.returned.length =
      (recent s.taps[n].stake.returnAt 600000 s.taps[n].stake.returns).length + 1 := List.length_append
  generalize hu : s.modStake n (fun k => { k with autoReturned := false, returns := s.taps[n].stake.returned }) = u
  have tap : u.taps[n] = { s.taps[n] with
      stake := { s.taps[n].stake with autoReturned := false, returns := s.taps[n].stake.returned } } := by
    rw [← hu, State.modStake_taps, if_pos rfl]
  have others : TapsBut n s u := hu ▸ TapsBut.modTap _ _ _
  have outside : u = { s with taps := u.taps } := by
    rw [← hu]
    rfl
  have shape : countReturn n s = if 3 ≤ s.taps[n].stake.returned.length ∧ u.taps[n].cfg.autoReturn then
      alert 3 3 6 n.val 0 (u.modCfg n fun c => { c with autoReturn := false }) else u := by
    unfold countReturn
    dsimp only
    rw [h, ← hu]
    rfl
  rw [shape, tap, count]
  split
  next hoff =>
    have taps (w : State) : (alert 3 3 6 n.val 0 w).taps = w.taps := by rw [alert_shape]
    refine ⟨?_, ?_, ?_⟩
    · rw [taps, State.modCfg_taps, if_pos rfl, tap, Tap.stillReturns, decide_eq_false (by omega), Bool.and_false]
    · exact TapsBut.trans (others.trans (.modTap _ _ _)) (.of_taps (taps _))
    · rw [alert_shape, outside]
      rfl
  next hon =>
    refine ⟨?_, others, ?_⟩
    · rw [tap]
      have same : s.taps[n].stillReturns = s.taps[n].cfg.autoReturn := by
        unfold Tap.stillReturns
        cases hr : s.taps[n].cfg.autoReturn with
        | false => rfl
        | true =>
          refine decide_eq_true (Nat.lt_of_not_le fun h2 => hon ⟨?_, hr⟩)
          omega
      rw [same]
    · rw [outside]

/-! ### The hand-off ends -/

/-- The stake of a stand-in has stopped and the tap is bypassed (R112). -/
structure Bypassed (n : Fin 32) (s t : State) : Prop where
  tap : t.taps[n] = { s.taps[n] with limit := 0, stake := { s.taps[n].stake.halt with bypassed := true } }
  stopped : Stopped n s t
  others : TapsButMates n s t
  outside : t = { s with taps := t.taps }

theorem bypassNow_bypassed (n s) : Bypassed n s (bypassNow n s) := by
  unfold bypassNow
  refine ⟨?_, fun m hm => ?_, ?_, by apply State.ext_parts <;> simp⟩
  · rw [State.modTap_taps, if_pos rfl, onMates_taps, if_pos (mem_mates_self s n)]
  · rw [State.modTap_taps]
    split
    · rw [onMates_taps, if_pos (mem_mates_self s n)]
      exact ⟨rfl, rfl⟩
    · rw [onMates_taps, if_pos hm]
      exact ⟨rfl, rfl⟩
  · exact (TapOp.trans (.onMates n Stake.halt s)
      (.modTap (f := fun t => { t with limit := 0, stake := { t.stake with bypassed := true } }))).frame.1

theorem endHandOff_excess (h : s.taps[n].stake.handOff = .excess) : endHandOff n s = bypassNow n s := by
  unfold endHandOff
  rw [h]

theorem endHandOff_stop (h : s.taps[n].stake.handOff = .stop) : endHandOff n s = if fwUp s n then toAbsent n s else
    (bypassNow n s).modStake n fun k => { k with handOff := .stop } := by
  unfold endHandOff
  rw [h]

/-! ### SLOT_FB -/

/-- SLOT_FB is there (R112). -/
def fbPresent (n : Fin 32) (s : State) : State := s.modStake n fun k => { k with slotFb := true, openDue := false }

theorem fbPresent_tap (n) (s : State) : (fbPresent n s).taps[n] =
    { s.taps[n] with stake := { s.taps[n].stake with slotFb := true, openDue := false } } := by
  rw [fbPresent, State.modStake_taps, if_pos rfl]

theorem slotFbPresent_eq (n s) : exec (.slotFbPresent n) s = tapHw n (fun s => if (fbPresent n s).taps[n].state = .faultOpen then
    (if fwUp (fbPresent n s) n then rankTap 9 9 n (toAbsent n) (fbPresent n s) else fbPresent n s)
    else fbSeen n (fbPresent n s)) s := rfl

/-- SLOT_FB of a stand-in that carries its string with SLOT_BYP asserted (R53, R112). -/
theorem fbSeen_converting (hb : s.taps[n].stake.slotByp = true) (hc : s.taps[n].stake.conv = true) : fbSeen n s =
    if s.taps[n].stake.handOff = .none then s else s.modStake n fun k => { k with bypRamp := true, bypMs := 0 } := by
  unfold fbSeen
  dsimp only
  rw [hb, hc]
  rfl

theorem openFault_tap (n s) : (openFault n s).taps[n] = { s.taps[n].faulted .faultOpen 0 with
    stake := { (s.taps[n].faulted .faultOpen 0).stake with slotByp := true } } := by
  rw [openFault, State.modStake_taps, if_pos rfl, tapFault_tap]

theorem openFault_tapOp (n s) : TapOp n s (openFault n s) := (tapFault_tapOp n .faultOpen 0 s).trans (.modStake ..)

theorem openFault_stopped (n s) : Stopped n s (openFault n s) :=
  (tapFault_stopped n .faultOpen 0 s).of_switches (.modTap (by exact fun _ => ⟨rfl, rfl⟩) _)

end

end Sys2Proof.Machine
end

/-! ## Stand-in hands over and comes back -/

section
open Sys2Proof.Claims

namespace Sys2Proof.Machine

section
variable {n : Fin 32} {s : State}

theorem mayStart_run (hst : s.sys.st = .run) (hl : s.sys.hkLost = false) (hp : s.sys.longPress = false) : mayStart s = true := by
  rw [mayStart, hst, hl, hp]
  rfl

/-- A stand-in that has returned by itself (R113). -/
structure Returned (n : Fin 32) (s t : State) : Prop where
  state : t.taps[n].state = .standIn
  start : t.taps[n].stake.start = .pretest
  from' : t.taps[n].stake.fromBypass = true
  auto : t.taps[n].stake.autoReturned = true
  free : t.taps[n].stake.bypassed = false
  op : TapOp n s t

theorem fromBypass_returns (hg : s.taps[n].cfg.gang = false) (hr : (rating s n).1 ≠ 0) (hv : -1000 ≤ s.taps[n].vPair)
    (hm : mayStart s = true) : Returned n s (fromBypass n true s) := by
  have able := entersBypassed_able n true s
  obtain ⟨hst, hfrom, hauto, -, hpair⟩ := entersBypassed_shows n true s
  have gang := (able_eq.mp (able.same n)).2.2.trans hg
  have may : mayStart (entersBypassed n true s) = true := by
    rw [show mayStart (entersBypassed n true s) = mayStart s by simp [mayStart, entersBypassed], hm]
  have begins := requestStart_begins (n := n) (s := entersBypassed n true s)
    (by rw [reversed_single gang, hpair, decide_eq_false (by omega)]) may
    (fun h => by rw [gang] at h; exact absurd h Bool.false_ne_true) (by rwa [rating_of_able able])
  have entered : TapOp n s (entersBypassed n true s) := (toStandIn_tapOp n s).trans (.modStake ..)
  rw [fromBypass_eq]
  refine ⟨?_, ?_, ?_, ?_, ?_, entered.trans begins.op⟩ <;> rw [begins.tap]
  · exact hst
  · rfl
  · show (_ || _) = true
    rw [hfrom, Bool.true_or]
  · exact hauto
  · rfl

/-- A tap in KEEP or STAND-IN takes its reference, and no other tap changes (R115). -/
theorem refresh_tap (n : Fin 32) (s : State) : (refresh n s).taps[n] = if s.taps[n].state = .keep ∨ s.taps[n].state = .standIn then
    s.taps[n].aim (targets s n s.taps[n].state) (tracked s s.taps[n]).isSome else s.taps[n] := by
  unfold refresh
  split
  · exact retarget_tap n s
  · rfl

/-- What a tap shows after every tap has taken its reference (R116, R117). -/
structure Retracked (n : Fin 32) (s t : State) : Prop where
  keep : s.taps[n].state = .keep → t.taps[n].stake.vTarget = keepTarget s s.taps[n]
  standIn : s.taps[n].state = .standIn → t.taps[n].stake.vTarget = siTarget s s.taps[n]
  others : s.taps[n].state ≠ .keep → s.taps[n].state ≠ .standIn → t.taps[n] = s.taps[n]

theorem refresh_retracked (n s) : Retracked n s (refresh n s) := by
  refine ⟨fun h => ?_, fun h => ?_, fun hk hsi => ?_⟩
  · rw [refresh_tap, if_pos (.inl h), Tap.aim_vTarget, h, targets_keep]
  · rw [refresh_tap, if_pos (.inr h), Tap.aim_vTarget, h, targets_standIn]
  · rw [refresh_tap, if_neg (not_or.mpr ⟨hk, hsi⟩)]

theorem refresh_outside (n s) : refresh n s = { s with taps := (refresh n s).taps } := by
  unfold refresh
  split <;> rfl

theorem retrack_retracked (n : Fin 32) (s : State) : Retracked n s (retrack s) := by
  obtain ⟨u, tap, sys, last⟩ := foldFin_at (fun i (s : State) => s.taps[i]) State.sys (f := fun i s => refresh i s)
    (fun i m s h => by
      unfold refresh
      split
      · exact retarget_but i s m h
      · rfl) (fun i s => by rw [refresh_outside]) n s
  have last : (retrack s).taps[n] = (refresh n u).taps[n] := last
  obtain ⟨keep, standIn, others⟩ := refresh_retracked n u
  have keepSame : keepTarget u u.taps[n] = keepTarget s s.taps[n] := by
    rw [tap]
    unfold keepTarget tracked
    rw [sys]
  have siSame : siTarget u u.taps[n] = siTarget s s.taps[n] := by
    rw [tap]
    unfold siTarget tracked
    rw [sys]
  rw [tap] at keep standIn others
  rw [tap] at keepSame siSame
  refine ⟨fun h => ?_, fun h => ?_, fun hk hsi => ?_⟩
  · rw [last, keep h, keepSame]
  · rw [last, standIn h, siSame]
  · rw [last, others hk hsi]

theorem outside_taps {u s : State} {T} (h : { u with taps := T } = s) : u = { s with taps := u.taps } := by
  rw [← h]

theorem retrack_outside (s) : retrack s = { s with taps := (retrack s).taps } :=
  outside_taps (foldFin_keeps (fun t : State => { t with taps := s.taps }) (fun n s => refresh n s)
    (fun i t => by rw [refresh_outside]) s)

end

/-! ### The hand-off, event by event -/

section
variable {n : Fin 32} {s : State}

/-- An excess during an auto-return that carries the string counts the return (R112, R113). -/
theorem excess_counts {i : Int} (ha : Acts n s) (hsi : standsIn s.taps[n] = true) (hauto : s.taps[n].stake.autoReturned = true)
    (hex : (siLimit s n : Int) < (if s.sys.shValid then i else s.sys.iStr)) : ∃ t, exec (.standInExcess n i) s = .next t ∧
      t.taps[n] = Tap.handsOff { s.taps[n] with
        cfg := { s.taps[n].cfg with autoReturn := s.taps[n].stillReturns }
        stake := { s.taps[n].stake with autoReturned := false, returns := s.taps[n].stake.returned } } ∧
      TapsBut n s t ∧ t = { s with taps := t.taps, alr := t.alr, bus := t.bus } := by
  have counts := countReturn_counts hauto
  obtain ⟨-, hc, hsw, -⟩ := standsIn_shows hsi
  have begins := startHandOff_carrying (n := n) (s := s) rfl (by rw [counts.tap]; exact hc) (by rw [counts.tap]; exact hsw)
  have tap : (handOffNow n s).taps[n] = (countReturn n s).taps[n].handsOff := by rw [begins, State.modTap_taps, if_pos rfl]
  rw [counts.tap] at tap
  have run : exec (.standInExcess n i) s = .next (handOffNow n s) :=
    tapHw_rests ha (if_pos ⟨hsi, hex⟩) (by rw [tap]; exact ⟨rfl, rfl, rfl, rfl, rfl, rfl⟩)
  refine ⟨_, run, tap, ?_, ?_⟩
  · rw [begins]
    exact counts.others.trans (.modTap _ _ _)
  · rw [begins]
    generalize countReturn n s = u at counts
    rw [counts.outside]
    rfl

/-- The voltage of a carrying stand-in has left its window (R111). -/
def outOfWindow (v : Int) (t : Tap) : Bool :=
  let low := t.stake.refReached && decide (v < (siWindow t).1)
  let high := decide ((t.stake.vref / 1000 : Int) + 2000 ≤ v)
  standsIn t && (low || high)

theorem standInImmediateBypass_eq {v : Int} (hv : tapRated v = true) : exec (.standInImmediateBypass n v) s =
    tapHw n (fun s => if outOfWindow v s.taps[n] then handOffNow n (readKelvin n v s) else s) s := atVolt_rated hv _ s

theorem outOfWindow_of {v : Int} {t : Tap} (hsi : standsIn t = true)
    (hout : t.stake.refReached = true ∧ v < ((siWindow t).1 : Int) ∨ ((t.stake.vref / 1000 + 2000 : Nat) : Int) ≤ v) :
    outOfWindow v t = true := by
  unfold outOfWindow
  dsimp only
  rw [hsi]
  obtain ⟨hreach, hlow⟩ | hhigh := hout
  · rw [hreach, decide_eq_true hlow]
    rfl
  · rw [decide_eq_true (p := _ ≤ v) (by omega), Bool.or_true]
    rfl

theorem outOfWindow_handsOff {v : Int} (ha : Acts n s) (hv : tapRated v = true) (hsi : standsIn s.taps[n] = true)
    (hauto : s.taps[n].stake.autoReturned = false) (hout : outOfWindow v s.taps[n] = true) :
    ∃ t, exec (.standInImmediateBypass n v) s = .next t ∧
      t.taps[n] = Tap.handsOff { s.taps[n] with vKel := v } ∧ TapsBut n s t ∧ t = { s with taps := t.taps } := by
  have tap := readKelvin_tap n v s
  have begins : handOffNow n (readKelvin n v s) = s.modTap n fun t => Tap.handsOff { t with vKel := v } := by
    rw [handOffNow_acts (by rw [tap]; exact hsi) (by rw [tap]; exact hauto), readKelvin, modTap_modTap]
  rw [standInImmediateBypass_eq hv]
  exact tapHw_sets (g := fun t => Tap.handsOff { t with vKel := v }) ha ((if_pos hout).trans begins)
    ⟨rfl, rfl, rfl, rfl, rfl, rfl⟩

/-- SLOT_FB of a tap that is not in FAULT-OPEN (R112). -/
theorem slotFbPresent_sets {g : Tap → Tap} (ha : Acts n s) (hst : s.taps[n].state ≠ .faultOpen)
    (hf : fbSeen n (fbPresent n s) = s.modTap n g) (hg : Unsensed s.taps[n] (g s.taps[n])) :
    ∃ t, exec (.slotFbPresent n) s = .next t ∧ t.taps[n] = g s.taps[n] ∧ TapsBut n s t ∧ t = { s with taps := t.taps } := by
  have state : ¬(fbPresent n s).taps[n].state = .faultOpen := by rw [fbPresent_tap]; exact hst
  rw [slotFbPresent_eq]
  exact tapHw_sets ha ((if_neg state).trans hf) hg

theorem slotFbPresent_rests (ha : Acts n s) (hst : s.taps[n].state = .standIn) (hb : s.taps[n].stake.slotByp = true)
    (hc : s.taps[n].stake.conv = true) (hh : s.taps[n].stake.handOff = .none) : ∃ t, exec (.slotFbPresent n) s = .next t ∧
      t.taps[n] = { s.taps[n] with stake := { s.taps[n].stake with slotFb := true, openDue := false } } ∧ TapsBut n s t ∧
      t = { s with taps := t.taps } := by
  have tap := fbPresent_tap n s
  refine slotFbPresent_sets (g := fun t => { t with stake := { t.stake with slotFb := true, openDue := false } }) ha
    (by rw [hst]; nofun) ?_ ⟨rfl, rfl, rfl, rfl, rfl, rfl⟩
  rw [fbSeen_converting (by rw [tap]; exact hb) (by rw [tap]; exact hc), if_pos (by rw [tap]; exact hh)]
  rfl

theorem slotFbPresent_ramps (ha : Acts n s) (hst : s.taps[n].state = .standIn) (hb : s.taps[n].stake.slotByp = true)
    (hc : s.taps[n].stake.conv = true) (hh : s.taps[n].stake.handOff ≠ .none) : ∃ t, exec (.slotFbPresent n) s = .next t ∧
      t.taps[n] = { s.taps[n] with stake := { s.taps[n].stake with
        slotFb := true, openDue := false, bypRamp := true, bypMs := 0 } } ∧ TapsBut n s t ∧ t = { s with taps := t.taps } := by
  have tap := fbPresent_tap n s
  refine slotFbPresent_sets (g := fun t => { t with stake := { t.stake with
    slotFb := true, openDue := false, bypRamp := true, bypMs := 0 } }) ha (by rw [hst]; nofun) ?_ ⟨rfl, rfl, rfl, rfl, rfl, rfl⟩
  rw [fbSeen_converting (by rw [tap]; exact hb) (by rw [tap]; exact hc), if_neg (by rw [tap]; exact hh), State.modStake,
    fbPresent, State.modStake, modTap_modTap]

theorem slotFbPresent_absents (ha : Acts n s) (hst : s.taps[n].state = .faultOpen) (hf : fwUp s n = true)
    (hacted : s.taps[n].acted = 0 ∨ 9 < s.taps[n].acted) : ∃ t, exec (.slotFbPresent n) s = .next t ∧
      t.taps[n].state = .absent ∧ t.taps[n].stake.slotFb = true ∧ TapFrame n s t ∧ t.bbx = s.bbx := by
  have tap := fbPresent_tap n s
  have state : (fbPresent n s).taps[n].state = .faultOpen := by rw [tap]; exact hst
  obtain ⟨k, hk⟩ := rankTap_ranks (r := 9) (f := toAbsent n) (s := fbPresent n s) (top := 9) (by rw [tap]; exact hacted)
  have op : TapOp n s (toAbsent n (fbPresent n s)) := TapOp.trans (.modStake ..) (toAbsent_tapOp ..)
  have follows := waking_follows (f := fun s => if (fbPresent n s).taps[n].state = .faultOpen then
    (if fwUp (fbPresent n s) n then rankTap 9 9 n (toAbsent n) (fbPresent n s) else fbPresent n s)
    else fbSeen n (fbPresent n s)) ((if_pos state).trans ((if_pos hf).trans hk)) op
  rw [slotFbPresent_eq]
  refine ⟨_, tapHw_acts ha, ?_, ?_, follows.frame, ?_⟩
  · rw [follows.tap, toAbsent_tap]
    rfl
  · rw [follows.tap, toAbsent_tap, tap]
    rfl
  · rw [follows.bbx]
    simp [toAbsent, fbPresent]

theorem rampEnd_bypasses (ha : Acts n s) (hr : s.taps[n].stake.bypRamp = true) (hh : s.taps[n].stake.handOff = .excess) :
    exec (.bypassRampEnd n) s = .next (bypassNow n s) := by
  refine tapHw_rests ha ((if_pos hr).trans (endHandOff_excess hh)) ?_
  rw [(bypassNow_bypassed n s).tap]
  exact ⟨rfl, rfl, rfl, rfl, rfl, rfl⟩

/-- The end of the ramp of a `TAP_STOP` whose core restarts (R112, R134). -/
theorem rampEnd_waits (ha : Acts n s) (hr : s.taps[n].stake.bypRamp = true) (hh : s.taps[n].stake.handOff = .stop)
    (hf : fwUp s n = false) : ∃ t, exec (.bypassRampEnd n) s = .next t ∧ t.taps[n] = { s.taps[n] with
        limit := 0
        stake := { s.taps[n].stake.halt with bypassed := true, handOff := .stop } } ∧ Stopped n s t ∧ TapsButMates n s t ∧
      t = { s with taps := t.taps } := by
  obtain ⟨tap, stopped, others, outside⟩ := bypassNow_bypassed n s
  have ends : endHandOff n s = (bypassNow n s).modStake n fun k => { k with handOff := .stop } := by
    rw [endHandOff_stop hh, hf]
    rfl
  generalize bypassNow n s = u at *
  have own : (u.modStake n fun k => { k with handOff := .stop }).taps[n] = { s.taps[n] with
        limit := 0
        stake := { s.taps[n].stake.halt with bypassed := true, handOff := .stop } } := by
    rw [State.modStake_taps, if_pos rfl, tap]
  refine ⟨_, tapHw_rests ha ((if_pos hr).trans ends) (by rw [own]; exact ⟨rfl, rfl, rfl, rfl, rfl, rfl⟩), own, ?_, ?_, ?_⟩
  · exact stopped.of_switches (.modTap (by exact fun _ => ⟨rfl, rfl⟩) _)
  · intro m hm
    rw [State.modStake_taps, if_neg (by rintro rfl; exact hm (mem_mates_self ..))]
    exact others m hm
  · rw [outside]
    rfl

theorem rampEnd_absents (ha : Acts n s) (hr : s.taps[n].stake.bypRamp = true) (hh : s.taps[n].stake.handOff = .stop)
    (hf : fwUp s n = true) : ∃ t, exec (.bypassRampEnd n) s = .next t ∧ t.taps[n].state = .absent ∧ Stopped n s t ∧
      TapFrame n s t ∧ t.bbx = s.bbx := by
  have ends : endHandOff n s = toAbsent n s := by
    rw [endHandOff_stop hh, hf]
    rfl
  obtain ⟨taps, bbx, -, frame⟩ := waking_woken (f := fun s => if s.taps[n].stake.bypRamp then endHandOff n s else s)
    ((if_pos hr).trans ends) (toAbsent_tapOp n s)
  refine ⟨_, tapHw_acts ha, ?_, stopped_of_taps (toAbsent_stopped n s) taps, frame, ?_⟩
  · rw [taps, toAbsent_tap]
    rfl
  · rw [bbx]
    simp [toAbsent]

theorem bypFail_flags (ha : Acts n s) (hb : s.taps[n].stake.slotByp = true) (hfb : s.taps[n].stake.slotFb = false)
    (hh : s.taps[n].stake.handOff ≠ .none) : exec (.bypFail n) s =
      .next (alert 0 3 4 n.val 0 (s.modStake n fun k => { k with bypFail := true })) := by
  refine tapHw_rests ha (if_pos ?_) ?_
  · rw [hb, hfb, decide_eq_true hh]
    rfl
  · rw [alert_shape]
    dsimp only
    rw [State.modStake_taps, if_pos rfl]
    exact ⟨rfl, rfl, rfl, rfl, rfl, rfl⟩

/-- What 150 ms without SLOT_FB lead to (R112, R139). -/
def noFeedback (n : Fin 32) (s : State) : State :=
  if s.taps[n].stake.handOff = .removal ∨ (s.taps[n].stake.handOff = .stop ∧ fwUp s n) then openFault n s
  else if s.taps[n].stake.handOff = .stop then s.modStake n fun k => { k with openDue := true } else s

theorem bypassFaultOpen_eq : exec (.bypassFaultOpen n) s = tapHw n (fun s =>
    if !s.taps[n].stake.slotByp || s.taps[n].stake.slotFb then s else noFeedback n s) s := rfl

theorem noFeedback_acts {u : State} (hb : s.taps[n].stake.slotByp = true) (hfb : s.taps[n].stake.slotFb = false)
    (hu : noFeedback n s = u) :
    (fun s => if !s.taps[n].stake.slotByp || s.taps[n].stake.slotFb then s else noFeedback n s) s = u := by
  refine (if_neg ?_).trans hu
  rw [hb, hfb]
  exact Bool.false_ne_true

theorem faultOpen_faults (ha : Acts n s) (hb : s.taps[n].stake.slotByp = true) (hfb : s.taps[n].stake.slotFb = false)
    (hwhy : s.taps[n].stake.handOff = .removal ∨ (s.taps[n].stake.handOff = .stop ∧ fwUp s n = true)) :
    ∃ t, exec (.bypassFaultOpen n) s = .next t ∧ t.taps[n].state = .faultOpen ∧ t.taps[n].stake.slotByp = true ∧
      Stopped n s t ∧ TapFrame n s t := by
  have opens : noFeedback n s = openFault n s := if_pos hwhy
  obtain ⟨taps, -, -, frame⟩ := waking_woken (f := fun s => if !s.taps[n].stake.slotByp || s.taps[n].stake.slotFb then s
    else noFeedback n s) (noFeedback_acts hb hfb opens) (openFault_tapOp n s)
  rw [bypassFaultOpen_eq]
  refine ⟨_, tapHw_acts ha, ?_, ?_, stopped_of_taps (openFault_stopped (n := n) (s := s)) taps, frame⟩ <;> rw [taps, openFault_tap]
  exact Tap.faulted_state ..

theorem faultOpen_waits (ha : Acts n s) (hb : s.taps[n].stake.slotByp = true) (hfb : s.taps[n].stake.slotFb = false)
    (hh : s.taps[n].stake.handOff = .stop) (hf : fwUp s n = false) : ∃ t, exec (.bypassFaultOpen n) s = .next t ∧
      t.taps[n] = { s.taps[n] with stake := { s.taps[n].stake with openDue := true } } ∧ TapsBut n s t ∧
      t = { s with taps := t.taps } := by
  have why : ¬(s.taps[n].stake.handOff = .removal ∨ (s.taps[n].stake.handOff = .stop ∧ fwUp s n)) := by
    rw [hh, hf]
    rintro (h | ⟨-, h⟩)
    · exact nomatch h
    · exact Bool.false_ne_true h
  have waits : noFeedback n s = s.modStake n fun k => { k with openDue := true } := (if_neg why).trans (if_pos hh)
  rw [bypassFaultOpen_eq]
  exact tapHw_sets (g := fun t => { t with stake := { t.stake with openDue := true } }) ha (noFeedback_acts hb hfb waits) ⟨rfl, rfl, rfl, rfl, rfl, rfl⟩

/-! ### Stand-in from the bypass and TRACK -/

/-- The stake of a stand-in from the bypass stops again (R109). -/
def stopsAgain (n : Fin 32) (s : State) : State :=
  (onMates n Stake.halt (s.modStake n fun k => { k with slotByp := true })).modTap n fun t =>
    { t with limit := 0, stake := { t.stake with bypFail := true, bypassed := true } }

theorem slotFbClearTimeout_stops (ha : Acts n s) (hc : s.taps[n].stake.conv = true) (hfrom : s.taps[n].stake.fromBypass = true)
    (hfb : s.taps[n].stake.slotFb = true) : ∃ t, exec (.slotFbClearTimeout n) s = .next t ∧ t.taps[n] = { s.taps[n] with
      limit := 0, stake := { s.taps[n].stake.halt with slotByp := true, bypFail := true, bypassed := true } } ∧
      Stopped n s t ∧ TapsButMates n s t ∧ t = { s with taps := t.taps } := by
  have due : (s.taps[n].stake.conv && s.taps[n].stake.fromBypass && s.taps[n].stake.slotFb) = true := by rw [hc, hfrom, hfb]; rfl
  have cfg : (s.modStake n fun k => { k with slotByp := true }).taps[n].cfg = s.taps[n].cfg := modStake_cfg ..
  have mates : mates (s.modStake n fun k => { k with slotByp := true }) n = mates s n := mates_congr cfg
  have op : TapOp n s (stopsAgain n s) := TapOp.trans (TapOp.trans (.modStake ..) (.onMates ..)) .modTap
  have tap : (stopsAgain n s).taps[n] = { s.taps[n] with
      limit := 0, stake := { s.taps[n].stake.halt with slotByp := true, bypFail := true, bypassed := true } } := by
    rw [stopsAgain, State.modTap_taps, if_pos rfl, onMates_taps, if_pos (mem_mates_self ..), State.modStake_taps, if_pos rfl]
    rfl
  have halted : Stopped n s (onMates n Stake.halt (s.modStake n fun k => { k with slotByp := true })) := fun m hm => by
    rw [onMates_taps, if_pos (by rw [mates]; exact hm)]
    exact ⟨rfl, rfl⟩
  refine ⟨_, tapHw_rests ha (if_pos due) (by rw [← stopsAgain, tap]; exact ⟨rfl, rfl, rfl, rfl, rfl, rfl⟩), tap,
    halted.of_switches (.modTap (by exact fun _ => ⟨rfl, rfl⟩) _), op.frame.1, ?_⟩
  apply State.ext_parts <;> simp

theorem autoReturn_returns (ha : Acts n s) (hf : fwUp s n = true) (hg : s.taps[n].cfg.gang = false)
    (hr : (rating s n).1 ≠ 0) (hv : -1000 ≤ s.taps[n].vPair) (hm : mayStart s = true)
    (hdue : (s.taps[n].cfg.autoReturn && decide (s.taps[n].state = .standIn) && s.taps[n].stake.bypassed && s.taps[n].stake.slotFb
      && (siVolt s.taps[n]).isSome && decide ((rating s n).1 ≠ 0)
      && decide (0 ≤ s.sys.iStr ∧ s.sys.iStr * 10 ≤ siLimit s n * 9) && mayStart s && dwelt s n 5000) = true) :
    ∃ t, exec (.autoReturn n) s = .next t ∧ t.taps[n] = { (fromBypass n true s).taps[n] with
      stake := { (fromBypass n true s).taps[n].stake with returnAt := s.sys.uptime } } ∧ TapFrame n s t := by
  have returned := fromBypass_returns hg hr hv hm
  obtain ⟨taps, -, -, frame⟩ := waking_woken (f := fun s =>
    if s.taps[n].cfg.autoReturn && decide (s.taps[n].state = .standIn) && s.taps[n].stake.bypassed && s.taps[n].stake.slotFb
      && (siVolt s.taps[n]).isSome && decide ((rating s n).1 ≠ 0)
      && decide (0 ≤ s.sys.iStr ∧ s.sys.iStr * 10 ≤ siLimit s n * 9) && mayStart s && dwelt s n 5000 then
      (fromBypass n true s).modStake n fun k => { k with returnAt := s.sys.uptime } else s)
    (if_pos hdue) (returned.op.trans (.modStake ..))
  refine ⟨_, tapFw_acts hf ha.2, ?_, frame⟩
  rw [taps, State.modStake_taps, if_pos rfl]

/-- TRACK is held off (R117). -/
def trackOff (s : State) : State :=
  s.modSys fun y => { y with trackValid := false, trackFault := true, trackHeld := true, trackTold := true }

theorem tracked_held {s : State} (h : s.sys.trackHeld = true) (t : Tap) : tracked s t = none := by
  unfold tracked
  rw [h, Bool.or_true]
  rfl

theorem trackFault_fixes (hp : s.powered = true) (hout : s.sys.trackMv < -100 ∨ 5100 < s.sys.trackMv)
    (htold : s.sys.trackTold = false) : ∃ t, exec .trackFault s = .next t ∧
      t.sys = { s.sys with trackValid := false, trackFault := true, trackHeld := true, trackTold := true } ∧
      (planeDown s = false → t.alr.nextSeq = s.alr.nextSeq + 1) ∧
      (s.taps[n].state = .keep → t.taps[n].stake.vTarget = keepVolt s.taps[n]) ∧
      (s.taps[n].state = .standIn → t.taps[n].stake.vTarget = (siVolt s.taps[n]).getD 0) ∧
      (s.taps[n].state ≠ .keep → s.taps[n].state ≠ .standIn → t.taps[n] = s.taps[n]) ∧
      t = { s with taps := t.taps, sys := t.sys, alr := t.alr, bus := t.bus } := by
  have bad : trackOk s.sys.trackMv = false := decide_eq_false (by omega)
  have run : exec .trackFault s = .next (alert 3 9 6 0xFF 0 (retrack (trackOff s))) :=
    congrArg Host.Outcome.next (if_pos (by rw [hp, bad, htold]; rfl))
  obtain ⟨keep, standIn, others⟩ := retrack_retracked n (trackOff s)
  have off (t : Tap) : tracked (trackOff s) t = none := tracked_held rfl t
  have shape := retrack_outside (trackOff s)
  have taps (w : State) : (alert 3 9 6 0xFF 0 w).taps = w.taps := by rw [alert_shape]
  generalize retrack (trackOff s) = u at *
  refine ⟨_, run, ?_, fun hd => ?_, fun hst => ?_, fun hst => ?_, fun hk hsi => ?_, ?_⟩
  · rw [alert_sys, shape]
    rfl
  · have same : planeDown u = planeDown s := by rw [shape]; rfl
    rw [alert_nextSeq (same.trans hd), shape]
    rfl
  · rw [taps, keep hst, keepTarget, off]
    rfl
  · rw [taps, standIn hst, siTarget, off]
    rfl
  · rw [taps, others hk hsi]
    rfl
  · rw [alert_shape, shape]
    rfl

/-- TRACK is followed again (R117). -/
def trackOn (v : Int) (s : State) : State := s.modSys fun y =>
  { y with trackMv := v, trackValid := true, trackSeen := true, trackHeld := false, trackTold := false }

theorem trackResume_follows {v : Int} (hp : s.powered = true) (hlo : -100 ≤ v) (hhi : v ≤ 5100) :
    ∃ t, exec (.trackResume v) s = .next t ∧
      t.sys = { s.sys with trackMv := v, trackValid := true, trackSeen := true, trackHeld := false, trackTold := false } ∧
      (s.taps[n].state = .standIn → s.taps[n].cfg.track = .coincident → t.taps[n].stake.vTarget =
        min (siWindow s.taps[n]).2 (max (siWindow s.taps[n]).1 (20 * v.toNat))) ∧
      (s.taps[n].state ≠ .keep → s.taps[n].state ≠ .standIn → t.taps[n] = s.taps[n]) ∧
      t = { s with taps := t.taps, sys := t.sys } := by
  have good : trackOk v = true := decide_eq_true ⟨hlo, hhi⟩
  have rated : trackRated v = true := by
    unfold trackRated within Config.absTrack
    exact decide_eq_true (by omega)
  have run : exec (.trackResume v) s = .next (retrack (trackOn v s)) := by
    show execTrackResume v s = _
    unfold execTrackResume
    rw [rated, hp, good]
    rfl
  obtain ⟨-, standIn, others⟩ := retrack_retracked n (trackOn v s)
  have shape := retrack_outside (trackOn v s)
  generalize retrack (trackOn v s) = u at *
  refine ⟨_, run, by rw [shape]; rfl, fun hst htr => ?_, fun hk hsi => others hk hsi, ?_⟩
  · have followed : tracked (trackOn v s) s.taps[n] = some (20 * v.toNat) := by
      unfold tracked
      rw [htr]
      rfl
    rw [standIn hst]
    show siTarget (trackOn v s) s.taps[n] = _
    rw [siTarget, followed]
  · rw [shape]
    rfl

end

/-- Settles O48: the hand-off, SLOT_FB and the end of the ramp, the return and TRACK. -/
theorem standInHandsOverAndReturns : Obligations.StandInHandsOverAndReturns := by
  unfold Obligations.StandInHandsOverAndReturns
  refine ⟨fun n s ha => ⟨fun v hv hst hc hi hlow => ?_, fun v hv hi => ?_, fun i hsi hauto hex => ?_,
      fun i hsi hauto hex => ?_, fun i hle => ?_, fun v hv hsi hauto hout => ?_, fun hst hb hc hh => ?_,
      fun hst hb hc hh => ?_, fun hst hf hacted => ?_, fun hr hh hst => ?_, fun hr hh hf => ?_, fun hr hh hf => ?_,
      fun hb hfb hh => ?_, fun hb hfb hwhy => ?_, fun hb hfb hh hf => ?_⟩,
    fun n s ha => ⟨?_, fun hc hfrom hfb => ?_,
      fun hf hdw har hst hby hfb hvolt hrate h0 h90 hrun hl hp hg hv => ?_, fun hst hc => ?_, fun hout htold => ?_,
      fun v hlo hhi => ?_⟩⟩
  · have low : exec (.keepLow n v) s = tapHw n _ s := atVolt_rated hv _ s
    rw [low]
    exact tapHw_sets ha (if_pos ⟨hst, hc, hi, by omega⟩) ⟨rfl, rfl, rfl, rfl, rfl, rfl⟩
  · have low : exec (.keepLow n v) s = tapHw n _ s := atVolt_rated hv _ s
    rw [low]
    refine tapHw_idle (if_neg ?_)
    rintro ⟨-, -, hi', -⟩
    omega
  · exact tapHw_sets ha ((if_pos ⟨hsi, hex⟩).trans (handOffNow_acts hsi hauto)) ⟨rfl, rfl, rfl, rfl, rfl, rfl⟩
  · obtain ⟨t, run, tap, others, outside⟩ := excess_counts ha hsi hauto hex
    refine ⟨t, run, ?_, ?_, ?_, ?_, ?_, others, outside⟩ <;> rw [tap] <;> rfl
  · refine tapHw_idle (if_neg ?_)
    rintro ⟨-, hlt⟩
    omega
  · obtain ⟨t, run, tap, others, outside⟩ := outOfWindow_handsOff ha hv hsi hauto (outOfWindow_of hsi hout)
    obtain ⟨hst, -⟩ := standsIn_shows hsi
    refine ⟨t, run, ?_, ?_, ?_, ?_, others, outside⟩ <;> rw [tap]
    · rfl
    · rfl
    · rfl
    · exact hst
  · exact slotFbPresent_rests ha hst hb hc hh
  · exact slotFbPresent_ramps ha hst hb hc hh
  · exact slotFbPresent_absents ha hst hf hacted
  · obtain ⟨tap, stopped, others, outside⟩ := bypassNow_bypassed n s
    refine ⟨_, rampEnd_bypasses ha hr hh, ?_, ?_, ?_, stopped, others, outside⟩ <;> rw [tap]
    · exact hst
    · rfl
  · obtain ⟨t, run, tap, stopped, others, outside⟩ := rampEnd_waits ha hr hh hf
    exact ⟨t, run, by rw [tap], by rw [tap], by rw [tap], stopped, others, outside⟩
  · exact rampEnd_absents ha hr hh hf
  · refine ⟨_, bypFail_flags ha hb hfb hh, ?_, ?_, fun hd => alert_nextSeq (by exact hd) .., ?_⟩
    · rw [alert_shape]
      dsimp only
      rw [State.modStake_taps, if_pos rfl]
    · exact TapsBut.trans (TapsBut.modTap n (fun t => { t with stake := { t.stake with bypFail := true } }) s)
        (.of_taps (by rw [alert_shape]; rfl))
    · rw [alert_shape]
      rfl
  · exact faultOpen_faults ha hb hfb (hwhy.elim (fun h => .inr ⟨h.1, h.2.1⟩) .inl)
  · exact faultOpen_waits ha hb hfb hh hf
  · exact tapHw_sets (g := fun t => { t with stake := { t.stake with
      slotFb := false, bypassed := false, fromBypass := t.stake.fromBypass && !t.stake.conv } }) ha rfl ⟨rfl, rfl, rfl, rfl, rfl, rfl⟩
  · obtain ⟨t, run, tap, stopped, others, outside⟩ := slotFbClearTimeout_stops ha hc hfrom hfb
    refine ⟨t, run, ?_, ?_, ?_, ?_, stopped, others, outside⟩ <;> rw [tap]
  · have may := mayStart_run hrun hl hp
    obtain ⟨state, start, from', auto, free, -⟩ := fromBypass_returns hg hrate hv may
    obtain ⟨t, run, tap, frame⟩ := autoReturn_returns ha hf hg hrate hv may (by
      rw [har, hst, hby, hfb, hvolt, may, hdw, decide_eq_true hrate, decide_eq_true (p := 0 ≤ s.sys.iStr ∧ _) ⟨h0, by omega⟩]
      rfl)
    refine ⟨t, run, ?_, ?_, ?_, ?_, ?_, ?_, frame⟩ <;> rw [tap]
    · exact state
    · exact start
    · exact from'
    · exact auto
    · exact free
  · show tapFw n _ s = _
    have down : fwUp s n = false := by
      rw [fwUp, hc]
      simp
    unfold tapFw
    rw [down]
    rfl
  · exact trackFault_fixes ha.1 hout htold
  · exact trackResume_follows ha.1 hlo hhi

end Sys2Proof.Machine
end

/-! ## Blocks come and go -/

section
open Sys2Proof.Claims

namespace Sys2Proof.Machine

theorem Follows.goes {n st s u t} (h : Follows n s u t) (hu : u.taps[n].state = st) : Goes n st s t :=
  ⟨by rw [h.tap]; exact hu, h.frame⟩

/-! ### The voltage an event carries -/

/-- A tap with the voltage its hardware is fed (R142). -/
def Tap.sees (v : Int) (t : Tap) : Tap := if t.kelvinBad then { t with vPair := v } else { t with vKel := v }

theorem seeV_eq (n v) (s : State) : seeV n v s = s.modTap n (Tap.sees v) := rfl

theorem Tap.sees_shows (v : Int) (t : Tap) : t.sees v = { t with vKel := (t.sees v).vKel, vPair := (t.sees v).vPair } ∧
    kelvin (t.sees v) = v := by
  unfold Tap.sees kelvin
  cases h : t.kelvinBad <;> simp

theorem Tap.sees_kept (v : Int) (t : Tap) : (t.sees v).cfg = t.cfg ∧ (t.sees v).desc = t.desc ∧ (t.sees v).stake = t.stake ∧
    (t.sees v).state = t.state ∧ (t.sees v).kelvinBad = t.kelvinBad ∧ (t.sees v).cause = t.cause := by
  rw [(t.sees_shows v).1]
  exact ⟨rfl, rfl, rfl, rfl, rfl, rfl⟩

/-! ### Presence -/

/-- A tap whose block has shown (R138). -/
def Tap.presents (v : Int) (t : Tap) : Tap :=
  { t.sees v with inserted := true, fallback := (t.sees v).fallback || !validNtc (t.sees v) }

theorem presence_detects {n : Fin 32} {v : Int} {s : State} (hv : tapRated v = true) (h : FwActs 2000 n s)
    (hst : s.taps[n].state = .absent ∨ s.taps[n].state = .faultOpen) (hc : cells s.taps[n] * 1000 ≤ v) :
    ∃ t, exec (.presence n v) s = .next t ∧ Follows n s (toDetect n true (s.modTap n (Tap.presents v))) t := by
  have due : (decide (s.taps[n].state = .absent ∨ s.taps[n].state = .faultOpen) && decide (cells s.taps[n] * 1000 ≤ v)) = true := by
    rw [decide_eq_true hst, decide_eq_true hc]
    rfl
  have acts : toDetect n true ((seeV n v s).modTap n fun t => { t with inserted := true, fallback := t.fallback || !validNtc t }) =
      toDetect n true (s.modTap n (Tap.presents v)) := by
    rw [seeV_eq, modTap_modTap]
    rfl
  have run : exec (.presence n v) s = smFw 2000 n _ s := atVolt_rated hv _ s
  rw [run]
  refine smFw_acts h ((if_pos due).trans acts) (TapOp.trans (.modTap fun t => ?_) (toDetect_tapOp ..))
  exact congrArg TapCfg.gang (t.sees_kept v).1

/-! ### A removal -/

/-- A tap whose block has been removed (R139). -/
def Tap.removes (v : Int) (fb : Bool) (t : Tap) : Tap :=
  { t.sees v with
    fallback := (t.sees v).fallback || fb, removed := true, doneSeen := false, keepQ := none, stake := (t.sees v).releaseByp }

/-- The removal has been seen (R138). -/
def taken (n : Fin 32) (v : Int) (fb : Bool) (s : State) : State := s.modTap n (Tap.removes v fb)

theorem taken_tap (n v fb) (s : State) : (taken n v fb s).taps[n] = s.taps[n].removes v fb := by
  rw [taken, State.modTap_taps, if_pos rfl]

theorem Tap.removes_kept (v fb) (t : Tap) : (t.removes v fb).state = t.state ∧ (t.removes v fb).cfg = t.cfg ∧
    (t.removes v fb).removed = true ∧ (t.removes v fb).stake = { t.stake with slotByp := (t.removes v fb).stake.slotByp } := by
  obtain ⟨cfg, -, stake, state, -⟩ := t.sees_kept v
  exact ⟨state, cfg, rfl, by
    show (t.sees v).releaseByp = { t.stake with slotByp := (t.sees v).releaseByp.slotByp }
    rw [← stake]
    rfl⟩

theorem taken_tapOp (n v fb s) : TapOp n s (taken n v fb s) := .modTap fun t => congrArg TapCfg.gang (t.removes_kept v fb).2.1

/-- What a removal makes of a tap that has seen it (R139). -/
def removes (n : Fin 32) (act : RemovalAct) (was : Tap) (s : State) : State :=
  if !inRun s then
    let s := removedToAbsent n s
    if act = .bypass then s.modStake n fun k => { k with slotByp := true } else s
  else match act with
    | .standIn => if was.stake.withdrawn then tapFault n .faultOpen 0 s else toStandIn n s
    | .bypass =>
      if was.stake.conv then startHandOff n .removal s
      else (removedToAbsent n s).modStake n fun k =>
        { k with slotByp := true, handOff := if k.slotFb then .none else .removal }
    | .openTap => tapFault n .faultOpen 0 s

theorem removalOf_sees (v : Int) (t : Tap) (fb : Bool) : removalOf { t.sees v with fallback := fb } = removalOf t := by
  obtain ⟨cfg, desc, -⟩ := t.sees_kept v
  unfold removalOf isHelper siVolt
  dsimp only
  rw [cfg, desc]

theorem removed_eq (n : Fin 32) (v fb) (s : State) :
    removed n ((seeV n v s).modTap n fun t => { t with fallback := t.fallback || fb }) =
      removes n (removalOf s.taps[n]) s.taps[n] (taken n v fb s) := by
  have tap : ((seeV n v s).modTap n fun t => { t with fallback := t.fallback || fb }).taps[n] =
      { s.taps[n].sees v with fallback := (s.taps[n].sees v).fallback || fb } := by
    rw [State.modTap_taps, if_pos rfl, seeV_eq, State.modTap_taps, if_pos rfl]
  have act : removalOf { s.taps[n].sees v with fallback := (s.taps[n].sees v).fallback || fb } = removalOf s.taps[n] :=
    removalOf_sees ..
  have stake : (s.taps[n].sees v).stake = s.taps[n].stake := (s.taps[n].sees_kept v).2.2.1
  have mark : (((seeV n v s).modTap n fun t => { t with fallback := t.fallback || fb }).modTap n fun t =>
      { t with removed := true, doneSeen := false, keepQ := none, stake := t.releaseByp }) = taken n v fb s := by
    rw [seeV_eq, modTap_modTap, modTap_modTap]
    rfl
  unfold removed
  dsimp only
  rw [mark, tap, act]
  dsimp only
  rw [stake]
  rfl

theorem removal_acts {n : Fin 32} {fb a b v ib} {s u : State} (h : Removes n fb a b v ib s)
    (hu : removes n (removalOf s.taps[n]) s.taps[n] (taken n v fb s) = u) (op : TapOp n (taken n v fb s) u) :
    ∃ t, exec (.removal n ⟨fb, a, b, v, ib⟩) s = .next t ∧ Follows n s u t := by
  obtain ⟨hv, hacts, hholds, hseen⟩ := h
  have run : exec (.removal n ⟨fb, a, b, v, ib⟩) s = smHw 5 n _ s := atVolt_rated hv _ s
  rw [run]
  refine smHw_acts hacts ((if_pos ?_).trans ((removed_eq n v fb s).trans hu)) ((taken_tapOp ..).trans op)
  rw [hholds, hseen]
  rfl

/-! ### What each removal action leads to -/

theorem removedToAbsent_taps (n) (s : State) : (removedToAbsent n s).taps = (toAbsent n s).taps := by
  rw [removedToAbsent, alert_shape]

theorem removedToAbsent_tapOp (n s) : TapOp n s (removedToAbsent n s) := (toAbsent_tapOp n s).trans (.alert ..)

/-- A removal outside RUN (R139). -/
structure Absents (n : Fin 32) (s u : State) : Prop where
  state : u.taps[n].state = .absent
  removed : u.taps[n].removed = s.taps[n].removed
  timers : u.taps[n].pre.armed = false ∧ u.taps[n].chg.armed = false
  stopped : Stopped n s u
  op : TapOp n s u

theorem removedToAbsent_absents (n s) : Absents n s (removedToAbsent n s) := by
  have taps := removedToAbsent_taps n s
  have tap : (removedToAbsent n s).taps[n] = s.taps[n].stopped.absents := by rw [taps, toAbsent_tap]
  refine ⟨by rw [tap]; rfl, by rw [tap]; rfl, by rw [tap]; exact ⟨rfl, rfl⟩, ?_, removedToAbsent_tapOp ..⟩
  exact stopped_of_taps (toAbsent_stopped n s) taps

theorem absents_modStake {n s u f} (h : Absents n s u) (hf : ∀ k : Stake, (f k).conv = k.conv ∧ (f k).sw = k.sw) :
    Absents n s (u.modStake n f) := by
  obtain ⟨state, removed, timers, stopped, op⟩ := h
  have tap : (u.modStake n f).taps[n] = { u.taps[n] with stake := f u.taps[n].stake } := by rw [State.modStake_taps, if_pos rfl]
  refine ⟨by rw [tap]; exact state, by rw [tap]; exact removed, by rw [tap]; exact timers, ?_, op.trans (.modStake ..)⟩
  unfold State.modStake
  exact stopped.of_switches (.modTap (fun t => hf t.stake) u)

theorem removes_absents {n act was} {s : State} (h : inRun s = false) : ∃ u, removes n act was s = u ∧ Absents n s u ∧
    (act = .bypass → u.taps[n].stake.slotByp = true) := by
  have absent := removedToAbsent_absents n s
  have shape : removes n act was s = if act = .bypass then
      (removedToAbsent n s).modStake n fun k => { k with slotByp := true } else removedToAbsent n s := by
    unfold removes
    rw [h]
    rfl
  rw [shape]
  refine ⟨_, rfl, ?_, fun ha => ?_⟩
  · split
    · exact absents_modStake absent fun _ => ⟨rfl, rfl⟩
    · exact absent
  · rw [if_pos ha, State.modStake_taps, if_pos rfl]

/-- What a count of returns leaves of its tap (R113). -/
theorem countReturn_kept (n s) : TapOp n s (countReturn n s) ∧ (countReturn n s).taps[n].state = s.taps[n].state ∧
    (countReturn n s).taps[n].stake.conv = s.taps[n].stake.conv ∧ (countReturn n s).taps[n].stake.sw = s.taps[n].stake.sw ∧
    (countReturn n s).taps[n].stake.slotFb = s.taps[n].stake.slotFb := by
  cases h : s.taps[n].stake.autoReturned with
  | false =>
    rw [countReturn_none h]
    exact ⟨.refl .., rfl, rfl, rfl, rfl⟩
  | true =>
    have counts := countReturn_counts h
    refine ⟨?_, by rw [counts.tap], by rw [counts.tap], by rw [counts.tap], by rw [counts.tap]⟩
    refine ⟨⟨counts.others.mates, ?_, ?_⟩, by rw [counts.tap]⟩
    · rw [counts.outside]
    · rw [counts.outside]

/-- The hand-off of a removal begins at a converting stake (R112, R139). -/
def Tap.handsOffRemoved (byp : Bool) (t : Tap) : Tap := { t with stake := { t.stake.fresh with
  slotByp := true, handOff := .removal, fromBypass := false, bypRamp := byp, bypMs := 0 } }

theorem startHandOff_removal_on {n} {s : State} (hc : s.taps[n].stake.conv = true) (hsw : s.taps[n].stake.sw = true) :
    startHandOff n .removal s = (countReturn n s).modTap n fun t => t.handsOffRemoved t.stake.slotFb := by
  obtain ⟨-, -, conv, sw, -⟩ := countReturn_kept n s
  unfold startHandOff
  dsimp only
  rw [conv, sw, hc, hsw]
  rfl

/-- The stake of a start is halted with the hand-off of a removal (R139). -/
def haltedCount (n : Fin 32) (s : State) : State := (onMates n Stake.halt (countReturn n s)).modTap n fun t => { t with limit := 0 }

theorem haltedCount_tap (n) (s : State) : (haltedCount n s).taps[n] =
    { (countReturn n s).taps[n] with limit := 0, stake := (countReturn n s).taps[n].stake.halt } := by
  rw [haltedCount, State.modTap_taps, if_pos rfl, onMates_taps, if_pos (mem_mates_self ..)]

theorem startHandOff_removal_off {n} {s : State} (hsw : s.taps[n].stake.sw = false) (hfb : s.taps[n].stake.slotFb = false) :
    startHandOff n .removal s = (haltedCount n s).modTap n fun t => t.handsOffRemoved false := by
  obtain ⟨-, -, -, sw, fb⟩ := countReturn_kept n s
  have tap := haltedCount_tap n s
  have own : ((haltedCount n s).modTap n fun t => t.handsOffRemoved false).taps[n].stake.slotFb = false := by
    rw [State.modTap_taps, if_pos rfl, tap]
    exact fb.trans hfb
  have shape : startHandOff n .removal s =
      if !false && ((haltedCount n s).modTap n fun t => t.handsOffRemoved false).taps[n].stake.slotFb then
        endHandOff n ((haltedCount n s).modTap n fun t => t.handsOffRemoved false)
      else (haltedCount n s).modTap n fun t => t.handsOffRemoved false := by
    unfold startHandOff
    dsimp only
    rw [sw, hsw, Bool.and_false]
    rfl
  rw [shape, own]
  rfl

end Sys2Proof.Machine
end

/-! ## Insertions and what the scanner senses -/

section
open Sys2Proof.Claims

namespace Sys2Proof.Machine

section
variable {n : Fin 32} {s : State}

/-! ### Removals by their action -/

theorem removal_absents {fb a b v ib} (h : Removes n fb a b v ib s) (hrun : inRun s = false) :
    ∃ t, exec (.removal n ⟨fb, a, b, v, ib⟩) s = .next t ∧ Goes n .absent s t ∧ Stopped n s t ∧ t.taps[n].removed = true ∧
      t.taps[n].pre.armed = false ∧ t.taps[n].chg.armed = false ∧
      (removalOf s.taps[n] = .bypass → t.taps[n].stake.slotByp = true) := by
  have taken := taken_tapOp n v fb s
  obtain ⟨u, hu, absent, byp⟩ := removes_absents (n := n) (act := removalOf s.taps[n]) (was := s.taps[n])
    (s := Machine.taken n v fb s) hrun
  obtain ⟨t, run, follows⟩ := removal_acts h hu absent.op
  obtain ⟨pre, chg⟩ := absent.timers
  have mark := absent.removed
  rw [taken_tap] at mark
  refine ⟨t, run, follows.goes absent.state, follows.stopped (absent.stopped.after taken.mates), ?_, ?_, ?_, fun ha => ?_⟩ <;>
    rw [follows.tap]
  · exact mark
  · exact pre
  · exact chg
  · exact byp ha

theorem taken_faults (v fb) : Faults n .faultOpen s (tapFault n .faultOpen 0 (taken n v fb s)) := by
  have op := taken_tapOp n v fb s
  obtain ⟨kept, cfg, -⟩ := s.taps[n].removes_kept v fb
  obtain ⟨⟨state, -⟩, stopped, last, seq, told, byp⟩ := tapFault_faults n .faultOpen 0 (taken n v fb s)
  exact ⟨⟨state, (op.trans (tapFault_tapOp ..)).frame⟩, stopped.after op.mates, last, seq, told,
    fun hb => byp (by rw [taken_tap, cfg]; exact hb)⟩

theorem Tap.faulted_removed (st cause) (t : Tap) : (t.faulted st cause).removed = t.removed := by
  unfold Tap.faulted
  dsimp only
  split <;> rfl

theorem removal_opens {fb a b v ib} (h : Removes n fb a b v ib s) (hrun : inRun s = true) (hact : removalOf s.taps[n] = .openTap) :
    ∃ t, exec (.removal n ⟨fb, a, b, v, ib⟩) s = .next t ∧ Faults n .faultOpen s t ∧ t.taps[n].removed = true := by
  have opens : removes n (removalOf s.taps[n]) s.taps[n] (taken n v fb s) = tapFault n .faultOpen 0 (taken n v fb s) := by
    rw [hact, removes, show inRun (taken n v fb s) = true from hrun]
    rfl
  obtain ⟨t, run, follows⟩ := removal_acts h opens (tapFault_tapOp ..)
  refine ⟨t, run, follows.faults (taken_faults v fb), ?_⟩
  have tap := tapFault_tap n .faultOpen 0 (taken n v fb s)
  have mark : (tapFault n .faultOpen 0 (taken n v fb s)).taps[n].removed = true := by
    rw [tap, Tap.faulted_removed, taken_tap]
    exact (Tap.removes_kept v fb _).2.2.1
  generalize tapFault n .faultOpen 0 (taken n v fb s) = u at *
  rw [follows.tap]
  exact mark

theorem Tap.removes_switches (v fb) (t : Tap) : (t.removes v fb).stake.conv = t.stake.conv ∧
    (t.removes v fb).stake.sw = t.stake.sw ∧ (t.removes v fb).stake.slotFb = t.stake.slotFb := by
  obtain ⟨-, -, -, stake⟩ := t.removes_kept v fb
  rw [stake]
  exact ⟨rfl, rfl, rfl⟩

theorem removal_standsIn {fb a b v ib} (h : Removes n fb a b v ib s) (hrun : inRun s = true)
    (hact : removalOf s.taps[n] = .standIn) (hw : s.taps[n].stake.withdrawn = false) :
    ∃ t, exec (.removal n ⟨fb, a, b, v, ib⟩) s = .next t ∧ Goes n .standIn s t ∧
      t.taps[n].stake.conv = s.taps[n].stake.conv ∧ t.taps[n].stake.sw = s.taps[n].stake.sw := by
  have enters : removes n (removalOf s.taps[n]) s.taps[n] (taken n v fb s) = toStandIn n (taken n v fb s) := by
    rw [hact, removes, show inRun (taken n v fb s) = true from hrun, hw]
    rfl
  obtain ⟨t, run, follows⟩ := removal_acts h enters (toStandIn_tapOp ..)
  obtain ⟨g, aims, tap⟩ := toStandIn_tap n (taken n v fb s)
  obtain ⟨conv, sw, -⟩ := s.taps[n].removes_switches v fb
  rw [taken_tap] at tap
  refine ⟨t, run, follows.goes ?_, ?_, ?_⟩
  · rw [tap]
    exact (Tap.aim_keeps ..).1
  · rw [follows.tap]
    show (toStandIn n (taken n v fb s)).taps[n].stake.conv = _
    rw [tap, (Tap.aim_stake_keeps ..).1, ← conv]
    rfl
  · rw [follows.tap]
    show (toStandIn n (taken n v fb s)).taps[n].stake.sw = _
    rw [tap, (Tap.aim_stake_keeps ..).2.1, ← sw]
    rfl

theorem removes_bypass {was : Tap} {u : State} (hrun : inRun u = true) (hc : was.stake.conv = true) :
    removes n .bypass was u = startHandOff n .removal u := by
  rw [removes, hrun, hc]
  rfl

theorem removal_handsOff {fb a b v ib} (h : Removes n fb a b v ib s) (hrun : inRun s = true)
    (hact : removalOf s.taps[n] = .bypass) (hc : s.taps[n].stake.conv = true) (hsw : s.taps[n].stake.sw = true) :
    ∃ t, exec (.removal n ⟨fb, a, b, v, ib⟩) s = .next t ∧ Goes n s.taps[n].state s t ∧
      t.taps[n].stake.slotByp = true ∧ t.taps[n].stake.handOff = .removal ∧ t.taps[n].stake.conv = true := by
  have own := taken_tap n v fb s
  obtain ⟨state, -⟩ := s.taps[n].removes_kept v fb
  obtain ⟨conv, sw, -⟩ := s.taps[n].removes_switches v fb
  have begins := startHandOff_removal_on (n := n) (s := taken n v fb s) (by rw [own, conv, hc]) (by rw [own, sw, hsw])
  obtain ⟨op, kstate, kconv, -, -⟩ := countReturn_kept n (taken n v fb s)
  rw [own] at kstate kconv
  obtain ⟨t, run, follows⟩ := removal_acts h (by rw [hact]; exact (removes_bypass (u := taken n v fb s) hrun hc).trans begins)
    (op.trans (.modTap (f := fun t => t.handsOffRemoved t.stake.slotFb)))
  generalize countReturn n (taken n v fb s) = c at *
  have tap := follows.tap
  rw [State.modTap_taps, if_pos rfl] at tap
  refine ⟨t, run, ⟨?_, follows.frame⟩, ?_, ?_, ?_⟩ <;> rw [tap]
  · exact kstate.trans state
  · rfl
  · rfl
  · exact (kconv.trans conv).trans hc

theorem haltedCount_tapOp (n s) : TapOp n s (haltedCount n s) :=
  ((countReturn_kept n s).1.trans (.onMates ..)).trans .modTap

theorem haltedCount_stopped (n s) : Stopped n s (haltedCount n s) := fun m hm => by
  have mates := (countReturn_kept n s).1.mates
  rw [haltedCount, State.modTap_taps]
  split
  · rw [onMates_taps, if_pos (mem_mates_self ..)]
    exact ⟨rfl, rfl⟩
  · rw [onMates_taps, if_pos (by rw [mates]; exact hm)]
    exact ⟨rfl, rfl⟩

theorem removal_halts {fb a b v ib} (h : Removes n fb a b v ib s) (hrun : inRun s = true)
    (hact : removalOf s.taps[n] = .bypass) (hc : s.taps[n].stake.conv = true) (hsw : s.taps[n].stake.sw = false)
    (hfb : s.taps[n].stake.slotFb = false) : ∃ t, exec (.removal n ⟨fb, a, b, v, ib⟩) s = .next t ∧
      Goes n s.taps[n].state s t ∧ Stopped n s t ∧ t.taps[n].stake.slotByp = true ∧ t.taps[n].stake.handOff = .removal := by
  have own := taken_tap n v fb s
  have seen := taken_tapOp n v fb s
  obtain ⟨state, -⟩ := s.taps[n].removes_kept v fb
  obtain ⟨-, sw, feedback⟩ := s.taps[n].removes_switches v fb
  have begins := startHandOff_removal_off (n := n) (s := taken n v fb s) (by rw [own, sw, hsw]) (by rw [own, feedback, hfb])
  obtain ⟨-, kstate, -⟩ := countReturn_kept n (taken n v fb s)
  rw [own] at kstate
  have op := haltedCount_tapOp n (taken n v fb s)
  have stopped := (haltedCount_stopped n (taken n v fb s)).after seen.mates
  have halted := congrArg Tap.state (haltedCount_tap n (taken n v fb s))
  obtain ⟨t, run, follows⟩ := removal_acts h (by rw [hact]; exact (removes_bypass (u := taken n v fb s) hrun hc).trans begins)
    (op.trans (.modTap (f := fun t => t.handsOffRemoved false)))
  generalize haltedCount n (taken n v fb s) = c at *
  have tap := follows.tap
  rw [State.modTap_taps, if_pos rfl] at tap
  refine ⟨t, run, ⟨?_, follows.frame⟩,
    follows.stopped (stopped.of_switches (.modTap (by exact fun _ => ⟨rfl, rfl⟩) _)), ?_, ?_⟩ <;> rw [tap]
  · exact (halted.trans kstate).trans state
  · rfl
  · rfl

theorem removal_stopped {fb a b v ib} (h : Removes n fb a b v ib s) (hrun : inRun s = true)
    (hact : removalOf s.taps[n] = .bypass) (hc : s.taps[n].stake.conv = false) :
    ∃ t, exec (.removal n ⟨fb, a, b, v, ib⟩) s = .next t ∧ Goes n .absent s t ∧ t.taps[n].stake.slotByp = true := by
  have enters : removes n (removalOf s.taps[n]) s.taps[n] (taken n v fb s) =
      (removedToAbsent n (taken n v fb s)).modStake n fun k =>
        { k with slotByp := true, handOff := if k.slotFb then .none else .removal } := by
    rw [hact, removes, show inRun (taken n v fb s) = true from hrun, hc]
    rfl
  have absent := absents_modStake (f := fun k => { k with slotByp := true, handOff := if k.slotFb then .none else .removal })
    (removedToAbsent_absents n (taken n v fb s)) fun _ => ⟨rfl, rfl⟩
  obtain ⟨t, run, follows⟩ := removal_acts h enters absent.op
  refine ⟨t, run, follows.goes absent.state, ?_⟩
  rw [follows.tap, State.modStake_taps, if_pos rfl]

/-! ### Insertions -/

/-- A tap whose slot has taken a block (R140). -/
def Tap.inserts (t : Tap) : Tap :=
  { t with inserted := true, insHeld := true, stake := { t.stake with slotByp := false, iTarget := 0 } }

/-- What an insertion does (R140, R358). -/
def inserts (n : Fin 32) (s : State) : State := if fwUp s n then toDetect n true (s.modTap n Tap.inserts) else s.modTap n Tap.inserts

/-- What the sample of an insertion does (R140). -/
def insertEvent (n : Fin 32) (a b ib : Int) (s : State) : State :=
  if !(decide (s.taps[n].state = .standIn) || (decide (s.taps[n].state = .absent) && s.taps[n].stake.slotByp))
    || !insertionSeen s.taps[n] a b (seenBlk s n ib) then s else inserts n s

theorem insertEvent_due {a b ib} (hst : s.taps[n].state = .standIn) (hseen : insertionSeen s.taps[n] a b (seenBlk s n ib) = true) :
    insertEvent n a b ib s = inserts n s := by
  refine if_neg ?_
  rw [hst, hseen]
  simp

theorem blockInserted_eq {a b ib} : exec (.blockInserted ⟨n, a, b, ib⟩) s = smHw 9 n (insertEvent n a b ib) s := rfl

theorem blockInserted_waits {a b ib} (h : HwActs 9 n s) (hst : s.taps[n].state = .standIn)
    (hseen : insertionSeen s.taps[n] a b (seenBlk s n ib) = true) (hf : fwUp s n = false) :
    ∃ t, exec (.blockInserted ⟨n, a, b, ib⟩) s = .next t ∧ t.taps[n] = s.taps[n].inserts ∧ TapsBut n s t ∧
      t = { s with taps := t.taps } := by
  obtain ⟨hp, hg, hl, hacted⟩ := h
  have waits : inserts n s = s.modTap n Tap.inserts := by
    rw [inserts, hf]
    rfl
  have due := (insertEvent_due hst hseen).trans waits
  have tap : (s.modTap n Tap.inserts).taps[n] = s.taps[n].inserts := by rw [State.modTap_taps, if_pos rfl]
  have still : tapMoved s.taps[n] s.taps[n].inserts = false := by simp [tapMoved, Tap.inserts]
  rw [blockInserted_eq]
  refine tapHw_sets ⟨hp, hg⟩ ?_ ⟨rfl, rfl, rfl, rfl, rfl, rfl⟩
  rw [hl]
  refine (if_neg Bool.false_ne_true).trans ((rankTap_unmoved ?_ hacted).trans due)
  exact (congrArg (fun u : State => tapMoved s.taps[n] u.taps[n]) due).trans (by rw [tap, still])

/-! ### The sensing events -/

theorem waking_wakes {f : State → State} {u : State} (hf : f s = u) (h : ¬Unsensed s.taps[n] u.taps[n]) :
    waking n f s = wakeFor n u := by
  subst hf
  exact if_neg h

theorem wakeFor_outside (n : Fin 32) (s u : State) (h : u.sys = s.sys) : wakeFor n u = { u with sys := (wakeFor n s).sys } := by
  unfold wakeFor
  rw [h]
  split
  · rw [← h]
  · unfold State.modSys
    rw [h]

/-- An event of the scanner: where it shows a change, the island wakes (R21). -/
theorem waking_senses {f : State → State} {u : State} (p : Bool) (hf : f s = u) (hs : u.sys = s.sys)
    (hp : Unsensed s.taps[n] u.taps[n] ↔ p = false) :
    waking n f s = { u with sys := if p then (wakeFor n s).sys else s.sys } := by
  cases p with
  | false =>
    rw [waking_rests (by rw [hf]; exact hp.mpr rfl), hf, if_neg Bool.false_ne_true, ← hs]
  | true =>
    rw [waking_wakes hf (fun h => absurd (hp.mp h) (by decide)), wakeFor_outside n s u hs, if_pos rfl]

/-- What a change of the Kelvin pair's plausibility does (R142). -/
def kelvinEvent (n : Fin 32) (bad : Bool) (v vPair : Int) (s : State) : State :=
  if kelvinOff s.taps[n] v vPair ≠ bad then s else
  let was := s.taps[n].kelvinBad
  let s := s.modTap n fun t => { t with kelvinBad := bad, vKel := v, vPair := vPair }
  if bad && !was then alert 3 3 3 n.val 0 s else s

theorem kelvinBad_eq {bad v vPair} (hv : tapRated v = true) (hp : tapRated vPair = true) :
    exec (.kelvinBad n ⟨bad, v, vPair⟩) s = tapHw n (kelvinEvent n bad v vPair) s :=
  (atVolt_rated hv _ s).trans (atVolt_rated hp _ s)

theorem kelvinBad_shows {v vPair} (ha : Acts n s) (hv : tapRated v = true) (hp : tapRated vPair = true)
    (hoff : kelvinOff s.taps[n] v vPair = true) (hwas : s.taps[n].kelvinBad = false) :
    ∃ t, exec (.kelvinBad n ⟨true, v, vPair⟩) s = .next t ∧
      t.taps[n] = { s.taps[n] with kelvinBad := true, vKel := v, vPair := vPair } ∧ TapsBut n s t ∧
      (planeDown s = false → t.alr.nextSeq = s.alr.nextSeq + 1) ∧
      t = { s with taps := t.taps, alr := t.alr, bus := t.bus, sys := (wakeFor n s).sys } := by
  generalize hu : s.modTap n (fun t => { t with kelvinBad := true, vKel := v, vPair := vPair }) = u
  have tap : u.taps[n] = { s.taps[n] with kelvinBad := true, vKel := v, vPair := vPair } := by
    rw [← hu, State.modTap_taps, if_pos rfl]
  have others : TapsBut n s u := hu ▸ TapsBut.modTap n _ s
  have outside : u = { s with taps := u.taps } := by rw [← hu]; rfl
  have told (hd : planeDown s = false) : (alert 3 3 3 n.val 0 u).alr.nextSeq = s.alr.nextSeq + 1 := by
    rw [alert_nextSeq (by rw [outside]; exact hd), outside]
  have shape := alert_shape 3 3 3 n.val 0 u
  dsimp only at shape
  have acts : kelvinEvent n true v vPair s = alert 3 3 3 n.val 0 u := by
    unfold kelvinEvent
    rw [if_neg (fun h => h hoff)]
    dsimp only
    rw [hwas, hu]
    rfl
  rw [kelvinBad_eq hv hp, tapHw_acts ha]
  generalize alert 3 3 3 n.val 0 u = a at *
  have taps : a.taps = u.taps := by rw [shape]
  have sys : a.sys = s.sys := by rw [shape, outside]
  have senses : Unsensed s.taps[n] a.taps[n] ↔ true = false := by
    rw [taps, tap]
    refine ⟨fun ⟨_, _, _, h, _⟩ => absurd (hwas.symm.trans h) Bool.false_ne_true, fun h => nomatch h⟩
  rw [waking_senses true acts sys senses, if_pos rfl]
  refine ⟨_, rfl, ?_, ?_, told, ?_⟩
  · dsimp only
    rw [taps, tap]
  · exact TapsBut.trans others (.of_taps taps)
  · dsimp only
    rw [shape, outside]

theorem kelvinGood_shows {v vPair} (ha : Acts n s) (hv : tapRated v = true) (hp : tapRated vPair = true)
    (hoff : kelvinOff s.taps[n] v vPair = false) : ∃ t, exec (.kelvinBad n ⟨false, v, vPair⟩) s = .next t ∧
      t.taps[n] = { s.taps[n] with kelvinBad := false, vKel := v, vPair := vPair } ∧ TapsBut n s t ∧
      t = { s with taps := t.taps, sys := if s.taps[n].kelvinBad then (wakeFor n s).sys else s.sys } := by
  generalize hu : s.modTap n (fun t => { t with kelvinBad := false, vKel := v, vPair := vPair }) = u
  have tap : u.taps[n] = { s.taps[n] with kelvinBad := false, vKel := v, vPair := vPair } := by
    rw [← hu, State.modTap_taps, if_pos rfl]
  have others : TapsBut n s u := hu ▸ TapsBut.modTap n _ s
  have outside : u = { s with taps := u.taps } := by rw [← hu]; rfl
  have acts : kelvinEvent n false v vPair s = u := by
    unfold kelvinEvent
    rw [if_neg (fun h => h hoff)]
    exact (if_neg (by simp)).trans hu
  have senses : Unsensed s.taps[n] u.taps[n] ↔ s.taps[n].kelvinBad = false := by
    rw [tap]
    exact ⟨fun ⟨_, _, _, h, _⟩ => h, fun h => ⟨rfl, rfl, rfl, h, rfl, rfl⟩⟩
  rw [kelvinBad_eq hv hp, tapHw_acts ha, waking_senses s.taps[n].kelvinBad acts (by rw [outside]) senses]
  refine ⟨_, rfl, tap, others, ?_⟩
  dsimp only
  rw [outside]

/-- What two fitted NTCs that differ do (R137). -/
def ntcEvent (n : Fin 32) (a b : Int) (s : State) : State :=
  let t := s.taps[n]
  if dwelt s n 10000 ∧ (t.desc.getD .reset).ntcs = 2 ∧ plausible a ∧ plausible b ∧ (150 < a - b ∨ 150 < b - a) then
    alert 3 3 2 n.val 0 (s.modTap n fun t => { t with ntcA := a, ntcB := b, ntcSplit := true }) else s

theorem ntcSplit_shows {a b : Int} (ha : Acts n s) (hf : fwUp s n = true) (hd : dwelt s n 10000 = true)
    (hdesc : s.taps[n].desc = none) (ha0 : -400 ≤ a) (ha1 : a ≤ 1250) (hb0 : -400 ≤ b) (hb1 : b ≤ 1250) (hab : b + 150 < a) :
    ∃ t, exec (.ntcSplit n a b) s = .next t ∧ t.taps[n].ntcSplit = true ∧ t.taps[n].state = s.taps[n].state ∧
      TapsBut n s t ∧ t = { s with
        taps := t.taps, alr := t.alr, bus := t.bus, sys := if s.taps[n].ntcSplit then s.sys else (wakeFor n s).sys } := by
  generalize hu : s.modTap n (fun t => { t with ntcA := a, ntcB := b, ntcSplit := true }) = u
  have tap : u.taps[n] = { s.taps[n] with ntcA := a, ntcB := b, ntcSplit := true } := by
    rw [← hu, State.modTap_taps, if_pos rfl]
  have others : TapsBut n s u := hu ▸ TapsBut.modTap n _ s
  have outside : u = { s with taps := u.taps } := by rw [← hu]; rfl
  have two : (s.taps[n].desc.getD .reset).ntcs = 2 := by
    rw [hdesc]
    rfl
  have acts : ntcEvent n a b s = alert 3 3 2 n.val 0 u := by
    refine (if_pos ⟨hd, two, decide_eq_true ⟨ha0, ha1⟩, decide_eq_true ⟨hb0, hb1⟩, .inl (by omega)⟩).trans ?_
    rw [hu]
  have shape := alert_shape 3 3 2 n.val 0 u
  dsimp only at shape
  have run : exec (.ntcSplit n a b) s = .next (waking n (ntcEvent n a b) s) := tapFw_acts hf ha.2
  generalize alert 3 3 2 n.val 0 u = w at *
  have taps : w.taps = u.taps := by rw [shape]
  have sys : w.sys = s.sys := by rw [shape, outside]
  have senses : Unsensed s.taps[n] w.taps[n] ↔ (!s.taps[n].ntcSplit) = false := by
    rw [taps, tap, Bool.not_eq_false']
    exact ⟨fun ⟨_, _, _, _, h, _⟩ => h, fun h => ⟨rfl, rfl, rfl, rfl, h, rfl⟩⟩
  rw [waking_senses (!s.taps[n].ntcSplit) acts sys senses] at run
  refine ⟨_, run, ?_, ?_, TapsBut.trans others (.of_taps taps), ?_⟩
  · dsimp only
    rw [taps, tap]
  · dsimp only
    rw [taps, tap]
  · dsimp only
    cases s.taps[n].ntcSplit <;> rw [shape, outside] <;> rfl

end

end Sys2Proof.Machine
end

/-! ## Blocks come and go, and senses show -/

section
open Sys2Proof.Claims

namespace Sys2Proof.Machine

section
variable {n : Fin 32} {s : State}

/-! ### A power pair that turns -/

/-- What a power pair that has turned does at a tap that serves itself (R61). -/
def reverseEvent (n : Fin 32) (v : Int) (s : State) : State := turnBack n (s.modTap n fun t => { t with vPair := v, reverse := true })

theorem reverse_eq {v : Int} (ha : Acts n s) (hv : tapRated v = true) (hlow : v < -1000) :
    exec (.reverse n v) s = .next (waking n (reverseEvent n v) s) := by
  obtain ⟨hp, hg⟩ := ha
  show execReverse n v s = _
  unfold execReverse
  dsimp only
  rw [atVolt_rated hv, hp, decide_eq_false (by omega), headTap_self hg]
  rfl

/-- The stake of a turned pair has stopped where it converted or started (R61). -/
structure TurnedBack (n : Fin 32) (s t : State) : Prop where
  tap : t.taps[n] = { s.taps[n] with
    limit := t.taps[n].limit, tracking := t.taps[n].tracking, keepLow := t.taps[n].keepLow, stake := t.taps[n].stake }
  conv : t.taps[n].stake.conv = false
  stops : (s.taps[n].stake.conv = true ∨ s.taps[n].stake.start = .pretest ∨ s.taps[n].stake.start = .prebias) →
    Stopped n s t ∧ t.taps[n].stake.start = .off
  others : TapsButMates n s t
  outside : t = { s with taps := t.taps }

theorem stopStake_outside (n) (s : State) : stopStake n s = { s with taps := (stopStake n s).taps } := by
  apply State.ext_parts <;> simp

theorem turnBack_turned (n s) : TurnedBack n s (turnBack n s) := by
  have shape : turnBack n s = if s.taps[n].stake.conv || decide (s.taps[n].stake.start = .pretest ∨ s.taps[n].stake.start = .prebias)
      then stopStake n s else s := rfl
  rw [shape]
  split
  next =>
    have tap := stopStake_tap n s
    refine ⟨by rw [tap]; rfl, by rw [tap]; rfl, fun _ => ⟨stopStake_stopped n s, by rw [tap]; rfl⟩,
      (stopStake_tapOp n s).frame.1, stopStake_outside n s⟩
  next h =>
    rw [Bool.or_eq_true, decide_eq_true_eq] at h
    exact ⟨rfl, Bool.eq_false_iff.mpr fun hc => h (.inl hc), fun hs => absurd hs h, fun _ _ => rfl, rfl⟩

theorem reverse_shows {v : Int} (ha : Acts n s) (hv : tapRated v = true) (hlow : v < -1000) :
    ∃ t, exec (.reverse n v) s = .next t ∧ t.taps[n].reverse = true ∧ t.taps[n].vPair = v ∧
      t.taps[n].state = s.taps[n].state ∧ t.taps[n].stake.conv = false ∧
      ((s.taps[n].stake.conv = true ∨ s.taps[n].stake.start = .pretest ∨ s.taps[n].stake.start = .prebias) →
        Stopped n s t ∧ t.taps[n].stake.start = .off) ∧ TapsButMates n s t ∧
      t = { s with taps := t.taps, sys := if s.taps[n].reverse then s.sys else (wakeFor n s).sys } := by
  generalize hu : s.modTap n (fun t => { t with vPair := v, reverse := true }) = u
  have own : u.taps[n] = { s.taps[n] with vPair := v, reverse := true } := by rw [← hu, State.modTap_taps, if_pos rfl]
  have seen : TapOp n s u := hu ▸ TapOp.modTap (f := fun t => { t with vPair := v, reverse := true })
  have outside : u = { s with taps := u.taps } := by rw [← hu]; rfl
  have mates := seen.mates
  obtain ⟨tap, conv, stops, others, turned⟩ := turnBack_turned n u
  have acts : reverseEvent n v s = turnBack n u := congrArg (turnBack n) hu
  generalize turnBack n u = w at *
  rw [own] at tap stops
  have senses : Unsensed s.taps[n] w.taps[n] ↔ (!s.taps[n].reverse) = false := by
    rw [tap, Bool.not_eq_false']
    exact ⟨fun ⟨_, _, _, _, _, h⟩ => h, fun h => ⟨rfl, rfl, rfl, rfl, rfl, h⟩⟩
  rw [reverse_eq ha hv hlow, waking_senses (!s.taps[n].reverse) acts (by rw [turned, outside]) senses]
  refine ⟨_, rfl, ?_, ?_, ?_, conv, fun hs => ?_, fun m hm => ?_, ?_⟩
  · dsimp only
    rw [tap]
  · dsimp only
    rw [tap]
  · dsimp only
    rw [tap]
  · obtain ⟨stopped, off⟩ := stops hs
    exact ⟨fun m hm => stopped m (by rw [mates]; exact hm), off⟩
  · exact (others m (by rw [mates]; exact hm)).trans (seen.frame.1 m hm)
  · dsimp only
    cases s.taps[n].reverse <;> rw [turned, outside] <;> rfl

/-! ### A charge by the system -/

/-- A tap that the system charges (R153). -/
def Tap.overcharges (iStr v : Int) (t : Tap) : Tap := { t.sees v with overcharge := overcharged iStr (t.sees v) v }

theorem Tap.overcharges_eq (iStr v : Int) (t : Tap) :
    t.overcharges iStr v = { t.sees v with overcharge := overcharged iStr t v } := by
  unfold Tap.overcharges
  rw [(t.sees_shows v).1]
  rfl

/-- What a charge by the system does (R17, R153). -/
def chargeEvent (n : Fin 32) (v : Int) (s : State) : State :=
  let t := s.taps[n]
  if !charged t || decide (0 ≤ s.sys.iStr) then s else
  let s := (seeV n v s).modTap n fun t => { t with overcharge := overcharged s.sys.iStr t v }
  if t.stake.sw ∧ needAmps s t < 0 then alert 1 3 1 n.val (-needAmps s t) s else s

theorem charge_eq {v : Int} (hv : tapRated v = true) : exec (.chargeFromSystem n v) s = tapHw n (chargeEvent n v) s :=
  atVolt_rated hv _ s

theorem charge_shows {v : Int} (ha : Acts n s) (hv : tapRated v = true)
    (hst : s.taps[n].state = .cv ∨ s.taps[n].state = .done ∨ s.taps[n].state = .topoff) (hsw : s.taps[n].stake.sw = true)
    (hi : s.sys.iStr < 0) : ∃ t, exec (.chargeFromSystem n v) s = .next t ∧
      t.taps[n].overcharge = decide ((effCv s.taps[n] : Int) + 50 * cells s.taps[n] < v) ∧
      kelvin t.taps[n] = v ∧ t.taps[n].stake = s.taps[n].stake ∧ t.taps[n].state = s.taps[n].state ∧
      (needAmps s s.taps[n] < 0 → planeDown s = false → t.alr.nextSeq = s.alr.nextSeq + 1) ∧
      (0 ≤ needAmps s s.taps[n] → t.alr = s.alr) ∧ TapsBut n s t ∧
      t = { s with taps := t.taps, alr := t.alr, bus := t.bus } := by
  have isCharged : charged s.taps[n] = true := decide_eq_true hst
  generalize hu : s.modTap n (Tap.overcharges s.sys.iStr v) = u
  have tap : u.taps[n] = s.taps[n].overcharges s.sys.iStr v := by rw [← hu, State.modTap_taps, if_pos rfl]
  have others : TapsBut n s u := hu ▸ TapsBut.modTap n _ s
  have outside : u = { s with taps := u.taps } := by rw [← hu]; rfl
  have acts : chargeEvent n v s = if needAmps s s.taps[n] < 0 then alert 1 3 1 n.val (-needAmps s s.taps[n]) u else u := by
    have due : (!charged s.taps[n] || decide (0 ≤ s.sys.iStr)) = false := by
      rw [isCharged, decide_eq_false (by omega)]
      rfl
    have marked : ((seeV n v s).modTap n fun t => { t with overcharge := overcharged s.sys.iStr t v }) = u := by
      rw [seeV_eq, modTap_modTap, ← hu]
      rfl
    unfold chargeEvent
    dsimp only
    rw [due, marked, hsw]
    have need : needAmps u s.taps[n] = needAmps s s.taps[n] := by
      unfold needAmps
      rw [outside]
    rw [need]
    simp only [Bool.false_eq_true, if_false, true_and]
  obtain ⟨-, -, stake, state, bad, why⟩ := s.taps[n].sees_kept v
  have shows : u.taps[n].overcharge = decide ((effCv s.taps[n] : Int) + 50 * cells s.taps[n] < v) ∧ kelvin u.taps[n] = v ∧
      u.taps[n].stake = s.taps[n].stake ∧ u.taps[n].state = s.taps[n].state ∧ Unsensed s.taps[n] u.taps[n] := by
    rw [tap, Tap.overcharges_eq]
    refine ⟨?_, (s.taps[n].sees_shows v).2, stake, state, ?_⟩
    · show overcharged s.sys.iStr s.taps[n] v = _
      rw [overcharged, isCharged, decide_eq_true hi]
      rfl
    · rw [(s.taps[n].sees_shows v).1]
      exact ⟨rfl, rfl, rfl, rfl, rfl, rfl⟩
  obtain ⟨over', seen, kept, same, quiet⟩ := shows
  rw [charge_eq hv]
  by_cases hneed : needAmps s s.taps[n] < 0
  · rw [if_pos hneed] at acts
    have shape := alert_shape 1 3 1 n.val (-needAmps s s.taps[n]) u
    dsimp only at shape
    have told (hd : planeDown s = false) : (alert 1 3 1 n.val (-needAmps s s.taps[n]) u).alr.nextSeq = s.alr.nextSeq + 1 := by
      rw [alert_nextSeq (by rw [outside]; exact hd), outside]
    generalize alert 1 3 1 n.val (-needAmps s s.taps[n]) u = w at *
    have taps : w.taps = u.taps := by rw [shape]
    refine ⟨w, tapHw_rests ha acts (by rw [taps]; exact quiet), by rw [taps]; exact over', by rw [taps]; exact seen,
      by rw [taps]; exact kept, by rw [taps]; exact same, fun _ => told, fun h => absurd h (by omega),
      TapsBut.trans others (.of_taps taps), ?_⟩
    rw [shape, outside]
  · rw [if_neg hneed] at acts
    refine ⟨u, tapHw_rests ha acts quiet, over', seen, kept, same, fun h => absurd h hneed, fun _ => by rw [outside], others, ?_⟩
    rw [outside]

end

/-- Settles O49: presence, a removal by its action, an insertion, and the events of the scanner. -/
theorem blocksComeAndGoAndSensesShow : Obligations.BlocksComeAndGoAndSensesShow := by
  unfold Obligations.BlocksComeAndGoAndSensesShow
  refine ⟨fun n s => ⟨fun v hv h hst hc => ?_, fun v hv hc => ?_, fun fb a b v ib h hrun => ?_, fun fb a b v ib h hrun hact => ?_,
      fun fb a b v ib h hrun hact hw => ?_, fun fb a b v ib h hrun hact hc hsw => ?_,
      fun fb a b v ib h hrun hact hc hsw hfb => ?_, fun fb a b v ib hv hno => ?_, fun fb a b v ib h hrun hact hc => ?_,
      fun a b ib h hst hseen hf => ?_, fun a b ib hno => ?_, fun a b ib h hst hseen hf => ?_⟩,
    fun n s ha => ⟨fun bad v vPair hv hp hne => ?_, fun v vPair hv hp hoff hwas => ?_, fun v vPair hv hp hoff => ?_,
      fun a b hf hd hdesc ha0 ha1 hb0 hb1 hab => ?_, fun v hv hlow => ?_, fun v hv hst hsw hi => ?_⟩⟩
  · obtain ⟨t, run, follows⟩ := presence_detects hv h hst hc
    obtain ⟨state, -, new, -, -, -, vKel, vPair, bad, inserted, byp, pre, chg, -⟩ :=
      toDetect_shows n true (s.modTap n (Tap.presents v))
    have own : (s.modTap n (Tap.presents v)).taps[n] = s.taps[n].presents v := by rw [State.modTap_taps, if_pos rfl]
    rw [own] at vKel vPair bad inserted
    have seen : kelvin t.taps[n] = v := by
      have same : kelvin t.taps[n] = kelvin (s.taps[n].sees v) := by
        rw [follows.tap]
        unfold kelvin
        dsimp only
        rw [vKel, vPair, bad]
        rfl
      exact same.trans (s.taps[n].sees_shows v).2
    refine ⟨t, run, follows.goes state, ?_, seen, ?_, ?_, ?_, ?_⟩ <;> rw [follows.tap]
    · exact new
    · exact inserted
    · dsimp only
      rw [pre]
      rfl
    · dsimp only
      rw [chg]
      rfl
    · exact byp
  · have run : exec (.presence n v) s = smFw 2000 n _ s := atVolt_rated hv _ s
    rw [run]
    refine smFw_idle (if_neg ?_)
    rw [decide_eq_false (p := _ ≤ v) (by omega), Bool.and_false]
    exact Bool.false_ne_true
  · exact removal_absents h hrun
  · exact removal_opens h hrun hact
  · exact removal_standsIn h hrun hact hw
  · exact removal_handsOff h hrun hact hc hsw
  · exact removal_halts h hrun hact hc hsw hfb
  · have run : exec (.removal n ⟨fb, a, b, v, ib⟩) s = smHw 5 n _ s := atVolt_rated hv _ s
    rw [run]
    refine smHw_idle (if_neg ?_)
    rw [hno, Bool.and_false]
    exact Bool.false_ne_true
  · exact removal_stopped h hrun hact hc
  · have acts : inserts n s = toDetect n true (s.modTap n Tap.inserts) := if_pos hf
    obtain ⟨t, run, follows⟩ := smHw_acts h ((insertEvent_due hst hseen).trans acts)
      (TapOp.trans (.modTap (f := Tap.inserts)) (toDetect_tapOp ..))
    obtain ⟨state, -, new, -, -, -, -, -, -, -, byp, -⟩ := toDetect_shows n true (s.modTap n Tap.inserts)
    refine ⟨t, run, follows.goes state, ?_, ?_⟩ <;> rw [follows.tap]
    · exact new
    · exact byp
  · refine smHw_idle (if_pos ?_)
    rw [hno]
    simp
  · exact blockInserted_waits h hst hseen hf
  · rw [kelvinBad_eq hv hp]
    exact tapHw_idle (if_pos hne)
  · exact kelvinBad_shows ha hv hp hoff hwas
  · exact kelvinGood_shows ha hv hp hoff
  · exact ntcSplit_shows ha hf hd hdesc ha0 ha1 hb0 hb1 hab
  · exact reverse_shows ha hv hlow
  · exact charge_shows ha hv hst hsw hi

end Sys2Proof.Machine
end

/-! ## DETECT and cupping -/

section
open Sys2Proof.Claims

namespace Sys2Proof.Machine

section
variable {n : Fin 32} {s : State}

/-! ### The end of DETECT -/

/-- A tap in DETECT with the voltages on which it is judged (R143). -/
def Tap.settles (v vPair : Int) (t : Tap) : Tap := { t with vKel := v, vPair := vPair, reverse := decide (vPair < -1000) }

/-- The voltages have settled (R143). -/
def settled (n : Fin 32) (v vPair : Int) (s : State) : State := s.modTap n (Tap.settles v vPair)

theorem settled_tap (n v vPair) (s : State) : (settled n v vPair s).taps[n] = s.taps[n].settles v vPair := by
  rw [settled, State.modTap_taps, if_pos rfl]

theorem settled_tapOp (n v vPair s) : TapOp n s (settled n v vPair s) := .modTap (f := Tap.settles v vPair)

theorem settled_suspends (n v vPair cause s) : Suspends n cause s (suspend n cause (settled n v vPair s)) := by
  have op := settled_tapOp n v vPair s
  obtain ⟨⟨state, -⟩, why, stopped, left⟩ := suspend_suspends n cause (settled n v vPair s)
  rw [settled_tap] at left
  exact ⟨⟨state, (op.trans (suspend_tapOp ..)).frame⟩, why, stopped.after op.mates, left⟩

theorem settled_faults (n v vPair st s) : Faults n st s (tapFault n st 0 (settled n v vPair s)) := by
  have op := settled_tapOp n v vPair s
  obtain ⟨⟨state, -⟩, stopped, last, seq, told, byp⟩ := tapFault_faults n st 0 (settled n v vPair s)
  rw [settled_tap] at byp
  exact ⟨⟨state, (op.trans (tapFault_tapOp ..)).frame⟩, stopped.after op.mates, last, seq, told, byp⟩

theorem leaveDetect_tapOp (n s) : TapOp n s (leaveDetect n s) := by
  unfold leaveDetect
  exact .ite (suspend_tapOp ..) <| .ite (tapFault_tapOp ..) <| .ite (tapFault_tapOp ..) <| .ite (suspend_tapOp ..) <|
    .ite (suspend_tapOp ..) <| .ite (suspend_tapOp ..) <| .ite (enterCharge_tapOp ..) (enterCharge_tapOp ..)

theorem detectSettled_acts {v vPair : Int} (h : FwActs 2000 n s) (hv : tapRated v = true) (hp : tapRated vPair = true)
    (hst : s.taps[n].state = .detect) : ∃ t, exec (.detectSettled n v vPair) s = .next t ∧
      Follows n s (leaveDetect n (settled n v vPair s)) t := by
  have run : exec (.detectSettled n v vPair) s = smDwell 2000 n _ s := (atVolt_rated hv _ s).trans (atVolt_rated hp _ s)
  rw [run]
  exact smDwell_acts h (if_pos hst) ((settled_tapOp ..).trans (leaveDetect_tapOp ..))

/-- The rules of R143 before that of the descriptor do not apply. -/
structure Plugged (t : Tap) : Prop where
  forward : t.reverse = false
  open_ : shortedAt t (kelvin t) t.vPair = false
  below : atOv t (kelvin t) = false

theorem leaveDetect_reversed (h : s.taps[n].reverse = true) : leaveDetect n s = suspend n 11 s := if_pos h

theorem leaveDetect_shorted (hr : s.taps[n].reverse = false)
    (h : shortedAt s.taps[n] (kelvin s.taps[n]) s.taps[n].vPair = true) : leaveDetect n s = tapFault n .faultShort 0 s := by
  unfold leaveDetect
  dsimp only
  rw [hr, h]
  rfl

theorem leaveDetect_over (hr : s.taps[n].reverse = false) (hs : shortedAt s.taps[n] (kelvin s.taps[n]) s.taps[n].vPair = false)
    (h : atOv s.taps[n] (kelvin s.taps[n]) = true) : leaveDetect n s = tapFault n .faultOv 0 s := by
  unfold leaveDetect
  dsimp only
  rw [hr, hs, h]
  rfl

theorem leaveDetect_plugged (h : Plugged s.taps[n]) : leaveDetect n s =
    if s.taps[n].desc.isNone then suspend n 8 s
    else if s.sys.st ≠ .run then suspend n 10 s
    else if s.taps[n].hostStop then suspend n 1 s
    else if (history s n).isNone then enterCharge n .cupping s
    else goByKelvin n s := by
  obtain ⟨forward, open_, below⟩ := h
  unfold leaveDetect
  dsimp only
  rw [forward, open_, below]
  rfl

/-! ### The charge states that follow -/

theorem targets_cupping (s : State) (n : Fin 32) : (targets s n .cupping).2 = 0 := by
  unfold targets
  dsimp only
  cases s.taps[n].desc <;> rfl

theorem enterCharge_cups (h : isHelper s.taps[n] = false) : (enterCharge n .cupping s).taps[n].state = .cupping ∧
    (enterCharge n .cupping s).taps[n].cupT = 0 ∧ (enterCharge n .cupping s).taps[n].stake.iTarget = 0 := by
  have own := helperState_own h .cupping
  refine ⟨(enterCharge_state ..).trans own, ?_⟩
  rw [enterCharge_cupping own, retarget_tap, onMates_taps, if_pos (mem_mates_self ..), State.modTap_taps, if_pos rfl]
  refine ⟨rfl, ?_⟩
  rw [Tap.aim_iTarget]
  exact targets_cupping ..

theorem byKelvin_plain (t : Tap) : (byKelvin t).plain = true := by
  unfold byKelvin
  split
  · rfl
  · split <;> rfl

theorem armFor_bbx (n st) (s : State) : (armFor n st s).bbx = s.bbx := by
  unfold armFor
  split <;> rfl

theorem goByKelvin_shows (h : isHelper s.taps[n] = false) : (goByKelvin n s).taps[n].state = byKelvin s.taps[n] ∧
    (goByKelvin n s).taps[n].cause = 0 ∧ (goByKelvin n s).taps[n].cupDone = s.taps[n].cupDone ∧
    (goByKelvin n s).bbx = s.bbx := by
  have own := helperState_own h (byKelvin s.taps[n])
  have plain : (helperState s.taps[n] (byKelvin s.taps[n])).plain = true := by
    rw [own]
    exact byKelvin_plain _
  obtain ⟨c, g, follows, tap⟩ := enterCharge_plain_tap plain
  refine ⟨(enterCharge_state ..).trans own, ?_, ?_, ?_⟩
  · rw [goByKelvin, tap]
    simp only [Tap.aim_keeps, Tap.arm_keeps, Tap.enters]
  · rw [goByKelvin, tap]
    simp only [Tap.aim_keeps, Tap.arm_keeps, Tap.enters]
  · rw [goByKelvin, enterCharge_plain plain]
    unfold retarget
    exact armFor_bbx ..

/-! ### The rules on the settled voltages -/

theorem settled_history (v vPair) : history (settled n v vPair s) n = history s n := by
  unfold history
  rw [settled_tap]
  rfl

theorem atOv_of {t : Tap} {d} (h : t.desc = some d) (v : Int) : atOv t v = decide (((d.cells * d.ovC : Nat) : Int) ≤ v) := by
  simp only [atOv, h]

section
variable {v vPair : Int} {t : State}

theorem settled_forward (hr : -1000 ≤ vPair) : (settled n v vPair s).taps[n].reverse = false := by
  rw [settled_tap]
  exact decide_eq_false (by omega)

/-- The descriptor's rule of R143, and those after it. -/
theorem settled_plugged (hr : -1000 ≤ vPair)
    (hs : shortedAt (s.taps[n].settles v vPair) (kelvin (s.taps[n].settles v vPair)) vPair = false)
    (hov : atOv (s.taps[n].settles v vPair) (kelvin (s.taps[n].settles v vPair)) = false) :
    Plugged (settled n v vPair s).taps[n] := by
  have forward := settled_forward (n := n) (s := s) (v := v) hr
  rw [settled_tap] at forward ⊢
  exact ⟨forward, hs, hov⟩

/-- The settled voltage of a known block is judged by its descriptor (R143). -/
theorem settled_atOv {d} (hd : s.taps[n].desc = some d) : atOv (s.taps[n].settles v vPair) (kelvin (s.taps[n].settles v vPair)) =
    decide (((d.cells * d.ovC : Nat) : Int) ≤ kelvin (s.taps[n].settles v vPair)) :=
  atOv_of (t := s.taps[n].settles v vPair) hd _

theorem settled_known (hr : -1000 ≤ vPair)
    (hs : shortedAt (s.taps[n].settles v vPair) (kelvin (s.taps[n].settles v vPair)) vPair = false)
    {d} (hd : s.taps[n].desc = some d) (hov : kelvin (s.taps[n].settles v vPair) < ((d.cells * d.ovC : Nat) : Int)) :
    leaveDetect n (settled n v vPair s) =
      if s.sys.st ≠ .run then suspend n 10 (settled n v vPair s)
      else if s.taps[n].hostStop then suspend n 1 (settled n v vPair s)
      else if (history s n).isNone then enterCharge n .cupping (settled n v vPair s)
      else goByKelvin n (settled n v vPair s) := by
  have plugged := settled_plugged hr hs (by rw [settled_atOv hd]; exact decide_eq_false (by omega))
  rw [leaveDetect_plugged plugged, settled_history, settled_tap]
  refine if_neg ?_
  show ¬s.taps[n].desc.isNone = true
  rw [hd]
  exact Bool.false_ne_true

/-! ### What DETECT leads to -/

theorem detect_reversed (follows : Follows n s (leaveDetect n (settled n v vPair s)) t) (hr : vPair < -1000) :
    Suspends n 11 s t := by
  rw [leaveDetect_reversed (by rw [settled_tap]; exact decide_eq_true hr)] at follows
  exact follows.suspends (settled_suspends ..)

theorem detect_shorted (follows : Follows n s (leaveDetect n (settled n v vPair s)) t) (hr : -1000 ≤ vPair)
    (hs : shortedAt (s.taps[n].settles v vPair) (kelvin (s.taps[n].settles v vPair)) vPair = true) : Faults n .faultShort s t := by
  rw [leaveDetect_shorted (settled_forward hr) (by rw [settled_tap]; exact hs)] at follows
  exact follows.faults (settled_faults ..)

section
variable (follows : Follows n s (leaveDetect n (settled n v vPair s)) t) (hr : -1000 ≤ vPair)
  (hs : shortedAt (s.taps[n].settles v vPair) (kelvin (s.taps[n].settles v vPair)) vPair = false)
include follows hr hs

theorem detect_unknown (hd : s.taps[n].desc = none) : Suspends n 8 s t := by
  have below : atOv (s.taps[n].settles v vPair) (kelvin (s.taps[n].settles v vPair)) = false := by
    unfold atOv
    rw [show (s.taps[n].settles v vPair).desc = none from hd]
  have leads : leaveDetect n (settled n v vPair s) = suspend n 8 (settled n v vPair s) := by
    rw [leaveDetect_plugged (settled_plugged hr hs below), settled_tap]
    exact if_pos (congrArg Option.isNone hd)
  rw [leads] at follows
  exact follows.suspends (settled_suspends ..)

section
variable {d : Descriptor} (hd : s.taps[n].desc = some d)
include hd

theorem detect_over (hov : ((d.cells * d.ovC : Nat) : Int) ≤ kelvin (s.taps[n].settles v vPair)) : Faults n .faultOv s t := by
  rw [leaveDetect_over (settled_forward hr) (by rw [settled_tap]; exact hs)
    (by rw [settled_tap, settled_atOv hd]; exact decide_eq_true hov)] at follows
  exact follows.faults (settled_faults ..)

section
variable (hov : kelvin (s.taps[n].settles v vPair) < ((d.cells * d.ovC : Nat) : Int))
include hov

theorem detect_rests (hrun : s.sys.st ≠ .run) : Suspends n 10 s t := by
  rw [settled_known hr hs hd hov, if_pos hrun] at follows
  exact follows.suspends (settled_suspends ..)

section
variable (hrun : s.sys.st = .run)
include hrun

theorem detect_stopped (hstop : s.taps[n].hostStop = true) : Suspends n 1 s t := by
  rw [settled_known hr hs hd hov, if_neg (not_not.mpr hrun), if_pos hstop] at follows
  exact follows.suspends (settled_suspends ..)

section
variable (hstop : s.taps[n].hostStop = false) (hh : isHelper s.taps[n] = false)
include hstop hh

theorem detect_cups (hn : history s n = none) : Goes n .cupping s t ∧ t.taps[n].cupT = 0 ∧ t.taps[n].stake.iTarget = 0 := by
  rw [settled_known hr hs hd hov, if_neg (not_not.mpr hrun), hstop, if_neg Bool.false_ne_true,
    if_pos (Option.isNone_iff_eq_none.mpr hn)] at follows
  obtain ⟨state, pulses, rests⟩ := enterCharge_cups (n := n) (s := settled n v vPair s) (by rw [settled_tap]; exact hh)
  exact ⟨follows.goes state, by rw [follows.tap]; exact pulses, by rw [follows.tap]; exact rests⟩

theorem detect_charges (hn : history s n ≠ none) :
    Goes n (if kelvin (s.taps[n].settles v vPair) < ((d.cells * d.preC : Nat) : Int) then .precharge else .cc) s t ∧
      t.taps[n].cause = 0 := by
  rw [settled_known hr hs hd hov, if_neg (not_not.mpr hrun), hstop, if_neg Bool.false_ne_true,
    if_neg (by rw [Option.isNone_iff_eq_none]; exact hn)] at follows
  obtain ⟨state, cause, -⟩ := goByKelvin_shows (n := n) (s := settled n v vPair s) (by rw [settled_tap]; exact hh)
  rw [settled_tap, byKelvin_of (t := s.taps[n].settles v vPair) hd] at state
  exact ⟨follows.goes state, by rw [follows.tap]; exact cause⟩

end
end
end
end
end
end

end

end Sys2Proof.Machine
end

/-! ## Cupping -/

section
open Sys2Proof.Claims

namespace Sys2Proof.Machine

section
variable {n : Fin 32} {s : State}

/-- A firmware transition that leaves the state of its tap, and what the scanner watches of it. -/
theorem smDwell_sets {ms : Nat} {f : State → State} {g : Tap → Tap} (h : FwActs ms n s) (hf : f s = s.modTap n g)
    (still : tapMoved s.taps[n] (g s.taps[n]) = false) (quiet : Unsensed s.taps[n] (g s.taps[n])) :
    smDwell ms n f s = .next (s.modTap n g) := by
  obtain ⟨hup, hd, hg, hl, hacted⟩ := h
  have tap : (s.modTap n g).taps[n] = g s.taps[n] := by rw [State.modTap_taps, if_pos rfl]
  have free : (if leaving s.taps[n] || !dwelt s n ms then s else rankTap 9 7 n f s) = s.modTap n g := by
    rw [hl, hd]
    exact (rankTap_unmoved (by rw [hf, tap]; exact still) (.inl hacted)).trans hf
  refine (tapFw_acts hup hg).trans ?_
  rw [waking_rests (f := fun s => if leaving s.taps[n] || !dwelt s n ms then s else rankTap 9 7 n f s)
    (by rw [free, tap]; exact quiet), free]

/-! ### The pulses -/

/-- A tap after a boundary of its pulse train (R144, R145). -/
def Tap.pulses (pulse : Bool) (amps : Nat) (r : List Nat) (t : Tap) : Tap :=
  { t with
    cupT := t.cupT + 1, cupOhm := if pulse then t.cupOhm ++ r else t.cupOhm
    cupInt := if pulse then t.cupInt else t.cupInt ++ r
    stake := { t.stake with iTarget := if pulse then amps else 0 } }

/-- The resistance a boundary gives, none with too small a step of the current (R144). -/
def pulseValue (amps : Nat) (dv di : Int) : List Nat :=
  if 0 < di ∧ (amps : Int) ≤ 2 * di then [(dv * 10000 / di).toNat] else []

theorem Tap.pulses_quiet (pulse amps r) (t : Tap) : tapMoved t (t.pulses pulse amps r) = false ∧ Unsensed t (t.pulses pulse amps r) :=
  ⟨by simp [tapMoved, Tap.pulses], rfl, rfl, rfl, rfl, rfl, rfl⟩

/-- What a boundary of the pulse train does (R144, R145). -/
def pulseEvent (n : Fin 32) (dv di : Int) (s : State) : State :=
  let t := s.taps[n]
  if t.state ≠ .cupping ∨ 22 ≤ t.cupT then s else
  s.modTap n fun u => u.pulses (decide (t.cupT % 2 = 0)) (cupAmps u) (pulseValue (cupAmps t) dv di)

theorem cuppingPulse_eq {dv di} : exec (.cuppingPulse n dv di) s = smDwell 0 n (pulseEvent n dv di) s := rfl

theorem cuppingPulse_acts {dv di : Int} {d} (h : FwActs 0 n s) (hst : s.taps[n].state = .cupping) (hd : s.taps[n].desc = some d)
    (hc : s.taps[n].cupT < 22) : ∃ t, exec (.cuppingPulse n dv di) s = .next t ∧
      t.taps[n] = s.taps[n].pulses (decide (s.taps[n].cupT % 2 = 0)) (cupCurrent d) (pulseValue (cupCurrent d) dv di) ∧
      TapsBut n s t ∧ t = { s with taps := t.taps } := by
  have amps : cupAmps s.taps[n] = cupCurrent d := by
    unfold cupAmps
    rw [hd]
    rfl
  obtain ⟨still, quiet⟩ := s.taps[n].pulses_quiet (decide (s.taps[n].cupT % 2 = 0)) (cupAmps s.taps[n])
    (pulseValue (cupAmps s.taps[n]) dv di)
  have due : ¬(s.taps[n].state ≠ .cupping ∨ 22 ≤ s.taps[n].cupT) := by
    rintro (h | h)
    · exact h hst
    · omega
  rw [cuppingPulse_eq, smDwell_sets h (if_neg due) still quiet]
  refine ⟨_, rfl, ?_, .modTap n _ s, rfl⟩
  rw [State.modTap_taps, if_pos rfl, amps]

/-! ### Its end -/

theorem addHist_tapOp (n h s) : TapOp n s (addHist h s) := .of_reports rfl

/-- The record that joins the queue holds what was to be recorded (R127). -/
theorem addHist_queues (h : HistRec) (s : State) : ∃ r, (addHist h s).bbx.queue = s.bbx.queue ++ [.hist r] ∧ r.tap = h.tap ∧
    r.serial = h.serial ∧ r.void = h.void ∧ r.cap = h.cap ∧ r.cup = h.cup :=
  ⟨_, rfl, rfl, rfl, rfl, rfl, rfl⟩

theorem judgeCupping_tapOp (n ocv s) : TapOp n s (judgeCupping n ocv s) := by
  unfold judgeCupping
  dsimp only
  split
  · exact .refl ..
  · refine .ite .modTap (.ite (suspend_tapOp ..) ?_)
    exact (TapOp.trans (addHist_tapOp ..) .modTap).trans (enterCharge_tapOp ..)

theorem cuppingEnd_acts {ocv : Nat} (h : FwActs 0 n s) (hst : s.taps[n].state = .cupping) (ho : tapRated ocv = true)
    (hc : 22 ≤ s.taps[n].cupT) : ∃ t, exec (.cuppingEnd n ocv) s = .next t ∧ Follows n s (judgeCupping n ocv s) t := by
  have run : exec (.cuppingEnd n ocv) s = smDwell 0 n _ s := atVolt_rated ho _ s
  rw [run]
  exact smDwell_acts h (if_pos ⟨hst, hc⟩) (judgeCupping_tapOp ..)

/-- The tap whose pulse train begins anew (R145). -/
def Tap.cupsAgain (t : Tap) : Tap := { t with cupT := 0, cupOhm := [], cupInt := [], stake := { t.stake with iTarget := 0 } }

/-- The history record that a cupping leaves (R128, R145). -/
def cupRecord (n : Fin 32) (d : Descriptor) (ocv : Nat) (s : State) : HistRec :=
  { tap := n.val, serial := d.serial, cup := some (median s.taps[n].cupInt, median s.taps[n].cupOhm, ocv), cupTime := s.stamp }

/-- A cupping that passes: its record is queued, and the charge begins (R145). -/
def cupped (n : Fin 32) (h : HistRec) (s : State) : State := goByKelvin n ((addHist h s).modTap n fun t => { t with cupDone := true })

theorem judgeCupping_eq {ocv : Nat} {d} (hd : s.taps[n].desc = some d) : judgeCupping n ocv s =
    if s.taps[n].cupOhm.length < 6 ∨ s.taps[n].cupInt.length < 6 then s.modTap n Tap.cupsAgain
    else if d.rMaxV < median s.taps[n].cupInt ∨ median s.taps[n].cupInt < d.cells * 5 ∨ median s.taps[n].cupOhm < d.cells * 5 then
      suspend n 7 s
    else cupped n (cupRecord n d ocv s) s := by
  unfold judgeCupping
  dsimp only
  rw [hd]
  rfl

section
variable {ocv : Nat} {d : Descriptor} {t : State} (hd : s.taps[n].desc = some d) (follows : Follows n s (judgeCupping n ocv s) t)
include hd follows

theorem cupping_again (hst : s.taps[n].state = .cupping) (hl : s.taps[n].cupOhm.length < 6 ∨ s.taps[n].cupInt.length < 6) :
    Goes n .cupping s t ∧ t.taps[n].cupT = 0 ∧ t.taps[n].cupOhm = [] ∧ t.taps[n].cupInt = [] ∧ t.bbx = s.bbx := by
  rw [judgeCupping_eq hd, if_pos hl] at follows
  have tap : (s.modTap n Tap.cupsAgain).taps[n] = s.taps[n].cupsAgain := by rw [State.modTap_taps, if_pos rfl]
  refine ⟨follows.goes (by rw [tap]; exact hst), ?_, ?_, ?_, follows.bbx⟩ <;> rw [follows.tap, tap] <;> rfl

section
variable (ho : 6 ≤ s.taps[n].cupOhm.length) (hi : 6 ≤ s.taps[n].cupInt.length)
include ho hi

theorem cupping_fails (hbad : d.rMaxV < median s.taps[n].cupInt ∨ median s.taps[n].cupInt < d.cells * 5 ∨
    median s.taps[n].cupOhm < d.cells * 5) : Suspends n 7 s t := by
  rw [judgeCupping_eq hd, if_neg (by omega), if_pos hbad] at follows
  exact follows.suspends (suspend_suspends ..)

theorem cupping_passes (hmax : median s.taps[n].cupInt ≤ d.rMaxV) (hint : d.cells * 5 ≤ median s.taps[n].cupInt)
    (hohm : d.cells * 5 ≤ median s.taps[n].cupOhm) (hh : isHelper s.taps[n] = false) :
    ∃ h, t.bbx.queue = s.bbx.queue ++ [.hist h] ∧
      Goes n (if kelvin s.taps[n] < ((d.cells * d.preC : Nat) : Int) then .precharge else .cc) s t ∧
      t.taps[n].cupDone = true ∧ h.tap = n.val ∧ h.serial = d.serial ∧ h.void = false ∧ h.cap = none ∧
      h.cup = some (median s.taps[n].cupInt, median s.taps[n].cupOhm, ocv) := by
  rw [judgeCupping_eq hd, if_neg (by omega), if_neg (by omega), cupped] at follows
  generalize hu : (addHist (cupRecord n d ocv s) s).modTap n (fun t => { t with cupDone := true }) = u at follows
  have tap : u.taps[n] = { s.taps[n] with cupDone := true } := by
    rw [← hu, State.modTap_taps, if_pos rfl]
    rfl
  have bbx : u.bbx = (addHist (cupRecord n d ocv s) s).bbx := by rw [← hu, State.modTap_bbx]
  have isOwn : isHelper u.taps[n] = false := by
    rw [tap]
    exact hh
  obtain ⟨state, -, done, queued⟩ := goByKelvin_shows isOwn
  rw [tap] at state done
  rw [byKelvin_of (t := { s.taps[n] with cupDone := true }) hd] at state
  obtain ⟨r, last, writes⟩ := addHist_queues (cupRecord n d ocv s) s
  exact ⟨r, by rw [follows.bbx, queued, bbx, last], follows.goes state, by rw [follows.tap]; exact done, writes⟩

end
end
end

/-- Settles O50: DETECT ends by the rules of R143 in their order, and cupping by the medians of its pulses. -/
theorem detectAndCuppingJudgeTheBlock : Obligations.DetectAndCuppingJudgeTheBlock := by
  unfold Obligations.DetectAndCuppingJudgeTheBlock
  refine ⟨fun n v vPair s h hv hp hst => ?_, fun n s h hst d hd => ⟨fun dv di hc heven hdi hamps => ?_,
    fun dv di hc hodd hsmall => ?_, fun ocv ho hc => ?_, fun ocv ho hc hl => ?_, fun ocv ho hc hlo hli hbad => ?_,
    fun ocv ho hc hlo hli hmax hint hohm hh => ?_⟩⟩
  · obtain ⟨t, run, follows⟩ := detectSettled_acts h hv hp hst
    exact ⟨t, run, detect_reversed follows, detect_shorted follows, fun hr hs =>
      ⟨fun d hd => detect_over follows hr hs hd, detect_unknown follows hr hs, fun d hd hov =>
        ⟨detect_rests follows hr hs hd hov, detect_stopped follows hr hs hd hov, fun hrun hstop hh =>
          ⟨detect_cups follows hr hs hd hov hrun hstop hh, detect_charges follows hr hs hd hov hrun hstop hh⟩⟩⟩⟩
  · obtain ⟨t, run, tap, others, outside⟩ := cuppingPulse_acts (dv := dv) (di := di) h hst hd hc
    have value : pulseValue (cupCurrent d) dv di = [(dv * 10000 / di).toNat] := if_pos ⟨hdi, hamps⟩
    rw [heven, value] at tap
    refine ⟨t, run, ?_, ?_, ?_, ?_, others, outside⟩ <;> rw [tap] <;> rfl
  · obtain ⟨t, run, tap, others, outside⟩ := cuppingPulse_acts (dv := dv) (di := di) h hst hd hc
    have value : pulseValue (cupCurrent d) dv di = [] := if_neg fun ⟨hpos, henough⟩ => by
      unfold cupCurrent at henough
      omega
    rw [hodd, value] at tap
    refine ⟨t, run, ?_, ?_, ?_, ?_, others, outside⟩ <;> rw [tap]
    · rfl
    · rfl
    · exact List.append_nil _
    · rfl
  · have run : exec (.cuppingEnd n ocv) s = smDwell 0 n _ s := atVolt_rated ho _ s
    rw [run]
    exact smDwell_idle (if_neg fun ⟨_, h⟩ => by omega)
  · obtain ⟨t, run, follows⟩ := cuppingEnd_acts h hst ho hc
    exact ⟨t, run, cupping_again hd follows hst hl⟩
  · obtain ⟨t, run, follows⟩ := cuppingEnd_acts h hst ho hc
    exact ⟨t, run, cupping_fails hd follows hlo hli hbad⟩
  · obtain ⟨t, run, follows⟩ := cuppingEnd_acts h hst ho hc
    obtain ⟨r, shows⟩ := cupping_passes hd follows hlo hli hmax hint hohm hh
    exact ⟨t, r, run, shows⟩

end Sys2Proof.Machine
end
